-- ==== Sys2Proof/Word.lean ====
section
/-!
DEFINITION. Word.lean: the byte and word types of the spec (00_scope.md R9, R11).
-/
namespace Sys2Proof

/-- One byte of a frame, message or record. -/
abbrev Byte := BitVec 8

/-- A 32-bit register word (R11) or a binary32 value. -/
abbrev Word := BitVec 32

end Sys2Proof
end

