-- ==== Sys2Proof/Syntax.lean ====
section
/-!
DEFINITION. Syntax.lean: the commands of the block, one constructor of `Instr` for each row of
spec/opcode_table.json. The table gives its rows no bits and no operands; the operands here are what the rule of each
row says the command carries (log 1). Each step is whole and indivisible (95_what_each_step_holds.md).
-/
namespace Sys2Proof

/-- The four synthesizers (R90 to R124). -/
inductive Pll where
  | a | c | s | t
  deriving DecidableEq, Repr

/-- The two clock multiplexers (R107, R123). -/
inductive Mux where
  | can | ckout
  deriving DecidableEq, Repr

/-- The three events of a carrier (R230). -/
inductive CarEvt where
  | zero | period | cmp
  deriving DecidableEq, Repr

/-- The data set of a received Announce message, as the best-master comparison orders it (R132). -/
structure Announce where
  domain : Nat
  source : Nat
  priority1 : Nat
  clockClass : Nat
  accuracy : Nat
  variance : Nat
  priority2 : Nat
  grandmaster : Nat
  steps : Nat
  ptpTimescale : Bool
  logSync : Int
  utcOffset : Int
  leap61 : Bool
  leap59 : Bool
  deriving DecidableEq, Repr

/-- A received PTP frame with its receive stamp in ticks (R132). Times are seconds and nanoseconds; corrections are in
2^-16 ns. -/
inductive PtpMessage where
  /-- A frame whose check sequence fails (R385). -/
  | badFcs
  | announce (a : Announce)
  | sync (domain source seq : Nat) (twoStep : Bool) (rx sec ns : Nat) (corr : Int)
  | followUp (domain source seq sec ns : Nat) (corr : Int)
  | pdelayReq (domain source seq rx : Nat)
  | pdelayResp (domain source seq : Nat) (twoStep : Bool) (rx sec ns : Nat) (corr : Int)
  | pdelayRespFollowUp (domain source seq sec ns : Nat) (corr : Int)
  /-- A management message or another type, which is ignored. -/
  | other
  deriving DecidableEq, Repr

/-- An IEEE 1149.1 instruction loaded through the test port (R520). -/
inductive TapInstr where
  | bypass | idcode | sample | extest | clamp | highz | dbgToken | dbgStat
  deriving DecidableEq, Repr

/-- A report as it reaches the collector (R434): block 1 to 16, source index, instance, and its two flags. -/
structure ReportArg where
  block : Nat
  src : Nat
  inst : Nat
  observed : Bool
  injected : Bool
  deriving DecidableEq, Repr

/-- A fault that self-test finds in an SRAM macro (R502, R503): the macro, and the row, the column or both that it lies in. -/
structure MacroFault where
  macroNo : Nat
  row : Option Nat
  col : Option Nat
  deriving DecidableEq, Repr

/-- The findings of the built-in self-test (R501): bad tiles, cell serializers by pad pair, spare serializers by quad and spine
lanes, as masks, and the macro faults. -/
structure BistFindings where
  tiles : BitVec 36
  pads : BitVec 64
  spares : BitVec 16
  spine : BitVec 4
  macros : List MacroFault
  deriving DecidableEq, Repr

/-- A completed USDO transfer (R535): the client, the network and node it names, the entry, and the bytes of a
download (none for an upload). -/
structure UsdoRequest where
  client : Nat
  net : Nat
  node : Nat
  index : Nat
  sub : Nat
  data : Option (List Byte)
  deriving DecidableEq, Repr


/-- The code groups of a set on a cell lane, as they arrive at the pins, and the running disparity before them (R155). -/
structure Received where
  rd : Bool
  groups : List Nat
  deriving DecidableEq, Repr

/-- What a receiver reads outside a whole frame, set or message: on a cell lane a code group, the running disparity before it, and the bit position at which it
lies (R155); on a spine lane the 33 PAM4 levels of a block, with the level and the 58 scrambled bits before them (R411, R412). -/
inductive RxCode where
  | cell (n : Fin 64) (rd : Bool) (g : Nat) (place : Fin 10)
  | spine (i : Fin 4) (prev scr : Nat) (levels : List Nat)
  deriving DecidableEq, Repr

/-- What has passed through a lane in TEST since the last command that says so (R175, R176, R429): how many bits its generator has had the time to send, and what
its receive pair has given, bits of a cell lane or levels of a spine lane. -/
structure TestPass where
  lane : Fin 68
  sent : Nat
  received : List Nat
  deriving DecidableEq, Repr

/-- The signal at the modulators under which R376 gives figures, or another; a step by its age at the report instant in µs, negative before it, and the phasors
before it. -/
inductive Signal where
  | steady
  | harmonics
  | outOfBand
  | modulation
  | ramp
  | step (us : Int) (before : List (Nat × Nat))
  | other
  deriving DecidableEq, Repr

/-- What is applied at a report instant (R376): for each of the channels SDD0 to SDD23 the RMS phasor of x (R366), real and imaginary part in binary32, and
the frequency and the ROCOF in binary32. -/
structure Applied where
  signal : Signal := .other
  phasors : List (Nat × Nat) := []
  freq : Nat := 0
  rocof : Nat := 0
  deriving DecidableEq, Repr

/-- The commands of the block: one constructor for each row of spec/opcode_table.json. Those with operands come first, so that compiled code
can build every one of them; both parts keep the order of the table. An operand with a default is a level or a signal at a pin that the command finds there. -/
inductive Instr where
  /-- LEAVE_STANDBY (R59): With a wake event kept and PRSNT, nEJECT and nRESET all allowing it, the device raises PWREN and starts the rail-good timer. -/
  | leaveStandby (nEject : Bool := true)
  /-- ENTER_COLD_HOLD (R54): All four PGOOD inputs have been high together for 1 ms, so the device enters Cold hold and starts its 20 ms timer. -/
  | enterColdHold (vio : Nat)
  /-- PGOOD_LOST (R55): A PGOOD input falls for more than 250 ns outside Standby, so the device latches cause 0x01 and sends Black sets. -/
  | pgoodLost (low : Fin 16)
  /-- REFERENCE_WINDOW_DONE (R105): The first CKREF frequency window after blanking ends, and then either cause 0x04 is taken or the PLLs are started. -/
  | referenceWindowDone (pass : Bool)
  /-- PLL_LOCK_DECLARED (R105): A PLL declares lock, and when all four are locked the core clock is released. -/
  | pllLockDeclared (p : Pll) (qualUs : Nat) (straps : Fin 128)
  /-- PLL_A_LOCK_LOST (R117): PLL-A loses lock, so the lanes switch to the safe-state generator, the core domains are gated and cause 0x05 is latched. -/
  | pllALockLost (pin : Bool := false)
  /-- PLL_RELOCK_ATTEMPT (R116): Every 10 ms, a PLL that relocks in place makes an attempt of up to 2 ms with its dividers stopped. -/
  | pllRelockAttempt (p : Pll)
  /-- MUX_SELECT_WRITE (R107): A write of SEL to a clock multiplexer starts a glitch-free switch, retargets it, or cancels it. -/
  | muxSelectWrite (m : Mux) (sel : Nat)
  /-- MUX_SWITCH_COMPLETE (R107): The new clock is enabled, so BUSY clears and CURRENT updates. -/
  | muxSwitchComplete (m : Mux)
  /-- MUX_HANG (R108): BUSY has been set for 2 µs, so the Amber mux-hang fault is raised. -/
  | muxHang (m : Mux)
  /-- MUX_FORCE (R110): A FORCE write switches a multiplexer asynchronously when its consumers are idle, and sets FORCE_REFUSED otherwise. -/
  | muxForce (m : Mux)
  /-- CONSUMER_IDLE_WRITE (R110): A write of CONSUMER_IDLE holds the CAN controller in reset with TXD recessive, or releases it from reset. -/
  | consumerIdleWrite (v : Bool)
  /-- SPREAD_ENABLE_WRITE (R94): A write to CLK_SPREAD that sets EN is accepted only under the conditions of R94, and sets SETTING_REFUSED otherwise. -/
  | spreadEnableWrite (v : Word)
  /-- TSC_LO_READ (R126): A read of TS_TSC_LO latches bits 63:32 of the same TSC value into TS_TSC_HI. -/
  | tscLoRead (host : Bool)
  /-- PTP_MESSAGE_RX (R132): A PTP frame is received and timestamped, and it feeds the best-master comparison or a reference sample. -/
  | ptpMessageRx (m : PtpMessage)
  /-- PPS_EDGE (R133): A rising edge on PPS is sampled and labelled, or it is ignored as a stray edge or for a missing time of second. -/
  | ppsEdge (frac : Nat)
  /-- PPS_LABEL_WRITE (R134): The host writes the TAI second of the next PPS edge to 0x2022:01. -/
  | ppsLabelWrite (v : Nat)
  /-- TEMPERATURE_TABLE_CLEAR (R138): A write of 1 to 0x2024:11 clears the holdover temperature table. -/
  | temperatureTableClear (v : Nat)
  /-- GROUP_TIME_MESSAGE (R424): A group time message is received; it is forwarded with its correction updated, or used to steer the Member's group time. -/
  | groupTimeMessage (i : Fin 4) (bs : List Byte)
  /-- ADOPT_GROUP_EPOCH (R148): A write of 1 to 0x2023:01 makes a Member adopt the new group epoch. -/
  | adoptGroupEpoch (v : Nat)
  /-- DELAY_EXCHANGE_REQUEST (R424): Every 64 frames, a spine lane in UP sends a delay-exchange request. -/
  | delayExchangeRequest (i : Fin 4)
  /-- DELAY_EXCHANGE_BLOCK (R424): A delay-exchange block is received; a request is noted, or the lane's hop delay is computed from a response. -/
  | delayExchangeBlock (i : Fin 4) (bs : List Byte)
  /-- DELAY_EXCHANGE_RESPONSE (R424): At the first block boundary at least 64 ticks after a request, the responder sends its block stating its residence time. -/
  | delayExchangeResponse (i : Fin 4)
  /-- LANE_ENABLE (R162): A cell lane is enabled and starts bring-up. -/
  | laneEnable (n : Fin 64)
  /-- LANE_DISABLE (R162): A cell lane is disabled and goes OFF, in electrical idle. -/
  | laneDisable (n : Fin 64)
  /-- LANE_SIGNAL_DETECT (R163): The receive amplitude has stayed above threshold for 1 µs, which passes step 1 of the attempt. -/
  | laneSignalDetect (n : Fin 64)
  /-- LANE_CDR_LOCK (R163): The lane's CDR locks, which passes step 2 of the attempt. -/
  | laneCdrLock (n : Fin 64)
  /-- TRAINING_SET_RX (R163): A training set is received and advances alignment, polarity, the map check or the exchange. -/
  | trainingSetRx (pad : Fin 64) (place : Fin 10) (rd : Bool) (gs : List Nat)
  /-- ATTEMPT_TIMEOUT (R163): A 2 ms bring-up attempt expires, so FAIL_STAGE is recorded and the lane enters BACKOFF, or ABSENT after 16 attempts. -/
  | attemptTimeout (n : Fin 64)
  /-- BACKOFF_END (R165): The BACKOFF wait ends and the next attempt starts. -/
  | backoffEnd (n : Fin 64)
  /-- ABSENT_RETRY (R166): 1 s after a failed attempt in ABSENT, the lane makes another attempt. -/
  | absentRetry (n : Fin 64)
  /-- ATTEMPT_SIGNAL_LOST (R167): SIGNAL falls for 32 ns during an attempt, which ends the attempt with FAIL_STAGE 7. -/
  | attemptSignalLost (n : Fin 68)
  /-- RETRAIN (R168): A write of 1 to RETRAIN ends a BACKOFF or ABSENT wait and starts attempt 1. -/
  | retrain (n : Fin 64)
  /-- LANE_LOST (R170): A lane in UP loses signal, CDR lock or code integrity, so it sets LOST, reports the loss and restarts at attempt 1. -/
  | laneLost (n : Fin 64)
  /-- QUAD_MAP_MODE_WRITE (R161): An accepted write that changes MAP_MODE sets MAP and restarts every enabled lane of the quad. -/
  | quadMapModeWrite (q : Fin 16) (v : Nat)
  /-- SPARE_SEL_WRITE (R173): A write of SPARE_SEL moves the quad's spare serializer when allowed, and sets SETTING_REFUSED otherwise. -/
  | spareSelWrite (q : Fin 16) (v : Nat)
  /-- SPARE_CALIBRATED (R174): The spare has calibrated for 20 µs, so each affected lane starts at attempt 1. -/
  | spareCalibrated (q : Fin 16)
  /-- LANE_TEST_START (R179): A write that sets a test field in Configure puts the lane in TEST. -/
  | laneTestStart (n : Fin 64) (v : Word)
  /-- LANE_TEST_STOP (R179): A write that clears every test field, or the exit from Configure, returns the lane to bring-up at attempt 1. -/
  | laneTestStop (n : Fin 64)
  /-- INJ_ONE (R177): A write of 1 to INJ_ONE inverts one transmitted bit at the next character boundary. -/
  | injOne (n : Fin 68)
  /-- PRBS_LOCK (R176): The checker sees 64 consecutive matching bits and sets PRBS_LOCK. -/
  | prbsLock (x : TestPass)
  /-- PRBS_LOSS (R176): 64 or more of 1,024 bits are in error, so the checker clears PRBS_LOCK, sets PRBS_LOSS and reseeds. -/
  | prbsLoss (n : Fin 68) (sent : Nat) (l : List Nat)
  /-- PRBS_BITS_LO_READ (R176): A read of the low PRBS bit count latches its upper bits. -/
  | prbsBitsLoRead (n : Fin 68) (host : Bool) (sent : Nat) (l : List Nat)
  /-- LANE_CNT_CLR (R183): CNT_CLR clears LN_CODEERR, LN_COUNTS and the PRBS counts. -/
  | laneCntClr (n : Fin 68)
  /-- DOWNSTREAM_FRAME_SEND (R192): At each slot boundary, a lane in UP sends the downstream frame with its control fields, levels and edges. -/
  | downstreamFrameSend (n : Fin 64)
  /-- EDGE_HANDOVER (R237): The modulation engine hands a computed edge set for a frame to the Limisk engine. -/
  | edgeHandover (n : Fin 64)
  /-- UPSTREAM_FRAME_RX (R201): An upstream frame completes; it is checked and its fields feed the cell's inputs, supervision, the balancer and the link state. -/
  | upstreamFrameRx (n : Fin 64) (onSlot : Bool) (rt : Nat) (rd : Bool) (gs : List Nat)
  /-- UPSTREAM_FRAME_MISSING (R202): No complete upstream frame arrives by the end of its slot, which counts as an invalid frame. -/
  | upstreamFrameMissing (n : Fin 64)
  /-- LANE_DELAY_UPDATE (R190): Every 64 frames, the mean round trip is shown in RTT and D is formed. -/
  | laneDelayUpdate (n : Fin 64)
  /-- LANE_DELAY_APPLY (R190): A new D applies from the next frame boundary. -/
  | laneDelayApply (n : Fin 64)
  /-- URGENT_SET_SEND (R204): A requested Black or targeted set is sent at the next character boundary, and the frame is cut when it no longer fits. -/
  | urgentSetSend (n : Fin 64)
  /-- PARAM_WRITE (R215): An access started with GO and WRITE = 1 writes a head parameter, repeated until it is echoed. -/
  | paramWrite (n : Fin 64) (addr : Byte) (v : Nat)
  /-- PARAM_READ (R215): An access started with GO and WRITE = 0 reads a head parameter, completing at its echo. -/
  | paramRead (n : Fin 64) (addr : Byte)
  /-- PARAM_TIMEOUT (R215): 16 frames pass without the echo, so the access fails and PARAM_FAIL is set. -/
  | paramTimeout (n : Fin 64)
  /-- DESC_FETCH (R220): A write of DESC_FETCH fetches and verifies the descriptor again. -/
  | descFetch (n : Fin 64)
  /-- DESCRIPTOR_VERIFIED (R217): The security engine completes a descriptor verification, and the lane is admitted or refused. -/
  | descriptorVerified (n : Fin 64)
  /-- DESCRIPTOR_TIMEOUT (R219): The descriptor is not complete within 4,096 frames, which gives result 7. -/
  | descriptorTimeout (n : Fin 64)
  /-- LINK_CNT_CLR (R223): CNT_CLR in LKN_CTRL clears LKN_COUNTS. -/
  | linkCntClr (n : Fin 64)
  /-- CARRIER_ENABLE (R228): EN written to 1 commits the carrier's shadows and schedules its first ZERO. -/
  | carrierEnable (k : Fin 64)
  /-- CARRIER_DISABLE (R228): EN written to 0 stops the carrier from opening further periods. -/
  | carrierDisable (k : Fin 64)
  /-- CARRIER_EVENT (R230): A carrier reaches ZERO, PERIOD or CMP, which can commit shadows, run the trigger prescaler and measure delays. -/
  | carrierEvent (k : Fin 64) (e : CarEvt)
  /-- PERIOD_OPENING (R237): At tick 862, two frames ahead, the next period is opened and its values are latched. -/
  | periodOpening (k : Fin 64)
  /-- GROUP_COMMIT_WRITE (R236): A write of group bits to MOD_COMMIT requests a commit of those groups. -/
  | groupCommitWrite (v : Nat)
  /-- TRIP_ACTIVE (R246): A trip input becomes active after its filter, so it counts a trip and takes the trip action. -/
  | tripActive (i : Fin 8)
  /-- TRIP_INACTIVE (R246): A trip input becomes inactive after its filter. -/
  | tripInactive (i : Fin 8)
  /-- TRIP_REARM (R246): After REARM µs inactive, CNT returns to 0. -/
  | tripRearm (i : Fin 8)
  /-- TRIP_CLR (R250): A write of 1 to CLR sets CLR_PENDING, or is refused while TRIPACT is 1. -/
  | tripClr (i : Fin 8)
  /-- TRIP_CLEAR_COMPLETE (R250): The input stays inactive for FILT cycles after the CLR, so the latch and CNT clear. -/
  | tripClearComplete (i : Fin 8)
  /-- SCARLET_SET_RX (R261): A Scarlet set is recognised, so the supervisor decides a sequence, a Black set or an isolation. -/
  | scarletSetRx (n : Fin 64) (r : Received)
  /-- PARTNER_DELAY_EXPIRY (R261): The PARTNER_DELAY timer expires, so a Black set is requested and the cell enters ISOLATED. -/
  | partnerDelayExpiry (n : Fin 64)
  /-- CELL_CLEAR (R277): A clear of an isolated cell is accepted and starts CLEARING, or is refused. -/
  | cellClear (n : Fin 64)
  /-- CLEAR_TIMEOUT (R277): 16 frames pass without a return to MONITOR, so the clear fails. -/
  | clearTimeout (n : Fin 64)
  /-- RESERVE_OPEN (R288): A cold string below N_REQ opens one usable reserve cell, one per core cycle. -/
  | reserveOpen (t : Fin 8)
  /-- BYPASS_TIMEOUT (R290): A bypass is not open or closed within its limit, so the cell is FAILED and OPEN_FAIL or CLOSE_FAIL is raised. -/
  | bypassTimeout (n : Fin 64)
  /-- INSERT (R293): An INSERT command opens a usable PARKED cell in Run. -/
  | insert (n : Fin 64)
  /-- PARK (R293): A PARK command closes and holds out a cell. -/
  | park (n : Fin 64)
  /-- SORT_COMPLETE (R295): A string sort leaves the network after 21 core cycles. -/
  | sortComplete (t : Fin 8)
  /-- HEARTBEAT_RX (R300): A heartbeat message arrives and is validated; it updates roles, shared states, releases and the configuration comparison. -/
  | heartbeatRx (bs : List Byte)
  /-- CELL_RECLAIM (R302): After 64 frames of its lane ADMITTED, a device reclaims a split cell. -/
  | cellReclaim (n : Fin 64)
  /-- CONTEXT_TRIGGER (R312): A context trigger reaches the core domain and is dropped, starts a sample, or overruns. -/
  | contextTrigger (k : Fin 128)
  /-- PROGRAM_RELEASE (R317): The program ends and applies its staged leg writes, commits and state writes. -/
  | programRelease (k : Fin 128)
  /-- SOFT_TRIG (R312): A write of SOFT_TRIG fires a trigger. -/
  | softTrig (k : Fin 128)
  /-- CONTEXT_RESTART (R323): RESTART returns a STOPPED context to IDLE, or is refused. -/
  | contextRestart (k : Fin 128)
  /-- CONTEXT_ENABLE (R315): EN written to 1 takes the context to IDLE after the checks of R318 and R325. -/
  | contextEnable (k : Fin 128)
  /-- CONTEXT_DISABLE (R315): EN written to 0 takes the context to OFF. -/
  | contextDisable (k : Fin 128)
  /-- BANK_SWAP_REQUEST (R326): A swap request targets the bank other than the active one. -/
  | bankSwapRequest (k : Fin 128)
  /-- BANK_A_REQUEST (R326): A request targets bank A. -/
  | bankARequest (k : Fin 128)
  /-- BANK_B_REQUEST (R326): A request targets bank B. -/
  | bankBRequest (k : Fin 128)
  /-- CONTEXT_CNT_CLR (R337): CNT_CLR clears CX_COUNTS, CX_SAMPLES and MAXRUN. -/
  | contextCntClr (k : Fin 128)
  /-- HISTOGRAM_CLEAR (R319): HCLR clears the bins and MAXDELAY. -/
  | histogramClear (k : Fin 128)
  /-- HISTOGRAM_SHIFT_WRITE (R319): A write of SHIFT sets it and clears the bins and MAXDELAY. -/
  | histogramShiftWrite (k : Fin 128) (v : Nat)
  /-- COEFFICIENT_REGION_WRITE (R327): A DOMAIN write replaces a context's coefficient region in bank A or B as one write. -/
  | coefficientRegionWrite (k : Fin 128) (bank : Bool) (ws : List Word)
  /-- MEMORY_DATA_WRITE (R334): A CE_MDATA write stores a word and increments CE_MADDR. -/
  | memoryDataWrite (v : Word)
  /-- SP_FREEZE_WRITE (R329): A write of SP_FREEZE freezes the targets, or releases the pending ones. -/
  | spFreezeWrite (k : Fin 128) (v : Bool)
  /-- TILE_PARITY_ERROR (R333): A parity error in a tile stops its contexts and marks the tile bad. -/
  | tileParityError (t : Fin 36)
  /-- NOP (R350): No operation. -/
  | nop (k : Fin 128)
  /-- ADD (R350): d := a + b. -/
  | add (k : Fin 128)
  /-- SUB (R350): d := a − b. -/
  | sub (k : Fin 128)
  /-- MUL (R350): d := a × b. -/
  | mul (k : Fin 128)
  /-- FMA (R350): d := a × b + c, with one rounding. -/
  | fma (k : Fin 128)
  /-- FNMA (R350): d := c − a × b, with one rounding. -/
  | fnma (k : Fin 128)
  /-- MIN (R348): d := MIN(a, b). -/
  | min (k : Fin 128)
  /-- MAX (R348): d := MAX(a, b). -/
  | max (k : Fin 128)
  /-- CLAMP (R348): d := MAX(b, MIN(a, c)). -/
  | clamp (k : Fin 128)
  /-- ABS (R350): d := |a|. -/
  | abs (k : Fin 128)
  /-- NEG (R350): d := −a. -/
  | neg (k : Fin 128)
  /-- MOV (R350): d := a. -/
  | mov (k : Fin 128)
  /-- ROUND (R349): d := a rounded to an integer, ties to even. -/
  | round (k : Fin 128)
  /-- SEL (R350): d := a when the predicate is 1, else b. -/
  | sel (k : Fin 128)
  /-- MOVI (R350): d := the immediate value. -/
  | movi (k : Fin 128)
  /-- ADDI (R350): d := a + the immediate value. -/
  | addi (k : Fin 128)
  /-- MULI (R350): d := a × the immediate value. -/
  | muli (k : Fin 128)
  /-- RCP (R351): d := 1/a. -/
  | rcp (k : Fin 128)
  /-- RSQ (R351): d := 1/√a. -/
  | rsq (k : Fin 128)
  /-- SQRT (R351): d := √a. -/
  | sqrt (k : Fin 128)
  /-- LUT (R356): d := the value interpolated from a coefficient table. -/
  | lut (k : Fin 128)
  /-- SINCOS (R351): d := sin(2πa) and d+1 := cos(2πa). -/
  | sincos (k : Fin 128)
  /-- ATAN2 (R351): d := atan2(a, b) in turns. -/
  | atan2 (k : Fin 128)
  /-- HYPOT (R351): d := √(a² + b²). -/
  | hypot (k : Fin 128)
  /-- ROT (R351): Rotates (a, b) by c turns into d and d+1. -/
  | rot (k : Fin 128)
  /-- CMPLT (R350): pd := a < b. -/
  | cmplt (k : Fin 128)
  /-- CMPLE (R350): pd := a ≤ b. -/
  | cmple (k : Fin 128)
  /-- CMPEQ (R350): pd := a = b. -/
  | cmpeq (k : Fin 128)
  /-- CMPLTI (R350): pd := a < the immediate value. -/
  | cmplti (k : Fin 128)
  /-- PLOG (R350): pd := the bit of the immediate truth table selected by pa and pb. -/
  | plog (k : Fin 128)
  /-- LDC (R352): Loads a coefficient word of the active bank. -/
  | ldc (k : Fin 128)
  /-- LDS (R352): Loads a state word as it stood at the sample boundary. -/
  | lds (k : Fin 128)
  /-- STS (R352): Stages a state word store for the release. -/
  | sts (k : Fin 128)
  /-- LDIN (R353): Loads an input latched at the sample boundary. -/
  | ldin (k : Fin 128)
  /-- SORT (R354): Reads the sort result of a string, waiting until it is ready. -/
  | sort (k : Fin 128)
  /-- STL (R355): Stages VAL of a leg. -/
  | stl (k : Fin 128)
  /-- STL2 (R355): Stages VAL2 of a leg. -/
  | stl2 (k : Fin 128)
  /-- STM (R355): Stages MODE of a leg. -/
  | stm (k : Fin 128)
  /-- COMMIT (R357): Adds commit groups to be committed at the release. -/
  | commit (k : Fin 128)
  /-- EVT (R357): Stages a program event that is posted at the release. -/
  | evt (k : Fin 128)
  /-- LOOP (R358): Repeats the following body COUNT times. -/
  | loop (k : Fin 128)
  /-- PROGRAM_IMAGE_WRITE (R361): A program image written in Configure is checked and loaded, or refused. -/
  | programImageWrite (bs : List Byte)
  /-- SD_CONTROL_OUTPUT (R366): A sinc3 control-path output is formed for a channel. -/
  | sdControlOutput (c : Fin 24) (bs : BitVec 64)
  /-- PHASOR_PATH_OUTPUT (R369): A 20 kS/s phasor-path output is formed and stamped. -/
  | phasorPathOutput (c : Fin 24)
  /-- PHASOR_REPORT (R372): At a report instant, the estimator forms the phasors, the frequency and the ROCOF. -/
  | phasorReport (a : Applied := {})
  /-- PHASOR_BLOCK_RX (R384): The Root receives a Member's phasor block message. -/
  | phasorBlockRx (i : Fin 4) (bs : List Byte)
  /-- CMD_TRANSMISSION_OFF (R381): Command 0x0001 turns transmission off. -/
  | cmdTransmissionOff (bs : List Byte)
  /-- CMD_TRANSMISSION_ON (R381): Command 0x0002 turns transmission on. -/
  | cmdTransmissionOn (bs : List Byte)
  /-- CMD_SEND_HEADER (R381): Command 0x0003 sends the header frame. -/
  | cmdSendHeader (bs : List Byte)
  /-- CMD_SEND_CFG1 (R381): Command 0x0004 sends CFG-1. -/
  | cmdSendCfg1 (bs : List Byte)
  /-- CMD_SEND_CFG2 (R381): Command 0x0005 sends CFG-2. -/
  | cmdSendCfg2 (bs : List Byte)
  /-- ARP_REQUEST (R385): An ARP request for the device's own IPv4 address is answered. -/
  | arpRequest (bs : List Byte)
  /-- WF_CHANNEL_ALIGNED (R391): A channel matches the sync word 16 times and is ALIGNED, or ALIGN_FAIL is raised by the 112th word. -/
  | wfChannelAligned (c : Fin 6) (ok : Bool)
  /-- WAVEFRONT_CROSSING (R395): A detector crosses its threshold, which records an onset and opens an event when none is open. -/
  | wavefrontCrossing (d : Fin 6) (at80 : Nat) (w : List (Int × Int × Int))
  /-- DETECTOR_REARM (R395): The holdoff after a crossing ends and the detector rearms. -/
  | detectorRearm (d : Fin 6)
  /-- WF_RECORD_SELECT (R400): A write of an event number copies that record into the read buffer. -/
  | wfRecordSelect (v : Nat)
  /-- SPINE_LANE_ENABLE (R413): A spine lane is enabled or disabled. -/
  | spineLaneEnable (i : Fin 4) (v : Bool)
  /-- SPINE_SIGNAL_DETECT (R414): Spine receive signal is detected for 1 µs. -/
  | spineSignalDetect (i : Fin 4)
  /-- SPINE_ADAPTED (R414): 65,536 error-free PRBS13 symbols complete the adaptation. -/
  | spineAdapted (i : Fin 4) (inv : Bool)
  /-- SPINE_BLOCK_LOCK (R414): 64 consecutive valid sync headers give block lock. -/
  | spineBlockLock (i : Fin 4)
  /-- TRAINING_BLOCK_RX (R414): A training block advances the exchange, refuses the link, or brings the lane UP. -/
  | trainingBlockRx (i : Fin 4) (bs : List Byte)
  /-- SPINE_ATTEMPT_TIMEOUT (R414): A 5 ms spine attempt expires, so the lane enters BACKOFF, or ABSENT after 16 attempts. -/
  | spineAttemptTimeout (i : Fin 4)
  /-- SPINE_BACKOFF_END (R413): 1 ms after a failed attempt, the lane retries. -/
  | spineBackoffEnd (i : Fin 4)
  /-- SPINE_RETRY (R413): A lane in ABSENT or REFUSED makes its 1 s retry. -/
  | spineRetry (i : Fin 4)
  /-- SPINE_LANE_LOST (R417): A spine lane in UP is lost, and its link stripes over the remaining lane. -/
  | spineLaneLost (i : Fin 4)
  /-- ALIGNMENT_MARKER_RX (R416): Alignment markers deskew the lanes, and excessive skew removes a lane. -/
  | alignmentMarkerRx (i : Fin 4) (skew : Nat)
  /-- SPINE_RETRAIN (R414): A RETRAIN write restarts a spine lane at attempt 1. -/
  | spineRetrain (i : Fin 4)
  /-- SPINE_TEST_START (R429): A spine lane enters TEST in Configure. -/
  | spineTestStart (i : Fin 4) (v : Word)
  /-- SPINE_TEST_STOP (R429): A spine lane leaves TEST and starts attempt 1. -/
  | spineTestStop (i : Fin 4)
  /-- ENUMERATION_RX (R423): An enumeration message is appended to and forwarded or returned, or it completes the Root's map. -/
  | enumerationRx (i : Fin 4) (bs : List Byte)
  /-- RING_MAP_RX (R423): A device takes the broadcast ring map and checks its duplicate bit. -/
  | ringMapRx (i : Fin 4) (bs : List Byte)
  /-- FORWARDED_REQUEST_RX (R425): A Member serves a forwarded dictionary request and answers it. -/
  | forwardedRequestRx (i : Fin 4) (bs : List Byte)
  /-- FORWARDED_RESPONSE_RX (R425): The Root answers the host from a Member's response. -/
  | forwardedResponseRx (i : Fin 4) (bs : List Byte)
  /-- HOST_RECORD_RX (R544): The Root receives a Member's event, record or emergency message. -/
  | hostRecordRx (i : Fin 4) (bs : List Byte)
  /-- FORWARD_TIMEOUT (R425): A forwarded request gets no answer within FWD_TIMEOUT and is aborted. -/
  | forwardTimeout (p : Fin 64)
  /-- URGENT_NOTICE_RX (R428): A Black ring notice is accepted, handed to the collector and forwarded. -/
  | urgentNoticeRx (i : Fin 4) (bs : List Byte)
  /-- FAULT_REPORT (R434): A report reaches the collector and is captured, made consequent or lost, and takes its class actions. -/
  | faultReport (r : ReportArg)
  /-- COALESCING_WINDOW_CLOSE (R443): A coalescing window ends and posts its CONSEQ record. -/
  | coalescingWindowClose (w : Fin 9)
  /-- HELD_CLEAR (R440): Writing 1 to HELD releases a first-cause record. -/
  | heldClear (v : Nat)
  /-- LOST_CLEAR (R441): Writing 1 to an FC_LOST bit clears it and its LOSTCNT. -/
  | lostClear (v : Nat)
  /-- NFAULT_DRIVE_WRITE (R449): Software writes DRIVE. -/
  | nfaultDriveWrite (v : Bool)
  /-- FORCE_REPORT (R450): GO in FC_FORCE makes an injected report. -/
  | forceReport (v : Word)
  /-- CHECK_BIT_INJECTION_ARM (R451): ARM in FC_CBI arms a check-bit error injection. -/
  | checkBitInjectionArm (v : Word)
  /-- ECC_ERROR (R451): A memory read finds a corrected or uncorrectable word. -/
  | eccError (m : Fin 5) (addr : Nat) (uncorr : Bool) (syn : BitVec 7)
  /-- AUTOMATIC_RECOVERY (R453): After QUIET ms without reports, a held record recovers automatically. -/
  | automaticRecovery (b : Fin 16)
  /-- THERMAL_SAMPLE (R461): All twelve sensors convert, and the limits, the rate of rise and sensor failures are evaluated. -/
  | thermalSample (ts : List (Option Int))
  /-- RECORD_DATA_LO_READ (R483): A read of REC_RDATA_LO returns the low word and latches the high word. -/
  | recordDataLoRead (host : Bool)
  /-- RECORD_DATA_HI_READ (R483): A read of REC_RDATA_HI returns the latched word and advances UNIT. -/
  | recordDataHiRead (host : Bool)
  /-- RECORD_SELECT (R485): A write of a sequence number copies that record into the read buffer. -/
  | recordSelect (v : Nat)
  /-- LEDGER_SAMPLE (R489): Once per ms per admitted lane, the ledger samples the lane and runs the rainflow counter. -/
  | ledgerSample (n : Fin 64)
  /-- LEDGER_SAVE (R494): At each multiple of 64 operating seconds, the live slots are saved. -/
  | ledgerSave (n : Fin 64)
  /-- HISTORY_IMPORT (R496): A ledger slot is imported into history in Configure. -/
  | historyImport (bs : List Byte)
  /-- BIST_COMPLETE (R501): Built-in self-test completes. -/
  | bistComplete (f : BistFindings)
  /-- FIRMWARE_VERIFIED (R513): The boot ROM finishes checking a firmware bank and starts it or tries the other bank. -/
  | firmwareVerified (bs : List Byte)
  /-- AUTHENTICATED_CLEAR (R509): A command 0x01 token written to 0x2013 clears the Slate state. -/
  | authenticatedClear (bs : List Byte)
  /-- ENROL_OWNER_KEY (R507): A command 0x02 token enrols an owner key. -/
  | enrolOwnerKey (bs : List Byte)
  /-- REVOKE_OWNER_KEY (R507): A command 0x03 token revokes an owner key. -/
  | revokeOwnerKey (bs : List Byte)
  /-- MAKER_KEY_LIST (R516): A command 0x04 token replaces the trusted maker key list. -/
  | makerKeyList (bs : List Byte)
  /-- DEBUG_UNLOCK (R522): A command 0x05 token shifted into DBG_TOKEN opens debug. -/
  | debugUnlock (bs : List Byte)
  /-- FIRMWARE_IMAGE_WRITE (R514): A firmware image is written to the bank that is not running. -/
  | firmwareImageWrite (bs : List Byte)
  /-- TRY_NEW_FIRMWARE (R514): A write of 1 to 0x5000:04 sets TRIAL. -/
  | tryNewFirmware (v : Nat)
  /-- ADVANCE_COUNTER (R515): A write raises an anti-rollback counter to the running image's version. -/
  | advanceCounter (v : Nat)
  /-- ATTESTATION_NONCE (R519): A nonce write starts, or restarts, an attestation report. -/
  | attestationNonce (bs : List Byte)
  /-- RUN_REQUEST_WRITE (R532): A write of the run request 0x2001:02 asks for Run, or returns the device to Armed. -/
  | runRequestWrite (v : Bool)
  /-- USDO_REQUEST (R535): A USDO transfer completes and is served locally or forwarded. -/
  | usdoRequest (r : UsdoRequest)
  /-- STORE_PARAMETERS (R537): A write to 0x1010:01 stores the configuration. -/
  | storeParameters (v : Nat)
  /-- RESTORE_DEFAULTS (R537): A write to 0x1011:01 erases the stored configuration. -/
  | restoreDefaults (v : Nat)
  /-- RPDO_RX (R529): An RPDO writes its mapped entries. -/
  | rpdoRx (i : Fin 4) (bs : List Byte)
  /-- TPDO_EVENT_TIMER (R529): A TPDO event timer expires and the TPDO is sent. -/
  | tpdoEventTimer (i : Fin 4)
  /-- HB_LOST (R530): A consumer heartbeat is not received within its time. -/
  | hbLost (node : Fin 128)
  /-- ERROR_FIELD_CLEAR (R530): A write of 0 to 0x1003:00 empties the error field. -/
  | errorFieldClear (v : Nat)
  /-- REGISTER_WRITE (R11): A write to a register field that has no row of its own, through firmware or the aperture. -/
  | registerWrite (host : Bool) (addr : Nat) (v : Word)
  /-- ERROR_PASSIVE (R545): The CAN controller's error counters cross into or out of error passive, which raises ERROR_PASSIVE and sets or clears bit 4 of 0x1001. -/
  | errorPassive (tec : Nat) (rcv : Nat)
  /-- CONSUMER_HEARTBEAT_RX (R530): A CANopen heartbeat from a consumed node arrives and restarts that node's consumer heartbeat timer. -/
  | consumerHeartbeatRx (node : Fin 128) (st : Byte)
  /-- TEST_PORT_INSTRUCTION (R520): An IEEE 1149.1 instruction such as EXTEST, CLAMP or HIGHZ is loaded through the test port and takes over the boundary cells in any device state. -/
  | testPortInstruction (ins : TapInstr)
  /-- CODE_ERROR (R184): A code error is received on a cell lane in UP or RX_ONLY outside a whole frame or set, which sets CODE_ERR and counts in LN_CODEERR. -/
  | codeError (c : RxCode)
  /-- VKA_FIRST_APPLIED (R57): VKA has stayed above 2.85 V for 1 ms, so every VKA field is cleared to its first-application value and the device enters Standby. -/
  | vkaFirstApplied
  /-- VKA_LOST (R568): VKA falls below 2.60 V, so the VKA contents are lost and the device stops as at a reset that drops PWREN. -/
  | vkaLost
  /-- INSERTION (R83): PRSNT has been high for 10 ms after being low for at least 10 ms, which is kept as a wake event. -/
  | insertion
  /-- NRESET_RELEASE (R59): A rising edge of nRESET is kept as a wake event. -/
  | nresetRelease
  /-- AUTOMATIC_RESTART (R59): The restart delay elapses after a qualifying cause and is kept as a wake event. -/
  | automaticRestart
  /-- RAIL_GOOD_TIMEOUT (R54): The rail-good timer expires before all PGOOD inputs are good, so the device drops PWREN, records cause 0x02 and returns to Standby. -/
  | railGoodTimeout
  /-- PGOOD_LOSS_PWREN_DROP (R55): 20 µs after a PGOOD fall, the device drops PWREN and enters Standby. -/
  | pgoodLossPwrenDrop
  /-- NRESET_ASSERTED (R65): A filtered low level on nRESET is taken as a reset with cause 0x08, and nFAULT is driven low. -/
  | nresetAsserted
  /-- NRESET_BLACK_SET_END (R64): 4,096 ticks after an nRESET cause, the lanes change from Black sets to electrical idle. -/
  | nresetBlackSetEnd
  /-- BOARD_REMOVED (R83): PRSNT is low for 10 ms outside Standby, so the device records cause 0x0E, runs the PGOOD-loss sequence and drops PWREN. -/
  | boardRemoved
  /-- NEJECT_RECOGNISED (R85): A filtered assertion of nEJECT fixes cause 0x0D and starts ejection: ownership release, MRAM completion and the operating-seconds save. -/
  | nejectRecognised
  /-- EJECTION_PWREN_DROP (R85): Once the ejection writes are done, the device idles its lanes, writes RST_CAUSE and its TSC, and drops PWREN. -/
  | ejectionPwrenDrop
  /-- INTERNAL_RESET_TAKEN (R64): A reset for an internal cause is taken when its record completes or its time limit passes, and the cause record is updated. -/
  | internalResetTaken
  /-- SELFTEST_DONE (R71): Firmware writes SELFTEST_DONE, which ends the start successfully once Configure has been reached. -/
  | selftestDone
  /-- SELF_TEST_TIMEOUT (R71): The 10 s self-test timer expires, so the device resets with cause 0x09. -/
  | selfTestTimeout
  /-- SLATE_HOLD (R80): A Slate start finishes loading, or fails firmware verification, and begins to hold Slate; the timer stops and PENDING clears. -/
  | slateHold
  /-- SOFTWARE_RESET_REQUEST (R88): A write of 0x01 to 0x2010:01 requests a software reset with cause 0x0B. -/
  | softwareResetRequest
  /-- POWER_CYCLE_REQUEST (R88): A write of 0x02 to 0x2010:01 requests a power cycle with cause 0x0C. -/
  | powerCycleRequest
  /-- RC_TRIM_READY (R105): The RC oscillator reports trim-ready, so blanking ends and the first CKREF frequency window starts. -/
  | rcTrimReady
  /-- PLL_A_START (R105): 2 ms after entry to Cold hold, the filter discharge ends and PLL-A starts. -/
  | pllAStart
  /-- COLD_HOLD_TIMEOUT (R66): Cold hold lasts 20 ms without all four PLLs locked, so the device resets with cause 0x06. -/
  | coldHoldTimeout
  /-- CKREF_TRIP (R102): The clock monitor finds a missing edge or a wrong frequency on CKREF after blanking, which is cause 0x03, CKREF lost. -/
  | ckrefTrip
  /-- PLL_C_LOCK_LOST (R116): PLL-C loses lock, so the cell lanes stop and the device either becomes standby or enters Safe, moving the CAN clock if needed. -/
  | pllCLockLost
  /-- PLL_S_LOCK_LOST (R116): PLL-S loses lock, so the spine lanes stop until relock. -/
  | pllSLockLost
  /-- PLL_T_LOCK_LOST (R118): PLL-T loses lock, so the timescale falls back to the core clock and the pending phase steps are discarded. -/
  | pllTLockLost
  /-- PLL_T_RETURN (R118): After PLL-T has held lock for 1 ms, its modulator restarts aligned to a frame and the timescale returns to PLL-T. -/
  | pllTReturn
  /-- CLOCK_MONITOR_FAILED (R104): The RC cycle count in 1 µs of timescale time falls outside 24–40, which raises the Black fault MON_FAILED. -/
  | clockMonitorFailed
  /-- SPREAD_RAMP_DONE (R112): After a PLL-C loss, PLL-A has ramped to its unspread frequency, so SPREAD_ACT and EN clear and the CAN controller is released. -/
  | spreadRampDone
  /-- OPERATING_SECONDS_SAVE (R128): The operating-seconds count reaches a multiple of 64 and is saved to the older MRAM slot. -/
  | operatingSecondsSave
  /-- PDELAY_REQ_SEND (R132): Every 1 s the PTP slave sends a Pdelay_Req. -/
  | pdelayReqSend
  /-- REFERENCE_MISSING (R137): No sample has arrived for 3 s, which moves the discipline state. -/
  | referenceMissing
  /-- TAI_OFFSET_CHANGE (R131): At a frame boundary, TAI_OFFSET is acquired or stepped and a Grey event is recorded. -/
  | taiOffsetChange
  /-- SLEW_STEP (R141): Every 200,000 ticks during a slew, TAI_OFFSET moves one tick toward its target. -/
  | slewStep
  /-- HOLDOVER_LEARN (R138): Once per second the temperature bin of the selected sensor is updated, and the holdover estimate is evaluated. -/
  | holdoverLearn
  /-- GROUP_TIME_SEND (R424): The Root sends a group time message east and west at tick 512 of each frame whose number mod 64 is 32. -/
  | groupTimeSend
  /-- GROUP_LOST (R147): 1,024 frames pass without a group time message, so the Member enters GROUP_COAST. -/
  | groupLost
  /-- GROUP_OFFSET_SET (R147): At the frame boundary after a join or an adoption, the Member sets GROUP_OFFSET. -/
  | groupOffsetSet
  /-- EDGE_CUTOFF (R29): Tick 896 of a frame closes the set of edges that travel in that downstream frame. -/
  | edgeCutoff
  /-- HEARTBEAT_SEND (R299): At tick 0 of each frame, the device sends its heartbeat to its partner. -/
  | heartbeatSend
  /-- HEARTBEAT_WINDOW_CLOSE (R35): A heartbeat window closes, so misses are counted and a takeover or loss is declared at 3. -/
  | heartbeatWindowClose
  /-- ALONE_DECISION (R298): 64 frames with a complete map showing the partner position empty make the device run alone. -/
  | aloneDecision
  /-- RECLAIM_REQUEST (R303): After HB_QUAL of clean heartbeats, a preferred standby sets RECLAIM_REQ. -/
  | reclaimRequest
  /-- HANDBACK_GO (R303): The host commands the owner to hand back. -/
  | handbackGo
  /-- DUPLEX_READY (R304): 64 settled frames in Armed, Run or Safe set READY. -/
  | duplexReady
  /-- MEMORY_DATA_READ (R334): A CE_MDATA read returns a word and increments CE_MADDR. -/
  | memoryDataRead
  /-- INJECTION_START (R330): START starts or restarts the injection generator. -/
  | injectionStart
  /-- INJECTION_STOP (R330): STOP ends the injection. -/
  | injectionStop
  /-- CAPTURE_ARM (R331): ARM starts a response capture. -/
  | captureArm
  /-- CAPTURE_STOP (R336): STOP ends a response capture and keeps its records. -/
  | captureStop
  /-- DATA_FRAME_SEND (R382): At its latency, the Root sends the C37.118.2 data frame. -/
  | dataFrameSend
  /-- EGRESS_LINK_UP (R385): The egress link comes up. -/
  | egressLinkUp
  /-- EGRESS_LINK_DOWN (R385): The egress link leaves up. -/
  | egressLinkDown
  /-- WF_ALIGN (R391): A write of ALIGN, or an entry to Armed, starts alignment of the wavefront channels. -/
  | wfAlign
  /-- EVENT_WINDOW_CLOSE (R397): The event window W closes. -/
  | eventWindowClose
  /-- EVENT_RECORD_COMPLETE (R398): The event record and its location are completed, EVENT is raised and a summary is posted. -/
  | eventRecordComplete
  /-- WF_CAPTURE_ARM (R404): ARM starts the raw capture buffer. -/
  | wfCaptureArm
  /-- WF_CAPTURE_STOP (R404): STOP ends the raw capture. -/
  | wfCaptureStop
  /-- WF_CAPTURE_DONE (R404): The capture has kept its post-trigger samples and is complete. -/
  | wfCaptureDone
  /-- WF_CDATA_READ (R406): A read of WF_CDATA returns a sample and increments INDEX. -/
  | wfCdataRead
  /-- ENUMERATION_SEND (R423): The Root sends a ring enumeration east and west. -/
  | enumerationSend
  /-- QUEUED_MESSAGE_SEND (R421): A waiting management message is sent once a route appears. -/
  | queuedMessageSend
  /-- URGENT_NOTICE_SEND (R426): The originator sends the notice pair on every spine lane at the next block boundary. -/
  | urgentNoticeSend
  /-- NFAULT_PULSE_END (R449): The 10,240-tick nFAULT pulse ends, and a pending release takes effect. -/
  | nfaultPulseEnd
  /-- INJECTION_MISS (R451): No read reaches the injected word within 1 s. -/
  | injectionMiss
  /-- RECOVERY_UNLATCH (R454): UNLATCH clears every LATCH bit and every recovery count. -/
  | recoveryUnlatch
  /-- GROUP_FIRST_CAUSE_CLEAR (R445): Writing 1 to VALID in FC_GRP_INFO empties the group first cause. -/
  | groupFirstCauseClear
  /-- SHUTDOWN_PWREN_DROP (R467): After the MRAM writes, or at 20,480 ticks, cause 0x07 is latched and PWREN drops. -/
  | shutdownPwrenDrop
  /-- PEAK_CLEAR (R471): PEAK_CLR clears TH_PEAK. -/
  | peakClear
  /-- RECORD_WRITE_START (R479): The recorder takes the oldest queued entry and starts writing its record. -/
  | recordWriteStart
  /-- RECORD_WRITE_COMPLETE (R479): A record's MARK is written and its pending repeats are flushed. -/
  | recordWriteComplete
  /-- REPEAT_FLUSH (R482): Every 1 ms, pending repeats are added to the last record. -/
  | repeatFlush
  /-- PERIODIC_RECORDS (R478): At each multiple of 60 × HIST_PERIOD seconds, the histogram and extremes records are posted. -/
  | periodicRecords
  /-- RECORDER_BOOT_SCAN (R486): At Boot, the recorder scans the regions and the ledger for torn entries and writes the Start record. -/
  | recorderBootScan
  /-- LEDGER_SECOND (R492): Each second, the TEMP1 histogram and D_CT are updated. -/
  | ledgerSecond
  /-- LEDGER_CHUNK_WRITE (R480): A ledger chunk of 16 units completes its write. -/
  | ledgerChunkWrite
  /-- REPAIR_APPLIED (R503): The repair map is merged, written back and applied. -/
  | repairApplied
  /-- CONFIGURE_REACHED (R500): The firmware restores the dictionary and configuration, and the device enters Configure. -/
  | configureReached
  /-- TOKEN_CHECK_DONE (R511): The security engine ends a token check, and the write is answered. -/
  | tokenCheckDone
  /-- AUTH_CLEAR_RESET (R511): After an accepted clear is answered, the device resets with cause 0x0F. -/
  | authClearReset
  /-- FIRMWARE_CHECK_DONE (R514): The written bank is read back and checked, and FW_RESULT is set. -/
  | firmwareCheckDone
  /-- COUNTER_PROGRAMMED (R515): The fuse programming of a counter completes. -/
  | counterProgrammed
  /-- ATTESTATION_REPORT_DONE (R519): The signed attestation report is complete. -/
  | attestationReportDone
  /-- DEBUG_LEVEL_ZERO (R521): Level 0 written through DBG_STAT closes debug. -/
  | debugLevelZero
  /-- NMT_START (R531): An NMT Start moves the device to Armed from Configure or Safe, or is ignored. -/
  | nmtStart
  /-- NMT_STOP (R531): An NMT Stop takes the device to Safe. -/
  | nmtStop
  /-- NMT_ENTER_PRE_OPERATIONAL (R531): Enter pre-operational takes the device to Configure. -/
  | nmtEnterPreOperational
  /-- NMT_RESET_NODE (R531): Reset node resets the device with cause 0x0B. -/
  | nmtResetNode
  /-- NMT_RESET_COMMUNICATION (R531): Reset communication restarts the CAN controller and the objects 0x1000–0x1FFF. -/
  | nmtResetCommunication
  /-- ENTER_RUN (R532): All run conditions hold, so Armed passes to Run. -/
  | enterRun
  /-- SYNC_RX (R529): A SYNC is consumed, which may trigger TPDOs. -/
  | syncRx
  /-- NMT_HEARTBEAT_SEND (R530): The producer heartbeat is sent. -/
  | nmtHeartbeatSend
  /-- EMCY_SEND (R544): A queued EMCY message is sent on the bus. -/
  | emcySend
  /-- EMCY_SENT (R544): An EMCY frame is acknowledged and leaves the queue. -/
  | emcySent
  /-- BUS_OFF (R528): The CAN controller enters bus-off. -/
  | busOff
  /-- BUS_OFF_RECOVERY (R526): After 128 occurrences of 11 recessive bits, the controller recovers. -/
  | busOffRecovery
  /-- PRSNT_LOW (R59): PRSNT stays low for 10 ms while the device is in Standby, which discards every kept wake event. -/
  | prsntLow
  deriving DecidableEq, Repr

end Sys2Proof
end

