-- ==== Sys2Proof/WellFormed.lean ====
section
/-!
DEFINITION. WellFormed.lean: the operands that a command can carry: values within the width of what is written, and byte lists of the
length that the rule of the command gives. `exec` is total and does not ask for it.
-/
namespace Sys2Proof

/-- A spine message holds at most 1,024 bytes of payload between its header and its check (R419). -/
def spineMessage (bs : List Byte) : Bool := bs.length ≤ 1036

/-- A binary32 that is no infinity and no NaN. -/
def finiteBits (x : Nat) : Bool := x < 2 ^ 32 && x / 2 ^ 23 % 256 != 255
def finitePairs (l : List (Nat × Nat)) : Bool := l.length ≤ 24 && l.all (fun p => finiteBits p.1 && finiteBits p.2)

/-- The applied signal has finite values, for at most 24 channels. -/
def Applied.wf (a : Applied) : Bool :=
  finitePairs a.phasors && finiteBits a.freq && finiteBits a.rocof && (match a.signal with | .step _ before => finitePairs before | _ => true)

/-- The operands of a command are in range. -/
def Instr.wf (i : Instr) : Bool :=
  match i with
  | .enterColdHold vio => vio < 16
  | .pllLockDeclared _ qualUs _ => qualUs < 65536
  | .muxSelectWrite _ v => v < 16
  | .ppsEdge frac => frac < 128
  | .ppsLabelWrite v => v < 2 ^ 64
  | .temperatureTableClear v => v < 256
  | .groupTimeMessage _ bs => spineMessage bs
  | .adoptGroupEpoch v => v < 256
  | .delayExchangeBlock _ bs => bs.length == 8
  | .trainingSetRx _ _ _ gs => gs.length == 16 && gs.all (fun g => g < 1024)
  | .quadMapModeWrite _ v => v < 4
  | .spareSelWrite _ v => v < 8
  | .upstreamFrameRx _ _ _ _ gs => gs.length ≤ 203 && gs.all (fun g => g < 1024)
  | .paramWrite _ _ v => v < 65536
  | .groupCommitWrite v => v < 65536
  | .scarletSetRx _ r => r.groups.length == 4 && r.groups.all (fun g => g < 1024)
  | .heartbeatRx bs => bs.length ≤ 1024
  | .histogramShiftWrite _ v => v < 256
  | .phasorReport a => a.wf
  | .phasorBlockRx _ bs => spineMessage bs
  | .wavefrontCrossing _ _ w => w.length == 95
  | .wfRecordSelect v => v < 2 ^ 32
  | .trainingBlockRx _ bs => bs.length == 7
  | .enumerationRx _ bs => spineMessage bs
  | .ringMapRx _ bs => spineMessage bs
  | .forwardedRequestRx _ bs => spineMessage bs
  | .forwardedResponseRx _ bs => spineMessage bs
  | .hostRecordRx _ bs => spineMessage bs
  | .urgentNoticeRx _ bs => bs.length == 16
  | .faultReport r => 1 ≤ r.block && r.block ≤ 16 && r.src < 16
  | .heldClear v => v < 65536
  | .lostClear v => v < 65536
  | .codeError (.cell _ _ g _) => g < 1024
  | .codeError (.spine _ prev scr l) => prev < 4 && scr < 2 ^ 58 && l.length == 33 && l.all (fun x => x < 4)
  | .prbsLock ⟨n, _, l⟩ | .prbsLoss n _ l | .prbsBitsLoRead n _ _ l => l.all (fun x => x < if n < 64 then 2 else 4)
  | .thermalSample ts => ts.length == 12
  | .recordSelect v => v < 2 ^ 32
  | .bistComplete f => f.macros.all (fun m => m.macroNo < 100)
  | .tryNewFirmware v => v < 256
  | .advanceCounter v => v < 256
  | .usdoRequest r => 1 ≤ r.client && r.client ≤ 127 && r.net < 128 && r.node < 128 && r.index < 65536 && r.sub < 256
  | .storeParameters v => v < 2 ^ 32
  | .restoreDefaults v => v < 2 ^ 32
  | .rpdoRx _ bs => bs.length ≤ 64
  | .errorFieldClear v => v < 256
  | .registerWrite _ addr _ => addr % 4 == 0 && addr < 0x110000
  | .vkaFirstApplied | .vkaLost | .insertion | .nresetRelease | .automaticRestart | .leaveStandby _ | .railGoodTimeout | .pgoodLost _
  | .pgoodLossPwrenDrop | .nresetAsserted | .nresetBlackSetEnd | .boardRemoved | .nejectRecognised | .ejectionPwrenDrop
  | .internalResetTaken | .selftestDone | .selfTestTimeout | .slateHold | .softwareResetRequest | .powerCycleRequest | .rcTrimReady
  | .referenceWindowDone _ | .pllAStart | .coldHoldTimeout | .ckrefTrip | .pllALockLost _ | .pllCLockLost | .pllSLockLost | .pllTLockLost
  | .pllRelockAttempt _ | .pllTReturn | .clockMonitorFailed | .muxSwitchComplete _ | .muxHang _ | .muxForce _ | .consumerIdleWrite _
  | .spreadEnableWrite _ | .spreadRampDone | .tscLoRead _ | .operatingSecondsSave | .ptpMessageRx _ | .pdelayReqSend | .referenceMissing
  | .taiOffsetChange | .slewStep | .holdoverLearn | .groupTimeSend | .groupLost | .groupOffsetSet | .delayExchangeRequest _
  | .delayExchangeResponse _ | .laneEnable _ | .laneDisable _ | .laneSignalDetect _ | .laneCdrLock _ | .attemptTimeout _ | .backoffEnd _
  | .absentRetry _ | .attemptSignalLost _ | .retrain _ | .laneLost _ | .spareCalibrated _ | .laneTestStart _ _ | .laneTestStop _
  | .injOne _ | .laneCntClr _ | .downstreamFrameSend _ | .edgeCutoff
  | .edgeHandover _ | .upstreamFrameMissing _ | .laneDelayUpdate _ | .laneDelayApply _ | .urgentSetSend _ | .paramRead _ _
  | .paramTimeout _ | .descFetch _ | .descriptorVerified _ | .descriptorTimeout _ | .linkCntClr _ | .carrierEnable _ | .carrierDisable _
  | .carrierEvent _ _ | .periodOpening _ | .tripActive _ | .tripInactive _ | .tripRearm _ | .tripClr _ | .tripClearComplete _
  | .partnerDelayExpiry _ | .cellClear _ | .clearTimeout _ | .reserveOpen _ | .bypassTimeout _ | .insert _ | .park _ | .sortComplete _
  | .heartbeatSend | .heartbeatWindowClose | .aloneDecision | .cellReclaim _ | .reclaimRequest | .handbackGo | .duplexReady
  | .contextTrigger _ | .programRelease _ | .softTrig _ | .contextRestart _ | .contextEnable _ | .contextDisable _ | .bankSwapRequest _
  | .bankARequest _ | .bankBRequest _ | .contextCntClr _ | .histogramClear _ | .coefficientRegionWrite _ _ _ | .memoryDataWrite _
  | .memoryDataRead | .spFreezeWrite _ _ | .injectionStart | .injectionStop | .captureArm | .captureStop | .tileParityError _ | .nop _
  | .add _ | .sub _ | .mul _ | .fma _ | .fnma _ | .min _ | .max _ | .clamp _ | .abs _ | .neg _ | .mov _ | .round _ | .sel _ | .movi _
  | .addi _ | .muli _ | .rcp _ | .rsq _ | .sqrt _ | .lut _ | .sincos _ | .atan2 _ | .hypot _ | .rot _ | .cmplt _ | .cmple _ | .cmpeq _
  | .cmplti _ | .plog _ | .ldc _ | .lds _ | .sts _ | .ldin _ | .sort _ | .stl _ | .stl2 _ | .stm _ | .commit _ | .evt _ | .loop _
  | .programImageWrite _ | .sdControlOutput _ _ | .phasorPathOutput _ | .dataFrameSend | .cmdTransmissionOff _
  | .cmdTransmissionOn _ | .cmdSendHeader _ | .cmdSendCfg1 _ | .cmdSendCfg2 _ | .arpRequest _ | .egressLinkUp | .egressLinkDown
  | .wfAlign | .wfChannelAligned _ _ | .detectorRearm _ | .eventWindowClose | .eventRecordComplete | .wfCaptureArm | .wfCaptureStop
  | .wfCaptureDone | .wfCdataRead | .spineLaneEnable _ _ | .spineSignalDetect _ | .spineAdapted _ _ | .spineBlockLock _
  | .spineAttemptTimeout _ | .spineBackoffEnd _ | .spineRetry _ | .spineLaneLost _ | .alignmentMarkerRx _ _ | .spineRetrain _
  | .spineTestStart _ _ | .spineTestStop _ | .enumerationSend | .forwardTimeout _ | .queuedMessageSend | .urgentNoticeSend
  | .coalescingWindowClose _ | .nfaultPulseEnd | .nfaultDriveWrite _ | .forceReport _ | .checkBitInjectionArm _ | .eccError _ _ _ _
  | .injectionMiss | .automaticRecovery _ | .recoveryUnlatch | .groupFirstCauseClear | .shutdownPwrenDrop | .peakClear
  | .recordWriteStart | .recordWriteComplete | .repeatFlush | .periodicRecords | .recordDataLoRead _ | .recordDataHiRead _
  | .recorderBootScan | .ledgerSample _ | .ledgerSecond | .ledgerSave _ | .ledgerChunkWrite | .historyImport _ | .repairApplied
  | .firmwareVerified _ | .configureReached | .authenticatedClear _ | .enrolOwnerKey _ | .revokeOwnerKey _ | .makerKeyList _
  | .debugUnlock _ | .tokenCheckDone | .authClearReset | .firmwareImageWrite _ | .firmwareCheckDone | .counterProgrammed
  | .attestationNonce _ | .attestationReportDone | .debugLevelZero | .nmtStart | .nmtStop | .nmtEnterPreOperational | .nmtResetNode
  | .nmtResetCommunication | .runRequestWrite _ | .enterRun | .syncRx | .tpdoEventTimer _ | .nmtHeartbeatSend | .hbLost _ | .emcySend
  | .emcySent | .busOff | .busOffRecovery | .errorPassive _ _ | .consumerHeartbeatRx _ _ | .testPortInstruction _ 
  | .prsntLow => true

end Sys2Proof
end

