-- ==== Sys2Proof/Machine/Tab.lean ====
section
/-!
DEFINITION. Machine/Tab.lean: sparse tables. A table is a list of (key, value) pairs in one canonical form: keys strictly
rising, and no entry equal to the default that an unlisted key reads as. Equal tables are therefore equal data.
-/
namespace Sys2Proof.Machine

/-- A sparse table: what is stored at each key; an unlisted key reads as the default its user names. -/
abbrev Tab (α : Type) := List (Nat × α)

/-- The entry listed at key `k`. -/
def Tab.find? {α : Type} : Tab α → Nat → Option α
  | [], _ => none
  | (j, v) :: t, k => if j = k then some v else Tab.find? t k

/-- What the table reads as at key `k`, where unlisted keys read as `d`. -/
def Tab.get {α : Type} (d : α) (t : Tab α) (k : Nat) : α := (Tab.find? t k).getD d

/-- The table with `v` listed at `k`. -/
def Tab.put {α : Type} : Tab α → Nat → α → Tab α
  | [], k, v => [(k, v)]
  | (j, w) :: t, k, v =>
    if k < j then (k, v) :: (j, w) :: t
    else if k = j then (k, v) :: t
    else (j, w) :: Tab.put t k v

/-- The table with nothing listed at `k`. -/
def Tab.drop {α : Type} : Tab α → Nat → Tab α
  | [], _ => []
  | (j, w) :: t, k => if j = k then Tab.drop t k else (j, w) :: Tab.drop t k

/-- Write `v` at `k` in canonical form: the default removes the entry. -/
def Tab.set {α : Type} [DecidableEq α] (d : α) (t : Tab α) (k : Nat) (v : α) : Tab α :=
  if v = d then Tab.drop t k else Tab.put t k v

/-- Change the value at `k`. -/
def Tab.modify {α : Type} [DecidableEq α] (d : α) (t : Tab α) (k : Nat) (f : α → α) : Tab α :=
  Tab.set d t k (f (Tab.get d t k))

/-- Keys strictly rising. -/
def Tab.rising {α : Type} (t : Tab α) : Prop := t.Pairwise (fun a b => a.1 < b.1)

/-- The canonical form, for tables whose unlisted keys read as `d`. -/
def Tab.wf {α : Type} (d : α) (t : Tab α) : Prop := Tab.rising t ∧ ∀ e ∈ t, e.2 ≠ d

end Sys2Proof.Machine
end

