-- ==== Sys2Proof/Machine/Bits.lean ====
section
/-!
DEFINITION. Machine/Bits.lean: bit fields, sign extension, byte order and check codes (00_scope.md R11 for the
little-endian order, 07_limisk_link.md R200 for the CRC-32).
-/
namespace Sys2Proof.Machine

/-- Bits `hi` to `lo` of `x`. -/
def bits (x hi lo : Nat) : Nat := x / 2 ^ lo % 2 ^ (hi - lo + 1)

/-- Bit `i` of `x`. -/
def bitAt (x i : Nat) : Bool := x / 2 ^ i % 2 = 1

/-- 1 for true. -/
def b2n (b : Bool) : Nat := if b then 1 else 0

/-- Two's complement value of the low `w` bits of `x`. -/
def sext (w x : Nat) : Int :=
  if x % 2 ^ w < 2 ^ (w - 1) then (x % 2 ^ w : Nat) else ((x % 2 ^ w : Nat) : Int) - (2 ^ w : Nat)

/-- The low `w` bits of an integer, in two's complement. -/
def ofInt (w : Nat) (x : Int) : Nat := (x % ((2 ^ w : Nat) : Int)).toNat

/-- The integer held within `lo` and `hi`. -/
def clampInt (lo hi x : Int) : Int := if x < lo then lo else if hi < x then hi else x

/-- Add with saturation at `m`. -/
def satAdd (m x k : Nat) : Nat := if x + k > m then m else x + k

/-- The `n` bytes of `x`, lowest first (R11: little-endian). -/
def leBytes : Nat → Nat → List Byte
  | 0, _ => []
  | n + 1, x => BitVec.ofNat 8 x :: leBytes n (x / 256)

/-- The value of bytes listed lowest first. -/
def leVal : List Byte → Nat
  | [] => 0
  | b :: bs => b.toNat + 256 * leVal bs

/-- The value of bytes listed highest first (network order). -/
def beVal (bs : List Byte) : Nat := leVal bs.reverse

/-- The `n` bytes of `x`, highest first. -/
def beBytes (n x : Nat) : List Byte := (leBytes n x).reverse

/-- Bytes `i` to `i + n - 1` of a list, read little-endian; bytes past the end read 0. -/
def leAt (bs : List Byte) (i n : Nat) : Nat := leVal ((bs.drop i).take n)

/-- Number of set bits among the low `n` bits. -/
def popCount : Nat → Nat → Nat
  | 0, _ => 0
  | n + 1, x => x % 2 + popCount n (x / 2)

/-- The positions of the set bits among the low `n` bits, lowest first. -/
def bitList (n x : Nat) : List Nat := (List.range n).filter (fun i => bitAt x i)

/-- Set bit `i` of `x` to `b`. -/
def setBitAt (x i : Nat) (b : Bool) : Nat :=
  if bitAt x i = b then x else if b then x + 2 ^ i else x - 2 ^ i

/-- The bits of `x` (taken as an `n`-bit word) that are 0 in `m`. -/
def andNot (x m : Nat) : Nat := Nat.xor x (Nat.land x m)

/-- One bit of the reflected CRC-32. -/
def crcBit (r : Nat) : Nat := if r % 2 = 1 then Nat.xor (r / 2) 0xEDB88320 else r / 2

/-- One byte of the reflected CRC-32. -/
def crcByte (r : Nat) (b : Byte) : Nat :=
  (List.range 8).foldl (fun r _ => crcBit r) (Nat.xor r b.toNat)

/-- CRC-32 of IEEE 802.3: polynomial 0x04C11DB7, reflected, preset and final complement of all ones. -/
def crc32 (bs : List Byte) : Nat := Nat.xor (bs.foldl crcByte 0xFFFFFFFF) 0xFFFFFFFF

end Sys2Proof.Machine
end

