-- ==== Sys2Proof/Machine/Float.lean ====
section
/-!
DEFINITION. Machine/Float.lean: binary32 and binary64 numbers as bit patterns and their exact values
(12_control_programs.md R347, R348, R351; 18_recorder_ledger.md R488). A format is given by its exponent width `eb` and
fraction width `mb`.
-/
namespace Sys2Proof.Machine

/-- 2 to an integer power. -/
def pow2 (e : Int) : Rat := if 0 ≤ e then ((2 ^ e.toNat : Nat) : Rat) else mkRat 1 (2 ^ (-e).toNat)

def fSign (eb mb x : Nat) : Bool := bitAt x (eb + mb)
def fExp (eb mb x : Nat) : Nat := x / 2 ^ mb % 2 ^ eb
def fMan (mb x : Nat) : Nat := x % 2 ^ mb
def fNan (eb mb x : Nat) : Bool := fExp eb mb x == 2 ^ eb - 1 && fMan mb x != 0
def fInf (eb mb x : Nat) : Bool := fExp eb mb x == 2 ^ eb - 1 && fMan mb x == 0
def fFinite (eb mb x : Nat) : Bool := fExp eb mb x != 2 ^ eb - 1
def fZero (eb mb x : Nat) : Bool := fExp eb mb x == 0 && fMan mb x == 0

/-- The exact value of a finite number. -/
def fVal (eb mb x : Nat) : Rat :=
  let bias : Int := 2 ^ (eb - 1) - 1
  let m := fMan mb x
  let v := if fExp eb mb x = 0 then (m : Rat) * pow2 (1 - bias - mb)
    else ((2 ^ mb + m : Nat) : Rat) * pow2 ((fExp eb mb x : Int) - bias - mb)
  if fSign eb mb x then -v else v

/-- The integer nearest to a number that is not negative, ties to even. -/
def roundEven (r : Rat) : Nat :=
  let f := r.floor.toNat
  let t := r - (f : Rat)
  if t < mkRat 1 2 then f else if mkRat 1 2 < t then f + 1 else f + f % 2

/-- The integer nearest to a number, ties to even. -/
def roundEvenInt (r : Rat) : Int := if r < 0 then -(roundEven (-r) : Int) else roundEven r

/-- ⌊log2 r⌋ of a positive number. -/
def floorLog2 (r : Rat) : Int :=
  let k : Int := (Nat.log2 r.num.toNat : Int) - (Nat.log2 r.den : Int)
  if pow2 k ≤ r then k else k - 1

/-- The pattern nearest to a number, ties to even, with `neg` as the sign of a zero; a number too large gives an
infinity. -/
def fRound (eb mb : Nat) (neg : Bool) (r : Rat) : Nat :=
  let bias : Int := 2 ^ (eb - 1) - 1
  let sg := if r < 0 ∨ (r = 0 ∧ neg) then 2 ^ (eb + mb) else 0
  let a := if r < 0 then -r else r
  if a = 0 then sg
  else
    let e := max (floorLog2 a) (1 - bias)
    let m := roundEven (a * pow2 (mb - e))
    let (m, e) := if m ≥ 2 ^ (mb + 1) then (m / 2, e + 1) else (m, e)
    if e > bias then sg + (2 ^ eb - 1) * 2 ^ mb
    else if m < 2 ^ mb then sg + m
    else sg + (e + bias).toNat * 2 ^ mb + (m - 2 ^ mb)

/-- The value of a binary32 or binary64 pattern that is finite. -/
def val32 (x : Nat) : Rat := fVal 8 23 x
def val64 (x : Nat) : Rat := fVal 11 52 x
/-- The nearest patterns. -/
def round32 (r : Rat) : Nat := fRound 8 23 false r
def round64 (r : Rat) : Nat := fRound 11 52 false r
def finite32 (x : Nat) : Bool := fFinite 8 23 x
def nan32 (x : Nat) : Bool := fNan 8 23 x

/-! ### Program arithmetic, R347 to R351 -/

/-- The quiet NaN of R347. -/
def qnan : Nat := 0x7FC00000

/-- A subnormal pattern as zero of the same sign (R347). -/
def ftz (x : Nat) : Nat := if fExp 8 23 x = 0 then x / 2 ^ 31 % 2 * 2 ^ 31 else x % 2 ^ 32

def neg32 (x : Nat) : Bool := fSign 8 23 x
def inf32 (x : Nat) : Bool := fInf 8 23 x
def zero32 (x : Nat) : Bool := fZero 8 23 x
/-- An infinity or a zero with a sign. -/
def infOf (neg : Bool) : Nat := 0x7F800000 + 2 ^ 31 * b2n neg
def zeroOf (neg : Bool) : Nat := 2 ^ 31 * b2n neg

/-- A correctly rounded result, with subnormals written as zero. -/
def result32 (neg : Bool) (r : Rat) : Nat := ftz (fRound 8 23 neg r)

/-- a × b + c with one rounding (R350). -/
def fma32 (a b c : Nat) : Nat :=
  let ps := neg32 a != neg32 b
  if nan32 a || nan32 b || nan32 c then qnan
  else if (inf32 a && zero32 b) || (zero32 a && inf32 b) then qnan
  else if inf32 a || inf32 b then (if inf32 c && neg32 c != ps then qnan else infOf ps)
  else if inf32 c then infOf (neg32 c)
  else
    let p := val32 a * val32 b
    let r := p + val32 c
    if r = 0 then zeroOf (ps && neg32 c && p == 0) else result32 false r

def neg32of (a : Nat) : Nat := if neg32 a then a - 2 ^ 31 else a + 2 ^ 31
def abs32 (a : Nat) : Nat := if neg32 a then a - 2 ^ 31 else a

/-- a + b. -/
def add32 (a b : Nat) : Nat :=
  if nan32 a || nan32 b then qnan
  else if inf32 a then (if inf32 b && neg32 a != neg32 b then qnan else infOf (neg32 a))
  else if inf32 b then infOf (neg32 b)
  else
    let r := val32 a + val32 b
    if r = 0 then zeroOf (neg32 a && neg32 b) else result32 false r

/-- a × b. -/
def mul32 (a b : Nat) : Nat :=
  let ps := neg32 a != neg32 b
  if nan32 a || nan32 b || (inf32 a && zero32 b) || (zero32 a && inf32 b) then qnan
  else if inf32 a || inf32 b then infOf ps
  else result32 ps (val32 a * val32 b)

/-- a < b, a ≤ b and a = b; false with a NaN (R347). -/
def lt32 (a b : Nat) : Bool :=
  if nan32 a || nan32 b then false
  else if inf32 a then neg32 a && !(inf32 b && neg32 b)
  else if inf32 b then !neg32 b
  else val32 a < val32 b
def eq32 (a b : Nat) : Bool :=
  if nan32 a || nan32 b then false
  else if inf32 a || inf32 b then a == b
  else val32 a == val32 b
def le32 (a b : Nat) : Bool := lt32 a b || eq32 a b

/-- MIN and MAX of R348: −0.0 lies below +0.0, and a single NaN gives the other operand. -/
def min32 (a b : Nat) : Nat :=
  if nan32 a then (if nan32 b then qnan else b) else if nan32 b then a
  else if lt32 a b || (eq32 a b && neg32 a) then a else b
def max32 (a b : Nat) : Nat :=
  if nan32 a then (if nan32 b then qnan else b) else if nan32 b then a
  else if lt32 b a || (eq32 a b && !neg32 a) then a else b

/-- trunc(x) of R349; none for a NaN, an infinity and a magnitude of 2^31 or more. -/
def trunc32 (a : Nat) : Option Int :=
  if !finite32 a then none
  else
    let v := val32 a
    let t : Int := if v < 0 then -((-v).floor) else v.floor
    if t.natAbs ≥ 2 ^ 31 then none else some t

/-- ROUND of R349. -/
def rnd32 (a : Nat) : Nat :=
  if nan32 a then qnan
  else if inf32 a || fExp 8 23 a ≥ 150 then a
  else fRound 8 23 (neg32 a) (roundEvenInt (val32 a) : Int)

/-- √a, correctly rounded (R351): the root of a scaled integer, with a half for what is cut off. -/
def sqrt32 (a : Nat) : Nat :=
  if nan32 a then qnan
  else if zero32 a then a
  else if neg32 a then qnan
  else if inf32 a then a
  else
    let m := 2 ^ 23 + fMan 23 a
    let e : Int := (fExp 8 23 a : Int) - 150
    let odd := e % 2 ≠ 0
    let n := m * 2 ^ (if odd then 41 else 40)
    let h : Int := if odd then (e - 41) / 2 else (e - 40) / 2
    let r := Nat.sqrt n
    result32 false (((2 * r + (if r * r = n then 0 else 1) : Nat) : Rat) * pow2 (h - 1))

/-- The width of the last place at a positive magnitude. -/
def ulp32 (r : Rat) : Rat := pow2 (max (floorLog2 r) (-126) - 23)

/-- A result that the spec only bounds: the pattern picked, where it is finite and meets the bound, else the rounded
one. -/
def within (ok : Rat → Bool) (exact pick : Nat) : Nat :=
  let p := ftz pick
  if finite32 p && ok (val32 p) then p else exact

/-! ### Reference values for the bounds of R351: rational, with an error far below each bound -/

/-- π. -/
def piRat : Rat := mkRat 314159265358979323846264338327950288 (10 ^ 35)

/-- A square root, to a relative error below 2^−60. -/
def sqrtRat (r : Rat) : Rat := mkRat (Nat.sqrt (r.num.toNat * r.den * 4 ^ 60)) (r.den * 2 ^ 60)

/-- The terms x, −x³/3!, … (step 1 from x) or 1, −x²/2!, … (step 0 from 1) of a sine or cosine, summed. -/
def trigSum : Nat → Nat → Rat → Rat → Rat
  | 0, _, _, _ => 0
  | f + 1, k, t, x2 => t + trigSum f (k + 2) (-(t * x2 / (((k + 1) * (k + 2) : Nat) : Rat))) x2

/-- A number of turns reduced to −1/2 up to 1/2. -/
def reduceTurns (a : Rat) : Rat :=
  let f := a - (a.floor : Rat)
  if mkRat 1 2 < f then f - 1 else f

/-- sin 2πa and cos 2πa. -/
def sinTurns (a : Rat) : Rat := let x := reduceTurns a * 2 * piRat; trigSum 15 1 x (x * x)
def cosTurns (a : Rat) : Rat := let x := reduceTurns a * 2 * piRat; trigSum 15 0 1 (x * x)

/-- The terms u, −u³/3, … of an arctangent, summed. -/
def atanSum : Nat → Nat → Rat → Rat → Rat
  | 0, _, _, _ => 0
  | f + 1, k, t, u2 => t / ((k : Nat) : Rat) + atanSum f (k + 2) (-(t * u2)) u2

/-- arctan t for 0 ≤ t ≤ 1, by arctan t = arctan 1/2 + arctan ((t − 1/2) / (1 + t/2)). -/
def atanUnit (t : Rat) : Rat :=
  let s (u : Rat) : Rat := atanSum 24 1 u (u * u)
  s (mkRat 1 2) + s ((t - mkRat 1 2) / (1 + t / 2))

/-- atan2(y, x) in turns, for operands that are not both zero. -/
def atanTurns (y x : Rat) : Rat :=
  let ay := if y < 0 then -y else y
  let ax := if x < 0 then -x else x
  let p := if ay ≤ ax then atanUnit (ay / ax) / (2 * piRat) else mkRat 1 4 - atanUnit (ax / ay) / (2 * piRat)
  let p := if x < 0 then mkRat 1 2 - p else p
  if y < 0 then -p else p

/-- What a bound gives up for the error of a reference value: 2^−40. -/
def slack : Rat := pow2 (-40)
def absRat (r : Rat) : Rat := if r < 0 then -r else r

/-- 1/a within 1 ulp (R351); `pick` is the open choice. -/
def rcp32 (a pick : Nat) : Nat :=
  if nan32 a then qnan
  else if zero32 a then infOf (neg32 a)
  else if inf32 a then zeroOf (neg32 a)
  else
    let r := 1 / val32 a
    within (fun p => absRat (p - r) ≤ ulp32 (absRat r)) (result32 (neg32 a) r) pick

/-- 1/√a within 1 ulp (R351); the spec gives no result for −0, where the pick stands. -/
def rsq32 (a pick : Nat) : Nat :=
  if nan32 a then qnan
  else if zero32 a then (if neg32 a then ftz pick else infOf false)
  else if neg32 a then qnan
  else if inf32 a then 0
  else
    let r := sqrtRat (1 / val32 a)
    within (fun p => absRat (p - r) ≤ ulp32 r * (1 - slack)) (result32 false r) pick

/-- A sine or cosine: absolute error at most 2^−22 (R351). -/
def trig32 (exact : Rat) (pick : Nat) : Nat :=
  within (fun p => absRat (p - exact) ≤ pow2 (-22) - slack) (result32 false exact) pick

/-- atan2 in turns, in the range (−0.5, 0.5] (R350, R351): a value that would round to −0.5 is the next above it; the spec gives no result for an infinite operand, where the pick stands. -/
def atan32 (a b pick : Nat) : Nat :=
  if nan32 a || nan32 b then qnan
  else if zero32 a && zero32 b then 0
  else if inf32 a || inf32 b then ftz pick
  else
    let r := atanTurns (val32 a) (val32 b)
    within (fun p => absRat (p - r) ≤ pow2 (-22) - slack && -(mkRat 1 2) < p && p ≤ mkRat 1 2) (let e := result32 false r; if e = 0xBF000000 then 0xBEFFFFFF else e) pick

/-- √(a² + b²) within 2 ulp (R351). -/
def hypot32 (a b pick : Nat) : Nat :=
  if inf32 a || inf32 b then infOf false
  else if nan32 a || nan32 b then qnan
  else if zero32 a && zero32 b then 0
  else
    let r := sqrtRat (val32 a * val32 a + val32 b * val32 b)
    within (fun p => absRat (p - r) ≤ 2 * ulp32 r * (1 - slack)) (result32 false r) pick

/-- One result of ROT: absolute error at most 2^−21 × HYPOT(a, b) (R351); the spec gives no result for an infinite a or b,
where the pick stands. `f` gives the exact result from sin 2πc and cos 2πc. -/
def rot32 (a b c : Nat) (f : Rat → Rat → Rat) (pick : Nat) : Nat :=
  if nan32 a || nan32 b || nan32 c || inf32 c then qnan
  else if inf32 a || inf32 b then ftz pick
  else
    let r := f (sinTurns (val32 c)) (cosTurns (val32 c))
    let h := sqrtRat (val32 a * val32 a + val32 b * val32 b)
    within (fun p => absRat (p - r) ≤ (pow2 (-21) - slack) * h) (result32 false r) pick

/-- One interpolation step of LUT within 1 ulp (R356): points t0 and t1 and the fraction between them. A point that is not
finite goes through the operations of R347. -/
def lut32 (t0 t1 : Nat) (fr : Rat) (pick : Nat) : Nat :=
  if finite32 t0 && finite32 t1 then
    let r := val32 t0 + fr * (val32 t1 - val32 t0)
    if r = 0 then 0
    else within (fun p => absRat (p - r) ≤ ulp32 (absRat r)) (result32 false r) pick
  else add32 t0 (mul32 (round32 fr) (add32 t1 (neg32of t0)))

end Sys2Proof.Machine
end

