-- ==== Sys2Proof/Config.lean ====
section
/-!
DEFINITION. Config.lean: what the spec leaves open. Each constant is opaque: nothing in Lean can evaluate it, so a claim
holds for every value. `Config.free` is applied to the counter `State.freeCount` (log 6); the others are functions of
the operands the value depends on.
-/
namespace Sys2Proof

/-- A value the spec leaves open, one for each draw (log 6). -/
opaque Config.free : Nat → Nat

/-- SHA3-512 (R217, R305, R504, R516): 64 bytes of digest as a number. -/
opaque Config.sha3 : List Byte → BitVec 512

/-- ML-DSA-87 verification (R217, R508): public key, 64-byte message digest, signature. -/
opaque Config.mldsa : List Byte → BitVec 512 → List Byte → Bool

/-- ML-DSA-87 signing with the identity key of the device (R519). -/
opaque Config.mldsaSign : BitVec 512 → Nat → List Byte

/-- Switch damage of a full cycle (R491), 1/N_f: the model words A, B1 and B2, and range and mean in 0.01 °C. The spec gives
no precision for the powers. -/
opaque Config.cycleDamage : Nat → Nat → Nat → Int → Int → Rat

/-- Capacitor thermal damage of one second (R492): the model words L0 and TREF, and TEMP1 in 0.01 °C. -/
opaque Config.secondDamage : Nat → Nat → Int → Rat

/-- The result pattern of an operation that R351 bounds but does not fix (RCP, RSQ, LUT, SINCOS, ATAN2, HYPOT, ROT), and of a
sine of the injection generator (R330): operation code, result index, and the operands. -/
opaque Config.approx : Nat → Nat → Nat → Nat → Nat → Nat

/-- The serializer check of a cell lane (R44, R501): ticks from entry to Boot to its start, and its length, for each lane and each start. -/
opaque Config.checkStart : Nat → Nat → Nat
opaque Config.checkLength : Nat → Nat → Nat

/-- What OTP and the mask hold of one chip (R388, R515): the source MAC address, the serial number. -/
opaque Config.mac : Nat
opaque Config.serial : Nat

/-- The signs with which a set's DELAY and the tick-clock phase enter its stamps (R392). -/
opaque Config.delayAdds : Bool
opaque Config.phaseAdds : Bool

/-- The code that the raw capture holds (R404): number of the capture, capture channel and sample. -/
opaque Config.captured : Nat → Nat → Nat → BitVec 14

/-- Entry 0 of the trusted maker key list: the digest of the Waisin WCH-12 maker key, held in the boot ROM (R516). -/
opaque Config.waisinKey : BitVec 512

/-- SHA3-512 of the Perterdo root public key, held in OTP (R506). -/
opaque Config.vendorRoot : BitVec 512

/-- The identity public key, generated in the chip, and the vendor root key's signature of its certificate (R517). -/
opaque Config.identityKey : List Byte
opaque Config.identitySig : List Byte

end Sys2Proof
end

