-- ==== Sys2Proof/Machine/Fld.lean ====
section
/-!
DEFINITION. Machine/Fld.lean: what a register field is (R11, R12 of 00_scope.md), and the default class of each fault
source (the chapters' cause tables).
-/
namespace Sys2Proof.Machine

/-- The access codes of R12. CONST fields are RO here: both ignore writes. -/
inductive Acc where
  | ro | rw | wo | w1c | rwc
  deriving DecidableEq, Repr

/-- One register field: the address of its word, its lowest bit, its width, its access code and its reset value. -/
structure Fld where
  addr : Nat
  lo : Nat
  width : Nat
  acc : Acc
  reset : Nat
  deriving DecidableEq, Repr

/-- Where a field is kept: one key for each bit position of each word. -/
def Fld.key (f : Fld) : Nat := f.addr * 32 + f.lo

/-- A family of register words: base address, step, count, and the fields of word `n`. -/
structure Blk where
  base : Nat
  step : Nat
  count : Nat
  fields : Nat → List Fld

/-- A report's source: block 1 to 16, source index 0 to 15, instance (R434, 16_fault_collector.md). -/
structure Src where
  block : Nat
  src : Nat
  inst : Nat
  deriving DecidableEq, Repr

/-- The default classes of the sources of each block, from source index 0 up; 0 where the index is unused.
0 Grey, 1 Amber, 2 Crimson, 3 Black (R437). -/
def defaultClasses : List (List Nat) := [
  [0, 2, 1, 0, 0, 0, 0, 0, 0, 1, 0, 0, 0, 0, 0, 0],
  [1, 2, 2, 1, 1, 1, 1, 2, 1, 0, 0, 0, 0, 0, 0, 0],
  [0, 1, 1, 1, 1, 0, 0, 0, 0, 1, 1, 0, 0, 0, 0, 0],
  [1, 0, 0, 0, 0, 0, 0, 0, 0, 0, 0, 0, 0, 0, 0, 0],
  [0, 1, 0, 0, 0, 1, 0, 1, 0, 0, 0, 0, 0, 0, 0, 0],
  [0, 0, 0, 1, 1, 1, 0, 0, 2, 0, 0, 0, 0, 0, 0, 0],
  [2, 2, 2, 2, 1, 2, 2, 1, 1, 2, 0, 0, 0, 0, 0, 0],
  [1, 1, 0, 1, 0, 0, 3, 1, 1, 0, 1, 3, 3, 0, 0, 0],
  [0, 2, 0, 0, 1, 2, 1, 1, 0, 0, 2, 0, 0, 0, 0, 0],
  [0, 1, 0, 0, 1, 1, 1, 0, 0, 0, 0, 0, 0, 0, 0, 0],
  [0, 0, 0, 0, 0, 0, 1, 1, 0, 0, 0, 0, 0, 0, 0, 0],
  [1, 1, 1, 0, 0, 0, 1, 1, 1, 1, 1, 0, 0, 0, 0, 0],
  [3, 1, 3, 1, 1, 1, 1, 0, 1, 0, 0, 0, 0, 0, 0, 0],
  [0, 1, 1, 3, 0, 3, 0, 0, 0, 0, 0, 0, 0, 0, 0, 0],
  [0, 0, 0, 0, 1, 0, 1, 1, 0, 0, 0, 0, 0, 0, 0, 0],
  [0, 0, 0, 1, 1, 1, 1, 3, 0, 0, 1, 1, 1, 1, 3, 3]]

/-- The default class of source `i` of block `b`. -/
def defaultClass (b i : Nat) : Nat := (defaultClasses.getD (b - 1) []).getD i 0

end Sys2Proof.Machine
end

