-- ==== Sys2Proof/Machine/Regs.lean ====
section
/-!
DEFINITION. Machine/Regs.lean: every register field of the spec under its own name, from the register tables of
the chapters (rule and file stand with each register), and the list of the fields of each register word.
A field named `V` is a whole register. Fields that the spec derives from other state have no storage of their own:
reading them is `Machine.derivedBits` (Machine/Flags.lean).
-/
namespace Sys2Proof.Machine.R

/- RST_CAUSE, R68 (03_power_reset_insertion.md) -/
def RST_CAUSE.PREV_CAUSE : Fld := ⟨0x100F00, 24, 8, .ro, 0⟩
def RST_CAUSE.CAUSE : Fld := ⟨0x100F00, 16, 8, .ro, 0⟩
def RST_CAUSE.PGOOD_LOW : Fld := ⟨0x100F00, 12, 4, .ro, 0⟩
def RST_CAUSE.STAGE : Fld := ⟨0x100F00, 8, 4, .ro, 0⟩
def RST_CAUSE.SECOND : Fld := ⟨0x100F00, 2, 1, .w1c, 0⟩
def RST_CAUSE.TSC_VALID : Fld := ⟨0x100F00, 1, 1, .ro, 0⟩
/- START_STAT, R76 (03_power_reset_insertion.md) -/
def START_STAT.FAILED_TOTAL : Fld := ⟨0x100F0C, 16, 16, .ro, 0⟩
def START_STAT.SLATE_REASON : Fld := ⟨0x100F0C, 8, 8, .ro, 0⟩
def START_STAT.SLATE : Fld := ⟨0x100F0C, 7, 1, .ro, 0⟩
def START_STAT.PENDING : Fld := ⟨0x100F0C, 6, 1, .ro, 0⟩
def START_STAT.FAILED_CONSEC : Fld := ⟨0x100F0C, 0, 2, .ro, 0⟩
/- CLK_STAT, R120 (04_clocks_plls.md) -/
def CLK_STAT.SPREAD_ACT : Fld := ⟨0xD0000, 9, 1, .ro, 0⟩
def CLK_STAT.TS_FALLBACK : Fld := ⟨0xD0000, 8, 1, .ro, 0⟩
def CLK_STAT.CKOUT_BUSY : Fld := ⟨0xD0000, 7, 1, .ro, 0⟩
def CLK_STAT.CAN_BUSY : Fld := ⟨0xD0000, 6, 1, .ro, 0⟩
def CLK_STAT.RC_TRIM_READY : Fld := ⟨0xD0000, 5, 1, .ro, 1⟩
def CLK_STAT.CKREF_OK : Fld := ⟨0xD0000, 4, 1, .ro, 1⟩
def CLK_STAT.LOCK_T : Fld := ⟨0xD0000, 3, 1, .ro, 1⟩
def CLK_STAT.LOCK_S : Fld := ⟨0xD0000, 2, 1, .ro, 1⟩
def CLK_STAT.LOCK_C : Fld := ⟨0xD0000, 1, 1, .ro, 1⟩
def CLK_STAT.LOCK_A : Fld := ⟨0xD0000, 0, 1, .ro, 1⟩
/- CLK_CAUSE, R121 (04_clocks_plls.md) -/
def CLK_CAUSE.SETTING_REFUSED : Fld := ⟨0xD0004, 10, 1, .w1c, 0⟩
def CLK_CAUSE.FORCE_REFUSED : Fld := ⟨0xD0004, 9, 1, .w1c, 0⟩
def CLK_CAUSE.LOCK_FILTER : Fld := ⟨0xD0004, 8, 1, .w1c, 0⟩
def CLK_CAUSE.REF_DEFERRED : Fld := ⟨0xD0004, 7, 1, .w1c, 0⟩
def CLK_CAUSE.MUX_HANG_CKOUT : Fld := ⟨0xD0004, 6, 1, .w1c, 0⟩
def CLK_CAUSE.MUX_HANG_CAN : Fld := ⟨0xD0004, 5, 1, .w1c, 0⟩
def CLK_CAUSE.PLLT_LOST : Fld := ⟨0xD0004, 4, 1, .w1c, 0⟩
def CLK_CAUSE.PLLS_LOST : Fld := ⟨0xD0004, 3, 1, .w1c, 0⟩
def CLK_CAUSE.PLLC_LOST_ALONE : Fld := ⟨0xD0004, 2, 1, .w1c, 0⟩
def CLK_CAUSE.PLLC_LOST_PARTNER : Fld := ⟨0xD0004, 1, 1, .w1c, 0⟩
def CLK_CAUSE.MON_FAILED : Fld := ⟨0xD0004, 0, 1, .w1c, 0⟩
/- CLK_SPREAD, R122 (04_clocks_plls.md) -/
def CLK_SPREAD.EN : Fld := ⟨0xD0008, 3, 1, .rwc, 0⟩
def CLK_SPREAD.MODE : Fld := ⟨0xD0008, 2, 1, .rwc, 0⟩
def CLK_SPREAD.DEPTH : Fld := ⟨0xD0008, 0, 2, .rwc, 0⟩
/- CLK_DITHER, R122 (04_clocks_plls.md) -/
def CLK_DITHER.DITHER_T : Fld := ⟨0xD000C, 3, 1, .rwc, 1⟩
def CLK_DITHER.DITHER_S : Fld := ⟨0xD000C, 2, 1, .rwc, 0⟩
def CLK_DITHER.DITHER_C : Fld := ⟨0xD000C, 1, 1, .rwc, 0⟩
def CLK_DITHER.DITHER_A : Fld := ⟨0xD000C, 0, 1, .rwc, 0⟩
/- CLK_SEED, R122 (04_clocks_plls.md) -/
def CLK_SEED.SEED (n : Nat) : Fld := ⟨0xD0010 + 0x4 * n, 0, 23, .rwc, 0x4B1⟩
/- CLK_MUX_CAN, R123 (04_clocks_plls.md) -/
def CLK_MUX_CAN.CURRENT : Fld := ⟨0xD0020, 7, 1, .ro, 0⟩
def CLK_MUX_CAN.BUSY : Fld := ⟨0xD0020, 6, 1, .ro, 0⟩
def CLK_MUX_CAN.CONSUMER_IDLE : Fld := ⟨0xD0020, 2, 1, .rw, 0⟩
def CLK_MUX_CAN.FORCE : Fld := ⟨0xD0020, 1, 1, .wo, 0⟩
def CLK_MUX_CAN.SEL : Fld := ⟨0xD0020, 0, 1, .rw, 0⟩
/- CLK_CKOUT, R123 (04_clocks_plls.md) -/
def CLK_CKOUT.EN : Fld := ⟨0xD0024, 31, 1, .rw, 0⟩
def CLK_CKOUT.FORCE : Fld := ⟨0xD0024, 30, 1, .wo, 0⟩
def CLK_CKOUT.SRC : Fld := ⟨0xD0024, 24, 4, .rw, 0⟩
def CLK_CKOUT.DIV_EFF : Fld := ⟨0xD0024, 12, 12, .ro, 1⟩
def CLK_CKOUT.DIV : Fld := ⟨0xD0024, 0, 12, .rw, 1⟩
/- CLK_PHASE_T, R124 (04_clocks_plls.md) -/
def CLK_PHASE_T.PENDING : Fld := ⟨0xD0028, 16, 16, .ro, 0⟩
def CLK_PHASE_T.PHASE : Fld := ⟨0xD0028, 0, 7, .ro, 0⟩
/- CLK_PLLLK, R124 (04_clocks_plls.md) -/
def CLK_PLLLK.QUAL_US : Fld := ⟨0xD002C, 16, 16, .ro, 0⟩
def CLK_PLLLK.HI : Fld := ⟨0xD002C, 1, 1, .ro, 1⟩
def CLK_PLLLK.LO : Fld := ⟨0xD002C, 0, 1, .ro, 0⟩
/- CLK_LOSSCNT, R124 (04_clocks_plls.md) -/
def CLK_LOSSCNT.LOSS_T : Fld := ⟨0xD0030, 24, 8, .ro, 0⟩
def CLK_LOSSCNT.LOSS_S : Fld := ⟨0xD0030, 16, 8, .ro, 0⟩
def CLK_LOSSCNT.LOSS_C : Fld := ⟨0xD0030, 8, 8, .ro, 0⟩
def CLK_LOSSCNT.HANGS : Fld := ⟨0xD0030, 0, 8, .ro, 0⟩
/- TS_STAT, R150 (05_timescale.md) -/
def TS_STAT.QUAL_CNT : Fld := ⟨0xC0008, 16, 4, .ro, 0⟩
def TS_STAT.EPOCH_MISMATCH : Fld := ⟨0xC0008, 10, 1, .ro, 0⟩
def TS_STAT.ONE_DIRECTION : Fld := ⟨0xC0008, 9, 1, .ro, 0⟩
def TS_STAT.SLEWING : Fld := ⟨0xC0008, 8, 1, .ro, 0⟩
def TS_STAT.STATE : Fld := ⟨0xC0008, 0, 3, .ro, 0⟩
/- TS_CAUSE, R151 (05_timescale.md) -/
def TS_CAUSE.OPSEC_TORN : Fld := ⟨0xC000C, 11, 1, .w1c, 0⟩
def TS_CAUSE.HOLDOVER_LIMIT : Fld := ⟨0xC000C, 10, 1, .w1c, 0⟩
def TS_CAUSE.RING_DELAY : Fld := ⟨0xC000C, 9, 1, .w1c, 0⟩
def TS_CAUSE.EPOCH : Fld := ⟨0xC000C, 8, 1, .w1c, 0⟩
def TS_CAUSE.GROUP_LOST : Fld := ⟨0xC000C, 7, 1, .w1c, 0⟩
def TS_CAUSE.ALIGN : Fld := ⟨0xC000C, 6, 1, .w1c, 0⟩
def TS_CAUSE.TOS_MISSING : Fld := ⟨0xC000C, 5, 1, .w1c, 0⟩
def TS_CAUSE.PPS_STRAY : Fld := ⟨0xC000C, 4, 1, .w1c, 0⟩
def TS_CAUSE.STEPPED : Fld := ⟨0xC000C, 3, 1, .w1c, 0⟩
def TS_CAUSE.REF_RANGE : Fld := ⟨0xC000C, 2, 1, .w1c, 0⟩
def TS_CAUSE.REF_JUMP : Fld := ⟨0xC000C, 1, 1, .w1c, 0⟩
def TS_CAUSE.REF_LOST : Fld := ⟨0xC000C, 0, 1, .w1c, 0⟩
/- LA_CAUSE, R181 (06_cell_lanes.md) -/
def LA_CAUSE.SPARE_EXHAUSTED : Fld := ⟨0x10000, 9, 1, .w1c, 0⟩
def LA_CAUSE.SETTING_REFUSED : Fld := ⟨0x10000, 8, 1, .w1c, 0⟩
/- QUAD_CFG, R182 (06_cell_lanes.md) -/
def QUAD_CFG.MAP_MODE (n : Nat) : Fld := ⟨0x10040 + 0x4 * n, 30, 2, .rwc, 0⟩
def QUAD_CFG.MAP (n : Nat) : Fld := ⟨0x10040 + 0x4 * n, 28, 2, .ro, 0⟩
def QUAD_CFG.SPARE_LOCK (n : Nat) : Fld := ⟨0x10040 + 0x4 * n, 27, 1, .ro, 0⟩
def QUAD_CFG.SPARE_SEL (n : Nat) : Fld := ⟨0x10040 + 0x4 * n, 24, 3, .rw, 0⟩
def QUAD_CFG.SPARE_BUSY (n : Nat) : Fld := ⟨0x10040 + 0x4 * n, 23, 1, .ro, 0⟩
/- LN_CTRL, R183 (06_cell_lanes.md) -/
def LN_CTRL.EN (n : Nat) : Fld := ⟨0x10100 + 0x40 * n, 31, 1, .rwc, 1⟩
def LN_CTRL.TX_INV (n : Nat) : Fld := ⟨0x10100 + 0x40 * n, 4, 1, .rwc, 0⟩
def LN_CTRL.CNT_CLR (n : Nat) : Fld := ⟨0x10100 + 0x40 * n, 3, 1, .wo, 0⟩
def LN_CTRL.RETRAIN (n : Nat) : Fld := ⟨0x10100 + 0x40 * n, 2, 1, .wo, 0⟩
def LN_CTRL.RX_POL (n : Nat) : Fld := ⟨0x10100 + 0x40 * n, 0, 2, .rwc, 0⟩
/- LN_STAT, R183 (06_cell_lanes.md) -/
def LN_STAT.STATE (n : Nat) : Fld := ⟨0x10104 + 0x40 * n, 28, 4, .ro, 1⟩
def LN_STAT.FAIL_STAGE (n : Nat) : Fld := ⟨0x10104 + 0x40 * n, 25, 3, .ro, 0⟩
def LN_STAT.RX_INV (n : Nat) : Fld := ⟨0x10104 + 0x40 * n, 24, 1, .ro, 0⟩
def LN_STAT.SIGNAL (n : Nat) : Fld := ⟨0x10104 + 0x40 * n, 23, 1, .ro, 0⟩
def LN_STAT.CDR_LOCK (n : Nat) : Fld := ⟨0x10104 + 0x40 * n, 22, 1, .ro, 0⟩
def LN_STAT.ALIGNED (n : Nat) : Fld := ⟨0x10104 + 0x40 * n, 21, 1, .ro, 0⟩
def LN_STAT.ON_SPARE (n : Nat) : Fld := ⟨0x10104 + 0x40 * n, 20, 1, .ro, 0⟩
def LN_STAT.PORT (n : Nat) : Fld := ⟨0x10104 + 0x40 * n, 19, 1, .ro, 0⟩
def LN_STAT.RX_PAD (n : Nat) : Fld := ⟨0x10104 + 0x40 * n, 12, 6, .ro, n⟩
def LN_STAT.ATTEMPT (n : Nat) : Fld := ⟨0x10104 + 0x40 * n, 0, 5, .ro, 0⟩
/- LN_CAUSE, R184 (06_cell_lanes.md) -/
def LN_CAUSE.RETRAINED (n : Nat) : Fld := ⟨0x10108 + 0x40 * n, 5, 1, .w1c, 0⟩
def LN_CAUSE.PRBS_LOSS (n : Nat) : Fld := ⟨0x10108 + 0x40 * n, 4, 1, .w1c, 0⟩
def LN_CAUSE.CODE_ERR (n : Nat) : Fld := ⟨0x10108 + 0x40 * n, 3, 1, .w1c, 0⟩
def LN_CAUSE.MAP_CONFLICT (n : Nat) : Fld := ⟨0x10108 + 0x40 * n, 2, 1, .w1c, 0⟩
def LN_CAUSE.LOST (n : Nat) : Fld := ⟨0x10108 + 0x40 * n, 1, 1, .w1c, 0⟩
def LN_CAUSE.ABSENT (n : Nat) : Fld := ⟨0x10108 + 0x40 * n, 0, 1, .w1c, 0⟩
/- LN_COUNTS, R185 (06_cell_lanes.md) -/
def LN_COUNTS.LOSSES (n : Nat) : Fld := ⟨0x10110 + 0x40 * n, 16, 16, .ro, 0⟩
def LN_COUNTS.FAILED_ATTEMPTS (n : Nat) : Fld := ⟨0x10110 + 0x40 * n, 0, 16, .ro, 0⟩
/- LN_TEST, R185 (06_cell_lanes.md) -/
def LN_TEST.PRBS_GEN (n : Nat) : Fld := ⟨0x10114 + 0x40 * n, 31, 1, .rwc, 0⟩
def LN_TEST.PRBS_CHK (n : Nat) : Fld := ⟨0x10114 + 0x40 * n, 30, 1, .rwc, 0⟩
def LN_TEST.PATTERN (n : Nat) : Fld := ⟨0x10114 + 0x40 * n, 28, 2, .rwc, 0⟩
def LN_TEST.LOOP (n : Nat) : Fld := ⟨0x10114 + 0x40 * n, 26, 2, .rwc, 0⟩
def LN_TEST.PRBS_LOCK (n : Nat) : Fld := ⟨0x10114 + 0x40 * n, 25, 1, .ro, 0⟩
/- LN_INJECT, R185 (06_cell_lanes.md) -/
def LN_INJECT.INJ_ONE (n : Nat) : Fld := ⟨0x10118 + 0x40 * n, 31, 1, .wo, 0⟩
def LN_INJECT.INJ_RATE (n : Nat) : Fld := ⟨0x10118 + 0x40 * n, 0, 4, .rw, 0⟩
/- LK_CAUSE, R222 (07_limisk_link.md) -/
/- LKN_CTRL, R223 (07_limisk_link.md) -/
def LKN_CTRL.ID_POLICY (n : Nat) : Fld := ⟨0x20100 + 0x40 * n, 31, 1, .rwc, 0⟩
def LKN_CTRL.DESC_FETCH (n : Nat) : Fld := ⟨0x20100 + 0x40 * n, 30, 1, .wo, 0⟩
def LKN_CTRL.CNT_CLR (n : Nat) : Fld := ⟨0x20100 + 0x40 * n, 29, 1, .wo, 0⟩
/- LKN_STAT, R223 (07_limisk_link.md) -/
def LKN_STAT.ADMIT (n : Nat) : Fld := ⟨0x20104 + 0x40 * n, 30, 2, .ro, 0⟩
def LKN_STAT.ID_RESULT (n : Nat) : Fld := ⟨0x20104 + 0x40 * n, 27, 3, .ro, 0⟩
def LKN_STAT.OWNER_TX (n : Nat) : Fld := ⟨0x20104 + 0x40 * n, 26, 1, .ro, 0⟩
def LKN_STAT.OWNER_ACK (n : Nat) : Fld := ⟨0x20104 + 0x40 * n, 25, 1, .ro, 0⟩
def LKN_STAT.OTHER_OWNER (n : Nat) : Fld := ⟨0x20104 + 0x40 * n, 24, 1, .ro, 0⟩
def LKN_STAT.HOLD (n : Nat) : Fld := ⟨0x20104 + 0x40 * n, 23, 1, .ro, 0⟩
def LKN_STAT.BYPASS_CLOSED (n : Nat) : Fld := ⟨0x20104 + 0x40 * n, 22, 1, .ro, 0⟩
def LKN_STAT.FAULT (n : Nat) : Fld := ⟨0x20104 + 0x40 * n, 21, 1, .ro, 0⟩
def LKN_STAT.ENABLED (n : Nat) : Fld := ⟨0x20104 + 0x40 * n, 20, 1, .ro, 0⟩
def LKN_STAT.NO_OWNER (n : Nat) : Fld := ⟨0x20104 + 0x40 * n, 16, 4, .ro, 0⟩
/- LKN_CAUSE, R224 (07_limisk_link.md) -/
def LKN_CAUSE.PARAM_FAIL (n : Nat) : Fld := ⟨0x20108 + 0x40 * n, 9, 1, .w1c, 0⟩
def LKN_CAUSE.PORT_WRONG (n : Nat) : Fld := ⟨0x20108 + 0x40 * n, 8, 1, .w1c, 0⟩
def LKN_CAUSE.ID_CHANGED (n : Nat) : Fld := ⟨0x20108 + 0x40 * n, 7, 1, .w1c, 0⟩
def LKN_CAUSE.ID_FAIL (n : Nat) : Fld := ⟨0x20108 + 0x40 * n, 6, 1, .w1c, 0⟩
def LKN_CAUSE.DELAY_RANGE (n : Nat) : Fld := ⟨0x20108 + 0x40 * n, 5, 1, .w1c, 0⟩
def LKN_CAUSE.DELAY_SHIFT (n : Nat) : Fld := ⟨0x20108 + 0x40 * n, 4, 1, .w1c, 0⟩
def LKN_CAUSE.LVL_MISMATCH (n : Nat) : Fld := ⟨0x20108 + 0x40 * n, 3, 1, .w1c, 0⟩
def LKN_CAUSE.TLM_LOST (n : Nat) : Fld := ⟨0x20108 + 0x40 * n, 2, 1, .w1c, 0⟩
def LKN_CAUSE.EDGE_OVERFLOW (n : Nat) : Fld := ⟨0x20108 + 0x40 * n, 1, 1, .w1c, 0⟩
def LKN_CAUSE.HEAD_FAULT (n : Nat) : Fld := ⟨0x20108 + 0x40 * n, 0, 1, .w1c, 0⟩
/- LKN_DELAY, R225 (07_limisk_link.md) -/
def LKN_DELAY.RTT (n : Nat) : Fld := ⟨0x2010C + 0x40 * n, 16, 16, .ro, 0⟩
def LKN_DELAY.D (n : Nat) : Fld := ⟨0x2010C + 0x40 * n, 0, 10, .ro, 0⟩
/- LKN_COUNTS, R225 (07_limisk_link.md) -/
def LKN_COUNTS.BAD_UP (n : Nat) : Fld := ⟨0x20110 + 0x40 * n, 16, 16, .ro, 0⟩
def LKN_COUNTS.SCARLET_RX (n : Nat) : Fld := ⟨0x20110 + 0x40 * n, 8, 8, .ro, 0⟩
def LKN_COUNTS.CUT (n : Nat) : Fld := ⟨0x20110 + 0x40 * n, 0, 8, .ro, 0⟩
/- LKN_PARAM, R225 (07_limisk_link.md) -/
def LKN_PARAM.ADDR (n : Nat) : Fld := ⟨0x20114 + 0x40 * n, 24, 8, .rw, 0⟩
def LKN_PARAM.VALUE (n : Nat) : Fld := ⟨0x20114 + 0x40 * n, 8, 16, .rw, 0⟩
def LKN_PARAM.STATUS (n : Nat) : Fld := ⟨0x20114 + 0x40 * n, 6, 2, .ro, 0⟩
def LKN_PARAM.GO (n : Nat) : Fld := ⟨0x20114 + 0x40 * n, 5, 1, .wo, 0⟩
def LKN_PARAM.WRITE (n : Nat) : Fld := ⟨0x20114 + 0x40 * n, 4, 1, .rw, 0⟩
/- MOD_CTRL, R253 (08_modulation.md) -/
def MOD_CTRL.MIN_COMMIT : Fld := ⟨0x60000, 0, 10, .rwc, 0x40⟩
/- MOD_STAT, R253 (08_modulation.md) -/
def MOD_STAT.LAST_SHOOT_LEG : Fld := ⟨0x60004, 23, 9, .ro, 0⟩
def MOD_STAT.LAST_CLAMP_LEG : Fld := ⟨0x60004, 14, 9, .ro, 0⟩
/- MOD_CAUSE, R253 (08_modulation.md) -/
def MOD_CAUSE.TRIP_LATCHED (i : Nat) : Fld := ⟨0x60008, 24 + i, 1, .w1c, 0⟩
def MOD_CAUSE.TRIP_EVENT (i : Nat) : Fld := ⟨0x60008, 16 + i, 1, .w1c, 0⟩
def MOD_CAUSE.TRIP_CLR_REFUSED : Fld := ⟨0x60008, 6, 1, .w1c, 0⟩
def MOD_CAUSE.REFRESH_RANGE : Fld := ⟨0x60008, 5, 1, .w1c, 0⟩
def MOD_CAUSE.PER_SHORT : Fld := ⟨0x60008, 4, 1, .w1c, 0⟩
def MOD_CAUSE.SHOOT_REQ : Fld := ⟨0x60008, 3, 1, .w1c, 0⟩
def MOD_CAUSE.CMP_CLAMP : Fld := ⟨0x60008, 2, 1, .w1c, 0⟩
def MOD_CAUSE.SETTING_REFUSED : Fld := ⟨0x60008, 1, 1, .w1c, 0⟩
/- MOD_TREF, R253 (08_modulation.md) -/
def MOD_TREF.TREF : Fld := ⟨0x60010, 0, 12, .rwc, 0x19A⟩
/- MOD_THOLD, R253 (08_modulation.md) -/
def MOD_THOLD.THOLD : Fld := ⟨0x60014, 0, 26, .rwc, 0x19000⟩
/- MOD_GRPREF, R253 (08_modulation.md) -/
def MOD_GRPREF.EVT (n : Nat) : Fld := ⟨0x60040 + 0x4 * n, 8, 2, .rwc, 1⟩
def MOD_GRPREF.CARRIER (n : Nat) : Fld := ⟨0x60040 + 0x4 * n, 0, 6, .rwc, 0⟩
/- TRIP_CFG, R254 (08_modulation.md) -/
def TRIP_CFG.EN (n : Nat) : Fld := ⟨0x60100 + 0x10 * n, 31, 1, .rwc, 0⟩
def TRIP_CFG.POL (n : Nat) : Fld := ⟨0x60100 + 0x10 * n, 30, 1, .rwc, 0⟩
def TRIP_CFG.GATES (n : Nat) : Fld := ⟨0x60100 + 0x10 * n, 29, 1, .rwc, 1⟩
def TRIP_CFG.SOFT (n : Nat) : Fld := ⟨0x60100 + 0x10 * n, 28, 1, .rwc, 0⟩
def TRIP_CFG.N (n : Nat) : Fld := ⟨0x60100 + 0x10 * n, 20, 8, .rwc, 1⟩
def TRIP_CFG.FILT (n : Nat) : Fld := ⟨0x60100 + 0x10 * n, 12, 8, .rwc, 8⟩
def TRIP_CFG.LATCH_EN (n : Nat) : Fld := ⟨0x60100 + 0x10 * n, 11, 1, .rwc, 1⟩
def TRIP_CFG.STRINGS (n : Nat) : Fld := ⟨0x60100 + 0x10 * n, 0, 8, .rwc, 0⟩
/- TRIP_CTRL, R254 (08_modulation.md) -/
def TRIP_CTRL.CLR (n : Nat) : Fld := ⟨0x60104 + 0x10 * n, 31, 1, .wo, 0⟩
def TRIP_CTRL.REARM (n : Nat) : Fld := ⟨0x60104 + 0x10 * n, 0, 16, .rwc, 0x3E8⟩
/- TRIP_STAT, R254 (08_modulation.md) -/
def TRIP_STAT.TRIPACT (n : Nat) : Fld := ⟨0x60108 + 0x10 * n, 31, 1, .ro, 0⟩
def TRIP_STAT.LATCHED (n : Nat) : Fld := ⟨0x60108 + 0x10 * n, 30, 1, .ro, 0⟩
def TRIP_STAT.CLR_PENDING (n : Nat) : Fld := ⟨0x60108 + 0x10 * n, 29, 1, .ro, 0⟩
def TRIP_STAT.CNT (n : Nat) : Fld := ⟨0x60108 + 0x10 * n, 16, 8, .ro, 0⟩
def TRIP_STAT.TOTAL (n : Nat) : Fld := ⟨0x60108 + 0x10 * n, 0, 16, .ro, 0⟩
/- CAR_CTRL, R255 (08_modulation.md) -/
def CAR_CTRL.EN (n : Nat) : Fld := ⟨0x61000 + 0x20 * n, 31, 1, .rw, 0⟩
def CAR_CTRL.RUNNING (n : Nat) : Fld := ⟨0x61000 + 0x20 * n, 30, 1, .ro, 0⟩
def CAR_CTRL.COMMIT_SRC (n : Nat) : Fld := ⟨0x61000 + 0x20 * n, 27, 3, .rwc, 1⟩
def CAR_CTRL.GROUPED (n : Nat) : Fld := ⟨0x61000 + 0x20 * n, 26, 1, .rwc, 0⟩
def CAR_CTRL.GROUP (n : Nat) : Fld := ⟨0x61000 + 0x20 * n, 22, 4, .rwc, 0⟩
/- CAR_PER, R255 (08_modulation.md) -/
def CAR_PER.PER (n : Nat) : Fld := ⟨0x61004 + 0x20 * n, 0, 26, .rw, 0x5000⟩
/- CAR_PHASE, R255 (08_modulation.md) -/
def CAR_PHASE.PHASE (n : Nat) : Fld := ⟨0x61008 + 0x20 * n, 0, 26, .rw, 0⟩
/- CAR_EVTCMP, R255 (08_modulation.md) -/
def CAR_EVTCMP.EVT_CMP (n : Nat) : Fld := ⟨0x6100C + 0x20 * n, 0, 26, .rw, 0x3FFFFFF⟩
/- CAR_TRIG, R255 (08_modulation.md) -/
def CAR_TRIG.TRIG_SRC (n : Nat) : Fld := ⟨0x61010 + 0x20 * n, 16, 3, .rwc, 1⟩
def CAR_TRIG.PRESC (n : Nat) : Fld := ⟨0x61010 + 0x20 * n, 8, 8, .rwc, 1⟩
def CAR_TRIG.PRESC_PHASE (n : Nat) : Fld := ⟨0x61010 + 0x20 * n, 0, 8, .rwc, 0⟩
/- CAR_STAT, R255 (08_modulation.md) -/
/- CAR_PERIODS, R255 (08_modulation.md) -/
def CAR_PERIODS.PERIODS (n : Nat) : Fld := ⟨0x61018 + 0x20 * n, 0, 32, .ro, 0⟩
/- LEG_CFG, R256 (08_modulation.md) -/
def LEG_CFG.MODE (n : Nat) : Fld := ⟨0x62000 + 0x20 * n, 29, 3, .rw, 0⟩
def LEG_CFG.ALIGN (n : Nat) : Fld := ⟨0x62000 + 0x20 * n, 27, 2, .rwc, 0⟩
def LEG_CFG.ALIGN2 (n : Nat) : Fld := ⟨0x62000 + 0x20 * n, 25, 2, .rwc, 0⟩
def LEG_CFG.RATIO (n : Nat) : Fld := ⟨0x62000 + 0x20 * n, 24, 1, .rwc, 0⟩
def LEG_CFG.REFRESH (n : Nat) : Fld := ⟨0x62000 + 0x20 * n, 23, 1, .rwc, 0⟩
def LEG_CFG.GROUPED (n : Nat) : Fld := ⟨0x62000 + 0x20 * n, 22, 1, .rwc, 0⟩
def LEG_CFG.GROUP (n : Nat) : Fld := ⟨0x62000 + 0x20 * n, 18, 4, .rwc, 0⟩
def LEG_CFG.CARRIER (n : Nat) : Fld := ⟨0x62000 + 0x20 * n, 12, 6, .rwc, n / 6⟩
/- LEG_VAL, R256 (08_modulation.md) -/
def LEG_VAL.VAL (n : Nat) : Fld := ⟨0x62004 + 0x20 * n, 0, 26, .rw, 0⟩
/- LEG_VAL2, R256 (08_modulation.md) -/
def LEG_VAL2.VAL2 (n : Nat) : Fld := ⟨0x62008 + 0x20 * n, 0, 26, .rw, 0⟩
/- LEG_DT, R256 (08_modulation.md) -/
def LEG_DT.MINP (n : Nat) : Fld := ⟨0x6200C + 0x20 * n, 16, 12, .rw, 0xC8⟩
def LEG_DT.DT (n : Nat) : Fld := ⟨0x6200C + 0x20 * n, 0, 12, .rw, 0xFFF⟩
/- LEG_STAT, R256 (08_modulation.md) -/
def LEG_STAT.SHOOTS (n : Nat) : Fld := ⟨0x62010 + 0x20 * n, 24, 8, .ro, 0⟩
def LEG_STAT.CLAMPS (n : Nat) : Fld := ⟨0x62010 + 0x20 * n, 16, 8, .ro, 0⟩
def LEG_STAT.FORCED_REFRESH (n : Nat) : Fld := ⟨0x62010 + 0x20 * n, 8, 8, .ro, 0⟩
def LEG_STAT.TRIP_HELD (n : Nat) : Fld := ⟨0x62010 + 0x20 * n, 1, 1, .ro, 0⟩
def LEG_STAT.SHOOT_OFF (n : Nat) : Fld := ⟨0x62010 + 0x20 * n, 0, 1, .ro, 0⟩
/- GS_STAT, R279 (09_gate_supervision.md) -/
def GS_STAT.LAST_CELL : Fld := ⟨0x70000, 8, 6, .ro, 0⟩
/- GS_CAUSE, R279 (09_gate_supervision.md) -/
def GS_CAUSE.SETTING_REFUSED : Fld := ⟨0x70004, 16, 1, .w1c, 0⟩
/- GS_POLICY, R279 (09_gate_supervision.md) -/
def GS_POLICY.UNREP_ACT : Fld := ⟨0x70008, 10, 1, .rwc, 1⟩
def GS_POLICY.TLM_BYPASS : Fld := ⟨0x70008, 9, 1, .rwc, 1⟩
def GS_POLICY.TEMP_BYPASS : Fld := ⟨0x70008, 8, 1, .rwc, 1⟩
def GS_POLICY.BOOTUV_SCOPE : Fld := ⟨0x70008, 7, 1, .rwc, 1⟩
def GS_POLICY.BOOTUV_BYPASS : Fld := ⟨0x70008, 6, 1, .rwc, 1⟩
def GS_POLICY.UV_SCOPE : Fld := ⟨0x70008, 5, 1, .rwc, 1⟩
def GS_POLICY.UV_BYPASS : Fld := ⟨0x70008, 4, 1, .rwc, 1⟩
def GS_POLICY.OTHER_BYPASS : Fld := ⟨0x70008, 3, 1, .rwc, 1⟩
def GS_POLICY.BACKSTOP_BYPASS : Fld := ⟨0x70008, 2, 1, .rwc, 1⟩
def GS_POLICY.CAPOV_BYPASS : Fld := ⟨0x70008, 1, 1, .rwc, 1⟩
def GS_POLICY.SC_BYPASS : Fld := ⟨0x70008, 0, 1, .rwc, 1⟩
/- GS_UVDEF, R279 (09_gate_supervision.md) -/
def GS_UVDEF.UV_HS_DEF : Fld := ⟨0x7000C, 16, 16, .rwc, 0x32C8⟩
def GS_UVDEF.UV_LS_DEF : Fld := ⟨0x7000C, 0, 16, .rwc, 0x32C8⟩
/- GS_UVCFG, R279 (09_gate_supervision.md) -/
def GS_UVCFG.HYS : Fld := ⟨0x70010, 12, 10, .rwc, 0x1F4⟩
def GS_UVCFG.WARN : Fld := ⟨0x70010, 0, 12, .rwc, 0x3E8⟩
/- GS_TEMP, R279 (09_gate_supervision.md) -/
def GS_TEMP.TEMP_WARN : Fld := ⟨0x70014, 16, 16, .rwc, 0x3A98⟩
def GS_TEMP.TEMP_TRIP : Fld := ⟨0x70014, 0, 16, .rwc, 0x445C⟩
/- GSC_CFG, R280 (09_gate_supervision.md) -/
def GSC_CFG.VGS_MASK (n : Nat) : Fld := ⟨0x70100 + 0x20 * n, 20, 12, .rwc, 0⟩
def GSC_CFG.DEB (n : Nat) : Fld := ⟨0x70100 + 0x20 * n, 16, 4, .rwc, 3⟩
def GSC_CFG.PARTNER_DELAY (n : Nat) : Fld := ⟨0x70100 + 0x20 * n, 0, 13, .rwc, 0⟩
/- GSC_UV, R280 (09_gate_supervision.md) -/
def GSC_UV.UV_HS (n : Nat) : Fld := ⟨0x70104 + 0x20 * n, 16, 16, .rwc, 0x32C8⟩
def GSC_UV.UV_LS (n : Nat) : Fld := ⟨0x70104 + 0x20 * n, 0, 16, .rwc, 0x32C8⟩
/- GSC_STAT, R280 (09_gate_supervision.md) -/
def GSC_STAT.STATE (n : Nat) : Fld := ⟨0x70108 + 0x20 * n, 30, 2, .ro, 0⟩
def GSC_STAT.BYPASS_REQ (n : Nat) : Fld := ⟨0x70108 + 0x20 * n, 29, 1, .ro, 0⟩
def GSC_STAT.OFF_GATES (n : Nat) : Fld := ⟨0x70108 + 0x20 * n, 12, 12, .ro, 0⟩
def GSC_STAT.UV_GATES (n : Nat) : Fld := ⟨0x70108 + 0x20 * n, 0, 12, .ro, 0⟩
/- GSC_COUNTS, R280 (09_gate_supervision.md) -/
def GSC_COUNTS.SC_COUNT (n : Nat) : Fld := ⟨0x70110 + 0x20 * n, 24, 8, .ro, 0⟩
def GSC_COUNTS.UV_COUNT (n : Nat) : Fld := ⟨0x70110 + 0x20 * n, 16, 8, .ro, 0⟩
def GSC_COUNTS.ISOLATIONS (n : Nat) : Fld := ⟨0x70110 + 0x20 * n, 8, 8, .ro, 0⟩
def GSC_COUNTS.CLEARS (n : Nat) : Fld := ⟨0x70110 + 0x20 * n, 0, 8, .ro, 0⟩
/- GSC_CTRL, R280 (09_gate_supervision.md) -/
def GSC_CTRL.CLEAR (n : Nat) : Fld := ⟨0x70114 + 0x20 * n, 31, 1, .wo, 0⟩
/- GSC_FIRST, R280 (09_gate_supervision.md) -/
def GSC_FIRST.SOURCE (n : Nat) : Fld := ⟨0x70118 + 0x20 * n, 28, 4, .ro, 0⟩
def GSC_FIRST.GATE (n : Nat) : Fld := ⟨0x70118 + 0x20 * n, 24, 4, .ro, 0xF⟩
def GSC_FIRST.CAUSE (n : Nat) : Fld := ⟨0x70118 + 0x20 * n, 16, 8, .ro, 0⟩
def GSC_FIRST.SEQ (n : Nat) : Fld := ⟨0x70118 + 0x20 * n, 8, 8, .ro, 0⟩
/- GSC_CAUSE, R281 (09_gate_supervision.md) -/
def GSC_CAUSE.CLEAR_REFUSED (n : Nat) : Fld := ⟨0x7010C + 0x20 * n, 10, 1, .w1c, 0⟩
def GSC_CAUSE.TEMP_TRIP (n : Nat) : Fld := ⟨0x7010C + 0x20 * n, 9, 1, .w1c, 0⟩
def GSC_CAUSE.TEMP_WARN (n : Nat) : Fld := ⟨0x7010C + 0x20 * n, 8, 1, .w1c, 0⟩
def GSC_CAUSE.BOOT_LOW (n : Nat) : Fld := ⟨0x7010C + 0x20 * n, 7, 1, .w1c, 0⟩
def GSC_CAUSE.BOOT_UV (n : Nat) : Fld := ⟨0x7010C + 0x20 * n, 6, 1, .w1c, 0⟩
def GSC_CAUSE.UVLO (n : Nat) : Fld := ⟨0x7010C + 0x20 * n, 5, 1, .w1c, 0⟩
def GSC_CAUSE.SCARLET_MISSING (n : Nat) : Fld := ⟨0x7010C + 0x20 * n, 4, 1, .w1c, 0⟩
def GSC_CAUSE.SCARLET_OTHER (n : Nat) : Fld := ⟨0x7010C + 0x20 * n, 3, 1, .w1c, 0⟩
def GSC_CAUSE.BACKSTOP (n : Nat) : Fld := ⟨0x7010C + 0x20 * n, 2, 1, .w1c, 0⟩
def GSC_CAUSE.CAP_OV (n : Nat) : Fld := ⟨0x7010C + 0x20 * n, 1, 1, .w1c, 0⟩
def GSC_CAUSE.SC (n : Nat) : Fld := ⟨0x7010C + 0x20 * n, 0, 1, .w1c, 0⟩
/- BAL_CTRL, R307 (10_balancing_duplex.md) -/
def BAL_CTRL.PREFER : Fld := ⟨0x80000, 31, 1, .rwc, 1⟩
def BAL_CTRL.HANDBACK : Fld := ⟨0x80000, 29, 2, .rwc, 0⟩
def BAL_CTRL.AUTO_INSERT : Fld := ⟨0x80000, 28, 1, .rwc, 0⟩
def BAL_CTRL.HB_QUAL : Fld := ⟨0x80000, 16, 10, .rwc, 0xA⟩
/- BAL_STAT, R307 (10_balancing_duplex.md) -/
def BAL_STAT.ROLE : Fld := ⟨0x80004, 30, 2, .ro, 0⟩
def BAL_STAT.PARTNER : Fld := ⟨0x80004, 28, 2, .ro, 0⟩
def BAL_STAT.MISSES : Fld := ⟨0x80004, 26, 2, .ro, 0⟩
def BAL_STAT.TAKEOVERS : Fld := ⟨0x80004, 18, 8, .ro, 0⟩
def BAL_STAT.HANDBACKS : Fld := ⟨0x80004, 10, 8, .ro, 0⟩
/- BAL_CAUSE, R307 (10_balancing_duplex.md) -/
def BAL_CAUSE.EJECT_ALONE : Fld := ⟨0x80008, 8, 1, .w1c, 0⟩
def BAL_CAUSE.SETTING_REFUSED : Fld := ⟨0x80008, 5, 1, .w1c, 0⟩
def BAL_CAUSE.HANDBACK_REFUSED : Fld := ⟨0x80008, 4, 1, .w1c, 0⟩
def BAL_CAUSE.CONFIG_MISMATCH : Fld := ⟨0x80008, 3, 1, .w1c, 0⟩
def BAL_CAUSE.HB_BAD : Fld := ⟨0x80008, 2, 1, .w1c, 0⟩
def BAL_CAUSE.DUPLEX_CONTENTION : Fld := ⟨0x80008, 1, 1, .w1c, 0⟩
def BAL_CAUSE.PARTNER_LOST : Fld := ⟨0x80008, 0, 1, .w1c, 0⟩
/- BAL_CMD, R307 (10_balancing_duplex.md) -/
def BAL_CMD.HANDBACK_GO : Fld := ⟨0x8000C, 31, 1, .wo, 0⟩
/- STR_CFG, R308 (10_balancing_duplex.md) -/
def STR_CFG.EN (n : Nat) : Fld := ⟨0x80100 + 0x20 * n, 31, 1, .rwc, 0⟩
def STR_CFG.RESERVE_MODE (n : Nat) : Fld := ⟨0x80100 + 0x20 * n, 30, 1, .rwc, 0⟩
def STR_CFG.KEY_SRC (n : Nat) : Fld := ⟨0x80100 + 0x20 * n, 29, 1, .rwc, 0⟩
def STR_CFG.N_REQ (n : Nat) : Fld := ⟨0x80100 + 0x20 * n, 16, 7, .rwc, 0⟩
def STR_CFG.K_MIN (n : Nat) : Fld := ⟨0x80100 + 0x20 * n, 8, 4, .rwc, 0⟩
/- STR_STAT, R308 (10_balancing_duplex.md) -/
/- STR_CAUSE, R308 (10_balancing_duplex.md) -/
def STR_CAUSE.RESERVE_INSERTED (n : Nat) : Fld := ⟨0x80110 + 0x20 * n, 3, 1, .w1c, 0⟩
def STR_CAUSE.KEY_INVALID (n : Nat) : Fld := ⟨0x80110 + 0x20 * n, 2, 1, .w1c, 0⟩
def STR_CAUSE.RESERVE_LOW (n : Nat) : Fld := ⟨0x80110 + 0x20 * n, 1, 1, .w1c, 0⟩
def STR_CAUSE.STRING_SHORT (n : Nat) : Fld := ⟨0x80110 + 0x20 * n, 0, 1, .w1c, 0⟩
/- BC_CTRL, R308 (10_balancing_duplex.md) -/
def BC_CTRL.INSERT (n : Nat) : Fld := ⟨0x80400 + 0x10 * n, 31, 1, .wo, 0⟩
def BC_CTRL.PARK (n : Nat) : Fld := ⟨0x80400 + 0x10 * n, 30, 1, .wo, 0⟩
/- BC_STAT, R308 (10_balancing_duplex.md) -/
def BC_STAT.STATE (n : Nat) : Fld := ⟨0x80404 + 0x10 * n, 29, 3, .ro, 0⟩
def BC_STAT.PARTNER_ADMITTED (n : Nat) : Fld := ⟨0x80404 + 0x10 * n, 23, 1, .ro, 0⟩
def BC_STAT.HELD_OUT (n : Nat) : Fld := ⟨0x80404 + 0x10 * n, 21, 1, .ro, 0⟩
/- BC_SORT, R308 (10_balancing_duplex.md) -/
def BC_SORT.RANKED (n : Nat) : Fld := ⟨0x8040C + 0x10 * n, 31, 1, .ro, 0⟩
def BC_SORT.RANK (n : Nat) : Fld := ⟨0x8040C + 0x10 * n, 16, 6, .ro, 0⟩
def BC_SORT.KEY (n : Nat) : Fld := ⟨0x8040C + 0x10 * n, 0, 16, .ro, 0⟩
/- BC_CAUSE, R308 (10_balancing_duplex.md) -/
def BC_CAUSE.CLOSE_FAIL (n : Nat) : Fld := ⟨0x80408 + 0x10 * n, 1, 1, .w1c, 0⟩
def BC_CAUSE.OPEN_FAIL (n : Nat) : Fld := ⟨0x80408 + 0x10 * n, 0, 1, .w1c, 0⟩
/- CE_STAT, R335 (11_control_engine.md) -/
def CE_STAT.LAST_TILE_ERR : Fld := ⟨0x90000, 20, 6, .ro, 0x3F⟩
/- CE_CAUSE, R335 (11_control_engine.md) -/
def CE_CAUSE.INJ_DONE : Fld := ⟨0x90004, 3, 1, .w1c, 0⟩
def CE_CAUSE.CAP_DONE : Fld := ⟨0x90004, 2, 1, .w1c, 0⟩
def CE_CAUSE.TILE_ERROR : Fld := ⟨0x90004, 1, 1, .w1c, 0⟩
def CE_CAUSE.SETTING_REFUSED : Fld := ⟨0x90004, 0, 1, .w1c, 0⟩
/- CE_MADDR, R335 (11_control_engine.md) -/
def CE_MADDR.MEM : Fld := ⟨0x90020, 30, 2, .rw, 0⟩
def CE_MADDR.WORD : Fld := ⟨0x90020, 0, 16, .rw, 0⟩
/- INJ_CFG, R336 (11_control_engine.md) -/
def INJ_CFG.TYPE : Fld := ⟨0x90040, 29, 3, .rw, 0⟩
def INJ_CFG.START : Fld := ⟨0x90040, 28, 1, .wo, 0⟩
def INJ_CFG.STOP : Fld := ⟨0x90040, 27, 1, .wo, 0⟩
def INJ_CFG.TARGET : Fld := ⟨0x90040, 26, 1, .rw, 0⟩
def INJ_CFG.SP : Fld := ⟨0x90040, 23, 3, .rw, 0⟩
def INJ_CFG.INJ_CTX : Fld := ⟨0x90040, 16, 7, .rw, 0⟩
def INJ_CFG.LEN : Fld := ⟨0x90040, 0, 16, .rw, 0⟩
/- CAP_CFG, R336 (11_control_engine.md) -/
def CAP_CFG.ARM : Fld := ⟨0x90050, 31, 1, .wo, 0⟩
def CAP_CFG.STOP : Fld := ⟨0x90050, 30, 1, .wo, 0⟩
def CAP_CFG.SYNC : Fld := ⟨0x90050, 29, 1, .rw, 0⟩
def CAP_CFG.CAP_CTX : Fld := ⟨0x90050, 22, 7, .rw, 0⟩
def CAP_CFG.DEC : Fld := ⟨0x90050, 14, 8, .rw, 1⟩
def CAP_CFG.LEN : Fld := ⟨0x90050, 0, 12, .rw, 0⟩
/- CAP_SEL, R336 (11_control_engine.md) -/
def CAP_SEL.CH3 : Fld := ⟨0x90054, 24, 8, .rw, 0x28⟩
def CAP_SEL.CH2 : Fld := ⟨0x90054, 16, 8, .rw, 0x27⟩
def CAP_SEL.CH1 : Fld := ⟨0x90054, 8, 8, .rw, 1⟩
def CAP_SEL.CH0 : Fld := ⟨0x90054, 0, 8, .rw, 0⟩
/- CAP_STAT, R336 (11_control_engine.md) -/
def CAP_STAT.BUSY : Fld := ⟨0x90058, 31, 1, .ro, 0⟩
def CAP_STAT.DONE : Fld := ⟨0x90058, 30, 1, .ro, 0⟩
def CAP_STAT.COUNT : Fld := ⟨0x90058, 16, 12, .ro, 0⟩
def CAP_STAT.GAPS : Fld := ⟨0x90058, 0, 16, .ro, 0⟩
/- CX_CFG, R337 (11_control_engine.md) -/
def CX_CFG.EN (n : Nat) : Fld := ⟨0x91000 + 0x80 * n, 31, 1, .rwc, 0⟩
def CX_CFG.POLICY (n : Nat) : Fld := ⟨0x91000 + 0x80 * n, 30, 1, .rwc, 0⟩
def CX_CFG.ABORT_BYPASS (n : Nat) : Fld := ⟨0x91000 + 0x80 * n, 29, 1, .rwc, 0⟩
def CX_CFG.SP_FREEZE (n : Nat) : Fld := ⟨0x91000 + 0x80 * n, 28, 1, .rw, 0⟩
def CX_CFG.STRINGS (n : Nat) : Fld := ⟨0x91000 + 0x80 * n, 20, 8, .rwc, 0⟩
def CX_CFG.ENTRY (n : Nat) : Fld := ⟨0x91000 + 0x80 * n, 0, 15, .rwc, 0⟩
/- CX_TRIG, R337 (11_control_engine.md) -/
def CX_TRIG.SRC (n : Nat) : Fld := ⟨0x91004 + 0x80 * n, 29, 3, .rwc, 0⟩
def CX_TRIG.SEL (n : Nat) : Fld := ⟨0x91004 + 0x80 * n, 0, 7, .rwc, 0⟩
/- CX_PER, R337 (11_control_engine.md) -/
def CX_PER.PER (n : Nat) : Fld := ⟨0x91008 + 0x80 * n, 0, 26, .rwc, 0x5000⟩
/- CX_PHASE, R337 (11_control_engine.md) -/
def CX_PHASE.PHASE (n : Nat) : Fld := ⟨0x9100C + 0x80 * n, 0, 26, .rwc, 0⟩
/- CX_COEF, R337 (11_control_engine.md) -/
def CX_COEF.COEF_LEN (n : Nat) : Fld := ⟨0x91010 + 0x80 * n, 16, 16, .rwc, 0⟩
def CX_COEF.COEF_BASE (n : Nat) : Fld := ⟨0x91010 + 0x80 * n, 0, 14, .rwc, 0⟩
/- CX_STATE, R337 (11_control_engine.md) -/
def CX_STATE.STATE_LEN (n : Nat) : Fld := ⟨0x91014 + 0x80 * n, 16, 16, .rwc, 0⟩
def CX_STATE.STATE_BASE (n : Nat) : Fld := ⟨0x91014 + 0x80 * n, 0, 15, .rwc, 0⟩
/- CX_OUT, R337 (11_control_engine.md) -/
def CX_OUT.OUT_COUNT (n : Nat) : Fld := ⟨0x91018 + 0x80 * n, 16, 9, .rwc, 0⟩
def CX_OUT.OUT_BASE (n : Nat) : Fld := ⟨0x91018 + 0x80 * n, 0, 9, .rwc, 0⟩
/- CX_CTRL, R337 (11_control_engine.md) -/
def CX_CTRL.RESTART (n : Nat) : Fld := ⟨0x9101C + 0x80 * n, 31, 1, .wo, 0⟩
def CX_CTRL.SOFT_TRIG (n : Nat) : Fld := ⟨0x9101C + 0x80 * n, 30, 1, .wo, 0⟩
def CX_CTRL.BANK_REQ (n : Nat) : Fld := ⟨0x9101C + 0x80 * n, 28, 2, .wo, 0⟩
def CX_CTRL.CNT_CLR (n : Nat) : Fld := ⟨0x9101C + 0x80 * n, 27, 1, .wo, 0⟩
/- CX_STAT, R337 (11_control_engine.md) -/
def CX_STAT.STATE (n : Nat) : Fld := ⟨0x91020 + 0x80 * n, 30, 2, .ro, 0⟩
def CX_STAT.BANK (n : Nat) : Fld := ⟨0x91020 + 0x80 * n, 29, 1, .ro, 0⟩
def CX_STAT.SWAP_PENDING (n : Nat) : Fld := ⟨0x91020 + 0x80 * n, 28, 1, .ro, 0⟩
def CX_STAT.PEND_BANK (n : Nat) : Fld := ⟨0x91020 + 0x80 * n, 27, 1, .ro, 0⟩
def CX_STAT.LAST_RUN (n : Nat) : Fld := ⟨0x91020 + 0x80 * n, 0, 16, .ro, 0⟩
/- CX_COUNTS, R337 (11_control_engine.md) -/
def CX_COUNTS.OVERRUNS (n : Nat) : Fld := ⟨0x91028 + 0x80 * n, 16, 16, .ro, 0⟩
def CX_COUNTS.NOT_COMMITTED (n : Nat) : Fld := ⟨0x91028 + 0x80 * n, 0, 16, .ro, 0⟩
/- CX_SAMPLES, R337 (11_control_engine.md) -/
def CX_SAMPLES.RELEASES (n : Nat) : Fld := ⟨0x9102C + 0x80 * n, 0, 32, .ro, 0⟩
/- CX_MAX, R337 (11_control_engine.md) -/
def CX_MAX.MAXRUN (n : Nat) : Fld := ⟨0x91030 + 0x80 * n, 16, 16, .ro, 0⟩
def CX_MAX.MAXDELAY (n : Nat) : Fld := ⟨0x91030 + 0x80 * n, 0, 16, .ro, 0⟩
/- CX_HCFG, R337 (11_control_engine.md) -/
def CX_HCFG.HCLR (n : Nat) : Fld := ⟨0x91034 + 0x80 * n, 31, 1, .wo, 0⟩
def CX_HCFG.SHIFT (n : Nat) : Fld := ⟨0x91034 + 0x80 * n, 0, 4, .rw, 8⟩
/- CX_CAUSE, R338 (11_control_engine.md) -/
def CX_CAUSE.RESTART_REFUSED (n : Nat) : Fld := ⟨0x91024 + 0x80 * n, 7, 1, .w1c, 0⟩
def CX_CAUSE.TILE_ERROR (n : Nat) : Fld := ⟨0x91024 + 0x80 * n, 6, 1, .w1c, 0⟩
def CX_CAUSE.WCET_RISK (n : Nat) : Fld := ⟨0x91024 + 0x80 * n, 5, 1, .w1c, 0⟩
def CX_CAUSE.TRIG_DROPPED (n : Nat) : Fld := ⟨0x91024 + 0x80 * n, 4, 1, .w1c, 0⟩
def CX_CAUSE.MEM_RANGE (n : Nat) : Fld := ⟨0x91024 + 0x80 * n, 3, 1, .w1c, 0⟩
def CX_CAUSE.OUT_RANGE (n : Nat) : Fld := ⟨0x91024 + 0x80 * n, 2, 1, .w1c, 0⟩
def CX_CAUSE.ABORTED (n : Nat) : Fld := ⟨0x91024 + 0x80 * n, 1, 1, .w1c, 0⟩
def CX_CAUSE.OVERRUN (n : Nat) : Fld := ⟨0x91024 + 0x80 * n, 0, 1, .w1c, 0⟩
/- MET_STAT, R387 (13_metrology.md) -/
def MET_STAT.PH_STATE : Fld := ⟨0xA0000, 30, 2, .ro, 0⟩
def MET_STAT.FREQ : Fld := ⟨0xA0000, 0, 24, .ro, 0⟩
/- MET_CAUSE, R387 (13_metrology.md) -/
def MET_CAUSE.TIME_UNSYNC : Fld := ⟨0xA0004, 6, 1, .w1c, 0⟩
def MET_CAUSE.BLOCK_MISSING : Fld := ⟨0xA0004, 5, 1, .w1c, 0⟩
def MET_CAUSE.FREQ_RANGE : Fld := ⟨0xA0004, 4, 1, .w1c, 0⟩
def MET_CAUSE.REPORT_SKIPPED : Fld := ⟨0xA0004, 3, 1, .w1c, 0⟩
def MET_CAUSE.SD_OVR : Fld := ⟨0xA0004, 2, 1, .w1c, 0⟩
def MET_CAUSE.SD_STUCK : Fld := ⟨0xA0004, 1, 1, .w1c, 0⟩
def MET_CAUSE.SETTING_REFUSED : Fld := ⟨0xA0004, 0, 1, .w1c, 0⟩
/- SDCK_CFG, R387 (13_metrology.md) -/
def SDCK_CFG.DLY3 : Fld := ⟨0xA0008, 27, 5, .rwc, 4⟩
def SDCK_CFG.DLY2 : Fld := ⟨0xA0008, 22, 5, .rwc, 4⟩
def SDCK_CFG.DLY1 : Fld := ⟨0xA0008, 17, 5, .rwc, 4⟩
def SDCK_CFG.DLY0 : Fld := ⟨0xA0008, 12, 5, .rwc, 4⟩
def SDCK_CFG.OVR_LIM : Fld := ⟨0xA0008, 4, 8, .rwc, 0xEB⟩
def SDCK_CFG.CKEN : Fld := ⟨0xA0008, 0, 4, .rwc, 0⟩
/- PMU_CFG, R387 (13_metrology.md) -/
def PMU_CFG.PH_EN : Fld := ⟨0xA000C, 31, 1, .rwc, 0⟩
def PMU_CFG.CLASS : Fld := ⟨0xA000C, 30, 1, .rwc, 0⟩
def PMU_CFG.F0 : Fld := ⟨0xA000C, 29, 1, .rwc, 0⟩
def PMU_CFG.POLAR : Fld := ⟨0xA000C, 28, 1, .rwc, 1⟩
def PMU_CFG.RATE : Fld := ⟨0xA000C, 24, 4, .rwc, 6⟩
def PMU_CFG.FREQ_SET : Fld := ⟨0xA000C, 22, 2, .rwc, 0⟩
def PMU_CFG.PS_MASK : Fld := ⟨0xA000C, 16, 4, .rwc, 0⟩
def PMU_CFG.PH_MASK : Fld := ⟨0xA000C, 4, 12, .rwc, 0⟩
def PMU_CFG.DIG_EN : Fld := ⟨0xA000C, 0, 1, .rwc, 1⟩
/- PMU_CFGCNT, R387 (13_metrology.md) -/
def PMU_CFGCNT.CFGCNT : Fld := ⟨0xA0018, 0, 16, .ro, 0⟩
/- SD_CFG, R387 (13_metrology.md) -/
def SD_CFG.EN (n : Nat) : Fld := ⟨0xA0100 + 0x10 * n, 31, 1, .rwc, 0⟩
def SD_CFG.INV (n : Nat) : Fld := ⟨0xA0100 + 0x10 * n, 30, 1, .rwc, 0⟩
def SD_CFG.CLK (n : Nat) : Fld := ⟨0xA0100 + 0x10 * n, 28, 2, .rwc, n / 6⟩
/- SD_STAT, R387 (13_metrology.md) -/
def SD_STAT.STUCK (n : Nat) : Fld := ⟨0xA010C + 0x10 * n, 31, 1, .ro, 0⟩
def SD_STAT.OVR (n : Nat) : Fld := ⟨0xA010C + 0x10 * n, 30, 1, .ro, 0⟩
def SD_STAT.RAW (n : Nat) : Fld := ⟨0xA010C + 0x10 * n, 0, 19, .ro, 0⟩
/- PH_CFG, R387 (13_metrology.md) -/
def PH_CFG.KIND (n : Nat) : Fld := ⟨0xA0400 + 0x10 * n, 31, 1, .rwc, 0⟩
def PH_CFG.SDD (n : Nat) : Fld := ⟨0xA0400 + 0x10 * n, 24, 5, .rwc, n⟩
/- EG_STAT, R387 (13_metrology.md) -/
def EG_STAT.LINK_UP : Fld := ⟨0x40000, 31, 1, .ro, 0⟩
def EG_STAT.AN_DONE : Fld := ⟨0x40000, 30, 1, .ro, 0⟩
def EG_STAT.TX_ON : Fld := ⟨0x40000, 29, 1, .ro, 0⟩
/- EG_CAUSE, R387 (13_metrology.md) -/
def EG_CAUSE.RX_BAD : Fld := ⟨0x40004, 3, 1, .w1c, 0⟩
def EG_CAUSE.CMD_BAD : Fld := ⟨0x40004, 2, 1, .w1c, 0⟩
def EG_CAUSE.CFG_CHANGED : Fld := ⟨0x40004, 1, 1, .w1c, 0⟩
def EG_CAUSE.LINK_DOWN : Fld := ⟨0x40004, 0, 1, .w1c, 0⟩
/- EG_COUNTS, R387 (13_metrology.md) -/
def EG_COUNTS.COMMANDS : Fld := ⟨0x40008, 16, 16, .ro, 0⟩
def EG_COUNTS.DATA_FRAMES : Fld := ⟨0x40008, 0, 16, .ro, 0⟩
/- WF_CTRL, R406 (14_fault_location.md) -/
def WF_CTRL.EN : Fld := ⟨0xB0000, 31, 1, .rwc, 0⟩
def WF_CTRL.SET1_EN : Fld := ⟨0xB0000, 30, 1, .rwc, 0⟩
def WF_CTRL.SET0_EN : Fld := ⟨0xB0000, 29, 1, .rwc, 0⟩
def WF_CTRL.BLANK_EN : Fld := ⟨0xB0000, 28, 1, .rwc, 1⟩
def WF_CTRL.LOC_SET : Fld := ⟨0xB0000, 27, 1, .rwc, 0⟩
def WF_CTRL.LOC_MODE : Fld := ⟨0xB0000, 26, 1, .rwc, 0⟩
def WF_CTRL.LAT : Fld := ⟨0xB0000, 21, 5, .rwc, 8⟩
def WF_CTRL.DIFF : Fld := ⟨0xB0000, 17, 4, .rwc, 4⟩
def WF_CTRL.HOLDOFF : Fld := ⟨0xB0000, 8, 8, .rwc, 0x14⟩
def WF_CTRL.BLANK_LEN : Fld := ⟨0xB0000, 0, 8, .rwc, 0x20⟩
/- WF_STAT, R406 (14_fault_location.md) -/
def WF_STAT.ALIGNED : Fld := ⟨0xB0004, 26, 6, .ro, 0⟩
def WF_STAT.STATE : Fld := ⟨0xB0004, 24, 2, .ro, 0⟩
def WF_STAT.EVENT_LO : Fld := ⟨0xB0004, 0, 16, .ro, 0⟩
/- WF_CAUSE, R406 (14_fault_location.md) -/
def WF_CAUSE.BANK_LEVEL : Fld := ⟨0xB0008, 7, 1, .w1c, 0⟩
def WF_CAUSE.ALIGN_FAIL : Fld := ⟨0xB0008, 6, 1, .w1c, 0⟩
def WF_CAUSE.OVR : Fld := ⟨0xB0008, 5, 1, .w1c, 0⟩
def WF_CAUSE.EVENT : Fld := ⟨0xB0008, 4, 1, .w1c, 0⟩
def WF_CAUSE.RECORD_LOST : Fld := ⟨0xB0008, 3, 1, .w1c, 0⟩
def WF_CAUSE.NO_REFLECTION : Fld := ⟨0xB0008, 2, 1, .w1c, 0⟩
def WF_CAUSE.AMBIGUOUS : Fld := ⟨0xB0008, 1, 1, .w1c, 0⟩
def WF_CAUSE.SETTING_REFUSED : Fld := ⟨0xB0008, 0, 1, .w1c, 0⟩
/- WF_CMD, R406 (14_fault_location.md) -/
def WF_CMD.ALIGN : Fld := ⟨0xB000C, 31, 1, .wo, 0⟩
def WF_CMD.ARM : Fld := ⟨0xB000C, 30, 1, .wo, 0⟩
def WF_CMD.STOP : Fld := ⟨0xB000C, 29, 1, .wo, 0⟩
/- WF_CAL, R406 (14_fault_location.md) -/
def WF_CAL.DELAY (n : Nat) : Fld := ⟨0xB0038 + 0x4 * n, 0, 16, .rwc, 0⟩
/- WF_CAP, R406 (14_fault_location.md) -/
def WF_CAP.CH3 : Fld := ⟨0xB0058, 28, 3, .rw, 3⟩
def WF_CAP.CH2 : Fld := ⟨0xB0058, 24, 3, .rw, 2⟩
def WF_CAP.CH1 : Fld := ⟨0xB0058, 20, 3, .rw, 1⟩
def WF_CAP.CH0 : Fld := ⟨0xB0058, 16, 3, .rw, 0⟩
def WF_CAP.PRE : Fld := ⟨0xB0058, 0, 16, .rw, 0x4000⟩
/- WF_CAPSTAT, R406 (14_fault_location.md) -/
def WF_CAPSTAT.BUSY : Fld := ⟨0xB005C, 31, 1, .ro, 0⟩
def WF_CAPSTAT.DONE : Fld := ⟨0xB005C, 30, 1, .ro, 0⟩
def WF_CAPSTAT.COUNT : Fld := ⟨0xB005C, 0, 17, .ro, 0⟩
/- WF_CADDR, R406 (14_fault_location.md) -/
def WF_CADDR.CH : Fld := ⟨0xB0068, 30, 2, .rw, 0⟩
def WF_CADDR.INDEX : Fld := ⟨0xB0068, 0, 16, .rw, 0⟩
/- SP_CTRL, R431 (15_spine_groups.md) -/
def SP_CTRL.FWD_TIMEOUT : Fld := ⟨0x30000, 0, 10, .rwc, 0x32⟩
/- SP_STAT, R431 (15_spine_groups.md) -/
/- SP_CAUSE, R431 (15_spine_groups.md) -/
def SP_CAUSE.FWD_TIMEOUT : Fld := ⟨0x30008, 7, 1, .w1c, 0⟩
def SP_CAUSE.MSG_DROPPED : Fld := ⟨0x30008, 6, 1, .w1c, 0⟩
def SP_CAUSE.NOTICE_BAD : Fld := ⟨0x30008, 5, 1, .w1c, 0⟩
def SP_CAUSE.RING_ORDER : Fld := ⟨0x30008, 4, 1, .w1c, 0⟩
def SP_CAUSE.POS_DUPLICATE : Fld := ⟨0x30008, 3, 1, .w1c, 0⟩
def SP_CAUSE.GROUP_MISMATCH : Fld := ⟨0x30008, 2, 1, .w1c, 0⟩
def SP_CAUSE.RING_OPEN : Fld := ⟨0x30008, 1, 1, .w1c, 0⟩
def SP_CAUSE.SETTING_REFUSED : Fld := ⟨0x30008, 0, 1, .w1c, 0⟩
/- SP_COUNTS, R431 (15_spine_groups.md) -/
def SP_COUNTS.DROPPED : Fld := ⟨0x3001C, 16, 16, .ro, 0⟩
def SP_COUNTS.NOTICES_RX : Fld := ⟨0x3001C, 8, 8, .ro, 0⟩
def SP_COUNTS.FWD_TIMEOUTS : Fld := ⟨0x3001C, 0, 8, .ro, 0⟩
/- SL_CTRL, R432 (15_spine_groups.md) -/
def SL_CTRL.EN (n : Nat) : Fld := ⟨0x30100 + 0x40 * n, 31, 1, .rwc, 1⟩
def SL_CTRL.PRECODE_REQ (n : Nat) : Fld := ⟨0x30100 + 0x40 * n, 30, 1, .rwc, 1⟩
def SL_CTRL.TX_INV (n : Nat) : Fld := ⟨0x30100 + 0x40 * n, 29, 1, .rwc, 0⟩
def SL_CTRL.RX_POL (n : Nat) : Fld := ⟨0x30100 + 0x40 * n, 27, 2, .rwc, 0⟩
def SL_CTRL.RETRAIN (n : Nat) : Fld := ⟨0x30100 + 0x40 * n, 26, 1, .wo, 0⟩
def SL_CTRL.CNT_CLR (n : Nat) : Fld := ⟨0x30100 + 0x40 * n, 25, 1, .wo, 0⟩
/- SL_STAT, R432 (15_spine_groups.md) -/
def SL_STAT.STATE (n : Nat) : Fld := ⟨0x30104 + 0x40 * n, 28, 4, .ro, 1⟩
def SL_STAT.FAIL_STAGE (n : Nat) : Fld := ⟨0x30104 + 0x40 * n, 25, 3, .ro, 0⟩
def SL_STAT.RX_INV (n : Nat) : Fld := ⟨0x30104 + 0x40 * n, 24, 1, .ro, 0⟩
def SL_STAT.SIGNAL (n : Nat) : Fld := ⟨0x30104 + 0x40 * n, 23, 1, .ro, 0⟩
def SL_STAT.CDR_LOCK (n : Nat) : Fld := ⟨0x30104 + 0x40 * n, 22, 1, .ro, 0⟩
def SL_STAT.BLOCK_LOCK (n : Nat) : Fld := ⟨0x30104 + 0x40 * n, 21, 1, .ro, 0⟩
def SL_STAT.PRECODE_TX (n : Nat) : Fld := ⟨0x30104 + 0x40 * n, 20, 1, .ro, 0⟩
def SL_STAT.PRECODE_RX (n : Nat) : Fld := ⟨0x30104 + 0x40 * n, 19, 1, .ro, 0⟩
def SL_STAT.CROSSED (n : Nat) : Fld := ⟨0x30104 + 0x40 * n, 18, 1, .ro, 0⟩
def SL_STAT.NB_POS (n : Nat) : Fld := ⟨0x30104 + 0x40 * n, 12, 6, .ro, 0⟩
def SL_STAT.NB_G (n : Nat) : Fld := ⟨0x30104 + 0x40 * n, 11, 1, .ro, 0⟩
def SL_STAT.NB_LANE (n : Nat) : Fld := ⟨0x30104 + 0x40 * n, 9, 2, .ro, 0⟩
def SL_STAT.ATTEMPT (n : Nat) : Fld := ⟨0x30104 + 0x40 * n, 0, 5, .ro, 0⟩
/- SL_CAUSE, R432 (15_spine_groups.md) -/
def SL_CAUSE.RETRAINED (n : Nat) : Fld := ⟨0x30108 + 0x40 * n, 5, 1, .w1c, 0⟩
def SL_CAUSE.PRBS_LOSS (n : Nat) : Fld := ⟨0x30108 + 0x40 * n, 4, 1, .w1c, 0⟩
def SL_CAUSE.CODE_ERR (n : Nat) : Fld := ⟨0x30108 + 0x40 * n, 3, 1, .w1c, 0⟩
def SL_CAUSE.SKEW (n : Nat) : Fld := ⟨0x30108 + 0x40 * n, 2, 1, .w1c, 0⟩
def SL_CAUSE.LOST (n : Nat) : Fld := ⟨0x30108 + 0x40 * n, 1, 1, .w1c, 0⟩
def SL_CAUSE.ABSENT (n : Nat) : Fld := ⟨0x30108 + 0x40 * n, 0, 1, .w1c, 0⟩
/- SL_DELAY, R432 (15_spine_groups.md) -/
def SL_DELAY.DELAY (n : Nat) : Fld := ⟨0x3010C + 0x40 * n, 0, 20, .ro, 0xFFFFF⟩
/- SL_COUNTS, R432 (15_spine_groups.md) -/
def SL_COUNTS.LOSSES (n : Nat) : Fld := ⟨0x30110 + 0x40 * n, 16, 16, .ro, 0⟩
def SL_COUNTS.FAILED_ATTEMPTS (n : Nat) : Fld := ⟨0x30110 + 0x40 * n, 0, 16, .ro, 0⟩
/- FC_CTRL, R456 (16_fault_collector.md) -/
def FC_CTRL.GREY_IRQ : Fld := ⟨0xE0000, 31, 1, .rwc, 0⟩
def FC_CTRL.INJ_ACT : Fld := ⟨0xE0000, 30, 1, .rwc, 0⟩
def FC_CTRL.SAFE_BYPASS : Fld := ⟨0xE0000, 29, 1, .rwc, 0⟩
def FC_CTRL.COAL_WIN : Fld := ⟨0xE0000, 0, 9, .rwc, 0x14⟩
/- FC_STAT, R456 (16_fault_collector.md) -/
def FC_STAT.HELD (i : Nat) : Fld := ⟨0xE0004, 0 + i, 1, .w1c, 0⟩
/- FC_LOST, R456 (16_fault_collector.md) -/
def FC_LOST.LOST (i : Nat) : Fld := ⟨0xE0008, 0 + i, 1, .w1c, 0⟩
/- FC_CAUSE, R456 (16_fault_collector.md) -/
def FC_CAUSE.SAFE_EXIT_REFUSED : Fld := ⟨0xE000C, 6, 1, .w1c, 0⟩
def FC_CAUSE.ECC_UNCORR : Fld := ⟨0xE000C, 5, 1, .w1c, 0⟩
def FC_CAUSE.ECC_CORR : Fld := ⟨0xE000C, 4, 1, .w1c, 0⟩
def FC_CAUSE.RING_BLACK : Fld := ⟨0xE000C, 3, 1, .w1c, 0⟩
def FC_CAUSE.INJ_MISS : Fld := ⟨0xE000C, 2, 1, .w1c, 0⟩
def FC_CAUSE.RECOV_LATCH : Fld := ⟨0xE000C, 1, 1, .w1c, 0⟩
def FC_CAUSE.SETTING_REFUSED : Fld := ⟨0xE000C, 0, 1, .w1c, 0⟩
/- FC_NFAULT, R457 (16_fault_collector.md) -/
def FC_NFAULT.DRIVE : Fld := ⟨0xE0010, 31, 1, .rw, 0⟩
def FC_NFAULT.PULSE : Fld := ⟨0xE0010, 30, 1, .ro, 0⟩
def FC_NFAULT.PENDING_REL : Fld := ⟨0xE0010, 29, 1, .ro, 0⟩
/- FC_RECOV, R457 (16_fault_collector.md) -/
def FC_RECOV.UNLATCH : Fld := ⟨0xE0014, 31, 1, .wo, 0⟩
def FC_RECOV.AUTO_EN : Fld := ⟨0xE0014, 28, 3, .rwc, 3⟩
def FC_RECOV.K : Fld := ⟨0xE0014, 24, 4, .rwc, 3⟩
def FC_RECOV.QUIET : Fld := ⟨0xE0014, 0, 14, .rwc, 0x3E8⟩
/- FC_RCNT, R457 (16_fault_collector.md) -/
def FC_RCNT.LATCH : Fld := ⟨0xE0018, 29, 3, .ro, 0⟩
def FC_RCNT.CNT : Fld := ⟨0xE0018, 0, 12, .ro, 0⟩
/- FC_FORCE, R457 (16_fault_collector.md) -/
def FC_FORCE.GO : Fld := ⟨0xE001C, 31, 1, .wo, 0⟩
def FC_FORCE.BLOCK : Fld := ⟨0xE001C, 23, 4, .wo, 0⟩
def FC_FORCE.SRC : Fld := ⟨0xE001C, 19, 4, .wo, 0⟩
def FC_FORCE.INSTANCE : Fld := ⟨0xE001C, 12, 7, .wo, 0⟩
/- FC_CBI, R457 (16_fault_collector.md) -/
def FC_CBI.ARM : Fld := ⟨0xE0020, 31, 1, .wo, 0⟩
def FC_CBI.ARMED : Fld := ⟨0xE0020, 30, 1, .ro, 0⟩
def FC_CBI.DONE : Fld := ⟨0xE0020, 29, 1, .ro, 0⟩
def FC_CBI.MEM : Fld := ⟨0xE0020, 26, 3, .rw, 0⟩
def FC_CBI.MASK : Fld := ⟨0xE0020, 0, 7, .rw, 0⟩
/- FC_FIRST, R458 (16_fault_collector.md) -/
def FC_FIRST.INJECTED (n : Nat) : Fld := ⟨0xE0100 + 0x10 * n, 30, 1, .ro, 0⟩
def FC_FIRST.OBSERVED (n : Nat) : Fld := ⟨0xE0100 + 0x10 * n, 29, 1, .ro, 0⟩
def FC_FIRST.EARLIER_REMOTE (n : Nat) : Fld := ⟨0xE0100 + 0x10 * n, 28, 1, .ro, 0⟩
def FC_FIRST.CLASS (n : Nat) : Fld := ⟨0xE0100 + 0x10 * n, 26, 2, .ro, 0⟩
def FC_FIRST.SRC (n : Nat) : Fld := ⟨0xE0100 + 0x10 * n, 22, 4, .ro, 0⟩
def FC_FIRST.INSTANCE (n : Nat) : Fld := ⟨0xE0100 + 0x10 * n, 15, 7, .ro, 0⟩
def FC_FIRST.SCOPE (n : Nat) : Fld := ⟨0xE0100 + 0x10 * n, 11, 4, .ro, 0⟩
/- FC_WIN, R458 (16_fault_collector.md) -/
def FC_WIN.OPEN (n : Nat) : Fld := ⟨0xE0200 + 0x4 * n, 31, 1, .ro, 0⟩
def FC_WIN.CLASS (n : Nat) : Fld := ⟨0xE0200 + 0x4 * n, 29, 2, .ro, 0⟩
def FC_WIN.FIRST_BLOCK (n : Nat) : Fld := ⟨0xE0200 + 0x4 * n, 25, 4, .ro, 0⟩
def FC_WIN.CONSEQ (n : Nat) : Fld := ⟨0xE0200 + 0x4 * n, 0, 16, .ro, 0⟩
/- FC_GRP_INFO, R458 (16_fault_collector.md) -/
def FC_GRP_INFO.VALID : Fld := ⟨0xE0030, 31, 1, .w1c, 0⟩
def FC_GRP_INFO.LOCAL : Fld := ⟨0xE0030, 30, 1, .ro, 0⟩
def FC_GRP_INFO.ORIGIN : Fld := ⟨0xE0030, 24, 6, .ro, 0⟩
def FC_GRP_INFO.SOURCE : Fld := ⟨0xE0030, 16, 8, .ro, 0⟩
/- TH_CTRL, R471 (17_thermal.md) -/
def TH_CTRL.SHED : Fld := ⟨0x100C00, 31, 1, .rwc, 1⟩
def TH_CTRL.PEAK_CLR : Fld := ⟨0x100C00, 30, 1, .wo, 0⟩
def TH_CTRL.HYST : Fld := ⟨0x100C00, 8, 5, .rwc, 4⟩
def TH_CTRL.RATE : Fld := ⟨0x100C00, 0, 7, .rwc, 8⟩
/- TH_STAT, R471 (17_thermal.md) -/
def TH_STAT.FAST : Fld := ⟨0x100C04, 31, 1, .ro, 0⟩
def TH_STAT.SHEDDING : Fld := ⟨0x100C04, 30, 1, .ro, 0⟩
def TH_STAT.WARN_ACT : Fld := ⟨0x100C04, 29, 1, .ro, 0⟩
def TH_STAT.THROT_ACT : Fld := ⟨0x100C04, 28, 1, .ro, 0⟩
def TH_STAT.RATE_ACT : Fld := ⟨0x100C04, 27, 1, .ro, 0⟩
def TH_STAT.FAILED : Fld := ⟨0x100C04, 12, 12, .ro, 0⟩
/- TH_CAUSE, R471 (17_thermal.md) -/
def TH_CAUSE.SHUTDOWN : Fld := ⟨0x100C08, 6, 1, .w1c, 0⟩
def TH_CAUSE.SENSORS_LOST : Fld := ⟨0x100C08, 5, 1, .w1c, 0⟩
def TH_CAUSE.SENSOR_FAIL : Fld := ⟨0x100C08, 4, 1, .w1c, 0⟩
def TH_CAUSE.RATE : Fld := ⟨0x100C08, 3, 1, .w1c, 0⟩
def TH_CAUSE.THROTTLE : Fld := ⟨0x100C08, 2, 1, .w1c, 0⟩
def TH_CAUSE.WARN : Fld := ⟨0x100C08, 1, 1, .w1c, 0⟩
def TH_CAUSE.SETTING_REFUSED : Fld := ⟨0x100C08, 0, 1, .w1c, 0⟩
/- TH_LIMITS, R471 (17_thermal.md) -/
def TH_LIMITS.SHUT : Fld := ⟨0x100C0C, 16, 8, .rwc, 0x78⟩
def TH_LIMITS.THROT : Fld := ⟨0x100C0C, 8, 8, .rwc, 0x6E⟩
def TH_LIMITS.WARN : Fld := ⟨0x100C0C, 0, 8, .rwc, 0x69⟩
/- TH_PEAK, R471 (17_thermal.md) -/
def TH_PEAK.SENSOR : Fld := ⟨0x100C10, 28, 4, .ro, 0⟩
def TH_PEAK.PEAK : Fld := ⟨0x100C10, 0, 16, .ro, 0x8000⟩
/- TH_SENS, R471 (17_thermal.md) -/
def TH_SENS.FAILED (n : Nat) : Fld := ⟨0x100C20 + 0x4 * n, 31, 1, .ro, 0⟩
def TH_SENS.TEMP (n : Nat) : Fld := ⟨0x100C20 + 0x4 * n, 0, 16, .ro, 0x8000⟩
/- REC_CTRL, R498 (18_recorder_ledger.md) -/
def REC_CTRL.HIST_EN : Fld := ⟨0xF0000, 16, 4, .rwc, 0xE⟩
def REC_CTRL.HIST_PERIOD : Fld := ⟨0xF0000, 0, 11, .rwc, 0x3C⟩
/- REC_STAT, R498 (18_recorder_ledger.md) -/
def REC_STAT.SAVING : Fld := ⟨0xF0004, 30, 1, .ro, 0⟩
/- REC_CAUSE, R498 (18_recorder_ledger.md) -/
def REC_CAUSE.LIFE_END : Fld := ⟨0xF0008, 7, 1, .w1c, 0⟩
def REC_CAUSE.LIFE_WARN : Fld := ⟨0xF0008, 6, 1, .w1c, 0⟩
def REC_CAUSE.HIST_EVICT : Fld := ⟨0xF0008, 5, 1, .w1c, 0⟩
def REC_CAUSE.LEDGER_DUP : Fld := ⟨0xF0008, 4, 1, .w1c, 0⟩
def REC_CAUSE.LEDGER_TORN : Fld := ⟨0xF0008, 3, 1, .w1c, 0⟩
def REC_CAUSE.QUEUE_LOST : Fld := ⟨0xF0008, 2, 1, .w1c, 0⟩
def REC_CAUSE.TORN : Fld := ⟨0xF0008, 1, 1, .w1c, 0⟩
def REC_CAUSE.SETTING_REFUSED : Fld := ⟨0xF0008, 0, 1, .w1c, 0⟩
/- REC_FPOS, R498 (18_recorder_ledger.md) -/
def REC_FPOS.NEWEST : Fld := ⟨0xF000C, 0, 10, .ro, 0⟩
/- REC_GPOS, R498 (18_recorder_ledger.md) -/
def REC_GPOS.NEWEST : Fld := ⟨0xF0010, 0, 13, .ro, 0x400⟩
/- REC_LOST01, R498 (18_recorder_ledger.md) -/
def REC_LOST01.DATA : Fld := ⟨0xF0018, 16, 16, .ro, 0⟩
def REC_LOST01.CONTROL : Fld := ⟨0xF0018, 0, 16, .ro, 0⟩
/- REC_LOST2, R498 (18_recorder_ledger.md) -/
def REC_LOST2.MANAGEMENT : Fld := ⟨0xF001C, 0, 16, .ro, 0⟩
/- REC_TORN, R498 (18_recorder_ledger.md) -/
def REC_TORN.TORN_REC : Fld := ⟨0xF0020, 16, 16, .ro, 0⟩
def REC_TORN.TORN_LED : Fld := ⟨0xF0020, 0, 16, .ro, 0⟩
/- REC_PEND, R498 (18_recorder_ledger.md) -/
def REC_PEND.PEND_F : Fld := ⟨0xF0024, 16, 16, .ro, 0⟩
def REC_PEND.PEND_G : Fld := ⟨0xF0024, 0, 16, .ro, 0⟩
/- REC_RADDR, R498 (18_recorder_ledger.md) -/
def REC_RADDR.SLOT : Fld := ⟨0xF0028, 16, 13, .rw, 0⟩
def REC_RADDR.UNIT : Fld := ⟨0xF0028, 0, 4, .rw, 0⟩
/- LG_CTRL, R498 (18_recorder_ledger.md) -/
def LG_CTRL.GATE : Fld := ⟨0xF0034, 8, 7, .rwc, 4⟩
def LG_CTRL.WARN : Fld := ⟨0xF0034, 0, 7, .rwc, 0x50⟩
/- LG_STAT, R498 (18_recorder_ledger.md) -/
/- SEC_STAT, R524 (19_security_repair.md) -/
def SEC_STAT.DEBUG : Fld := ⟨0x100000, 30, 2, .ro, 0⟩
/- SEC_CAUSE, R524 (19_security_repair.md) -/
def SEC_CAUSE.MAP_TORN : Fld := ⟨0x100004, 8, 1, .w1c, 0⟩
def SEC_CAUSE.MEM_UNREPAIRED : Fld := ⟨0x100004, 7, 1, .w1c, 0⟩
def SEC_CAUSE.REPAIR_MEM : Fld := ⟨0x100004, 6, 1, .w1c, 0⟩
def SEC_CAUSE.REPAIR_TILES : Fld := ⟨0x100004, 5, 1, .w1c, 0⟩
def SEC_CAUSE.DEBUG_OPEN : Fld := ⟨0x100004, 4, 1, .w1c, 0⟩
def SEC_CAUSE.UPDATE_REVERTED : Fld := ⟨0x100004, 3, 1, .w1c, 0⟩
def SEC_CAUSE.ROLLBACK : Fld := ⟨0x100004, 2, 1, .w1c, 0⟩
def SEC_CAUSE.AUTH_FAIL : Fld := ⟨0x100004, 1, 1, .w1c, 0⟩
def SEC_CAUSE.SETTING_REFUSED : Fld := ⟨0x100004, 0, 1, .w1c, 0⟩
/- SEC_BOOT, R524 (19_security_repair.md) -/
def SEC_BOOT.BANK : Fld := ⟨0x100008, 31, 1, .ro, 0⟩
def SEC_BOOT.FW_RESULT : Fld := ⟨0x100008, 16, 8, .ro, 0xFF⟩
def SEC_BOOT.LOAD_RESULT : Fld := ⟨0x100008, 8, 8, .ro, 0xFF⟩
def SEC_BOOT.TOKEN_RESULT : Fld := ⟨0x100008, 0, 8, .ro, 0xFF⟩
/- SEC_REPAIR, R524 (19_security_repair.md) -/
def SEC_REPAIR.TILES_BAD : Fld := ⟨0x10000C, 26, 6, .ro, 0⟩
def SEC_REPAIR.SPARES_USED : Fld := ⟨0x10000C, 21, 5, .ro, 0⟩
def SEC_REPAIR.ROWS_USED : Fld := ⟨0x10000C, 12, 9, .ro, 0⟩
def SEC_REPAIR.COLS_USED : Fld := ⟨0x10000C, 4, 8, .ro, 0⟩
def SEC_REPAIR.MAP_COPY : Fld := ⟨0x10000C, 3, 1, .ro, 0⟩
/- SUMSTAT, R542 (20_object_dictionary.md) -/
/- IRQ_PEND, R542 (20_object_dictionary.md) -/
/- IRQ_EN, R542 (20_object_dictionary.md) -/
def IRQ_EN.EN : Fld := ⟨0x8, 0, 16, .rw, 0xFFFF⟩
/- FN_STAT, R545 (20_object_dictionary.md) -/
def FN_STAT.BUS : Fld := ⟨0x50000, 26, 2, .ro, 0⟩
/- FN_CAUSE, R545 (20_object_dictionary.md) -/
def FN_CAUSE.SESSION_REFUSED : Fld := ⟨0x50004, 8, 1, .w1c, 0⟩
def FN_CAUSE.STORE_BAD : Fld := ⟨0x50004, 7, 1, .w1c, 0⟩
def FN_CAUSE.EMCY_LOST : Fld := ⟨0x50004, 6, 1, .w1c, 0⟩
def FN_CAUSE.HB_LOST : Fld := ⟨0x50004, 5, 1, .w1c, 0⟩
def FN_CAUSE.NMT_REFUSED : Fld := ⟨0x50004, 4, 1, .w1c, 0⟩
def FN_CAUSE.RX_OVERRUN : Fld := ⟨0x50004, 3, 1, .w1c, 0⟩
def FN_CAUSE.ERROR_PASSIVE : Fld := ⟨0x50004, 2, 1, .w1c, 0⟩
def FN_CAUSE.BUS_OFF : Fld := ⟨0x50004, 1, 1, .w1c, 0⟩
def FN_CAUSE.SETTING_REFUSED : Fld := ⟨0x50004, 0, 1, .w1c, 0⟩
/- FN_COUNTS, R545 (20_object_dictionary.md) -/
def FN_COUNTS.TEC : Fld := ⟨0x50008, 24, 8, .ro, 0⟩
def FN_COUNTS.REC : Fld := ⟨0x50008, 16, 8, .ro, 0⟩
def FN_COUNTS.BUS_OFFS : Fld := ⟨0x50008, 0, 16, .ro, 0⟩
/- RST_TSC_LO, R67 (03_power_reset_insertion.md) -/
def RST_TSC_LO : Fld := ⟨0x100F04, 0, 32, .ro, 0⟩
/- RST_TSC_HI, R67 (03_power_reset_insertion.md) -/
def RST_TSC_HI : Fld := ⟨0x100F08, 0, 32, .ro, 0⟩
/- FAIL_CAUSES, R77 (03_power_reset_insertion.md) -/
def FAIL_CAUSES : Fld := ⟨0x100F10, 0, 24, .ro, 0⟩
/- START_CTRL, R77 (03_power_reset_insertion.md) -/
def START_CTRL.SELFTEST_DONE : Fld := ⟨0x100F14, 0, 1, .wo, 0⟩
/- TS_TAIOFS_LO, R149 (05_timescale.md) -/
/- TS_TAIOFS_HI, R149 (05_timescale.md) -/
/- TS_GRPOFS_LO, R149 (05_timescale.md) -/
/- TS_GRPOFS_HI, R149 (05_timescale.md) -/
/- TS_FREQ, R149 (05_timescale.md) -/
/- TS_LASTX, R149 (05_timescale.md) -/
/- LN_CODEERR, R180 (06_cell_lanes.md) -/
def LN_CODEERR (n : Nat) : Fld := ⟨0x1010C + 0x40 * n, 0, 32, .ro, 0⟩
/- LN_PRBS_ERR, R180 (06_cell_lanes.md) -/
def LN_PRBS_ERR (n : Nat) : Fld := ⟨0x1011C + 0x40 * n, 0, 32, .ro, 0⟩
/- LN_PRBS_BITS_LO, R180 (06_cell_lanes.md) -/
def LN_PRBS_BITS_LO (n : Nat) : Fld := ⟨0x10120 + 0x40 * n, 0, 32, .ro, 0⟩
/- LKN_ID_LO, R221 (07_limisk_link.md) -/
def LKN_ID_LO (n : Nat) : Fld := ⟨0x20118 + 0x40 * n, 0, 32, .ro, 0⟩
/- LKN_ID_HI, R221 (07_limisk_link.md) -/
def LKN_ID_HI (n : Nat) : Fld := ⟨0x2011C + 0x40 * n, 0, 32, .ro, 0⟩
/- STR_MEM_LO, R306 (10_balancing_duplex.md) -/
def STR_MEM_LO (n : Nat) : Fld := ⟨0x80104 + 0x20 * n, 0, 32, .rwc, 0⟩
/- STR_MEM_HI, R306 (10_balancing_duplex.md) -/
def STR_MEM_HI (n : Nat) : Fld := ⟨0x80108 + 0x20 * n, 0, 32, .rwc, 0⟩
/- INJ_AMP, R336 (11_control_engine.md) -/
def INJ_AMP : Fld := ⟨0x90044, 0, 32, .rw, 0⟩
/- INJ_HOLD, R336 (11_control_engine.md) -/
def INJ_HOLD : Fld := ⟨0x90048, 0, 16, .rw, 0⟩
/- INJ_INC, R336 (11_control_engine.md) -/
def INJ_INC : Fld := ⟨0x9004C, 0, 32, .rw, 0⟩
/- CAP_TSC_LO, R334 (11_control_engine.md) -/
def CAP_TSC_LO : Fld := ⟨0x9005C, 0, 32, .ro, 0⟩
/- CAP_TSC_HI, R334 (11_control_engine.md) -/
def CAP_TSC_HI : Fld := ⟨0x90060, 0, 32, .ro, 0⟩
/- SP_TGT0, R334 (11_control_engine.md) -/
def SP_TGT0 (n : Nat) : Fld := ⟨0x96000 + 0x40 * n, 0, 32, .rw, 0⟩
/- SP_TGT1, R334 (11_control_engine.md) -/
def SP_TGT1 (n : Nat) : Fld := ⟨0x96004 + 0x40 * n, 0, 32, .rw, 0⟩
/- SP_TGT2, R334 (11_control_engine.md) -/
def SP_TGT2 (n : Nat) : Fld := ⟨0x96008 + 0x40 * n, 0, 32, .rw, 0⟩
/- SP_TGT3, R334 (11_control_engine.md) -/
def SP_TGT3 (n : Nat) : Fld := ⟨0x9600C + 0x40 * n, 0, 32, .rw, 0⟩
/- SP_TGT4, R334 (11_control_engine.md) -/
def SP_TGT4 (n : Nat) : Fld := ⟨0x96010 + 0x40 * n, 0, 32, .rw, 0⟩
/- SP_TGT5, R334 (11_control_engine.md) -/
def SP_TGT5 (n : Nat) : Fld := ⟨0x96014 + 0x40 * n, 0, 32, .rw, 0⟩
/- SP_TGT6, R334 (11_control_engine.md) -/
def SP_TGT6 (n : Nat) : Fld := ⟨0x96018 + 0x40 * n, 0, 32, .rw, 0⟩
/- SP_TGT7, R334 (11_control_engine.md) -/
def SP_TGT7 (n : Nat) : Fld := ⟨0x9601C + 0x40 * n, 0, 32, .rw, 0⟩
/- SP_STEP0, R334 (11_control_engine.md) -/
def SP_STEP0 (n : Nat) : Fld := ⟨0x96020 + 0x40 * n, 0, 32, .rw, 0⟩
/- SP_STEP1, R334 (11_control_engine.md) -/
def SP_STEP1 (n : Nat) : Fld := ⟨0x96024 + 0x40 * n, 0, 32, .rw, 0⟩
/- SP_STEP2, R334 (11_control_engine.md) -/
def SP_STEP2 (n : Nat) : Fld := ⟨0x96028 + 0x40 * n, 0, 32, .rw, 0⟩
/- SP_STEP3, R334 (11_control_engine.md) -/
def SP_STEP3 (n : Nat) : Fld := ⟨0x9602C + 0x40 * n, 0, 32, .rw, 0⟩
/- SP_STEP4, R334 (11_control_engine.md) -/
def SP_STEP4 (n : Nat) : Fld := ⟨0x96030 + 0x40 * n, 0, 32, .rw, 0⟩
/- SP_STEP5, R334 (11_control_engine.md) -/
def SP_STEP5 (n : Nat) : Fld := ⟨0x96034 + 0x40 * n, 0, 32, .rw, 0⟩
/- SP_STEP6, R334 (11_control_engine.md) -/
def SP_STEP6 (n : Nat) : Fld := ⟨0x96038 + 0x40 * n, 0, 32, .rw, 0⟩
/- SP_STEP7, R334 (11_control_engine.md) -/
def SP_STEP7 (n : Nat) : Fld := ⟨0x9603C + 0x40 * n, 0, 32, .rw, 0⟩
/- SP_APP0, R334 (11_control_engine.md) -/
def SP_APP0 (n : Nat) : Fld := ⟨0x98000 + 0x20 * n, 0, 32, .ro, 0⟩
/- SP_APP1, R334 (11_control_engine.md) -/
def SP_APP1 (n : Nat) : Fld := ⟨0x98004 + 0x20 * n, 0, 32, .ro, 0⟩
/- SP_APP2, R334 (11_control_engine.md) -/
def SP_APP2 (n : Nat) : Fld := ⟨0x98008 + 0x20 * n, 0, 32, .ro, 0⟩
/- SP_APP3, R334 (11_control_engine.md) -/
def SP_APP3 (n : Nat) : Fld := ⟨0x9800C + 0x20 * n, 0, 32, .ro, 0⟩
/- SP_APP4, R334 (11_control_engine.md) -/
def SP_APP4 (n : Nat) : Fld := ⟨0x98010 + 0x20 * n, 0, 32, .ro, 0⟩
/- SP_APP5, R334 (11_control_engine.md) -/
def SP_APP5 (n : Nat) : Fld := ⟨0x98014 + 0x20 * n, 0, 32, .ro, 0⟩
/- SP_APP6, R334 (11_control_engine.md) -/
def SP_APP6 (n : Nat) : Fld := ⟨0x98018 + 0x20 * n, 0, 32, .ro, 0⟩
/- SP_APP7, R334 (11_control_engine.md) -/
def SP_APP7 (n : Nat) : Fld := ⟨0x9801C + 0x20 * n, 0, 32, .ro, 0⟩
/- CX_HIST0, R334 (11_control_engine.md) -/
def CX_HIST0 (n : Nat) : Fld := ⟨0x91040 + 0x80 * n, 0, 32, .ro, 0⟩
/- CX_HIST1, R334 (11_control_engine.md) -/
def CX_HIST1 (n : Nat) : Fld := ⟨0x91044 + 0x80 * n, 0, 32, .ro, 0⟩
/- CX_HIST2, R334 (11_control_engine.md) -/
def CX_HIST2 (n : Nat) : Fld := ⟨0x91048 + 0x80 * n, 0, 32, .ro, 0⟩
/- CX_HIST3, R334 (11_control_engine.md) -/
def CX_HIST3 (n : Nat) : Fld := ⟨0x9104C + 0x80 * n, 0, 32, .ro, 0⟩
/- CX_HIST4, R334 (11_control_engine.md) -/
def CX_HIST4 (n : Nat) : Fld := ⟨0x91050 + 0x80 * n, 0, 32, .ro, 0⟩
/- CX_HIST5, R334 (11_control_engine.md) -/
def CX_HIST5 (n : Nat) : Fld := ⟨0x91054 + 0x80 * n, 0, 32, .ro, 0⟩
/- CX_HIST6, R334 (11_control_engine.md) -/
def CX_HIST6 (n : Nat) : Fld := ⟨0x91058 + 0x80 * n, 0, 32, .ro, 0⟩
/- CX_HIST7, R334 (11_control_engine.md) -/
def CX_HIST7 (n : Nat) : Fld := ⟨0x9105C + 0x80 * n, 0, 32, .ro, 0⟩
/- CX_HIST8, R334 (11_control_engine.md) -/
def CX_HIST8 (n : Nat) : Fld := ⟨0x91060 + 0x80 * n, 0, 32, .ro, 0⟩
/- CX_HIST9, R334 (11_control_engine.md) -/
def CX_HIST9 (n : Nat) : Fld := ⟨0x91064 + 0x80 * n, 0, 32, .ro, 0⟩
/- CX_HIST10, R334 (11_control_engine.md) -/
def CX_HIST10 (n : Nat) : Fld := ⟨0x91068 + 0x80 * n, 0, 32, .ro, 0⟩
/- CX_HIST11, R334 (11_control_engine.md) -/
def CX_HIST11 (n : Nat) : Fld := ⟨0x9106C + 0x80 * n, 0, 32, .ro, 0⟩
/- CX_HIST12, R334 (11_control_engine.md) -/
def CX_HIST12 (n : Nat) : Fld := ⟨0x91070 + 0x80 * n, 0, 32, .ro, 0⟩
/- CX_HIST13, R334 (11_control_engine.md) -/
def CX_HIST13 (n : Nat) : Fld := ⟨0x91074 + 0x80 * n, 0, 32, .ro, 0⟩
/- CX_HIST14, R334 (11_control_engine.md) -/
def CX_HIST14 (n : Nat) : Fld := ⟨0x91078 + 0x80 * n, 0, 32, .ro, 0⟩
/- CX_HIST15, R334 (11_control_engine.md) -/
def CX_HIST15 (n : Nat) : Fld := ⟨0x9107C + 0x80 * n, 0, 32, .ro, 0⟩
/- PMU_FBAND, R386 (13_metrology.md) -/
def PMU_FBAND : Fld := ⟨0xA0010, 0, 32, .rw, 0⟩
/- PMU_RLIM, R386 (13_metrology.md) -/
def PMU_RLIM : Fld := ⟨0xA0014, 0, 32, .rw, 0⟩
/- SD_GAIN, R387 (13_metrology.md) -/
def SD_GAIN (n : Nat) : Fld := ⟨0xA0104 + 0x10 * n, 0, 32, .rw, 0x3F800000⟩
/- SD_OFS, R387 (13_metrology.md) -/
def SD_OFS (n : Nat) : Fld := ⟨0xA0108 + 0x10 * n, 0, 32, .rw, 0⟩
/- PH_MAG, R387 (13_metrology.md) -/
def PH_MAG (n : Nat) : Fld := ⟨0xA0404 + 0x10 * n, 0, 32, .rwc, 0x3F800000⟩
/- PH_ANG, R387 (13_metrology.md) -/
def PH_ANG (n : Nat) : Fld := ⟨0xA0408 + 0x10 * n, 0, 32, .rwc, 0⟩
/- WF_LINE, R407 (14_fault_location.md) -/
def WF_LINE : Fld := ⟨0xB0010, 0, 32, .rwc, 0⟩
/- WF_V1, R407 (14_fault_location.md) -/
def WF_V1 : Fld := ⟨0xB0014, 0, 32, .rwc, 0x43928000⟩
/- WF_V0, R407 (14_fault_location.md) -/
def WF_V0 : Fld := ⟨0xB0018, 0, 32, .rwc, 0x43848000⟩
/- WF_WINDOW, R405 (14_fault_location.md) -/
def WF_WINDOW : Fld := ⟨0xB001C, 0, 32, .ro, 0x19000⟩
/- WF_GAIN, R405 (14_fault_location.md) -/
def WF_GAIN (n : Nat) : Fld := ⟨0xB0020 + 0x4 * n, 0, 32, .rwc, 0x3F800000⟩
/- WF_THR, R405 (14_fault_location.md) -/
def WF_THR (n : Nat) : Fld := ⟨0xB0040 + 0x4 * n, 0, 32, .rwc, 0⟩
/- WF_CAPTSC_LO, R405 (14_fault_location.md) -/
def WF_CAPTSC_LO : Fld := ⟨0xB0060, 0, 32, .ro, 0⟩
/- WF_CAPTSC_HI, R405 (14_fault_location.md) -/
def WF_CAPTSC_HI : Fld := ⟨0xB0064, 0, 32, .ro, 0⟩
/- SL_TEST, R432 (15_spine_groups.md) -/
def SL_TEST.PRBS_GEN (n : Nat) : Fld := ⟨0x30114 + 0x40 * n, 31, 1, .rwc, 0⟩
def SL_TEST.PRBS_CHK (n : Nat) : Fld := ⟨0x30114 + 0x40 * n, 30, 1, .rwc, 0⟩
def SL_TEST.PATTERN (n : Nat) : Fld := ⟨0x30114 + 0x40 * n, 28, 2, .rwc, 0⟩
def SL_TEST.PRBS_LOCK (n : Nat) : Fld := ⟨0x30114 + 0x40 * n, 25, 1, .ro, 0⟩
/- SL_INJECT, R432 (15_spine_groups.md) -/
def SL_INJECT.INJ_ONE (n : Nat) : Fld := ⟨0x30118 + 0x40 * n, 31, 1, .wo, 0⟩
def SL_INJECT.INJ_RATE (n : Nat) : Fld := ⟨0x30118 + 0x40 * n, 0, 4, .rw, 0⟩
/- SL_PRBS_ERR, R430 (15_spine_groups.md) -/
def SL_PRBS_ERR (n : Nat) : Fld := ⟨0x3011C + 0x40 * n, 0, 32, .ro, 0⟩
/- SL_PRBS_BITS_LO, R430 (15_spine_groups.md) -/
def SL_PRBS_BITS_LO (n : Nat) : Fld := ⟨0x30120 + 0x40 * n, 0, 32, .ro, 0⟩
/- SP_MAP_LO, R430 (15_spine_groups.md) -/
/- SP_MAP_HI, R430 (15_spine_groups.md) -/
/- SP_DUP_LO, R430 (15_spine_groups.md) -/
/- SP_DUP_HI, R430 (15_spine_groups.md) -/
/- FC_CBI_ADDR, R455 (16_fault_collector.md) -/
def FC_CBI_ADDR : Fld := ⟨0xE0024, 0, 17, .rw, 0⟩
/- FC_GRP_T_LO, R455 (16_fault_collector.md) -/
def FC_GRP_T_LO : Fld := ⟨0xE0034, 0, 32, .ro, 0⟩
/- FC_GRP_T_HI, R455 (16_fault_collector.md) -/
def FC_GRP_T_HI : Fld := ⟨0xE0038, 0, 32, .ro, 0⟩
/- FC_FIRST_TSC_LO, R458 (16_fault_collector.md) -/
def FC_FIRST_TSC_LO (n : Nat) : Fld := ⟨0xE0104 + 0x10 * n, 0, 32, .ro, 0⟩
/- FC_FIRST_TSC_HI, R458 (16_fault_collector.md) -/
def FC_FIRST_TSC_HI (n : Nat) : Fld := ⟨0xE0108 + 0x10 * n, 0, 32, .ro, 0⟩
/- REC_SEQ, R497 (18_recorder_ledger.md) -/
def REC_SEQ : Fld := ⟨0xF0014, 0, 32, .ro, 0⟩
/- LGS_A, R498 (18_recorder_ledger.md) -/
def LGS_A (n : Nat) : Fld := ⟨0xF0100 + 0x20 * n, 0, 32, .rwc, 0x48742400⟩
/- LGS_B1, R498 (18_recorder_ledger.md) -/
def LGS_B1 (n : Nat) : Fld := ⟨0xF0104 + 0x20 * n, 0, 32, .rwc, 0x40A00000⟩
/- LGS_B2, R498 (18_recorder_ledger.md) -/
def LGS_B2 (n : Nat) : Fld := ⟨0xF0108 + 0x20 * n, 0, 32, .rwc, 0x46111000⟩
/- LGS_L0, R498 (18_recorder_ledger.md) -/
def LGS_L0 (n : Nat) : Fld := ⟨0xF010C + 0x20 * n, 0, 32, .rwc, 0x47C35000⟩
/- LGS_TREF, R498 (18_recorder_ledger.md) -/
def LGS_TREF (n : Nat) : Fld := ⟨0xF0110 + 0x20 * n, 0, 32, .rwc, 0x428C0000⟩
/- LGS_ESR, R498 (18_recorder_ledger.md) -/
def LGS_ESR (n : Nat) : Fld := ⟨0xF0114 + 0x20 * n, 0, 32, .rwc, 0x3A83126F⟩
/- LGS_ERATED, R498 (18_recorder_ledger.md) -/
def LGS_ERATED (n : Nat) : Fld := ⟨0xF0118 + 0x20 * n, 0, 32, .rwc, 0⟩
/- REC_RDATA_HI, R483 (18_recorder_ledger.md) -/
def REC_RDATA_HI : Fld := ⟨0xF0030, 0, 32, .ro, 0⟩
/- TS_TSC_HI, R126 (05_timescale.md) -/
def TS_TSC_HI : Fld := ⟨0xC0004, 0, 32, .ro, 0⟩
/- LN_PRBS_BITS_HI, R176 (06_cell_lanes.md) -/
def LN_PRBS_BITS_HI (n : Nat) : Fld := ⟨0x10124 + 0x40 * n, 0, 32, .ro, 0⟩
/- SL_PRBS_BITS_HI, R430 (15_spine_groups.md) -/
def SL_PRBS_BITS_HI (n : Nat) : Fld := ⟨0x30124 + 0x40 * n, 0, 32, .ro, 0⟩
/- FC_SEVn, R455 and R437 (16_fault_collector.md): bits 2i+1:2i hold the class of source i of block b (1 to 16) -/
def FC_SEV (b i : Nat) : Fld := ⟨0xE0040 + 4 * (b - 1), 2 * i, 2, .rwc, defaultClass b i⟩
/- FC_LOSTCNT, R455 (16_fault_collector.md): byte j of word i holds LOSTCNT of block 4i+j+1 -/
def FC_LOSTCNT (b : Nat) : Fld := ⟨0xE0080 + 4 * ((b - 1) / 4), 8 * ((b - 1) % 4), 8, .ro, 0⟩

end Sys2Proof.Machine.R

namespace Sys2Proof.Machine

/-- Part 1 of `regBlocks`. -/
def regBlocks1 : List Blk := [
  ⟨0x100F00, 0x0, 1, fun _ => [R.RST_CAUSE.PREV_CAUSE, R.RST_CAUSE.CAUSE, R.RST_CAUSE.PGOOD_LOW, R.RST_CAUSE.STAGE, R.RST_CAUSE.SECOND, R.RST_CAUSE.TSC_VALID]⟩,
  ⟨0x100F0C, 0x0, 1, fun _ => [R.START_STAT.FAILED_TOTAL, R.START_STAT.SLATE_REASON, R.START_STAT.SLATE, R.START_STAT.PENDING, R.START_STAT.FAILED_CONSEC]⟩,
  ⟨0xD0000, 0x0, 1, fun _ => [R.CLK_STAT.SPREAD_ACT, R.CLK_STAT.TS_FALLBACK, R.CLK_STAT.CKOUT_BUSY, R.CLK_STAT.CAN_BUSY, R.CLK_STAT.RC_TRIM_READY, R.CLK_STAT.CKREF_OK, R.CLK_STAT.LOCK_T, R.CLK_STAT.LOCK_S, R.CLK_STAT.LOCK_C, R.CLK_STAT.LOCK_A]⟩,
  ⟨0xD0004, 0x0, 1, fun _ => [R.CLK_CAUSE.SETTING_REFUSED, R.CLK_CAUSE.FORCE_REFUSED, R.CLK_CAUSE.LOCK_FILTER, R.CLK_CAUSE.REF_DEFERRED, R.CLK_CAUSE.MUX_HANG_CKOUT, R.CLK_CAUSE.MUX_HANG_CAN, R.CLK_CAUSE.PLLT_LOST, R.CLK_CAUSE.PLLS_LOST, R.CLK_CAUSE.PLLC_LOST_ALONE, R.CLK_CAUSE.PLLC_LOST_PARTNER, R.CLK_CAUSE.MON_FAILED]⟩,
  ⟨0xD0008, 0x0, 1, fun _ => [R.CLK_SPREAD.EN, R.CLK_SPREAD.MODE, R.CLK_SPREAD.DEPTH]⟩,
  ⟨0xD000C, 0x0, 1, fun _ => [R.CLK_DITHER.DITHER_T, R.CLK_DITHER.DITHER_S, R.CLK_DITHER.DITHER_C, R.CLK_DITHER.DITHER_A]⟩,
  ⟨0xD0010, 0x4, 4, fun n => [R.CLK_SEED.SEED n]⟩,
  ⟨0xD0020, 0x0, 1, fun _ => [R.CLK_MUX_CAN.CURRENT, R.CLK_MUX_CAN.BUSY, R.CLK_MUX_CAN.CONSUMER_IDLE, R.CLK_MUX_CAN.FORCE, R.CLK_MUX_CAN.SEL]⟩,
  ⟨0xD0024, 0x0, 1, fun _ => [R.CLK_CKOUT.EN, R.CLK_CKOUT.FORCE, R.CLK_CKOUT.SRC, R.CLK_CKOUT.DIV_EFF, R.CLK_CKOUT.DIV]⟩,
  ⟨0xD0028, 0x0, 1, fun _ => [R.CLK_PHASE_T.PENDING, R.CLK_PHASE_T.PHASE]⟩,
  ⟨0xD002C, 0x0, 1, fun _ => [R.CLK_PLLLK.QUAL_US, R.CLK_PLLLK.HI, R.CLK_PLLLK.LO]⟩,
  ⟨0xD0030, 0x0, 1, fun _ => [R.CLK_LOSSCNT.LOSS_T, R.CLK_LOSSCNT.LOSS_S, R.CLK_LOSSCNT.LOSS_C, R.CLK_LOSSCNT.HANGS]⟩,
  ⟨0xC0008, 0x0, 1, fun _ => [R.TS_STAT.QUAL_CNT, R.TS_STAT.EPOCH_MISMATCH, R.TS_STAT.ONE_DIRECTION, R.TS_STAT.SLEWING, R.TS_STAT.STATE]⟩,
  ⟨0xC000C, 0x0, 1, fun _ => [R.TS_CAUSE.OPSEC_TORN, R.TS_CAUSE.HOLDOVER_LIMIT, R.TS_CAUSE.RING_DELAY, R.TS_CAUSE.EPOCH, R.TS_CAUSE.GROUP_LOST, R.TS_CAUSE.ALIGN, R.TS_CAUSE.TOS_MISSING, R.TS_CAUSE.PPS_STRAY, R.TS_CAUSE.STEPPED, R.TS_CAUSE.REF_RANGE, R.TS_CAUSE.REF_JUMP, R.TS_CAUSE.REF_LOST]⟩,
  ⟨0x10000, 0x0, 1, fun _ => [R.LA_CAUSE.SPARE_EXHAUSTED, R.LA_CAUSE.SETTING_REFUSED]⟩,
  ⟨0x10040, 0x4, 16, fun n => [R.QUAD_CFG.MAP_MODE n, R.QUAD_CFG.MAP n, R.QUAD_CFG.SPARE_LOCK n, R.QUAD_CFG.SPARE_SEL n, R.QUAD_CFG.SPARE_BUSY n]⟩,
  ⟨0x10100, 0x40, 64, fun n => [R.LN_CTRL.EN n, R.LN_CTRL.TX_INV n, R.LN_CTRL.CNT_CLR n, R.LN_CTRL.RETRAIN n, R.LN_CTRL.RX_POL n]⟩,
  ⟨0x10104, 0x40, 64, fun n => [R.LN_STAT.STATE n, R.LN_STAT.FAIL_STAGE n, R.LN_STAT.RX_INV n, R.LN_STAT.SIGNAL n, R.LN_STAT.CDR_LOCK n, R.LN_STAT.ALIGNED n, R.LN_STAT.ON_SPARE n, R.LN_STAT.PORT n, R.LN_STAT.RX_PAD n, R.LN_STAT.ATTEMPT n]⟩,
  ⟨0x10108, 0x40, 64, fun n => [R.LN_CAUSE.RETRAINED n, R.LN_CAUSE.PRBS_LOSS n, R.LN_CAUSE.CODE_ERR n, R.LN_CAUSE.MAP_CONFLICT n, R.LN_CAUSE.LOST n, R.LN_CAUSE.ABSENT n]⟩,
  ⟨0x10110, 0x40, 64, fun n => [R.LN_COUNTS.LOSSES n, R.LN_COUNTS.FAILED_ATTEMPTS n]⟩,
  ⟨0x10114, 0x40, 64, fun n => [R.LN_TEST.PRBS_GEN n, R.LN_TEST.PRBS_CHK n, R.LN_TEST.PATTERN n, R.LN_TEST.LOOP n, R.LN_TEST.PRBS_LOCK n]⟩,
  ⟨0x10118, 0x40, 64, fun n => [R.LN_INJECT.INJ_ONE n, R.LN_INJECT.INJ_RATE n]⟩,
  ⟨0x20100, 0x40, 64, fun n => [R.LKN_CTRL.ID_POLICY n, R.LKN_CTRL.DESC_FETCH n, R.LKN_CTRL.CNT_CLR n]⟩,
  ⟨0x20104, 0x40, 64, fun n => [R.LKN_STAT.ADMIT n, R.LKN_STAT.ID_RESULT n, R.LKN_STAT.OWNER_TX n, R.LKN_STAT.OWNER_ACK n, R.LKN_STAT.OTHER_OWNER n, R.LKN_STAT.HOLD n, R.LKN_STAT.BYPASS_CLOSED n, R.LKN_STAT.FAULT n, R.LKN_STAT.ENABLED n, R.LKN_STAT.NO_OWNER n]⟩,
  ⟨0x20108, 0x40, 64, fun n => [R.LKN_CAUSE.PARAM_FAIL n, R.LKN_CAUSE.PORT_WRONG n, R.LKN_CAUSE.ID_CHANGED n, R.LKN_CAUSE.ID_FAIL n, R.LKN_CAUSE.DELAY_RANGE n, R.LKN_CAUSE.DELAY_SHIFT n, R.LKN_CAUSE.LVL_MISMATCH n, R.LKN_CAUSE.TLM_LOST n, R.LKN_CAUSE.EDGE_OVERFLOW n, R.LKN_CAUSE.HEAD_FAULT n]⟩,
  ⟨0x2010C, 0x40, 64, fun n => [R.LKN_DELAY.RTT n, R.LKN_DELAY.D n]⟩,
  ⟨0x20110, 0x40, 64, fun n => [R.LKN_COUNTS.BAD_UP n, R.LKN_COUNTS.SCARLET_RX n, R.LKN_COUNTS.CUT n]⟩,
  ⟨0x20114, 0x40, 64, fun n => [R.LKN_PARAM.ADDR n, R.LKN_PARAM.VALUE n, R.LKN_PARAM.STATUS n, R.LKN_PARAM.GO n, R.LKN_PARAM.WRITE n]⟩,
  ⟨0x60000, 0x0, 1, fun _ => [R.MOD_CTRL.MIN_COMMIT]⟩,
  ⟨0x60004, 0x0, 1, fun _ => [R.MOD_STAT.LAST_SHOOT_LEG, R.MOD_STAT.LAST_CLAMP_LEG]⟩,
  ⟨0x60008, 0x0, 1, fun _ => [R.MOD_CAUSE.TRIP_LATCHED 0, R.MOD_CAUSE.TRIP_LATCHED 1, R.MOD_CAUSE.TRIP_LATCHED 2, R.MOD_CAUSE.TRIP_LATCHED 3, R.MOD_CAUSE.TRIP_LATCHED 4, R.MOD_CAUSE.TRIP_LATCHED 5, R.MOD_CAUSE.TRIP_LATCHED 6, R.MOD_CAUSE.TRIP_LATCHED 7, R.MOD_CAUSE.TRIP_EVENT 0, R.MOD_CAUSE.TRIP_EVENT 1, R.MOD_CAUSE.TRIP_EVENT 2, R.MOD_CAUSE.TRIP_EVENT 3, R.MOD_CAUSE.TRIP_EVENT 4, R.MOD_CAUSE.TRIP_EVENT 5, R.MOD_CAUSE.TRIP_EVENT 6, R.MOD_CAUSE.TRIP_EVENT 7, R.MOD_CAUSE.TRIP_CLR_REFUSED, R.MOD_CAUSE.REFRESH_RANGE, R.MOD_CAUSE.PER_SHORT, R.MOD_CAUSE.SHOOT_REQ, R.MOD_CAUSE.CMP_CLAMP, R.MOD_CAUSE.SETTING_REFUSED]⟩,
  ⟨0x60010, 0x0, 1, fun _ => [R.MOD_TREF.TREF]⟩,
  ⟨0x60014, 0x0, 1, fun _ => [R.MOD_THOLD.THOLD]⟩,
  ⟨0x60040, 0x4, 16, fun n => [R.MOD_GRPREF.EVT n, R.MOD_GRPREF.CARRIER n]⟩,
  ⟨0x60100, 0x10, 8, fun n => [R.TRIP_CFG.EN n, R.TRIP_CFG.POL n, R.TRIP_CFG.GATES n, R.TRIP_CFG.SOFT n, R.TRIP_CFG.N n, R.TRIP_CFG.FILT n, R.TRIP_CFG.LATCH_EN n, R.TRIP_CFG.STRINGS n]⟩,
  ⟨0x60104, 0x10, 8, fun n => [R.TRIP_CTRL.CLR n, R.TRIP_CTRL.REARM n]⟩,
  ⟨0x60108, 0x10, 8, fun n => [R.TRIP_STAT.TRIPACT n, R.TRIP_STAT.LATCHED n, R.TRIP_STAT.CLR_PENDING n, R.TRIP_STAT.CNT n, R.TRIP_STAT.TOTAL n]⟩,
  ⟨0x61000, 0x20, 64, fun n => [R.CAR_CTRL.EN n, R.CAR_CTRL.RUNNING n, R.CAR_CTRL.COMMIT_SRC n, R.CAR_CTRL.GROUPED n, R.CAR_CTRL.GROUP n]⟩,
  ⟨0x61004, 0x20, 64, fun n => [R.CAR_PER.PER n]⟩,
  ⟨0x61008, 0x20, 64, fun n => [R.CAR_PHASE.PHASE n]⟩]

/-- Part 2 of `regBlocks`. -/
def regBlocks2 : List Blk := [
  ⟨0x6100C, 0x20, 64, fun n => [R.CAR_EVTCMP.EVT_CMP n]⟩,
  ⟨0x61010, 0x20, 64, fun n => [R.CAR_TRIG.TRIG_SRC n, R.CAR_TRIG.PRESC n, R.CAR_TRIG.PRESC_PHASE n]⟩,
  ⟨0x61018, 0x20, 64, fun n => [R.CAR_PERIODS.PERIODS n]⟩,
  ⟨0x62000, 0x20, 384, fun n => [R.LEG_CFG.MODE n, R.LEG_CFG.ALIGN n, R.LEG_CFG.ALIGN2 n, R.LEG_CFG.RATIO n, R.LEG_CFG.REFRESH n, R.LEG_CFG.GROUPED n, R.LEG_CFG.GROUP n, R.LEG_CFG.CARRIER n]⟩,
  ⟨0x62004, 0x20, 384, fun n => [R.LEG_VAL.VAL n]⟩,
  ⟨0x62008, 0x20, 384, fun n => [R.LEG_VAL2.VAL2 n]⟩,
  ⟨0x6200C, 0x20, 384, fun n => [R.LEG_DT.MINP n, R.LEG_DT.DT n]⟩,
  ⟨0x62010, 0x20, 384, fun n => [R.LEG_STAT.SHOOTS n, R.LEG_STAT.CLAMPS n, R.LEG_STAT.FORCED_REFRESH n, R.LEG_STAT.TRIP_HELD n, R.LEG_STAT.SHOOT_OFF n]⟩,
  ⟨0x70000, 0x0, 1, fun _ => [R.GS_STAT.LAST_CELL]⟩,
  ⟨0x70004, 0x0, 1, fun _ => [R.GS_CAUSE.SETTING_REFUSED]⟩,
  ⟨0x70008, 0x0, 1, fun _ => [R.GS_POLICY.UNREP_ACT, R.GS_POLICY.TLM_BYPASS, R.GS_POLICY.TEMP_BYPASS, R.GS_POLICY.BOOTUV_SCOPE, R.GS_POLICY.BOOTUV_BYPASS, R.GS_POLICY.UV_SCOPE, R.GS_POLICY.UV_BYPASS, R.GS_POLICY.OTHER_BYPASS, R.GS_POLICY.BACKSTOP_BYPASS, R.GS_POLICY.CAPOV_BYPASS, R.GS_POLICY.SC_BYPASS]⟩,
  ⟨0x7000C, 0x0, 1, fun _ => [R.GS_UVDEF.UV_HS_DEF, R.GS_UVDEF.UV_LS_DEF]⟩,
  ⟨0x70010, 0x0, 1, fun _ => [R.GS_UVCFG.HYS, R.GS_UVCFG.WARN]⟩,
  ⟨0x70014, 0x0, 1, fun _ => [R.GS_TEMP.TEMP_WARN, R.GS_TEMP.TEMP_TRIP]⟩,
  ⟨0x70100, 0x20, 64, fun n => [R.GSC_CFG.VGS_MASK n, R.GSC_CFG.DEB n, R.GSC_CFG.PARTNER_DELAY n]⟩,
  ⟨0x70104, 0x20, 64, fun n => [R.GSC_UV.UV_HS n, R.GSC_UV.UV_LS n]⟩,
  ⟨0x70108, 0x20, 64, fun n => [R.GSC_STAT.STATE n, R.GSC_STAT.BYPASS_REQ n, R.GSC_STAT.OFF_GATES n, R.GSC_STAT.UV_GATES n]⟩,
  ⟨0x70110, 0x20, 64, fun n => [R.GSC_COUNTS.SC_COUNT n, R.GSC_COUNTS.UV_COUNT n, R.GSC_COUNTS.ISOLATIONS n, R.GSC_COUNTS.CLEARS n]⟩,
  ⟨0x70114, 0x20, 64, fun n => [R.GSC_CTRL.CLEAR n]⟩,
  ⟨0x70118, 0x20, 64, fun n => [R.GSC_FIRST.SOURCE n, R.GSC_FIRST.GATE n, R.GSC_FIRST.CAUSE n, R.GSC_FIRST.SEQ n]⟩,
  ⟨0x7010C, 0x20, 64, fun n => [R.GSC_CAUSE.CLEAR_REFUSED n, R.GSC_CAUSE.TEMP_TRIP n, R.GSC_CAUSE.TEMP_WARN n, R.GSC_CAUSE.BOOT_LOW n, R.GSC_CAUSE.BOOT_UV n, R.GSC_CAUSE.UVLO n, R.GSC_CAUSE.SCARLET_MISSING n, R.GSC_CAUSE.SCARLET_OTHER n, R.GSC_CAUSE.BACKSTOP n, R.GSC_CAUSE.CAP_OV n, R.GSC_CAUSE.SC n]⟩,
  ⟨0x80000, 0x0, 1, fun _ => [R.BAL_CTRL.PREFER, R.BAL_CTRL.HANDBACK, R.BAL_CTRL.AUTO_INSERT, R.BAL_CTRL.HB_QUAL]⟩,
  ⟨0x80004, 0x0, 1, fun _ => [R.BAL_STAT.ROLE, R.BAL_STAT.PARTNER, R.BAL_STAT.MISSES, R.BAL_STAT.TAKEOVERS, R.BAL_STAT.HANDBACKS]⟩,
  ⟨0x80008, 0x0, 1, fun _ => [R.BAL_CAUSE.EJECT_ALONE, R.BAL_CAUSE.SETTING_REFUSED, R.BAL_CAUSE.HANDBACK_REFUSED, R.BAL_CAUSE.CONFIG_MISMATCH, R.BAL_CAUSE.HB_BAD, R.BAL_CAUSE.DUPLEX_CONTENTION, R.BAL_CAUSE.PARTNER_LOST]⟩,
  ⟨0x8000C, 0x0, 1, fun _ => [R.BAL_CMD.HANDBACK_GO]⟩,
  ⟨0x80100, 0x20, 8, fun n => [R.STR_CFG.EN n, R.STR_CFG.RESERVE_MODE n, R.STR_CFG.KEY_SRC n, R.STR_CFG.N_REQ n, R.STR_CFG.K_MIN n]⟩,
  ⟨0x80110, 0x20, 8, fun n => [R.STR_CAUSE.RESERVE_INSERTED n, R.STR_CAUSE.KEY_INVALID n, R.STR_CAUSE.RESERVE_LOW n, R.STR_CAUSE.STRING_SHORT n]⟩,
  ⟨0x80400, 0x10, 64, fun n => [R.BC_CTRL.INSERT n, R.BC_CTRL.PARK n]⟩,
  ⟨0x80404, 0x10, 64, fun n => [R.BC_STAT.STATE n, R.BC_STAT.PARTNER_ADMITTED n, R.BC_STAT.HELD_OUT n]⟩,
  ⟨0x8040C, 0x10, 64, fun n => [R.BC_SORT.RANKED n, R.BC_SORT.RANK n, R.BC_SORT.KEY n]⟩,
  ⟨0x80408, 0x10, 64, fun n => [R.BC_CAUSE.CLOSE_FAIL n, R.BC_CAUSE.OPEN_FAIL n]⟩,
  ⟨0x90000, 0x0, 1, fun _ => [R.CE_STAT.LAST_TILE_ERR]⟩,
  ⟨0x90004, 0x0, 1, fun _ => [R.CE_CAUSE.INJ_DONE, R.CE_CAUSE.CAP_DONE, R.CE_CAUSE.TILE_ERROR, R.CE_CAUSE.SETTING_REFUSED]⟩,
  ⟨0x90020, 0x0, 1, fun _ => [R.CE_MADDR.MEM, R.CE_MADDR.WORD]⟩,
  ⟨0x90040, 0x0, 1, fun _ => [R.INJ_CFG.TYPE, R.INJ_CFG.START, R.INJ_CFG.STOP, R.INJ_CFG.TARGET, R.INJ_CFG.SP, R.INJ_CFG.INJ_CTX, R.INJ_CFG.LEN]⟩,
  ⟨0x90050, 0x0, 1, fun _ => [R.CAP_CFG.ARM, R.CAP_CFG.STOP, R.CAP_CFG.SYNC, R.CAP_CFG.CAP_CTX, R.CAP_CFG.DEC, R.CAP_CFG.LEN]⟩,
  ⟨0x90054, 0x0, 1, fun _ => [R.CAP_SEL.CH3, R.CAP_SEL.CH2, R.CAP_SEL.CH1, R.CAP_SEL.CH0]⟩,
  ⟨0x90058, 0x0, 1, fun _ => [R.CAP_STAT.BUSY, R.CAP_STAT.DONE, R.CAP_STAT.COUNT, R.CAP_STAT.GAPS]⟩,
  ⟨0x91000, 0x80, 128, fun n => [R.CX_CFG.EN n, R.CX_CFG.POLICY n, R.CX_CFG.ABORT_BYPASS n, R.CX_CFG.SP_FREEZE n, R.CX_CFG.STRINGS n, R.CX_CFG.ENTRY n]⟩,
  ⟨0x91004, 0x80, 128, fun n => [R.CX_TRIG.SRC n, R.CX_TRIG.SEL n]⟩]

/-- Part 3 of `regBlocks`. -/
def regBlocks3 : List Blk := [
  ⟨0x91008, 0x80, 128, fun n => [R.CX_PER.PER n]⟩,
  ⟨0x9100C, 0x80, 128, fun n => [R.CX_PHASE.PHASE n]⟩,
  ⟨0x91010, 0x80, 128, fun n => [R.CX_COEF.COEF_LEN n, R.CX_COEF.COEF_BASE n]⟩,
  ⟨0x91014, 0x80, 128, fun n => [R.CX_STATE.STATE_LEN n, R.CX_STATE.STATE_BASE n]⟩,
  ⟨0x91018, 0x80, 128, fun n => [R.CX_OUT.OUT_COUNT n, R.CX_OUT.OUT_BASE n]⟩,
  ⟨0x9101C, 0x80, 128, fun n => [R.CX_CTRL.RESTART n, R.CX_CTRL.SOFT_TRIG n, R.CX_CTRL.BANK_REQ n, R.CX_CTRL.CNT_CLR n]⟩,
  ⟨0x91020, 0x80, 128, fun n => [R.CX_STAT.STATE n, R.CX_STAT.BANK n, R.CX_STAT.SWAP_PENDING n, R.CX_STAT.PEND_BANK n, R.CX_STAT.LAST_RUN n]⟩,
  ⟨0x91028, 0x80, 128, fun n => [R.CX_COUNTS.OVERRUNS n, R.CX_COUNTS.NOT_COMMITTED n]⟩,
  ⟨0x9102C, 0x80, 128, fun n => [R.CX_SAMPLES.RELEASES n]⟩,
  ⟨0x91030, 0x80, 128, fun n => [R.CX_MAX.MAXRUN n, R.CX_MAX.MAXDELAY n]⟩,
  ⟨0x91034, 0x80, 128, fun n => [R.CX_HCFG.HCLR n, R.CX_HCFG.SHIFT n]⟩,
  ⟨0x91024, 0x80, 128, fun n => [R.CX_CAUSE.RESTART_REFUSED n, R.CX_CAUSE.TILE_ERROR n, R.CX_CAUSE.WCET_RISK n, R.CX_CAUSE.TRIG_DROPPED n, R.CX_CAUSE.MEM_RANGE n, R.CX_CAUSE.OUT_RANGE n, R.CX_CAUSE.ABORTED n, R.CX_CAUSE.OVERRUN n]⟩,
  ⟨0xA0000, 0x0, 1, fun _ => [R.MET_STAT.PH_STATE, R.MET_STAT.FREQ]⟩,
  ⟨0xA0004, 0x0, 1, fun _ => [R.MET_CAUSE.TIME_UNSYNC, R.MET_CAUSE.BLOCK_MISSING, R.MET_CAUSE.FREQ_RANGE, R.MET_CAUSE.REPORT_SKIPPED, R.MET_CAUSE.SD_OVR, R.MET_CAUSE.SD_STUCK, R.MET_CAUSE.SETTING_REFUSED]⟩,
  ⟨0xA0008, 0x0, 1, fun _ => [R.SDCK_CFG.DLY3, R.SDCK_CFG.DLY2, R.SDCK_CFG.DLY1, R.SDCK_CFG.DLY0, R.SDCK_CFG.OVR_LIM, R.SDCK_CFG.CKEN]⟩,
  ⟨0xA000C, 0x0, 1, fun _ => [R.PMU_CFG.PH_EN, R.PMU_CFG.CLASS, R.PMU_CFG.F0, R.PMU_CFG.POLAR, R.PMU_CFG.RATE, R.PMU_CFG.FREQ_SET, R.PMU_CFG.PS_MASK, R.PMU_CFG.PH_MASK, R.PMU_CFG.DIG_EN]⟩,
  ⟨0xA0018, 0x0, 1, fun _ => [R.PMU_CFGCNT.CFGCNT]⟩,
  ⟨0xA0100, 0x10, 24, fun n => [R.SD_CFG.EN n, R.SD_CFG.INV n, R.SD_CFG.CLK n]⟩,
  ⟨0xA010C, 0x10, 24, fun n => [R.SD_STAT.STUCK n, R.SD_STAT.OVR n, R.SD_STAT.RAW n]⟩,
  ⟨0xA0400, 0x10, 12, fun n => [R.PH_CFG.KIND n, R.PH_CFG.SDD n]⟩,
  ⟨0x40000, 0x0, 1, fun _ => [R.EG_STAT.LINK_UP, R.EG_STAT.AN_DONE, R.EG_STAT.TX_ON]⟩,
  ⟨0x40004, 0x0, 1, fun _ => [R.EG_CAUSE.RX_BAD, R.EG_CAUSE.CMD_BAD, R.EG_CAUSE.CFG_CHANGED, R.EG_CAUSE.LINK_DOWN]⟩,
  ⟨0x40008, 0x0, 1, fun _ => [R.EG_COUNTS.COMMANDS, R.EG_COUNTS.DATA_FRAMES]⟩,
  ⟨0xB0000, 0x0, 1, fun _ => [R.WF_CTRL.EN, R.WF_CTRL.SET1_EN, R.WF_CTRL.SET0_EN, R.WF_CTRL.BLANK_EN, R.WF_CTRL.LOC_SET, R.WF_CTRL.LOC_MODE, R.WF_CTRL.LAT, R.WF_CTRL.DIFF, R.WF_CTRL.HOLDOFF, R.WF_CTRL.BLANK_LEN]⟩,
  ⟨0xB0004, 0x0, 1, fun _ => [R.WF_STAT.ALIGNED, R.WF_STAT.STATE, R.WF_STAT.EVENT_LO]⟩,
  ⟨0xB0008, 0x0, 1, fun _ => [R.WF_CAUSE.BANK_LEVEL, R.WF_CAUSE.ALIGN_FAIL, R.WF_CAUSE.OVR, R.WF_CAUSE.EVENT, R.WF_CAUSE.RECORD_LOST, R.WF_CAUSE.NO_REFLECTION, R.WF_CAUSE.AMBIGUOUS, R.WF_CAUSE.SETTING_REFUSED]⟩,
  ⟨0xB000C, 0x0, 1, fun _ => [R.WF_CMD.ALIGN, R.WF_CMD.ARM, R.WF_CMD.STOP]⟩,
  ⟨0xB0038, 0x4, 2, fun n => [R.WF_CAL.DELAY n]⟩,
  ⟨0xB0058, 0x0, 1, fun _ => [R.WF_CAP.CH3, R.WF_CAP.CH2, R.WF_CAP.CH1, R.WF_CAP.CH0, R.WF_CAP.PRE]⟩,
  ⟨0xB005C, 0x0, 1, fun _ => [R.WF_CAPSTAT.BUSY, R.WF_CAPSTAT.DONE, R.WF_CAPSTAT.COUNT]⟩,
  ⟨0xB0068, 0x0, 1, fun _ => [R.WF_CADDR.CH, R.WF_CADDR.INDEX]⟩,
  ⟨0x30000, 0x0, 1, fun _ => [R.SP_CTRL.FWD_TIMEOUT]⟩,
  ⟨0x30008, 0x0, 1, fun _ => [R.SP_CAUSE.FWD_TIMEOUT, R.SP_CAUSE.MSG_DROPPED, R.SP_CAUSE.NOTICE_BAD, R.SP_CAUSE.RING_ORDER, R.SP_CAUSE.POS_DUPLICATE, R.SP_CAUSE.GROUP_MISMATCH, R.SP_CAUSE.RING_OPEN, R.SP_CAUSE.SETTING_REFUSED]⟩,
  ⟨0x3001C, 0x0, 1, fun _ => [R.SP_COUNTS.DROPPED, R.SP_COUNTS.NOTICES_RX, R.SP_COUNTS.FWD_TIMEOUTS]⟩,
  ⟨0x30100, 0x40, 4, fun n => [R.SL_CTRL.EN n, R.SL_CTRL.PRECODE_REQ n, R.SL_CTRL.TX_INV n, R.SL_CTRL.RX_POL n, R.SL_CTRL.RETRAIN n, R.SL_CTRL.CNT_CLR n]⟩,
  ⟨0x30104, 0x40, 4, fun n => [R.SL_STAT.STATE n, R.SL_STAT.FAIL_STAGE n, R.SL_STAT.RX_INV n, R.SL_STAT.SIGNAL n, R.SL_STAT.CDR_LOCK n, R.SL_STAT.BLOCK_LOCK n, R.SL_STAT.PRECODE_TX n, R.SL_STAT.PRECODE_RX n, R.SL_STAT.CROSSED n, R.SL_STAT.NB_POS n, R.SL_STAT.NB_G n, R.SL_STAT.NB_LANE n, R.SL_STAT.ATTEMPT n]⟩,
  ⟨0x30108, 0x40, 4, fun n => [R.SL_CAUSE.RETRAINED n, R.SL_CAUSE.PRBS_LOSS n, R.SL_CAUSE.CODE_ERR n, R.SL_CAUSE.SKEW n, R.SL_CAUSE.LOST n, R.SL_CAUSE.ABSENT n]⟩,
  ⟨0x3010C, 0x40, 4, fun n => [R.SL_DELAY.DELAY n]⟩,
  ⟨0x30110, 0x40, 4, fun n => [R.SL_COUNTS.LOSSES n, R.SL_COUNTS.FAILED_ATTEMPTS n]⟩,
  ⟨0xE0000, 0x0, 1, fun _ => [R.FC_CTRL.GREY_IRQ, R.FC_CTRL.INJ_ACT, R.FC_CTRL.SAFE_BYPASS, R.FC_CTRL.COAL_WIN]⟩]

/-- Part 4 of `regBlocks`. -/
def regBlocks4 : List Blk := [
  ⟨0xE0004, 0x0, 1, fun _ => [R.FC_STAT.HELD 0, R.FC_STAT.HELD 1, R.FC_STAT.HELD 2, R.FC_STAT.HELD 3, R.FC_STAT.HELD 4, R.FC_STAT.HELD 5, R.FC_STAT.HELD 6, R.FC_STAT.HELD 7, R.FC_STAT.HELD 8, R.FC_STAT.HELD 9, R.FC_STAT.HELD 10, R.FC_STAT.HELD 11, R.FC_STAT.HELD 12, R.FC_STAT.HELD 13, R.FC_STAT.HELD 14, R.FC_STAT.HELD 15]⟩,
  ⟨0xE0008, 0x0, 1, fun _ => [R.FC_LOST.LOST 0, R.FC_LOST.LOST 1, R.FC_LOST.LOST 2, R.FC_LOST.LOST 3, R.FC_LOST.LOST 4, R.FC_LOST.LOST 5, R.FC_LOST.LOST 6, R.FC_LOST.LOST 7, R.FC_LOST.LOST 8, R.FC_LOST.LOST 9, R.FC_LOST.LOST 10, R.FC_LOST.LOST 11, R.FC_LOST.LOST 12, R.FC_LOST.LOST 13, R.FC_LOST.LOST 14, R.FC_LOST.LOST 15]⟩,
  ⟨0xE000C, 0x0, 1, fun _ => [R.FC_CAUSE.SAFE_EXIT_REFUSED, R.FC_CAUSE.ECC_UNCORR, R.FC_CAUSE.ECC_CORR, R.FC_CAUSE.RING_BLACK, R.FC_CAUSE.INJ_MISS, R.FC_CAUSE.RECOV_LATCH, R.FC_CAUSE.SETTING_REFUSED]⟩,
  ⟨0xE0010, 0x0, 1, fun _ => [R.FC_NFAULT.DRIVE, R.FC_NFAULT.PULSE, R.FC_NFAULT.PENDING_REL]⟩,
  ⟨0xE0014, 0x0, 1, fun _ => [R.FC_RECOV.UNLATCH, R.FC_RECOV.AUTO_EN, R.FC_RECOV.K, R.FC_RECOV.QUIET]⟩,
  ⟨0xE0018, 0x0, 1, fun _ => [R.FC_RCNT.LATCH, R.FC_RCNT.CNT]⟩,
  ⟨0xE001C, 0x0, 1, fun _ => [R.FC_FORCE.GO, R.FC_FORCE.BLOCK, R.FC_FORCE.SRC, R.FC_FORCE.INSTANCE]⟩,
  ⟨0xE0020, 0x0, 1, fun _ => [R.FC_CBI.ARM, R.FC_CBI.ARMED, R.FC_CBI.DONE, R.FC_CBI.MEM, R.FC_CBI.MASK]⟩,
  ⟨0xE0100, 0x10, 16, fun n => [R.FC_FIRST.INJECTED n, R.FC_FIRST.OBSERVED n, R.FC_FIRST.EARLIER_REMOTE n, R.FC_FIRST.CLASS n, R.FC_FIRST.SRC n, R.FC_FIRST.INSTANCE n, R.FC_FIRST.SCOPE n]⟩,
  ⟨0xE0200, 0x4, 9, fun n => [R.FC_WIN.OPEN n, R.FC_WIN.CLASS n, R.FC_WIN.FIRST_BLOCK n, R.FC_WIN.CONSEQ n]⟩,
  ⟨0xE0030, 0x0, 1, fun _ => [R.FC_GRP_INFO.VALID, R.FC_GRP_INFO.LOCAL, R.FC_GRP_INFO.ORIGIN, R.FC_GRP_INFO.SOURCE]⟩,
  ⟨0x100C00, 0x0, 1, fun _ => [R.TH_CTRL.SHED, R.TH_CTRL.PEAK_CLR, R.TH_CTRL.HYST, R.TH_CTRL.RATE]⟩,
  ⟨0x100C04, 0x0, 1, fun _ => [R.TH_STAT.FAST, R.TH_STAT.SHEDDING, R.TH_STAT.WARN_ACT, R.TH_STAT.THROT_ACT, R.TH_STAT.RATE_ACT, R.TH_STAT.FAILED]⟩,
  ⟨0x100C08, 0x0, 1, fun _ => [R.TH_CAUSE.SHUTDOWN, R.TH_CAUSE.SENSORS_LOST, R.TH_CAUSE.SENSOR_FAIL, R.TH_CAUSE.RATE, R.TH_CAUSE.THROTTLE, R.TH_CAUSE.WARN, R.TH_CAUSE.SETTING_REFUSED]⟩,
  ⟨0x100C0C, 0x0, 1, fun _ => [R.TH_LIMITS.SHUT, R.TH_LIMITS.THROT, R.TH_LIMITS.WARN]⟩,
  ⟨0x100C10, 0x0, 1, fun _ => [R.TH_PEAK.SENSOR, R.TH_PEAK.PEAK]⟩,
  ⟨0x100C20, 0x4, 12, fun n => [R.TH_SENS.FAILED n, R.TH_SENS.TEMP n]⟩,
  ⟨0xF0000, 0x0, 1, fun _ => [R.REC_CTRL.HIST_EN, R.REC_CTRL.HIST_PERIOD]⟩,
  ⟨0xF0004, 0x0, 1, fun _ => [R.REC_STAT.SAVING]⟩,
  ⟨0xF0008, 0x0, 1, fun _ => [R.REC_CAUSE.LIFE_END, R.REC_CAUSE.LIFE_WARN, R.REC_CAUSE.HIST_EVICT, R.REC_CAUSE.LEDGER_DUP, R.REC_CAUSE.LEDGER_TORN, R.REC_CAUSE.QUEUE_LOST, R.REC_CAUSE.TORN, R.REC_CAUSE.SETTING_REFUSED]⟩,
  ⟨0xF000C, 0x0, 1, fun _ => [R.REC_FPOS.NEWEST]⟩,
  ⟨0xF0010, 0x0, 1, fun _ => [R.REC_GPOS.NEWEST]⟩,
  ⟨0xF0018, 0x0, 1, fun _ => [R.REC_LOST01.DATA, R.REC_LOST01.CONTROL]⟩,
  ⟨0xF001C, 0x0, 1, fun _ => [R.REC_LOST2.MANAGEMENT]⟩,
  ⟨0xF0020, 0x0, 1, fun _ => [R.REC_TORN.TORN_REC, R.REC_TORN.TORN_LED]⟩,
  ⟨0xF0024, 0x0, 1, fun _ => [R.REC_PEND.PEND_F, R.REC_PEND.PEND_G]⟩,
  ⟨0xF0028, 0x0, 1, fun _ => [R.REC_RADDR.SLOT, R.REC_RADDR.UNIT]⟩,
  ⟨0xF0034, 0x0, 1, fun _ => [R.LG_CTRL.GATE, R.LG_CTRL.WARN]⟩,
  ⟨0x100000, 0x0, 1, fun _ => [R.SEC_STAT.DEBUG]⟩,
  ⟨0x100004, 0x0, 1, fun _ => [R.SEC_CAUSE.MAP_TORN, R.SEC_CAUSE.MEM_UNREPAIRED, R.SEC_CAUSE.REPAIR_MEM, R.SEC_CAUSE.REPAIR_TILES, R.SEC_CAUSE.DEBUG_OPEN, R.SEC_CAUSE.UPDATE_REVERTED, R.SEC_CAUSE.ROLLBACK, R.SEC_CAUSE.AUTH_FAIL, R.SEC_CAUSE.SETTING_REFUSED]⟩,
  ⟨0x100008, 0x0, 1, fun _ => [R.SEC_BOOT.BANK, R.SEC_BOOT.FW_RESULT, R.SEC_BOOT.LOAD_RESULT, R.SEC_BOOT.TOKEN_RESULT]⟩,
  ⟨0x10000C, 0x0, 1, fun _ => [R.SEC_REPAIR.TILES_BAD, R.SEC_REPAIR.SPARES_USED, R.SEC_REPAIR.ROWS_USED, R.SEC_REPAIR.COLS_USED, R.SEC_REPAIR.MAP_COPY]⟩,
  ⟨0x8, 0x0, 1, fun _ => [R.IRQ_EN.EN]⟩,
  ⟨0x50000, 0x0, 1, fun _ => [R.FN_STAT.BUS]⟩,
  ⟨0x50004, 0x0, 1, fun _ => [R.FN_CAUSE.SESSION_REFUSED, R.FN_CAUSE.STORE_BAD, R.FN_CAUSE.EMCY_LOST, R.FN_CAUSE.HB_LOST, R.FN_CAUSE.NMT_REFUSED, R.FN_CAUSE.RX_OVERRUN, R.FN_CAUSE.ERROR_PASSIVE, R.FN_CAUSE.BUS_OFF, R.FN_CAUSE.SETTING_REFUSED]⟩,
  ⟨0x50008, 0x0, 1, fun _ => [R.FN_COUNTS.TEC, R.FN_COUNTS.REC, R.FN_COUNTS.BUS_OFFS]⟩,
  ⟨0x100F04, 0x0, 1, fun _ => [R.RST_TSC_LO]⟩,
  ⟨0x100F08, 0x0, 1, fun _ => [R.RST_TSC_HI]⟩,
  ⟨0x100F10, 0x0, 1, fun _ => [R.FAIL_CAUSES]⟩,
  ⟨0x100F14, 0x0, 1, fun _ => [R.START_CTRL.SELFTEST_DONE]⟩]

/-- Part 5 of `regBlocks`. -/
def regBlocks5 : List Blk := [
  ⟨0x1010C, 0x40, 64, fun n => [R.LN_CODEERR n]⟩,
  ⟨0x1011C, 0x40, 64, fun n => [R.LN_PRBS_ERR n]⟩,
  ⟨0x10120, 0x40, 64, fun n => [R.LN_PRBS_BITS_LO n]⟩,
  ⟨0x20118, 0x40, 64, fun n => [R.LKN_ID_LO n]⟩,
  ⟨0x2011C, 0x40, 64, fun n => [R.LKN_ID_HI n]⟩,
  ⟨0x80104, 0x20, 8, fun n => [R.STR_MEM_LO n]⟩,
  ⟨0x80108, 0x20, 8, fun n => [R.STR_MEM_HI n]⟩,
  ⟨0x90044, 0x0, 1, fun _ => [R.INJ_AMP]⟩,
  ⟨0x90048, 0x0, 1, fun _ => [R.INJ_HOLD]⟩,
  ⟨0x9004C, 0x0, 1, fun _ => [R.INJ_INC]⟩,
  ⟨0x9005C, 0x0, 1, fun _ => [R.CAP_TSC_LO]⟩,
  ⟨0x90060, 0x0, 1, fun _ => [R.CAP_TSC_HI]⟩,
  ⟨0x96000, 0x40, 128, fun n => [R.SP_TGT0 n]⟩,
  ⟨0x96004, 0x40, 128, fun n => [R.SP_TGT1 n]⟩,
  ⟨0x96008, 0x40, 128, fun n => [R.SP_TGT2 n]⟩,
  ⟨0x9600C, 0x40, 128, fun n => [R.SP_TGT3 n]⟩,
  ⟨0x96010, 0x40, 128, fun n => [R.SP_TGT4 n]⟩,
  ⟨0x96014, 0x40, 128, fun n => [R.SP_TGT5 n]⟩,
  ⟨0x96018, 0x40, 128, fun n => [R.SP_TGT6 n]⟩,
  ⟨0x9601C, 0x40, 128, fun n => [R.SP_TGT7 n]⟩,
  ⟨0x96020, 0x40, 128, fun n => [R.SP_STEP0 n]⟩,
  ⟨0x96024, 0x40, 128, fun n => [R.SP_STEP1 n]⟩,
  ⟨0x96028, 0x40, 128, fun n => [R.SP_STEP2 n]⟩,
  ⟨0x9602C, 0x40, 128, fun n => [R.SP_STEP3 n]⟩,
  ⟨0x96030, 0x40, 128, fun n => [R.SP_STEP4 n]⟩,
  ⟨0x96034, 0x40, 128, fun n => [R.SP_STEP5 n]⟩,
  ⟨0x96038, 0x40, 128, fun n => [R.SP_STEP6 n]⟩,
  ⟨0x9603C, 0x40, 128, fun n => [R.SP_STEP7 n]⟩,
  ⟨0x98000, 0x20, 128, fun n => [R.SP_APP0 n]⟩,
  ⟨0x98004, 0x20, 128, fun n => [R.SP_APP1 n]⟩,
  ⟨0x98008, 0x20, 128, fun n => [R.SP_APP2 n]⟩,
  ⟨0x9800C, 0x20, 128, fun n => [R.SP_APP3 n]⟩,
  ⟨0x98010, 0x20, 128, fun n => [R.SP_APP4 n]⟩,
  ⟨0x98014, 0x20, 128, fun n => [R.SP_APP5 n]⟩,
  ⟨0x98018, 0x20, 128, fun n => [R.SP_APP6 n]⟩,
  ⟨0x9801C, 0x20, 128, fun n => [R.SP_APP7 n]⟩,
  ⟨0x91040, 0x80, 128, fun n => [R.CX_HIST0 n]⟩,
  ⟨0x91044, 0x80, 128, fun n => [R.CX_HIST1 n]⟩,
  ⟨0x91048, 0x80, 128, fun n => [R.CX_HIST2 n]⟩,
  ⟨0x9104C, 0x80, 128, fun n => [R.CX_HIST3 n]⟩]

/-- Part 6 of `regBlocks`. -/
def regBlocks6 : List Blk := [
  ⟨0x91050, 0x80, 128, fun n => [R.CX_HIST4 n]⟩,
  ⟨0x91054, 0x80, 128, fun n => [R.CX_HIST5 n]⟩,
  ⟨0x91058, 0x80, 128, fun n => [R.CX_HIST6 n]⟩,
  ⟨0x9105C, 0x80, 128, fun n => [R.CX_HIST7 n]⟩,
  ⟨0x91060, 0x80, 128, fun n => [R.CX_HIST8 n]⟩,
  ⟨0x91064, 0x80, 128, fun n => [R.CX_HIST9 n]⟩,
  ⟨0x91068, 0x80, 128, fun n => [R.CX_HIST10 n]⟩,
  ⟨0x9106C, 0x80, 128, fun n => [R.CX_HIST11 n]⟩,
  ⟨0x91070, 0x80, 128, fun n => [R.CX_HIST12 n]⟩,
  ⟨0x91074, 0x80, 128, fun n => [R.CX_HIST13 n]⟩,
  ⟨0x91078, 0x80, 128, fun n => [R.CX_HIST14 n]⟩,
  ⟨0x9107C, 0x80, 128, fun n => [R.CX_HIST15 n]⟩,
  ⟨0xA0010, 0x0, 1, fun _ => [R.PMU_FBAND]⟩,
  ⟨0xA0014, 0x0, 1, fun _ => [R.PMU_RLIM]⟩,
  ⟨0xA0104, 0x10, 24, fun n => [R.SD_GAIN n]⟩,
  ⟨0xA0108, 0x10, 24, fun n => [R.SD_OFS n]⟩,
  ⟨0xA0404, 0x10, 12, fun n => [R.PH_MAG n]⟩,
  ⟨0xA0408, 0x10, 12, fun n => [R.PH_ANG n]⟩,
  ⟨0xB0010, 0x0, 1, fun _ => [R.WF_LINE]⟩,
  ⟨0xB0014, 0x0, 1, fun _ => [R.WF_V1]⟩,
  ⟨0xB0018, 0x0, 1, fun _ => [R.WF_V0]⟩,
  ⟨0xB001C, 0x0, 1, fun _ => [R.WF_WINDOW]⟩,
  ⟨0xB0020, 0x4, 6, fun n => [R.WF_GAIN n]⟩,
  ⟨0xB0040, 0x4, 6, fun n => [R.WF_THR n]⟩,
  ⟨0xB0060, 0x0, 1, fun _ => [R.WF_CAPTSC_LO]⟩,
  ⟨0xB0064, 0x0, 1, fun _ => [R.WF_CAPTSC_HI]⟩,
  ⟨0x30114, 0x40, 4, fun n => [R.SL_TEST.PRBS_GEN n, R.SL_TEST.PRBS_CHK n, R.SL_TEST.PATTERN n, R.SL_TEST.PRBS_LOCK n]⟩,
  ⟨0x30118, 0x40, 4, fun n => [R.SL_INJECT.INJ_ONE n, R.SL_INJECT.INJ_RATE n]⟩,
  ⟨0x3011C, 0x40, 4, fun n => [R.SL_PRBS_ERR n]⟩,
  ⟨0x30120, 0x40, 4, fun n => [R.SL_PRBS_BITS_LO n]⟩,
  ⟨0xE0024, 0x0, 1, fun _ => [R.FC_CBI_ADDR]⟩,
  ⟨0xE0034, 0x0, 1, fun _ => [R.FC_GRP_T_LO]⟩,
  ⟨0xE0038, 0x0, 1, fun _ => [R.FC_GRP_T_HI]⟩,
  ⟨0xE0104, 0x10, 16, fun n => [R.FC_FIRST_TSC_LO n]⟩,
  ⟨0xE0108, 0x10, 16, fun n => [R.FC_FIRST_TSC_HI n]⟩,
  ⟨0xF0014, 0x0, 1, fun _ => [R.REC_SEQ]⟩,
  ⟨0xF0100, 0x20, 8, fun n => [R.LGS_A n]⟩,
  ⟨0xF0104, 0x20, 8, fun n => [R.LGS_B1 n]⟩,
  ⟨0xF0108, 0x20, 8, fun n => [R.LGS_B2 n]⟩,
  ⟨0xF010C, 0x20, 8, fun n => [R.LGS_L0 n]⟩]

/-- Part 7 of `regBlocks`. -/
def regBlocks7 : List Blk := [
  ⟨0xF0110, 0x20, 8, fun n => [R.LGS_TREF n]⟩,
  ⟨0xF0114, 0x20, 8, fun n => [R.LGS_ESR n]⟩,
  ⟨0xF0118, 0x20, 8, fun n => [R.LGS_ERATED n]⟩,
  ⟨0xF0030, 0x0, 1, fun _ => [R.REC_RDATA_HI]⟩,
  ⟨0xC0004, 0x0, 1, fun _ => [R.TS_TSC_HI]⟩,
  ⟨0x10124, 0x40, 64, fun n => [R.LN_PRBS_BITS_HI n]⟩,
  ⟨0x30124, 0x40, 4, fun n => [R.SL_PRBS_BITS_HI n]⟩,
  ⟨0xE0040, 0x4, 16, fun n => (List.range 16).map (R.FC_SEV (n + 1))⟩,
  ⟨0xE0080, 0x4, 4, fun n => [R.FC_LOSTCNT (4 * n + 1), R.FC_LOSTCNT (4 * n + 2), R.FC_LOSTCNT (4 * n + 3), R.FC_LOSTCNT (4 * n + 4)]⟩]

/-- The register words that hold fields: base address, step, count, and the fields of word `n`. -/
def regBlocks : List Blk :=
  regBlocks1 ++ regBlocks2 ++ regBlocks3 ++ regBlocks4 ++ regBlocks5 ++ regBlocks6 ++ regBlocks7

end Sys2Proof.Machine
end

