-- ==== Sys2Proof/Machine/Sources.lean ====
section
/-!
DEFINITION. Machine/Sources.lean: the fault sources of R435 (16_fault_collector.md) by name, and the leaf cause bit of
each. `Src` is a report's block, source index and instance; the default classes are those the chapters' cause tables
state (`defaultClass`, Machine/Fld.lean); the floors are those of R437.
-/
namespace Sys2Proof.Machine.Src

/-- LN_CAUSE, bit 0; block 1, source 0; 06_cell_lanes.md R184. -/
def LN_ABSENT (n : Nat := 0) : Src := ⟨1, 0, n⟩
/-- LN_CAUSE, bit 1; block 1, source 1; 06_cell_lanes.md R184. -/
def LN_LOST (n : Nat := 0) : Src := ⟨1, 1, n⟩
/-- LN_CAUSE, bit 2; block 1, source 2; 06_cell_lanes.md R184. -/
def LN_MAP_CONFLICT (n : Nat := 0) : Src := ⟨1, 2, n⟩
/-- LN_CAUSE, bit 3; block 1, source 3; 06_cell_lanes.md R184. -/
def LN_CODE_ERR (n : Nat := 0) : Src := ⟨1, 3, n⟩
/-- LN_CAUSE, bit 4; block 1, source 4; 06_cell_lanes.md R184. -/
def LN_PRBS_LOSS (n : Nat := 0) : Src := ⟨1, 4, n⟩
/-- LN_CAUSE, bit 5; block 1, source 5; 06_cell_lanes.md R184. -/
def LN_RETRAINED (n : Nat := 0) : Src := ⟨1, 5, n⟩
/-- LA_CAUSE, bit 8; block 1, source 8; 06_cell_lanes.md R181. -/
def LA_SETTING_REFUSED (n : Nat := 0) : Src := ⟨1, 8, n⟩
/-- LA_CAUSE, bit 9; block 1, source 9; 06_cell_lanes.md R181. -/
def LA_SPARE_EXHAUSTED (n : Nat := 0) : Src := ⟨1, 9, n⟩
/-- LKN_CAUSE, bit 0; block 2, source 0; 07_limisk_link.md R224. -/
def LKN_HEAD_FAULT (n : Nat := 0) : Src := ⟨2, 0, n⟩
/-- LKN_CAUSE, bit 1; block 2, source 1; 07_limisk_link.md R224. -/
def LKN_EDGE_OVERFLOW (n : Nat := 0) : Src := ⟨2, 1, n⟩
/-- LKN_CAUSE, bit 2; block 2, source 2; 07_limisk_link.md R224. -/
def LKN_TLM_LOST (n : Nat := 0) : Src := ⟨2, 2, n⟩
/-- LKN_CAUSE, bit 3; block 2, source 3; 07_limisk_link.md R224. -/
def LKN_LVL_MISMATCH (n : Nat := 0) : Src := ⟨2, 3, n⟩
/-- LKN_CAUSE, bit 4; block 2, source 4; 07_limisk_link.md R224. -/
def LKN_DELAY_SHIFT (n : Nat := 0) : Src := ⟨2, 4, n⟩
/-- LKN_CAUSE, bit 5; block 2, source 5; 07_limisk_link.md R224. -/
def LKN_DELAY_RANGE (n : Nat := 0) : Src := ⟨2, 5, n⟩
/-- LKN_CAUSE, bit 6; block 2, source 6; 07_limisk_link.md R224. -/
def LKN_ID_FAIL (n : Nat := 0) : Src := ⟨2, 6, n⟩
/-- LKN_CAUSE, bit 7; block 2, source 7; 07_limisk_link.md R224. -/
def LKN_ID_CHANGED (n : Nat := 0) : Src := ⟨2, 7, n⟩
/-- LKN_CAUSE, bit 8; block 2, source 8; 07_limisk_link.md R224. -/
def LKN_PORT_WRONG (n : Nat := 0) : Src := ⟨2, 8, n⟩
/-- LKN_CAUSE, bit 9; block 2, source 9; 07_limisk_link.md R224. -/
def LKN_PARAM_FAIL (n : Nat := 0) : Src := ⟨2, 9, n⟩
/-- SP_CAUSE, bit 0; block 3, source 0; 15_spine_groups.md R431. -/
def SP_SETTING_REFUSED (n : Nat := 0) : Src := ⟨3, 0, n⟩
/-- SP_CAUSE, bit 1; block 3, source 1; 15_spine_groups.md R431. -/
def SP_RING_OPEN (n : Nat := 0) : Src := ⟨3, 1, n⟩
/-- SP_CAUSE, bit 2; block 3, source 2; 15_spine_groups.md R431. -/
def SP_GROUP_MISMATCH (n : Nat := 0) : Src := ⟨3, 2, n⟩
/-- SP_CAUSE, bit 3; block 3, source 3; 15_spine_groups.md R431. -/
def SP_POS_DUPLICATE (n : Nat := 0) : Src := ⟨3, 3, n⟩
/-- SP_CAUSE, bit 4; block 3, source 4; 15_spine_groups.md R431. -/
def SP_RING_ORDER (n : Nat := 0) : Src := ⟨3, 4, n⟩
/-- SP_CAUSE, bit 5; block 3, source 5; 15_spine_groups.md R431. -/
def SP_NOTICE_BAD (n : Nat := 0) : Src := ⟨3, 5, n⟩
/-- SP_CAUSE, bit 6; block 3, source 6; 15_spine_groups.md R431. -/
def SP_MSG_DROPPED (n : Nat := 0) : Src := ⟨3, 6, n⟩
/-- SP_CAUSE, bit 7; block 3, source 7; 15_spine_groups.md R431. -/
def SP_FWD_TIMEOUT (n : Nat := 0) : Src := ⟨3, 7, n⟩
/-- SL_CAUSE, bit 0; block 3, source 8; 15_spine_groups.md R432. -/
def SL_ABSENT (n : Nat := 0) : Src := ⟨3, 8, n⟩
/-- SL_CAUSE, bit 1; block 3, source 9; 15_spine_groups.md R432. -/
def SL_LOST (n : Nat := 0) : Src := ⟨3, 9, n⟩
/-- SL_CAUSE, bit 2; block 3, source 10; 15_spine_groups.md R432. -/
def SL_SKEW (n : Nat := 0) : Src := ⟨3, 10, n⟩
/-- SL_CAUSE, bit 3; block 3, source 11; 15_spine_groups.md R432. -/
def SL_CODE_ERR (n : Nat := 0) : Src := ⟨3, 11, n⟩
/-- SL_CAUSE, bit 4; block 3, source 12; 15_spine_groups.md R432. -/
def SL_PRBS_LOSS (n : Nat := 0) : Src := ⟨3, 12, n⟩
/-- SL_CAUSE, bit 5; block 3, source 13; 15_spine_groups.md R432. -/
def SL_RETRAINED (n : Nat := 0) : Src := ⟨3, 13, n⟩
/-- EG_CAUSE, bit 0; block 4, source 0; 13_metrology.md R387. -/
def EG_LINK_DOWN (n : Nat := 0) : Src := ⟨4, 0, n⟩
/-- EG_CAUSE, bit 1; block 4, source 1; 13_metrology.md R387. -/
def EG_CFG_CHANGED (n : Nat := 0) : Src := ⟨4, 1, n⟩
/-- EG_CAUSE, bit 2; block 4, source 2; 13_metrology.md R387. -/
def EG_CMD_BAD (n : Nat := 0) : Src := ⟨4, 2, n⟩
/-- EG_CAUSE, bit 3; block 4, source 3; 13_metrology.md R387. -/
def EG_RX_BAD (n : Nat := 0) : Src := ⟨4, 3, n⟩
/-- FN_CAUSE, bit 0; block 5, source 0; 20_object_dictionary.md R545. -/
def FN_SETTING_REFUSED (n : Nat := 0) : Src := ⟨5, 0, n⟩
/-- FN_CAUSE, bit 1; block 5, source 1; 20_object_dictionary.md R545. -/
def FN_BUS_OFF (n : Nat := 0) : Src := ⟨5, 1, n⟩
/-- FN_CAUSE, bit 2; block 5, source 2; 20_object_dictionary.md R545. -/
def FN_ERROR_PASSIVE (n : Nat := 0) : Src := ⟨5, 2, n⟩
/-- FN_CAUSE, bit 3; block 5, source 3; 20_object_dictionary.md R545. -/
def FN_RX_OVERRUN (n : Nat := 0) : Src := ⟨5, 3, n⟩
/-- FN_CAUSE, bit 4; block 5, source 4; 20_object_dictionary.md R545. -/
def FN_NMT_REFUSED (n : Nat := 0) : Src := ⟨5, 4, n⟩
/-- FN_CAUSE, bit 5; block 5, source 5; 20_object_dictionary.md R545. -/
def FN_HB_LOST (n : Nat := 0) : Src := ⟨5, 5, n⟩
/-- FN_CAUSE, bit 6; block 5, source 6; 20_object_dictionary.md R545. -/
def FN_EMCY_LOST (n : Nat := 0) : Src := ⟨5, 6, n⟩
/-- FN_CAUSE, bit 7; block 5, source 7; 20_object_dictionary.md R545. -/
def FN_STORE_BAD (n : Nat := 0) : Src := ⟨5, 7, n⟩
/-- FN_CAUSE, bit 8; block 5, source 8; 20_object_dictionary.md R545. -/
def FN_SESSION_REFUSED (n : Nat := 0) : Src := ⟨5, 8, n⟩
/-- MOD_CAUSE, bit 1; block 6, source 1; 08_modulation.md R253. -/
def MOD_SETTING_REFUSED (n : Nat := 0) : Src := ⟨6, 1, n⟩
/-- MOD_CAUSE, bit 2; block 6, source 2; 08_modulation.md R253. -/
def MOD_CMP_CLAMP (n : Nat := 0) : Src := ⟨6, 2, n⟩
/-- MOD_CAUSE, bit 3; block 6, source 3; 08_modulation.md R253. -/
def MOD_SHOOT_REQ (n : Nat := 0) : Src := ⟨6, 3, n⟩
/-- MOD_CAUSE, bit 4; block 6, source 4; 08_modulation.md R253. -/
def MOD_PER_SHORT (n : Nat := 0) : Src := ⟨6, 4, n⟩
/-- MOD_CAUSE, bit 5; block 6, source 5; 08_modulation.md R253. -/
def MOD_REFRESH_RANGE (n : Nat := 0) : Src := ⟨6, 5, n⟩
/-- MOD_CAUSE, bit 6; block 6, source 6; 08_modulation.md R253. -/
def MOD_TRIP_CLR_REFUSED (n : Nat := 0) : Src := ⟨6, 6, n⟩
/-- MOD_CAUSE, bit 16; block 6, source 7; 08_modulation.md R253. -/
def MOD_TRIP_EVENT (n : Nat := 0) : Src := ⟨6, 7, n⟩
/-- MOD_CAUSE, bit 24; block 6, source 8; 08_modulation.md R253. -/
def MOD_TRIP_LATCHED (n : Nat := 0) : Src := ⟨6, 8, n⟩
/-- GSC_CAUSE, bit 0; block 7, source 0; 09_gate_supervision.md R281. -/
def GSC_SC (n : Nat := 0) : Src := ⟨7, 0, n⟩
/-- GSC_CAUSE, bit 1; block 7, source 1; 09_gate_supervision.md R281. -/
def GSC_CAP_OV (n : Nat := 0) : Src := ⟨7, 1, n⟩
/-- GSC_CAUSE, bit 2; block 7, source 2; 09_gate_supervision.md R281. -/
def GSC_BACKSTOP (n : Nat := 0) : Src := ⟨7, 2, n⟩
/-- GSC_CAUSE, bit 3; block 7, source 3; 09_gate_supervision.md R281. -/
def GSC_SCARLET_OTHER (n : Nat := 0) : Src := ⟨7, 3, n⟩
/-- GSC_CAUSE, bit 4; block 7, source 4; 09_gate_supervision.md R281. -/
def GSC_SCARLET_MISSING (n : Nat := 0) : Src := ⟨7, 4, n⟩
/-- GSC_CAUSE, bit 5; block 7, source 5; 09_gate_supervision.md R281. -/
def GSC_UVLO (n : Nat := 0) : Src := ⟨7, 5, n⟩
/-- GSC_CAUSE, bit 6; block 7, source 6; 09_gate_supervision.md R281. -/
def GSC_BOOT_UV (n : Nat := 0) : Src := ⟨7, 6, n⟩
/-- GSC_CAUSE, bit 7; block 7, source 7; 09_gate_supervision.md R281. -/
def GSC_BOOT_LOW (n : Nat := 0) : Src := ⟨7, 7, n⟩
/-- GSC_CAUSE, bit 8; block 7, source 8; 09_gate_supervision.md R281. -/
def GSC_TEMP_WARN (n : Nat := 0) : Src := ⟨7, 8, n⟩
/-- GSC_CAUSE, bit 9; block 7, source 9; 09_gate_supervision.md R281. -/
def GSC_TEMP_TRIP (n : Nat := 0) : Src := ⟨7, 9, n⟩
/-- GSC_CAUSE, bit 10; block 7, source 10; 09_gate_supervision.md R281. -/
def GSC_CLEAR_REFUSED (n : Nat := 0) : Src := ⟨7, 10, n⟩
/-- GS_CAUSE, bit 16; block 7, source 11; 09_gate_supervision.md R279. -/
def GS_SETTING_REFUSED (n : Nat := 0) : Src := ⟨7, 11, n⟩
/-- BAL_CAUSE, bit 0; block 8, source 0; 10_balancing_duplex.md R307. -/
def BAL_PARTNER_LOST (n : Nat := 0) : Src := ⟨8, 0, n⟩
/-- BAL_CAUSE, bit 1; block 8, source 1; 10_balancing_duplex.md R307. -/
def BAL_DUPLEX_CONTENTION (n : Nat := 0) : Src := ⟨8, 1, n⟩
/-- BAL_CAUSE, bit 2; block 8, source 2; 10_balancing_duplex.md R307. -/
def BAL_HB_BAD (n : Nat := 0) : Src := ⟨8, 2, n⟩
/-- BAL_CAUSE, bit 3; block 8, source 3; 10_balancing_duplex.md R307. -/
def BAL_CONFIG_MISMATCH (n : Nat := 0) : Src := ⟨8, 3, n⟩
/-- BAL_CAUSE, bit 4; block 8, source 4; 10_balancing_duplex.md R307. -/
def BAL_HANDBACK_REFUSED (n : Nat := 0) : Src := ⟨8, 4, n⟩
/-- BAL_CAUSE, bit 5; block 8, source 5; 10_balancing_duplex.md R307. -/
def BAL_SETTING_REFUSED (n : Nat := 0) : Src := ⟨8, 5, n⟩
/-- STR_CAUSE, bit 0; block 8, source 6; 10_balancing_duplex.md R308. -/
def STR_STRING_SHORT (n : Nat := 0) : Src := ⟨8, 6, n⟩
/-- STR_CAUSE, bit 1; block 8, source 7; 10_balancing_duplex.md R308. -/
def STR_RESERVE_LOW (n : Nat := 0) : Src := ⟨8, 7, n⟩
/-- STR_CAUSE, bit 2; block 8, source 8; 10_balancing_duplex.md R308. -/
def STR_KEY_INVALID (n : Nat := 0) : Src := ⟨8, 8, n⟩
/-- STR_CAUSE, bit 3; block 8, source 9; 10_balancing_duplex.md R308. -/
def STR_RESERVE_INSERTED (n : Nat := 0) : Src := ⟨8, 9, n⟩
/-- BC_CAUSE, bit 0; block 8, source 10; 10_balancing_duplex.md R308. -/
def BC_OPEN_FAIL (n : Nat := 0) : Src := ⟨8, 10, n⟩
/-- BC_CAUSE, bit 1; block 8, source 11; 10_balancing_duplex.md R308. -/
def BC_CLOSE_FAIL (n : Nat := 0) : Src := ⟨8, 11, n⟩
/-- BAL_CAUSE, bit 8; block 8, source 12; 10_balancing_duplex.md R307. -/
def BAL_EJECT_ALONE (n : Nat := 0) : Src := ⟨8, 12, n⟩
/-- CE_CAUSE, bit 0; block 9, source 0; 11_control_engine.md R335. -/
def CE_SETTING_REFUSED (n : Nat := 0) : Src := ⟨9, 0, n⟩
/-- CE_CAUSE, bit 1; block 9, source 1; 11_control_engine.md R335. -/
def CE_TILE_ERROR (n : Nat := 0) : Src := ⟨9, 1, n⟩
/-- CE_CAUSE, bit 2; block 9, source 2; 11_control_engine.md R335. -/
def CE_CAP_DONE (n : Nat := 0) : Src := ⟨9, 2, n⟩
/-- CE_CAUSE, bit 3; block 9, source 3; 11_control_engine.md R335. -/
def CE_INJ_DONE (n : Nat := 0) : Src := ⟨9, 3, n⟩
/-- CX_CAUSE, bit 0; block 9, source 4; 11_control_engine.md R338. -/
def CX_OVERRUN (n : Nat := 0) : Src := ⟨9, 4, n⟩
/-- CX_CAUSE, bit 1; block 9, source 5; 11_control_engine.md R338. -/
def CX_ABORTED (n : Nat := 0) : Src := ⟨9, 5, n⟩
/-- CX_CAUSE, bit 2; block 9, source 6; 11_control_engine.md R338. -/
def CX_OUT_RANGE (n : Nat := 0) : Src := ⟨9, 6, n⟩
/-- CX_CAUSE, bit 3; block 9, source 7; 11_control_engine.md R338. -/
def CX_MEM_RANGE (n : Nat := 0) : Src := ⟨9, 7, n⟩
/-- CX_CAUSE, bit 4; block 9, source 8; 11_control_engine.md R338. -/
def CX_TRIG_DROPPED (n : Nat := 0) : Src := ⟨9, 8, n⟩
/-- CX_CAUSE, bit 5; block 9, source 9; 11_control_engine.md R338. -/
def CX_WCET_RISK (n : Nat := 0) : Src := ⟨9, 9, n⟩
/-- CX_CAUSE, bit 6; block 9, source 10; 11_control_engine.md R338. -/
def CX_TILE_ERROR (n : Nat := 0) : Src := ⟨9, 10, n⟩
/-- CX_CAUSE, bit 7; block 9, source 11; 11_control_engine.md R338. -/
def CX_RESTART_REFUSED (n : Nat := 0) : Src := ⟨9, 11, n⟩
/-- MET_CAUSE, bit 0; block 10, source 0; 13_metrology.md R387. -/
def MET_SETTING_REFUSED (n : Nat := 0) : Src := ⟨10, 0, n⟩
/-- MET_CAUSE, bit 1; block 10, source 1; 13_metrology.md R387. -/
def MET_SD_STUCK (n : Nat := 0) : Src := ⟨10, 1, n⟩
/-- MET_CAUSE, bit 2; block 10, source 2; 13_metrology.md R387. -/
def MET_SD_OVR (n : Nat := 0) : Src := ⟨10, 2, n⟩
/-- MET_CAUSE, bit 3; block 10, source 3; 13_metrology.md R387. -/
def MET_REPORT_SKIPPED (n : Nat := 0) : Src := ⟨10, 3, n⟩
/-- MET_CAUSE, bit 4; block 10, source 4; 13_metrology.md R387. -/
def MET_FREQ_RANGE (n : Nat := 0) : Src := ⟨10, 4, n⟩
/-- MET_CAUSE, bit 5; block 10, source 5; 13_metrology.md R387. -/
def MET_BLOCK_MISSING (n : Nat := 0) : Src := ⟨10, 5, n⟩
/-- MET_CAUSE, bit 6; block 10, source 6; 13_metrology.md R387. -/
def MET_TIME_UNSYNC (n : Nat := 0) : Src := ⟨10, 6, n⟩
/-- WF_CAUSE, bit 0; block 11, source 0; 14_fault_location.md R406. -/
def WF_SETTING_REFUSED (n : Nat := 0) : Src := ⟨11, 0, n⟩
/-- WF_CAUSE, bit 1; block 11, source 1; 14_fault_location.md R406. -/
def WF_AMBIGUOUS (n : Nat := 0) : Src := ⟨11, 1, n⟩
/-- WF_CAUSE, bit 2; block 11, source 2; 14_fault_location.md R406. -/
def WF_NO_REFLECTION (n : Nat := 0) : Src := ⟨11, 2, n⟩
/-- WF_CAUSE, bit 3; block 11, source 3; 14_fault_location.md R406. -/
def WF_RECORD_LOST (n : Nat := 0) : Src := ⟨11, 3, n⟩
/-- WF_CAUSE, bit 4; block 11, source 4; 14_fault_location.md R406. -/
def WF_EVENT (n : Nat := 0) : Src := ⟨11, 4, n⟩
/-- WF_CAUSE, bit 5; block 11, source 5; 14_fault_location.md R406. -/
def WF_OVR (n : Nat := 0) : Src := ⟨11, 5, n⟩
/-- WF_CAUSE, bit 6; block 11, source 6; 14_fault_location.md R406. -/
def WF_ALIGN_FAIL (n : Nat := 0) : Src := ⟨11, 6, n⟩
/-- WF_CAUSE, bit 7; block 11, source 7; 14_fault_location.md R406. -/
def WF_BANK_LEVEL (n : Nat := 0) : Src := ⟨11, 7, n⟩
/-- TS_CAUSE, bit 0; block 12, source 0; 05_timescale.md R151. -/
def TS_REF_LOST (n : Nat := 0) : Src := ⟨12, 0, n⟩
/-- TS_CAUSE, bit 1; block 12, source 1; 05_timescale.md R151. -/
def TS_REF_JUMP (n : Nat := 0) : Src := ⟨12, 1, n⟩
/-- TS_CAUSE, bit 2; block 12, source 2; 05_timescale.md R151. -/
def TS_REF_RANGE (n : Nat := 0) : Src := ⟨12, 2, n⟩
/-- TS_CAUSE, bit 3; block 12, source 3; 05_timescale.md R151. -/
def TS_STEPPED (n : Nat := 0) : Src := ⟨12, 3, n⟩
/-- TS_CAUSE, bit 4; block 12, source 4; 05_timescale.md R151. -/
def TS_PPS_STRAY (n : Nat := 0) : Src := ⟨12, 4, n⟩
/-- TS_CAUSE, bit 5; block 12, source 5; 05_timescale.md R151. -/
def TS_TOS_MISSING (n : Nat := 0) : Src := ⟨12, 5, n⟩
/-- TS_CAUSE, bit 6; block 12, source 6; 05_timescale.md R151. -/
def TS_ALIGN (n : Nat := 0) : Src := ⟨12, 6, n⟩
/-- TS_CAUSE, bit 7; block 12, source 7; 05_timescale.md R151. -/
def TS_GROUP_LOST (n : Nat := 0) : Src := ⟨12, 7, n⟩
/-- TS_CAUSE, bit 8; block 12, source 8; 05_timescale.md R151. -/
def TS_EPOCH (n : Nat := 0) : Src := ⟨12, 8, n⟩
/-- TS_CAUSE, bit 9; block 12, source 9; 05_timescale.md R151. -/
def TS_RING_DELAY (n : Nat := 0) : Src := ⟨12, 9, n⟩
/-- TS_CAUSE, bit 10; block 12, source 10; 05_timescale.md R151. -/
def TS_HOLDOVER_LIMIT (n : Nat := 0) : Src := ⟨12, 10, n⟩
/-- TS_CAUSE, bit 11; block 12, source 11; 05_timescale.md R151. -/
def TS_OPSEC_TORN (n : Nat := 0) : Src := ⟨12, 11, n⟩
/-- CLK_CAUSE, bit 0; block 13, source 0; 04_clocks_plls.md R121. -/
def CLK_MON_FAILED (n : Nat := 0) : Src := ⟨13, 0, n⟩
/-- CLK_CAUSE, bit 1; block 13, source 1; 04_clocks_plls.md R121. -/
def CLK_PLLC_LOST_PARTNER (n : Nat := 0) : Src := ⟨13, 1, n⟩
/-- CLK_CAUSE, bit 2; block 13, source 2; 04_clocks_plls.md R121. -/
def CLK_PLLC_LOST_ALONE (n : Nat := 0) : Src := ⟨13, 2, n⟩
/-- CLK_CAUSE, bit 3; block 13, source 3; 04_clocks_plls.md R121. -/
def CLK_PLLS_LOST (n : Nat := 0) : Src := ⟨13, 3, n⟩
/-- CLK_CAUSE, bit 4; block 13, source 4; 04_clocks_plls.md R121. -/
def CLK_PLLT_LOST (n : Nat := 0) : Src := ⟨13, 4, n⟩
/-- CLK_CAUSE, bit 5; block 13, source 5; 04_clocks_plls.md R121. -/
def CLK_MUX_HANG_CAN (n : Nat := 0) : Src := ⟨13, 5, n⟩
/-- CLK_CAUSE, bit 6; block 13, source 6; 04_clocks_plls.md R121. -/
def CLK_MUX_HANG_CKOUT (n : Nat := 0) : Src := ⟨13, 6, n⟩
/-- CLK_CAUSE, bit 7; block 13, source 7; 04_clocks_plls.md R121. -/
def CLK_REF_DEFERRED (n : Nat := 0) : Src := ⟨13, 7, n⟩
/-- CLK_CAUSE, bit 8; block 13, source 8; 04_clocks_plls.md R121. -/
def CLK_LOCK_FILTER (n : Nat := 0) : Src := ⟨13, 8, n⟩
/-- CLK_CAUSE, bit 9; block 13, source 9; 04_clocks_plls.md R121. -/
def CLK_FORCE_REFUSED (n : Nat := 0) : Src := ⟨13, 9, n⟩
/-- CLK_CAUSE, bit 10; block 13, source 10; 04_clocks_plls.md R121. -/
def CLK_SETTING_REFUSED (n : Nat := 0) : Src := ⟨13, 10, n⟩
/-- FC_CAUSE, bit 0; block 14, source 0; 16_fault_collector.md R456. -/
def FC_SETTING_REFUSED (n : Nat := 0) : Src := ⟨14, 0, n⟩
/-- FC_CAUSE, bit 1; block 14, source 1; 16_fault_collector.md R456. -/
def FC_RECOV_LATCH (n : Nat := 0) : Src := ⟨14, 1, n⟩
/-- FC_CAUSE, bit 2; block 14, source 2; 16_fault_collector.md R456. -/
def FC_INJ_MISS (n : Nat := 0) : Src := ⟨14, 2, n⟩
/-- FC_CAUSE, bit 3; block 14, source 3; 16_fault_collector.md R456. -/
def FC_RING_BLACK (n : Nat := 0) : Src := ⟨14, 3, n⟩
/-- FC_CAUSE, bit 4; block 14, source 4; 16_fault_collector.md R456. -/
def FC_ECC_CORR (n : Nat := 0) : Src := ⟨14, 4, n⟩
/-- FC_CAUSE, bit 5; block 14, source 5; 16_fault_collector.md R456. -/
def FC_ECC_UNCORR (n : Nat := 0) : Src := ⟨14, 5, n⟩
/-- FC_CAUSE, bit 6; block 14, source 6; 16_fault_collector.md R456. -/
def FC_SAFE_EXIT_REFUSED (n : Nat := 0) : Src := ⟨14, 6, n⟩
/-- REC_CAUSE, bit 0; block 15, source 0; 18_recorder_ledger.md R498. -/
def REC_SETTING_REFUSED (n : Nat := 0) : Src := ⟨15, 0, n⟩
/-- REC_CAUSE, bit 1; block 15, source 1; 18_recorder_ledger.md R498. -/
def REC_TORN (n : Nat := 0) : Src := ⟨15, 1, n⟩
/-- REC_CAUSE, bit 2; block 15, source 2; 18_recorder_ledger.md R498. -/
def REC_QUEUE_LOST (n : Nat := 0) : Src := ⟨15, 2, n⟩
/-- REC_CAUSE, bit 3; block 15, source 3; 18_recorder_ledger.md R498. -/
def REC_LEDGER_TORN (n : Nat := 0) : Src := ⟨15, 3, n⟩
/-- REC_CAUSE, bit 4; block 15, source 4; 18_recorder_ledger.md R498. -/
def REC_LEDGER_DUP (n : Nat := 0) : Src := ⟨15, 4, n⟩
/-- REC_CAUSE, bit 5; block 15, source 5; 18_recorder_ledger.md R498. -/
def REC_HIST_EVICT (n : Nat := 0) : Src := ⟨15, 5, n⟩
/-- REC_CAUSE, bit 6; block 15, source 6; 18_recorder_ledger.md R498. -/
def REC_LIFE_WARN (n : Nat := 0) : Src := ⟨15, 6, n⟩
/-- REC_CAUSE, bit 7; block 15, source 7; 18_recorder_ledger.md R498. -/
def REC_LIFE_END (n : Nat := 0) : Src := ⟨15, 7, n⟩
/-- SEC_CAUSE, bit 0; block 16, source 0; 19_security_repair.md R524. -/
def SEC_SETTING_REFUSED (n : Nat := 0) : Src := ⟨16, 0, n⟩
/-- SEC_CAUSE, bit 1; block 16, source 1; 19_security_repair.md R524. -/
def SEC_AUTH_FAIL (n : Nat := 0) : Src := ⟨16, 1, n⟩
/-- SEC_CAUSE, bit 2; block 16, source 2; 19_security_repair.md R524. -/
def SEC_ROLLBACK (n : Nat := 0) : Src := ⟨16, 2, n⟩
/-- SEC_CAUSE, bit 3; block 16, source 3; 19_security_repair.md R524. -/
def SEC_UPDATE_REVERTED (n : Nat := 0) : Src := ⟨16, 3, n⟩
/-- SEC_CAUSE, bit 4; block 16, source 4; 19_security_repair.md R524. -/
def SEC_DEBUG_OPEN (n : Nat := 0) : Src := ⟨16, 4, n⟩
/-- SEC_CAUSE, bit 5; block 16, source 5; 19_security_repair.md R524. -/
def SEC_REPAIR_TILES (n : Nat := 0) : Src := ⟨16, 5, n⟩
/-- SEC_CAUSE, bit 6; block 16, source 6; 19_security_repair.md R524. -/
def SEC_REPAIR_MEM (n : Nat := 0) : Src := ⟨16, 6, n⟩
/-- SEC_CAUSE, bit 7; block 16, source 7; 19_security_repair.md R524. -/
def SEC_MEM_UNREPAIRED (n : Nat := 0) : Src := ⟨16, 7, n⟩
/-- SEC_CAUSE, bit 8; block 16, source 8; 19_security_repair.md R524. -/
def SEC_MAP_TORN (n : Nat := 0) : Src := ⟨16, 8, n⟩
/-- TH_CAUSE, bit 0; block 16, source 9; 17_thermal.md R471. -/
def TH_SETTING_REFUSED (n : Nat := 0) : Src := ⟨16, 9, n⟩
/-- TH_CAUSE, bit 1; block 16, source 10; 17_thermal.md R471. -/
def TH_WARN (n : Nat := 0) : Src := ⟨16, 10, n⟩
/-- TH_CAUSE, bit 2; block 16, source 11; 17_thermal.md R471. -/
def TH_THROTTLE (n : Nat := 0) : Src := ⟨16, 11, n⟩
/-- TH_CAUSE, bit 3; block 16, source 12; 17_thermal.md R471. -/
def TH_RATE (n : Nat := 0) : Src := ⟨16, 12, n⟩
/-- TH_CAUSE, bit 4; block 16, source 13; 17_thermal.md R471. -/
def TH_SENSOR_FAIL (n : Nat := 0) : Src := ⟨16, 13, n⟩
/-- TH_CAUSE, bit 5; block 16, source 14; 17_thermal.md R471. -/
def TH_SENSORS_LOST (n : Nat := 0) : Src := ⟨16, 14, n⟩
/-- TH_CAUSE, bit 6; block 16, source 15; 17_thermal.md R471. -/
def TH_SHUTDOWN (n : Nat := 0) : Src := ⟨16, 15, n⟩

end Sys2Proof.Machine.Src

namespace Sys2Proof.Machine

/-- The leaf cause bit of a source (R434, R435); none where the block does not use the source index. -/
def leafOf (r : Src) : Option Fld :=
  match r.block, r.src with
  | 1, 0 => some (R.LN_CAUSE.ABSENT r.inst)
  | 1, 1 => some (R.LN_CAUSE.LOST r.inst)
  | 1, 2 => some (R.LN_CAUSE.MAP_CONFLICT r.inst)
  | 1, 3 => some (R.LN_CAUSE.CODE_ERR r.inst)
  | 1, 4 => some (R.LN_CAUSE.PRBS_LOSS r.inst)
  | 1, 5 => some (R.LN_CAUSE.RETRAINED r.inst)
  | 1, 8 => some (R.LA_CAUSE.SETTING_REFUSED)
  | 1, 9 => some (R.LA_CAUSE.SPARE_EXHAUSTED)
  | 2, 0 => some (R.LKN_CAUSE.HEAD_FAULT r.inst)
  | 2, 1 => some (R.LKN_CAUSE.EDGE_OVERFLOW r.inst)
  | 2, 2 => some (R.LKN_CAUSE.TLM_LOST r.inst)
  | 2, 3 => some (R.LKN_CAUSE.LVL_MISMATCH r.inst)
  | 2, 4 => some (R.LKN_CAUSE.DELAY_SHIFT r.inst)
  | 2, 5 => some (R.LKN_CAUSE.DELAY_RANGE r.inst)
  | 2, 6 => some (R.LKN_CAUSE.ID_FAIL r.inst)
  | 2, 7 => some (R.LKN_CAUSE.ID_CHANGED r.inst)
  | 2, 8 => some (R.LKN_CAUSE.PORT_WRONG r.inst)
  | 2, 9 => some (R.LKN_CAUSE.PARAM_FAIL r.inst)
  | 3, 0 => some (R.SP_CAUSE.SETTING_REFUSED)
  | 3, 1 => some (R.SP_CAUSE.RING_OPEN)
  | 3, 2 => some (R.SP_CAUSE.GROUP_MISMATCH)
  | 3, 3 => some (R.SP_CAUSE.POS_DUPLICATE)
  | 3, 4 => some (R.SP_CAUSE.RING_ORDER)
  | 3, 5 => some (R.SP_CAUSE.NOTICE_BAD)
  | 3, 6 => some (R.SP_CAUSE.MSG_DROPPED)
  | 3, 7 => some (R.SP_CAUSE.FWD_TIMEOUT)
  | 3, 8 => some (R.SL_CAUSE.ABSENT r.inst)
  | 3, 9 => some (R.SL_CAUSE.LOST r.inst)
  | 3, 10 => some (R.SL_CAUSE.SKEW r.inst)
  | 3, 11 => some (R.SL_CAUSE.CODE_ERR r.inst)
  | 3, 12 => some (R.SL_CAUSE.PRBS_LOSS r.inst)
  | 3, 13 => some (R.SL_CAUSE.RETRAINED r.inst)
  | 4, 0 => some (R.EG_CAUSE.LINK_DOWN)
  | 4, 1 => some (R.EG_CAUSE.CFG_CHANGED)
  | 4, 2 => some (R.EG_CAUSE.CMD_BAD)
  | 4, 3 => some (R.EG_CAUSE.RX_BAD)
  | 5, 0 => some (R.FN_CAUSE.SETTING_REFUSED)
  | 5, 1 => some (R.FN_CAUSE.BUS_OFF)
  | 5, 2 => some (R.FN_CAUSE.ERROR_PASSIVE)
  | 5, 3 => some (R.FN_CAUSE.RX_OVERRUN)
  | 5, 4 => some (R.FN_CAUSE.NMT_REFUSED)
  | 5, 5 => some (R.FN_CAUSE.HB_LOST)
  | 5, 6 => some (R.FN_CAUSE.EMCY_LOST)
  | 5, 7 => some (R.FN_CAUSE.STORE_BAD)
  | 5, 8 => some (R.FN_CAUSE.SESSION_REFUSED)
  | 6, 1 => some (R.MOD_CAUSE.SETTING_REFUSED)
  | 6, 2 => some (R.MOD_CAUSE.CMP_CLAMP)
  | 6, 3 => some (R.MOD_CAUSE.SHOOT_REQ)
  | 6, 4 => some (R.MOD_CAUSE.PER_SHORT)
  | 6, 5 => some (R.MOD_CAUSE.REFRESH_RANGE)
  | 6, 6 => some (R.MOD_CAUSE.TRIP_CLR_REFUSED)
  | 6, 7 => some (R.MOD_CAUSE.TRIP_EVENT r.inst)
  | 6, 8 => some (R.MOD_CAUSE.TRIP_LATCHED r.inst)
  | 7, 0 => some (R.GSC_CAUSE.SC r.inst)
  | 7, 1 => some (R.GSC_CAUSE.CAP_OV r.inst)
  | 7, 2 => some (R.GSC_CAUSE.BACKSTOP r.inst)
  | 7, 3 => some (R.GSC_CAUSE.SCARLET_OTHER r.inst)
  | 7, 4 => some (R.GSC_CAUSE.SCARLET_MISSING r.inst)
  | 7, 5 => some (R.GSC_CAUSE.UVLO r.inst)
  | 7, 6 => some (R.GSC_CAUSE.BOOT_UV r.inst)
  | 7, 7 => some (R.GSC_CAUSE.BOOT_LOW r.inst)
  | 7, 8 => some (R.GSC_CAUSE.TEMP_WARN r.inst)
  | 7, 9 => some (R.GSC_CAUSE.TEMP_TRIP r.inst)
  | 7, 10 => some (R.GSC_CAUSE.CLEAR_REFUSED r.inst)
  | 7, 11 => some (R.GS_CAUSE.SETTING_REFUSED)
  | 8, 0 => some (R.BAL_CAUSE.PARTNER_LOST)
  | 8, 1 => some (R.BAL_CAUSE.DUPLEX_CONTENTION)
  | 8, 2 => some (R.BAL_CAUSE.HB_BAD)
  | 8, 3 => some (R.BAL_CAUSE.CONFIG_MISMATCH)
  | 8, 4 => some (R.BAL_CAUSE.HANDBACK_REFUSED)
  | 8, 5 => some (R.BAL_CAUSE.SETTING_REFUSED)
  | 8, 6 => some (R.STR_CAUSE.STRING_SHORT r.inst)
  | 8, 7 => some (R.STR_CAUSE.RESERVE_LOW r.inst)
  | 8, 8 => some (R.STR_CAUSE.KEY_INVALID r.inst)
  | 8, 9 => some (R.STR_CAUSE.RESERVE_INSERTED r.inst)
  | 8, 10 => some (R.BC_CAUSE.OPEN_FAIL r.inst)
  | 8, 11 => some (R.BC_CAUSE.CLOSE_FAIL r.inst)
  | 8, 12 => some (R.BAL_CAUSE.EJECT_ALONE)
  | 9, 0 => some (R.CE_CAUSE.SETTING_REFUSED)
  | 9, 1 => some (R.CE_CAUSE.TILE_ERROR)
  | 9, 2 => some (R.CE_CAUSE.CAP_DONE)
  | 9, 3 => some (R.CE_CAUSE.INJ_DONE)
  | 9, 4 => some (R.CX_CAUSE.OVERRUN r.inst)
  | 9, 5 => some (R.CX_CAUSE.ABORTED r.inst)
  | 9, 6 => some (R.CX_CAUSE.OUT_RANGE r.inst)
  | 9, 7 => some (R.CX_CAUSE.MEM_RANGE r.inst)
  | 9, 8 => some (R.CX_CAUSE.TRIG_DROPPED r.inst)
  | 9, 9 => some (R.CX_CAUSE.WCET_RISK r.inst)
  | 9, 10 => some (R.CX_CAUSE.TILE_ERROR r.inst)
  | 9, 11 => some (R.CX_CAUSE.RESTART_REFUSED r.inst)
  | 10, 0 => some (R.MET_CAUSE.SETTING_REFUSED)
  | 10, 1 => some (R.MET_CAUSE.SD_STUCK)
  | 10, 2 => some (R.MET_CAUSE.SD_OVR)
  | 10, 3 => some (R.MET_CAUSE.REPORT_SKIPPED)
  | 10, 4 => some (R.MET_CAUSE.FREQ_RANGE)
  | 10, 5 => some (R.MET_CAUSE.BLOCK_MISSING)
  | 10, 6 => some (R.MET_CAUSE.TIME_UNSYNC)
  | 11, 0 => some (R.WF_CAUSE.SETTING_REFUSED)
  | 11, 1 => some (R.WF_CAUSE.AMBIGUOUS)
  | 11, 2 => some (R.WF_CAUSE.NO_REFLECTION)
  | 11, 3 => some (R.WF_CAUSE.RECORD_LOST)
  | 11, 4 => some (R.WF_CAUSE.EVENT)
  | 11, 5 => some (R.WF_CAUSE.OVR)
  | 11, 6 => some (R.WF_CAUSE.ALIGN_FAIL)
  | 11, 7 => some (R.WF_CAUSE.BANK_LEVEL)
  | 12, 0 => some (R.TS_CAUSE.REF_LOST)
  | 12, 1 => some (R.TS_CAUSE.REF_JUMP)
  | 12, 2 => some (R.TS_CAUSE.REF_RANGE)
  | 12, 3 => some (R.TS_CAUSE.STEPPED)
  | 12, 4 => some (R.TS_CAUSE.PPS_STRAY)
  | 12, 5 => some (R.TS_CAUSE.TOS_MISSING)
  | 12, 6 => some (R.TS_CAUSE.ALIGN)
  | 12, 7 => some (R.TS_CAUSE.GROUP_LOST)
  | 12, 8 => some (R.TS_CAUSE.EPOCH)
  | 12, 9 => some (R.TS_CAUSE.RING_DELAY)
  | 12, 10 => some (R.TS_CAUSE.HOLDOVER_LIMIT)
  | 12, 11 => some (R.TS_CAUSE.OPSEC_TORN)
  | 13, 0 => some (R.CLK_CAUSE.MON_FAILED)
  | 13, 1 => some (R.CLK_CAUSE.PLLC_LOST_PARTNER)
  | 13, 2 => some (R.CLK_CAUSE.PLLC_LOST_ALONE)
  | 13, 3 => some (R.CLK_CAUSE.PLLS_LOST)
  | 13, 4 => some (R.CLK_CAUSE.PLLT_LOST)
  | 13, 5 => some (R.CLK_CAUSE.MUX_HANG_CAN)
  | 13, 6 => some (R.CLK_CAUSE.MUX_HANG_CKOUT)
  | 13, 7 => some (R.CLK_CAUSE.REF_DEFERRED)
  | 13, 8 => some (R.CLK_CAUSE.LOCK_FILTER)
  | 13, 9 => some (R.CLK_CAUSE.FORCE_REFUSED)
  | 13, 10 => some (R.CLK_CAUSE.SETTING_REFUSED)
  | 14, 0 => some (R.FC_CAUSE.SETTING_REFUSED)
  | 14, 1 => some (R.FC_CAUSE.RECOV_LATCH)
  | 14, 2 => some (R.FC_CAUSE.INJ_MISS)
  | 14, 3 => some (R.FC_CAUSE.RING_BLACK)
  | 14, 4 => some (R.FC_CAUSE.ECC_CORR)
  | 14, 5 => some (R.FC_CAUSE.ECC_UNCORR)
  | 14, 6 => some (R.FC_CAUSE.SAFE_EXIT_REFUSED)
  | 15, 0 => some (R.REC_CAUSE.SETTING_REFUSED)
  | 15, 1 => some (R.REC_CAUSE.TORN)
  | 15, 2 => some (R.REC_CAUSE.QUEUE_LOST)
  | 15, 3 => some (R.REC_CAUSE.LEDGER_TORN)
  | 15, 4 => some (R.REC_CAUSE.LEDGER_DUP)
  | 15, 5 => some (R.REC_CAUSE.HIST_EVICT)
  | 15, 6 => some (R.REC_CAUSE.LIFE_WARN)
  | 15, 7 => some (R.REC_CAUSE.LIFE_END)
  | 16, 0 => some (R.SEC_CAUSE.SETTING_REFUSED)
  | 16, 1 => some (R.SEC_CAUSE.AUTH_FAIL)
  | 16, 2 => some (R.SEC_CAUSE.ROLLBACK)
  | 16, 3 => some (R.SEC_CAUSE.UPDATE_REVERTED)
  | 16, 4 => some (R.SEC_CAUSE.DEBUG_OPEN)
  | 16, 5 => some (R.SEC_CAUSE.REPAIR_TILES)
  | 16, 6 => some (R.SEC_CAUSE.REPAIR_MEM)
  | 16, 7 => some (R.SEC_CAUSE.MEM_UNREPAIRED)
  | 16, 8 => some (R.SEC_CAUSE.MAP_TORN)
  | 16, 9 => some (R.TH_CAUSE.SETTING_REFUSED)
  | 16, 10 => some (R.TH_CAUSE.WARN)
  | 16, 11 => some (R.TH_CAUSE.THROTTLE)
  | 16, 12 => some (R.TH_CAUSE.RATE)
  | 16, 13 => some (R.TH_CAUSE.SENSOR_FAIL)
  | 16, 14 => some (R.TH_CAUSE.SENSORS_LOST)
  | 16, 15 => some (R.TH_CAUSE.SHUTDOWN)
  | _, _ => none

end Sys2Proof.Machine
end

