-- ==== Sys2Proof/Machine/State.lean ====
section
/-!
DEFINITION. Machine/State.lean: everything the spec gives the block, as plain data. Every register field lives in `regs`
(Machine/Regs.lean names the fields); the records below hold the state behind the registers, chapter by chapter.
A field's default is its value at reset. Marks in brackets name the log entry of a value the spec does not give.
-/
namespace Sys2Proof.Machine

/-- The device states of R6 (00_scope.md). -/
inductive DevState where
  | off | standby | coldHold | boot | slate | configure | armed | run | safe
  /-- The core, management, CAN and egress domains are gated after a loss of PLL-A; the reset follows at 5 µs (R64, R117; log 75). -/
  | gated
  deriving DecidableEq, Repr

/-- A reset cause that is latched and not yet taken: its code (R61), the TSC at the cause, whether that TSC is valid (R69),
the PGOOD inputs that were low (R55), and the clock-monitor cycle in which it arrived (R62). -/
structure ResetCause where
  code : Nat
  tsc : Nat
  tscValid : Bool
  low : Nat
  cyc : Nat
  deriving DecidableEq, Repr

/-- The last reset taken (R62): its cause, with the cause record, the start counters, the stage and the kind of start as they stood
before it, from which a lower code of the same clock-monitor cycle is recorded. -/
structure Taken where
  cause : ResetCause
  vals : List Nat
  stage : Nat
  failStage : Nat
  slateStart : Bool
  deriving DecidableEq, Repr

/-- Cold hold (R105): trim-ready, a deferred trip, CKREF passed, PLL-A started, the PLLs locked (bits 0 to 3 for A, C, S, T)
and the qualification time of PLL-A in µs. -/
structure ColdHold where
  rcReady : Bool := false
  deferred : Bool := false
  refPassed : Bool := false
  pllA : Bool := false
  locks : Nat := 0
  qualUs : Nat := 0
  deriving DecidableEq, Repr

/-- What has happened in the present core cycle (log 74), by which rules on two events of one cycle are judged. -/
structure CoreCycle where
  /-- The W1C fields that hardware has set (R13), and the leaves that were clear until an injected report set them (R452), by key. -/
  sets : List Nat := []
  forced : List Nat := []
  /-- The events that found their leaf set and made no report (R434). -/
  again : List ReportArg := []
  /-- One entry, by key, for each increment of a counter (R185). -/
  counts : List Nat := []
  /-- The reports taken, and the blocks of those captured (R442, R452). -/
  taken : List ReportArg := []
  captured : List Nat := []
  /-- The blocks whose HELD bit or LOST bit has had a report that set it, and those whose HELD bit software has cleared; the error-reset message has
  been queued for that (R442). -/
  held : List Nat := []
  released : List Nat := []
  errReset : Bool := false
  /-- A Black report has been taken (R449). -/
  black : Bool := false
  /-- The number of messages that the spine had sent before this cycle (R19). -/
  sentFrom : Nat := 0
  /-- The writes of entries that clients have completed at the Root (R535): client, entry (256 × index + sub-index), bytes. -/
  entries : List (Nat × Nat × List Byte) := []
  /-- What stood before the writes of this cycle, for the sample boundaries in it (R20): the targets and steps of a context, its pending bank request (SWAP_PENDING
  and PEND_BANK), and the two coefficient banks. -/
  oldSps : List (Nat × List Nat × List Nat) := []
  oldSwaps : List (Nat × Bool × Bool) := []
  oldA : Option (Tab Nat) := none
  oldB : Option (Tab Nat) := none
  deriving DecidableEq, Repr

/-- Power, pins, resets and the start policy (02_package_signals.md, 03_power_reset_insertion.md). -/
structure Power where
  state : DevState := .off
  /-- VKA applied (R57). -/
  vka : Bool := false
  /-- Levels of PRSNT (pulled down), nEJECT and nRESET (pulled up), R42. -/
  prsnt : Bool := false
  nEject : Bool := true
  nReset : Bool := true
  /-- PWREN, R54. -/
  pwren : Bool := false
  /-- The sampled straps GPOS6 to GPOS0, R47. -/
  straps : Nat := 0
  /-- 3.3 V detected on VIO1 to VIO4, bits 0 to 3, R41. -/
  vio : Nat := 0
  /-- Kept wake events of R59. -/
  wakeInsertion : Bool := false
  wakeReset : Bool := false
  wakeRestart : Bool := false
  /-- PRSNT low for 10 ms (R81): 0 not since the last insertion; 1 in Standby; 2 while Slate was held, or in Standby
  after a removal; 3 outside both. -/
  cycled : Nat := 0
  /-- The last start stage reached (R75), and that of the last failed start (0x2012:05). -/
  stage : Nat := 0
  failStage : Nat := 0
  /-- The tick of `State.now` at the last entry to Boot (R44). -/
  bootAt : Nat := 0
  /-- Timers running: rail-good (R54), Cold hold (R66), self-test (R70), the 20 µs of R55, the 4,096 ticks of R64. -/
  railGood : Bool := false
  coldHold : Bool := false
  ch : ColdHold := {}
  selfTest : Bool := false
  pgoodLoss : Bool := false
  nResetBlack : Bool := false
  /-- The filter has taken an nRESET pulse, and its reset has not been taken (R46). -/
  nResetTaken : Bool := false
  /-- PWREN has risen and Cold hold has not been entered since (R127). -/
  pwrenRose : Bool := false
  /-- A cause latched and not yet taken (R62, R64, R85), and the last reset taken (R62). -/
  cause : Option ResetCause := none
  taken : Option Taken := none
  /-- An ejection is in progress (R85, R86). -/
  ejecting : Bool := false
  /-- Firmware has written SELFTEST_DONE in this start (R71). -/
  selfTestDone : Bool := false
  /-- This start is a Slate start (R70); Slate is held from the boot ROM alone (R79). -/
  slateStart : Bool := false
  romOnly : Bool := false
  /-- Firmware runs (stage 0x5 or later, R75). -/
  fwRuns : Bool := false
  /-- The boundary-scan instruction in force (R520). -/
  tap : Option TapInstr := none
  deriving DecidableEq, Repr

/-- Clock distribution behind its registers (04_clocks_plls.md). -/
structure Clk where
  /-- The CKOUT source in use (R107). -/
  ckCur : Nat := 0
  /-- The tick of `State.now`, plus 1, at which the relock attempt of a PLL (1 to 3 for C, S, T) began, whose dividers are stopped for up to 2 ms
  (R116); PLL-T has relocked and awaits its return (R118). -/
  attempt : Tab Nat := []
  tReturn : Bool := false
  /-- The dither LFSRs (R92), by PLL; 0 before they are loaded. -/
  lfsr : Tab Nat := []
  /-- The CAN controller is held in reset by R112, and spread ramps down. -/
  canHeld : Bool := false
  ramp : Bool := false
  /-- The monitor's trips are ignored until the next reset (R104). -/
  monIgnored : Bool := false
  deriving DecidableEq, Repr

/-- The thermal monitor behind its registers (17_thermal.md). -/
structure Therm where
  /-- A sample has been taken since entry to Boot (R468). -/
  sampled : Bool := false
  /-- The last samples at the present rate, newest first (R463, R466), at most 17. -/
  hist : List (List (Option Int)) := []
  /-- Consecutive samples more than 15 °C off the median, by sensor (R462). -/
  off : Tab Nat := []
  /-- Consecutive fast samples without either condition of R461, and the consecutive samples with every rate at or below the limit (R466). -/
  calm : Nat := 0
  rateCalm : Nat := 0
  /-- The SHUT condition (R463); the sequence of R467 runs. -/
  shut : Bool := false
  shutting : Bool := false
  /-- Sensor 0 at the last trim of the clock-monitor oscillator (R469). -/
  trimAt : Option Int := none
  deriving DecidableEq, Repr

/-- The selected reference of R135. -/
inductive RefSource where
  | none | ptp | pps
  deriving DecidableEq, Repr

/-- A pending change of TAI_OFFSET, applied at the next frame boundary (R131, R137, R141). -/
inductive TaiChange where
  /-- Acquisition: the new offset. -/
  | acquire (offset : Nat)
  /-- A step by this many ticks. -/
  | step (d : Int)
  /-- The start of a slew by this many ticks. -/
  | slew (d : Int)
  /-- On a Member: the Root's TAI_OFFSET (R148). -/
  | follow (offset : Nat)
  deriving DecidableEq, Repr

/-- What the PTP slave sends (R132): a Pdelay_Req with its sequence, and a Pdelay_Resp with its Follow_Up: requester,
sequence and receive stamp; each with the VLAN ID and priority of its frame. -/
inductive PtpOut where
  | pdelayReq (seq vlan prio : Nat)
  | pdelayResp (source seq rx vlan prio : Nat)
  deriving DecidableEq, Repr

/-- The PTP slave (R132). Offsets are in 1/128 tick. -/
structure Ptp where
  sent : List PtpOut := []
  master : Option Announce := none
  /-- TSC of the master's last Announce (log 78). -/
  masterAt : Nat := 0
  /-- A two-step Sync that awaits its Follow_Up: source, sequence, receive stamp, correction. -/
  sync : Option (Nat × Nat × Nat × Int) := none
  /-- The outstanding Pdelay_Req: sequence and transmit stamp; then the response's receive stamp t4, and t2. -/
  pdelaySeq : Nat := 0
  pdelayT1 : Option Nat := none
  pdelayResp : Option (Nat × Int) := none
  /-- leap61 and leap59 of the last Announce (R379). -/
  leap61 : Bool := false
  leap59 : Bool := false
  meanDelay : Int := 0
  deriving DecidableEq, Repr

/-- One direction's last group time estimate (R145): the offset it gives in 1/128 tick, the TSC at which it came, and its
message number. -/
structure GroupEst where
  offset : Int
  tsc : Nat
  num : Nat
  deriving DecidableEq, Repr

/-- The timescale and its discipline (05_timescale.md). -/
structure Ts where
  /-- TSC, R125. -/
  tsc : Nat := 0
  running : Bool := false
  /-- The host aperture's copy of the TS_TSC_HI latch (R126, R541). -/
  tscHiHost : Nat := 0
  /-- Operating seconds at TSC 0 of this start (R128). -/
  opsecBase : Nat := 0
  taiOffset : Nat := 0
  taiValid : Bool := false
  groupOffset : Int := 0
  utcOffset : Int := 0
  source : RefSource := .none
  /-- PTP has no sample for 3 s (R135), and its run of samples while PPS is in use. -/
  ptpMissing : Bool := false
  ptpAgree : List (Nat × Int) := []
  /-- The run of agreeing samples: TSC and offset x in 1/128 tick, oldest first (R137). -/
  agree : List (Nat × Int) := []
  /-- Consecutive samples above the jump threshold (R137). -/
  jumps : Nat := 0
  lastX : Int := 0
  pendingTai : Option TaiChange := none
  /-- Remaining ticks of a slew (R141). -/
  slewLeft : Int := 0
  /-- TAI_OFFSET at the start of the slew. -/
  slewFrom : Nat := 0
  /-- Frequency correction, 0.1 ppb, the loop's integral part of it, the residual offset that the servo took last, in 1/128 tick, and its TSC
  (R136; log 79). -/
  freq : Int := 0
  integ : Rat := 0
  resid : Int := 0
  servoAt : Option Nat := none
  /-- The part of a phase step that the correction has gathered, in 10^-10 step (R95, R136). -/
  stepAcc : Int := 0
  fLast : Int := 0
  tLast : Option Rat := none
  /-- Sum and number of the compensation sensor's readings in this second, and the last 1 s mean, in 1/16 °C (R138). -/
  tSum : Int := 0
  tN : Nat := 0
  tMean : Option Rat := none
  /-- TSC at entry to HOLDOVER or GROUP_COAST (R139), and whether the estimate has passed the limit since. -/
  holdSince : Option Nat := none
  holdPassed : Bool := false
  /-- TSC at which the byte last showed LOCKED, and at which UTC − TAI last changed (R379). -/
  lockedAt : Option Nat := none
  utcChanged : Option Nat := none
  /-- Temperature bins: value in 0.1 ppb and count (R138). -/
  bins : Tab (Rat × Nat) := []
  ptp : Ptp := {}
  /-- PPS (R133, R134): the label of the next edge, whether it was newly written, and the TSC of the last accepted
  edge. -/
  ppsLabel : Option Nat := none
  ppsNew : Bool := false
  /-- The tick of `State.now` of the last write of a label, and the label before it (R134). -/
  ppsWas : Option (Nat × Option Nat) := none
  ppsLast : Option Nat := none
  /-- Group time (R144 to R148). -/
  epoch : Nat := 0
  groupEpoch : Option Nat := none
  groupEast : Option GroupEst := none
  groupWest : Option GroupEst := none
  joinRun : Nat := 0
  alignRun : Nat := 0
  alignActive : Bool := false
  lastGroup : Nat := 0
  pendingGroup : Option Int := none
  /-- The epoch that is not adopted, with the offset of its last message. -/
  pendingEpoch : Option (Nat × Int) := none
  rootTq : Nat := 0
  msgNum : Nat := 0
  /-- A periodic save of the operating seconds under way (R128): its value and the tick of `State.now` at its start. -/
  saving : Option (Nat × Nat) := none
  deriving DecidableEq, Repr

/-- Bring-up state behind one cell lane (06_cell_lanes.md). The receive fields belong to the lane's receive pad pair. -/
structure LaneSt where
  /-- Signal seen in this attempt (R167). -/
  sigSeen : Bool := false
  /-- Commas counted toward alignment, 0 to 4, and the bit position of the last one, which is the aligned one once aligned (R163). -/
  commas : Nat := 0
  commaPlace : Nat := 0
  /-- Consecutive sets that read as D10.2 (R159); the receiver has inverted in this attempt. -/
  invRun : Nat := 0
  inverted : Bool := false
  /-- Consecutive valid TSU sets with one echo, and that echo (R163 step 5). -/
  tsuRun : Nat := 0
  echo : Option Nat := none
  /-- Consecutive valid TSU2 sets (R163 step 6), and the TSC at entry to READY. -/
  tsu2Run : Nat := 0
  readyAt : Nat := 0
  /-- Lost since last in UP; in a run of retries from ABSENT (R166, R184). -/
  wasLost : Bool := false
  absent : Bool := false
  /-- Code errors within one frame of group time (R170). -/
  codeErrs : Nat := 0
  codeErrFrame : Nat := 0
  /-- The present attempt is a retry from ABSENT (R166). -/
  retry : Bool := false
  /-- TSC at the first TSD1 character of the present attempt (R163). -/
  startAt : Nat := 0
  deriving DecidableEq, Repr

/-- The pattern generator and checker of one lane (R175 to R178, R429). -/
structure Prbs where
  /-- The generator's last bits, the newest lowest, and the number it has sent; the INJ_ONE writes whose bit has not been sent, and whether their character
  boundary has come. -/
  gen : Nat := 0
  sent : Nat := 0
  one : Nat := 0
  late : Bool := false
  /-- The checker's last bits, the newest lowest; the bits of its seed; the run of matches; and, in lock, the bits checked and the numbers of those among the
  last 1,024 that were in error, newest first. -/
  hist : Nat := 0
  seeded : Nat := 0
  run : Nat := 0
  checked : Nat := 0
  errs : List Nat := []
  /-- Bits 47:32 of the bit count, and the host aperture's copy of their latch (R176, R541). -/
  hi : Nat := 0
  hiHost : Nat := 0
  /-- The bits that the transmit pair has sent with the last command that passed bits (log 7). -/
  tx : List Bool := []
  deriving DecidableEq, Repr

/-- An urgent set that a lane sends (R203): Black, or targeted with its gate mask. -/
inductive Urgent where
  | black
  | targeted (mask : Nat) (soft : Bool)
  deriving DecidableEq, Repr

/-- One gate edge of a frame: gate 0 to 11, level, and the tick of group time within the frame at which it takes effect. -/
structure Edge where
  gate : Nat
  level : Bool
  tick : Int
  deriving DecidableEq, Repr

/-- The Limisk link behind one lane (07_limisk_link.md). -/
structure LinkSt where
  /-- Characters 1 to 202 of the last valid upstream frame; none since the lane was last DOWN. -/
  up : List Byte := []
  upAt : Nat := 0
  /-- The stamp of its samples, in group time (R191). -/
  upStamp : Int := 0
  /-- Consecutive invalid upstream frames (R202). -/
  invalidRun : Nat := 0
  /-- Round trips of the present 64 frames (R190). -/
  rtSum : Nat := 0
  rtCount : Nat := 0
  /-- A mean has completed after the descriptor was held whole; a new D that awaits its frame boundary; D at admission. -/
  dFormed : Bool := false
  dPending : Option Nat := none
  dAdmit : Nat := 0
  dBad : Bool := false
  /-- Descriptor fetch (R218): DESC_REQ, the segments held, and the frame number at entry to IDENTIFY or at DESC_FETCH. -/
  descReq : Bool := false
  segs : Tab (List Byte) := []
  fetchAt : Nat := 0
  refetch : Bool := false
  /-- The last descriptor held whole, and the digests: of this fetch, and of the admitted cell (R217, R220). -/
  desc : List Byte := []
  digest : List Byte := []
  admitted : List Byte := []
  /-- Urgent sets that wait, oldest first (R32, R204). -/
  urgQ : List Urgent := []
  /-- The end of the last urgent set, in characters of group time; the slot it was sent in, the characters of urgent sets in that slot, and whether its frame
  was cut (R204). -/
  urgEnd : Nat := 0
  urgSlot : Nat := 0
  urgChars : Nat := 0
  cut : Bool := false
  /-- The characters of that frame's content that went out before the cut. -/
  cutAt : Nat := 0
  /-- Edges handed over since the last cut-off (R29, R195), and the levels expected before them (R192). -/
  edges : List Edge := []
  levels : Nat := 0
  /-- Gates of the urgent sets requested since the last hand-over: no edge handed over before counts in the next LEVELS (R264). -/
  muted : Nat := 0
  /-- The cell was driven at the start of the present frame (R34, R238). -/
  driven : Bool := false
  /-- The last downstream frame sent, characters 1 to 315, and the characters 1 to 3 of the last urgent set sent. -/
  down : List Byte := []
  lastUrgent : List Byte := []
  deriving DecidableEq, Repr

/-- Gate supervision behind one cell (09_gate_supervision.md). Tables are keyed by gate. -/
structure GateSt where
  /-- Consecutive valid frames below threshold, restored, low, and not low (R268, R271). -/
  under : Tab Nat := []
  restore : Tab Nat := []
  low : Tab Nat := []
  lowOff : Tab Nat := []
  /-- Gates whose BOOT_LOW condition is active (R271). -/
  bootLow : Nat := 0
  /-- Debounce counts and active conditions of R272. -/
  warnOn : Nat := 0
  warnOff : Nat := 0
  tripOn : Nat := 0
  tripOff : Nat := 0
  warnAct : Bool := false
  tripAct : Bool := false
  /-- The PARTNER_DELAY timer runs (R261). -/
  timer : Bool := false
  /-- Bypass fields of GS_POLICY, by bit, of the causes that have acted since the cell left MONITOR (R263). -/
  asks : Nat := 0
  /-- A clear in progress (R277): 0 none, 1 CLEAR_FAULT, 2 CLEAR_HOLD; and the frame it was accepted in. -/
  clearPhase : Nat := 0
  clearAt : Nat := 0
  /-- The device's copies of OC_THRESH and CAP_OV (R266). -/
  oc : Option Nat := none
  capOv : Option Nat := none
  /-- Scarlet sets with cause 0x1 and 0x2 recognised since entry to UP or the last CLEAR_FAULT (R266). -/
  scarOc : Bool := false
  scarCap : Bool := false
  /-- Bootstrap-supplied gates that are evaluated (R269). -/
  bootEval : Nat := 0
  /-- The cell is isolated whole, not leg by leg: its frames carry ENABLE = 0 (R261 step 4, R270). -/
  whole : Bool := false
  /-- Upstream slots below this frame number raise no LVL_MISMATCH (R264). -/
  lvlQuiet : Nat := 0
  /-- Frame in which this device isolated the cell itself (R301). -/
  isoAt : Option Nat := none
  /-- CLEAR_HOLD is due until an upstream frame shows HOLD = 0, after Safe (R448) or a trip (R247). -/
  clearHold : Bool := false
  /-- CLEAR_HOLD is due in the frame with this number (R247 step 3). -/
  tripClear : Option Nat := none
  deriving DecidableEq, Repr

/-- One opened carrier period (R227, R229, R237): group time of its ZERO, length, the PER latched for it, and EVT_CMP. -/
structure Period where
  zero : Nat
  len : Nat
  per : Nat
  evtCmp : Nat
  deriving DecidableEq, Repr

/-- A carrier behind its registers (R227 to R231, R235): the active values, the stamp of the latest shadow write, the
first ZERO that is due, the period in progress and the one opened after it, the pending PHASE shift and the
prescaler. -/
structure CarSt where
  per : Nat := 0x5000
  phase : Nat := 0
  evtCmp : Nat := 0x3FFFFFF
  stamp : Option Nat := none
  first : Option Nat := none
  cur : Option Period := none
  next : Option Period := none
  shift : Int := 0
  presc : Nat := 0
  deriving DecidableEq, Repr

/-- A leg behind its registers: the active values (R256), the stamp of the latest shadow write, the on-intervals planned
for each gate in group time, and what the refresh, interlock and trip rules hold (R242 to R249, R322). -/
structure LegSt where
  mode : Nat := 0
  val : Nat := 0
  val2 : Nat := 0
  dt : Nat := 0xFFF
  minp : Nat := 0xC8
  stamp : Option Nat := none
  hi : List (Nat × Nat) := []
  lo : List (Nat × Nat) := []
  /-- Mode of the last opened period, and its end. -/
  lastMode : Nat := 0
  planEnd : Nat := 0
  /-- The ZEROs of the last opened periods with the DT latched for each (R237), and the spans in which the interlock holds the leg both-off (R245). -/
  dts : List (Nat × Nat) := []
  shoots : List (Nat × Nat) := []
  /-- End of the last refreshing period in Run (R242), and the ends of opened periods that refresh. -/
  q : Option Nat := none
  refresh : List Nat := []
  /-- The next on-edge of the high or low side is suppressed (R249); the leg is held off by an abort (R322). -/
  supHi : Bool := false
  supLo : Bool := false
  abort : Bool := false
  deriving DecidableEq, Repr

/-- A leg store that a program has staged (R341, R355): leg, field (0 VAL, 1 VAL2, 2 MODE) and binary32 value. -/
structure LegStore where
  leg : Nat
  fld : Nat
  v : Nat
  deriving DecidableEq, Repr

/-- An active loop (R358): first and last word of the body, index and count. -/
structure LoopSt where
  first : Nat
  last : Nat
  idx : Nat
  count : Nat
  deriving DecidableEq, Repr

/-- A sample in progress (R316, R340, R341): what was latched at the boundary, the working registers, and what is
staged. Memories are kept by word; frames by lane; sorts by string, with the cell and key of each rank. -/
structure Sample where
  pc : Nat
  v : Tab Nat := []
  p : Nat := 0
  issues : Nat := 0
  loops : List LoopSt := []
  ended : Bool := false
  lastW : Nat := 2
  /-- Latched at the boundary (R28, R316). -/
  frames : Tab (List Byte) := []
  usable : Nat := 0
  chans : Tab Nat := []
  sps : Tab Nat := []
  dist : Nat := 0
  bank : Bool := false
  coefs : Tab Nat := []
  dt : Nat := 0
  releases : Nat := 0
  atTsc : Nat := 0
  /-- Sorts made at the boundary, and the strings whose results are ready (R295, R346). -/
  sorts : Tab (List (Nat × Nat)) := []
  ready : Nat := 0
  /-- Staged (R317, R357). -/
  legs : List LegStore := []
  commits : Nat := 0
  states : List (Nat × Nat) := []
  evts : List (Nat × Nat) := []
  outRange : Bool := false
  /-- The sample was latched at or after the first value of the injection (R331). -/
  synced : Bool := false
  deriving DecidableEq, Repr

/-- A release whose leg shadows have not all committed (R319): stamp and legs. -/
structure Release where
  stamp : Nat
  legs : List Nat
  deriving DecidableEq, Repr

/-- A context behind its registers (11_control_engine.md): v0 to v31 and p0 to p7 carried over (R315), the sample in
progress, the TSC of the last accepted trigger (R313) and of the last boundary since entry to IDLE (R353), the targets
held under SP_FREEZE (R329), releases not yet committed, and the drop count of TRIG_DROPPED (R313). -/
structure CtxSt where
  v : Tab Nat := []
  p : Nat := 0
  run : Option Sample := none
  lastTrig : Option Nat := none
  lastAt : Option Nat := none
  frozen : Option (Tab Nat) := none
  rels : List Release := []
  drops : Nat := 0
  /-- Triggers on their way to the context: outputs of its carrier, and releases of the context it follows (R231, R312, R314); the instant of group time of its last
  trigger by period (R312). -/
  due : Nat := 0
  perAt : Option Nat := none
  deriving DecidableEq, Repr

/-- The injection generator (R330): running, its first value has been taken, samples done, LFSR and phase. -/
structure Inject where
  on : Bool := false
  /-- A START has come since the capture was armed (R331). -/
  fresh : Bool := false
  done : Nat := 0
  held : Nat := 0
  lfsr : Nat := 0x1FF
  phase : Rat := 0
  value : Nat := 0
  /-- A START since the capture was armed has had its first sample (R331). -/
  synced : Bool := false
  deriving DecidableEq, Repr

/-- The control engine's memories by word (R327, R342), the loaded entry table with its WCETs (R359, R363), the
injection generator, and the releases skipped by the capture unit (R331). -/
structure Engine where
  prog : Tab Nat := []
  bankA : Tab Nat := []
  bankB : Tab Nat := []
  mem : Tab Nat := []
  entries : List (Nat × Nat) := []
  inj : Inject := {}
  skip : Nat := 0
  /-- Physical tiles that this Boot has mapped out (R310), and logical tiles with a tile error since (R323, R333). -/
  badUsed : Nat := 0
  tileErr : Nat := 0
  deriving DecidableEq, Repr

/-- Balancer state behind one cell (10_balancing_duplex.md). -/
structure BalSt where
  /-- Frame of the first command of the present OPENING or CLOSING (R290). -/
  since : Nat := 0
  /-- Consecutive frames with the lane ADMITTED while the cell is split away (R302), as the frame it began. -/
  admitSince : Nat := 0
  /-- OWNER changes to this value from the frame with this number (R35, R36, R302, R303). -/
  ownNext : Option (Nat × Bool) := none
  /-- KEY_INVALID condition (R294). -/
  keyBad : Bool := false
  /-- Frame from which OWNER = 1 has been sent (R37). -/
  ownSince : Nat := 0
  /-- The bypass command kept at leaving Run (R286). -/
  keepCmd : Option Nat := none
  /-- This device holds the cell, or has lost it, since a split of ownership (R302), and the frame from which the
  partner's heartbeats show the lane ADMITTED again. -/
  split : Bool := false
  partnerSince : Option Nat := none
  deriving DecidableEq, Repr

/-- A sort in the network (R295): its context, the ranked cells with their keys, and the cells whose key is invalid. -/
structure SortReq where
  ctx : Nat
  ranked : List (Nat × Nat)
  bad : List Nat
  deriving DecidableEq, Repr

/-- The conditions of one string that are raised once per entry (R289), and its sorts in the network, oldest first (R295). -/
structure StrSt where
  short : Bool := false
  low : Bool := false
  sortPending : List SortReq := []
  deriving DecidableEq, Repr

/-- The contents of a heartbeat (R299). -/
structure Heartbeat where
  flags : Nat := 0
  pos : Nat := 0
  state : Nat := 0
  frame : Nat := 0
  owned : Nat := 0
  admitted : Nat := 0
  isolated : Nat := 0
  inUse : Nat := 0
  parked : Nat := 0
  release : Nat := 0
  config : Nat := 0
  deriving DecidableEq, Repr

/-- The duplex bargain (R297 to R305). -/
structure Duplex where
  /-- Consecutive valid heartbeats; the partner's heartbeat is current; a valid one arrived in the present window. -/
  hbRun : Nat := 0
  current : Bool := false
  inWindow : Bool := false
  /-- The last valid heartbeat, and OWNED of the one before. -/
  last : Option Heartbeat := none
  prevOwned : Nat := 0
  /-- The role is decided (R298); consecutive frames of R298 toward running alone. -/
  decided : Bool := false
  alone : Nat := 0
  /-- READY (R304). -/
  ready : Bool := false
  /-- RECLAIM_REQ, and the frame from which heartbeats have come without a miss (R303). -/
  reclaimReq : Bool := false
  cleanFrom : Option Nat := none
  /-- Cells to be shown in RELEASE in the next heartbeat (R36, R302, R303). -/
  releaseNext : Nat := 0
  /-- Configuration digest of R305 (64 bytes; none before the first exit from Configure), and the mismatch condition. -/
  config : List Byte := []
  mismatch : Bool := false
  deriving DecidableEq, Repr

/-- The ring map last broadcast (R422). -/
structure RingMap where
  present : Nat
  dup : Nat
  complete : Bool
  closed : Bool
  num : Nat
  deriving DecidableEq, Repr

/-- A recorder entry (R475, 18_recorder_ledger.md) before it has a sequence number. -/
structure Rec where
  typ : Nat
  cls : Nat
  plane : Nat
  injected : Bool := false
  observed : Bool := false
  block : Nat := 0
  src : Nat := 0
  inst : Nat := 0
  tq : Nat := 0
  payload : List Byte := []
  tsc : Nat := 0
  opsec : Nat := 0
  pwrcyc : Nat := 0
  rep : Nat := 0
  repTsc : Nat := 0
  deriving DecidableEq, Repr

/-- What decides whether an event is a repeat (R481): TYPE, class, block, source, instance, and the code of TYPE 0x04. -/
structure RecKey where
  typ : Nat
  cls : Nat
  block : Nat
  src : Nat
  inst : Nat
  code : Nat
  deriving DecidableEq, Repr

/-- Fault collector state behind its registers (16_fault_collector.md). -/
structure Fc where
  /-- End time of each open window W0 to W8 (R443). -/
  winEnd : Tab Nat := []
  /-- TSC of the last report of each block (R453). -/
  lastReport : Tab Nat := []
  /-- TSCs of the automatic recoveries of each class, newest first (R454). -/
  recovered : Tab (List Nat) := []
  /-- Recovery steps of R453 under way: a CLR of a trip input, and the clear of a cell for a block. -/
  trips : List Nat := []
  cells : List (Nat × Nat) := []
  /-- Check-bit injection (R451): the injecting write has been made. -/
  cbiStored : Bool := false
  deriving DecidableEq, Repr

/-- A Black ring notice (R412, R426): origin position, source number, bits 31:0 of its group time, and hop count. -/
structure Notice where
  origin : Nat
  source : Nat
  stamp : Nat
  hops : Nat
  deriving DecidableEq, Repr

/-- An emergency message (R544). -/
structure Emcy where
  code : Nat
  bytes : List Byte
  deriving DecidableEq, Repr

/-- Bring-up and delay exchange behind one spine lane (15_spine_groups.md R413 to R417, R424). -/
structure SpLane where
  /-- Consecutive valid training blocks, and consecutive ones with RX_READY in both directions (R414). -/
  train : Nat := 0
  ready : Nat := 0
  /-- RX_READY is sent; the neighbour asks for precoding. -/
  rxReady : Bool := false
  nbPrecode : Bool := false
  /-- In a run of retries from ABSENT; lost since last in UP; the present attempt is a retry. -/
  absent : Bool := false
  wasLost : Bool := false
  retry : Bool := false
  /-- Code errors within one frame of group time (R417). -/
  codeErrs : Nat := 0
  codeErrFrame : Nat := 0
  /-- The outstanding delay-exchange request: sequence and stamp; a request that awaits its response. -/
  dlySeq : Nat := 0
  dlyAt : Option Nat := none
  dlyReq : Option (Nat × Nat) := none
  deriving DecidableEq, Repr

/-- The spine interface (15_spine_groups.md): the map, the message sequence numbers by channel, management messages that
wait for a route with their destinations (R421), and what the east (0) and west (1) links have sent. -/
structure Spine where
  lanes : Tab SpLane := []
  map : Option RingMap := none
  seq : Tab Nat := []
  waiting : List (Nat × List Byte) := []
  sent : List (Nat × List Byte) := []
  /-- A ring notice of this device that awaits the next block boundary (R33, R426). -/
  notice : Option Notice := none
  /-- The last 8 accepted notices (R428): origin, stamp, and the directions it was forwarded in (bit 0 east, 1 west), newest first. -/
  notices : List (Nat × Nat × Nat) := []
  /-- The Root's enumeration (R423): its number, whether it awaits its copies, and the positions that the east and west copies
  have returned as ends. -/
  enumNum : Nat := 0
  enumOpen : Bool := false
  enumEast : Option (List Nat) := none
  enumWest : Option (List Nat) := none
  /-- The sequence number of the last map taken (R421). -/
  mapSeq : Option Nat := none
  /-- Forwarded requests (R425), by position, oldest first: those outstanding, at most 4, and those that wait at the Root; each has
  a number. Answers that came before those of earlier requests, by number (abort code, data); and the bytes received so far of a message
  in parts, by the position it comes from. -/
  fwdSent : Tab (List (Nat × UsdoRequest)) := []
  fwdWait : Tab (List (Nat × UsdoRequest)) := []
  fwdNum : Nat := 0
  fwdDone : Tab (Nat × List Byte) := []
  fwdIn : Tab (List Byte) := []
  deriving DecidableEq, Repr

/-- One recorder slot (R474, R475): MARK, SEQ and the record it holds. -/
structure RecSlot where
  mark : Bool := false
  seq : Nat := 0
  r : Option Rec := none
  deriving DecidableEq, Repr

/-- The extremes of one string in the present period (R478): lowest and highest VCAP, highest TEMP0, highest |IARM|. -/
structure StrExt where
  vLow : Nat := 0xFFFF
  vHigh : Nat := 0xFFFF
  tHigh : Option Int := none
  iHigh : Option Nat := none
  deriving DecidableEq, Repr

/-- The recorder (18_recorder_ledger.md): the input queues of the control, data and management planes (R23); the last
key accepted for the fault and general regions, with the key and stamp of the repeats that are pending (R481); the
record in flight with its slot (R479); the selected record (R485); the host aperture's read latch (R483, R541); and the
extremes and the die histogram of the present period (R478). -/
structure RecSt where
  /-- The scan of R486 has been made in this start. -/
  scanned : Bool := false
  queues : Tab (List Rec) := []
  lastF : Option RecKey := none
  lastG : Option RecKey := none
  pendKeyF : Option RecKey := none
  pendKeyG : Option RecKey := none
  pendTscF : Nat := 0
  pendTscG : Nat := 0
  writing : Option (Nat × Rec) := none
  selected : List Byte := []
  rdataHiHost : Nat := 0
  dieHist : Tab Nat := []
  dieLow : Tab (Option Int) := []
  dieHigh : Tab (Option Int) := []
  strExt : Tab StrExt := []
  deriving DecidableEq, Repr

/-- A ledger slot's contents (R488). Damages and energies are binary64 patterns; `seq` counts saves. -/
structure Life where
  seq : Nat := 0
  digest : List Byte := []
  desc : List Byte := []
  untrusted : Bool := false
  imported : Bool := false
  /-- Warnings and ends raised, bit 0 switch, 1 capacitor thermal, 2 capacitor ripple (R493). -/
  warned : Nat := 0
  ended : Nat := 0
  lastLane : Nat := 0
  lastPos : Nat := 0
  firstOp : Nat := 0
  firstPwr : Nat := 0
  lastOp : Nat := 0
  lastPwr : Nat := 0
  useSec : Nat := 0
  admissions : Nat := 0
  closes : Nat := 0
  scCount : Nat := 0
  uvCount : Nat := 0
  tempHigh : Int := -32768
  vcapHigh : Nat := 0
  dSw : Nat := 0
  dCt : Nat := 0
  eR : Nat := 0
  dCr : Nat := 0
  hist : Tab Nat := []
  matrix : Tab Nat := []
  residue : List Int := []
  deriving DecidableEq, Repr

/-- One of the two MRAM copies of a live slot (R488, R494). -/
structure LifeCopy where
  mark : Bool := false
  seq : Nat := 0
  life : Option Life := none
  deriving DecidableEq, Repr

/-- The ledger's working state of one lane: the live slot, whether it has changed since its last save (R494), the running
extreme of TEMP0 and its direction (R490), and the frames, sum and sum of squares of IARM in the present ms (R492). -/
structure LedgerSt where
  life : Option Life := none
  dirty : Bool := false
  ext : Option Int := none
  rising : Bool := true
  iCount : Nat := 0
  iSum : Int := 0
  iSq : Nat := 0
  deriving DecidableEq, Repr

/-- The repair map (R503). -/
structure RepairMap where
  /-- Bad physical tiles, faulty pad pairs and faulty spare serializers, as masks. -/
  tiles : Nat := 0
  pads : Nat := 0
  spares : Nat := 0
  /-- Macro and row, macro and column, of the spare rows and columns in use. -/
  rows : List (Nat × Nat) := []
  cols : List (Nat × Nat) := []
  /-- Macros with a fault that found no spare. -/
  lost : Nat := 0
  deriving DecidableEq, Repr

/-- A copy of the repair map (R504): MARK, SEQ, contents. -/
structure MapCopy where
  mark : Bool := false
  seq : Nat := 0
  map : RepairMap := {}
  deriving DecidableEq, Repr

/-- What the MRAM holds (R473): the power-cycle count and the operating-seconds saves (R127, R128), the recorder slots,
the ledger's copies A and B and its history. The torn counts are the fields of REC_TORN. -/
structure Mram where
  pwrCycles : Nat := 0
  /-- The two operating-seconds save slots: value where the valid mark is set; the slot that is written next. -/
  opsecA : Option Nat := none
  opsecB : Option Nat := none
  opsecNext : Bool := false
  /-- The slot that is written next was torn, and no Boot has found it yet (R129). -/
  opsecTorn : Bool := false
  /-- The holdover temperature table of the last save (R138). -/
  bins : Tab (Rat × Nat) := []
  slots : Tab RecSlot := []
  copyA : Tab LifeCopy := []
  copyB : Tab LifeCopy := []
  history : Tab (Option Life) := []
  /-- Physical tiles marked bad while running, since the last repair (R333, R503). -/
  badTiles : Nat := 0
  mapA : MapCopy := {}
  mapB : MapCopy := {}
  /-- The boot control record (R513, R518): BOOT_SEL, TRIAL, TRIED, and the banks marked invalid. -/
  bootSel : Nat := 0
  trial : Bool := false
  tried : Bool := false
  fwInvalid : Nat := 0
  deriving DecidableEq, Repr

/-- What the CAN FD node sends (R529, R531, R535, R544): a boot-up message, a heartbeat with its NMT state, an emergency message, a TPDO with its
bytes, and the end of a USDO transfer: client, abort code (0 for none) and the bytes of an upload. -/
inductive CanOut where
  | bootUp
  | heartbeat (state : Nat)
  | emcy (m : Emcy)
  | tpdo (n : Nat) (bytes : List Byte)
  | answer (client abort : Nat) (bytes : List Byte)
  deriving DecidableEq, Repr

/-- The CAN FD node (20_object_dictionary.md): the EMCY queue with the message being sent first, whether it is being
sent, the error field of 0x1003 newest first, SYNCs counted for each TPDO, RPDOs that await the next SYNC, the monitored consumer heartbeats
(bits 0 to 3), the bit-rate codes in use (R527), and what the node has sent (log 7). -/
structure Net where
  emcy : List Emcy := []
  emcySending : Bool := false
  errors : List Nat := []
  syncs : Tab Nat := []
  rpdo : Tab (Option (List Byte)) := []
  monitored : Nat := 0
  nomRate : Nat := 3
  dataRate : Nat := 3
  sent : List CanOut := []
  deriving DecidableEq, Repr

/-- A token that the security engine checks (R508, R511): its command as the write names it, its bytes, and the client that awaits the
answer. -/
structure TokenJob where
  cmd : Nat
  bytes : List Byte
  client : Option Nat
  deriving DecidableEq, Repr

/-- The operations of the security engine (R511): a descriptor verification, whose result is dropped where it is no longer wanted, a token check,
the check of a firmware bank and the signing of a report. -/
inductive EngineOp where
  | verify (lane : Nat) (wanted : Bool)
  | token
  | firmware
  | report
  deriving DecidableEq, Repr

/-- Security and self-repair (19_security_repair.md). -/
structure Sec where
  /-- Entries 1 to 15 of the trusted maker key list, and its version (R516). -/
  makerKeys : List (BitVec 512) := []
  makerVersion : Nat := 0
  /-- OTP: owner key slot states (0 EMPTY, 1 ACTIVE, 3 REVOKED) and digests, anti-rollback counters, DEBUG_OFF (R506,
  R507, R515). -/
  slotState : Tab Nat := []
  slotDigest : Tab (BitVec 512) := []
  counters : Tab Nat := []
  debugOff : Bool := false
  /-- The program image loaded; the two copies of the program image store and which is newer (R515). -/
  image : List Byte := []
  images : Tab (List Byte) := []
  imageNew : Nat := 0
  /-- Findings of this start's self-test (R501); the repair map in use (R503); the pad pairs and spine lanes that this start holds
  disabled (R505), and the spine lanes that failed self-test (R501). -/
  found : Option BistFindings := none
  map : RepairMap := {}
  deadLanes : Nat := 0
  deadSpine : Nat := 0
  badSpine : Nat := 0
  /-- The firmware banks that this device has written (R514), and the firmware that runs. -/
  banks : Tab (List Byte) := []
  firmware : List Byte := []
  /-- Banks that have failed a check in this start, and whether a trial has failed (R513). -/
  tried : Nat := 0
  reverted : Bool := false
  /-- The security engine (R511): the operation in flight, and those that wait beside the descriptor verifications, oldest first. -/
  engine : Option EngineOp := none
  engineQ : List EngineOp := []
  /-- What the security engine is asked for (R511), oldest first: the tokens that are checked, an image that is checked in its bank with the
  client that awaits the answer, the counters that are programmed with their new values, and the nonce of a report. -/
  tokens : List TokenJob := []
  checking : Bool := false
  checkFor : Option Nat := none
  counting : List (Nat × Nat) := []
  nonce : Option (List Byte) := none
  /-- The last complete attestation report (R519). -/
  report : List Byte := []
  /-- An accepted clear awaits its reset (R511). -/
  clearing : Bool := false
  /-- The debug challenge (R521). -/
  challenge : Nat := 0
  deriving DecidableEq, Repr

/-- Stops of the block with a fault: none of its commands ends in one. -/
inductive Fault where
  /-- Raised by no command; the type must have a name for a stop. Safe. -/
  | none
  deriving DecidableEq, Repr

/-- Stops of the block without a meaning. -/
inductive Refusal where
  /-- A command whose meaning is not written; raised by the arms of `exec` only. Safe. -/
  | notModelled (mnemonic : String)
  deriving DecidableEq, Repr

/-- The stored configuration (R537): its two copies, each a list of writes, entry key and bytes, in rising order, with the
copy written last. A copy that was erased or never written holds none. -/
structure Store where
  copies : Tab (List (Nat × List Byte)) := []
  newer : Nat := 0
  deriving DecidableEq, Repr

/-- The control path of one channel (R366, R368): the last 190 bits after INV, newest lowest, how many of them have been sampled since the
channel was enabled, the last bit and the length of its run (at most 256), the outputs without such a run since STUCK, and those below the
limit since OVR. -/
structure SdCh where
  hist : Nat := 0
  n : Nat := 0
  last : Bool := false
  run : Nat := 0
  good : Nat := 0
  below : Nat := 0
  deriving DecidableEq, Repr

/-- A report that awaits its send time (R372 to R383): SOC, FRACSEC, the group time of its instant, STAT without an onset, the phasors,
frequency and ROCOF as they are sent, and the digital word where there is one. -/
structure Report where
  soc : Nat
  frac : Nat
  instant : Nat
  stat : Nat
  body : List Byte
  dig : Option Nat
  deriving DecidableEq, Repr

/-- A Member's block at the Root (R384): position, SOC, fraction of the second, and the block. -/
structure PeerBlock where
  pos : Nat
  soc : Nat
  frac : Nat
  block : List Byte
  deriving DecidableEq, Repr

/-- Metrology and the egress lane (13_metrology.md). -/
structure Met where
  /-- The last control-path sample of each channel, binary32 (R28, R366), and its filter. -/
  sample : Tab Nat := []
  sd : Tab SdCh := []
  /-- The last phasor-path output of each channel with its stamp (R369), and the stamp of the first since the path started (R375). -/
  out : Tab (Nat × Nat) := []
  first : Option Nat := none
  /-- The last instant reported: TAI_VALID, its number in units of 1/Fs, and TAI_OFFSET (R380). -/
  last : Option (Bool × Nat × Nat) := none
  reports : List Report := []
  /-- The configurations that Members have sent, those of the blocks in CFG-2 by position, and the blocks received (R384). -/
  peers : Tab (List Byte) := []
  built : Tab (List Byte) := []
  inbox : List PeerBlock := []
  /-- TSC of the last change of CFGCNT (R383). -/
  cfgAt : Option Nat := none
  /-- What the egress lane has sent (log 7). -/
  egSent : List (List Byte) := []
  deriving DecidableEq, Repr

/-- An onset (R396, R399): its time in ticks of TSC, its amplitude and its flags. -/
structure Onset where
  time : Int
  amp : Nat
  flags : Nat
  deriving DecidableEq, Repr

/-- A wavefront event (R397, R398): its number, the edge of its first sample, T1 in ticks of TSC, group time − TSC, TAI_OFFSET, time quality and operating
seconds at T1, and the onsets and their counts by detector. -/
structure WfEvent where
  num : Nat
  at80 : Int
  t1 : Int
  ofs : Int
  tai : Nat
  tq : Nat
  opsec : Nat
  onsets : Tab (List Onset) := []
  counts : Tab Nat := []
  deriving DecidableEq, Repr

/-- The wavefront unit behind its registers (14_fault_location.md): channels that still align and the TSC at the start of the alignment, disarmed detectors, the window cut of R397,
the number of the last event, the open event and those that await their record, the records newest first with the group time of T1, the read
buffer, and the raw capture: its number, the stamp of its ARM and whether an event has opened since. -/
structure Wf where
  aligning : Nat := 0
  alignAt : Nat := 0
  disarmed : Nat := 0
  cut : Bool := false
  num : Nat := 0
  ev : Option WfEvent := none
  closed : List WfEvent := []
  records : List (Nat × Nat × List Byte) := []
  selected : List Byte := []
  capNum : Nat := 0
  armedAt : Int := 0
  capTrig : Option Int := none
  deriving DecidableEq, Repr

/-- The whole state of the block. -/
structure State where
  /-- Commands that wait, first in, first out. -/
  pending : List Instr := []
  /-- Every register field that does not hold its reset value, by the key of the field. -/
  regs : Tab Nat := []
  /-- The model's own counter for free values (log 6). -/
  freeCount : Nat := 0
  /-- The model's own count of ticks, and what has happened since the last (log 74). -/
  now : Nat := 0
  cyc : CoreCycle := {}
  pw : Power := {}
  clk : Clk := {}
  ts : Ts := {}
  lanes : Tab LaneSt := []
  /-- The test patterns of cell lanes 0 to 63 and of spine lanes 0 to 3, from key 64 on. -/
  prbs : Tab Prbs := []
  links : Tab LinkSt := []
  /-- Lanes whose descriptors wait for verification, the one in flight included, in lane order (R217). -/
  verifyQ : List Nat := []
  gates : Tab GateSt := []
  cells : Tab BalSt := []
  cars : Tab CarSt := []
  legs : Tab LegSt := []
  /-- Pending COMMITs by group: stamp + 1 in group time (R236). -/
  groupPend : Tab Nat := []
  ctxs : Tab CtxSt := []
  eng : Engine := {}
  met : Met := {}
  wf : Wf := {}
  strs : Tab StrSt := []
  dx : Duplex := {}
  fc : Fc := {}
  spine : Spine := {}
  recd : RecSt := {}
  mram : Mram := {}
  /-- The ledger's working slots, and the save round in progress: lane, chunks written, contents (R480, R494). -/
  ledger : Tab LedgerSt := []
  saving : Option (Nat × Nat × Life) := none
  th : Therm := {}
  net : Net := {}
  sec : Sec := {}
  store : Store := {}
  deriving DecidableEq, Repr

/-- The block with no supply applied: every field at its reset value (log 3). -/
def State.reset : State := {}

end Sys2Proof.Machine
end

