-- ==== Sys2Proof/Machine/Ops.lean ====
section
/-!
DEFINITION. Machine/Ops.lean: the shared operations: register fields, time, urgent sets, spine messages, recorder
queues, and what a fault report does in the collector (16_fault_collector.md, R434 to R449).
-/
namespace Sys2Proof.Machine

/-! ### Register fields -/

/-- The value of a register field: no more than its width holds. -/
def State.get (s : State) (f : Fld) : Nat := Tab.get f.reset s.regs f.key % 2 ^ f.width

/-- A one-bit field as a truth value. -/
def State.bit (s : State) (f : Fld) : Bool := s.get f != 0

/-- Write a register field; bits above its width are lost. -/
def State.set (s : State) (f : Fld) (v : Nat) : State :=
  { s with regs := Tab.set f.reset s.regs f.key (v % 2 ^ f.width) }

/-- Write a one-bit field. -/
def State.setBit (s : State) (f : Fld) (b : Bool) : State := s.set f (b2n b)

def State.modCyc (s : State) (f : CoreCycle → CoreCycle) : State := { s with cyc := f s.cyc }

/-- Hardware sets a W1C field in this core cycle (R13). -/
def State.noteSet (s : State) (f : Fld) : State := s.modCyc (fun c => { c with sets := f.key :: c.sets })

/-- Add 1 to a counter that saturates at its largest value; the increment belongs to this core cycle (R185). -/
def State.inc (s : State) (f : Fld) : State :=
  (s.set f (if s.get f + 1 < 2 ^ f.width then s.get f + 1 else 2 ^ f.width - 1)).modCyc (fun c => { c with counts := f.key :: c.counts })

/-- Clear a counter: it keeps the increments of this core cycle (R185). -/
def State.clearCount (s : State) (f : Fld) : State :=
  s.set f (min ((s.cyc.counts.filter (fun k => k == f.key)).length) (2 ^ f.width - 1))

/-- Add 1 to a counter that wraps. -/
def State.incWrap (s : State) (f : Fld) : State :=
  (s.set f (s.get f + 1)).modCyc (fun c => { c with counts := f.key :: c.counts })

/-- A 64-bit value kept in two registers. -/
def State.get64 (s : State) (lo hi : Fld) : Nat := s.get lo + 2 ^ 32 * s.get hi

/-- Write a 64-bit value kept in two registers. -/
def State.set64 (s : State) (lo hi : Fld) (v : Nat) : State := (s.set lo v).set hi (v / 2 ^ 32)

/-- An object dictionary entry without a register: index, sub-index, width, access and default (R16). -/
def obj (idx sub width : Nat) (acc : Acc) (reset : Nat) : Fld := ⟨0x10000000 + idx * 256 + sub, 0, width, acc, reset⟩

/-! ### Records behind the registers -/

def State.lane (s : State) (n : Nat) : LaneSt := Tab.get {} s.lanes n
def State.link (s : State) (n : Nat) : LinkSt := Tab.get {} s.links n
def State.gate (s : State) (n : Nat) : GateSt := Tab.get {} s.gates n
def State.cell (s : State) (n : Nat) : BalSt := Tab.get {} s.cells n
def State.str (s : State) (t : Nat) : StrSt := Tab.get {} s.strs t

def State.modLane (s : State) (n : Nat) (f : LaneSt → LaneSt) : State := { s with lanes := Tab.modify {} s.lanes n f }
def State.modLink (s : State) (n : Nat) (f : LinkSt → LinkSt) : State := { s with links := Tab.modify {} s.links n f }
def State.modGate (s : State) (n : Nat) (f : GateSt → GateSt) : State := { s with gates := Tab.modify {} s.gates n f }
def State.modCell (s : State) (n : Nat) (f : BalSt → BalSt) : State := { s with cells := Tab.modify {} s.cells n f }
def State.modStr (s : State) (t : Nat) (f : StrSt → StrSt) : State := { s with strs := Tab.modify {} s.strs t f }

/-- Draw a value the spec leaves open (log 6). -/
def State.draw (s : State) : Nat × State := (Config.free s.freeCount, { s with freeCount := s.freeCount + 1 })

/-! ### The security engine, R511 -/

/-- The engine takes up its next operation where none is in flight: a queued descriptor verification goes before every other, the lowest lane
first (R217, R511); the others are taken in the order of their requests (DESIGN CHOICE, log 98). -/
def engineNext (s : State) : State :=
  match s.sec.engine, s.verifyQ, s.sec.engineQ with
  | some _, _, _ => s
  | none, n :: _, _ => { s with sec := { s.sec with engine := some (.verify n true) } }
  | none, [], o :: rest => { s with sec := { s.sec with engine := some o, engineQ := rest } }
  | none, [], [] => s

/-- The operation in flight ends. -/
def engineEnds (s : State) : State := engineNext { s with sec := { s.sec with engine := none } }

/-- An operation joins the queue. -/
def engineAsk (o : EngineOp) (s : State) : State := engineNext { s with sec := { s.sec with engineQ := s.sec.engineQ ++ [o] } }

/-- The verification of a lane is wanted. -/
def askVerify (n : Nat) (s : State) : State := engineNext { s with verifyQ := s.verifyQ.filter (· < n) ++ [n] ++ s.verifyQ.filter (fun m => m > n) }

/-- The verification of a lane is no longer wanted: one in flight goes on, and its result is dropped (R511). -/
def dropVerify (n : Nat) (s : State) : State :=
  let s := { s with verifyQ := s.verifyQ.filter (· != n) }
  if s.sec.engine = some (.verify n true) then { s with sec := { s.sec with engine := some (.verify n false) } } else s


/-- Apply an effect to each index of a list, in order. -/
def State.each {α : Type} (s : State) (l : List α) (f : α → State → State) : State := l.foldl (fun s i => f i s) s

/-! ### Position, states and time -/

/-- Ring position P and group select G (R48). -/
def State.pos (s : State) : Nat := s.pw.straps % 64
def State.grp (s : State) : Nat := s.pw.straps / 64 % 2
def State.isRoot (s : State) : Bool := s.pos == 0
def State.partner (s : State) : Nat := if s.pos % 2 = 0 then s.pos + 1 else s.pos - 1

/-- The device state code of R539; 0 to 2 for Off, Standby and Cold hold, and 0 while the core domains are gated: nothing reads it there. -/
def DevState.code : DevState → Nat
  | .off => 0 | .standby => 1 | .coldHold => 2 | .boot => 3 | .slate => 4 | .configure => 5 | .armed => 6 | .run => 7
  | .safe => 8 | .gated => 0

def State.inState (s : State) (l : List DevState) : Bool := l.contains s.pw.state
/-- The core domains run: Boot to Safe. -/
def State.cored (s : State) : Bool := s.inState [.boot, .slate, .configure, .armed, .run, .safe]
/-- Armed, Run or Safe. -/
def State.active (s : State) : Bool := s.inState [.armed, .run, .safe]

/-- Group time (R144) and the frame of group time in progress. -/
def State.groupTime (s : State) : Nat := (((s.ts.tsc : Int) + s.ts.groupOffset) % (2 ^ 64 : Nat)).toNat
def State.frame (s : State) : Nat := s.groupTime / 1024
/-- The tick within the frame. -/
def State.tickInFrame (s : State) : Nat := s.groupTime % 1024

/-- The clock-monitor cycle in progress: 1.024 GHz ÷ 32 MHz = 32 ticks (R62, R97; log 74). -/
def State.cmCycle (s : State) : Nat := s.now / 32

/-- Ticks in one second of TSC (R128). -/
def ticksPerSec : Nat := 1024000000

/-- Operating seconds (R128), saturating. -/
def State.opsec (s : State) : Nat := min 0xFFFFFFFF (s.ts.opsecBase + s.ts.tsc / ticksPerSec)

/-- The time-discipline states of R150. -/
def State.tsState (s : State) : Nat := s.get R.TS_STAT.STATE

def O.SOURCE_SEL : Fld := obj 0x2021 1 8 .rwc 3
def O.JUMP_POLICY : Fld := obj 0x2021 2 8 .rwc 1
def O.JUMP_THR : Fld := obj 0x2021 3 32 .rwc 1000
def O.HOLD_LIMIT : Fld := obj 0x2021 4 32 .rwc 1000
def O.DRIFT : Fld := obj 0x2021 5 16 .rwc 10
def O.COMP_SENSOR : Fld := obj 0x2021 6 8 .rwc 0
def O.PTP_DOMAIN : Fld := obj 0x2021 7 8 .rwc 254
def O.PTP_VLAN : Fld := obj 0x2021 8 16 .rwc 0
def O.PTP_PRIO : Fld := obj 0x2021 9 8 .rwc 4
def O.PPS_CABLE : Fld := obj 0x2021 10 32 .rwc 0
def O.PPS_LABEL : Fld := obj 0x2022 1 64 .rw 0
def O.PPS_UTC : Fld := obj 0x2022 2 16 .rw (2 ^ 16 - 37)
def O.RUN_REQUEST : Fld := obj 0x2001 2 1 .rw 0
def O.EMCY_CLASS : Fld := obj 0x2003 4 8 .rwc 1

/-- The holdover error estimate of R139, in units of 1/(128·10^9) ns: 100 ns plus the drift bound times the time since
entry. -/
def State.holdEst (s : State) : Nat :=
  match s.ts.holdSince with
  | none => 0
  | some t => 100 * (128 * 10 ^ 9) + s.get O.DRIFT * (s.ts.tsc - t) * 125

/-- An error in those units is above `n` ns. -/
def estAbove (e n : Nat) : Bool := e > n * (128 * 10 ^ 9)

/-- The ERROR class of R142 of an error in those units. -/
def estClass (e : Nat) : Nat :=
  if !estAbove e 100 then 0 else if !estAbove e 1000 then 1 else if !estAbove e 10000 then 2 else 3

/-- The ERROR class of an offset in 1/128 tick, with `extra` ns added. -/
def offClass (x : Int) (extra : Nat) : Nat := estClass (x.natAbs * 125 * 10 ^ 9 / 128 + extra * (128 * 10 ^ 9))

/-- DEGRADED of R143. -/
def State.degraded (s : State) : Bool :=
  s.bit R.CLK_STAT.TS_FALLBACK || s.tsState == 4 || s.bit R.TS_STAT.SLEWING
    || (s.ts.holdSince.isSome && estAbove s.holdEst (s.get O.HOLD_LIMIT))
    || (!s.isRoot && (s.ts.alignActive || s.bit R.TS_STAT.EPOCH_MISMATCH))

/-- The time-quality byte of R142 and R143. On a Member it is the Root's byte with SOURCE, DEGRADED and ERROR replaced
(R148), and without LOCKED outside FOLLOW (log 12). In FREE, where R143 gives ERROR no source, it is 0, as TQ reads after reset (R150). -/
def State.tq (s : State) : Nat :=
  let st := s.tsState
  if s.isRoot then
    let locked := st == 2
    let hold := st == 3 || st == 4
    let src := match s.ts.source with | .none => 0 | .ptp => 1 | .pps => 2
    let due : Int := match s.ts.pendingTai with | some (.step d) => d | some (.slew d) => d | _ => 0
    let err :=
      if s.bit R.TS_STAT.SLEWING then offClass (s.ts.slewLeft * 128) 100
      else if locked then offClass (s.ts.resid + 128 * due) 0
      else if hold then estClass s.holdEst
      else if st == 0 then 0 else 3
    128 * b2n s.ts.taiValid + 64 * b2n s.degraded + 32 * b2n hold + 16 * b2n locked + 4 * src + err
  else
    let root := s.ts.rootTq
    let coast := st == 7
    let own := if coast then estClass s.holdEst else offClass s.ts.resid 0
    if st == 0 then 64 * b2n s.degraded
    else 128 * (root / 128) + 64 * b2n s.degraded + 32 * b2n (bitAt root 5 || coast)
      + 16 * b2n (bitAt root 4 && st == 6) + 4 * 3 + max (root % 4) own

/-! ### Lanes, strings and urgent sets -/

/-- A cell lane is in UP (R162). -/
def State.up (s : State) (n : Nat) : Bool := s.get (R.LN_STAT.STATE n) == 4
/-- A lane is ADMITTED (R219). -/
def State.admitted (s : State) (n : Nat) : Bool := s.get (R.LKN_STAT.ADMIT n) == 2

def lanes64 : List Nat := List.range 64

/-- A 64-bit mask of the cells for which a test holds. -/
def maskOf (f : Nat → Bool) : Nat := lanes64.foldl (fun m n => if f n then m + 2 ^ n else m) 0

/-- The member mask of a string (R283) and the string that holds a cell. -/
def State.members (s : State) (t : Nat) : Nat := s.get64 (R.STR_MEM_LO t) (R.STR_MEM_HI t)
def State.stringOf (s : State) (n : Nat) : Option Nat := (List.range 8).find? (fun t => bitAt (s.members t) n)

/-- Ask for an urgent set on a lane (R32): a Black set replaces every targeted set that still waits; R32 does not say what becomes of a second
Black set due while one waits, and the two are sent as one (DESIGN CHOICE, log 76). A lane that is not in UP drops it (R264). The levels expected of the gates concerned become off (R264). -/
def requestUrgent (n : Nat) (u : Urgent) (s : State) : State :=
  if s.up n then
    let mask := match u with | .black => 0xFFF | .targeted m _ => m
    s.modLink n (fun l =>
      { l with
        urgQ := (match u with | .black => [.black] | t => l.urgQ ++ [t])
        levels := andNot l.levels mask
        muted := Nat.lor l.muted mask })
  else s

/-! ### The spine -/

/-- A spine lane is in UP; a link (0 east, 1 west) has a lane in UP (R413, R418). -/
def State.spineUp (s : State) (i : Nat) : Bool := s.get (R.SL_STAT.STATE i) == 4
def State.linkUp (s : State) (dir : Nat) : Bool := s.spineUp (2 * dir) || s.spineUp (2 * dir + 1)

/-- Hops to a position in a direction: the devices present on the way, the destination counted (R421). -/
def hopsTo (m : RingMap) (p dest dir : Nat) : Nat :=
  let d := if dir = 0 then (dest + 64 - p) % 64 else (p + 64 - dest) % 64
  ((List.range d).filter (fun i => bitAt m.present (if dir = 0 then (p + i + 1) % 64 else (p + 63 - i) % 64))).length

/-- A direction reaches a destination (log 10). -/
def State.reaches (s : State) (dest dir : Nat) : Bool :=
  s.linkUp dir && (match s.spine.map with | some m => bitAt m.present dest | none => false)

/-- The direction a unicast message takes (R421): the one with fewer hops, else the other; none where neither reaches. -/
def State.route (s : State) (dest : Nat) : Option Nat :=
  match s.spine.map with
  | none => none
  | some m =>
    let first := if hopsTo m s.pos dest 0 ≤ hopsTo m s.pos dest 1 then 0 else 1
    if s.reaches dest first then some first
    else if s.reaches dest (1 - first) then some (1 - first) else none

/-- A message of R419 with its check. -/
def message (typ chan hops src dest seq : Nat) (payload : List Byte) : List Byte :=
  let b := leBytes 1 typ ++ leBytes 1 (chan + 4 * hops) ++ leBytes 1 src ++ leBytes 1 dest ++ leBytes 2 seq
    ++ leBytes 2 payload.length ++ payload
  b ++ leBytes 4 (crc32 b)

/-- The place of a message in the order of R19: urgent notices, control, management, data. A delay-exchange block counts as control. -/
def sendRank : List Byte → Nat
  | t :: c :: _ => if t = 0x55 then 0 else if t = 0x66 then 1 else c.toNat % 4
  | _ => 1

/-- What the links have sent, with one message more: among those of this core cycle, which wait for the same lanes, it goes before what ranks below it (R19). -/
def State.sentWith (s : State) (dir : Nat) (bs : List Byte) : List (Nat × List Byte) :=
  let new := s.spine.sent.drop s.cyc.sentFrom
  let early := new.takeWhile (fun m => !(m.1 == dir && decide (sendRank bs < sendRank m.2)))
  s.spine.sent.take s.cyc.sentFrom ++ early ++ (dir, bs) :: new.drop early.length

/-- Record that a link has sent a message (log 7). -/
def State.transmit (s : State) (dir : Nat) (bs : List Byte) : State :=
  { s with spine := { s.spine with sent := s.sentWith dir bs } }

/-- An event sets its leaf (R434): it is a report where the leaf was clear, or was set in this core cycle by an injected report alone (R452). -/
def setLeaf (f : Fld) (r : ReportArg) (s : State) : State × List ReportArg :=
  let t := s.noteSet f
  if !s.bit f then (t.set f 1, [r])
  else if s.cyc.forced.contains f.key then (t.modCyc (fun c => { c with forced := c.forced.filter (fun k => k != f.key) }), [r])
  else (t.modCyc (fun c => { c with again := r :: c.again }), [])

/-- A report whose leaf is set now; none where it was set before (R434). -/
def raiseLeaf (r : Src) (s : State) : State × List ReportArg :=
  match leafOf r with
  | none => (s, [⟨r.block, r.src, r.inst, true, false⟩])
  | some f => setLeaf f ⟨r.block, r.src, r.inst, true, false⟩ s

/-- Count a dropped message (R419, R421). -/
def dropMsg (s : State) : State × List ReportArg := raiseLeaf (Src.SP_MSG_DROPPED) (s.inc R.SP_COUNTS.DROPPED)

/-- Send a unicast message (R421): by its route; a management message without a route waits in the queue of 8. -/
def sendTo (typ chan dest : Nat) (payload : List Byte) (s : State) : State × List ReportArg :=
  let seq := Tab.get 0 s.spine.seq chan
  let bs := message typ chan 0 s.pos dest seq payload
  let s := { s with spine := { s.spine with seq := Tab.set 0 s.spine.seq chan ((seq + 1) % 65536) } }
  match s.route dest with
  | some d => (s.transmit d bs, [])
  | none =>
    if chan = 2 ∧ s.spine.waiting.length < 8 then
      ({ s with spine := { s.spine with waiting := s.spine.waiting ++ [(dest, bs)] } }, [])
    else dropMsg s

/-- Send a message in both directions, on every link that is up (R421, R423, R424). -/
def sendBoth (typ chan dest : Nat) (payload : Nat → List Byte) (s : State) : State :=
  let seq := Tab.get 0 s.spine.seq chan
  let s := { s with spine := { s.spine with seq := Tab.set 0 s.spine.seq chan ((seq + 1) % 65536) } }
  s.each [0, 1] (fun d s =>
    if s.linkUp d then s.transmit d (message typ chan 0 s.pos dest seq (payload d)) else s)

def State.modNet (s : State) (f : Net → Net) : State := { s with net := f s.net }
/-- The output dividers of a PLL (1 to 3 for C, S, T) are stopped: it is within the 2 ms of a relock attempt (R116). -/
def State.pllStopped (s : State) (k : Nat) : Bool :=
  let a := Tab.get 0 s.clk.attempt k
  a != 0 && decide (s.now + 1 < a + 2048000)
/-- The clock of a CAN source is not reported stopped (R103): source 1 is divided from PLL-C. -/
def State.canRuns (s : State) (src : Nat) : Bool := !(src == 1 && s.pllStopped 1)
/-- The CAN controller is held in reset (R110, R112), or has no clock: its multiplexer is busy, or its source is stopped (R107, R111). TXD is
then recessive. -/
def State.canHeld (s : State) : Bool :=
  s.bit R.CLK_MUX_CAN.CONSUMER_IDLE || s.clk.canHeld || s.bit R.CLK_MUX_CAN.BUSY || !s.canRuns (s.get R.CLK_MUX_CAN.CURRENT)
/-- The node takes part in the traffic of the bus: only the device at position 0 joins it (R528), and not in bus-off or while its controller is
held in reset (log 67). -/
def State.onBus (s : State) : Bool := s.isRoot && s.get R.FN_STAT.BUS != 2 && !s.canHeld
/-- A message is handed to the controller of the device at position 0 (R528); one that is held in reset takes none (log 67). -/
def canSend (m : CanOut) (s : State) : State := if s.isRoot && !s.canHeld then s.modNet (fun n => { n with sent := n.sent ++ [m] }) else s
/-- The frame of an emergency message in progress is lost; its message stays in the queue (R111, R544). -/
def frameLost (s : State) : State := s.modNet (fun n => { n with emcySending := false })

/-- The CAN controller restarts (R110, R112, R531): its error counters are 0 and it is error active; on a Member it is not on the bus (R528). -/
def canRestart (s : State) : State :=
  frameLost (((s.set R.FN_COUNTS.TEC 0).set R.FN_COUNTS.REC 0).set R.FN_STAT.BUS (if s.isRoot then 0 else 3))

/-! ### The recorder queues -/

/-- The recorder queue of a source: 0 control, 1 data, 2 management (R17, R23; log 8). In block 10 the sources of the phasor path belong to the data plane. -/
def planeOf (b src : Nat) : Nat :=
  if b = 4 ∨ b = 11 ∨ (b = 10 ∧ 3 ≤ src) then 1 else if b = 1 ∨ b = 2 ∨ (6 ≤ b ∧ b ≤ 10) then 0 else 2

/-- The region of a record (R477): true for the fault region. -/
def faultRegion (r : Rec) : Bool :=
  ((r.typ == 1 || r.typ == 2) && r.cls ≥ 2) || r.typ == 0xA || r.typ == 0xB || r.typ == 0xC

/-- The key by which R481 recognises a repeat; none for the types that never repeat. -/
def Rec.key (r : Rec) : Option RecKey :=
  if 6 ≤ r.typ ∧ r.typ ≤ 0xB then none
  else some ⟨r.typ, r.cls, r.block, r.src, r.inst, if r.typ = 4 then leAt r.payload 0 2 else 0⟩

/-- The queue of a plane, and its lost-event counter (R23). -/
def State.queue (s : State) (p : Nat) : List Rec := Tab.get [] s.recd.queues p
def lostField (p : Nat) : Fld :=
  if p = 0 then R.REC_LOST01.CONTROL else if p = 1 then R.REC_LOST01.DATA else R.REC_LOST2.MANAGEMENT

/-- The stamps that every record carries (R475). -/
def State.stamp (s : State) (r : Rec) : Rec :=
  { r with tq := s.tq, tsc := s.ts.tsc, opsec := s.opsec, pwrcyc := s.mram.pwrCycles }

/-- Place an entry in its plane's queue (R23): one that finds 32 entries is lost. -/
def enqueue (r : Rec) (s : State) : State × List ReportArg :=
  if (s.queue r.plane).length ≥ 32 then raiseLeaf (Src.REC_QUEUE_LOST r.plane) (s.inc (lostField r.plane))
  else ({ s with recd := { s.recd with queues := Tab.set [] s.recd.queues r.plane (s.queue r.plane ++ [r]) } }, [])

/-- A recorder slot (R474). -/
def State.slot (s : State) (i : Nat) : RecSlot := Tab.get {} s.mram.slots i

/-- The newest slot, the pending counter, and the key and stamp of the pending repeats of a region (true: fault). -/
def State.newest (s : State) (f : Bool) : Nat := if f then s.get R.REC_FPOS.NEWEST else s.get R.REC_GPOS.NEWEST
def pendField (f : Bool) : Fld := if f then R.REC_PEND.PEND_F else R.REC_PEND.PEND_G
def State.pendKey (s : State) (f : Bool) : Option RecKey := if f then s.recd.pendKeyF else s.recd.pendKeyG
def State.pendTsc (s : State) (f : Bool) : Nat := if f then s.recd.pendTscF else s.recd.pendTscG
def State.lastKey (s : State) (f : Bool) : Option RecKey := if f then s.recd.lastF else s.recd.lastG

/-- An entry of a region with a key waits in a queue or is in flight. -/
def State.waits (s : State) (f : Bool) (k : Option RecKey) : Bool :=
  let hit (r : Rec) : Bool := faultRegion r == f && r.key == k
  [0, 1, 2].any (fun p => (s.queue p).any hit) || (match s.recd.writing with | some (_, r) => hit r | none => false)

/-- Add `n` repeats, the last of them at `t`, to a record; and the excess above 65,535 (R482). -/
def Rec.plus (r : Rec) (n t : Nat) : Rec × Nat :=
  if r.rep + n ≤ 65535 then ({ r with rep := r.rep + n, repTsc := t % 2 ^ 48 }, 0)
  else ({ r with rep := 65535, repTsc := if r.rep = 65535 then r.repTsc else t % 2 ^ 48 }, r.rep + n - 65535)

/-- The new record that an excess of repeats opens (R482). -/
def excess (r : Rec) (e t : Nat) (s : State) : Rec :=
  { s.stamp r with tsc := t, rep := e - 1, repTsc := if e ≤ 1 then 0 else t % 2 ^ 48 }

/-- Flush the pending repeats of a region to its newest record, where they are repeats of it (R482). -/
def flush (f : Bool) (s : State) : State × List ReportArg :=
  let n := s.get (pendField f)
  let i := s.newest f
  let sl := s.slot i
  match sl.r with
  | none => (s, [])
  | some r =>
    if n ≠ 0 ∧ sl.mark ∧ r.key = s.pendKey f ∧ ¬ s.waits f (s.pendKey f) then
      let t := s.pendTsc f
      let (r', e) := r.plus n t
      let s := { s.set (pendField f) 0 with mram := { s.mram with slots := Tab.set {} s.mram.slots i { sl with r := some r' } } }
      if e = 0 then (s, []) else enqueue (excess r e t s) s
    else (s, [])

/-- Add repeats to the last entry of a list that meets a test. -/
def bumpLast (hit : Rec → Bool) (n t : Nat) (l : List Rec) : List Rec :=
  (l.reverse.foldl (fun (acc : List Rec × Bool) r =>
    if !acc.2 && hit r then ((r.plus n t).1 :: acc.1, true) else (r :: acc.1, acc.2)) ([], false)).1

/-- Before repeats of another key are counted, those that are pending go to their record, be it written, in flight or in
a queue (log 37). -/
def settle (f : Bool) (s : State) : State × List ReportArg :=
  let n := s.get (pendField f)
  let k := s.pendKey f
  if n = 0 then (s, [])
  else if !s.waits f k then
    let (s, l) := flush f s
    (s.set (pendField f) 0, l)
  else
    let hit (r : Rec) : Bool := faultRegion r == f && r.key == k
    let t := s.pendTsc f
    let inQueue := [0, 1, 2].any (fun p => (s.queue p).any hit)
    let q := if inQueue then [0, 1, 2].foldl (fun q p => Tab.set [] q p (bumpLast hit n t (Tab.get [] q p))) s.recd.queues
      else s.recd.queues
    let w := if inQueue then s.recd.writing else s.recd.writing.map (fun x => (x.1, (x.2.plus n t).1))
    ({ s.set (pendField f) 0 with recd := { s.recd with queues := q, writing := w } }, [])

/-- Post an entry to its plane's queue (R23, R481): a repeat of the last entry accepted for its region counts in the
region's pending counter; an entry that finds 32 in the queue is lost. -/
def post (r : Rec) (s : State) : State × List ReportArg :=
  let f := faultRegion r
  if r.key.isSome ∧ r.key = s.lastKey f then
    let (s, l) := if s.pendKey f = r.key then (s, []) else settle f s
    let s := s.inc (pendField f)
    ({ s with recd := if f then { s.recd with pendTscF := r.tsc, pendKeyF := r.key } else { s.recd with pendTscG := r.tsc, pendKeyG := r.key } }, l)
  else
    let s := if (s.queue r.plane).length ≥ 32 then s
      else { s with recd := if f then { s.recd with lastF := r.key } else { s.recd with lastG := r.key } }
    enqueue r s

/-- The 40-byte header and the payload of a record as 128 bytes (R475). -/
def Rec.image (r : Rec) (mark seq : Nat) : List Byte :=
  let flags := r.cls + 4 * r.plane + 16 * b2n r.injected + 32 * b2n r.observed + 64 * b2n (faultRegion r)
  let h := leBytes 4 mark ++ leBytes 4 seq ++ leBytes 1 r.typ ++ leBytes 1 flags ++ leBytes 1 r.block ++ leBytes 1 r.src
    ++ leBytes 2 r.inst ++ leBytes 1 r.tq ++ leBytes 1 r.payload.length ++ leBytes 8 r.tsc ++ leBytes 4 r.opsec
    ++ leBytes 4 r.pwrcyc ++ leBytes 2 r.rep ++ leBytes 6 (if r.rep = 0 then 0 else r.repTsc)
  (h ++ r.payload ++ List.replicate (88 - r.payload.length) 0).take 128

/-! ### The collector -/

/-- The partner's last valid heartbeat shows the lane ADMITTED (R291). -/
def State.carried (s : State) (n : Nat) : Bool :=
  match s.dx.last with | some h => bitAt h.admitted n | none => false

/-- The class of a source now (R437), and R438 for a lost lane that the partner carries (R291). -/
def State.classOf (s : State) (b i inst : Nat) : Nat :=
  let c := s.get (R.FC_SEV b i)
  if b = 1 ∧ i = 1 ∧ s.carried inst then min 1 c else c

/-- The scope of a report (R436): a string 0 to 7, or 8 for the device. -/
def State.scope (s : State) (r : ReportArg) : Nat :=
  if (r.block = 1 ∧ r.src ≤ 5) ∨ r.block = 2 ∨ (r.block = 7 ∧ r.src ≤ 10) ∨ (r.block = 8 ∧ (r.src = 10 ∨ r.src = 11)) then
    (s.stringOf r.inst).getD 8
  else if r.block = 8 ∧ 6 ≤ r.src ∧ r.src ≤ 9 then (if r.inst < 8 then r.inst else 8)
  else 8

/-- The source number of R435. -/
def sourceNo (r : ReportArg) : Nat := 16 * (r.block - 1) + r.src

def State.winOpen (s : State) (w : Nat) : Bool := s.bit (R.FC_WIN.OPEN w)
/-- A window is open with a class at or above `c` (R443). -/
def State.winHolds (s : State) (w c : Nat) : Bool := s.winOpen w && s.get (R.FC_WIN.CLASS w) ≥ c

/-- Ticks a coalescing window stays open: ⌊COAL_WIN × 102.4⌋ (R443). -/
def State.winTicks (s : State) : Nat := s.get R.FC_CTRL.COAL_WIN * 1024 / 10

/-- Open or reopen a window with a class and block; CONSEQ starts at 0 on opening and is kept on reopening (R443). -/
def openWin (w c b : Nat) (s : State) : State :=
  let s := if s.winOpen w then s else s.set (R.FC_WIN.CONSEQ w) 0
  let s := ((s.set (R.FC_WIN.OPEN w) 1).set (R.FC_WIN.CLASS w) c).set (R.FC_WIN.FIRST_BLOCK w) (b - 1)
  { s with fc := { s.fc with winEnd := Tab.set 0 s.fc.winEnd w (s.ts.tsc + s.winTicks) } }

/-- Bits 31 to 26 and the rest of FC_FIRSTn INFO of a block (R458). -/
def State.firstInfo (s : State) (b : Nat) : Nat :=
  let n := b - 1
  2 ^ 31 * b2n (s.bit (R.FC_STAT.HELD n)) + 2 ^ 30 * s.get (R.FC_FIRST.INJECTED n) + 2 ^ 29 * s.get (R.FC_FIRST.OBSERVED n)
    + 2 ^ 28 * s.get (R.FC_FIRST.EARLIER_REMOTE n) + 2 ^ 26 * s.get (R.FC_FIRST.CLASS n) + 2 ^ 22 * s.get (R.FC_FIRST.SRC n)
    + 2 ^ 15 * s.get (R.FC_FIRST.INSTANCE n) + 2 ^ 11 * s.get (R.FC_FIRST.SCOPE n)

/-- Queue an emergency message of a first-cause record (R544); EMCY_LOST where 16 wait. -/
def postEmcy (origin b i inst info tsc : Nat) (s : State) : State × List ReportArg :=
  if s.net.emcy.length ≥ 16 then raiseLeaf (Src.FN_EMCY_LOST) s
  else
    let code := 0xFF00 + 16 * (b - 1) + i
    let bs := leBytes 1 origin ++ leBytes 1 b ++ leBytes 1 i ++ leBytes 2 inst ++ leBytes 1 (info / 2 ^ 26) ++ leBytes 4 tsc
    ({ s with net := { s.net with emcy := s.net.emcy ++ [⟨code, bs⟩], errors := (code :: s.net.errors).take 8 } }, [])

/-- Fill or replace the group first cause (R445). -/
def groupFirst (loc : Bool) (origin source gt : Nat) (s : State) : State :=
  let old := s.get64 R.FC_GRP_T_LO R.FC_GRP_T_HI
  let empty := !s.bit R.FC_GRP_INFO.VALID
  let earlier := gt < old || (gt == old && origin < s.get R.FC_GRP_INFO.ORIGIN)
  if empty || (s.winOpen 8 && earlier) then
    let s := s.noteSet R.FC_GRP_INFO.VALID
    let s := if !empty && !loc && s.bit R.FC_GRP_INFO.LOCAL then
        s.set (R.FC_FIRST.EARLIER_REMOTE (s.get R.FC_GRP_INFO.SOURCE / 16)) 1 else s
    let s := (((s.set R.FC_GRP_INFO.VALID 1).setBit R.FC_GRP_INFO.LOCAL loc).set R.FC_GRP_INFO.ORIGIN origin).set
      R.FC_GRP_INFO.SOURCE source
    s.set64 R.FC_GRP_T_LO R.FC_GRP_T_HI gt
  else s

/-- The BYPASS field of each balancer state (R284). -/
def bypassOf (st : Nat) : Nat := if st = 2 then 0xC3 else if st = 1 ∨ st = 4 ∨ st = 5 then 0x3C else 0

/-- The device leaves Run: the cells of the balancer pass to PARKED, each with its bypass command unchanged (R286). -/
def parkCells (s : State) : State :=
  let s := s.each (List.range 8) (fun t s => s.modStr t (fun x => { x with short := false, low := false }))
  s.each lanes64 (fun n s =>
    let st := s.get (R.BC_STAT.STATE n)
    if 2 ≤ st ∧ st ≤ 5 then
      (s.set (R.BC_STAT.STATE n) 1).modCell n (fun c => { c with keepCmd := some (c.keepCmd.getD (bypassOf st)) })
    else s)

def State.modMet (s : State) (f : Met → Met) : State := { s with met := f s.met }

/-- The phasor path takes the state that PH_EN and the device state give it, from empty (R370, R375). -/
def phasorStart (s : State) : State :=
  let v := if !s.bit R.PMU_CFG.PH_EN then 0 else if s.active then 1 else 3
  (s.set R.MET_STAT.PH_STATE v).modMet (fun m => { m with first := none, last := none, reports := [] })

/-- The injection ends (R330): the value returns to 0.0 and INJ_DONE is set. -/
def stopInjection (s : State) : State × List ReportArg :=
  if s.eng.inj.on then raiseLeaf (Src.CE_INJ_DONE) { s with eng := { s.eng with inj := { s.eng.inj with on := false, value := 0 } } } else (s, [])

/-- Enter Safe from Armed or Run (R447, R531, R532): the run request clears, cells pass to PARKED and an injection ends (R330). -/
def enterSafe (s : State) : State × List ReportArg :=
  stopInjection (phasorStart (parkCells ({ s with pw := { s.pw with state := .safe } }.set O.RUN_REQUEST 0)))

/-- What a Black report that is not injected-only does to the device (R447, R449), with the reports that follow. -/
def blackActions (s : State) : State × List ReportArg :=
  let (s, l) := if s.inState [.armed, .run] then enterSafe s else (parkCells s, [])
  let s := s.each lanes64 (fun n s => requestUrgent n .black s)
  ((((s.set R.FC_NFAULT.DRIVE 1).set R.FC_NFAULT.PULSE 1).set R.FC_NFAULT.PENDING_REL 0).modCyc (fun c => { c with black := true }), l)

/-- The record of a block's first cause in its registers (R440, R458). -/
def fileRecord (r : ReportArg) (c : Nat) (obs inj : Bool) (s : State) : State :=
  let n := r.block - 1
  let s := (((s.set (R.FC_STAT.HELD n) 1).set (R.FC_FIRST.SRC n) r.src).set (R.FC_FIRST.INSTANCE n) r.inst).set
    (R.FC_FIRST.CLASS n) c
  let s := (((s.set (R.FC_FIRST.SCOPE n) (s.scope r)).setBit (R.FC_FIRST.OBSERVED n) obs).setBit (R.FC_FIRST.INJECTED n) inj).set
    (R.FC_FIRST.EARLIER_REMOTE n) 0
  s.set64 (R.FC_FIRST_TSC_LO n) (R.FC_FIRST_TSC_HI n) s.ts.tsc

/-- An observed Black first cause that is no notice enters FC_GRP and is told to the ring (R33, R445). -/
def tellGroup (r : ReportArg) (c : Nat) (obs : Bool) (s : State) : State :=
  if c = 3 ∧ obs ∧ ¬ (r.block = 14 ∧ r.src = 3) then
    let s := groupFirst true s.pos (sourceNo r) s.groupTime s
    { s with spine := { s.spine with notice := some (Notice.mk s.pos (sourceNo r) (s.groupTime % 2 ^ 32) 0) } }
  else s

/-- Capture a report as its block's first cause (R440), with its record in the recorder and its message to the host (R544). -/
def capture (r : ReportArg) (c : Nat) (obs inj : Bool) (s : State) : State × List ReportArg :=
  let s := (tellGroup r c obs (fileRecord r c obs inj s)).modCyc (fun x => { x with captured := r.block :: x.captured })
  let info := s.firstInfo r.block
  let rc := s.stamp { typ := 1, cls := c, plane := planeOf r.block r.src, injected := inj, observed := obs, block := r.block, src := r.src, inst := r.inst, payload := leBytes 4 info ++ leBytes 1 (sourceNo r) }
  let (s, l1) := post rc s
  if s.isRoot then
    if c ≥ s.get O.EMCY_CLASS then
      let (s, l2) := postEmcy s.pos r.block r.src r.inst info s.ts.tsc s
      (s, l1 ++ l2)
    else (s, l1)
  else
    let (s, l2) := sendTo 0x52 2 0 (rc.image 0xA5C35A3C 0) s
    (s, l1 ++ l2)

/-- Software cleared HELD in this core cycle and a report comes in it (R442): HELD stays 1 with its record, and no error-reset message is due. -/
def reheld (b : Nat) (s : State) : State :=
  let s := if s.cyc.errReset then { s with net := { s.net with emcy := s.net.emcy.dropLast } } else s
  (s.set (R.FC_STAT.HELD (b - 1)) 1).modCyc (fun c => { c with released := c.released.filter (fun x => x != b), errReset := false })

/-- A report that no window holds (R440 to R442, R452): captured, or lost. -/
def keepReport (r : ReportArg) (c : Nat) (s : State) : State × List ReportArg :=
  let n := r.block - 1
  let freed := s.cyc.released.contains r.block
  let s := (if freed then reheld r.block s else s).modCyc (fun x => { x with held := r.block :: x.held })
  let held := s.bit (R.FC_STAT.HELD n)
  let replace := held && !freed && !s.bit (R.FC_FIRST.OBSERVED n) && r.observed
  if !held || replace then capture r c (r.observed || (held && s.bit (R.FC_FIRST.OBSERVED n))) (r.injected || replace) s
  else (((s.noteSet (R.FC_LOST.LOST n)).set (R.FC_LOST.LOST n) 1).inc (R.FC_LOSTCNT r.block), [])

/-- A report that finds no window which holds it (R443): it is captured or lost, and windows open or reopen. -/
def judgeReport (r : ReportArg) (c w : Nat) (s : State) : State × List ReportArg :=
  let n := r.block - 1
  let held := s.bit (R.FC_STAT.HELD n) || s.cyc.released.contains r.block
  let takes := !held || (!s.cyc.released.contains r.block && !s.bit (R.FC_FIRST.OBSERVED n) && r.observed)
  let opens := takes || s.winOpen w || s.winOpen 8 || (r.block == 14 && r.src == 3)
  let (s, l) := keepReport r c s
  let s := if c ≥ 1 && opens then openWin w c r.block s else s
  (if c == 3 && opens && w != 8 then openWin 8 c r.block s else s, l)

/-- A real and an injected report of one source in one core cycle form one report with both flags (R452): the second adds its flag to the record
that the first left. -/
def joinReport (r : ReportArg) (s : State) : State :=
  let n := r.block - 1
  if s.cyc.captured.contains r.block ∧ s.get (R.FC_FIRST.SRC n) = r.src ∧ s.get (R.FC_FIRST.INSTANCE n) = r.inst then
    let s := if r.injected then s.set (R.FC_FIRST.INJECTED n) 1 else s
    if r.observed then s.set (R.FC_FIRST.OBSERVED n) 1 else s
  else s

/-- The report is the second half of one that was taken in this core cycle (R452). A real report replaces the record of an injected one. -/
def State.joins (s : State) (r : ReportArg) : Bool :=
  s.cyc.taken.any (fun x => x.block == r.block && x.src == r.src && x.inst == r.inst && x.observed != r.observed && x.injected != r.injected)
    && !(r.observed && s.cyc.captured.contains r.block && s.get (R.FC_FIRST.SRC (r.block - 1)) == r.src
      && s.get (R.FC_FIRST.INSTANCE (r.block - 1)) == r.inst)

/-- One report in the collector (R440 to R449, R452). The second component lists reports that it causes in turn. -/
def takeOne (r : ReportArg) (s : State) : State × List ReportArg :=
  let c := s.classOf r.block r.src r.inst
  let w := s.scope r
  let s := { s with fc := { s.fc with lastReport := Tab.set 0 s.fc.lastReport r.block s.ts.tsc } }
  let consW := s.winHolds w c
  let (s, l) :=
    if s.joins r then (joinReport r s, [])
    else if consW || s.winHolds 8 c then (s.inc (R.FC_WIN.CONSEQ (if consW then w else 8)), [])
    else judgeReport r c w s
  let s := s.modCyc (fun x => { x with taken := r :: x.taken })
  if c = 3 ∧ (r.observed ∨ s.bit R.FC_CTRL.INJ_ACT) then
    let (s, m) := blackActions s
    (s, l ++ m)
  else (s, l)

/-- The reports of one core cycle and those they cause, one after another. -/
def takeAll : Nat → List ReportArg → State → State
  | 0, _, s => s
  | _ + 1, [], s => s
  | k + 1, r :: rs, s =>
    let (s, l) := takeOne r s
    takeAll k (rs ++ l) s

/-- The order of R436: class from Black down, block, source index, instance. -/
def reportRank (s : State) (r : ReportArg) : Nat :=
  (((3 - s.classOf r.block r.src r.inst) * 16 + (r.block - 1)) * 16 + r.src) * 65536 + r.inst

/-- Place a report among others in the order of R436. -/
def insertReport (s : State) (r : ReportArg) : List ReportArg → List ReportArg
  | [] => [r]
  | x :: xs => if reportRank s r < reportRank s x then r :: x :: xs else x :: insertReport s r xs

/-- Set the leaves of several sources and list the reports of those that were clear. -/
def raiseLeaves : List Src → State → State × List ReportArg
  | [], s => (s, [])
  | r :: rs, s =>
    let (s, l) := raiseLeaf r s
    let (s, m) := raiseLeaves rs s
    (s, l ++ m)

/-- The reports that list gives, taken in the order of R436. -/
def report (l : List ReportArg) (s : State) : State :=
  takeAll (l.length + 8) (l.foldr (insertReport s) []) s

/-- Events of one core cycle that set leaf cause bits (R434, R436). -/
def raiseAll (l : List Src) (s : State) : State :=
  let (s, m) := raiseLeaves l s
  report m s

/-- An event that sets a leaf cause bit (R434). -/
def raise (r : Src) (s : State) : State := raiseAll [r] s

/-- The device enters Safe, without a Black report (R116, R531). -/
def toSafe (s : State) : State :=
  let (s, l) := enterSafe s
  report l s

def State.modFc (s : State) (f : Fc → Fc) : State := { s with fc := f s.fc }

/-- A check-bit injection is armed and its word is written (R451 step 1): memory code, first word, number of words. -/
def cbiStore (m lo n : Nat) (s : State) : State :=
  let a := s.get R.FC_CBI_ADDR
  if s.bit R.FC_CBI.ARMED ∧ s.get R.FC_CBI.MEM = m ∧ lo ≤ a ∧ a < lo + n then s.modFc (fun f => { f with cbiStored := true }) else s

/-- The source of a block's held record (R440). -/
def State.heldSrc (s : State) (b : Nat) : Src := ⟨b, s.get (R.FC_FIRST.SRC (b - 1)), s.get (R.FC_FIRST.INSTANCE (b - 1))⟩

/-- The held record of a block is released (R440), but for one that a report of this core cycle has set or kept (R442); when none is left the Root
sends the error-reset message (R544). -/
def releaseHeld (b : Nat) (s : State) : State :=
  if s.bit (R.FC_STAT.HELD (b - 1)) ∧ !s.cyc.held.contains b then
    let s := (s.set (R.FC_STAT.HELD (b - 1)) 0).modCyc (fun c => { c with released := b :: c.released })
    if s.isRoot ∧ (List.range 16).all (fun n => !s.bit (R.FC_STAT.HELD n)) ∧ s.net.emcy.length < 16 then
      (s.modNet (fun n => { n with emcy := n.emcy ++ [Emcy.mk 0 []] })).modCyc (fun c => { c with errReset := true })
    else s
  else s

/-- Software clears a W1C bit (R12, R13): one that hardware has set in this core cycle stays, and an event of the cycle that found it set makes
its report (R434). -/
def clearBit (f : Fld) (s : State) : State :=
  if s.cyc.sets.contains f.key then
    let hits := s.cyc.again.filter (fun r => (leafOf (Src.mk r.block r.src r.inst)).any (fun g => g.key == f.key))
    report (hits.take 1) (s.modCyc (fun c => { c with again := c.again.filter (fun r => !hits.contains r) }))
  else s.set f 0

/-- The held record of a block is released with its leaf (R453). A report of the same core cycle keeps both. -/
def clearRecord (b : Nat) (s : State) : State :=
  let s := match leafOf (s.heldSrc b) with | some f => clearBit f s | none => s
  releaseHeld b s

/-- Recoveries of a class in the last 3,600 s (R454), at most 15. -/
def State.recoveries (s : State) (c : Nat) : List Nat :=
  ((Tab.get [] s.fc.recovered c).filter (fun t => s.ts.tsc < t + 3686400000000)).take 15

/-- Count an automatic recovery of a class; at K the class latches (R454). -/
def countRecovery (c : Nat) (s : State) : State :=
  let l := (s.ts.tsc :: s.recoveries c).take 15
  let s := s.modFc (fun f => { f with recovered := Tab.set [] f.recovered c l })
  let latch := s.get R.FC_RCNT.LATCH
  if s.get R.FC_RECOV.K ≤ l.length ∧ !bitAt latch (c - 1) then
    raise (Src.FC_RECOV_LATCH) (s.set R.FC_RCNT.LATCH (setBitAt latch (c - 1) true))
  else s

/-- A recovery step of a block is refused: its quiet timer restarts (R453). -/
def restartQuiet (b : Nat) (s : State) : State := s.modFc (fun f => { f with lastReport := Tab.set 0 f.lastReport b s.ts.tsc })

/-- A clear that recovery asked for of a cell ends: in success its records are released, else the step counts as refused (R453). -/
def cellRecovery (n : Nat) (ok : Bool) (s : State) : State :=
  let l := (s.fc.cells.filter (fun x => x.2 == n)).map (·.1)
  let s := s.modFc (fun f => { f with cells := f.cells.filter (fun x => x.2 != n) })
  s.each l (fun b s =>
    if !ok then restartQuiet b s
    else if s.bit (R.FC_STAT.HELD (b - 1)) ∧ (s.heldSrc b).inst = n then countRecovery 2 (clearRecord b s)
    else s)

/-- A CLR that recovery asked for of a trip input ends (R453). -/
def tripRecovery (i : Nat) (ok : Bool) (s : State) : State :=
  if s.fc.trips.contains i then
    let s := s.modFc (fun f => { f with trips := f.trips.filter (fun x => x != i) })
    if !ok then restartQuiet 6 s
    else if s.bit (R.FC_STAT.HELD 5) ∧ s.heldSrc 6 = ⟨6, 8, i⟩ then countRecovery 2 (clearRecord 6 s)
    else s
  else s

/-- A refused write sets SETTING_REFUSED of its block (R16). -/
def refuse (r : Src) (s : State) : State := raise r s

/-- Post an entry and take the reports it causes. -/
def postRec (r : Rec) (s : State) : State :=
  let (s, l) := post (s.stamp r) s
  report l s

/-- A block event record, TYPE 0x03 (R476). -/
def postEvent (b src inst cls : Nat) (payload : List Byte) (s : State) : State :=
  postRec { typ := 3, cls := cls, plane := planeOf b src, observed := true, block := b, src := src, inst := inst, payload := payload } s

/-- A block takes its own isolation action only while the class of the source is Crimson or Black (R439). -/
def State.acts (s : State) (r : Src) : Bool := s.classOf r.block r.src r.inst ≥ 2

end Sys2Proof.Machine
end

