-- ==== Sys2Proof/Machine/Operands.lean ====
section
/-!
DEFINITION. Machine/Operands.lean: the fields of received frames and messages: the upstream frame (R198, R199), the cell
descriptor (R216), the urgent sets (R203) and the heartbeat (R299). An upstream frame is given as its characters 1 to 202.
-/
namespace Sys2Proof.Machine

/-! ### Upstream frame, R198 -/

/-- `n` characters from character `i` (1 to 202) of an upstream frame, little-endian. -/
def upAt (u : List Byte) (i n : Nat) : Nat := leAt u (i - 1) n

def upStatA (u : List Byte) : Nat := upAt u 1 1
def upSeqEcho (u : List Byte) : Nat := upAt u 2 1
def upStatB (u : List Byte) : Nat := upAt u 3 1
def upFault (u : List Byte) : Nat := upAt u 4 2
/-- A field with an invalid code: none where the frame holds the code, or where no valid frame has arrived (log 14). -/
def upNat (u : List Byte) (i inv : Nat) : Option Nat :=
  if u = [] then none else if upAt u i 2 = inv then none else some (upAt u i 2)
def upInt (u : List Byte) (i : Nat) : Option Int :=
  if u = [] then none else if upAt u i 2 = 0x8000 then none else some (sext 16 (upAt u i 2))
def upVcap (u : List Byte) : Option Nat := upNat u 6 0xFFFF
def upIarm (u : List Byte) : Option Int := upInt u 8
def upVgs (u : List Byte) (g : Nat) : Option Nat := upNat u (10 + 2 * g) 0xFFFF
def upIsns (u : List Byte) (g : Nat) : Option Int := upInt u (34 + 2 * g)
def upTemp0 (u : List Byte) : Option Int := upInt u 58
def upTemp1 (u : List Byte) : Option Int := upInt u 60
def upGates (u : List Byte) : Nat := upAt u 62 2 % 4096
def upParamAddr (u : List Byte) : Nat := upAt u 66 1
def upParamValue (u : List Byte) : Nat := upAt u 67 2
def upSeg (u : List Byte) : Nat := upAt u 69 1
def upSegLen (u : List Byte) : Nat := upAt u 70 1
def upSegData (u : List Byte) : List Byte := ((u.drop 70).take 128).take (upSegLen u)

/-- The check of an upstream frame: its length, its CRC over characters 1 to 198, and no BYPASS or other rule broken
(R200, R201). -/
def upGood (u : List Byte) : Bool := u.length == 202 && leAt u 198 4 == crc32 (u.take 198)

/-- STAT_A and STAT_B bits of the last valid frame of a lane (R199). -/
def State.headBit (s : State) (n i : Nat) : Bool := bitAt (upStatA (s.link n).up) i
def State.headClosed (s : State) (n : Nat) : Bool := s.headBit n 3
def State.headMoving (s : State) (n : Nat) : Bool := bitAt (upStatB (s.link n).up) 5

/-! ### Descriptor, R216 -/

def descAt (d : List Byte) (i n : Nat) : Nat := leAt d i n
def descTTurn (d : List Byte) : Nat := descAt d 44 2
def descSampleOfs (d : List Byte) : Int := sext 16 (descAt d 46 2)
/-- Gates fitted; all 12 while no descriptor is held (log 13). -/
def descGates (d : List Byte) : Nat := if d = [] then 0xFFF else descAt d 48 2 % 4096
def descBootLegs (d : List Byte) : Nat := descAt d 50 1 % 64
def descBypassType (d : List Byte) : Nat := descAt d 51 1
def descBypassTime (d : List Byte) : Nat := descAt d 52 2
def descSoft (d : List Byte) : Nat := descAt d 54 2
def descRatedV (d : List Byte) : Nat := descAt d 56 2
def descOc (d : List Byte) : Nat := descAt d 60 2

def State.fitted (s : State) (n : Nat) : Nat := descGates (s.link n).desc
/-- Bootstrap-supplied high sides: the even gate of each leg of the bootstrap byte (R269). -/
def State.bootGates (s : State) (n : Nat) : Nat :=
  (List.range 6).foldl (fun m l => if bitAt (descBootLegs (s.link n).desc) l then m + 2 ^ (2 * l) else m) 0

/-- The gates of one leg. -/
def legMask (g : Nat) : Nat := 3 * 2 ^ (2 * (g / 2))

/-- The body of a descriptor is well formed (R216, R219 result 5): magic, format, length, link revision and ranges. -/
def descWellFormed (d : List Byte) : Bool :=
  d.length == 7347 && descAt d 0 4 == 0x444B4D4C && descAt d 4 2 == 1 && descAt d 6 2 == 7347 && descAt d 43 1 == 1
    && 16 ≤ descTTurn d && descTTurn d ≤ 256 && -2048 ≤ descSampleOfs d && descSampleOfs d ≤ 256
    && descAt d 48 2 < 4096 && descAt d 50 1 < 64 && descBypassType d ≤ 2 && 1 ≤ descBypassTime d
    && (d.drop 64).take 64 == List.replicate 64 0

/-! ### Urgent sets, R203 -/

/-- The four characters of a downstream urgent set after its K28.1. -/
def urgentChars (u : Urgent) : List Byte :=
  match u with
  | .black => [0xBB, 0xBB, 0xBB]
  | .targeted m soft =>
    let x := Nat.xor (m % 16) (Nat.xor (m / 16 % 16) (m / 256 % 16))
    [if soft then 0xA8 else 0xA0, BitVec.ofNat 8 m, BitVec.ofNat 8 (m / 256 % 16 + 16 * x)]

/-- Cause and gate of a Scarlet set, from its characters 1 to 3; none where it is no Scarlet set. -/
def scarletOf (bs : List Byte) : Option (Nat × Nat) :=
  match bs with
  | [a, b, c] => if a = 0x5C ∧ c = ~~~b then some (b.toNat / 16, b.toNat % 16) else none
  | _ => none

/-! ### Heartbeat, R299 -/

def heartbeatOf (bs : List Byte) : Heartbeat :=
  { flags := leAt bs 1 1, pos := leAt bs 2 1, state := leAt bs 3 1, frame := leAt bs 4 4, owned := leAt bs 8 8,
    admitted := leAt bs 16 8, isolated := leAt bs 24 8, inUse := leAt bs 32 8, parked := leAt bs 40 8,
    release := leAt bs 48 8, config := leAt bs 56 8 }

/-- Length, type and CRC of a heartbeat payload (R299). -/
def heartbeatGood (bs : List Byte) : Bool := bs.length == 68 && leAt bs 0 1 == 0x48 && leAt bs 64 4 == crc32 (bs.take 64)

/-! ### Spine messages, R419 -/

def msgType (b : List Byte) : Nat := leAt b 0 1
def msgChan (b : List Byte) : Nat := leAt b 1 1 % 4
def msgHops (b : List Byte) : Nat := leAt b 1 1 / 4
def msgSrc (b : List Byte) : Nat := leAt b 2 1
def msgDest (b : List Byte) : Nat := leAt b 3 1
def msgSeq (b : List Byte) : Nat := leAt b 4 2
def msgLen (b : List Byte) : Nat := leAt b 6 2
def msgPayload (b : List Byte) : List Byte := (b.drop 8).take (msgLen b)

/-- The check, the length and the type of a message (R419, R420). -/
def msgGood (typ : Nat) (b : List Byte) : Bool :=
  12 ≤ b.length && msgLen b ≤ 1024 && b.length == 12 + msgLen b
    && leAt b (b.length - 4) 4 == crc32 (b.take (b.length - 4)) && msgType b == typ

/-- The direction (0 east, 1 west) in which traffic that arrives on a spine lane goes on. -/
def onward (i : Nat) : Nat := if i < 2 then 1 else 0

/-- A message goes on in the direction of its arrival, with one more hop and the payload given (R419, R421). -/
def passOn (i : Nat) (b payload : List Byte) (s : State) : State :=
  if s.linkUp (onward i) && msgHops b < 63 then
    s.transmit (onward i) (message (msgType b) (msgChan b) (msgHops b + 1) (msgSrc b) (msgDest b) (msgSeq b) payload)
  else s

/-- A message that fails its check is dropped (R419). -/
def dropBad (s : State) : State :=
  let (s, l) := dropMsg s
  report l s

/-- A unicast message for another device goes on; it is dropped where the way ends (R421; log 10). -/
def relay (i : Nat) (b : List Byte) (s : State) : State :=
  if s.linkUp (onward i) && msgHops b < 63 then passOn i b (msgPayload b) s else dropBad s

end Sys2Proof.Machine
end

