-- ==== Sys2Proof/Machine/Ledger.lean ====
section
/-!
DEFINITION. Machine/Ledger.lean: the cell life ledger (18_recorder_ledger.md R488 to R495): slots, their moves at
admission and removal, the rainflow counter, damage and warnings.
-/
namespace Sys2Proof.Machine

def State.led (s : State) (n : Nat) : LedgerSt := Tab.get {} s.ledger n
def State.modLed (s : State) (n : Nat) (f : LedgerSt → LedgerSt) : State := { s with ledger := Tab.modify {} s.ledger n f }

/-- Change the live slot of a lane, where it holds one. -/
def State.modLife (s : State) (n : Nat) (f : Life → Life) : State :=
  s.modLed n (fun l => match l.life with | none => l | some x => { l with life := some (f x), dirty := true })

def State.modMram (s : State) (f : Mram → Mram) : State := { s with mram := f s.mram }

/-- The live lanes. -/
def State.liveLanes (s : State) : List Nat := lanes64.filter (fun n => (s.led n).life.isSome)

/-- The lane other than `n` whose live slot has a digest. -/
def State.liveAt (s : State) (n : Nat) (x : List Byte) : Option Nat :=
  lanes64.find? (fun m => m != n && (match (s.led m).life with | some l => l.digest == x | none => false))

def State.histAt (s : State) (i : Nat) : Option Life := Tab.get none s.mram.history i
def State.setHist (s : State) (i : Nat) (l : Option Life) : State :=
  s.modMram (fun m => { m with history := Tab.set none m.history i l })

/-- The history slot that holds a digest. -/
def State.histOf (s : State) (x : List Byte) : Option Nat :=
  (List.range 256).find? (fun i => match s.histAt i with | some l => l.digest == x | none => false)

/-- The slot that gives way in a full history (R495): lowest last-seen PWRCYC, then OPSEC. -/
def State.oldestHist (s : State) : Nat :=
  (List.range 256).foldl (fun b i =>
    match s.histAt b, s.histAt i with
    | some x, some y => if y.lastPwr < x.lastPwr ∨ (y.lastPwr = x.lastPwr ∧ y.lastOp < x.lastOp) then i else b
    | _, _ => b) 0

/-- Move a slot to history for lane `n` (R495); the history slot it takes. -/
def toHistory (n : Nat) (y : Life) (s : State) : Nat × State :=
  match (List.range 256).find? (fun i => (s.histAt i).isNone) with
  | some i => (i, s.setHist i (some y))
  | none => let i := s.oldestHist; (i, raise (Src.REC_HIST_EVICT n) (s.setHist i (some y)))

/-- Give a lane a live slot, or none, in the working state and in MRAM (log 19). -/
def setLive (n : Nat) (l : Option Life) (s : State) : State :=
  let s := s.modLed n (fun x => { x with life := l, dirty := false, ext := none, iCount := 0, iSum := 0, iSq := 0 })
  let c : LifeCopy := match l with | some y => { mark := true, seq := y.seq, life := some y } | none => {}
  s.modMram (fun m => { m with copyA := Tab.set {} m.copyA n c, copyB := Tab.set {} m.copyB n {} })

/-- The Cell change record of R476. -/
def changeRecord (n code : Nat) (old new : List Byte) (slot : Nat) (s : State) : State :=
  let pad (d : List Byte) : List Byte := (d ++ List.replicate 8 0).take 8
  postRec { typ := 0xA, cls := 0, plane := planeOf 15 0, inst := n, payload := leBytes 1 n ++ leBytes 1 code ++ pad old ++ pad new ++ leBytes 2 slot } s

/-- The slot of a cell as it is admitted to a lane (R488). -/
def seen (n : Nat) (untrusted : Bool) (d : List Byte) (s : State) (l : Life) : Life :=
  { l with untrusted := untrusted, desc := (d.drop 8).take 35, lastLane := n, lastPos := s.pos, lastOp := s.opsec, lastPwr := s.mram.pwrCycles, admissions := satAdd 0xFFFF l.admissions 1 }

/-- A new slot. -/
def newLife (x : List Byte) (s : State) : Life := { seq := 1, digest := x, firstOp := s.opsec, firstPwr := s.mram.pwrCycles }

/-- The ledger at an admission of digest `x` on lane `n` (R495). -/
def ledgerAdmit (n : Nat) (x d : List Byte) (untrusted : Bool) (s : State) : State :=
  match (s.led n).life with
  | some y =>
    if y.digest = x then s.modLife n (seen n untrusted d s)
    else
      match s.liveAt n x with
      | some m =>
        if s.admitted m then
          let (h, s) := toHistory n y s
          changeRecord n 6 y.digest x h (raise (Src.REC_LEDGER_DUP n) (setLive n none s))
        else
          let (h, s) := toHistory n y s
          let l := ((s.led m).life).getD {}
          let s := setLive n (some (seen n untrusted d s l)) (setLive m none s)
          changeRecord n 5 y.digest x h s
      | none =>
        match s.histOf x with
        | some i =>
          let l := (s.histAt i).getD {}
          let (h, s) := toHistory n y (s.setHist i none)
          changeRecord n 1 y.digest x h (setLive n (some (seen n untrusted d s l)) s)
        | none =>
          let (h, s) := toHistory n y s
          changeRecord n 2 y.digest x h (setLive n (some (seen n untrusted d s (newLife x s))) s)
  | none =>
    match s.liveAt n x with
    | some m =>
      if s.admitted m then changeRecord n 6 [] x 0xFFFF (raise (Src.REC_LEDGER_DUP n) s)
      else
        let l := ((s.led m).life).getD {}
        changeRecord n 5 [] x 0xFFFF (setLive n (some (seen n untrusted d s l)) (setLive m none s))
    | none =>
      match s.histOf x with
      | some i =>
        let l := (s.histAt i).getD {}
        setLive n (some (seen n untrusted d s l)) (s.setHist i none)
      | none => setLive n (some (seen n untrusted d s (newLife x s))) s

/-- A lane that holds a live slot is disabled (R495): the slot moves to history. The outcome code of its record is not
stated and is drawn (log 20). -/
def ledgerRemove (n : Nat) (s : State) : State :=
  match (s.led n).life with
  | none => s
  | some y =>
    let (h, s) := toHistory n y s
    let (c, s) := (setLive n none s).draw
    changeRecord n (c % 256) y.digest [] h s

/-! ### Rainflow, R490 -/

/-- A counted cycle: range in 0.01 °C, sum of its two points, and whether it is a full cycle. -/
structure Cycle where
  range : Nat
  sum : Int
  full : Bool
  deriving DecidableEq, Repr

/-- The four-point rule on a residue given newest first. -/
def fourPoint : Nat → List Int → List Int × List Cycle
  | 0, r => (r, [])
  | k + 1, s4 :: s3 :: s2 :: s1 :: r =>
    let b := (s3 - s2).natAbs
    if b ≤ (s2 - s1).natAbs ∧ b ≤ (s4 - s3).natAbs then
      let (r', l) := fourPoint k (s4 :: s1 :: r)
      (r', ⟨b, s2 + s3, true⟩ :: l)
    else (s4 :: s3 :: s2 :: s1 :: r, [])
  | _ + 1, r => (r, [])

/-- Push a turning point on a residue given oldest first. -/
def pushPoint (r : List Int) (p : Int) : List Int × List Cycle :=
  let (r, l) := if r.length ≥ 32 then
      (match r with
        | a :: b :: t => (b :: t, [⟨(b - a).natAbs, a + b, false⟩])
        | x => (x, []))
    else (r, [])
  let (q, m) := fourPoint 16 (p :: r.reverse)
  (q.reverse, l ++ m)

/-- The matrix entry of a cycle. -/
def Cycle.entry (c : Cycle) : Nat := 8 * min 15 (c.range / 500) + (clampInt 0 7 ((c.sum + 8000) / 4000)).toNat

/-- The string whose model a cell uses (R491). -/
def State.modelOf (s : State) (n : Nat) : Nat := (s.stringOf n).getD 0

/-- Count a cycle (R490, R491). -/
def countCycle (s : State) (n : Nat) (l : Life) (c : Cycle) : Life :=
  let t := s.modelOf n
  let e := c.entry
  let inc := Config.cycleDamage (s.get (R.LGS_A t)) (s.get (R.LGS_B1 t)) (s.get (R.LGS_B2 t)) c.range c.sum
  let w : Rat := if c.full then 1 else mkRat 1 2
  { l with matrix := Tab.set 0 l.matrix e (satAdd 0xFFFFFFFF (Tab.get 0 l.matrix e) (if c.full then 2 else 1)), dSw := round64 (val64 l.dSw + w * inc) }

/-- A TEMP0 sample of a lane (R490). -/
def rainflow (n : Nat) (t : Int) (s : State) : State :=
  let g : Int := 50 * s.get R.LG_CTRL.GATE
  let x := s.led n
  match x.life, x.ext with
  | none, _ => s
  | some l, none => s.modLed n (fun x => { x with ext := some t, rising := (match l.residue.getLast? with | some p => decide (p ≤ t) | none => true) })
  | some l, some e =>
    let first := l.residue = []
    let up := if first then t > e else x.rising
    if first ∧ (t - e).natAbs < g.natAbs then s
    else if !first ∧ ((up ∧ t > e) ∨ (!up ∧ t < e)) then s.modLed n (fun x => { x with ext := some t })
    else if !first ∧ (t - e).natAbs < g.natAbs then s
    else
      let (r, cs) := pushPoint l.residue e
      let l := cs.foldl (countCycle s n) { l with residue := r }
      s.modLed n (fun x => { x with life := some l, dirty := true, ext := some t, rising := decide (t > e) })

/-! ### Warnings, R493 -/

/-- The three damages of a slot. -/
def Life.damage (l : Life) (k : Nat) : Nat := if k = 0 then l.dSw else if k = 1 then l.dCt else l.dCr

/-- The Life warning record of R476. -/
def lifeRecord (n k src thr d : Nat) (s : State) : State :=
  postRec { typ := 0xC, cls := s.classOf 15 src n, plane := planeOf 15 0, block := 15, src := src, inst := n, observed := true, payload := leBytes 1 n ++ leBytes 1 k ++ leBytes 4 thr ++ leBytes 8 d } s

/-- Raise the warnings and ends that the lane's damages have reached. -/
def checkLife (n : Nat) (s : State) : State :=
  s.each [0, 1, 2] (fun k s =>
    match (s.led n).life with
    | none => s
    | some l =>
      let d := l.damage k
      let w := mkRat (s.get R.LG_CTRL.WARN) 100
      let s := if !bitAt l.warned k && w ≤ val64 d then
          let s := s.modLife n (fun l => { l with warned := setBitAt l.warned k true })
          lifeRecord n k 6 (round32 w) d (raise (Src.REC_LIFE_WARN n) s)
        else s
      if !bitAt l.ended k && 1 ≤ val64 d then
        let s := s.modLife n (fun l => { l with ended := setBitAt l.ended k true })
        lifeRecord n k 7 0x3F800000 d (raise (Src.REC_LIFE_END n) s)
      else s)

/-! ### Samples and saves, R489, R492, R494 -/

/-- The last valid frame of a lane is not older than 1 ms (R489). -/
def State.fresh (s : State) (n : Nat) : Bool := (s.link n).up != [] && s.ts.tsc ≤ (s.link n).upAt + 1024000

/-- Feed IARM of a valid frame of a cell in use (R492). -/
def ledgerFrame (n : Nat) (s : State) : State :=
  if s.get (R.BC_STAT.STATE n) = 3 ∧ (s.led n).life.isSome then
    match upIarm (s.link n).up with
    | some i => s.modLed n (fun l => { l with iCount := l.iCount + 1, iSum := l.iSum + i, iSq := l.iSq + i.natAbs * i.natAbs })
    | none => s
  else s

/-- Close the ms block of ripple energy (R492). -/
def ripple (n : Nat) (s : State) : State :=
  let x := s.led n
  let t := s.modelOf n
  let s := if x.iCount ≥ 900 then
      let k : Rat := (x.iCount : Nat)
      let m : Rat := (x.iSum : Rat) / k
      let v := ((x.iSq : Nat) : Rat) / k - m * m
      s.modLife n (fun l =>
        let e := round64 (val64 l.eR + val32 (s.get (R.LGS_ESR t)) * v * mkRat 1 100000)
        let rated := val32 (s.get (R.LGS_ERATED t))
        { l with eR := e, dCr := if rated = 0 then 0 else round64 (val64 e / rated) })
    else s
  s.modLed n (fun l => { l with iCount := 0, iSum := 0, iSq := 0 })

/-- The sample of one ms (R489). -/
def ledgerSample (n : Nat) (s : State) : State :=
  if s.admitted n && (s.led n).life.isSome then
    let u := (s.link n).up
    let s := if s.fresh n then
        let s := match upTemp0 u with
          | some t => rainflow n t (s.modLife n (fun l => { l with tempHigh := max l.tempHigh t }))
          | none => s
        match upVcap u with
          | some v => s.modLife n (fun l => { l with vcapHigh := max l.vcapHigh v })
          | none => s
      else s
    checkLife n (ripple n s)
  else s

/-- The second of one lane (R488, R492). -/
def ledgerSecond (n : Nat) (s : State) : State :=
  if s.admitted n && (s.led n).life.isSome then
    let t := s.modelOf n
    let s := if s.get (R.BC_STAT.STATE n) = 3 then s.modLife n (fun l => { l with useSec := satAdd 0xFFFFFFFF l.useSec 1 }) else s
    let s := s.modLife n (fun l => { l with lastOp := s.opsec, lastPwr := s.mram.pwrCycles })
    let s := match (if s.fresh n then upTemp1 (s.link n).up else none) with
      | none => s
      | some x =>
        let b := (clampInt 0 15 ((x + 4000) / 1000)).toNat
        s.modLife n (fun l => { l with hist := Tab.set 0 l.hist b (satAdd 0xFFFFFFFF (Tab.get 0 l.hist b) 1), dCt := round64 (val64 l.dCt + Config.secondDamage (s.get (R.LGS_L0 t)) (s.get (R.LGS_TREF t)) x) })
    checkLife n s
  else s

/-- Start the save of a lane's slot (R494): MARK of the older copy is cleared. -/
def startSave (n : Nat) (s : State) : State :=
  match (s.led n).life, s.saving with
  | some l, none =>
    if (s.led n).dirty then
      let l := { l with seq := l.seq + 1 }
      let a := Tab.get {} s.mram.copyA n
      let b := Tab.get {} s.mram.copyB n
      let toA := !a.mark || (b.mark && a.seq < b.seq)
      let c : LifeCopy := { seq := l.seq }
      let s := s.modMram (fun m => if toA then { m with copyA := Tab.set {} m.copyA n c } else { m with copyB := Tab.set {} m.copyB n c })
      { s.set R.REC_STAT.SAVING 1 with saving := some (n, 0, l) }
    else s
  | _, _ => s

/-- Finish the save of a lane's slot: MARK is written last. -/
def endSave (n : Nat) (l : Life) (s : State) : State :=
  let c : LifeCopy := { mark := true, seq := l.seq, life := some l }
  let a := Tab.get {} s.mram.copyA n
  let s := s.modMram (fun m => if !a.mark && a.seq = l.seq then { m with copyA := Tab.set {} m.copyA n c } else { m with copyB := Tab.set {} m.copyB n c })
  let s := s.modLed n (fun x => match x.life with
    | some y => { x with life := some { y with seq := l.seq }, dirty := x.dirty && ({ y with seq := l.seq } != l) }
    | none => x)
  { s.set R.REC_STAT.SAVING 0 with saving := none }

/-- Write one chunk of the save in progress (R480): ten chunks of 128 bytes to a slot. -/
def saveChunk (s : State) : State :=
  match s.saving with
  | none => s
  | some (n, k, l) =>
    if (s.led n).life.isNone then { s.set R.REC_STAT.SAVING 0 with saving := none }
    else if k + 1 < 10 then { s with saving := some (n, k + 1, l) } else endSave n l s

/-- The saves of every changed lane before a reset (R128, R494). -/
def saveAll (s : State) : State :=
  s.each lanes64 (fun n s =>
    let s := match s.saving with | some (m, _, l) => endSave m l s | none => s
    let s := startSave n s
    match s.saving with | some (m, _, l) => endSave m l s | none => s)

/-! ### Slot layout, R488 -/

/-- The bytes of a word table. -/
def words4 (t : Tab Nat) (k : Nat) : List Byte := (List.range k).flatMap (fun i => leBytes 4 (Tab.get 0 t i))

/-- The 1,280 bytes of a slot in a state (1 LIVE, 2 HISTORY). -/
def Life.image (l : Life) (mark st : Nat) : List Byte :=
  let pad (k : Nat) (d : List Byte) : List Byte := (d ++ List.replicate k 0).take k
  leBytes 4 mark ++ leBytes 4 l.seq ++ pad 64 l.digest ++ pad 35 l.desc ++ leBytes 1 st
    ++ leBytes 1 (b2n l.untrusted + 2 * b2n l.imported + 4 * (l.warned % 8) + 32 * (l.ended % 8))
    ++ leBytes 1 l.lastLane ++ leBytes 1 l.lastPos ++ leBytes 1 0 ++ leBytes 4 l.firstOp ++ leBytes 4 l.firstPwr
    ++ leBytes 4 l.lastOp ++ leBytes 4 l.lastPwr ++ leBytes 4 l.useSec ++ leBytes 2 l.admissions ++ leBytes 2 l.closes
    ++ leBytes 2 l.scCount ++ leBytes 2 l.uvCount ++ leBytes 2 (ofInt 16 l.tempHigh) ++ leBytes 2 l.vcapHigh
    ++ leBytes 8 l.dSw ++ leBytes 8 l.dCt ++ leBytes 8 l.eR ++ leBytes 8 l.dCr ++ words4 l.hist 16 ++ words4 l.matrix 128
    ++ leBytes 1 l.residue.length ++ leBytes 1 0 ++ pad 64 (l.residue.flatMap (fun x => leBytes 2 (ofInt 16 x))) ++ List.replicate 462 0

/-- The word table held in `k` words of bytes. -/
def tab4 (b : List Byte) (i k : Nat) : Tab Nat := (List.range k).foldl (fun t j => Tab.set 0 t j (leAt b (i + 4 * j) 4)) []

/-- A slot read from its 1,280 bytes. -/
def lifeOf (b : List Byte) : Life :=
  { seq := leAt b 4 4, digest := (b.drop 8).take 64, desc := (b.drop 72).take 35, untrusted := bitAt (leAt b 108 1) 0, imported := bitAt (leAt b 108 1) 1, warned := bits (leAt b 108 1) 4 2, ended := bits (leAt b 108 1) 7 5, lastLane := leAt b 109 1, lastPos := leAt b 110 1, firstOp := leAt b 112 4, firstPwr := leAt b 116 4, lastOp := leAt b 120 4, lastPwr := leAt b 124 4, useSec := leAt b 128 4, admissions := leAt b 132 2, closes := leAt b 134 2, scCount := leAt b 136 2, uvCount := leAt b 138 2, tempHigh := sext 16 (leAt b 140 2), vcapHigh := leAt b 142 2, dSw := leAt b 144 8, dCt := leAt b 152 8, eR := leAt b 160 8, dCr := leAt b 168 8, hist := tab4 b 176 16, matrix := tab4 b 240 128, residue := (List.range (min 32 (leAt b 752 1))).map (fun i => sext 16 (leAt b (754 + 2 * i) 2)) }

/-- The largest damage of a slot, as a binary64 pattern; patterns that are not negative order as their values. -/
def Life.worst (l : Life) : Nat := max l.dSw (max l.dCt l.dCr)

/-- The live lanes, most damaged first (R493); equal damages in lane order. -/
def State.byDamage (s : State) : List Nat :=
  let w (n : Nat) : Nat := match (s.led n).life with | some l => l.worst | none => 0
  s.liveLanes.foldr (fun n acc => acc.filter (fun m => w m > w n) ++ [n] ++ acc.filter (fun m => w m ≤ w n)) []

end Sys2Proof.Machine
end

