-- ==== Sys2Proof/Machine/Cells.lean ====
section
/-!
DEFINITION. Machine/Cells.lean: what the gate supervisor and the string balancer do to one cell, shared by the commands of
the link, the supervisor, the balancer and the duplex pair (09_gate_supervision.md, 10_balancing_duplex.md).
-/
namespace Sys2Proof.Machine

/-! ### Roles -/

/-- ROLE of BAL_STAT (R307): 0 alone, 1 owner, 2 standby, 3 split. -/
def State.role (s : State) : Nat := s.get R.BAL_STAT.ROLE
def State.standby (s : State) : Bool := s.dx.decided && s.role == 2
/-- The device sends OWNER = 1 on lane n (R223, R297). -/
def State.owns (s : State) (n : Nat) : Bool := s.bit (R.LKN_STAT.OWNER_TX n)

/-- Start a head parameter access (R215). A write on a device that does not own the lane fails at once. -/
def startParam (n addr val : Nat) (wr : Bool) (s : State) : State :=
  let s := ((s.set (R.LKN_PARAM.ADDR n) addr).setBit (R.LKN_PARAM.WRITE n) wr)
  let s := if wr then s.set (R.LKN_PARAM.VALUE n) val else s
  if wr ∧ ¬ s.owns n then raise (Src.LKN_PARAM_FAIL n) (s.set (R.LKN_PARAM.STATUS n) 3)
  else s.set (R.LKN_PARAM.STATUS n) 1

/-- The last map shows this position more than once (R423). -/
def State.duplicated (s : State) : Bool := match s.spine.map with | some m => bitAt m.dup s.pos | none => false

/-- Take ownership of a lane's cell (R297), writing the head's BACKSTOP_BYPASS to the policy bit (R262). The next frame is the first that is owned. -/
def own (n : Nat) (s : State) : State :=
  if s.owns n || (s.duplicated && !s.inState [.run]) then s
  else startParam n 3 (s.get R.GS_POLICY.BACKSTOP_BYPASS) true
    ((s.set (R.LKN_STAT.OWNER_TX n) 1).modCell n (fun c => { c with ownSince := s.frame + 1 }))

/-- Give up ownership of a lane's cell. -/
def disown (n : Nat) (s : State) : State := s.set (R.LKN_STAT.OWNER_TX n) 0

/-- The cell's ownership after the frame boundary: the change that is due, or what is sent now. -/
def State.willOwn (s : State) (n : Nat) : Bool := match (s.cell n).ownNext with | some (_, b) => b | none => s.owns n

/-- The device is the owner of its pair: alone, owner, or in a split the one that took no cell over (R297, R302; log 93). -/
def State.mainOwner (s : State) : Bool :=
  s.dx.decided && (s.role == 0 || s.role == 1 || (s.role == 3 && (List.range 64).all (fun n => !(s.willOwn n && (s.cell n).split))))

/-! ### Balancer, R284 to R293 -/

def State.balState (s : State) (n : Nat) : Nat := s.get (R.BC_STAT.STATE n)
def State.heldOut (s : State) (n : Nat) : Bool := s.bit (R.BC_STAT.HELD_OUT n)
def State.strEn (s : State) (t : Nat) : Bool := s.bit (R.STR_CFG.EN t)
def State.monitor (s : State) (n : Nat) : Bool := s.get (R.GSC_STAT.STATE n) == 0

/-- A usable cell (R285). -/
def State.usable (s : State) (n : Nat) : Bool :=
  (s.stringOf n).isSome && s.admitted n && s.monitor n && 1 ≤ s.balState n && s.balState n ≤ 3

def State.countCells (s : State) (t : Nat) (f : Nat → Bool) : Nat :=
  (lanes64.filter (fun n => bitAt (s.members t) n && f n)).length

def State.usableCount (s : State) (t : Nat) : Nat := s.countCells t s.usable

/-- Check STRING_SHORT and RESERVE_LOW of every enabled string while in Run (R289). -/
def checkStrings (s : State) : State :=
  s.each (List.range 8) (fun t s =>
    let act := s.inState [.run] && s.strEn t
    let u := s.usableCount t
    let r := s.countCells t (fun n => s.usable n && !s.heldOut n)
    let short := act && u < s.get (R.STR_CFG.N_REQ t)
    let low := act && r < s.get (R.STR_CFG.N_REQ t) + s.get (R.STR_CFG.K_MIN t)
    let old := s.str t
    let s := s.modStr t (fun x => { x with short := short, low := low })
    let l := (if short && !old.short then [Src.STR_STRING_SHORT t] else [])
      ++ (if low && !old.low then [Src.STR_RESERVE_LOW t] else [])
    raiseAll l s)

/-- Put a cell in a balancer state; a bypass command kept since Run ends (R284, R286). -/
def setBal (n st : Nat) (s : State) : State :=
  (s.set (R.BC_STAT.STATE n) st).modCell n (fun c => { c with keepCmd := none })

/-- Place a cell in OPENING (R286, R290): the first 0xC3 frame is the next one. -/
def openCell (n : Nat) (s : State) : State :=
  setBal n 2 (s.modCell n (fun c => { c with since := s.frame + 1 }))

/-- Place a cell in CLOSING (R286, R290): the first 0x3C frame is the next one. -/
def closeCell (n : Nat) (s : State) : State :=
  setBal n 4 (s.modCell n (fun c => { c with since := s.frame + 1 }))

/-- The cells of a string wanted in use, OPENING and IN_USE counted (R288). -/
def State.wantedCount (s : State) (t : Nat) : Nat :=
  s.countCells t (fun n => s.usable n && (s.balState n == 2 || s.balState n == 3))

/-- The reserve rule wants this cell in use (R288). -/
def State.wants (s : State) (n : Nat) : Bool :=
  match s.stringOf n with
  | none => false
  | some t =>
    !s.heldOut n && s.strEn t && (!s.bit (R.STR_CFG.RESERVE_MODE t) || s.wantedCount t < s.get (R.STR_CFG.N_REQ t))

/-- A cell returned to MONITOR (R277, R287). -/
def cellBack (n : Nat) (s : State) : State :=
  if s.inState [.run] && !s.standby then
    if s.balState n == 3 && !s.headClosed n then s
    else if s.balState n == 1 || s.balState n == 4 || s.balState n == 3 then
      if s.wants n then openCell n s else setBal n 1 s
    else s
  else s

/-- A cell's lane leaves ADMITTED, or it leaves its string (R286, R291). -/
def excludeCell (n : Nat) (s : State) : State :=
  checkStrings ((setBal n 0 s).set (R.BC_STAT.HELD_OUT n) 0)

/-- A member of an enabled string whose lane is ADMITTED (R286). -/
def State.inString (s : State) (n : Nat) : Bool :=
  s.admitted n && (match s.stringOf n with | some t => s.strEn t | none => false)

/-- A cell that becomes a member, enabled and ADMITTED enters PARKED (R286); in Run or Safe it is admitted live and held
out unless AUTO_INSERT is 1 (R292), and a hot string then opens it (R288). -/
def enterString (n : Nat) (s : State) : State :=
  if s.inString n && s.balState n == 0 then
    let s := setBal n 1 s
    if s.inState [.run, .safe] && !s.bit R.BAL_CTRL.AUTO_INSERT then s.set (R.BC_STAT.HELD_OUT n) 1
    else if s.inState [.run] && !s.standby && s.usable n
        && (match s.stringOf n with | some t => !s.bit (R.STR_CFG.RESERVE_MODE t) | none => false) then openCell n s
    else s
  else s

/-- Membership or the enable of a string has been written: its cells take the states that R286 gives them. -/
def resettleCells (s : State) : State :=
  s.each lanes64 (fun n s => if s.inString n then enterString n s else if s.balState n = 0 then s else excludeCell n s)

/-! ### Supervisor, R260 to R277 -/

/-- The bypass fields that ask for this cell's bypass, under the present policy (R263). -/
def State.asksBypass (s : State) (n : Nat) : Bool :=
  (bitList 10 (s.gate n).asks).any (fun i => bitAt (s.get R.GS_POLICY.SC_BYPASS + 2 * s.get R.GS_POLICY.CAPOV_BYPASS
    + 4 * s.get R.GS_POLICY.BACKSTOP_BYPASS + 8 * s.get R.GS_POLICY.OTHER_BYPASS + 16 * s.get R.GS_POLICY.UV_BYPASS
    + 64 * s.get R.GS_POLICY.BOOTUV_BYPASS + 256 * s.get R.GS_POLICY.TEMP_BYPASS + 512 * s.get R.GS_POLICY.TLM_BYPASS) i)

/-- Every edge of the cell leaves the frames not yet sent (R261 step 1). -/
def dropEdges (n : Nat) (s : State) : State := s.modLink n (fun l => { l with edges := [] })

/-- Note the first cause since the return to MONITOR (R280): source, gate, cause, frame. -/
def noteFirst (n src gate cause : Nat) (s : State) : State :=
  if s.get (R.GSC_FIRST.SOURCE n) = 0 then
    (((s.set (R.GSC_FIRST.SOURCE n) src).set (R.GSC_FIRST.GATE n) gate).set (R.GSC_FIRST.CAUSE n) cause).set
      (R.GSC_FIRST.SEQ n) (s.frame % 256)
  else s

/-- Leave MONITOR for a state (R260). -/
def setSup (n st : Nat) (s : State) : State :=
  let s := if s.monitor n then s.set R.GS_STAT.LAST_CELL n else s
  s.set (R.GSC_STAT.STATE n) st

/-- The gates of a mask join OFF_GATES. -/
def offGates (n mask : Nat) (s : State) : State :=
  s.set (R.GSC_STAT.OFF_GATES n) (Nat.lor (s.get (R.GSC_STAT.OFF_GATES n)) mask)

/-- The cell is isolated whole (R261 step 4). -/
def holdWhole (n : Nat) (s : State) : State := s.modGate n (fun g => { g with whole := true })

/-- Enter ISOLATED (R260, R261 step 4): the close command goes out where a bypass field asks for it; a clear in progress
fails (R277). -/
def isolate (n : Nat) (s : State) : State :=
  let clearing := s.get (R.GSC_STAT.STATE n) == 3
  let s := if s.get (R.GSC_STAT.STATE n) == 2 then s else s.inc (R.GSC_COUNTS.ISOLATIONS n)
  let s := (setSup n 2 s).modGate n (fun g => { g with timer := false, clearPhase := 0, isoAt := some s.frame })
  let s := if s.asksBypass n then
      let s := s.set (R.GSC_STAT.BYPASS_REQ n) 1
      if s.balState n == 2 || s.balState n == 3 then closeCell n s else s
    else s
  let s := if clearing then cellRecovery n false (raise (Src.GSC_CLEAR_REFUSED n) s) else s
  checkStrings s

/-- A cause that asks for policy bit `b` acts on the cell (R263). -/
def ask (n b : Nat) (s : State) : State := s.modGate n (fun g => { g with asks := Nat.lor g.asks (2 ^ b) })

/-- A Black set in the decision cycle, every fitted gate off, and ISOLATED (R262, R267, R272). -/
def isolateBlack (n : Nat) (s : State) : State :=
  isolate n (holdWhole n (dropEdges n (offGates n (s.fitted n) (requestUrgent n .black s))))

/-- A targeted hard-off set for one leg, and ISOLATED with that leg held off (R270 scope leg). A cell in SEQUENCE leaves it with the Black set of its running
delay only (R260, R261 step 3; log 92). -/
def isolateLeg (n g : Nat) (s : State) : State :=
  let m := Nat.land (s.fitted n) (legMask g)
  let s := requestUrgent n (.targeted m false) s
  let s := s.modLink n (fun l => { l with
    edges := l.edges.filter (fun e => !bitAt m e.gate) })
  if s.get (R.GSC_STAT.STATE n) = 1 then offGates n m s else isolate n (offGates n m s)

/-- The sequence of R261 for gate g of a cell in MONITOR, and R263 for one already in SEQUENCE. -/
def scSequence (n g : Nat) (s : State) : State :=
  let m := Nat.land (s.fitted n) (legMask g)
  let s := ask n 0 s
  let s := requestUrgent n (.targeted m true) s
  let s := offGates n m (dropEdges n s)
  let s := setSup n 1 s
  if s.get (R.GSC_CFG.PARTNER_DELAY n) = 0 then isolateBlack n s
  else checkStrings (s.modGate n (fun x => { x with timer := true }))

/-- A further Scarlet set, or a Scarlet set that is no OC of a fitted gate (R262, R263). `bit` is its policy bit. -/
def scarletBlack (n b : Nat) (s : State) : State := isolateBlack n (ask n b s)

/-- The cell returns to MONITOR (R277 step 4). -/
def returnMonitor (n : Nat) (s : State) : State :=
  let s := (((s.set (R.GSC_STAT.STATE n) 0).set (R.GSC_STAT.OFF_GATES n) 0).set (R.GSC_STAT.BYPASS_REQ n) 0).inc
    (R.GSC_COUNTS.CLEARS n)
  let s := (((s.set (R.GSC_FIRST.SOURCE n) 0).set (R.GSC_FIRST.GATE n) 0xF).set (R.GSC_FIRST.CAUSE n) 0).set (R.GSC_FIRST.SEQ n) 0
  let s := s.modGate n (fun g => { g with asks := 0, clearPhase := 0, isoAt := none, whole := false })
  cellRecovery n true (checkStrings (cellBack n s))

/-- The supervisor has raised a cause of the cell in this core cycle (R13, R277). -/
def State.newCause (s : State) (n : Nat) : Bool :=
  (Src.LKN_TLM_LOST n :: (List.range 10).map (fun i => ⟨7, i, n⟩)).any (fun r => (leafOf r).any (fun f => s.cyc.sets.contains f.key))

/-- A clear may be accepted (R277 step 1). -/
def State.clearable (s : State) (n : Nat) : Bool :=
  s.get (R.GSC_STAT.STATE n) == 2 && s.get (R.GSC_STAT.UV_GATES n) == 0 && !(s.gate n).warnAct && !(s.gate n).tripAct
    && !s.standby && !s.newCause n

/-- A clear of a cell (R277): accepted into CLEARING, or refused with CLEAR_REFUSED. -/
def clearCell (n : Nat) (s : State) : State :=
  if s.clearable n then
    (s.set (R.GSC_STAT.STATE n) 3).modGate n (fun g => { g with clearPhase := 1, clearAt := s.frame })
  else raise (Src.GSC_CLEAR_REFUSED n) s

/-! ### Admission and loss, R219, R280, R292 -/

/-- The supervisor and the balancer take a cell at its admission (R262, R266, R268, R280, R292, R297). -/
def admitCell (n : Nat) (s : State) : State :=
  let d := (s.link n).desc
  let s := s.set (R.LKN_STAT.ADMIT n) 2
  let s := (s.set (R.GSC_CFG.VGS_MASK n) (descGates d)).set (R.GSC_CFG.PARTNER_DELAY n) (min 8191 ((11 * descSoft d + 9) / 10))
  let s := (s.set (R.GSC_UV.UV_HS n) (s.get R.GS_UVDEF.UV_HS_DEF)).set (R.GSC_UV.UV_LS n) (s.get R.GS_UVDEF.UV_LS_DEF)
  let s := s.modGate n (fun g => { g with under := [], restore := [], low := [], lowOff := [], warnOn := 0, warnOff := 0, tripOn := 0, tripOff := 0, bootEval := 0 })
  let s := s.modLink n (fun l => { l with admitted := l.digest, dAdmit := s.get (R.LKN_DELAY.D n) })
  let s := s.modCell n (fun c => { c with admitSince := s.frame })
  let s := s.each (List.range 6) (fun l s => s.setBit (R.LEG_CFG.REFRESH (6 * n + l)) (bitAt (descBootLegs d) l))
  let s := ledgerAdmit n (s.link n).digest d (s.get (R.LKN_STAT.ID_RESULT n) == 2) s
  let s := enterString n s
  checkStrings (if s.mainOwner && s.inState [.armed, .run, .safe] && !(s.cell n).split then own n s else s)

/-- The lane leaves UP (R219): DOWN, with the cell excluded and the link's per-lane state dropped. -/
def linkDown (n : Nat) (s : State) : State :=
  let s := ((s.set (R.LKN_STAT.ADMIT n) 0).set (R.LKN_STAT.ID_RESULT n) 0).set (R.LKN_DELAY.D n) 0
  let s := disown n s
  let s := dropVerify n s
  let s := s.modLink n (fun l => { l with up := [], invalidRun := 0, rtSum := 0, rtCount := 0, dFormed := false, dPending := none, dBad := false, descReq := false, segs := [], refetch := false, desc := [], admitted := [], urgQ := [], urgEnd := 0, urgSlot := 0, urgChars := 0, cut := false, edges := [], levels := 0 })
  let s := if s.get (R.LKN_PARAM.STATUS n) = 1 then raise (Src.LKN_PARAM_FAIL n) (s.set (R.LKN_PARAM.STATUS n) 3) else s
  let s := s.modGate n (fun g => { g with oc := none, capOv := none, scarOc := false, scarCap := false })
  excludeCell n s

/-- A lane enters REFUSED (R219): the cell keeps ENABLE = 0 and its bypass. -/
def refuseCell (n : Nat) (s : State) : State :=
  excludeCell n (disown n (s.set (R.LKN_STAT.ADMIT n) 3))

end Sys2Proof.Machine
end

