-- ==== Sys2Proof/Machine/Coding.lean ====
section
/-!
DEFINITION. Machine/Coding.lean: line codes. The 8b/10b code of the cell lanes (06_cell_lanes.md, R155 and R156), and the PAM4 symbols and 66-bit
blocks of the spine lanes (15_spine_groups.md, R411 and R412). A code group is written abcdei fghj, a in the highest bit (log 86).
-/
namespace Sys2Proof.Machine

/-! ### 8b/10b, R155 -/

/-- A character of a cell lane: data, or one of the four control characters of R156. -/
inductive Sym where
  | data (b : Byte)
  | k28_5 | k28_1 | k28_3 | k27_7
  deriving DecidableEq, Repr

/-- abcdei of D0 to D31 at negative disparity. -/
def sixBits : List Nat :=
  [0b100111, 0b011101, 0b101101, 0b110001, 0b110101, 0b101001, 0b011001, 0b111000]
    ++ [0b111001, 0b100101, 0b010101, 0b110100, 0b001101, 0b101100, 0b011100, 0b010111]
    ++ [0b011011, 0b100011, 0b010011, 0b110010, 0b001011, 0b101010, 0b011010, 0b111010]
    ++ [0b110011, 0b100110, 0b010110, 0b110110, 0b001110, 0b101110, 0b011110, 0b101011]

/-- fghj of D.0 to D.7 at negative disparity. -/
def fourBits : List Nat := [0b1011, 0b1001, 0b0101, 0b1100, 0b1101, 0b1010, 0b0110, 0b1110]

/-- The six bits of data x at a running disparity (true: positive). -/
def sixAt (rd : Bool) (x : Nat) : Nat :=
  let v := sixBits.getD x 0
  if rd && (popCount 6 v != 3 || x == 7) then 63 - v else v

/-- The four bits of data x.y at the disparity that its six bits leave. -/
def fourAt (rd : Bool) (x y : Nat) : Nat :=
  let v := if y = 7 ∧ (if rd then x = 11 ∨ x = 13 ∨ x = 14 else x = 17 ∨ x = 18 ∨ x = 20) then 0b0111 else fourBits.getD y 0
  if rd && (popCount 4 v != 2 || y == 3) then 15 - v else v

/-- The running disparity after six or four bits: `mid` is the balanced sub-block that leaves it positive. -/
def rdAfter (k mid v : Nat) (rd : Bool) : Bool :=
  if 2 * popCount k v > k ∨ v = mid then true
  else if 2 * popCount k v < k ∨ v = 2 ^ k - 1 - mid then false
  else rd

def rdSix (v : Nat) (rd : Bool) : Bool := rdAfter 6 0b000111 v rd
def rdFour (v : Nat) (rd : Bool) : Bool := rdAfter 4 0b0011 v rd

/-- The running disparity after a code group. -/
def rdGroup (g : Nat) (rd : Bool) : Bool := rdFour (g % 16) (rdSix (g / 16) rd)

/-- The code group of a character (R155, R156). -/
def groupOf (rd : Bool) (c : Sym) : Nat :=
  let k (v : Nat) : Nat := if rd then 1023 - v else v
  match c with
  | .k28_5 => k 0b0011111010
  | .k28_1 => k 0b0011111001
  | .k28_3 => k 0b0011110011
  | .k27_7 => k 0b1101101000
  | .data b =>
    let x := b.toNat % 32
    let v := sixAt rd x
    v * 16 + fourAt (rdSix v rd) x (b.toNat / 32)

/-- The code groups of characters from a running disparity on. -/
def groupsOf : Bool → List Sym → List Nat
  | _, [] => []
  | rd, c :: cs => groupOf rd c :: groupsOf (rdGroup (groupOf rd c) rd) cs

/-- The character that a code group stands for at a running disparity; none for a code error (R155): a group in neither column, a disparity error, or a
control character that is not in the table of R156. -/
def symOf (rd : Bool) (g : Nat) : Option Sym :=
  match [Sym.k28_5, .k28_1, .k28_3, .k27_7].find? (fun c => groupOf rd c == g) with
  | some c => some c
  | none =>
    match (List.range 32).find? (fun x => sixAt rd x == g / 16) with
    | none => none
    | some x =>
      match (List.range 8).find? (fun y => fourAt (rdSix (g / 16) rd) x y == g % 16) with
      | none => none
      | some y => some (.data (BitVec.ofNat 8 (32 * y + x)))

/-- Read code groups from a running disparity on; after a code error the disparity is that of the group received. -/
def readGroups : Bool → List Nat → List (Option Sym)
  | _, [] => []
  | rd, g :: gs => symOf rd g :: readGroups (rdGroup g rd) gs

/-- A group with its pair swapped (R159). -/
def swapGroup (g : Nat) : Nat := 1023 - g % 1024

/-- The group holds the 7-bit comma of K28.5 and K28.1 (R156). -/
def isComma (g : Nat) : Bool := g / 8 == 0b0011111 || g / 8 == 0b1100000

/-- The data characters, where there is nothing else. -/
def allData : List (Option Sym) → Option (List Byte)
  | [] => some []
  | some (.data b) :: cs => (allData cs).map (fun l => b :: l)
  | _ :: _ => none

/-- The data of a set or frame that begins with a control character. -/
def dataAfter (k : Sym) (cs : List (Option Sym)) : Option (List Byte) :=
  match cs with
  | c :: rest => if c = some k then allData rest else none
  | [] => none

/-- Code errors among the characters. -/
def codeErrorsIn (cs : List (Option Sym)) : Nat := (cs.filter (fun c => c.isNone)).length

/-! ### PAM4, R411 -/

/-- The level of a pair of bits, the first in the upper position: 00, 01, 11, 10 are levels 0 to 3. -/
def grayLevel (b1 b0 : Bool) : Nat := if b1 then (if b0 then 2 else 3) else b2n b0

/-- The pair of bits of a level. -/
def grayBits (l : Nat) : List Bool := [2 ≤ l, l == 1 || l == 2]

/-- The levels of a stream of bits, two to the symbol. -/
def grayLevels : List Bool → List Nat
  | a :: b :: r => grayLevel a b :: grayLevels r
  | _ => []

/-- Precoding: p_j = (g_j − p_(j−1)) mod 4. -/
def precode : Nat → List Nat → List Nat
  | _, [] => []
  | p, g :: gs => let q := (g + 4 - p % 4) % 4; q :: precode q gs

/-- Its inverse: g_j = (p_j + p_(j−1)) mod 4. -/
def unprecode : Nat → List Nat → List Nat
  | _, [] => []
  | p, q :: qs => (q + p) % 4 :: unprecode q qs

/-- An inverted pair turns level l into level 3 − l. -/
def invertLevels (inv : Bool) (l : List Nat) : List Nat := if inv then l.map (fun x => 3 - x % 4) else l

/-! ### 66-bit blocks, R412 -/

/-- The bits of bytes, lowest bit of the first byte first. -/
def bitsOf (l : List Byte) : List Bool := l.flatMap (fun b => (List.range 8).map (fun i => bitAt b.toNat i))

/-- The value of bits, the first lowest. -/
def valOf : List Bool → Nat
  | [] => 0
  | b :: bs => b2n b + 2 * valOf bs

/-- The self-synchronous scrambler x^58 + x^39 + 1 on its last 58 output bits, the newest lowest. -/
def scramble : Nat → List Bool → List Bool
  | _, [] => []
  | st, d :: ds => let b := (d != (bitAt st 38 != bitAt st 57)); b :: scramble ((2 * st + b2n b) % 2 ^ 58) ds

/-- Its inverse, on the last 58 bits received. -/
def descramble : Nat → List Bool → List Bool
  | _, [] => []
  | st, b :: bs => (b != (bitAt st 38 != bitAt st 57)) :: descramble ((2 * st + b2n b) % 2 ^ 58) bs

/-- A block: data of 8 bytes, or control with its type and 7 bytes. -/
inductive Block where
  | data (b : List Byte)
  | control (typ : Nat) (b : List Byte)
  deriving DecidableEq, Repr

/-- The types of R412; terminate blocks carry 0 to 7 bytes, in this order. -/
def blockTypes : List Nat := [0x1E, 0x2D, 0x33, 0x55, 0x66, 0x78, 0x87, 0x99, 0xAA, 0xB4, 0xCC, 0xD2, 0xE1, 0xFF]

/-- The 66 bits of a block: the sync header, 01 for data and 10 for control, and the scrambled payload. -/
def blockBits (scr : Nat) (b : Block) : List Bool :=
  match b with
  | .data l => [false, true] ++ scramble scr (bitsOf l)
  | .control t l => [true, false] ++ scramble scr (bitsOf (leBytes 1 t ++ l))

/-- The block that 66 bits hold; none for a code error: another header, or a control block of another type. -/
def blockOf (scr : Nat) (l : List Bool) : Option Block :=
  let v := valOf (descramble scr ((l.drop 2).take 64))
  match l.take 2 with
  | [false, true] => some (.data (leBytes 8 v))
  | [true, false] => if blockTypes.contains (v % 256) then some (.control (v % 256) (leBytes 7 (v / 256))) else none
  | _ => none

/-- The 33 levels of a block at the transmit pins: precoded after level `prev` where precoding is on, inverted where the pair is. -/
def blockLevels (pre inv : Bool) (prev scr : Nat) (b : Block) : List Nat :=
  let g := grayLevels (blockBits scr b)
  invertLevels inv (if pre then precode prev g else g)

/-- The block that 33 levels at the receive pins hold. -/
def readBlock (pre inv : Bool) (prev scr : Nat) (l : List Nat) : Option Block :=
  let p := invertLevels inv l
  blockOf scr ((if pre then unprecode (if inv then 3 - prev % 4 else prev) p else p).flatMap grayBits)

end Sys2Proof.Machine
end

