-- ==== Sys2Proof/Machine/Prbs.lean ====
section
/-!
DEFINITION. Machine/Prbs.lean: the pattern generator and checker of a lane in TEST (06_cell_lanes.md, R175 to R178; 15_spine_groups.md, R429). Lanes 0 to
63 are cell lanes, 64 to 67 the spine lanes with lane code 0 to 3.
-/
namespace Sys2Proof.Machine

/-! ### The lane's registers -/

/-- The test fields of a lane, and the source that reports a loss (R185, R432). A spine lane has no LOOP field (R429). -/
structure TestRegs where
  state : Fld
  gen : Fld
  chk : Fld
  pattern : Fld
  lock : Fld
  rate : Fld
  err : Fld
  lo : Fld
  hi : Fld
  inv : Fld
  loss : Src

def testRegs (n : Nat) : TestRegs :=
  if n < 64 then
    ⟨R.LN_STAT.STATE n, R.LN_TEST.PRBS_GEN n, R.LN_TEST.PRBS_CHK n, R.LN_TEST.PATTERN n, R.LN_TEST.PRBS_LOCK n, R.LN_INJECT.INJ_RATE n, R.LN_PRBS_ERR n, R.LN_PRBS_BITS_LO n, R.LN_PRBS_BITS_HI n, R.LN_STAT.RX_INV n, Src.LN_PRBS_LOSS n⟩
  else
    let i := n - 64
    ⟨R.SL_STAT.STATE i, R.SL_TEST.PRBS_GEN i, R.SL_TEST.PRBS_CHK i, R.SL_TEST.PATTERN i, R.SL_TEST.PRBS_LOCK i, R.SL_INJECT.INJ_RATE i, R.SL_PRBS_ERR i, R.SL_PRBS_BITS_LO i, R.SL_PRBS_BITS_HI i, R.SL_STAT.RX_INV i, Src.SL_PRBS_LOSS i⟩

def State.prbsOf (s : State) (n : Nat) : Prbs := Tab.get {} s.prbs n
def State.modPrbs (s : State) (n : Nat) (f : Prbs → Prbs) : State := { s with prbs := Tab.modify {} s.prbs n f }

/-- A lane's loopback (R178). -/
def State.loop (s : State) (n : Nat) : Nat := if n < 64 then s.get (R.LN_TEST.LOOP n) else 0

/-- The generator and the checker of a lane run: in TEST, and while no load is shed (R178, R465). -/
def State.genRuns (s : State) (n : Nat) : Bool :=
  s.get (testRegs n).state == 7 && s.bit (testRegs n).gen && !s.bit R.TH_STAT.SHEDDING
def State.chkRuns (s : State) (n : Nat) : Bool :=
  s.get (testRegs n).state == 7 && s.bit (testRegs n).chk && !s.bit R.TH_STAT.SHEDDING

/-! ### Sequences, R175 -/

/-- The two exponents of each pattern: x^7 + x^6 + 1, x^15 + x^14 + 1, x^23 + x^18 + 1 and x^31 + x^28 + 1. -/
def taps (pattern : Nat) : Nat × Nat :=
  if pattern = 0 then (7, 6) else if pattern = 1 then (15, 14) else if pattern = 2 then (23, 18) else (31, 28)

/-- The bit of a sequence that follows the bits `h`, the newest lowest. -/
def nextBit (pattern h : Nat) : Bool := bitAt h ((taps pattern).1 - 1) != bitAt h ((taps pattern).2 - 1)

def pushBit (h : Nat) (b : Bool) : Nat := (2 * h + b2n b) % 2 ^ 31

/-! ### Generator, R175 to R177 -/

/-- The generator starts at a place of its sequence that the spec does not give (log 6): a free value, never all zeros. -/
def startGen (n : Nat) (s : State) : State :=
  let (v, s) := s.draw
  let k := (taps (s.get (testRegs n).pattern)).1
  s.modPrbs n (fun p => { p with gen := 1 + v % (2 ^ k - 1), sent := 0, one := 0, late := false })

/-- The bit that the generator sends next, with its inversions (R177): one bit in every 2^(n + 6) where INJ_RATE is n; and for each INJ_ONE a bit from the next
character boundary on, which gives way to a rate injection. -/
def genBit (pattern rate : Nat) (p : Prbs) : Bool × Prbs :=
  let b := nextBit pattern p.gen
  let byRate := rate != 0 && p.sent % 2 ^ (rate + 6) == 2 ^ (rate + 6) - 1
  let due := decide (p.one ≠ 0) && (p.late || p.sent % 10 == 0)
  let one := if due && !byRate then p.one - 1 else p.one
  (b != (byRate || due), { p with gen := pushBit p.gen b, sent := p.sent + 1, one := one, late := due && decide (one ≠ 0) })

/-- The next `k` bits of the generator. -/
def genBits (pattern rate : Nat) : Nat → Prbs → List Bool × Prbs
  | 0, p => ([], p)
  | k + 1, p =>
    let (b, p) := genBit pattern rate p
    let (l, p) := genBits pattern rate k p
    (b :: l, p)

/-- INJ_ONE (R177): only while PRBS_GEN is set; the generator of a device that sheds load stands still (R465). -/
def injectOne (n : Nat) (s : State) : State :=
  if s.bit (testRegs n).gen ∧ !s.bit R.TH_STAT.SHEDDING then s.modPrbs n (fun p => { p with one := p.one + 1 }) else s

/-! ### Checker, R176 -/

/-- The checker seeds itself from the next bits. -/
def reseed (p : Prbs) : Prbs := { p with seeded := 0, run := 0, errs := [], checked := 0 }

/-- One bit arrives before lock: it fills the seed, and then matches the prediction or starts the run of 64 again. -/
def seekBit (n pattern : Nat) (b : Bool) (s : State) : State :=
  let p := s.prbsOf n
  let k := (taps pattern).1
  if p.seeded < k then s.modPrbs n (fun p => { p with hist := pushBit p.hist b, seeded := p.seeded + 1 })
  else
    let run := if b = nextBit pattern p.hist then p.run + 1 else 0
    let s := s.modPrbs n (fun p => { p with hist := pushBit p.hist b, run := run })
    if run ≥ 64 then (s.set (testRegs n).lock 1).modPrbs n (fun p => { p with errs := [], checked := 0 }) else s

/-- One bit is checked: it counts, and so does its error; 64 errors among the last 1,024 bits lose the lock. -/
def checkBit (n pattern : Nat) (b : Bool) (s : State) : State :=
  let p := s.prbsOf n
  let r := testRegs n
  let want := nextBit pattern p.hist
  let errs := (if b = want then [] else [p.checked]) ++ p.errs.filter (fun i => p.checked < i + 1024)
  let total := satAdd (2 ^ 48 - 1) (s.get r.lo + 2 ^ 32 * p.hi) 1
  let s := ((s.set r.lo total).modCyc (fun c => { c with counts := r.lo.key :: c.counts })).modPrbs n
    (fun p => { p with hist := pushBit p.hist want, errs := errs, checked := p.checked + 1, hi := total / 2 ^ 32 })
  let s := if b = want then s else s.inc r.err
  if errs.length ≥ 64 then raise r.loss ((s.set r.lock 0).modPrbs n reseed) else s

/-- The checker's input takes bits, oldest first. -/
def checkBits (n : Nat) (l : List Bool) (s : State) : State :=
  if s.chkRuns n then
    let pattern := s.get (testRegs n).pattern
    s.each l (fun b s => if s.bit (testRegs n).lock then checkBit n pattern b s else seekBit n pattern b s)
  else s

/-! ### A lane in TEST -/

/-- The bits that the receive pair gives: bits of a cell lane, levels of a spine lane, Gray mapped with precoding off (R429). -/
def State.rxBits (s : State) (n : Nat) (l : List Nat) : List Bool :=
  let inv := s.bit (testRegs n).inv
  if n < 64 then l.map (fun b => (b % 2 == 1) != inv) else (invertLevels inv l).flatMap grayBits

/-- Bits pass through a lane in TEST (R175 to R178): `sent` from its generator, while it runs, and those of the receive pair. A near-end loopback takes the
generator's bits to the checker and leaves the transmit pins idle; far-end loopback sends the bits received. -/
def testBits (n sent : Nat) (l : List Nat) (s : State) : State :=
  if s.get (testRegs n).state = 7 then
    let rx := s.rxBits n l
    let (g, p) := if s.genRuns n then genBits (s.get (testRegs n).pattern) (s.get (testRegs n).rate) sent (s.prbsOf n) else ([], s.prbsOf n)
    let near := s.loop n = 1 ∨ s.loop n = 2
    let tx := if s.loop n = 3 then rx else if near then [] else g
    checkBits n (if near then g else rx) (s.modPrbs n (fun _ => { p with tx := tx }))
  else s

/-- The pattern fields of a lane have been written: a generator that is switched on, or given another pattern, starts; so does the checker. -/
def patternWritten (n : Nat) (old s : State) : State :=
  let r := testRegs n
  let other := s.get r.pattern != old.get r.pattern
  let s := if s.bit r.gen && (!old.bit r.gen || other) then startGen n s else s
  if s.bit r.chk && (!old.bit r.chk || other) then (s.set r.lock 0).modPrbs n reseed
  else if !s.bit r.chk then s.set r.lock 0 else s

/-- A lane leaves TEST. -/
def endPattern (n : Nat) (s : State) : State :=
  let r := testRegs n
  ((((s.set r.gen 0).set r.chk 0).set r.pattern 0).set r.lock 0).modPrbs n (fun p => { reseed p with one := 0, late := false, tx := [] })

/-- A read of the bit count latches bits 47:32 for its reader (R176, R541). -/
def readPrbsLo (n : Nat) (host : Bool) (s : State) : State :=
  if host then s.modPrbs n (fun p => { p with hiHost := p.hi }) else s.set (testRegs n).hi (s.prbsOf n).hi

/-- CNT_CLR of the PRBS counts (R183, R432): the counts keep what this core cycle has added (R185). -/
def clearPrbs (n : Nat) (s : State) : State :=
  ((s.clearCount (testRegs n).err).clearCount (testRegs n).lo).modPrbs n (fun p => { p with hi := 0 })

end Sys2Proof.Machine
end

