-- ==== Sys2Proof/Machine/Lanes.lean ====
section
/-!
DEFINITION. Machine/Lanes.lean: cell lane bring-up, loss, sparing and test modes (06_cell_lanes.md).
-/
namespace Sys2Proof.Machine

/-! ### Shared steps -/

def State.laneState (s : State) (n : Nat) : Nat := s.get (R.LN_STAT.STATE n)
/-- A lane is enabled, and this start has not disabled it for want of repair (R173, R505). -/
def State.laneEn (s : State) (n : Nat) : Bool :=
  s.bit (R.LN_CTRL.EN n) && !bitAt s.sec.deadLanes n && !bitAt s.sec.deadLanes (s.get (R.LN_STAT.RX_PAD n))

/-- The orientation that MAP holds (R182): 0 undecided, 1 straight, 2 reversed. -/
def State.map (s : State) (q : Nat) : Nat := s.get (R.QUAD_CFG.MAP q)

/-- The mirrored place in a quad (R153). -/
def mirror (n : Nat) : Nat := n / 4 * 4 + (3 - n % 4)

/-- The lane that a receive pad pair serves. -/
def State.laneOfPad (s : State) (pad : Nat) : Nat := if s.map (pad / 4) = 2 then mirror pad else pad

def State.inAttempt (s : State) (n : Nat) : Bool := s.laneState n == 2 || s.laneState n == 3

/-- Nothing is seen on the receive side of a lane: its flags read 0 from the start of an attempt, and from the end of one or a loss, until its steps pass
again (DESIGN CHOICE, log 87). -/
def dropReceive (n : Nat) (s : State) : State :=
  ((s.set (R.LN_STAT.SIGNAL n) 0).set (R.LN_STAT.CDR_LOCK n) 0).set (R.LN_STAT.ALIGNED n) 0

/-- The receive steps of a lane begin afresh, with the polarity that RX_POL gives (R159, R163). -/
def freshReceive (n : Nat) (s : State) : State :=
  (dropReceive n (s.setBit (R.LN_STAT.RX_INV n) (s.get (R.LN_CTRL.RX_POL n) == 2))).modLane n
    (fun l => { l with sigSeen := false, commas := 0, invRun := 0, inverted := false, tsuRun := 0, echo := none, tsu2Run := 0 })

/-- Start an attempt (R163): TSD1 is sent, and the receive steps begin afresh; while MAP is undecided, so do those of the mirrored pad pair, which trains for
this lane too, unless it trains for a lane of its own (R161). -/
def startAttempt (n k : Nat) (s : State) : State :=
  let s := (s.set (R.LN_STAT.STATE n) 2).set (R.LN_STAT.ATTEMPT n) k
  let s := if s.map (n / 4) = 0 ∧ !s.inAttempt (mirror n) then freshReceive (mirror n) s else s
  (freshReceive n s).modLane n (fun l => { l with retry := false, startAt := s.ts.tsc })

/-- The lane leaves UP without a loss where it is in UP. -/
def leaveUp (n : Nat) (s : State) : State := if s.up n then linkDown n s else s

/-- A lane takes the state that the device's state gives it (R44, R51, R162, R169): OFF when disabled or while PLL-C is not locked
(R172), Black sets before Configure, RX_ONLY in Slate, otherwise attempt 1. -/
def bringUp (n : Nat) (s : State) : State :=
  let s := leaveUp n s
  if !s.laneEn n then (s.set (R.LN_STAT.STATE n) 0).modLane n (fun l => { l with absent := false, wasLost := false, retry := false })
  else if !s.bit R.CLK_STAT.LOCK_C then s.set (R.LN_STAT.STATE n) 0
  else if s.inState [.slate] then
    (startAttempt n 0 s).set (R.LN_STAT.STATE n) 8
  else if s.inState [.configure, .armed, .run, .safe] then startAttempt n 1 s
  else s.set (R.LN_STAT.STATE n) 1

/-- An attempt fails at a step (R163, R165, R166, R167). The return to STATE 6 after a retry is no new entry to ABSENT: it does not set the leaf again (DESIGN
CHOICE, log 88). -/
def failAttempt (n stage : Nat) (s : State) : State :=
  let s := dropReceive n ((s.set (R.LN_STAT.FAIL_STAGE n) stage).inc (R.LN_COUNTS.FAILED_ATTEMPTS n))
  if s.get (R.LN_STAT.ATTEMPT n) < 16 then s.set (R.LN_STAT.STATE n) 5
  else
    let retry := (s.lane n).retry
    let s := (s.set (R.LN_STAT.STATE n) 6).modLane n (fun l => { l with absent := true, retry := false })
    if retry then s else raise (Src.LN_ABSENT n) s

/-- The signal falls in RX_ONLY: steps 1 to 4 are passed again, without a time limit (R169). -/
def rxOnlyLost (n : Nat) (s : State) : State :=
  if s.laneState n = 8 then
    (dropReceive n s).modLane n (fun l => { l with commas := 0 })
  else s

/-- The step of R163 not yet passed. -/
def State.stageOf (s : State) (n : Nat) : Nat :=
  if s.laneState n = 3 then 6
  else if !s.bit (R.LN_STAT.SIGNAL n) then 1
  else if !s.bit (R.LN_STAT.CDR_LOCK n) then 2
  else if s.bit (R.LN_STAT.ALIGNED n) then 5
  else if (s.lane n).inverted then 4 else 3

/-- The exchange completes (R163 step 6): UP, with identification starting (R219) and the port checked (R207). -/
def laneUp (n : Nat) (s : State) : State :=
  let back := (s.lane n).wasLost || (s.lane n).absent
  let s := (s.set (R.LN_STAT.STATE n) 4).modLane n (fun l => { l with wasLost := false, absent := false, retry := false, codeErrs := 0 })
  let s := (s.set (R.LKN_STAT.ADMIT n) 1).set (R.LKN_STAT.ID_RESULT n) 0
  let s := s.modLink n (fun l => { l with descReq := true, segs := [], fetchAt := s.frame, desc := [], refetch := false })
  let wrong := s.get (R.LN_STAT.PORT n) != s.pos % 2
  let s := if wrong then s.set (R.LKN_STAT.ADMIT n) 3 else s
  raiseAll ((if back then [Src.LN_RETRAINED n] else []) ++ (if wrong then [Src.LKN_PORT_WRONG n] else [])) s

/-- A lane in UP is lost (R170). -/
def loseLane (n : Nat) (s : State) : State :=
  if s.up n then
    let s := raise (Src.LN_LOST n) (s.inc (R.LN_COUNTS.LOSSES n))
    let s := linkDown n s
    (startAttempt n 1 s).modLane n (fun l => { l with wasLost := true })
  else s

/-! ### Training sets, R158 to R163 -/

def quadLanes (q : Nat) : List Nat := [4 * q, 4 * q + 1, 4 * q + 2, 4 * q + 3]

/-- How an echo relates to its pad pair (R160): 1 straight, 2 reversed, 0 a conflict. -/
def echoKind (pad l : Nat) : Nat :=
  if l / 4 = pad / 4 ∧ l < 64 then (if l % 4 = pad % 4 then 1 else if l % 4 = 3 - pad % 4 then 2 else 0) else 0

/-- The lanes that a local pad pair (1 to 4) of a quad serves, transmit and receive (R173). -/
def State.padLanes (s : State) (q sel : Nat) : List Nat :=
  if sel = 0 then [] else
    (quadLanes q).filter (fun n => n == 4 * q + (sel - 1) || s.get (R.LN_STAT.RX_PAD n) == 4 * q + (sel - 1))

/-- ON_SPARE shows the lanes that the quad's spare serves, once it has calibrated (R174, R183). -/
def showSpare (q : Nat) (s : State) : State :=
  if s.bit (R.QUAD_CFG.SPARE_BUSY q) then s
  else s.each (quadLanes q) (fun n s => s.setBit (R.LN_STAT.ON_SPARE n) ((s.padLanes q (s.get (R.QUAD_CFG.SPARE_SEL q))).contains n))

/-- The quad turns out reversed (R160): the receive side of each lane is that of its mirrored pad pair. -/
def swapReceive (q : Nat) (s : State) : State :=
  let old := s
  showSpare q (s.each (quadLanes q) (fun n s =>
    let m := mirror n
    let s := ((s.set (R.LN_STAT.SIGNAL n) (old.get (R.LN_STAT.SIGNAL m))).set (R.LN_STAT.CDR_LOCK n)
      (old.get (R.LN_STAT.CDR_LOCK m))).set (R.LN_STAT.ALIGNED n) (old.get (R.LN_STAT.ALIGNED m))
    let s := (s.set (R.LN_STAT.RX_INV n) (old.get (R.LN_STAT.RX_INV m))).set (R.LN_STAT.RX_PAD n) m
    let r := old.lane m
    s.modLane n (fun l => { l with sigSeen := r.sigSeen, commas := r.commas, commaPlace := r.commaPlace, invRun := r.invRun, inverted := r.inverted, tsuRun := r.tsuRun, echo := r.echo, tsu2Run := r.tsu2Run })))

/-- What the receiver of a lane reads in code groups, from a running disparity on (R155, R159). -/
def State.readLane (s : State) (n : Nat) (rd : Bool) (gs : List Nat) : List (Option Sym) :=
  readGroups rd (if s.bit (R.LN_STAT.RX_INV n) then gs.map swapGroup else gs)

/-- Characters 1 to 15 of a valid TSU set (R158): character 0 is K28.5, the type is 0x11 or 0x12, and characters 5 to 15 are D21.5. -/
def validTsu (cs : List (Option Sym)) : Option (List Byte) :=
  match dataAfter .k28_5 cs with
  | some bs =>
    if bs.length = 15 ∧ (leAt bs 0 1 = 0x11 ∨ leAt bs 0 1 = 0x12) ∧ bs.drop 4 = List.replicate 11 0xB5 then some bs else none
  | none => none

/-- The set reads as D10.2 (R159): at least 8 of characters 5 to 15. -/
def readsInverted (cs : List (Option Sym)) : Bool := 8 ≤ ((cs.drop 5).filter (fun c => c == some (.data 0x4A))).length

/-- Count a comma toward alignment; 4 consecutive ones at one bit position align the receiver there (R163 steps 3 and 4). -/
def countComma (n place : Nat) (comma : Bool) (s : State) : State :=
  let c := if !comma then 0 else if (s.lane n).commaPlace = place then (s.lane n).commas + 1 else 1
  let s := s.modLane n (fun l => { l with commas := min c 4, commaPlace := place })
  if c ≥ 4 then s.set (R.LN_STAT.ALIGNED n) 1 else s

/-- Polarity (R159): 2 consecutive sets that read as D10.2 invert the receiver, which then realigns. -/
def polarity (n : Nat) (cs : List (Option Sym)) (s : State) : State :=
  let auto := s.get (R.LN_CTRL.RX_POL n) == 0 || s.get (R.LN_CTRL.RX_POL n) == 3
  if auto && !(s.lane n).inverted && readsInverted cs then
    if (s.lane n).invRun + 1 ≥ 2 then
      ((s.setBit (R.LN_STAT.RX_INV n) (!s.bit (R.LN_STAT.RX_INV n))).set (R.LN_STAT.ALIGNED n) 0).modLane n
        (fun l => { l with invRun := 0, inverted := true, commas := 0, tsuRun := 0, tsu2Run := 0 })
    else s.modLane n (fun l => { l with invRun := l.invRun + 1 })
  else s.modLane n (fun l => { l with invRun := 0 })

/-- Training sets that have been sent whole, at a TSC: one each 51.2 ticks from the first TSD1 character of the attempt (R158, R163). -/
def State.setsAt (s : State) (n t : Nat) : Nat := (t - (s.lane n).startAt) * 5 / 256

/-- TSD2 sets sent since READY: the first starts at the next training-set boundary (R163 step 5). -/
def State.tsd2Sent (s : State) (n : Nat) : Nat :=
  s.setsAt n s.ts.tsc - (((s.lane n).readyAt - (s.lane n).startAt) * 5 + 255) / 256

/-- The training set that a lane sends (R158): characters 1 to 15 of TSD1, or in READY of TSD2 with RX_OK. -/
def State.tsdSet (s : State) (n : Nat) : List Byte :=
  let ready := s.laneState n == 3
  leBytes 1 (if ready then 2 else 1) ++ leBytes 1 n ++ leBytes 1 (b2n ready) ++ leBytes 1 s.pos ++ List.replicate 11 0xB5

/-- A map conflict ends the attempt with FAIL_STAGE 5 (R160). -/
def mapConflict (n : Nat) (s : State) : State :=
  if s.inAttempt n then raise (Src.LN_MAP_CONFLICT n) (failAttempt n 5 s) else s

/-- The echo of a pad pair conflicts with its quad (R160). -/
def State.echoConflicts (s : State) (pad l : Nat) : Bool :=
  echoKind pad l == 0 || (s.map (pad / 4) != 0 && s.map (pad / 4) != echoKind pad l)

/-- A receive pad pair is in training or in RX_ONLY: that of a lane in an attempt, under either orientation until MAP is decided (R161). -/
def State.padTrains (s : State) (pad : Nat) : Bool :=
  s.inAttempt (s.laneOfPad pad) || s.laneState (s.laneOfPad pad) == 8 || (s.map (pad / 4) == 0 && s.inAttempt (mirror pad))

/-- Count valid TSU sets with one echo in TRAIN (R163 step 5). -/
def countTsu (pad : Nat) (bs : List Byte) (s : State) : State :=
  let q := pad / 4
  let l := leAt bs 1 1
  if l = 0xFF then
    let n := s.laneOfPad pad
    s.modLane n (fun x => { x with tsuRun := 0, echo := none })
  else
    let kind := echoKind pad l
    let n0 := s.laneOfPad pad
    if s.echoConflicts pad l then mapConflict n0 s
    else
      let s := if s.map q = 0 then
          let s := s.set (R.QUAD_CFG.MAP q) kind
          if kind = 2 then swapReceive q s else s
        else s
      let n := s.laneOfPad pad
      let run := if (s.lane n).echo = some l then (s.lane n).tsuRun + 1 else 1
      let s := s.modLane n (fun x => { x with tsuRun := run, echo := some l })
      let s := if s.inAttempt n then s.set (R.LN_STAT.PORT n) (bits (leAt bs 2 1) 1 1) else s
      if run ≥ 8 ∧ s.laneState n = 2 then
        (s.set (R.LN_STAT.STATE n) 3).modLane n (fun x => { x with tsu2Run := 0, readyAt := s.ts.tsc })
      else s

/-- Count valid TSU2 sets in READY (R163 step 6); a TSU1 returns the lane to step 5, whose new count of 8 begins with the next set (DESIGN CHOICE, log 89). -/
def countTsu2 (n : Nat) (bs : List Byte) (s : State) : State :=
  if leAt bs 0 1 = 0x11 then
    (s.set (R.LN_STAT.STATE n) 2).modLane n (fun l => { l with tsuRun := 0, echo := none, tsu2Run := 0 })
  else
    let k := (s.lane n).tsu2Run + 1
    let s := s.modLane n (fun l => { l with tsu2Run := min k 8 })
    if k ≥ 8 ∧ s.tsd2Sent n ≥ 16 then laneUp n s else s

/-- A code error (R155, R184): counted in UP and RX_ONLY; 16 within one frame lose a lane in UP (R170). It does not move the alignment. -/
def codeError (n : Nat) (s : State) : State :=
  if s.laneState n = 4 ∨ s.laneState n = 8 then
    let s := raise (Src.LN_CODE_ERR n) (s.inc (R.LN_CODEERR n))
    let k := if (s.lane n).codeErrFrame = s.frame then (s.lane n).codeErrs + 1 else 1
    let s := s.modLane n (fun l => { l with codeErrs := k, codeErrFrame := s.frame })
    if k ≥ 16 then loseLane n s else s
  else s

/-- A training set on a receive pad pair (R163): 16 code groups at a bit position, received at a running disparity. One that lies off the aligned position is a
code error (R155): it restarts the counts and leaves the alignment where it is (DESIGN CHOICE, log 86: outside UP the spec does not say whether it moves). -/
def trainingSet (pad place : Nat) (rd : Bool) (gs : List Nat) (s : State) : State :=
  let n := s.laneOfPad pad
  let cs := s.readLane n rd gs
  if s.padTrains pad && s.bit (R.LN_STAT.SIGNAL n) && s.bit (R.LN_STAT.CDR_LOCK n) then
    if !s.bit (R.LN_STAT.ALIGNED n) then countComma n place ((gs.take 1).any isComma) s
    else if place != (s.lane n).commaPlace then codeError n (s.modLane n (fun l => { l with invRun := 0, tsuRun := 0, tsu2Run := 0 }))
    else if s.laneState n == 3 then
      match validTsu cs with
      | some bs => if leAt bs 1 1 != 0xFF && s.echoConflicts pad (leAt bs 1 1) then mapConflict n s else countTsu2 n bs s
      | none => s.modLane n (fun l => { l with tsu2Run := 0 })
    else
      let s := polarity n cs s
      if s.laneState n == 8 || !s.bit (R.LN_STAT.ALIGNED n) then s
      else match validTsu cs with
        | some bs => countTsu pad bs s
        | none => s.modLane n (fun l => { l with tsuRun := 0 })
  else s

/-! ### Test modes, R175 to R179 -/

/-- The test fields of LN_TEST, in place (R185). -/
def testFields (v : Nat) : Nat := bits v 31 26

/-- A write of LN_TEST (R179): set test fields put an enabled lane in TEST; clearing every one returns it to bring-up. A disabled lane stays OFF (R162). -/
def writeTest (n v : Nat) (s : State) : State :=
  if s.inState [.configure] then
    let old := s
    let s := (((s.set (R.LN_TEST.PRBS_GEN n) (bits v 31 31)).set (R.LN_TEST.PRBS_CHK n) (bits v 30 30)).set
      (R.LN_TEST.PATTERN n) (bits v 29 28)).set (R.LN_TEST.LOOP n) (bits v 27 26)
    if testFields v ≠ 0 then
      if s.laneEn n then patternWritten n old ((leaveUp n s).set (R.LN_STAT.STATE n) 7) else s
    else if s.laneState n = 7 then bringUp n (endPattern n s) else s
  else s

/-- A lane in TEST leaves it (R179). -/
def stopTest (n : Nat) (s : State) : State :=
  if s.laneState n = 7 then bringUp n (endPattern n (s.set (R.LN_TEST.LOOP n) 0)) else s

/-- CNT_CLR (R183, R185). -/
def clearLaneCounts (n : Nat) (s : State) : State :=
  clearPrbs n (((s.clearCount (R.LN_CODEERR n)).clearCount (R.LN_COUNTS.LOSSES n)).clearCount (R.LN_COUNTS.FAILED_ATTEMPTS n))

/-- A code group received outside a whole frame or set (R155): an error where the lane reads no character of R156 in it, or where it is a comma that lies off
the aligned position. -/
def groupRx (n : Nat) (rd : Bool) (g place : Nat) (s : State) : State :=
  if (place != (s.lane n).commaPlace && isComma g) || (s.readLane n rd [g]).any (fun c => c.isNone) then codeError n s else s

/-! ### Map mode and spare, R161, R173, R174 -/

/-- The orientation a MAP_MODE code selects (R182). -/
def orientation (m : Nat) : Nat := if m = 1 then 1 else if m = 2 then 2 else 0

/-- A write of MAP_MODE (R161), RWC. -/
def writeMapMode (q v : Nat) (s : State) : State :=
  if s.inState [.configure] then
    let old := s.get (R.QUAD_CFG.MAP_MODE q)
    let s := s.set (R.QUAD_CFG.MAP_MODE q) v
    if orientation (v % 4) = orientation old then s
    else
      let s := s.set (R.QUAD_CFG.MAP q) (orientation (v % 4))
      let s := s.each (quadLanes q) (fun n s => s.set (R.LN_STAT.RX_PAD n) (if orientation (v % 4) = 2 then mirror n else n))
      s.each (quadLanes q) (fun n s => if s.laneEn n then bringUp n s else s) |> showSpare q
  else s

/-- A write of SPARE_SEL (R173, R174). -/
def writeSpare (q v : Nat) (s : State) : State :=
  let hit := s.padLanes q (s.get (R.QUAD_CFG.SPARE_SEL q)) ++ s.padLanes q v
  if v ≥ 5 || s.bit (R.QUAD_CFG.SPARE_LOCK q) || hit.any (fun n => s.laneState n == 4 || s.laneState n == 7) then
    refuse (Src.LA_SETTING_REFUSED) s
  else
    let s := (s.set (R.QUAD_CFG.SPARE_SEL q) v).set (R.QUAD_CFG.SPARE_BUSY q) 1
    s.each hit (fun n s => if s.laneEn n then s.set (R.LN_STAT.STATE n) 9 else s)

/-- The spare has calibrated (R174). -/
def spareDone (q : Nat) (s : State) : State :=
  if s.bit (R.QUAD_CFG.SPARE_BUSY q) then
    let s := s.set (R.QUAD_CFG.SPARE_BUSY q) 0
    (showSpare q s).each (quadLanes q) (fun n s => if s.laneState n = 9 then bringUp n s else s)
  else s

/-! ### Commands -/

/-- LANE_ENABLE, R162: EN is RWC. -/
def execLaneEnable (n : Fin 64) (s : State) : Host.Outcome State Fault Refusal :=
  .next (if s.inState [.configure] && !s.laneEn n then bringUp n (s.set (R.LN_CTRL.EN n) 1) else s)

/-- LANE_SIGNAL_DETECT, R163 step 1. -/
def execLaneSignalDetect (n : Fin 64) (s : State) : Host.Outcome State Fault Refusal :=
  .next (if s.laneState n = 2 ∨ s.laneState n = 8 ∨ (s.map (n.val / 4) = 0 ∧ s.laneState (mirror n) = 2) then
      (s.set (R.LN_STAT.SIGNAL n) 1).modLane n (fun l => { l with sigSeen := true }) else s)

/-- LANE_CDR_LOCK, R163 step 2. -/
def execLaneCdrLock (n : Fin 64) (s : State) : Host.Outcome State Fault Refusal :=
  .next (if (s.laneState n = 2 ∨ s.laneState n = 8 ∨ (s.map (n.val / 4) = 0 ∧ s.laneState (mirror n) = 2)) ∧ s.bit (R.LN_STAT.SIGNAL n) then s.set (R.LN_STAT.CDR_LOCK n) 1 else s)

/-- TRAINING_SET_RX, R158 to R163: the code groups of the set at the pins, their bit position, and the running disparity before them. -/
def execTrainingSetRx (pad : Fin 64) (place : Fin 10) (rd : Bool) (gs : List Nat) (s : State) : Host.Outcome State Fault Refusal :=
  .next (trainingSet pad place rd gs s)

/-- ATTEMPT_TIMEOUT, R163 and R165. -/
def execAttemptTimeout (n : Fin 64) (s : State) : Host.Outcome State Fault Refusal :=
  .next (if s.inAttempt n then failAttempt n (s.stageOf n) s else s)

/-- BACKOFF_END, R165. -/
def execBackoffEnd (n : Fin 64) (s : State) : Host.Outcome State Fault Refusal :=
  .next (if s.laneState n = 5 then startAttempt n (s.get (R.LN_STAT.ATTEMPT n) + 1) s else s)

/-- ABSENT_RETRY, R166: ATTEMPT stays at 16. -/
def execAbsentRetry (n : Fin 64) (s : State) : Host.Outcome State Fault Refusal :=
  .next (if s.laneState n = 6 then (startAttempt n 16 s).modLane n (fun l => { l with retry := true }) else s)

/-- RETRAIN, R168. -/
def execRetrain (n : Fin 64) (s : State) : Host.Outcome State Fault Refusal :=
  .next (if s.laneState n = 5 ∨ s.laneState n = 6 then startAttempt n 1 s else s)

/-- LANE_LOST, R170. -/
def execLaneLost (n : Fin 64) (s : State) : Host.Outcome State Fault Refusal := .next (loseLane n s)

/-- QUAD_MAP_MODE_WRITE, R161. -/
def execQuadMapModeWrite (q : Fin 16) (v : Nat) (s : State) : Host.Outcome State Fault Refusal := .next (writeMapMode q v s)

/-- SPARE_SEL_WRITE, R173. -/
def execSpareSelWrite (q : Fin 16) (v : Nat) (s : State) : Host.Outcome State Fault Refusal := .next (writeSpare q v s)

/-- SPARE_CALIBRATED, R174. -/
def execSpareCalibrated (q : Fin 16) (s : State) : Host.Outcome State Fault Refusal := .next (spareDone q s)

/-- LANE_TEST_START, R179. -/
def execLaneTestStart (n : Fin 64) (v : Word) (s : State) : Host.Outcome State Fault Refusal := .next (writeTest n v.toNat s)

/-- LANE_TEST_STOP, R179. -/
def execLaneTestStop (n : Fin 64) (s : State) : Host.Outcome State Fault Refusal := .next (stopTest n s)

end Sys2Proof.Machine
end

