-- ==== Sys2Proof/Machine/Gate.lean ====
section
/-!
DEFINITION. Machine/Gate.lean: gate supervision (09_gate_supervision.md): Scarlet sets, evidence in frames, under-voltage,
temperature, and clearing a cell.
-/
namespace Sys2Proof.Machine

/-! ### Scarlet sets, R261 to R263 -/

/-- The action for an OC of a fitted gate by the cell's supervision state (R261, R263). -/
def actOc (n g : Nat) (s : State) : State :=
  let st := s.get (R.GSC_STAT.STATE n)
  if st = 0 then scSequence n g s
  else if st = 1 then
    let m := Nat.land (s.fitted n) (legMask g)
    if Nat.land m (s.get (R.GSC_STAT.OFF_GATES n)) = m then s
    else offGates n m (requestUrgent n (.targeted m true) s)
  else scarletBlack n 0 s

/-- The leaf, policy bit and cause number of a Scarlet set (R262): SC, CAP_OV, BACKSTOP or SCARLET_OTHER. -/
def scarletKind (fitted cause gate : Nat) : Nat :=
  if cause = 1 ∧ gate < 12 ∧ bitAt fitted gate then 0 else if cause = 2 then 1 else if cause = 3 then 2 else 3

/-- The leaf of each kind. -/
def scarletLeaf (n kind : Nat) : Src :=
  if kind = 0 then Src.GSC_SC n else if kind = 1 then Src.GSC_CAP_OV n
  else if kind = 2 then Src.GSC_BACKSTOP n else Src.GSC_SCARLET_OTHER n

/-- The supervisor raises the leaf of a cause (R280, R281): the first since MONITOR enters GSC_FIRST, and a cause that comes
while the cell is CLEARING returns it to ISOLATED (R277 step 5). -/
def raiseCause (n : Nat) (leaf : Src) (source gate cause : Nat) (s : State) : State :=
  let s := noteFirst n source gate cause (raise leaf s)
  if s.get (R.GSC_STAT.STATE n) = 3 then isolate n s else s

/-- The supervisor's answer to a fault of a kind on a lane in UP (R261 to R263, R266). -/
def actKind (n kind gate source : Nat) (s : State) : State :=
  let s := raiseCause n (scarletLeaf n kind) source gate kind s
  if kind = 0 ∧ gate < 12 ∧ bitAt (s.fitted n) gate then actOc n gate s else scarletBlack n kind s

/-- The supervisor's answer to a Scarlet set on a lane in UP (R261 to R263). -/
def actScarlet (n cause gate : Nat) (s : State) : State := actKind n (scarletKind (s.fitted n) cause gate) gate 1 s

/-- A lane in RX_ONLY has passed steps 1 to 4 of R163, so that it decodes what it receives (R169). -/
def State.rxOnly (s : State) (n : Nat) : Bool :=
  s.laneState n == 8 && s.bit (R.LN_STAT.SIGNAL n) && s.bit (R.LN_STAT.CDR_LOCK n) && s.bit (R.LN_STAT.ALIGNED n)

/-- A set that begins with K28.1 (R203, R258, R261): a Scarlet set is recognised, on a lane in RX_ONLY recorded only; any other set, and one that holds a code
error, is ignored and counts as a code error. -/
def scarletRx (n : Nat) (rd : Bool) (gs : List Nat) (s : State) : State :=
  if s.up n || s.rxOnly n then
    match (dataAfter .k28_1 (s.readLane n rd gs)).bind scarletOf with
    | none => codeError n s
    | some (cause, gate) =>
      let s := s.inc (R.LKN_COUNTS.SCARLET_RX n)
      let s := if cause = 1 then (s.inc (R.GSC_COUNTS.SC_COUNT n)).modLife n (fun l => { l with scCount := satAdd 0xFFFF l.scCount 1 }) else s
      let s := s.modGate n (fun g => { g with scarOc := g.scarOc || cause == 1, scarCap := g.scarCap || cause == 2 })
      if s.up n then actScarlet n cause gate s
      else
        let k := scarletKind (s.fitted n) cause gate
        noteFirst n 1 gate k (raise (scarletLeaf n k) s)
  else s

/-! ### Evidence in frames, R266 -/

/-- The fitted gate with the highest ISNS; the lowest number among equals. -/
def State.worstGate (s : State) (n : Nat) : Nat :=
  let u := (s.link n).up
  ((bitList 12 (s.fitted n)).foldl (fun (best : Option (Nat × Int)) g =>
    match upIsns u g, best with
    | none, b => b
    | some v, none => some (g, v)
    | some v, some (h, w) => if v > w then some (g, v) else some (h, w)) none).elim 0xF (·.1)

/-- Record SCARLET_MISSING (R266); GSC_FIRST takes the set that is missing, not this cause. -/
def raiseMissing (n : Nat) (s : State) : State :=
  let s := raise (Src.GSC_SCARLET_MISSING n) s
  if s.get (R.GSC_STAT.STATE n) = 3 then isolate n s else s

/-- A valid frame shows an over-current or over-voltage of which no Scarlet set came (R266); each such frame acts (log 17). While CLEAR_FAULT is being
sent its last frame is still to come, so nothing is evidence yet. In RX_ONLY it is recorded only (R258). -/
def evidence (n : Nat) (s : State) : State :=
  if (s.gate n).clearPhase = 1 then s else
  let u := (s.link n).up
  let g := s.gate n
  let oc := bitAt (upFault u) 0 || (match g.oc with
    | none => false
    | some t => (bitList 12 (s.fitted n)).any (fun i => match upIsns u i with | some v => v > (t : Int) | none => false))
  let cap := bitAt (upFault u) 1 || (match g.capOv, upVcap u with | some t, some v => v > t | _, _ => false)
  let act := s.bit R.GS_POLICY.UNREP_ACT && s.up n
  let s := if oc && !g.scarOc then
      let s := raiseMissing n s
      if act then
        let named := bits (upFault u) 15 12
        let gate := if bitAt (upFault u) 0 && named != 0xF then named else s.worstGate n
        actKind n 0 gate 2 s
      else s
    else s
  if cap && !g.scarCap then
    let s := raiseMissing n s
    if act then actKind n 1 0xF 2 s else s
  else s

/-! ### Gate supplies, R268 to R271 -/

/-- Consecutive frames: one more where the test holds, else 0. -/
def runOf (t : Tab Nat) (g : Nat) (b : Bool) : Tab Nat := Tab.set 0 t g (if b then min 255 (Tab.get 0 t g + 1) else 0)

/-- The action of an under-voltage of gate g (R270, R271). -/
def actUv (n g : Nat) (boot : Bool) (s : State) : State :=
  let src := if boot then Src.GSC_BOOT_UV n else Src.GSC_UVLO n
  let s := (s.inc (R.GSC_COUNTS.UV_COUNT n)).modLife n (fun l => { l with uvCount := satAdd 0xFFFF l.uvCount 1 })
  let s := raiseCause n src 2 g (if boot then 6 else 5) s
  if s.acts src && s.up n then
    let s := ask n (if boot then 6 else 4) s
    let cellScope := if boot then s.bit R.GS_POLICY.BOOTUV_SCOPE || s.bit R.GS_POLICY.BOOTUV_BYPASS
      else s.bit R.GS_POLICY.UV_SCOPE || s.bit R.GS_POLICY.UV_BYPASS
    if cellScope then isolateBlack n s else isolateLeg n g s
  else s

/-- One gate's supply in a valid frame (R268, R271). -/
def superviseSupply (n g : Nat) (s : State) : State :=
  let boot := bitAt (s.bootGates n) g
  if bitAt (Nat.land (s.fitted n) (s.get (R.GSC_CFG.VGS_MASK n))) g && (!boot || bitAt (s.gate n).bootEval g) then
    let v := upVgs (s.link n).up g
    let u := if g % 2 = 0 then s.get (R.GSC_UV.UV_HS n) else s.get (R.GSC_UV.UV_LS n)
    let deb := s.get (R.GSC_CFG.DEB n)
    let warn := s.get R.GS_UVCFG.WARN
    let isBelow := match v with | none => true | some x => x < u
    let ok := match v with | none => false | some x => x ≥ u + s.get R.GS_UVCFG.HYS
    let isLow := match v with | none => false | some x => x ≥ u && x < u + warn
    let notLow := match v with | none => false | some x => x ≥ u + warn
    let s := s.modGate n (fun x => { x with under := runOf x.under g isBelow, restore := runOf x.restore g ok, low := runOf x.low g isLow, lowOff := runOf x.lowOff g notLow })
    let x := s.gate n
    let uv := s.get (R.GSC_STAT.UV_GATES n)
    let s := if !bitAt uv g && Tab.get 0 x.under g ≥ deb then
        actUv n g boot (s.set (R.GSC_STAT.UV_GATES n) (uv + 2 ^ g))
      else if bitAt uv g && Tab.get 0 x.restore g ≥ deb then s.set (R.GSC_STAT.UV_GATES n) (uv - 2 ^ g)
      else s
    if boot && !bitAt x.bootLow g && Tab.get 0 x.low g ≥ deb then
      raiseCause n (Src.GSC_BOOT_LOW n) 2 g 7 (s.modGate n (fun x => { x with bootLow := x.bootLow + 2 ^ g }))
    else if boot && bitAt x.bootLow g && Tab.get 0 x.lowOff g ≥ deb then
      s.modGate n (fun x => { x with bootLow := x.bootLow - 2 ^ g })
    else s
  else s

/-! ### Temperature, R272 -/

def superviseTemp (n : Nat) (s : State) : State :=
  let t := upTemp0 (s.link n).up
  let w := sext 16 (s.get R.GS_TEMP.TEMP_WARN)
  let p := sext 16 (s.get R.GS_TEMP.TEMP_TRIP)
  let deb := s.get (R.GSC_CFG.DEB n)
  let above (l : Int) : Bool := match t with | none => false | some x => x ≥ l
  let under (l : Int) : Bool := match t with | none => false | some x => x ≤ l - 200
  let count (b : Bool) (k : Nat) : Nat := if b then min 255 (k + 1) else 0
  let s := s.modGate n (fun g => { g with warnOn := count (above w) g.warnOn, warnOff := count (under w) g.warnOff, tripOn := count (above p) g.tripOn, tripOff := count (under p) g.tripOff })
  let g := s.gate n
  let s := if !g.warnAct && g.warnOn ≥ deb then raiseCause n (Src.GSC_TEMP_WARN n) 2 0xF 8 (s.modGate n (fun g => { g with warnAct := true }))
    else if g.warnAct && g.warnOff ≥ deb then s.modGate n (fun g => { g with warnAct := false }) else s
  if !g.tripAct && g.tripOn ≥ deb then
    let s := raiseCause n (Src.GSC_TEMP_TRIP n) 2 0xF 9 (s.modGate n (fun g => { g with tripAct := true }))
    if s.acts (Src.GSC_TEMP_TRIP n) && s.up n then isolateBlack n (ask n 8 s) else s
  else if g.tripAct && g.tripOff ≥ deb then s.modGate n (fun g => { g with tripAct := false }) else s

/-! ### Clearing, R277, and the release of a hold after Safe, R448 -/

def clearProgress (n : Nat) (s : State) : State :=
  let a := upStatA (s.link n).up
  let s := if (s.gate n).clearHold && !bitAt a 4 then s.modGate n (fun g => { g with clearHold := false }) else s
  if s.get (R.GSC_STAT.STATE n) = 3 then
    if (s.gate n).clearPhase = 1 && !bitAt a 5 then s.modGate n (fun g => { g with clearPhase := 2 })
    else if (s.gate n).clearPhase = 2 && !bitAt a 4 then returnMonitor n s
    else s
  else s

/-- What the supervisor does with a valid upstream frame of a lane in UP; in RX_ONLY it records only (R258, R266 to R272,
R277). -/
def superviseFrame (n : Nat) (s : State) : State :=
  let s := evidence n s
  let s := if s.admitted n then s.each (List.range 12) (fun g s => superviseSupply n g s) else s
  let s := superviseTemp n s
  clearProgress n s

/-- TLM_LOST (R202, R267): one Black set and ISOLATED, with every debounce count cleared. -/
def telemetryLost (n : Nat) (s : State) : State :=
  let s := raiseCause n (Src.LKN_TLM_LOST n) 3 0xF 2 s
  let s := s.modGate n (fun g => { g with under := [], restore := [], low := [], lowOff := [], warnOn := 0, warnOff := 0, tripOn := 0, tripOff := 0 })
  if s.acts (Src.LKN_TLM_LOST n) then isolateBlack n (ask n 9 s) else s

/-! ### Commands -/

/-- SCARLET_SET_RX, R261. -/
def execScarletSetRx (n : Fin 64) (r : Received) (s : State) : Host.Outcome State Fault Refusal := .next (scarletRx n r.rd r.groups s)

/-- PARTNER_DELAY_EXPIRY, R261 step 3. -/
def execPartnerDelayExpiry (n : Fin 64) (s : State) : Host.Outcome State Fault Refusal :=
  .next (if (s.gate n).timer then isolateBlack n s else s)

/-- CELL_CLEAR, R277. -/
def execCellClear (n : Fin 64) (s : State) : Host.Outcome State Fault Refusal := .next (clearCell n s)

/-- CLEAR_TIMEOUT, R277 step 5. -/
def execClearTimeout (n : Fin 64) (s : State) : Host.Outcome State Fault Refusal :=
  .next (if s.get (R.GSC_STAT.STATE n) = 3 then isolate n s else s)

end Sys2Proof.Machine
end

