-- ==== Sys2Proof/Machine/Link.lean ====
section
/-!
DEFINITION. Machine/Link.lean: the Limisk link (07_limisk_link.md): frames in both directions, urgent sets, lane delay,
head parameters, and identification and admission of a cell.
-/
namespace Sys2Proof.Machine

/-! ### Downstream frames, R192 to R195, R204, R210, R284 -/

/-- The BYPASS field of the cell's frames (R284, R261 step 4, R286, R447). -/
def State.bypassField (s : State) (n : Nat) : Nat :=
  if s.bit (R.GSC_STAT.BYPASS_REQ n) then 0x3C
  else if s.inState [.safe] && s.bit R.FC_CTRL.SAFE_BYPASS && s.admitted n then 0x3C
  else (s.cell n).keepCmd.getD (bypassOf (s.balState n))

/-- The supervisor holds the whole cell (R261 step 4, R270). -/
def State.cellHeld (s : State) (n : Nat) : Bool := s.get (R.GSC_STAT.STATE n) ≥ 2 && (s.gate n).whole

/-- The schedule drives the cell; a standby keeps the schedule without sending it (R34, R238). -/
def State.driven (s : State) (n : Nat) : Bool :=
  s.inState [.run] && s.admitted n && s.balState n == 3 && !s.cellHeld n

/-- ENABLE of the cell's frames (R210, R284, R447). -/
def State.enableField (s : State) (n : Nat) : Bool := s.owns n && s.driven n

/-- The CTRL character (R192). -/
def State.ctrlField (s : State) (n : Nat) : Nat :=
  let busy := s.get (R.LKN_PARAM.STATUS n) == 1
  128 * b2n (s.owns n) + 64 * b2n (s.enableField n)
    + 32 * b2n ((s.gate n).clearPhase == 2 || ((s.gate n).clearHold && s.monitor n)
      || (match (s.gate n).tripClear with | some f => s.frame ≥ f | none => false))
    + 16 * b2n ((s.gate n).clearPhase == 1) + 8 * b2n (s.link n).descReq + 4 * b2n (busy && s.bit (R.LKN_PARAM.WRITE n))

/-- Characters 1 to 287 of the frame that starts now. Where no access is busy PARAM_ADDR is 0 (DESIGN CHOICE, log 90). -/
def State.downHead (s : State) (n : Nat) : List Byte :=
  let busy := s.get (R.LKN_PARAM.STATUS n) == 1
  leBytes 1 (s.ctrlField n) ++ leBytes 1 (s.frame % 256) ++ leBytes 1 n ++ leBytes 1 s.pos ++ leBytes 1 (s.bypassField n)
    ++ leBytes 2 (s.link n).levels ++ leBytes 1 (if busy then s.get (R.LKN_PARAM.ADDR n) else 0)
    ++ leBytes 2 (if busy && s.bit (R.LKN_PARAM.WRITE n) then s.get (R.LKN_PARAM.VALUE n) else 0) ++ List.replicate 277 0

/-- A change of ownership that is due at this frame boundary (R35, R36, R302, R303). -/
def applyOwner (n : Nat) (s : State) : State :=
  match (s.cell n).ownNext with
  | none => s
  | some (f, b) =>
    if s.frame ≥ f then
      let s := s.modCell n (fun c => { c with ownNext := none })
      if b then (own n s).modCell n (fun c => { c with ownSince := if s.owns n then c.ownSince else s.frame }) else disown n s
    else s

/-- The frame of a lane in UP starts (R192): its control fields go out. CLEAR_FAULT begins a new period of evidence (R266). -/
def sendFrame (n : Nat) (s : State) : State :=
  if s.up n then
    let s := applyOwner n s
    let h := s.downHead n
    let s := s.modLink n (fun l => { l with down := h, driven := s.driven n })
    let s := match (s.gate n).tripClear with
      | some f => if s.frame ≥ f then s.modGate n (fun g => { g with tripClear := none }) else s
      | none => s
    if (s.gate n).clearPhase = 1 then s.modGate n (fun g => { g with scarOc := false, scarCap := false }) else s
  else s

/-- An edge word (R193): TIME is the tick less D. -/
def edgeWord (d : Nat) (e : Edge) : Nat := e.gate * 4096 + 2048 * b2n e.level + ofInt 11 (e.tick - d)

/-- Place an edge among others: by tick, off before on, later edges of equal rank last (R194, R234). -/
def insertEdge (e : Edge) : List Edge → List Edge
  | [] => [e]
  | x :: xs => if x.tick < e.tick ∨ (x.tick = e.tick ∧ (!x.level || e.level)) then x :: insertEdge e xs else e :: x :: xs

def sortEdges (l : List Edge) : List Edge := l.foldl (fun a e => insertEdge e a) []

/-- The levels that a list of edges leaves, but for those of the gates in a mask. -/
def levelsAfter (m muted : Nat) (l : List Edge) : Nat := l.foldl (fun m e => if bitAt muted e.gate then m else setBitAt m e.gate e.level) m

/-- The cut-off of one lane (R29, R192, R195): the frame's edge words and check complete it; a frame with ENABLE = 0 takes
none and leaves every gate off (R210). -/
def cutoffLane (n : Nat) (s : State) : State :=
  if s.up n then
    let on := bitAt (leAt (s.link n).down 0 1) 6
    let es := if (s.link n).driven then (sortEdges (s.link n).edges).take 12 else []
    let sent := if on then es else []
    let words := sent.map (edgeWord (s.get (R.LKN_DELAY.D n))) ++ List.replicate (12 - sent.length) 0xF000
    s.modLink n (fun l =>
      let b := l.down.take 287 ++ words.flatMap (leBytes 2)
      { l with
        down := if l.cut ∧ l.urgSlot = s.frame then l.down else b ++ leBytes 4 (crc32 b)
        levels := if l.driven then levelsAfter l.levels l.muted es else 0
        edges := []
        muted := 0 })
  else s

/-! ### Urgent sets, R204, R264 -/

/-- The characters of group time sent up to now: 320 in each slot. -/
def State.charNow (s : State) : Nat := s.groupTime * 5 / 16

/-- Where the next urgent set of a lane starts, in characters of group time: at the next character, after the set before it. -/
def State.urgAt (s : State) (n : Nat) : Nat := max s.charNow (s.link n).urgEnd

/-- The characters of urgent sets that stand in the slot before that place: those of the slot, or what the last set of the slot before left over. -/
def State.urgBefore (s : State) (n : Nat) : Nat :=
  let l := s.link n
  let f := s.urgAt n / 320
  if l.urgSlot = f then l.urgChars else l.urgEnd - 320 * f

/-- The frame of that slot has been cut. -/
def State.urgCut (s : State) (n : Nat) : Bool := (s.link n).cut && (s.link n).urgSlot == s.urgAt n / 320

/-- The oldest urgent set that waits is sent. Its frame has 316 characters of content in 320 positions: where characters of another set stand in the slot
already and content is still to send, that content no longer fits, and the frame is cut (R204). -/
def sendUrgent (n : Nat) (s : State) : State :=
  match (s.link n).urgQ with
  | [] => s
  | u :: rest =>
    if s.up n then
      let p := s.urgAt n
      let k := s.urgBefore n
      let cut := !s.urgCut n && decide (k ≠ 0) && decide (p % 320 < 316 + k)
      let here := min 4 (320 - p % 320)
      let was := s.urgCut n
      let s := if cut then s.inc (R.LKN_COUNTS.CUT n) else s
      let s := s.modLink n (fun l => { l with urgQ := rest, lastUrgent := urgentChars u, urgEnd := p + 4, urgSlot := p / 320, urgChars := k + here, cut := was || cut, cutAt := if cut then p % 320 - k else l.cutAt })
      s.modGate n (fun g => { g with lvlQuiet := (p + 3) / 320 + 4 })
    else s

/-! ### Identification and admission, R216 to R220 -/

def digestOf (b : List Byte) : List Byte := leBytes 64 (Config.sha3 b).toNat

/-- A refused identity: results 3, 4, 5 and 7 with ID_FAIL, result 6 with ID_CHANGED, under whose class the cell is isolated (R219, R220, R439; log 91). -/
def failIdentity (n res : Nat) (s : State) : State :=
  let s := (s.set (R.LKN_STAT.ID_RESULT n) res).modLink n (fun l => { l with descReq := false, refetch := false })
  let s := dropVerify n s
  let s := refuseCell n (raise (if res = 6 then Src.LKN_ID_CHANGED n else Src.LKN_ID_FAIL n) s)
  if res = 6 ∧ s.acts (Src.LKN_ID_CHANGED n) then isolateBlack n s else s

/-- A cell in IDENTIFY is admitted once its identity, its delay and its port allow it (R219); an untrusted maker whose policy has been withdrawn is refused. -/
def tryAdmit (n : Nat) (s : State) : State :=
  let res := s.get (R.LKN_STAT.ID_RESULT n)
  let l := s.link n
  if s.get (R.LKN_STAT.ADMIT n) = 1 ∧ (res = 1 ∨ res = 2) then
    if res = 2 ∧ !s.bit (R.LKN_CTRL.ID_POLICY n) then failIdentity n 3 s
    else if s.get (R.LN_STAT.PORT n) ≠ s.pos % 2 then refuseCell n (raise (Src.LKN_PORT_WRONG n) s)
    else if l.dFormed ∧ ¬ l.dBad then admitCell n s
    else s
  else s

/-- Start a fetch (R218). -/
def startFetch (n : Nat) (s : State) : State :=
  (dropVerify n s).modLink n (fun l => { l with descReq := true, segs := [], fetchAt := s.frame })

/-- DESC_FETCH (R219, R220). In IDENTIFY it begins the identification afresh, as from REFUSED (DESIGN CHOICE, log 72). -/
def descFetch (n : Nat) (s : State) : State :=
  match s.get (R.LKN_STAT.ADMIT n) with
  | 2 => (startFetch n s).modLink n (fun l => { l with refetch := true })
  | 0 => s
  | _ =>
    let s := ((s.set (R.LKN_STAT.ADMIT n) 1).set (R.LKN_STAT.ID_RESULT n) 0).set (R.LKN_DELAY.D n) 0
    (startFetch n s).modLink n (fun l => { l with desc := [], dFormed := false, dPending := none, dBad := false, refetch := false })

/-- The result of a verification (R217, R219). -/
def verifyResult (d : List Byte) (keys : List (BitVec 512)) (policy : Bool) : Nat :=
  let key := (d.drop 128).take 2592
  if !descWellFormed d then 5
  else if !Config.mldsa key (Config.sha3 (d.take 2720)) (d.drop 2720) then 4
  else if keys.contains (Config.sha3 key) then 1
  else if policy then 2 else 3

/-- The security engine ends the verification in flight, where it is that of the lane (R217, R219, R220, R511). -/
def descVerified (n : Nat) (s : State) : State :=
  match s.sec.engine with
  | some (.verify m wanted) =>
    if m = n ∧ !wanted then engineEnds s
    else if m = n then
      let s := engineEnds { s with verifyQ := s.verifyQ.filter (· != n) }
      let l := s.link n
      let dg := digestOf (l.desc.take 2720)
      let s := (s.modLink n (fun l => { l with digest := dg, refetch := false })).set (R.LKN_ID_LO n) (leAt dg 0 4)
      let s := s.set (R.LKN_ID_HI n) (leAt dg 4 4)
      let res := verifyResult l.desc (Config.waisinKey :: s.sec.makerKeys.filter (· != 0)) (s.bit (R.LKN_CTRL.ID_POLICY n))
      if l.admitted ≠ [] ∧ dg ≠ l.admitted then failIdentity n 6 s
      else if res = 1 ∨ res = 2 then tryAdmit n (s.set (R.LKN_STAT.ID_RESULT n) res)
      else failIdentity n res s
    else s
  | _ => s

/-- The descriptor is held whole (R218): verification is queued and the head's defaults are known (R214, R266); a fetch of an admitted cell
leaves the copies that follow its parameter writes. -/
def descWhole (n : Nat) (s : State) : State :=
  let d := (List.range 58).flatMap (fun k => Tab.get [] (s.link n).segs k)
  let s := s.modLink n (fun l => { l with desc := d, descReq := false })
  let s := if (s.link n).refetch then s else
    s.modGate n (fun g => { g with oc := some (descOc d), capOv := some (descRatedV d * 11 / 10) })
  askVerify n (dropVerify n s)

/-- A descriptor segment in a valid frame (R218); segments that disagree give result 5. -/
def takeSegment (n : Nat) (s : State) : State :=
  let u := (s.link n).up
  let g := upSeg u
  if (s.link n).descReq ∧ bitAt g 6 then
    let k := g % 64
    let d := upSegData u
    let old := Tab.get [] (s.link n).segs k
    let good := k < 58 && bitAt g 7 == (k == 57) && upSegLen u == (if k = 57 then 51 else 128) && (old == [] || old == d)
    if good then
      let s := s.modLink n (fun l => { l with segs := Tab.set [] l.segs k d })
      if (s.link n).segs.length = 58 then descWhole n s else s
    else failIdentity n 5 s
  else s

/-! ### Lane delay, R190 -/

/-- DELAY_RANGE: the cell is not admitted (R190, R219). -/
def delayRange (n : Nat) (s : State) : State :=
  let s := raise (Src.LKN_DELAY_RANGE n) (s.modLink n (fun l => { l with dBad := true }))
  if s.get (R.LKN_STAT.ADMIT n) = 1 then refuseCell n s else s

/-- Every 64 frames the mean of the round trips measured in them is shown, and D is formed where the descriptor of the current fetch is held whole; a fetch of
an admitted cell leaves D as it is until then (log 72). -/
def delayUpdate (n : Nat) (s : State) : State :=
  let l := s.link n
  if l.rtCount ≠ 0 then
    let s := (s.set (R.LKN_DELAY.RTT n) (min 65535 (l.rtSum / l.rtCount))).modLink n (fun l => { l with rtSum := 0, rtCount := 0 })
    if l.desc = [] ∨ l.descReq then s
    else
      let x : Int := ((l.rtSum : Int) - l.rtCount * descTTurn l.desc + l.rtCount) / (2 * l.rtCount)
      let s := s.modLink n (fun l => { l with dPending := some (min 1023 x.toNat), dBad := false })
      if x < 0 ∨ x > 512 then delayRange n s else s
  else s

/-- The new D applies at the frame boundary. -/
def delayApply (n : Nat) (s : State) : State :=
  match (s.link n).dPending with
  | none => s
  | some d =>
    let s := (s.set (R.LKN_DELAY.D n) d).modLink n (fun l => { l with dPending := none, dFormed := true })
    let a := (s.link n).dAdmit
    let s := if s.admitted n ∧ (d > a + 2 ∨ a > d + 2) then raise (Src.LKN_DELAY_SHIFT n) s else s
    tryAdmit n s

/-! ### Upstream frames, R198 to R202 -/

/-- The slot of the frame held: SEQ_ECHO names the slot before it (R198). -/
def State.upSlot (s : State) (n : Nat) : Nat := s.frame - (s.frame + 511 - upSeqEcho (s.link n).up) % 256

/-- LKN_STAT and the causes that STAT_A carries (R197, R223, R224). -/
def copyStatus (n : Nat) (s : State) : State :=
  let a := upStatA (s.link n).up
  let rose := bitAt a 5 && !s.bit (R.LKN_STAT.FAULT n)
  let closed := bitAt a 3 && !s.bit (R.LKN_STAT.BYPASS_CLOSED n)
  let s := ((s.setBit (R.LKN_STAT.OWNER_ACK n) (bitAt a 7)).setBit (R.LKN_STAT.OTHER_OWNER n) (bitAt a 6)).setBit
    (R.LKN_STAT.FAULT n) (bitAt a 5)
  let s := ((s.setBit (R.LKN_STAT.HOLD n) (bitAt a 4)).setBit (R.LKN_STAT.BYPASS_CLOSED n) (bitAt a 3)).setBit
    (R.LKN_STAT.ENABLED n) (bitAt a 2)
  let s := s.set (R.LKN_STAT.NO_OWNER n) (upStatB (s.link n).up % 16)
  let s := if closed then s.modLife n (fun l => { l with closes := satAdd 0xFFFF l.closes 1 }) else s
  raiseAll ((if rose then [Src.LKN_HEAD_FAULT n] else [])
    ++ (if bitAt a 1 && s.upSlot n ≥ (s.gate n).lvlQuiet then [Src.LKN_LVL_MISMATCH n] else [])) s

/-- The echo of a head parameter (R215). -/
def paramEcho (n : Nat) (s : State) : State :=
  let u := (s.link n).up
  if s.get (R.LKN_PARAM.STATUS n) = 1 ∧ upParamAddr u = s.get (R.LKN_PARAM.ADDR n) then
    if s.bit (R.LKN_PARAM.WRITE n) then
      let v := upParamValue u
      if v = s.get (R.LKN_PARAM.VALUE n) then
        let s := s.set (R.LKN_PARAM.STATUS n) 2
        match upParamAddr u with
        | 0 => s.modGate n (fun g => { g with oc := g.oc.map (fun _ => v) })
        | 1 => s.modGate n (fun g => { g with capOv := g.capOv.map (fun _ => v) })
        | _ => s
      else s
    else (s.set (R.LKN_PARAM.VALUE n) (upParamValue u)).set (R.LKN_PARAM.STATUS n) 2
  else s

/-- What a valid frame shows of the bypass (R286, R290). -/
def bypassFrame (n : Nat) (s : State) : State :=
  let u := (s.link n).up
  if s.standby then s
  else
    let st := s.balState n
    let still := !s.headMoving n
    let failed := bitAt (upFault u) 5
    let open' := checkStrings ((setBal n 3 s).modGate n (fun g => { g with bootEval := 0 }))
    if st = 2 then
      if failed then checkStrings (raise (Src.BC_OPEN_FAIL n) (setBal n 5 s))
      else if !s.headClosed n && still then open' else s
    else if st = 4 then
      if failed then checkStrings (raise (Src.BC_CLOSE_FAIL n) (setBal n 5 s))
      else if (s.headClosed n && still) || (descBypassType (s.link n).desc == 0 && s.frame ≥ (s.cell n).since + 8) then
        checkStrings (setBal n 1 s)
      else s
    else s

/-- The head has accepted the other port while this device owns the cell (R37): the device becomes standby. A frame shows it that answers an owned frame of
this device: upstream frame m follows the end of downstream frame m − 1 (R198, R208; log 18). -/
def contention (n : Nat) (s : State) : State :=
  if s.owns n && s.bit (R.LKN_STAT.OTHER_OWNER n) && s.upSlot n > (s.cell n).ownSince then
    let s := s.each lanes64 (fun m s => if s.owns m then disown m s else s)
    raise (Src.BAL_DUPLEX_CONTENTION) (s.set R.BAL_STAT.ROLE 2)
  else s

/-- The extremes of the cell's string (R478). -/
def stringExtremes (n : Nat) (s : State) : State :=
  match s.stringOf n with
  | none => s
  | some t =>
    let u := (s.link n).up
    let old := Tab.get {} s.recd.strExt t
    let x : StrExt :=
      { vLow := (match upVcap u with | some v => min old.vLow v | none => old.vLow)
        vHigh := (match upVcap u with | some v => if old.vHigh = 0xFFFF then v else max old.vHigh v | none => old.vHigh)
        tHigh := (match upTemp0 u, old.tHigh with | some v, some w => some (max v w) | some v, none => some v | none, w => w)
        iHigh := (match upIarm u, old.iHigh with | some v, some w => some (max v.natAbs w) | some v, none => some v.natAbs | none, w => w) }
    { s with recd := { s.recd with strExt := Tab.set {} s.recd.strExt t x } }

/-- An invalid or missing upstream frame (R202). -/
def badFrame (n : Nat) (s : State) : State :=
  if s.up n then
    let s := s.inc (R.LKN_COUNTS.BAD_UP n)
    let k := (s.link n).invalidRun + 1
    let s := s.modLink n (fun l => { l with invalidRun := min k 5 })
    if k = 4 then telemetryLost n s else s
  else s

/-- A valid upstream frame (R198 to R202); in RX_ONLY the supervisor records what it shows (R258). -/
def goodFrame (n : Nat) (u : List Byte) (s : State) : State :=
  let s := s.modLink n (fun l => { l with up := u, upAt := s.ts.tsc, invalidRun := 0 })
  let s := s.modLink n (fun l => { l with upStamp := 1024 * s.upSlot n + s.get (R.LKN_DELAY.D n) + descSampleOfs l.desc })
  let s := copyStatus n s
  if s.up n then
    let s := stringExtremes n (ledgerFrame n (paramEcho n (takeSegment n s)))
    contention n (bypassFrame n (superviseFrame n s))
  else if s.get (R.LN_STAT.STATE n) = 8 then superviseFrame n s
  else s

/-! ### Commands -/

/-- LANE_DISABLE, R162, R219, R495: EN is RWC. -/
def execLaneDisable (n : Fin 64) (s : State) : Host.Outcome State Fault Refusal :=
  .next (if s.inState [.configure] && s.laneEn n then ledgerRemove n (bringUp n (s.set (R.LN_CTRL.EN n) 0)) else s)

/-- DOWNSTREAM_FRAME_SEND, R192. -/
def execDownstreamFrameSend (n : Fin 64) (s : State) : Host.Outcome State Fault Refusal := .next (sendFrame n s)

/-- EDGE_CUTOFF, R29: every lane in UP. -/
def execEdgeCutoff (s : State) : Host.Outcome State Fault Refusal := .next (s.each lanes64 cutoffLane)

/-- The code groups of an upstream frame, from its K28.5 on (R155, R156, R201): each code error counts; a code error, a K28.3 or the end of the slot inside
the frame makes it invalid. -/
def upstreamFrame (n : Nat) (rd : Bool) (gs : List Nat) (s : State) : State :=
  if s.up n || s.rxOnly n then
    let cs := s.readLane n rd gs
    let s := s.each (List.range (codeErrorsIn cs)) (fun _ s => codeError n s)
    match dataAfter .k28_5 cs with
    | some bs => if upGood bs then goodFrame n bs s else badFrame n s
    | none => badFrame n s
  else s

/-- UPSTREAM_FRAME_RX, R201: `onSlot` says that the K28.5 lay on the slot boundary, `rt` is the round trip in ticks. In RX_ONLY the lane is that of the receive
pad pair (R169). -/
def execUpstreamFrameRx (n : Fin 64) (onSlot : Bool) (rt : Nat) (rd : Bool) (gs : List Nat) (s : State) : Host.Outcome State Fault Refusal :=
  .next (
    let s := if onSlot && s.up n then
        s.modLink n (fun l => if l.rtCount < 64 then { l with rtSum := l.rtSum + rt, rtCount := l.rtCount + 1 } else l) else s
    upstreamFrame n rd gs s)

/-- UPSTREAM_FRAME_MISSING, R202. -/
def execUpstreamFrameMissing (n : Fin 64) (s : State) : Host.Outcome State Fault Refusal := .next (badFrame n s)

/-- LANE_DELAY_UPDATE, R190. -/
def execLaneDelayUpdate (n : Fin 64) (s : State) : Host.Outcome State Fault Refusal := .next (delayUpdate n s)

/-- LANE_DELAY_APPLY, R190. -/
def execLaneDelayApply (n : Fin 64) (s : State) : Host.Outcome State Fault Refusal := .next (delayApply n s)

/-- URGENT_SET_SEND, R204. -/
def execUrgentSetSend (n : Fin 64) (s : State) : Host.Outcome State Fault Refusal := .next (sendUrgent n s)

/-- PARAM_WRITE, R215. -/
def execParamWrite (n : Fin 64) (addr : Byte) (v : Nat) (s : State) : Host.Outcome State Fault Refusal :=
  .next (startParam n addr.toNat v true s)

/-- PARAM_READ, R215. -/
def execParamRead (n : Fin 64) (addr : Byte) (s : State) : Host.Outcome State Fault Refusal :=
  .next (startParam n addr.toNat 0 false s)

/-- PARAM_TIMEOUT, R215. -/
def execParamTimeout (n : Fin 64) (s : State) : Host.Outcome State Fault Refusal :=
  .next (if s.get (R.LKN_PARAM.STATUS n) = 1 then raise (Src.LKN_PARAM_FAIL n) (s.set (R.LKN_PARAM.STATUS n) 3) else s)

/-- DESC_FETCH, R220. -/
def execDescFetch (n : Fin 64) (s : State) : Host.Outcome State Fault Refusal := .next (descFetch n s)

/-- DESCRIPTOR_VERIFIED, R217. -/
def execDescriptorVerified (n : Fin 64) (s : State) : Host.Outcome State Fault Refusal := .next (descVerified n s)

/-- DESCRIPTOR_TIMEOUT, R219: result 7 where the descriptor is not whole. -/
def execDescriptorTimeout (n : Fin 64) (s : State) : Host.Outcome State Fault Refusal :=
  .next (if (s.link n).descReq ∧ (s.get (R.LKN_STAT.ADMIT n) = 1 ∨ s.admitted n) then failIdentity n 7 s else s)

/-- CNT_CLR of a link (R222). -/
def clearLinkCounts (n : Nat) (s : State) : State :=
  ((s.clearCount (R.LKN_COUNTS.BAD_UP n)).clearCount (R.LKN_COUNTS.SCARLET_RX n)).clearCount (R.LKN_COUNTS.CUT n)

/-- LINK_CNT_CLR, R223. -/
def execLinkCntClr (n : Fin 64) (s : State) : Host.Outcome State Fault Refusal :=
  .next (clearLinkCounts n s)

end Sys2Proof.Machine
end

