-- ==== Sys2Proof/Machine/Modulation.lean ====
section
/-!
DEFINITION. Machine/Modulation.lean: the modulation engine (08_modulation.md): carriers, commits, period openings, pulse
intervals, the interlock, edge hand-over and trip inputs. Periods and pulses are in group time, write stamps in TSC.
-/
namespace Sys2Proof.Machine

def State.car (s : State) (k : Nat) : CarSt := Tab.get {} s.cars k
def State.leg (s : State) (l : Nat) : LegSt := Tab.get {} s.legs l
def State.ctx (s : State) (k : Nat) : CtxSt := Tab.get {} s.ctxs k
def State.modCar (s : State) (k : Nat) (f : CarSt → CarSt) : State := { s with cars := Tab.modify {} s.cars k f }
def State.modLeg (s : State) (l : Nat) (f : LegSt → LegSt) : State := { s with legs := Tab.modify {} s.legs l f }
def State.modCtx (s : State) (k : Nat) (f : CtxSt → CtxSt) : State := { s with ctxs := Tab.modify {} s.ctxs k f }

def legs384 : List Nat := List.range 384
def ctxs128 : List Nat := List.range 128

/-- The legs that follow carrier k (R232). -/
def State.legsOf (s : State) (k : Nat) : List Nat := legs384.filter (fun l => s.get (R.LEG_CFG.CARRIER l) == k)

/-- Bin i of a context's delay histogram (R334). -/
def R.CX_HIST (k i : Nat) : Fld := ⟨0x91040 + 0x80 * k + 4 * i, 0, 32, .ro, 0⟩

/-! ### Shadow writes, R235 -/

/-- Note the stamp of a shadow write to a carrier or a leg. -/
def stampCar (k : Nat) (s : State) : State := s.modCar k (fun c => { c with stamp := some s.ts.tsc })
def stampLeg (l : Nat) (s : State) : State := s.modLeg l (fun g => { g with stamp := some s.ts.tsc })

/-- A write of PER (R227). -/
def writePer (k v : Nat) (s : State) : State :=
  if v % 2 ^ 26 < 10240 then refuse (Src.MOD_SETTING_REFUSED) s else stampCar k (s.set (R.CAR_PER.PER k) v)

/-- A write of MODE, VAL, VAL2 or LEG_DT of a leg (R232, R256). -/
def writeLegField (l : Nat) (f : Fld) (v : Nat) (s : State) : State := stampLeg l (s.set f v)

/-- A write of MODE: 5 to 7 are refused (R232). -/
def writeMode (l v : Nat) (s : State) : State :=
  if v > 4 then refuse (Src.MOD_SETTING_REFUSED) s else writeLegField l (R.LEG_CFG.MODE l) v s

/-! ### Commits, R235, R236, R319 -/

/-- Bin a computation-to-commit delay (R319). -/
def binDelay (k d : Nat) (s : State) : State :=
  let s := s.inc (R.CX_HIST k (min 15 (d / 2 ^ s.get (R.CX_HCFG.SHIFT k))))
  s.set (R.CX_MAX.MAXDELAY k) (max (s.get (R.CX_MAX.MAXDELAY k)) (min 65535 d))

/-- A leg's shadow moves to the active values: releases that waited for it and for no other are measured (R319). -/
def relCommit (l : Nat) (s : State) : State :=
  s.each ctxs128 (fun k s =>
    let rs := (s.ctx k).rels
    if rs.any (fun r => r.legs.contains l) then
      let rs := rs.map (fun r => { r with legs := r.legs.filter (· != l) })
      let s := (rs.filter (fun r => r.legs = [])).foldl (fun s r => binDelay k (s.ts.tsc - r.stamp) s) s
      s.modCtx k (fun c => { c with rels := rs.filter (fun r => r.legs ≠ []) })
    else s)

/-- The range −T/2 < Δ ≤ T/2 of R229. -/
def phaseShift (old new t : Nat) : Int :=
  let d := (((new : Int) - old) % (t : Int))
  if 2 * d > (t : Int) then d - t else d

/-- A carrier's shadows become its active values; a PHASE change leaves a shift (R229). -/
def commitCar (k : Nat) (s : State) : State :=
  let c := s.car k
  let t := (c.cur.map (·.per)).getD c.per
  let d := phaseShift c.phase (s.get (R.CAR_PHASE.PHASE k)) t
  s.modCar k (fun c => { c with per := s.get (R.CAR_PER.PER k), phase := s.get (R.CAR_PHASE.PHASE k), evtCmp := s.get (R.CAR_EVTCMP.EVT_CMP k), stamp := none, shift := c.shift + d })

/-- A leg's shadows become its active values. -/
def commitLeg (l : Nat) (s : State) : State :=
  let g := s.leg l
  let s := s.modLeg l (fun g => { g with mode := s.get (R.LEG_CFG.MODE l), val := s.get (R.LEG_VAL.VAL l), val2 := s.get (R.LEG_VAL2.VAL2 l), dt := s.get (R.LEG_DT.DT l), minp := s.get (R.LEG_DT.MINP l), stamp := none })
  if g.stamp.isSome then relCommit l s else s

/-- An event at this tick lies at least MIN_COMMIT ticks after a stamp, and not in its tick (R235, R236). -/
def State.dueAfter (s : State) (t : Nat) : Bool := t < s.ts.tsc && t + s.get R.MOD_CTRL.MIN_COMMIT ≤ s.ts.tsc

def State.stampDue (s : State) (t : Option Nat) : Bool := match t with | none => false | some t => s.dueAfter t

def CarEvt.bit : CarEvt → Nat
  | .zero => 0
  | .period => 1
  | .cmp => 2

/-- The event of one carrier commits what waits for it. -/
def commitEvent (k : Nat) (e : CarEvt) (s : State) : State :=
  let s :=
    if bitAt (s.get (R.CAR_CTRL.COMMIT_SRC k)) (CarEvt.bit e) then
      let s := if !s.bit (R.CAR_CTRL.GROUPED k) && s.stampDue (s.car k).stamp then commitCar k s else s
      s.each (s.legsOf k) (fun l s => if !s.bit (R.LEG_CFG.GROUPED l) && s.stampDue (s.leg l).stamp then commitLeg l s else s)
    else s
  s.each (List.range 16) (fun g s =>
    let p := Tab.get 0 s.groupPend g
    if p ≠ 0 ∧ s.get (R.MOD_GRPREF.CARRIER g) = k ∧ s.get (R.MOD_GRPREF.EVT g) = CarEvt.bit e + 1 ∧ s.dueAfter (p - 1) then
      let s := { s with groupPend := Tab.set 0 s.groupPend g 0 }
      let s := s.each lanes64 (fun c s => if s.bit (R.CAR_CTRL.GROUPED c) && s.get (R.CAR_CTRL.GROUP c) == g then commitCar c s else s)
      s.each legs384 (fun l s => if s.bit (R.LEG_CFG.GROUPED l) && s.get (R.LEG_CFG.GROUP l) == g then commitLeg l s else s)
    else s)

/-- A COMMIT of the groups of a mask (R236): a second COMMIT does not move the first. -/
def commitGroups (v : Nat) (s : State) : State :=
  s.each (bitList 16 v) (fun g s =>
    if Tab.get 0 s.groupPend g = 0 then { s with groupPend := Tab.set 0 s.groupPend g (s.ts.tsc + 1) } else s)

/-! ### Carriers, R228 to R231 -/

/-- The smallest t ≥ `a` with t mod `per` = `ph` mod `per`. -/
def nextAligned (a per ph : Nat) : Nat := a + (ph + per - a % per) % per

def State.prescP (s : State) (k : Nat) : Nat :=
  if s.get (R.CAR_TRIG.PRESC k) = 0 then 256 else s.get (R.CAR_TRIG.PRESC k)

/-- EN written to 1 (R228, R231). -/
def enableCar (k : Nat) (s : State) : State :=
  let s := s.set (R.CAR_CTRL.EN k) 1
  if (s.car k).cur.isNone ∧ (s.car k).next.isNone then
    let per := s.get (R.CAR_PER.PER k)
    s.modCar k (fun _ => { per := per, phase := s.get (R.CAR_PHASE.PHASE k), evtCmp := s.get (R.CAR_EVTCMP.EVT_CMP k), first := some (nextAligned (s.groupTime + 3072) per (s.get (R.CAR_PHASE.PHASE k))), presc := s.get (R.CAR_TRIG.PRESC_PHASE k) % s.prescP k })
  else s

/-- Take a gate off from `c` to `e` (R245, R247). -/
def cutPlan (c e : Nat) (l : List (Nat × Nat)) : List (Nat × Nat) :=
  l.flatMap (fun x =>
    if x.2 ≤ c ∨ e ≤ x.1 then [x]
    else (if x.1 < c then [(x.1, c)] else []) ++ (if e < x.2 then [(e, x.2)] else []))

/-- A leg has no period from `z` on: it goes both-off. -/
def endPlan (z l : Nat) (s : State) : State :=
  s.modLeg l (fun g => { g with hi := cutPlan z g.planEnd g.hi, lo := cutPlan z g.planEnd g.lo, planEnd := min z g.planEnd, refresh := g.refresh.filter (fun e => e ≤ z), dts := g.dts.filter (fun d => d.1 < z) })

/-- EN written to 0 (R228): no further period is opened, one that was opened is dropped, and the legs go both-off from the end of the current period. -/
def disableCar (k : Nat) (s : State) : State :=
  let c := s.car k
  let z := match c.cur, c.next with | some p, _ => some (p.zero + p.len) | none, some p => some p.zero | none, none => none
  let s := (s.set (R.CAR_CTRL.EN k) 0).modCar k (fun c => { c with first := none, next := none })
  match z with
  | some z => s.each (s.legsOf k) (endPlan z)
  | none => s

/-- A context takes triggers: it is in IDLE or RUNNING, in a device state in which contexts run (R312, R315). -/
def State.takesTriggers (s : State) (k : Nat) : Bool :=
  (s.get (R.CX_STAT.STATE k) == 1 || s.get (R.CX_STAT.STATE k) == 2) && s.inState [.armed, .run, .safe]

/-- A trigger sets out to every context whose source is `src` with the selection `sel` (R312). -/
def sendTrigger (src sel : Nat) (s : State) : State :=
  s.each (ctxs128.filter (fun c => s.get (R.CX_TRIG.SRC c) == src && s.get (R.CX_TRIG.SEL c) == sel && s.takesTriggers c))
    (fun c s => s.modCtx c (fun x => { x with due := x.due + 1 }))

/-- The carrier's trigger output fires (R231). -/
def fireTrigger (k : Nat) (s : State) : State := sendTrigger 1 k s

/-- The prescaler counts an event; the counter returns to 0 as the trigger fires (R231). -/
def prescale (k : Nat) (e : CarEvt) (s : State) : State :=
  if bitAt (s.get (R.CAR_TRIG.TRIG_SRC k)) (CarEvt.bit e) then
    let fires := (s.car k).presc + 1 ≥ s.prescP k
    let s := s.modCar k (fun c => { c with presc := if fires then 0 else c.presc + 1 })
    if fires then fireTrigger k s else s
  else s

/-- A latched trip holds the cell's legs (R248). -/
def State.tripHolds (s : State) (n : Nat) : Bool :=
  s.get (R.FC_SEV 6 8) ≥ 2 && (match s.stringOf n with
    | none => false
    | some t => (List.range 8).any (fun i => s.bit (R.TRIP_STAT.LATCHED i) && bitAt (s.get (R.TRIP_CFG.STRINGS i)) t))

/-- A leg's period ends at `z`: interlock and trip marks end, and a refreshing period in Run starts the evaluation of its
high side (R245, R247, R269). -/
def endLegPeriod (z l : Nat) (s : State) : State :=
  let n := l / 6
  let s := if (s.leg l).shoots = [] then s else s.modLeg l (fun g => { g with shoots := g.shoots.filter (fun x => z < x.2) })
  let s := if s.tripHolds n then s else s.set (R.LEG_STAT.TRIP_HELD l) 0
  if (s.leg l).refresh.any (· ≤ z) then
    let s := s.modLeg l (fun g => { g with refresh := g.refresh.filter (fun e => e > z) })
    if s.inState [.run] ∧ s.balState n = 3 then s.modGate n (fun g => { g with bootEval := Nat.lor g.bootEval (2 ^ (2 * (l % 6))) }) else s
  else s

/-- ZERO: the period opened before becomes the period in progress; with none opened the carrier has ended (R228). -/
def advanceZero (k : Nat) (s : State) : State :=
  let c := s.car k
  let z := match c.next, c.cur with | some p, _ => p.zero | none, some p => p.zero + p.len | none, none => 0
  let s := s.setBit (R.CAR_CTRL.RUNNING k) c.next.isSome
  let s := s.modCar k (fun c => { c with cur := c.next, next := none })
  s.each (s.legsOf k) (endLegPeriod z)

/-- An event of a running carrier (R230). -/
def carrierEvent (k : Nat) (e : CarEvt) (s : State) : State :=
  let c := s.car k
  let fire (s : State) : State := commitEvent k e (prescale k e s)
  match e with
  | .zero =>
    if c.next.isSome then fire (advanceZero k s)
    else if c.cur.isSome ∧ !s.bit (R.CAR_CTRL.EN k) then advanceZero k s else s
  | .period => if c.cur.isSome then fire s else s
  | .cmp => match c.cur with | some p => if p.evtCmp < p.len then fire s else s | none => s

/-! ### Pulse intervals, R232 to R243 -/

/-- CMP of R233, before the clamp. -/
def cmpOf (ratio : Bool) (v t : Nat) : Nat := if ratio then (2 * min v (2 ^ 24) * t + 2 ^ 24) / 2 ^ 25 else v

/-- The on-interval of R233. -/
def onInterval (align cmp t : Nat) : Nat × Nat :=
  if align = 1 then ((t - cmp) / 2, (t - cmp) / 2 + cmp) else if align = 2 then (t - cmp, t) else (0, cmp)

/-- The intervals of mode 1 (R234, R240), with whether the high side is on at the start; the last part says PER_SHORT. -/
def complementary (align cmp t dt minp : Nat) (hiOn : Bool) : List (Nat × Nat) × List (Nat × Nat) × Bool :=
  let dH := cmp < dt + minp
  let dL := t < cmp + dt + minp
  if dH && dL then ([], [], true)
  else if dH then ([], [(0, t)], false)
  else if dL then ([(0, t)], [], false)
  else
    let (a, b) := onInterval align cmp t
    let h := if hiOn && a == 0 then 0 else a + dt
    ([(h, b)], (if a > 0 then [(0, a)] else []) ++ (if b + dt < t then [(b + dt, t)] else []), false)

/-- The low-side pulse of mode 1. -/
def lowPulse (cmp t dt minp : Nat) : Nat :=
  if cmp < dt + minp then (if t < cmp + dt + minp then 0 else t) else if t < cmp + dt + minp then 0 else t - cmp - dt

/-- The end of the last interval of a list. -/
def lastEnd (l : List (Nat × Nat)) : Option Nat := l.foldl (fun m x => match m with | none => some x.2 | some e => some (max e x.2)) none

/-- Delay the first on-edge of a gate to `dt` after an off-edge (R234); an interval that would be empty is dropped. -/
def delayFirst (dt : Nat) (after : Option Nat) (l : List (Nat × Nat)) : List (Nat × Nat) :=
  match l, after with
  | (s, e) :: t, some x => if max s (x + dt) < e then (max s (x + dt), e) :: t else t
  | l, _ => l

/-- The larger of two instants that may be absent. -/
def maxOpt (a b : Option Nat) : Option Nat :=
  match a, b with | some x, some y => some (max x y) | some x, none => some x | none, b => b

/-- Add a period's intervals to a gate's plan. -/
def addPlan (old new : List (Nat × Nat)) : List (Nat × Nat) := (old.reverse.take 6).reverse ++ new

/-- Count a clamp (R239). -/
def countClamp (l : Nat) (s : State) : State :=
  raise (Src.MOD_CMP_CLAMP) ((s.inc (R.LEG_STAT.CLAMPS l)).set R.MOD_STAT.LAST_CLAMP_LEG l)

/-- The opening of one leg's period (R233 to R243): its values are latched and its pulses planned. -/
def openLeg (z t per l : Nat) (s : State) : State :=
  let g := s.leg l
  let ratio := s.bit (R.LEG_CFG.RATIO l)
  let uses := g.mode = 1 ∨ g.mode = 4
  let c0 := cmpOf ratio g.val t
  let above := uses ∧ c0 > t
  let c := if above then t - g.dt - g.minp else c0
  let d0 := cmpOf ratio g.val2 t
  let over2 := g.mode = 4 ∧ d0 > t
  let d := if over2 then t - g.dt - g.minp else d0
  let s := if above ∨ over2 then countClamp l s else s
  let hiOn := lastEnd g.hi == some z
  let loOn := lastEnd g.lo == some z
  let align := s.get (R.LEG_CFG.ALIGN l)
  let tref := max (s.get R.MOD_TREF.TREF) g.minp
  let thold := s.get R.MOD_THOLD.THOLD
  let cEff := if g.mode = 2 then t else c
  let (x2, y2) := onInterval (s.get (R.LEG_CFG.ALIGN2 l)) d t
  let low := match g.mode with | 1 => lowPulse c t g.dt g.minp | 3 => t | 4 => (if y2 - x2 < g.minp then 0 else y2 - x2) | _ => 0
  let nat := low ≥ tref && low > 0
  let run := s.inState [.run]
  let boot := s.bit (R.LEG_CFG.REFRESH l) && (g.mode == 1 || g.mode == 2) && run
  let force := boot && (match g.q with | none => !nat | some q => z + t + per > q + thold)
  let range := boot && (match g.q with | none => false | some q => z + t > q + thold)
  let s := if range then raise (Src.MOD_REFRESH_RANGE) s else s
  let s := if force then s.incWrap (R.LEG_STAT.FORCED_REFRESH l) else s
  let (h, lo, short) :=
    if force then complementary align (min cEff (t - g.dt - tref)) t g.dt g.minp hiOn
    else match g.mode with
      | 1 => complementary align c t g.dt g.minp hiOn
      | 2 => ([(0, t)], [], false)
      | 3 => ([], [(0, t)], false)
      | 4 =>
        let (x, y) := onInterval align c t
        ((if y - x < g.minp ∨ y = x then [] else [(x, y)]), (if y2 - x2 < g.minp ∨ y2 = x2 then [] else [(x2, y2)]), false)
      | _ => ([], [], false)
  let s := if short then raise (Src.MOD_PER_SHORT) s else s
  let place (l : List (Nat × Nat)) : List (Nat × Nat) := l.map (fun x => (z + x.1, z + x.2))
  let changed := g.mode ≠ g.lastMode
  let free := g.mode = 4 ∧ ¬ changed
  let own (e : List (Nat × Nat)) : Option Nat := if changed then lastEnd e else none
  let starts (l : List (Nat × Nat)) : Bool := (l.head?.map (·.1)) == some 0
  let h' := if free ∨ (hiOn ∧ starts h) then place h else delayFirst g.dt (maxOpt (lastEnd g.lo) (own g.hi)) (place h)
  let l' := if free ∨ (loOn ∧ starts lo) then place lo else delayFirst g.dt (maxOpt (lastEnd g.hi) (own g.lo)) (place lo)
  let h' := if g.supHi ∧ !(hiOn ∧ starts h) then h'.drop 1 else h'
  let l' := if g.supLo ∧ !(loOn ∧ starts lo) then l'.drop 1 else l'
  let fresh := nat || force
  s.modLeg l (fun g => { g with hi := addPlan g.hi h', lo := addPlan g.lo l', lastMode := g.mode, planEnd := z + t, dts := (g.dts.reverse.take 3).reverse ++ [(z, g.dt)], q := if !run then none else if fresh then some (z + t) else g.q, refresh := if fresh then (g.refresh ++ [z + t]).take 4 else g.refresh, supHi := g.supHi && h' = [] && h = [], supLo := g.supLo && l' = [] && lo = [] })

/-- The next period is opened (R229, R237). -/
def openPeriod (k : Nat) (s : State) : State :=
  let c := s.car k
  let start := match c.first, c.cur with | some z, _ => some z | none, some p => some (p.zero + p.len) | none, none => none
  match start with
  | none => s
  | some z =>
    if s.bit (R.CAR_CTRL.EN k) && c.next.isNone then
      let t := if c.shift = 0 then c.per else (clampInt 10240 67108863 ((c.per : Int) + c.shift)).toNat
      let s := s.incWrap (R.CAR_PERIODS.PERIODS k)
      let s := s.modCar k (fun c => { c with first := none, next := some { zero := z, len := t, per := c.per, evtCmp := c.evtCmp }, shift := c.shift - ((t : Int) - c.per) })
      s.each (s.legsOf k) (openLeg z t c.per)
    else s

/-! ### Levels, interlock and hand-over, R237, R238, R245 -/

/-- A gate is planned on at an instant. -/
def planOn (l : List (Nat × Nat)) (t : Nat) : Bool := l.any (fun x => x.1 ≤ t && t < x.2)

/-- The instants in a window at which a leg's plan changes, earliest first. -/
def planPoints (w e : Nat) (g : LegSt) : List Nat :=
  let xs := (g.hi ++ g.lo).flatMap (fun x => [x.1, x.2])
  (xs.filter (fun x => w ≤ x && x < e)).foldl (fun a x => a.filter (· < x) ++ [x] ++ a.filter (fun y => x < y)) []

/-- The DT latched for the period in which an instant lies (R237). -/
def dtAt (t : Nat) (g : LegSt) : Nat := g.dts.foldl (fun d x => if x.1 ≤ t then x.2 else d) g.dt

/-- The first conflict of a leg in a window (R245). -/
def conflictAt (w e : Nat) (g : LegSt) : Option Nat :=
  let soon (l : List (Nat × Nat)) (t : Nat) : Bool := l.any (fun x => x.2 ≤ t && t < x.2 + dtAt t g)
  (w :: planPoints w e g).find? (fun t =>
    let h := planOn g.hi t
    let l := planOn g.lo t
    (h && l) || (h && t > 0 && !planOn g.hi (t - 1) && soon g.lo t) || (l && t > 0 && !planOn g.lo (t - 1) && soon g.hi t))

/-- The end of the carrier period in which an instant lies. -/
def State.periodEnd (s : State) (k t : Nat) : Nat :=
  match (s.car k).cur, (s.car k).next with
  | some p, some q => if t < p.zero + p.len then p.zero + p.len else q.zero + q.len
  | some p, none => p.zero + p.len
  | none, some q => q.zero + q.len
  | none, none => t

/-- The interlock of one leg up to the end of the frame that is handed over, whose window begins at `w` (R245). A conflict before it lies in a frame that has been
sent: a targeted hard-off set follows it. -/
def interlock (w e l : Nat) (s : State) : State :=
  match conflictAt (min w s.groupTime) e (s.leg l) with
  | none => s
  | some c =>
    let pe := s.periodEnd (s.get (R.LEG_CFG.CARRIER l)) c
    let s := s.modLeg l (fun g => { g with hi := cutPlan c pe g.hi, lo := cutPlan c pe g.lo, shoots := g.shoots ++ [(c, pe)] })
    let s := if c < w ∧ s.owns (l / 6) then requestUrgent (l / 6) (.targeted (Nat.land (s.fitted (l / 6)) (legMask (l % 6 * 2))) false) s else s
    raise (Src.MOD_SHOOT_REQ) ((s.inc (R.LEG_STAT.SHOOTS l)).set R.MOD_STAT.LAST_SHOOT_LEG l)

/-- SHOOT_OFF (R256): the leg is both-off under R245 now. -/
def State.shootOff (s : State) (l : Nat) : Bool := (s.leg l).shoots.any (fun x => x.1 ≤ s.groupTime && s.groupTime < x.2)

/-- The commanded level of a gate of cell n (R238, R248, R261, R270, R322). -/
def State.commanded (s : State) (n g t : Nat) : Bool :=
  let x := s.leg (6 * n + g / 2)
  bitAt (s.fitted n) g && !bitAt (s.get (R.GSC_STAT.OFF_GATES n)) g && !s.tripHolds n && !x.abort
    && planOn (if g % 2 = 0 then x.hi else x.lo) t

/-- The edges of one gate in a window, from the level that earlier frames leave. -/
def gateEdges (s : State) (n w e g : Nat) : List Edge :=
  let pts := w :: planPoints w e (s.leg (6 * n + g / 2))
  (pts.foldl (fun (acc : Bool × List Edge) t =>
    let b := s.commanded n g t
    if b = acc.1 then acc else (b, acc.2 ++ [{ gate := g, level := b, tick := (t : Int) - w }])) (bitAt (s.link n).levels g, [])).2

/-- The engine hands over the edges of cell n for the frame of the next cut-off (R29, R195, R237, R238). -/
def handOver (n : Nat) (s : State) : State :=
  if s.driven n && (s.link n).driven && s.get (R.GSC_STAT.STATE n) != 1 then
    let w := (s.frame + (if s.tickInFrame ≤ 896 then 2 else 3)) * 1024
    let s := s.each (List.range 6) (fun i s => interlock w (w + 1024) (6 * n + i) s)
    let es := (List.range 12).flatMap (gateEdges s n w (w + 1024))
    let s := s.modLink n (fun l => { l with edges := (sortEdges es).take 12, muted := 0 })
    if es.length > 12 then raise (Src.LKN_EDGE_OVERFLOW n) s else s
  else s

/-! ### Trip inputs, R246 to R250 -/

/-- The cells that a trip input names (R247). -/
def State.tripCells (s : State) (i : Nat) : List Nat :=
  lanes64.filter (fun n => match s.stringOf n with | some t => bitAt (s.get (R.TRIP_CFG.STRINGS i)) t | none => false)

/-- The frame in which CLEAR_HOLD goes out: the one before the frame of the next ZERO of the cell's carriers (R247). -/
def State.clearFrame (s : State) (n : Nat) : Nat :=
  let zs := (List.range 6).filterMap (fun i =>
    ((s.car (s.get (R.LEG_CFG.CARRIER (6 * n + i)))).cur).map (fun p => p.zero + p.len))
  match zs with
  | [] => s.frame
  | z :: t => (t.foldl min z) / 1024 - 1

/-- A leg is in dead time (R249): no gate is on and the last off-edge lies less than DT back. -/
def inDeadTime (t : Nat) (g : LegSt) : Bool :=
  !planOn g.hi t && !planOn g.lo t && ((g.hi ++ g.lo).any (fun x => x.2 ≤ t && t < x.2 + dtAt t g))

/-- Drop the first interval that begins after an instant. -/
def dropNext (t : Nat) : List (Nat × Nat) → List (Nat × Nat)
  | [] => []
  | x :: xs => if t < x.1 then xs else x :: dropNext t xs

/-- The trip takes one leg's masked gates off to the end of its period, and suppresses the next on-edge of a leg in dead
time (R247, R249). -/
def tripLeg (all : Bool) (l : Nat) (s : State) : State :=
  let t := s.groupTime
  let pe := s.periodEnd (s.get (R.LEG_CFG.CARRIER l)) t
  let g := s.leg l
  let dead := inDeadTime t g
  let edit (p : List (Nat × Nat)) : List (Nat × Nat) := cutPlan t pe (if dead then dropNext t p else p)
  let none' (p : List (Nat × Nat)) : Bool := dead && !(p.any (fun x => t < x.1))
  (s.modLeg l (fun g => { g with hi := edit g.hi, supHi := g.supHi || none' g.hi, lo := if all then edit g.lo else g.lo, supLo := g.supLo || (all && none' g.lo) })).set (R.LEG_STAT.TRIP_HELD l) 1

/-- The action of a trip on one cell (R247, R248); no CLEAR_HOLD follows before a latch clears. -/
def tripCell (mask : Nat) (soft all latched : Bool) (n : Nat) (s : State) : State :=
  let s := requestUrgent n (.targeted (Nat.land mask (s.fitted n)) soft) s
  let s := s.each (List.range 6) (fun i s => tripLeg all (6 * n + i) s)
  s.modGate n (fun g => { g with tripClear := if latched then none else some (s.clearFrame n) })

/-- A filtered trip input becomes active (R246 to R250); in Standby, Cold hold and Slate it is ignored (R43). -/
def tripActive (i : Nat) (s : State) : State :=
  if s.inState [.boot, .configure, .armed, .run, .safe] && s.bit (R.TRIP_CFG.EN i) && !s.bit (R.TRIP_STAT.TRIPACT i) then
    let s := ((s.set (R.TRIP_STAT.TRIPACT i) 1).inc (R.TRIP_STAT.CNT i)).inc (R.TRIP_STAT.TOTAL i)
    let s := raise (Src.MOD_TRIP_EVENT i) s
    let s := if s.bit (R.TRIP_STAT.CLR_PENDING i) then tripRecovery i false (raise (Src.MOD_TRIP_CLR_REFUSED) (s.set (R.TRIP_STAT.CLR_PENDING i) 0)) else s
    let latch := s.bit (R.TRIP_CFG.LATCH_EN i) && s.get (R.TRIP_STAT.CNT i) ≥ s.get (R.TRIP_CFG.N i) && !s.bit (R.TRIP_STAT.LATCHED i)
    let s := if latch then raise (Src.MOD_TRIP_LATCHED i) (s.set (R.TRIP_STAT.LATCHED i) 1) else s
    let held := s.bit (R.TRIP_STAT.LATCHED i)
    let all := s.bit (R.TRIP_CFG.GATES i)
    let s := s.each (s.tripCells i) (tripCell (if all then 0xFFF else 0x555) (s.bit (R.TRIP_CFG.SOFT i)) all held)
    if latch && s.get (R.FC_SEV 6 8) ≥ 2 then s.each (s.tripCells i) (tripCell 0xFFF (s.bit (R.TRIP_CFG.SOFT i)) true true) else s
  else s

/-- The latch and CNT clear (R250): where the latch held the cells, their legs resume at the next period opening, and CLEAR_HOLD follows (R248). -/
def tripCleared (i : Nat) (s : State) : State :=
  if s.bit (R.TRIP_STAT.CLR_PENDING i) && !s.bit (R.TRIP_STAT.TRIPACT i) then
    let was := s.bit (R.TRIP_STAT.LATCHED i)
    let s := tripRecovery i true (((s.set (R.TRIP_STAT.CLR_PENDING i) 0).set (R.TRIP_STAT.LATCHED i) 0).set (R.TRIP_STAT.CNT i) 0)
    if was then
      s.each (s.tripCells i) (fun n s =>
        if s.tripHolds n then s
        else
          let s := if s.get (R.FC_SEV 6 8) < 2 then s else s.each (List.range 6) (fun j s =>
            s.modLeg (6 * n + j) (fun g => { g with hi := cutPlan s.groupTime g.planEnd g.hi, lo := cutPlan s.groupTime g.planEnd g.lo }))
          s.modGate n (fun g => { g with tripClear := some (s.clearFrame n) }))
    else s
  else s

/-- CLR (R250). -/
def tripClr (i : Nat) (s : State) : State :=
  if s.bit (R.TRIP_STAT.TRIPACT i) then raise (Src.MOD_TRIP_CLR_REFUSED) s else s.set (R.TRIP_STAT.CLR_PENDING i) 1

/-! ### Commands -/

/-- CARRIER_ENABLE, R228. -/
def execCarrierEnable (k : Fin 64) (s : State) : Host.Outcome State Fault Refusal := .next (enableCar k s)

/-- CARRIER_DISABLE, R228. -/
def execCarrierDisable (k : Fin 64) (s : State) : Host.Outcome State Fault Refusal := .next (disableCar k s)

/-- CARRIER_EVENT, R230. -/
def execCarrierEvent (k : Fin 64) (e : CarEvt) (s : State) : Host.Outcome State Fault Refusal := .next (carrierEvent k e s)

/-- PERIOD_OPENING, R237. -/
def execPeriodOpening (k : Fin 64) (s : State) : Host.Outcome State Fault Refusal := .next (openPeriod k s)

/-- GROUP_COMMIT_WRITE, R236. -/
def execGroupCommitWrite (v : Nat) (s : State) : Host.Outcome State Fault Refusal := .next (commitGroups v s)

/-- EDGE_HANDOVER, R237. -/
def execEdgeHandover (n : Fin 64) (s : State) : Host.Outcome State Fault Refusal := .next (handOver n s)

/-- TRIP_ACTIVE, R246. -/
def execTripActive (i : Fin 8) (s : State) : Host.Outcome State Fault Refusal := .next (tripActive i s)

/-- TRIP_INACTIVE, R246. -/
def execTripInactive (i : Fin 8) (s : State) : Host.Outcome State Fault Refusal := .next (s.set (R.TRIP_STAT.TRIPACT i) 0)

/-- TRIP_REARM, R246: CNT returns to 0 after REARM µs inactive. -/
def execTripRearm (i : Fin 8) (s : State) : Host.Outcome State Fault Refusal :=
  .next (if s.bit (R.TRIP_STAT.TRIPACT i) then s else s.set (R.TRIP_STAT.CNT i) 0)

/-- TRIP_CLR, R250. -/
def execTripClr (i : Fin 8) (s : State) : Host.Outcome State Fault Refusal := .next (tripClr i s)

/-- TRIP_CLEAR_COMPLETE, R250. -/
def execTripClearComplete (i : Fin 8) (s : State) : Host.Outcome State Fault Refusal := .next (tripCleared i s)

end Sys2Proof.Machine
end

