-- ==== Sys2Proof/Machine/Balancer.lean ====
section
/-!
DEFINITION. Machine/Balancer.lean: string balancing, sorts and the duplex pair (10_balancing_duplex.md).
-/
namespace Sys2Proof.Machine

/-! ### Reserves, insertion and bypass limits, R288 to R293 -/

/-- The 16-bit key of a cell (R294); none where it holds its invalid code. -/
def State.keyOf (s : State) (t n : Nat) : Option Int :=
  if s.bit (R.STR_CFG.KEY_SRC t) then upTemp0 (s.link n).up else (upVcap (s.link n).up).map (fun v => (v : Int))

/-- A cell that R288 may open. -/
def State.reserve (s : State) (t n : Nat) : Bool := bitAt (s.members t) n && s.usable n && s.balState n == 1 && !s.heldOut n

/-- `a` is chosen before `b`: a valid key before none, the highest VCAP or the lowest TEMP0 first (R288). -/
def State.chosenBefore (s : State) (t a b : Nat) : Bool :=
  match s.keyOf t a, s.keyOf t b with
  | some x, some y => if s.bit (R.STR_CFG.KEY_SRC t) then x < y else y < x
  | some _, none => true
  | none, _ => false

/-- The reserve cell that a cold string opens next. -/
def State.reserveCell (s : State) (t : Nat) : Option Nat :=
  (lanes64.filter (s.reserve t)).foldl (fun b n => match b with
    | none => some n
    | some m => if s.chosenBefore t n m then some n else some m) none

/-- A cold string below N_REQ opens one reserve (R288). -/
def reserveOpen (t : Nat) (s : State) : State :=
  if s.inState [.run] && !s.standby && s.strEn t && s.bit (R.STR_CFG.RESERVE_MODE t)
      && s.wantedCount t < s.get (R.STR_CFG.N_REQ t) then
    match s.reserveCell t with
    | none => s
    | some n => raise (Src.STR_RESERVE_INSERTED t) (openCell n s)
  else s

/-- Hot strings open every cell they want (R288). -/
def openHot (s : State) : State :=
  if s.inState [.run] && !s.standby then s.each lanes64 (fun n s =>
    if s.usable n && s.balState n == 1 && s.wants n
        && (match s.stringOf n with | some t => !s.bit (R.STR_CFG.RESERVE_MODE t) | none => false) then openCell n s else s)
  else s

/-- Entry to Run (R287): hot strings open every cell they want; cold strings follow by R288. Legs refresh first (R242). -/
def startStrings (s : State) : State :=
  checkStrings (openHot (s.each legs384 (fun l s => s.modLeg l (fun g => { g with q := none }))))

/-- The time limit of R290 has passed; a head without a bypass is closed after 8 frames. -/
def bypassTimeout (n : Nat) (s : State) : State :=
  let b := descBypassTime (s.link n).desc
  let f := (s.cell n).since
  if s.balState n = 2 ∧ s.frame ≥ f + b + 12 then checkStrings (raise (Src.BC_OPEN_FAIL n) (setBal n 5 s))
  else if s.balState n = 4 ∧ descBypassType (s.link n).desc = 0 then
    if s.frame ≥ f + 8 then checkStrings (setBal n 1 s) else s
  else if s.balState n = 4 ∧ s.frame ≥ f + b + 8 then
    checkStrings (raise (Src.BC_CLOSE_FAIL n) (setBal n 5 s))
  else s

/-- INSERT (R293). -/
def State.insertable (s : State) (n : Nat) : Bool := s.usable n && s.balState n == 1 && s.inState [.run] && !s.standby

def insertCell (n : Nat) (s : State) : State :=
  if s.insertable n then checkStrings (openCell n (s.set (R.BC_STAT.HELD_OUT n) 0)) else refuse (Src.BAL_SETTING_REFUSED) s

/-- PARK (R286, R293). -/
def State.parkable (s : State) (n : Nat) : Bool :=
  (s.balState n == 2 || s.balState n == 3 || s.balState n == 5) && !s.standby

def parkCell (n : Nat) (s : State) : State :=
  if s.parkable n then
    let st := s.balState n
    let s := s.set (R.BC_STAT.HELD_OUT n) 1
    checkStrings (if st = 5 then (if s.headClosed n then setBal n 1 s else s) else closeCell n s)
  else refuse (Src.BAL_SETTING_REFUSED) s

/-! ### Sorts, R294 to R296 -/

/-- Place a cell among the ranked ones: rank 0 holds the lowest key, ties the lower cell number. -/
def insertRank (x : Nat × Int) : List (Nat × Int) → List (Nat × Int)
  | [] => [x]
  | y :: ys => if y.2 ≤ x.2 then y :: insertRank x ys else x :: y :: ys

/-- The sort of string t on the inputs of now: the usable cells in use, ranked, and those without a key. -/
def State.sortOf (s : State) (k t : Nat) : SortReq :=
  let cs := lanes64.filter (fun n => bitAt (s.members t) n && s.usable n && s.balState n == 3)
  let ranked := cs.foldl (fun a n => match s.keyOf t n with | some x => insertRank (n, x) a | none => a) []
  { ctx := k, ranked := ranked.map (fun x => (x.1, ofInt 16 x.2)), bad := cs.filter (fun n => (s.keyOf t n).isNone) }

/-- A sort leaves the network (R294 to R296): its context may read it, BC_SORT shows it, and KEY_INVALID is raised once for
each entry to that condition. -/
def sortComplete (t : Nat) (s : State) : State :=
  match (s.str t).sortPending with
  | [] => s
  | r :: rest =>
    let s := s.modStr t (fun x => { x with sortPending := rest })
    let s := s.modCtx r.ctx (fun c => { c with run := c.run.map (fun q => { q with ready := setBitAt q.ready t true }) })
    let s := s.each (bitList 64 (s.members t)) (fun n s => s.set (R.BC_SORT.RANKED n) 0)
    let s := s.each (r.ranked.zipIdx) (fun x s =>
      ((s.set (R.BC_SORT.RANKED x.1.1) 1).set (R.BC_SORT.RANK x.1.1) x.2).set (R.BC_SORT.KEY x.1.1) x.1.2)
    let entered := r.bad.filter (fun n => !(s.cell n).keyBad)
    let s := s.each (bitList 64 (s.members t)) (fun n s => s.modCell n (fun c => { c with keyBad := r.bad.contains n }))
    if entered = [] then s else raise (Src.STR_KEY_INVALID t) s

/-! ### Duplex roles, R297, R298 -/

/-- The mask of cells this device owns. -/
def State.ownedMask (s : State) : Nat := maskOf s.owns
def State.admittedMask (s : State) : Nat := maskOf s.admitted

/-- Own every ADMITTED lane (R297). -/
def ownAll (s : State) : State := s.each lanes64 (fun n s => if s.admitted n then own n s else s)

/-- Own every ADMITTED lane from the next frame boundary (R35, R300); a release of the same frame yields to it (R304). -/
def ownAllNext (s : State) : State :=
  s.each lanes64 (fun n s => if s.admitted n && !s.willOwn n then s.modCell n (fun c => { c with ownNext := some (s.frame + 1, true) }) else s)

/-- The ring map is COMPLETE and shows the partner position empty (R298), or no spine lane is enabled (R423). -/
def State.partnerEmpty (s : State) : Bool :=
  !(List.range 4).any (fun i => s.bit (R.SL_CTRL.EN i) && !bitAt s.sec.deadSpine i) ||
  match s.spine.map with | some m => m.complete && !bitAt m.present s.partner | none => false

/-- The device takes its role in Armed once a rule of R298 holds; a duplicated position takes none (R423). -/
def decideRole (s : State) : State :=
  if s.dx.decided || !s.inState [.armed, .run, .safe] || s.duplicated then s
  else if s.dx.alone ≥ 64 then
    ownAll ({ (s.set R.BAL_STAT.ROLE 0).set R.BAL_STAT.PARTNER 3 with dx := { s.dx with decided := true } })
  else if s.dx.hbRun ≥ 16 then
    let h := s.dx.last.getD {}
    let mine := s.bit R.BAL_CTRL.PREFER
    let owner := h.owned == 0 && (if mine = bitAt h.flags 0 then s.pos % 2 == 0 else mine)
    let s := { s.set R.BAL_STAT.ROLE (if owner then 1 else 2) with dx := { s.dx with decided := true } }
    if owner then ownAll s else s
  else s

/-! ### Heartbeats, R299 to R305 -/

/-- Group time is settled (R304). -/
def State.settled (s : State) : Bool := s.isRoot || s.tsState == 6

/-- READY may be held: the device is in Armed, Run or Safe with its group time settled (R304). -/
def State.mayReady (s : State) : Bool := s.settled && s.inState [.armed, .run, .safe]
def State.ready (s : State) : Bool := s.dx.ready && s.mayReady

/-- READY clears where it may no longer be held. -/
def dropReady (s : State) : State := if s.mayReady then s else { s with dx := { s.dx with ready := false } }

/-- The 68 bytes of this device's heartbeat (R299). -/
def State.heartbeat (s : State) : List Byte :=
  let flags := b2n (s.bit R.BAL_CTRL.PREFER) + 2 * b2n s.dx.reclaimReq + 4 * b2n s.ready
  let iso := maskOf (fun n => !s.monitor n)
  let inUse := maskOf (fun n => s.balState n == 3)
  let parked := maskOf (fun n => s.balState n == 1)
  let b := leBytes 1 0x48 ++ leBytes 1 flags ++ leBytes 1 s.pos ++ leBytes 1 s.pw.state.code ++ leBytes 4 s.frame
    ++ leBytes 8 s.ownedMask ++ leBytes 8 s.admittedMask ++ leBytes 8 iso ++ leBytes 8 inUse ++ leBytes 8 parked
    ++ leBytes 8 s.dx.releaseNext ++ leBytes 8 (leAt s.dx.config 0 8)
  b ++ leBytes 4 (crc32 b)

/-- A lane in UP leads directly to the partner position: east for an even P, west for an odd one (R410, R421). -/
def State.direct (s : State) : Bool :=
  let d := s.pos % 2
  [2 * d, 2 * d + 1].any (fun i => s.spineUp i && s.get (R.SL_STAT.NB_POS i) == s.partner)

/-- Send the heartbeat to the partner, where it is the direct neighbour (R299, R421). Cells shown in RELEASE to a READY partner are kept to the end of
this frame (R36, R302, R303, R304). -/
def heartbeatSend (s : State) : State :=
  if s.inState [.configure, .armed, .run, .safe] then
    let seq := Tab.get 0 s.spine.seq 1
    let dir := s.pos % 2
    let bs := message 0x48 1 0 s.pos s.partner seq s.heartbeat
    let rel := s.dx.releaseNext
    let s := if s.direct then { s.transmit dir bs with spine := { (s.transmit dir bs).spine with seq := Tab.set 0 s.spine.seq 1 ((seq + 1) % 65536) } } else s
    let s := { s with dx := { s.dx with releaseNext := 0, reclaimReq := false } }
    if rel ≠ 0 ∧ bitAt (s.dx.last.getD {}).flags 2 then
      let all := s.ownedMask = rel
      let s := s.each (bitList 64 rel) (fun n s => s.modCell n (fun c => { c with ownNext := some (s.frame + 1, false), split := false }))
      let s := s.inc R.BAL_STAT.HANDBACKS
      if all then s.set R.BAL_STAT.ROLE 2 else s
    else s
  else s

/-- The owner may hand back (R303). -/
def State.mayRelease (s : State) : Bool :=
  let h := s.dx.last.getD {}
  let need := Nat.lor (maskOf (fun n => s.balState n == 3)) (maskOf (fun n => s.balState n == 1))
  bitAt h.flags 2 && Nat.land need h.admitted == need && h.isolated == maskOf (fun n => !s.monitor n)
    && h.config == leAt s.dx.config 0 8
    && ((s.inState [.run] && h.state == 7) || (s.inState [.armed] && h.state == 6))

/-- The owner answers a request for hand-back (R303). -/
def handBack (s : State) : State :=
  if s.mayRelease then { s with dx := { s.dx with releaseNext := s.ownedMask } } else raise (Src.BAL_HANDBACK_REFUSED) s

/-- The standby takes its balancer and supervision states from the owner (R265, R301). -/
def mirror1 (h : Heartbeat) (n : Nat) (s : State) : State :=
  if s.owns n then s
  else
    let st := if bitAt h.inUse n then 3 else if bitAt h.parked n then 1 else if s.inString n then 1 else 0
    let s := if st = 3 && s.balState n != 3 then s.modGate n (fun g => { g with bootEval := 0 }) else s
    let s := setBal n st s
    if bitAt h.isolated n then
      if s.monitor n then holdWhole n (offGates n (s.fitted n) (setSup n 2 (s.inc (R.GSC_COUNTS.ISOLATIONS n)))) else s
    else if s.monitor n then s
    else if (match (s.gate n).isoAt with | some f => decide (s.frame < f + 16) | none => s.get (R.GSC_STAT.STATE n) == 1) then s
    else returnMonitor n s

/-- A release received (R36, R302 to R304): this device owns from the next frame boundary. -/
def takeRelease (h : Heartbeat) (s : State) : State :=
  let m := Nat.land h.release s.admittedMask
  if h.release ≠ 0 ∧ s.ready then
    let s := s.each (bitList 64 m) (fun n s => s.modCell n (fun c => { c with ownNext := some (s.frame + 1, true), split := false }))
    let s := s.inc R.BAL_STAT.HANDBACKS
    if h.release = h.owned then openHot (ownAllNext (s.set R.BAL_STAT.ROLE 1)) else s
  else s

/-- Ownership is split where the owner no longer shows a lane ADMITTED that this device holds ADMITTED (R302). -/
def splitCells (h : Heartbeat) (s : State) : State :=
  s.each lanes64 (fun n s =>
    if s.role ≥ 2 && bitAt s.dx.prevOwned n && !bitAt h.admitted n && s.admitted n && !s.owns n then
      (s.set R.BAL_STAT.ROLE 3).modCell n (fun c => { c with ownNext := some (s.frame + 1, true), split := true })
    else if (s.role == 1 || s.role == 3) && !s.owns n && bitAt h.owned n && !(s.cell n).split then
      (s.set R.BAL_STAT.ROLE 3).modCell n (fun c => { c with split := true })
    else s)

/-- The split ends when no cell is split any more: the device that owns cells is owner, and owns every ADMITTED lane; the other is standby (R297, R302). -/
def endSplit (s : State) : State :=
  if s.role == 3 && lanes64.all (fun n => !(s.cell n).split) then
    if lanes64.any s.willOwn then ownAllNext (s.set R.BAL_STAT.ROLE 1) else s.set R.BAL_STAT.ROLE 2
  else s

/-- Compare the partner's CONFIG (R305). -/
def compareConfig (h : Heartbeat) (s : State) : State :=
  if s.dx.config = [] ∨ h.config = 0 then s
  else
    let bad := decide (h.config ≠ leAt s.dx.config 0 8)
    let enter := bad && !s.dx.mismatch
    let s := { s with dx := { s.dx with mismatch := bad } }
    if enter then raise (Src.BAL_CONFIG_MISMATCH) s else s

/-- A valid heartbeat (R300 to R305); a device that ran alone is the owner of the pair again (log 71). -/
def goodHeartbeat (h : Heartbeat) (s : State) : State :=
  let d := s.dx
  let s := { s with dx := { d with prevOwned := (d.last.getD {}).owned, last := some h, current := true, inWindow := true, hbRun := min 1000000 (d.hbRun + 1), alone := 0, cleanFrom := some (d.cleanFrom.getD s.frame) } }
  let s := (s.set R.BAL_STAT.MISSES 0).set R.BAL_STAT.PARTNER 1
  let s := s.each lanes64 (fun n s =>
    let a := bitAt h.admitted n
    (s.setBit (R.BC_STAT.PARTNER_ADMITTED n) a).modCell n (fun c => { c with partnerSince := if a then some (c.partnerSince.getD s.frame) else none }))
  let s := compareConfig h s
  if s.dx.decided then
    let s := if s.role = 0 then s.set R.BAL_STAT.ROLE 1 else s
    let s := endSplit (splitCells h (takeRelease h s))
    let s := checkStrings (if s.role ≥ 2 then s.each lanes64 (mirror1 h) else s)
    if s.role == 1 && bitAt h.flags 1 then handBack s else s
  else decideRole s

/-- A heartbeat message arrives (R300). -/
def heartbeatRx (bs : List Byte) (s : State) : State :=
  let h := heartbeatOf bs
  if heartbeatGood bs && h.pos == s.partner && h.frame == s.frame % 2 ^ 32 then goodHeartbeat h s else raise (Src.BAL_HB_BAD) s

/-- The third miss (R35, R300): the standby takes every cell, the owner goes on alone. -/
def partnerLost (s : State) : State :=
  let s := { s with dx := { s.dx with current := false, reclaimReq := false, releaseNext := 0 } }
  let s := s.set R.BAL_STAT.PARTNER 2
  if s.dx.decided && s.role ≠ 0 then
    let s := ownAllNext (if s.role ≥ 2 then s.inc R.BAL_STAT.TAKEOVERS else s)
    let s := s.each lanes64 (fun n s => s.modCell n (fun c => { c with split := false }))
    checkStrings (openHot (raise (Src.BAL_PARTNER_LOST) (s.set R.BAL_STAT.ROLE 0)))
  else s

/-- A heartbeat window closes (R35, R298, R304). -/
def windowClose (s : State) : State :=
  let s := dropReady s
  if s.dx.inWindow then { s with dx := { s.dx with inWindow := false } }
  else
    let past := s.inState [.slate, .configure, .armed, .run, .safe]
    let s := { s with dx := { s.dx with hbRun := 0, cleanFrom := none, alone := if past && s.partnerEmpty then min 64 (s.dx.alone + 1) else 0 } }
    if s.dx.current then
      let s := s.set R.BAL_STAT.MISSES (s.get R.BAL_STAT.MISSES + 1)
      if s.get R.BAL_STAT.MISSES ≥ 3 then partnerLost s else s
    else s

/-- The holder of a split cell releases it (R302). -/
def cellReclaim (n : Nat) (s : State) : State :=
  let since := (s.cell n).partnerSince
  if s.owns n && (s.cell n).split && (match since with | some f => s.frame ≥ f + 64 | none => false) then
    { s with dx := { s.dx with releaseNext := Nat.lor s.dx.releaseNext (2 ^ n) } }
  else s

/-- The preferred standby asks for its cells after HB_QUAL seconds of clean heartbeats (R303): 1,000,000 frames a second. -/
def reclaimRequest (s : State) : State :=
  let long := match s.dx.cleanFrom with | some f => s.frame ≥ f + s.get R.BAL_CTRL.HB_QUAL * 1000000 | none => false
  if s.standby && s.bit R.BAL_CTRL.PREFER && s.get R.BAL_CTRL.HANDBACK == 1 && long then
    { s with dx := { s.dx with reclaimReq := true, cleanFrom := some s.frame } }
  else s

/-- HANDBACK_GO (R303, R307). -/
def handbackGo (s : State) : State :=
  if s.get R.BAL_CTRL.HANDBACK = 2 ∧ s.role = 1 then handBack s else refuse (Src.BAL_SETTING_REFUSED) s

/-! ### Commands -/

/-- RESERVE_OPEN, R288. -/
def execReserveOpen (t : Fin 8) (s : State) : Host.Outcome State Fault Refusal := .next (reserveOpen t s)

/-- BYPASS_TIMEOUT, R290. -/
def execBypassTimeout (n : Fin 64) (s : State) : Host.Outcome State Fault Refusal := .next (bypassTimeout n s)

/-- INSERT, R293. -/
def execInsert (n : Fin 64) (s : State) : Host.Outcome State Fault Refusal := .next (insertCell n s)

/-- PARK, R293. -/
def execPark (n : Fin 64) (s : State) : Host.Outcome State Fault Refusal := .next (parkCell n s)

/-- SORT_COMPLETE, R295. -/
def execSortComplete (t : Fin 8) (s : State) : Host.Outcome State Fault Refusal := .next (sortComplete t s)

/-- HEARTBEAT_SEND, R299. -/
def execHeartbeatSend (s : State) : Host.Outcome State Fault Refusal := .next (heartbeatSend s)

/-- HEARTBEAT_RX, R300. -/
def execHeartbeatRx (bs : List Byte) (s : State) : Host.Outcome State Fault Refusal := .next (heartbeatRx bs s)

/-- HEARTBEAT_WINDOW_CLOSE, R35. -/
def execHeartbeatWindowClose (s : State) : Host.Outcome State Fault Refusal := .next (windowClose s)

/-- ALONE_DECISION, R298. -/
def execAloneDecision (s : State) : Host.Outcome State Fault Refusal := .next (if s.dx.alone ≥ 64 then decideRole s else s)

/-- CELL_RECLAIM, R302. -/
def execCellReclaim (n : Fin 64) (s : State) : Host.Outcome State Fault Refusal := .next (cellReclaim n s)

/-- RECLAIM_REQUEST, R303. -/
def execReclaimRequest (s : State) : Host.Outcome State Fault Refusal := .next (reclaimRequest s)

/-- HANDBACK_GO, R303. -/
def execHandbackGo (s : State) : Host.Outcome State Fault Refusal := .next (handbackGo s)

/-- DUPLEX_READY, R304. -/
def execDuplexReady (s : State) : Host.Outcome State Fault Refusal :=
  .next (if s.mayReady then { s with dx := { s.dx with ready := true } } else s)

end Sys2Proof.Machine
end

