-- ==== Sys2Proof/Machine/Accuracy.lean ====
section
/-!
DEFINITION. Machine/Accuracy.lean: how near a synchrophasor report comes to the signal at the modulators (13_metrology.md R376). The estimates themselves are
open (log 6); each is any value within the figures of R376.
-/
namespace Sys2Proof.Machine

/-- Measured TVE, FE in Hz and RFE in Hz/s of a class (true for M) under a signal, f0 and Fs (R376): none where the table has no figure. A step counts as a steady
state once the response time has passed, and before the step. -/
def figures (m : Bool) (f0 fs : Nat) : Signal → Option (Rat × Rat × Rat)
  | .steady => some (mkRat 5 10000, if m then mkRat 4 10000 else mkRat 5 10000, if m then mkRat 6 1000 else mkRat 20 1000)
  | .harmonics => some (if m then mkRat 35 10000 else mkRat 12 10000, if m then mkRat 8 1000 else mkRat 2 1000, if m then mkRat 9 10 else mkRat 15 100)
  | .outOfBand => if m then some (mkRat 60 10000, mkRat 4 1000, mkRat 11 10) else none
  | .modulation => some (if m then mkRat 140 10000 else mkRat 90 10000, if m then mkRat 90 1000 else mkRat 20 1000, if m then mkRat 31 10 else mkRat 6 10)
  | .ramp => some (if m then mkRat 30 10000 else mkRat 20 10000, if m then mkRat 4 1000 else mkRat 3 1000, if m then mkRat 5 100 else mkRat 8 100)
  | .step us _ =>
    let response : Rat := if m then mkRat (51 * 100000) fs else mkRat (155 * 10000) f0
    if us < 0 ∨ response ≤ (us : Rat) then
      some (mkRat 5 10000, if m then mkRat 4 10000 else mkRat 5 10000, if m then mkRat 6 1000 else mkRat 20 1000)
    else none
  | .other => none

/-- The point of a phasor in the plane: rectangular, or magnitude and angle in radians. -/
def pointOf (polar : Bool) (p : Nat × Nat) : Rat × Rat :=
  let a := val32 p.1
  let b := val32 p.2
  if polar then (a * cosTurns (b / (2 * piRat)), a * sinTurns (b / (2 * piRat))) else (a, b)

/-- A phasor at a point, in the format of the report. -/
def phasorAt (polar : Bool) (x : Rat × Rat) : Nat × Nat :=
  if polar then
    (round32 (sqrtRat (x.1 * x.1 + x.2 * x.2)), if x.1 = 0 ∧ x.2 = 0 then 0 else round32 (atanTurns x.2 x.1 * (2 * piRat)))
  else (round32 x.1, round32 x.2)

/-- A phasor turned by `t` turns. -/
def turned (t : Rat) (x : Rat × Rat) : Rat × Rat := (x.1 * cosTurns t - x.2 * sinTurns t, x.1 * sinTurns t + x.2 * cosTurns t)

def norm2 (x : Rat × Rat) : Rat := x.1 * x.1 + x.2 * x.2
def away (x y : Rat × Rat) : Rat × Rat := (x.1 - y.1, x.2 - y.2)

/-- After a step, and before the steady figures hold again: the place of the estimate on the way from the old phasor to the new one, 0 to 1, leaves that way by
no more than the overshoot, and is past the middle after the delay time (R376; log 96). -/
def stepOk (m : Bool) (fs : Nat) (us : Int) (old new x : Rat × Rat) : Bool :=
  let d := away new old
  let shoot : Rat := if m then mkRat 58 1000 else mkRat 32 1000
  let place := (x.1 - old.1) * d.1 + (x.2 - old.2) * d.2
  let n := norm2 d
  decide (-(shoot * n) ≤ place) && decide (place ≤ (1 + shoot) * n) && (decide ((us : Rat) ≤ mkRat (2 * 10000) fs) || decide (n ≤ 2 * place))

/-- A phasor estimate meets R376: `now` and `before` are the phasors at the report instant and before a step. -/
def phasorOk (m polar : Bool) (f0 fs : Nat) (sig : Signal) (now before : Rat × Rat) (p : Nat × Nat) : Bool :=
  let x := pointOf polar p
  let near (tve : Rat) (y : Rat × Rat) : Bool := decide (norm2 (away x y) ≤ (tve - slack) * (tve - slack) * norm2 y)
  match figures m f0 fs sig, sig with
  | some (tve, _), .step us _ => near tve (if us < 0 then before else now)
  | some (tve, _), _ => near tve now
  | none, .step us _ => stepOk m fs us before now x
  | none, _ => true

/-- The phasor reported: the choice where it meets the figures, else the phasor applied. -/
def phasorWithin (m polar : Bool) (f0 fs : Nat) (sig : Signal) (now before : Rat × Rat) (p : Nat × Nat) : Nat × Nat :=
  if phasorOk m polar f0 fs sig now before p then p
  else phasorAt polar (match sig with | .step us _ => if us < 0 then before else now | _ => now)

/-- The frequency reported. -/
def freqWithin (m : Bool) (f0 fs : Nat) (a : Applied) (p : Nat) : Nat :=
  match figures m f0 fs a.signal with
  | some (_, fe, _) => within (fun x => absRat (x - val32 a.freq) ≤ fe) a.freq p
  | none => p

/-- The ROCOF reported. -/
def rocofWithin (m : Bool) (f0 fs : Nat) (a : Applied) (p : Nat) : Nat :=
  match figures m f0 fs a.signal with
  | some (_, _, rfe) => within (fun x => absRat (x - val32 a.rocof) ≤ rfe) a.rocof p
  | none => p

end Sys2Proof.Machine
end

