-- ==== Sys2Proof/Machine/Control.lean ====
section
/-!
DEFINITION. Machine/Control.lean: the control engine around its programs (11_control_engine.md): tiles, triggers, sample
boundaries, releases, overruns, banks, set-points, injection and capture.
-/
namespace Sys2Proof.Machine

/-- Set-point j of context k: target, step limit and applied value (R334). -/
def R.SP_TGT (k j : Nat) : Fld := ⟨0x96000 + 0x40 * k + 4 * j, 0, 32, .rw, 0⟩
def R.SP_STEP (k j : Nat) : Fld := ⟨0x96020 + 0x40 * k + 4 * j, 0, 32, .rw, 0⟩
def R.SP_APP (k j : Nat) : Fld := ⟨0x98000 + 0x20 * k + 4 * j, 0, 32, .ro, 0⟩

def State.modEng (s : State) (f : Engine → Engine) : State := { s with eng := f s.eng }

/-! ### Tiles, R310 -/

/-- The good physical tiles of this Boot, in ascending order. -/
def State.goodTiles (s : State) : List Nat := (List.range 36).filter (fun t => !bitAt s.eng.badUsed t)

/-- The logical tile of a physical tile, where it has one. -/
def State.logicalOf (s : State) (t : Nat) : Option Nat :=
  (List.range 32).find? (fun i => s.goodTiles[i]? == some t)

/-- A context's logical tile is missing. -/
def State.unavailable (s : State) (k : Nat) : Bool := s.goodTiles.length ≤ k / 4

def State.ctxState (s : State) (k : Nat) : Nat := s.get (R.CX_STAT.STATE k)
def State.ctxActive (s : State) (k : Nat) : Bool := s.ctxState k == 1 || s.ctxState k == 2

/-! ### Injection, R330 -/

/-- The injection ends (R330). -/
def endInjection (s : State) : State :=
  let (s, l) := stopInjection s
  report l s

/-- The generator cannot serve its context (R330). -/
def State.injDead (s : State) : Bool := !s.inState [.armed, .run] || !s.ctxActive (s.get R.INJ_CFG.INJ_CTX)

/-- End the injection where its context or the device has left the states of R330. -/
def checkInjection (s : State) : State := if s.eng.inj.on && s.injDead then endInjection s else s

/-- START (R330): the generator starts afresh; a first sample that an earlier START has had since the capture was armed stands (R331). -/
def startInjection (s : State) : State :=
  checkInjection (s.modEng (fun e => { e with inj := { on := true, fresh := true, synced := e.inj.synced } }))

/-- The LFSR x^9 + x^5 + 1 moves one place; its output bit is bit 8 (log 31). -/
def lfsrNext (x : Nat) : Nat := (2 * x + (if bitAt x 8 != bitAt x 4 then 1 else 0)) % 512

/-- The sign of a binary32 amplitude. -/
def signed32 (pos : Bool) (amp : Nat) : Nat := if pos then amp else neg32of amp

/-- The sine AMP × sin 2πφ within 10⁻⁶ × AMP (R330); the choice within that bound is open, and so is the value where AMP is not finite. -/
def sine32 (amp : Nat) (ph : Rat) (pick : Nat) : Nat :=
  if !finite32 amp then ftz pick
  else
    let r := val32 amp * sinTurns ph
    within (fun p => absRat (p - r) ≤ (mkRat 1 1000000 - slack) * absRat (val32 amp)) (result32 false r) pick

/-- The phase advances by INC modulo 1 (R330); INC without a finite value leaves it. -/
def nextPhase (ph : Rat) (inc : Nat) : Rat :=
  if finite32 inc then ph + val32 inc - ((ph + val32 inc).floor : Rat) else ph

/-- The next value of the generator at a boundary of its context. -/
def nextInjection (s : State) : State :=
  let i := s.eng.inj
  let len := s.get R.INJ_CFG.LEN
  if len ≠ 0 ∧ i.done ≥ len then endInjection s
  else
    let amp := s.get R.INJ_AMP
    let hold := max 1 (s.get R.INJ_HOLD)
    let v := match s.get R.INJ_CFG.TYPE with
      | 1 => amp
      | 2 => signed32 (i.done / hold % 2 == 0) amp
      | 3 => signed32 (bitAt i.lfsr 8) amp
      | 4 => sine32 amp i.phase (Config.approx 0x80 0 amp i.phase.num.toNat i.phase.den % 2 ^ 32)
      | _ => 0
    let step := i.held + 1 ≥ hold
    s.modEng (fun e => { e with inj := { i with on := true, done := i.done + 1, held := if step then 0 else i.held + 1, lfsr := if step then lfsrNext i.lfsr else i.lfsr, phase := nextPhase i.phase (s.get R.INJ_INC), value := v, synced := i.synced || i.fresh } })

/-! ### Set-points, R328, R329 -/

/-- The target in force: the one held at SP_FREEZE while it is set. -/
def State.target (s : State) (k j : Nat) : Nat :=
  match (s.ctx k).frozen with | some t => Tab.get 0 t j | none => s.get (R.SP_TGT k j)

/-- The applied value after a boundary (R328). -/
def stepSp (tgt stp a : Nat) : Nat :=
  let d := val32 tgt - val32 a
  let m := if d < 0 then -d else d
  if zero32 stp || m ≤ val32 stp then tgt
  else round32 (val32 a + (if d < 0 then -(val32 stp) else val32 stp))

/-- Targets and steps of the eight set-points. -/
def State.spNow (s : State) (k : Nat) : List Nat × List Nat :=
  ((List.range 8).map (s.target k), (List.range 8).map (fun j => s.get (R.SP_STEP k j)))

/-- Software is about to write a set-point or SP_FREEZE of a context: a sample boundary of this core cycle reads what stood before (R20). -/
def noteSps (k : Nat) (s : State) : State :=
  if s.cyc.oldSps.any (fun e => e.1 == k) then s else s.modCyc (fun c => { c with oldSps := (k, s.spNow k) :: c.oldSps })

/-- The set-points advance at a boundary (R328). -/
def advanceSps (k : Nat) (s : State) : State :=
  let (tgt, stp) := match s.cyc.oldSps.find? (fun e => e.1 == k) with | some e => e.2 | none => s.spNow k
  s.each (List.range 8) (fun j s => s.set (R.SP_APP k j) (stepSp (tgt[j]?.getD 0) (stp[j]?.getD 0) (s.get (R.SP_APP k j))))

/-- The targets held when SP_FREEZE is set. -/
def State.targets (s : State) (k : Nat) : Tab Nat := (List.range 8).foldl (fun t j => Tab.set 0 t j (s.get (R.SP_TGT k j))) []

/-- SP_FREEZE written (R329). -/
def writeFreeze (k : Nat) (v : Bool) (s : State) : State :=
  let was := s.bit (R.CX_CFG.SP_FREEZE k)
  let s := noteSps k s
  let s := s.setBit (R.CX_CFG.SP_FREEZE k) v
  if v && !was then s.modCtx k (fun c => { c with frozen := some (s.targets k) })
  else if v then s else s.modCtx k (fun c => { c with frozen := none })

/-! ### Sample boundary, R316 -/

/-- The frames of every lane, latched. -/
def State.frames (s : State) : Tab (List Byte) := lanes64.foldl (fun t n => Tab.set [] t n (s.link n).up) []

/-- The bank change that waits takes effect (R326); a request of this core cycle waits for the following boundary (R20). -/
def takeBank (k : Nat) (s : State) : State :=
  match s.cyc.oldSwaps.find? (fun e => e.1 == k) with
  | some (_, pend, b) => if pend then s.setBit (R.CX_STAT.BANK k) b else s
  | none =>
    if s.bit (R.CX_STAT.SWAP_PENDING k) then
      (s.set (R.CX_STAT.BANK k) (s.get (R.CX_STAT.PEND_BANK k))).set (R.CX_STAT.SWAP_PENDING k) 0
    else s

/-- The coefficients of a bank as a boundary of this core cycle reads them (R20). -/
def State.coefBank (s : State) (b : Bool) : Tab Nat := if b then s.cyc.oldB.getD s.eng.bankB else s.cyc.oldA.getD s.eng.bankA

/-- Software is about to write a coefficient bank. -/
def noteBank (b : Bool) (s : State) : State :=
  s.modCyc (fun c => if b then { c with oldB := some (s.coefBank true) } else { c with oldA := some (s.coefBank false) })

/-- What LDIN reads of the metrology channels (R353, R368): NaN where a channel is disabled or stuck. -/
def State.channels (s : State) : Tab Nat :=
  (List.range 24).foldl (fun t c =>
    Tab.set 0 t c (if s.bit (R.SD_CFG.EN c) && !s.bit (R.SD_STAT.STUCK c) then Tab.get 0 s.met.sample c else qnan)) []

/-- A sample starts: everything of R316 is taken together. -/
def boundary (k : Nat) (s : State) : State :=
  let s := takeBank k (advanceSps k s)
  let mine := s.get R.INJ_CFG.INJ_CTX = k
  let s := if mine ∧ s.eng.inj.on then nextInjection s else s
  let dist := if mine then s.eng.inj.value else 0
  let sps := (List.range 8).foldl (fun t j =>
    let a := s.get (R.SP_APP k j)
    let hit := mine && s.eng.inj.on && !s.bit R.INJ_CFG.TARGET && s.get R.INJ_CFG.SP == j
    Tab.set 0 t j (if hit then add32 a dist else a)) []
  let strs := bitList 8 (s.get (R.CX_CFG.STRINGS k))
  let sorts := strs.foldl (fun t i => Tab.set [] t i (s.sortOf k i).ranked) []
  let s := s.each strs (fun i s => s.modStr i (fun x => { x with sortPending := x.sortPending ++ [s.sortOf k i] }))
  let bank := s.bit (R.CX_STAT.BANK k)
  let c := s.ctx k
  let q : Sample := { pc := s.get (R.CX_CFG.ENTRY k), v := c.v, p := c.p, frames := s.frames, usable := maskOf s.usable, chans := s.channels, sps := sps, dist := dist, bank := bank, coefs := s.coefBank bank, dt := (match c.lastAt with | some t => round32 (mkRat (s.ts.tsc - t) 1024000000) | none => 0), releases := s.get (R.CX_SAMPLES.RELEASES k) % 2 ^ 24, atTsc := s.ts.tsc, sorts := sorts, synced := s.eng.inj.synced }
  (s.set (R.CX_STAT.STATE k) 2).modCtx k (fun c => { c with run := some q, lastAt := some s.ts.tsc })

/-! ### Overrun and abort, R320 to R322 -/

/-- An abandoned sample of the captured context: the capture has started with its first record (R331). -/
def countGap (k : Nat) (s : State) : State :=
  if s.bit R.CAP_STAT.BUSY && s.get R.CAP_CFG.CAP_CTX == k && s.get R.CAP_STAT.COUNT ≠ 0 then
    s.inc R.CAP_STAT.GAPS else s

/-- The sample in progress is abandoned (R321). -/
def abandon (k : Nat) (s : State) : State :=
  if (s.ctx k).run.isSome then countGap k (s.modCtx k (fun c => { c with run := none })) else s

/-- The legs of a context's output range (R318). -/
def State.outLegs (s : State) (k : Nat) : List Nat :=
  (List.range (s.get (R.CX_OUT.OUT_COUNT k))).map (fun i => s.get (R.CX_OUT.OUT_BASE k) + i)

/-- The legs of the range go both-off from the abort cycle (R322). -/
def abortLegs (k : Nat) (s : State) : State :=
  let ls := s.outLegs k
  let s := s.each ls (fun l s => s.modLeg l (fun g => { g with abort := true }))
  s.each lanes64 (fun n s =>
    let mine := ls.filter (fun l => l / 6 == n)
    if mine = [] then s
    else
      let m := Nat.land (s.fitted n) (mine.foldl (fun m l => m + legMask (2 * (l % 6))) 0)
      let s := s.modLink n (fun x => { x with edges := x.edges.filter (fun e => !(bitAt m e.gate && e.level)) })
      let s := if s.owns n then requestUrgent n (.targeted m false) s else s
      if s.bit (R.CX_CFG.ABORT_BYPASS k) && s.parkable n then parkCell n s else s)

/-- A context stops under R322. -/
def stopCtx (k : Nat) (s : State) : State :=
  checkInjection (abortLegs k (raise (Src.CX_ABORTED k) (((abandon k s).set (R.CX_STAT.STATE k) 3).modCtx k (fun c => { c with due := 0 }))))

/-- The ABORT policy at an overrun (R322). Where the class of ABORTED isolates nothing the sample is abandoned and the context waits in IDLE (R439, log 94). -/
def abortCtx (k : Nat) (s : State) : State :=
  if s.acts (Src.CX_ABORTED k) then stopCtx k s else raise (Src.CX_ABORTED k) ((abandon k s).set (R.CX_STAT.STATE k) 1)

/-! ### Release, R317 to R319, R331 -/

/-- A staged leg store at release (R318, R355): the field, its value, or none where the store is discarded. -/
def State.legValue (s : State) (x : LegStore) : Option (Fld × Nat) :=
  if nan32 x.v then none
  else if x.fld = 2 then
    match trunc32 x.v with
    | some m => if 0 ≤ m ∧ m ≤ 4 then some (R.LEG_CFG.MODE x.leg, m.toNat) else none
    | none => none
  else
    let ratio := s.bit (R.LEG_CFG.RATIO x.leg)
    let top := if ratio then 2 ^ 24 else 2 ^ 26 - 1
    let v : Nat := if inf32 x.v then (if neg32 x.v then 0 else top)
      else if neg32 x.v then 0
      else min top (roundEven (val32 x.v * ((if ratio then 16777216 else 1 : Nat) : Rat)))
    some (if x.fld = 0 then R.LEG_VAL.VAL x.leg else R.LEG_VAL2.VAL2 x.leg, v)

/-- Apply one staged leg store; the legs written so far are collected. -/
def applyLeg (k : Nat) (acc : State × List Nat × Bool) (x : LegStore) : State × List Nat × Bool :=
  let (s, ls, bad) := acc
  if (s.outLegs k).contains x.leg && x.leg < 384 then
    match s.legValue x with
    | some (f, v) => (writeLegField x.leg f v s, if ls.contains x.leg then ls else ls ++ [x.leg], bad)
    | none => (s, ls, true)
  else (s, ls, true)

/-- Note a release for the delay measurement (R319): an earlier one that loses a shadow counts in NOT_COMMITTED. -/
def noteRelease (k : Nat) (ls : List Nat) (s : State) : State :=
  if ls = [] then s
  else
    let hit (r : Release) : Bool := r.legs.any ls.contains
    let rs := (s.ctx k).rels
    let s := (rs.filter hit).foldl (fun s _ => s.inc (R.CX_COUNTS.NOT_COMMITTED k)) s
    s.modCtx k (fun c => { c with rels := rs.filter (fun r => !hit r) ++ [{ stamp := s.ts.tsc, legs := ls }] })

/-- The value of a capture channel (R331). -/
def capValue (q : Sample) (run code : Nat) : Nat :=
  if code < 0x20 then Tab.get 0 q.v code
  else if code < 0x28 then Tab.get 0 q.sps (code - 0x20)
  else if code = 0x28 then q.dist
  else round32 ((run : Nat) : Rat)

/-- The capture unit at a release (R331, R332). A LEN above 2,048 is taken as 2,048, the records that the memory holds (log 95). -/
def captureRelease (k : Nat) (q : Sample) (run : Nat) (s : State) : State :=
  let started := s.get R.CAP_STAT.COUNT ≠ 0 || !s.bit R.CAP_CFG.SYNC || q.synced
  if s.bit R.CAP_STAT.BUSY && s.get R.CAP_CFG.CAP_CTX == k && started then
    if s.eng.skip > 0 then s.modEng (fun e => { e with skip := e.skip - 1 })
    else
      let r := s.get R.CAP_STAT.COUNT
      let dec := if s.get R.CAP_CFG.DEC = 0 then 256 else s.get R.CAP_CFG.DEC
      let len := if s.get R.CAP_CFG.LEN = 0 then 2048 else min 2048 (s.get R.CAP_CFG.LEN)
      let s := if r = 0 then s.set64 R.CAP_TSC_LO R.CAP_TSC_HI q.atTsc else s
      let w (i : Nat) (f : Fld) (m : Tab Nat) : Tab Nat := Tab.set 0 m (0x6000 + 4 * r + i) (capValue q run (s.get f))
      let s := (cbiStore 3 (0x6000 + 4 * r) 4 s).modEng (fun e => { e with skip := dec - 1, mem := w 3 R.CAP_SEL.CH3 (w 2 R.CAP_SEL.CH2 (w 1 R.CAP_SEL.CH1 (w 0 R.CAP_SEL.CH0 e.mem))) })
      let s := s.set R.CAP_STAT.COUNT (r + 1)
      if r + 1 ≥ len then raise (Src.CE_CAP_DONE) ((s.set R.CAP_STAT.BUSY 0).set R.CAP_STAT.DONE 1) else s
  else s

/-- The program events of a release (R357): at most four. -/
def postEvts (k : Nat) (es : List (Nat × Nat)) (s : State) : State :=
  s.each (es.take 4) (fun e s => postRec { typ := 4, cls := 0, plane := 0, observed := true, block := 9, inst := k, payload := leBytes 2 e.1 ++ leBytes 4 e.2 ++ leBytes 8 s.ts.tsc } s)

/-- The program has ended: its staged results are applied (R317), and the contexts chained to it are triggered (R312, R314). -/
def release (k : Nat) (s : State) : State :=
  match (s.ctx k).run with
  | none => s
  | some q =>
    if q.ended then
      let run := 4 * (q.issues - 1) + q.lastW
      let s := s.each (s.outLegs k) (fun l s => if (s.leg l).abort then s.modLeg l (fun g => { g with abort := false }) else s)
      let (s, ls, bad) := q.legs.foldl (applyLeg k) (s, [], q.outRange)
      let s := noteRelease k ls s
      let s := commitGroups q.commits s
      let s := s.each q.states (fun x s => cbiStore 3 x.1 1 s)
      let s := s.modEng (fun e => { e with mem := q.states.foldl (fun m x => Tab.set 0 m x.1 x.2) e.mem })
      let s := s.modCtx k (fun c => { c with v := q.v, p := q.p, run := none })
      let s := ((s.set (R.CX_STAT.STATE k) 1).incWrap (R.CX_SAMPLES.RELEASES k)).set (R.CX_STAT.LAST_RUN k) (min 65535 run)
      let s := s.set (R.CX_MAX.MAXRUN k) (max (s.get (R.CX_MAX.MAXRUN k)) (min 65535 run))
      let s := captureRelease k q run s
      let s := if bad then raise (Src.CX_OUT_RANGE k) s else s
      sendTrigger 3 k (postEvts k q.evts s)
    else s

/-! ### Triggers, R312, R313, R315, R320 -/

/-- A trigger at a context. A program that has ended is released before the boundary (R317, R320). -/
def trigger (k : Nat) (s : State) : State :=
  if s.takesTriggers k then
    if (match (s.ctx k).lastTrig with | some t => decide (s.ts.tsc < t + 5120) | none => false) then
      raise (Src.CX_TRIG_DROPPED k) (s.modCtx k (fun c => { c with drops := c.drops + 1 }))
    else
      let s := release k (s.modCtx k (fun c => { c with lastTrig := some s.ts.tsc }))
      if s.ctxState k = 1 then boundary k s
      else
        let s := raise (Src.CX_OVERRUN k) (s.inc (R.CX_COUNTS.OVERRUNS k))
        if s.bit (R.CX_CFG.POLICY k) then abortCtx k s else boundary k (abandon k s)
  else s

/-- The instant of group time at which a period trigger last fired, where it can reach the context now and has not (R26, R312): 8 ticks back at most. -/
def State.periodDue (s : State) (k : Nat) : Option Nat :=
  let per := s.get (R.CX_PER.PER k)
  let back := (s.groupTime + per - s.get (R.CX_PHASE.PHASE k) % per) % per
  if per ≠ 0 ∧ back ≤ 8 ∧ back ≤ s.groupTime ∧ (s.ctx k).perAt ≠ some (s.groupTime - back) then some (s.groupTime - back) else none

/-- A trigger of the context's source arrives (R312): one that its carrier or the context it follows has sent, or that of an instant of its period. -/
def sourceTrigger (k : Nat) (s : State) : State :=
  match s.get (R.CX_TRIG.SRC k) with
  | 2 =>
    match s.periodDue k with
    | some t => trigger k (s.modCtx k (fun c => { c with perAt := some t }))
    | none => s
  | 1 | 3 => if (s.ctx k).due = 0 then s else trigger k (s.modCtx k (fun c => { c with due := c.due - 1 }))
  | _ => s

/-! ### Enable, disable, restart, R310, R315, R318, R323, R325, R332, R363 -/

/-- Two ranges overlap. -/
def overlap (a n b m : Nat) : Bool := n ≠ 0 && m ≠ 0 && a < b + m && b < a + n

/-- A write of EN = 1 is refused. -/
def State.enableRefused (s : State) (k : Nat) : Bool :=
  let ob := s.get (R.CX_OUT.OUT_BASE k)
  let oc := s.get (R.CX_OUT.OUT_COUNT k)
  let sb := s.get (R.CX_STATE.STATE_BASE k)
  let sl := s.get (R.CX_STATE.STATE_LEN k)
  s.unavailable k || ob + oc > 384
    || s.get (R.CX_COEF.COEF_BASE k) + s.get (R.CX_COEF.COEF_LEN k) > 16384 || sb + sl > 32768
    || !(s.eng.entries.any (fun e => e.1 == s.get (R.CX_CFG.ENTRY k)))
    || (s.bit R.CAP_STAT.BUSY && sl ≠ 0 && sb + sl > 0x6000)
    || ctxs128.any (fun j => j != k && s.bit (R.CX_CFG.EN j)
      && (overlap ob oc (s.get (R.CX_OUT.OUT_BASE j)) (s.get (R.CX_OUT.OUT_COUNT j))
        || overlap sb sl (s.get (R.CX_STATE.STATE_BASE j)) (s.get (R.CX_STATE.STATE_LEN j))))

/-- Clear v0 to v31 and p0 to p7 (R315). -/
def clearRegs (k : Nat) (s : State) : State := s.modCtx k (fun c => { c with v := [], p := 0, run := none, lastAt := none })

/-- EN written to 1 in Configure. -/
def enableCtx (k : Nat) (s : State) : State :=
  if !s.inState [.configure] then s
  else if s.enableRefused k then refuse (Src.CE_SETTING_REFUSED) s
  else
    let s := s.set (R.CX_CFG.EN k) 1
    if s.ctxState k = 0 then
      let s := clearRegs k (s.set (R.CX_STAT.STATE k) 1)
      s.each (List.range 8) (fun j s => s.set (R.SP_APP k j) (s.target k j))
    else s

/-- EN cleared: the context enters OFF, but from STOPPED, which it leaves by RESTART alone (R315). -/
def offCtx (k : Nat) (s : State) : State :=
  let s := s.set (R.CX_CFG.EN k) 0
  if s.ctxState k = 3 then s else checkInjection (((abandon k s).set (R.CX_STAT.STATE k) 0).modCtx k (fun c => { c with due := 0 }))

/-- RESTART (R323). -/
def restart (k : Nat) (s : State) : State :=
  if s.ctxState k = 3 ∧ ¬ bitAt s.eng.tileErr (k / 4) then clearRegs k (s.set (R.CX_STAT.STATE k) 1)
  else raise (Src.CX_RESTART_REFUSED k) s

/-- Entry to Configure: contexts abandon what they compute and enter IDLE (R315). -/
def idleContexts (s : State) : State :=
  checkInjection (s.each ctxs128 (fun k s =>
    if s.ctxActive k then ((abandon k s).set (R.CX_STAT.STATE k) 1).modCtx k (fun c => { c with lastAt := none, due := 0 }) else s))

/-! ### WCET, R324 -/

/-- A carrier has been started and has not ended (R228). -/
def State.carRuns (s : State) (c : Nat) : Bool := (s.car c).first.isSome || (s.car c).next.isSome || (s.car c).cur.isSome

/-- The present PER of a carrier: the shadow governs the first period of one that does not run (R228). -/
def State.carPer (s : State) (c : Nat) : Nat := if s.carRuns c then (s.car c).per else s.get (R.CAR_PER.PER c)

/-- The carrier events of one period that TRIG_SRC counts, in ticks from ZERO. -/
def State.trigTicks (s : State) (c : Nat) : List Nat :=
  let per := s.carPer c
  let cmp := if s.carRuns c then (s.car c).evtCmp else s.get (R.CAR_EVTCMP.EVT_CMP c)
  let src := s.get (R.CAR_TRIG.TRIG_SRC c)
  let l := (if bitAt src 0 then [0] else []) ++ (if bitAt src 1 then [per / 2] else [])
    ++ (if bitAt src 2 && cmp < per then [cmp] else [])
  l.foldl (fun a e => a.filter (· ≤ e) ++ [e] ++ a.filter (fun y => e < y)) []

/-- The shortest distance between prescaled events of a carrier; none where no event is counted. -/
def State.trigDist (s : State) (c : Nat) : Option Nat :=
  let l := s.trigTicks c
  let n := l.length
  if n = 0 then none
  else
    let p := s.prescP c
    let at' (i : Nat) : Nat := (l[i % n]?).getD 0 + i / n * s.carPer c
    (List.range n).foldl (fun m i => match m with | none => some (at' (i + p) - at' i) | some d => some (min d (at' (i + p) - at' i))) none

/-- The shortest trigger interval of a context whose SRC is 1 or 2. -/
def State.trigInterval (s : State) (k : Nat) : Option Nat :=
  match s.get (R.CX_TRIG.SRC k) with
  | 1 => s.trigDist (s.get (R.CX_TRIG.SEL k) % 64)
  | 2 => some (s.get (R.CX_PER.PER k))
  | _ => none

/-- The check at each exit from Configure: 5 + WCET core cycles of 2.56 ticks exceed the interval. -/
def checkWcet (s : State) : State :=
  let l := ctxs128.filter (fun k => s.bit (R.CX_CFG.EN k) && (match s.trigInterval k, s.eng.entries.find? (fun e => e.1 == s.get (R.CX_CFG.ENTRY k)) with
    | some i, some e => (5 + e.2) * 256 > i * 100
    | _, _ => false))
  raiseAll (l.map (fun k => Src.CX_WCET_RISK k)) s

/-! ### Banks and memories, R326, R327, R334 -/

/-- A bank request names its target; the latest before the boundary wins (R326). -/
def requestBank (k : Nat) (b : Bool) (s : State) : State :=
  let s := if s.cyc.oldSwaps.any (fun e => e.1 == k) then s
    else s.modCyc (fun c => { c with oldSwaps := (k, s.bit (R.CX_STAT.SWAP_PENDING k), s.bit (R.CX_STAT.PEND_BANK k)) :: c.oldSwaps })
  (s.set (R.CX_STAT.SWAP_PENDING k) 1).setBit (R.CX_STAT.PEND_BANK k) b

/-- A whole coefficient region is written (R327). -/
def writeRegion (k : Nat) (bank : Bool) (ws : List Word) (s : State) : State :=
  let base := s.get (R.CX_COEF.COEF_BASE k)
  if ws.length = s.get (R.CX_COEF.COEF_LEN k) ∧ ¬ s.inState [.slate] then
    let put (t : Tab Nat) : Tab Nat := (ws.zipIdx).foldl (fun t x => Tab.set 0 t ((base + x.2) % 16384) x.1.toNat) t
    let s := cbiStore (if bank then 2 else 1) base ws.length (noteBank bank s)
    s.modEng (fun e => if bank then { e with bankB := put e.bankB } else { e with bankA := put e.bankA })
  else s

/-- Words in each memory that CE_MADDR names (R334, R342). -/
def memWords (m : Nat) : Nat := if m = 0 then 65536 else if m = 3 then 32768 else 16384

/-- The word that CE_MADDR names. -/
def State.memRead (s : State) (m w : Nat) : Nat :=
  match m with
  | 0 => Tab.get 0 s.eng.prog (w / 2) / 2 ^ (32 * (w % 2)) % 2 ^ 32
  | 1 => Tab.get 0 s.eng.bankA w
  | 2 => Tab.get 0 s.eng.bankB w
  | _ => Tab.get 0 s.eng.mem w

/-- Write one word where its memory may be written (R327). -/
def memWrite (m w v : Nat) (s : State) : State :=
  match m with
  | 1 => if s.inState [.slate] then s else (cbiStore 1 w 1 (noteBank false s)).modEng (fun e => { e with bankA := Tab.set 0 e.bankA w v })
  | 2 => if s.inState [.slate] then s else (cbiStore 2 w 1 (noteBank true s)).modEng (fun e => { e with bankB := Tab.set 0 e.bankB w v })
  | 3 => if s.inState [.configure] then (cbiStore 3 w 1 s).modEng (fun e => { e with mem := Tab.set 0 e.mem w v }) else s
  | _ => s

/-- CE_MADDR increments after an access and wraps within its memory. -/
def nextMaddr (s : State) : State := s.set R.CE_MADDR.WORD ((s.get R.CE_MADDR.WORD + 1) % memWords (s.get R.CE_MADDR.MEM))

/-! ### Capture, R331, R332 -/

/-- ARM (R331): refused while an enabled context's state region reaches word 0x6000. -/
def armCapture (s : State) : State :=
  if ctxs128.any (fun k => s.bit (R.CX_CFG.EN k) && s.get (R.CX_STATE.STATE_LEN k) ≠ 0
      && s.get (R.CX_STATE.STATE_BASE k) + s.get (R.CX_STATE.STATE_LEN k) > 0x6000) then refuse (Src.CE_SETTING_REFUSED) s
  else
    let s := ((s.set R.CAP_STAT.BUSY 1).set R.CAP_STAT.DONE 0).set R.CAP_STAT.COUNT 0
    let s := s.modCtx (s.get R.CAP_CFG.CAP_CTX) (fun c => { c with run := c.run.map (fun q => { q with synced := false }) })
    (s.set R.CAP_STAT.GAPS 0).modEng (fun e => { e with skip := 0, inj := { e.inj with fresh := false, synced := false } })

/-- Clear the delay histogram (R319). -/
def clearHist (k : Nat) (s : State) : State :=
  (s.each (List.range 16) (fun i s => s.set (R.CX_HIST k i) 0)).set (R.CX_MAX.MAXDELAY k) 0

/-- A context of a tile with a parity error (R333): it acts as under R322, whatever its POLICY, where the class of either TILE_ERROR isolates (R439). One in OFF
has nothing to abort and becomes STOPPED (log 94). -/
def tileCtx (t k : Nat) (s : State) : State :=
  let acts := s.acts (Src.CX_TILE_ERROR k) || s.acts (Src.CE_TILE_ERROR t)
  let s := raise (Src.CX_TILE_ERROR k) s
  if !acts ∨ s.ctxState k = 3 then s else if s.ctxActive k then stopCtx k s else s.set (R.CX_STAT.STATE k) 3

/-- A parity error in a physical tile (R333). -/
def tileError (t : Nat) (s : State) : State :=
  let s := (raise (Src.CE_TILE_ERROR t) s).set R.CE_STAT.LAST_TILE_ERR t
  let s := match s.logicalOf t with
    | none => s
    | some i => (s.modEng (fun e => { e with tileErr := Nat.lor e.tileErr (2 ^ i) })).each [4 * i, 4 * i + 1, 4 * i + 2, 4 * i + 3] (tileCtx t)
  { s with mram := { s.mram with badTiles := Nat.lor s.mram.badTiles (2 ^ t) } }

/-! ### Commands -/

/-- CONTEXT_TRIGGER, R312: a trigger of the context's source. -/
def execContextTrigger (k : Fin 128) (s : State) : Host.Outcome State Fault Refusal := .next (sourceTrigger k s)

/-- PROGRAM_RELEASE, R317. -/
def execProgramRelease (k : Fin 128) (s : State) : Host.Outcome State Fault Refusal := .next (release k s)

/-- SOFT_TRIG, R312: whatever the value of SRC. -/
def execSoftTrig (k : Fin 128) (s : State) : Host.Outcome State Fault Refusal := .next (trigger k s)

/-- CONTEXT_RESTART, R323. -/
def execContextRestart (k : Fin 128) (s : State) : Host.Outcome State Fault Refusal := .next (restart k s)

/-- CONTEXT_ENABLE, R315, R318. -/
def execContextEnable (k : Fin 128) (s : State) : Host.Outcome State Fault Refusal := .next (enableCtx k s)

/-- CONTEXT_DISABLE, R315: EN is RWC. -/
def execContextDisable (k : Fin 128) (s : State) : Host.Outcome State Fault Refusal :=
  .next (if s.inState [.configure] then offCtx k s else s)

/-- BANK_SWAP_REQUEST, R326: the bank other than the one active at the write. -/
def execBankSwapRequest (k : Fin 128) (s : State) : Host.Outcome State Fault Refusal :=
  .next (requestBank k (!s.bit (R.CX_STAT.BANK k)) s)

/-- BANK_A_REQUEST, R326. -/
def execBankARequest (k : Fin 128) (s : State) : Host.Outcome State Fault Refusal := .next (requestBank k false s)

/-- BANK_B_REQUEST, R326. -/
def execBankBRequest (k : Fin 128) (s : State) : Host.Outcome State Fault Refusal := .next (requestBank k true s)

/-- The counts of a context (R335). -/
def clearCtxCounts (k : Nat) (s : State) : State :=
  (((s.clearCount (R.CX_COUNTS.OVERRUNS k)).clearCount (R.CX_COUNTS.NOT_COMMITTED k)).clearCount (R.CX_SAMPLES.RELEASES k)).set (R.CX_MAX.MAXRUN k) 0

/-- CONTEXT_CNT_CLR, R337. -/
def execContextCntClr (k : Fin 128) (s : State) : Host.Outcome State Fault Refusal :=
  .next (clearCtxCounts k s)

/-- HISTOGRAM_CLEAR, R319. -/
def execHistogramClear (k : Fin 128) (s : State) : Host.Outcome State Fault Refusal := .next (clearHist k s)

/-- HISTOGRAM_SHIFT_WRITE, R319: any write of SHIFT clears. -/
def execHistogramShiftWrite (k : Fin 128) (v : Nat) (s : State) : Host.Outcome State Fault Refusal :=
  .next ((clearHist k s).set (R.CX_HCFG.SHIFT k) v)

/-- COEFFICIENT_REGION_WRITE, R327. -/
def execCoefficientRegionWrite (k : Fin 128) (bank : Bool) (ws : List Word) (s : State) : Host.Outcome State Fault Refusal :=
  .next (writeRegion k bank ws s)

/-- MEMORY_DATA_WRITE, R334. -/
def execMemoryDataWrite (v : Word) (s : State) : Host.Outcome State Fault Refusal :=
  .next (nextMaddr (memWrite (s.get R.CE_MADDR.MEM) (s.get R.CE_MADDR.WORD % memWords (s.get R.CE_MADDR.MEM)) v.toNat s))

/-- MEMORY_DATA_READ, R334. -/
def execMemoryDataRead (s : State) : Host.Outcome State Fault Refusal := .next (nextMaddr s)

/-- SP_FREEZE_WRITE, R329. -/
def execSpFreezeWrite (k : Fin 128) (v : Bool) (s : State) : Host.Outcome State Fault Refusal := .next (writeFreeze k v s)

/-- INJECTION_START, R330. -/
def execInjectionStart (s : State) : Host.Outcome State Fault Refusal := .next (startInjection s)

/-- INJECTION_STOP, R330. -/
def execInjectionStop (s : State) : Host.Outcome State Fault Refusal := .next (endInjection s)

/-- CAPTURE_ARM, R331. -/
def execCaptureArm (s : State) : Host.Outcome State Fault Refusal := .next (armCapture s)

/-- CAPTURE_STOP, R336: records are kept. -/
def execCaptureStop (s : State) : Host.Outcome State Fault Refusal := .next (s.set R.CAP_STAT.BUSY 0)

/-- TILE_PARITY_ERROR, R333. -/
def execTileParityError (t : Fin 36) (s : State) : Host.Outcome State Fault Refusal := .next (tileError t s)

end Sys2Proof.Machine
end

