-- ==== Sys2Proof/Machine/Programs.lean ====
section
/-!
DEFINITION. Machine/Programs.lean: the instructions of control programs and the loader of program images
(12_control_programs.md). An instruction command names a context; it runs the word at that context's program counter
where that word has its operation code, and else changes nothing (log 32).
-/
namespace Sys2Proof.Machine

/-! ### The instruction word, R342 -/

def iOp (w : Nat) : Nat := bits w 63 58
def iE (w : Nat) : Bool := bitAt w 57
def iPE (w : Nat) : Bool := bitAt w 56
def iPN (w : Nat) : Bool := bitAt w 55
def iPP (w : Nat) : Nat := bits w 54 52
def iD (w : Nat) : Nat := bits w 51 47
def iPD (w : Nat) : Nat := bits w 49 47
def iA (w : Nat) : Nat := bits w 46 42
def iB (w : Nat) : Nat := bits w 41 37
def iC (w : Nat) : Nat := bits w 36 32
def iImm (w : Nat) : Nat := w % 2 ^ 32
/-- The address fields of R352. -/
def iStride (w : Nat) : Nat := bits w 23 20
def iX (w : Nat) : Bool := bitAt w 19
def iXO (w : Nat) : Bool := bitAt w 18
def iRB (w : Nat) : Bool := bitAt w 17

/-- Issues and W of each operation (R350); none for W of LOOP and for undefined codes. -/
def issuesOf (op : Nat) : Nat := if 0x11 ≤ op ∧ op ≤ 0x14 then 2 else if 0x15 ≤ op ∧ op ≤ 0x18 then 6 else 1
def wOf (op : Nat) : Option Nat :=
  if op = 0 ∨ op = 0x22 ∨ (0x25 ≤ op ∧ op ≤ 0x29) then some 2
  else if op ≤ 0x1D ∨ op = 0x20 ∨ op = 0x21 ∨ op = 0x23 ∨ op = 0x24 then some 4
  else none

/-! ### Registers of a sample, R340, R347 -/

/-- A v register as an operand: a subnormal reads as zero. -/
def Sample.reg (q : Sample) (r : Nat) : Nat := ftz (Tab.get 0 q.v r)
def Sample.a (q : Sample) (w : Nat) : Nat := q.reg (iA w)
def Sample.b (q : Sample) (w : Nat) : Nat := q.reg (iB w)
def Sample.c (q : Sample) (w : Nat) : Nat := q.reg (iC w)
def Sample.pred (q : Sample) (i : Nat) : Bool := bitAt q.p i

/-- Write a v register: a subnormal is written as zero. -/
def Sample.put (q : Sample) (r x : Nat) : Sample := { q with v := Tab.set 0 q.v r (ftz x) }
/-- Write the predicate that D names. -/
def Sample.putP (q : Sample) (i : Nat) (b : Bool) : Sample := { q with p := setBitAt q.p i b }

/-- li and lo of R358; 0 outside a loop. -/
def Sample.li (q : Sample) : Nat := match q.loops with | l :: _ => l.idx | _ => 0
def Sample.lo (q : Sample) : Nat := match q.loops with | _ :: l :: _ => l.idx | _ => 0

/-- The additions of R352 to an index: stride, loop indices and `m` × trunc(b); none where trunc(b) has no value. -/
def Sample.extra (q : Sample) (w m : Nat) : Option Int :=
  let l : Int := (iStride w * ((if iX w then q.li else 0) + (if iXO w then q.lo else 0)) : Nat)
  if iRB w then (trunc32 (q.b w)).map (fun t => l + m * t) else some l

/-- An address within `n` places, from its first place and the additions. -/
def Sample.place (q : Sample) (w base m n : Nat) : Option Nat :=
  match q.extra w m with
  | none => none
  | some e => if 0 ≤ (base : Int) + e ∧ (base : Int) + e < n then some ((base : Int) + e).toNat else none

/-! ### Running one instruction, R343 to R346 -/

/-- What an instruction body gives: the state (changed only where a free value is drawn), the sample, and whether an
access fell outside its region. -/
abbrev Body := State → Sample → State × Sample × Bool

/-- A body that only computes. -/
def pureBody (f : Sample → Sample) : Body := fun s q => (s, f q, false)

/-- The instruction that a context runs next. -/
def State.instrAt (s : State) (k : Nat) : Option (Nat × Sample) :=
  match (s.ctx k).run with
  | none => none
  | some q => if q.ended then none else some (Tab.get 0 s.eng.prog q.pc, q)

/-- After the instruction at `pc`: the loops whose body ends there repeat or end (R358). -/
def Sample.turn (q : Sample) (pc : Nat) : List LoopSt → Sample
  | [] => { q with pc := pc + 1, loops := [] }
  | l :: ls =>
    if l.last = pc then
      if l.idx + 1 < l.count then { q with pc := l.first, loops := { l with idx := l.idx + 1 } :: ls }
      else q.turn pc ls
    else { q with pc := pc + 1, loops := l :: ls }

/-- The end of an instruction: its issues, the end bit, and the next word. -/
def Sample.after (q : Sample) (w n lat : Nat) : Sample :=
  let pc := q.pc
  let q := { q with issues := q.issues + n, lastW := lat }
  if iE w then { q with ended := true } else q.turn pc q.loops

/-- The predicate of an instruction lets it write (R342). -/
def Sample.allowed (q : Sample) (w : Nat) : Bool := !iPE w || (q.pred (iPP w) != iPN w)

def setRun (k : Nat) (q : Sample) (s : State) : State := s.modCtx k (fun c => { c with run := some q })

/-- Run the next instruction of a context where it has operation code `op`. -/
def issue (op k : Nat) (body : Nat → Body) (s : State) : State :=
  match s.instrAt k with
  | none => s
  | some (w, q) =>
    if iOp w = op then
      let (s, q', bad) := if q.allowed w then body w s q else (s, q, false)
      let s := setRun k (q'.after w (issuesOf op) ((wOf op).getD 0)) s
      if bad then raise (Src.CX_MEM_RANGE k) s else s
    else s

/-- d := f of the operands. -/
def compute (op k : Nat) (f : Nat → Sample → Nat) (s : State) : State :=
  issue op k (fun w => pureBody (fun q => q.put (iD w) (f w q))) s

/-- pd := f of the operands. -/
def test (op k : Nat) (f : Nat → Sample → Bool) (s : State) : State :=
  issue op k (fun w => pureBody (fun q => q.putP (iPD w) (f w q))) s

/-! ### Memory, inputs and sorts, R352 to R356 -/

/-- A coefficient word of the context's region (R325); none outside it. -/
def State.coefAt (s : State) (k : Nat) (q : Sample) (i : Nat) : Option Nat :=
  if i < s.get (R.CX_COEF.COEF_LEN k) then some (Tab.get 0 q.coefs (s.get (R.CX_COEF.COEF_BASE k) + i)) else none

/-- LDC. -/
def bodyLdc (k w : Nat) : Body := fun s q =>
  match q.place w (bits w 14 0) 1 (s.get (R.CX_COEF.COEF_LEN k)) with
  | some i => (s, q.put (iD w) ((s.coefAt k q i).getD 0), false)
  | none => (s, q.put (iD w) 0, true)

/-- LDS: state words change only at releases, so the word still stands as at the boundary (R341). -/
def bodyLds (k w : Nat) : Body := fun s q =>
  match q.place w (bits w 14 0) 1 (s.get (R.CX_STATE.STATE_LEN k)) with
  | some i => (s, q.put (iD w) (Tab.get 0 s.eng.mem (s.get (R.CX_STATE.STATE_BASE k) + i)), false)
  | none => (s, q.put (iD w) 0, true)

/-- STS, staged. -/
def bodySts (k w : Nat) : Body := fun s q =>
  match q.place w (bits w 14 0) 1 (s.get (R.CX_STATE.STATE_LEN k)) with
  | some i => (s, { q with states := q.states ++ [(s.get (R.CX_STATE.STATE_BASE k) + i, q.a w)] }, false)
  | none => (s, q, true)

/-- A scaled input of an upstream frame; NaN where the field holds its invalid code (R353). -/
def inputOf (v : Option Int) (num den : Nat) : Nat :=
  match v with | none => qnan | some x => round32 ((x : Rat) * mkRat num den)

/-- How many places an input class and field has; 0 for an undefined pair (R353). -/
def inputCount (cls fld : Nat) : Nat :=
  match cls with
  | 0 => if fld ≤ 5 then 64 else if fld ≤ 7 then 1024 else 0
  | 1 => if fld = 0 then 24 else 0
  | 2 => if fld = 0 then 8 else 0
  | 3 => if fld = 0 then 1 else 0
  | 4 => if fld ≤ 4 then 1 else 0
  | _ => 0

/-- The value of an input at an index within its range. Gates 12 to 15 of a cell do not exist. -/
def Sample.input (q : Sample) (cls fld i : Nat) : Nat :=
  let u := Tab.get [] q.frames i
  let g := Tab.get [] q.frames (i / 16)
  match cls, fld with
  | 0, 0 => inputOf ((upVcap u).map (fun v => (v : Int))) 1 10
  | 0, 1 => inputOf (upIarm u) 1 10
  | 0, 2 => inputOf (upTemp0 u) 1 100
  | 0, 3 => inputOf (upTemp1 u) 1 100
  | 0, 4 => round32 ((upGates u : Nat) : Rat)
  | 0, 5 => if bitAt q.usable i then 0x3F800000 else 0
  | 0, 6 => inputOf ((upVgs g (i % 16)).map (fun v => (v : Int))) 1 1000
  | 0, 7 => inputOf (upIsns g (i % 16)) 1 4
  | 1, _ => Tab.get 0 q.chans i
  | 2, _ => Tab.get 0 q.sps i
  | 3, _ => q.dist
  | 4, 0 => round32 ((q.li : Nat) : Rat)
  | 4, 1 => round32 ((q.lo : Nat) : Rat)
  | 4, 2 => q.dt
  | 4, 3 => if q.bank then 0x3F800000 else 0
  | _, _ => round32 ((q.releases : Nat) : Rat)

/-- LDIN. li outside a loop and lo outside an inner one have no stated value: free. -/
def bodyLdin (w : Nat) : Body := fun s q =>
  let cls := bits w 31 28
  let fld := bits w 27 24
  match q.place w (bits w 11 0) 1 (inputCount cls fld) with
  | none => (s, q.put (iD w) 0, true)
  | some i =>
    if cls = 0 ∧ 6 ≤ fld ∧ 12 ≤ i % 16 then (s, q.put (iD w) 0, true)
    else if cls = 4 ∧ ((fld = 0 ∧ q.loops.length = 0) ∨ (fld = 1 ∧ q.loops.length ≤ 1)) then
      let (x, s) := s.draw
      (s, q.put (iD w) x, false)
    else (s, q.put (iD w) (q.input cls fld i), false)

/-- The sort of a string is not ready (R346). -/
def State.sortWaits (s : State) (k w : Nat) (q : Sample) : Bool :=
  bitAt (s.get (R.CX_CFG.STRINGS k)) (bits w 10 8) && !bitAt q.ready (bits w 10 8)

/-- SORT, R354. n of a NaN, an infinity or a magnitude of 2^31 or more has no stated value: free. -/
def bodySort (w : Nat) : Body := fun s q =>
  let t := bits w 10 8
  let l := Tab.get [] q.sorts t
  let at' := match q.extra w 1 with
    | some e => if 0 ≤ (bits w 5 0 : Int) + e then l[((bits w 5 0 : Int) + e).toNat]? else none
    | none => none
  let int (x : Int) : Nat := round32 (x : Rat)
  match bits w 31 28 with
  | 0 => (s, q.put (iD w) (int l.length), false)
  | 1 => (s, q.put (iD w) (match at' with | some x => int x.1 | none => int (-1)), false)
  | 2 => (s, q.put (iD w) (match at' with
      | some x => if s.bit (R.STR_CFG.KEY_SRC t) then inputOf (some (sext 16 x.2)) 1 100 else inputOf (some x.2) 1 10
      | none => 0), false)
  | _ =>
    let (n, s) := match trunc32 (q.a w) with
      | some n => (n, s)
      | none => let (x, s) := s.draw; ((x : Int), s)
    let d : Int := if bitAt w 27 then max ((l.length : Int) - n) 0 else 0
    (s, (q.put (iD w) (int d)).putP 7 (n > l.length), false)

/-- A staged leg store (R355). -/
def bodyStore (fld w : Nat) : Body := fun s q =>
  match q.place w (bits w 8 0) 6 1000 with
  | some l => (s, { q with legs := q.legs ++ [{ leg := l, fld := fld, v := q.a w }] }, false)
  | none => (s, { q with outRange := true }, false)

/-- LUT, R356. -/
def bodyLut (k w : Nat) : Body := fun s q =>
  let a := q.a w
  if nan32 a then (s, q.put (iD w) qnan, false)
  else
    let kk := bits w 31 28
    let x : Rat := if neg32 a then 0 else if inf32 a then ((2 ^ kk : Nat) : Rat)
      else (if 1 ≤ val32 a then 1 else val32 a) * ((2 ^ kk : Nat) : Rat)
    let i := min x.floor.toNat (2 ^ kk - 1)
    let t0 := s.coefAt k q (bits w 14 0 + i)
    let t1 := s.coefAt k q (bits w 14 0 + i + 1)
    let p0 := ftz (t0.getD 0)
    let p1 := ftz (t1.getD 0)
    (s, q.put (iD w) (lut32 p0 p1 (x - (i : Rat)) (Config.approx 0x14 0 a p0 p1)), t0.isNone || t1.isNone)

/-- LOOP, R358. -/
def bodyLoop (w : Nat) (q : Sample) : Sample :=
  let l : LoopSt := { first := q.pc + 1, last := q.pc + bits w 23 16, idx := 0, count := bits w 15 0 }
  { q with loops := l :: q.loops }

/-! ### Instruction commands -/

/-- NOP, R350. -/
def execNop (k : Fin 128) (s : State) : Host.Outcome State Fault Refusal := .next (issue 0x00 k (fun _ => pureBody id) s)

/-- ADD, R350. -/
def execAdd (k : Fin 128) (s : State) : Host.Outcome State Fault Refusal := .next (compute 0x01 k (fun w q => add32 (q.a w) (q.b w)) s)

/-- SUB, R350. -/
def execSub (k : Fin 128) (s : State) : Host.Outcome State Fault Refusal :=
  .next (compute 0x02 k (fun w q => add32 (q.a w) (neg32of (q.b w))) s)

/-- MUL, R350. -/
def execMul (k : Fin 128) (s : State) : Host.Outcome State Fault Refusal := .next (compute 0x03 k (fun w q => mul32 (q.a w) (q.b w)) s)

/-- FMA, R350. -/
def execFma (k : Fin 128) (s : State) : Host.Outcome State Fault Refusal :=
  .next (compute 0x04 k (fun w q => fma32 (q.a w) (q.b w) (q.c w)) s)

/-- FNMA, R350. -/
def execFnma (k : Fin 128) (s : State) : Host.Outcome State Fault Refusal :=
  .next (compute 0x05 k (fun w q => fma32 (neg32of (q.a w)) (q.b w) (q.c w)) s)

/-- MIN, R348. -/
def execMin (k : Fin 128) (s : State) : Host.Outcome State Fault Refusal := .next (compute 0x06 k (fun w q => min32 (q.a w) (q.b w)) s)

/-- MAX, R348. -/
def execMax (k : Fin 128) (s : State) : Host.Outcome State Fault Refusal := .next (compute 0x07 k (fun w q => max32 (q.a w) (q.b w)) s)

/-- CLAMP, R348. -/
def execClamp (k : Fin 128) (s : State) : Host.Outcome State Fault Refusal :=
  .next (compute 0x08 k (fun w q => max32 (q.b w) (min32 (q.a w) (q.c w))) s)

/-- ABS, R350. -/
def execAbs (k : Fin 128) (s : State) : Host.Outcome State Fault Refusal := .next (compute 0x09 k (fun w q => abs32 (q.a w)) s)

/-- NEG, R350. -/
def execNeg (k : Fin 128) (s : State) : Host.Outcome State Fault Refusal := .next (compute 0x0A k (fun w q => neg32of (q.a w)) s)

/-- MOV, R350. -/
def execMov (k : Fin 128) (s : State) : Host.Outcome State Fault Refusal := .next (compute 0x0B k (fun w q => q.a w) s)

/-- ROUND, R349. -/
def execRound (k : Fin 128) (s : State) : Host.Outcome State Fault Refusal := .next (compute 0x0C k (fun w q => rnd32 (q.a w)) s)

/-- SEL, R350: C names the predicate. -/
def execSel (k : Fin 128) (s : State) : Host.Outcome State Fault Refusal :=
  .next (compute 0x0D k (fun w q => if q.pred (iC w % 8) then q.a w else q.b w) s)

/-- MOVI, R350. -/
def execMovi (k : Fin 128) (s : State) : Host.Outcome State Fault Refusal := .next (compute 0x0E k (fun w _ => iImm w) s)

/-- ADDI, R350. -/
def execAddi (k : Fin 128) (s : State) : Host.Outcome State Fault Refusal :=
  .next (compute 0x0F k (fun w q => add32 (q.a w) (ftz (iImm w))) s)

/-- MULI, R350. -/
def execMuli (k : Fin 128) (s : State) : Host.Outcome State Fault Refusal :=
  .next (compute 0x10 k (fun w q => mul32 (q.a w) (ftz (iImm w))) s)

/-- RCP, R351. -/
def execRcp (k : Fin 128) (s : State) : Host.Outcome State Fault Refusal :=
  .next (compute 0x11 k (fun w q => rcp32 (q.a w) (Config.approx 0x11 0 (q.a w) 0 0)) s)

/-- RSQ, R351. -/
def execRsq (k : Fin 128) (s : State) : Host.Outcome State Fault Refusal :=
  .next (compute 0x12 k (fun w q => rsq32 (q.a w) (Config.approx 0x12 0 (q.a w) 0 0)) s)

/-- SQRT, R351. -/
def execSqrt (k : Fin 128) (s : State) : Host.Outcome State Fault Refusal := .next (compute 0x13 k (fun w q => sqrt32 (q.a w)) s)

/-- LUT, R356. -/
def execLut (k : Fin 128) (s : State) : Host.Outcome State Fault Refusal := .next (issue 0x14 k (bodyLut k) s)

/-- SINCOS, R350, R351. -/
def execSincos (k : Fin 128) (s : State) : Host.Outcome State Fault Refusal :=
  .next (issue 0x15 k (fun w => pureBody (fun q =>
    let a := q.a w
    let f (i : Nat) (x : Rat) : Nat := if finite32 a then trig32 x (Config.approx 0x15 i a 0 0) else qnan
    (q.put (iD w) (f 0 (sinTurns (val32 a)))).put (iD w + 1) (f 1 (cosTurns (val32 a))))) s)

/-- ATAN2, R351. -/
def execAtan2 (k : Fin 128) (s : State) : Host.Outcome State Fault Refusal :=
  .next (compute 0x16 k (fun w q => atan32 (q.a w) (q.b w) (Config.approx 0x16 0 (q.a w) (q.b w) 0)) s)

/-- HYPOT, R351. -/
def execHypot (k : Fin 128) (s : State) : Host.Outcome State Fault Refusal :=
  .next (compute 0x17 k (fun w q => hypot32 (q.a w) (q.b w) (Config.approx 0x17 0 (q.a w) (q.b w) 0)) s)

/-- ROT, R350, R351. -/
def execRot (k : Fin 128) (s : State) : Host.Outcome State Fault Refusal :=
  .next (issue 0x18 k (fun w => pureBody (fun q =>
    let a := q.a w
    let b := q.b w
    let c := q.c w
    (q.put (iD w) (rot32 a b c (fun sn cs => val32 a * cs - val32 b * sn) (Config.approx 0x18 0 a b c))).put (iD w + 1)
      (rot32 a b c (fun sn cs => val32 a * sn + val32 b * cs) (Config.approx 0x18 1 a b c)))) s)

/-- CMPLT, R350. -/
def execCmplt (k : Fin 128) (s : State) : Host.Outcome State Fault Refusal := .next (test 0x19 k (fun w q => lt32 (q.a w) (q.b w)) s)

/-- CMPLE, R350. -/
def execCmple (k : Fin 128) (s : State) : Host.Outcome State Fault Refusal := .next (test 0x1A k (fun w q => le32 (q.a w) (q.b w)) s)

/-- CMPEQ, R350. -/
def execCmpeq (k : Fin 128) (s : State) : Host.Outcome State Fault Refusal := .next (test 0x1B k (fun w q => eq32 (q.a w) (q.b w)) s)

/-- CMPLTI, R350. -/
def execCmplti (k : Fin 128) (s : State) : Host.Outcome State Fault Refusal :=
  .next (test 0x1C k (fun w q => lt32 (q.a w) (ftz (iImm w))) s)

/-- PLOG, R350: A and B name predicates. -/
def execPlog (k : Fin 128) (s : State) : Host.Outcome State Fault Refusal :=
  .next (test 0x1D k (fun w q => bitAt w (2 * b2n (q.pred (iA w % 8)) + b2n (q.pred (iB w % 8)))) s)

/-- LDC, R352. -/
def execLdc (k : Fin 128) (s : State) : Host.Outcome State Fault Refusal := .next (issue 0x20 k (bodyLdc k) s)

/-- LDS, R352. -/
def execLds (k : Fin 128) (s : State) : Host.Outcome State Fault Refusal := .next (issue 0x21 k (bodyLds k) s)

/-- STS, R352. -/
def execSts (k : Fin 128) (s : State) : Host.Outcome State Fault Refusal := .next (issue 0x22 k (bodySts k) s)

/-- LDIN, R353. -/
def execLdin (k : Fin 128) (s : State) : Host.Outcome State Fault Refusal := .next (issue 0x23 k bodyLdin s)

/-- SORT, R346, R354: while the result is not ready, one issue cycle passes, predicated off or not (R343). -/
def execSort (k : Fin 128) (s : State) : Host.Outcome State Fault Refusal :=
  match s.instrAt k with
  | none => .next s
  | some (w, q) =>
    .next (if iOp w = 0x24 && s.sortWaits k w q then setRun k { q with issues := q.issues + 1 } s
      else issue 0x24 k bodySort s)

/-- STL, R355. -/
def execStl (k : Fin 128) (s : State) : Host.Outcome State Fault Refusal := .next (issue 0x25 k (bodyStore 0) s)

/-- STL2, R355. -/
def execStl2 (k : Fin 128) (s : State) : Host.Outcome State Fault Refusal := .next (issue 0x26 k (bodyStore 1) s)

/-- STM, R355. -/
def execStm (k : Fin 128) (s : State) : Host.Outcome State Fault Refusal := .next (issue 0x27 k (bodyStore 2) s)

/-- COMMIT, R357. -/
def execCommit (k : Fin 128) (s : State) : Host.Outcome State Fault Refusal :=
  .next (issue 0x28 k (fun w => pureBody (fun q => { q with commits := Nat.lor q.commits (bits w 15 0) })) s)

/-- EVT, R357. -/
def execEvt (k : Fin 128) (s : State) : Host.Outcome State Fault Refusal :=
  .next (issue 0x29 k (fun w => pureBody (fun q => { q with evts := q.evts ++ [(bits w 15 0, q.a w)] })) s)

/-- LOOP, R358: the loop index starts at 0 and the body follows. A LOOP with an end bit has no stated W: free. -/
def execLoop (k : Fin 128) (s : State) : Host.Outcome State Fault Refusal :=
  match s.instrAt k with
  | none => .next s
  | some (w, q) =>
    .next (if iOp w = 0x30 then
        if iE w then
          let (x, s) := s.draw
          setRun k (q.after w 1 x) s
        else setRun k { bodyLoop w q with pc := q.pc + 1, issues := q.issues + 1 } s
      else s)

/-! ### Program images, R359 to R363 -/

/-- The header and the parts of an image. -/
def imgLoad (b : List Byte) : Nat := leAt b 20 4
def imgWords (b : List Byte) : Nat := leAt b 24 4
def imgEntries (b : List Byte) : Nat := leAt b 28 2
def imgTable (b : List Byte) : List (Nat × Nat) :=
  (List.range (imgEntries b)).map (fun i => (leAt b (128 + 8 * i) 2, leAt b (132 + 8 * i) 4))

/-- Words of 8 bytes, little-endian. -/
def wordsOf : Nat → List Byte → List Nat
  | 0, _ => []
  | n + 1, b => leVal (b.take 8) :: wordsOf n (b.drop 8)

def imgCode (b : List Byte) : List Nat := wordsOf (imgWords b) (b.drop (128 + 8 * imgEntries b))
def imgBody (b : List Byte) : List Byte := b.take (b.length - 4627)
def imgKey (b : List Byte) : List Byte := (b.drop (b.length - 7219)).take 2592
def imgSig (b : List Byte) : List Byte := b.drop (b.length - 4627)

/-- An owner slot is ACTIVE and holds the digest of a key (R507). -/
def State.ownerKey (s : State) (slot : Nat) (key : List Byte) : Bool :=
  slot < 4 && Tab.get 0 s.sec.slotState slot == 1 && Tab.get 0 s.sec.slotDigest slot == Config.sha3 key

/-- Code 0x01. -/
def imgHeaderOk (b : List Byte) : Bool :=
  leAt b 0 4 == 0x434D4750 && leAt b 4 2 == 1 && leAt b 6 2 == 128
    && 1 ≤ imgEntries b && imgEntries b ≤ 128 && 1 ≤ imgWords b && imgWords b ≤ 32768
    && imgLoad b ≤ 32767 && imgLoad b + imgWords b ≤ 32768
    && leAt b 8 4 == 128 + 8 * imgEntries b + 8 * imgWords b + 7219 && b.length == leAt b 8 4

/-- Bits `hi` to `lo` set. -/
def span (hi lo : Nat) : Nat := 2 ^ (hi + 1) - 2 ^ lo

/-- Which registers an operation uses: D, A, B, C as bits 3 to 0. -/
def usesOf (op : Nat) : Nat :=
  if op = 0 then 0
  else if op = 4 ∨ op = 5 ∨ op = 8 ∨ op = 0x18 then 0b1111
  else if op ≤ 3 ∨ op = 6 ∨ op = 7 ∨ op = 0x16 ∨ op = 0x17 then 0b1110
  else if op = 0x0E then 0b1000
  else if op = 0x0F ∨ op = 0x10 ∨ op = 0x14 ∨ op = 0x15 ∨ (9 ≤ op ∧ op ≤ 0x0C) ∨ (0x11 ≤ op ∧ op ≤ 0x13) then 0b1100
  else if op = 0x20 ∨ op = 0x21 ∨ op = 0x23 then 0b1000
  else if op = 0x22 ∨ (0x25 ≤ op ∧ op ≤ 0x27) ∨ op = 0x29 then 0b0100
  else 0

/-- Operations with the address fields of R352. -/
def hasAddr (op : Nat) : Bool := 0x20 ≤ op && op ≤ 0x27

/-- The bits of an instruction that may be 1 (R342, R350 to R358). -/
def usedBits (w : Nat) : Nat :=
  let op := iOp w
  let u := usesOf op
  let head := span 63 56 + (if iPE w then span 55 52 else 0)
  let regs := (if bitAt u 3 then span 51 47 else 0) + (if bitAt u 2 then span 46 42 else 0)
    + (if bitAt u 1 then span 41 37 else 0) + (if bitAt u 0 then span 36 32 else 0)
  let addr := if hasAddr op then span 23 17 + (if iRB w then span 41 37 else 0) else 0
  let own :=
    if op = 0x0D then span 51 37 + span 34 32
    else if op = 0x0E ∨ op = 0x0F ∨ op = 0x10 then span 31 0
    else if op = 0x14 then span 31 28 + span 14 0
    else if 0x19 ≤ op ∧ op ≤ 0x1B then span 49 47 + span 46 37
    else if op = 0x1C then span 49 47 + span 46 42 + span 31 0
    else if op = 0x1D then span 49 47 + span 44 42 + span 39 37 + span 3 0
    else if op = 0x20 ∨ op = 0x21 ∨ op = 0x22 then span 14 0
    else if op = 0x23 then span 31 24 + span 11 0
    else if op = 0x24 then span 51 47 + span 31 28 + span 10 8 + span 5 0
      + (if bits w 31 28 = 3 then 2 ^ 27 + span 46 42 else 0)
    else if 0x25 ≤ op ∧ op ≤ 0x27 then span 8 0
    else if op = 0x28 ∨ op = 0x29 then span 15 0
    else if op = 0x30 then span 23 0
    else 0
  head + regs + addr + own

def opDefined (op : Nat) : Bool := op ≤ 0x1D || (0x20 ≤ op && op ≤ 0x29) || op == 0x30

/-- Code 0x04: defined operations, and every unused and reserved field 0, those of the header and entry table among them. -/
def imgFieldsOk (b : List Byte) : Bool :=
  (imgCode b).all (fun w => opDefined (iOp w) && Nat.land w (usedBits w) == w)
    && leAt b 18 2 == 0 && leAt b 30 2 == 0 && leAt b 64 64 == 0
    && (List.range (imgEntries b)).all (fun i => leAt b (130 + 8 * i) 2 == 0)

/-- Code 0x05. -/
def operandsOk (w : Nat) : Bool :=
  match iOp w with
  | 0x23 => inputCount (bits w 31 28) (bits w 27 24) != 0
  | 0x24 => bits w 31 28 ≤ 3
  | 0x14 => 1 ≤ bits w 31 28 && bits w 31 28 ≤ 10
  | 0x15 => iD w ≤ 30
  | 0x18 => iD w ≤ 30
  | 0x30 => bits w 23 16 != 0 && bits w 15 0 != 0 && !iPE w
  | _ => true

/-- Code 0x06: walk the words with the last words of the bodies that hold the present one, inner first. -/
def loopsOk : List Nat → Nat → List Nat → Nat → Bool
  | [], _, _, _ => true
  | w :: ws, i, ends, n =>
    let ends := ends.filter (fun e => i ≤ e)
    let d := ends.length
    let here := (ends.isEmpty || !iE w)
      && (!(hasAddr (iOp w) && iX w) || 1 ≤ d) && (!(hasAddr (iOp w) && iXO w) || 2 ≤ d)
    if iOp w = 0x30 then
      let e := i + bits w 23 16
      here && e < n && d ≤ 1 && ends.all (fun x => e ≤ x) && loopsOk ws (i + 1) (e :: ends) n
    else here && loopsOk ws (i + 1) ends n

/-- Issues and W from an entry to its end bit (R345): the bodies in force with their counts, the issues so far. -/
def runTime : List Nat → Nat → List (Nat × Nat) → Nat → Option Nat
  | [], _, _, _ => none
  | w :: ws, i, act, n =>
    let act := act.filter (fun e => i ≤ e.1)
    let m := act.foldl (fun m e => m * e.2) 1
    let n := n + m * issuesOf (iOp w)
    if iE w then (wOf (iOp w)).map (fun l => 4 * (n - 1) + l)
    else runTime ws (i + 1) (if iOp w = 0x30 then (i + bits w 23 16, bits w 15 0) :: act else act) n

/-- Code 0x07: an entry lies in the image and an end bit follows it. -/
def entryOk (b : List Byte) (e : Nat) : Bool :=
  imgLoad b ≤ e && e < imgLoad b + imgWords b && ((imgCode b).drop (e - imgLoad b)).any iE

/-- The code of the first check that fails, or 0 (R361). -/
def State.imageCode (s : State) (b : List Byte) : Nat :=
  let ws := imgCode b
  if !imgHeaderOk b then 1
  else if !(s.ownerKey (leAt b 17 1) (imgKey b) && Config.mldsa (imgKey b) (Config.sha3 (imgBody b)) (imgSig b)) then 2
  else if !(leAt b 16 1 ≤ 63 && Tab.get 0 s.sec.counters (leAt b 16 1) ≤ leAt b 15 1) then 3
  else if !imgFieldsOk b then 4
  else if !ws.all operandsOk then 5
  else if !loopsOk ws 0 [] ws.length then 6
  else if !(imgTable b).all (fun e => entryOk b e.1) then 7
  else if !(imgTable b).all (fun e => runTime (ws.drop (e.1 - imgLoad b)) (e.1 - imgLoad b) [] 0 == some e.2) then 8
  else 0

/-- Program memory with words listed from an address. -/
def progOf : List Nat → Nat → Tab Nat → Tab Nat
  | [], _, t => t
  | w :: ws, a, t => progOf ws (a + 1) (Tab.set 0 t a w)

/-- A context without an entry point has EN cleared and enters OFF (R362), also from STOPPED; on a tile with an error it stays STOPPED until Boot
(R333, log 94). -/
def dropCtx (k : Nat) (s : State) : State :=
  let s := offCtx k s
  if bitAt s.eng.tileErr (k / 4) then s else s.set (R.CX_STAT.STATE k) 0

/-- Load an image that passed (R362). -/
def loadImage (b : List Byte) (s : State) : State :=
  let s := cbiStore 0 (2 * imgLoad b) (2 * (imgCode b).length) s
  let s := s.modEng (fun e => { e with prog := progOf (imgCode b) (imgLoad b) [], entries := imgTable b })
  let s := { s with sec := { s.sec with image := b } }
  s.each ctxs128 (fun k s =>
    if (imgTable b).any (fun e => e.1 == s.get (R.CX_CFG.ENTRY k)) then s
    else if s.bit (R.CX_CFG.EN k) || s.ctxState k != 0 then dropCtx k s else s)

/-- A written image is checked; an accepted one is loaded and stored in the older copy of the store (R361, R362, R515). A
refused write sets SETTING_REFUSED but for a wrong length (R510, R541). -/
def writeImage (b : List Byte) (s : State) : State :=
  let c := s.imageCode b
  let s := s.set R.SEC_BOOT.LOAD_RESULT c
  if c = 0 then
    let o := 1 - s.sec.imageNew
    loadImage b { s with sec := { s.sec with images := Tab.set [] s.sec.images o b, imageNew := o } }
  else if c = 1 ∧ b.length ≠ leAt b 8 4 then s
  else refuse (Src.SEC_SETTING_REFUSED) s

/-- PROGRAM_IMAGE_WRITE, R360 to R362: accepted in Configure only. -/
def execProgramImageWrite (bs : List Byte) (s : State) : Host.Outcome State Fault Refusal :=
  .next (if s.inState [.configure] then writeImage bs s else s)

end Sys2Proof.Machine
end

