-- ==== Sys2Proof/Machine/Recorder.lean ====
section
/-!
DEFINITION. Machine/Recorder.lean: the event recorder and the commands of the life ledger (18_recorder_ledger.md).
-/
namespace Sys2Proof.Machine

/-! ### Slots, R473 to R475, R479 -/

/-- First slot and size of a region. -/
def regionBase (f : Bool) : Nat := if f then 0 else 1024
def regionSize (f : Bool) : Nat := if f then 1024 else 7168
def newestField (f : Bool) : Fld := if f then R.REC_FPOS.NEWEST else R.REC_GPOS.NEWEST

/-- The slot that a region's next record takes; the first one of an empty region (log 38). -/
def State.nextSlot (s : State) (f : Bool) : Nat :=
  let i := s.newest f
  if (s.slot i).mark then regionBase f + (i - regionBase f + 1) % regionSize f else i

def State.setSlot (s : State) (i : Nat) (x : RecSlot) : State :=
  s.modMram (fun m => { m with slots := Tab.set {} m.slots i x })

/-- The 128 bytes of a slot. -/
def RecSlot.image (x : RecSlot) : List Byte :=
  let mark := if x.mark then 0xA5C35A3C else 0
  match x.r with
  | some r => r.image mark x.seq
  | none => leBytes 4 mark ++ leBytes 4 x.seq ++ List.replicate 120 0

/-- The sequence number after one (R479). -/
def nextSeq (q : Nat) : Nat := if q = 2 ^ 32 - 1 then 1 else q + 1

/-- Write unit 0 of the next slot with MARK 0 and the new SEQ, after a flush of the region (R479, R482). -/
def beginWrite (r : Rec) (s : State) : State :=
  let f := faultRegion r
  let (s, l) := flush f s
  let i := s.nextSlot f
  let q := nextSeq (s.get R.REC_SEQ)
  let s := (s.setSlot i { s.slot i with mark := false, seq := q }).set R.REC_SEQ q
  report l { s with recd := { s.recd with writing := some (i, r) } }

/-- The queue whose head has the oldest stamp: control, management, data where stamps are equal (R479). -/
def State.oldestQueue (s : State) : Option Nat :=
  [0, 2, 1].foldl (fun b p => match s.queue p with
    | [] => b
    | r :: _ => match b with
      | none => some p
      | some q => match s.queue q with
        | x :: _ => if r.tsc < x.tsc then some p else b
        | [] => some p) none

/-- The record in flight is abandoned, and none starts: a loss of CKREF or of PLL-A awaits its reset (R64). -/
def State.abandoned (s : State) : Bool :=
  match s.pw.cause with | some c => c.code == 3 || c.code == 5 | none => false

/-- Take the oldest entry and start its record. -/
def startRecord (s : State) : State :=
  match s.recd.writing, s.oldestQueue with
  | none, some p =>
    if s.recd.scanned && !s.abandoned then
      match s.queue p with
      | [] => s
      | r :: q => beginWrite r { s with recd := { s.recd with queues := Tab.set [] s.recd.queues p q } }
    else s
  | _, _ => s

/-- The MARK of the record in flight is written, and the repeats that came meanwhile are flushed. -/
def endRecord (s : State) : State :=
  match s.recd.writing with
  | none => s
  | some (i, r) =>
    let f := faultRegion r
    let s := (s.setSlot i { mark := true, seq := (s.slot i).seq, r := some r }).set (newestField f) i
    let (s, l) := flush f { s with recd := { s.recd with writing := none } }
    report l s

/-- Both regions are flushed (R482). -/
def flushAll (s : State) : State :=
  let (s, l) := flush true s
  let (s, m) := flush false s
  report (l ++ m) s

/-! ### Periodic records, R478 -/

/-- A periodic record. -/
def periodicRec (typ inst : Nat) (p : List Byte) (s : State) : State :=
  postRec { typ := typ, cls := 0, plane := planeOf 15 0, observed := true, inst := inst, payload := p } s

/-- A reading, or the invalid code of INTEGER16. -/
def int16 (x : Option Int) : List Byte := leBytes 2 (match x with | some v => ofInt 16 v | none => 0x8000)

def periodic (s : State) : State :=
  let en := s.get R.REC_CTRL.HIST_EN
  let s := if bitAt en 0 then s.each (ctxs128.filter s.ctxActive) (fun k s =>
      periodicRec 6 k (leBytes 1 (s.get (R.CX_HCFG.SHIFT k)) ++ (List.range 16).flatMap (fun i => leBytes 4 (s.get (R.CX_HIST k i)))
        ++ leBytes 2 (s.get (R.CX_MAX.MAXDELAY k)) ++ leBytes 2 (s.get (R.CX_COUNTS.OVERRUNS k))
        ++ leBytes 2 (s.get (R.CX_COUNTS.NOT_COMMITTED k))) s)
    else s
  let s := if bitAt en 1 then
      let s := periodicRec 7 0 (words4 s.recd.dieHist 16) s
      { s with recd := { s.recd with dieHist := [] } }
    else s
  let s := if bitAt en 2 then
      let s := periodicRec 8 0 ((List.range 12).flatMap (fun i =>
        int16 (Tab.get none s.recd.dieLow i) ++ int16 (Tab.get none s.recd.dieHigh i))) s
      { s with recd := { s.recd with dieLow := [], dieHigh := [] } }
    else s
  if bitAt en 3 then
    let s := periodicRec 9 0 ((List.range 8).flatMap (fun t =>
      let x := Tab.get {} s.recd.strExt t
      leBytes 2 x.vLow ++ leBytes 2 x.vHigh ++ int16 x.tHigh ++ leBytes 2 (x.iHigh.getD 0x8000))) s
    { s with recd := { s.recd with strExt := [] } }
  else s

/-- The hottest good sensor's reading, 1/16 °C. -/
def State.hottest (s : State) : Option Int :=
  (List.range 12).foldl (fun b i =>
    if bitAt (s.get R.TH_STAT.FAILED) i || s.get (R.TH_SENS.TEMP i) == 0x8000 then b
    else
      let v := sext 16 (s.get (R.TH_SENS.TEMP i))
      match b with | some x => some (max x v) | none => some v) none

/-- The die temperature histogram counts a second (R476). -/
def dieSecond (s : State) : State :=
  match s.hottest with
  | none => s
  | some v =>
    let b := (clampInt 0 15 ((v + 640) / 160)).toNat
    { s with recd := { s.recd with dieHist := Tab.set 0 s.recd.dieHist b (satAdd 0xFFFFFFFF (Tab.get 0 s.recd.dieHist b) 1) } }

/-! ### Reading, R483, R485 -/

/-- Unit `u` of slot `i` as a number. -/
def State.recUnit (s : State) (i u : Nat) : Nat := leAt (s.slot i).image (8 * u) 8

/-- A read of REC_RDATA_LO latches bits 63:32, for the reader (R483, R541). -/
def readDataLo (host : Bool) (s : State) : State :=
  let v := s.recUnit (s.get R.REC_RADDR.SLOT) (s.get R.REC_RADDR.UNIT) / 2 ^ 32
  if host then { s with recd := { s.recd with rdataHiHost := v } } else s.set R.REC_RDATA_HI v

/-- The slot of the valid record with a sequence number. -/
def State.slotOfSeq (s : State) (q : Nat) : Option Nat :=
  (List.find? (fun (e : Nat × RecSlot) => e.2.mark && e.2.seq == q) s.mram.slots).map (·.1)

/-- A record is copied to the read buffer (R485). -/
def selectRecord (q : Nat) (s : State) : State :=
  match s.slotOfSeq q with
  | some i => { s with recd := { s.recd with selected := (s.slot i).image } }
  | none => refuse (Src.REC_SETTING_REFUSED) s

/-! ### Boot scan, R486, R494 -/

/-- `a` comes after `b` in serial order. -/
def later (a b : Nat) : Bool := (a + 2 ^ 32 - b) % 2 ^ 32 < 2 ^ 31 && a != b

/-- The slots of a region that hold something, with their numbers. -/
def State.regionSlots (s : State) (f : Bool) : Tab RecSlot :=
  s.mram.slots.filter (fun e => regionBase f ≤ e.1 && e.1 < regionBase f + regionSize f)

/-- The newest valid record of a region fixes where it continues; torn slots are counted. -/
def scanRegion (f : Bool) (s : State) : State :=
  let l := s.regionSlots f
  let best := l.foldl (fun (b : Option (Nat × Nat)) e =>
    if e.2.mark then
      match b with
      | some x => if later e.2.seq x.2 then some (e.1, e.2.seq) else b
      | none => some (e.1, e.2.seq)
    else b) none
  let torn := (l.filter (fun e => !e.2.mark && e.2.seq != 0)).length
  let s := s.set (newestField f) (match best with | some x => x.1 | none => regionBase f)
  if torn = 0 then s
  else raise (Src.REC_TORN (b2n (!f))) (s.set R.REC_TORN.TORN_REC (satAdd 65535 (s.get R.REC_TORN.TORN_REC) torn))

/-- The copies of a lane: the valid one with the higher SEQ is used; a torn copy is counted. -/
def scanLane (n : Nat) (s : State) : State :=
  let a := Tab.get {} s.mram.copyA n
  let b := Tab.get {} s.mram.copyB n
  let torn := b2n (!a.mark && a.seq != 0) + b2n (!b.mark && b.seq != 0)
  let l := if a.mark && (!b.mark || b.seq < a.seq) then a.life else if b.mark then b.life else none
  let s := s.modLed n (fun x => { x with life := l, dirty := false })
  if torn = 0 then s
  else raise (Src.REC_LEDGER_TORN n) (s.set R.REC_TORN.TORN_LED (satAdd 65535 (s.get R.REC_TORN.TORN_LED) torn))

/-- The words of RST_CAUSE and START_STAT. -/
def fieldsWord (s : State) (l : List Fld) : Nat := l.foldl (fun v f => v + s.get f * 2 ^ f.lo) 0
def State.rstCause (s : State) : Nat :=
  fieldsWord s [R.RST_CAUSE.PREV_CAUSE, R.RST_CAUSE.CAUSE, R.RST_CAUSE.PGOOD_LOW, R.RST_CAUSE.STAGE, R.RST_CAUSE.SECOND, R.RST_CAUSE.TSC_VALID]
def State.startStat (s : State) : Nat :=
  fieldsWord s [R.START_STAT.FAILED_TOTAL, R.START_STAT.SLATE_REASON, R.START_STAT.SLATE, R.START_STAT.PENDING, R.START_STAT.FAILED_CONSEC]

/-- The scan of both regions and of the ledger, then the Start record. -/
def bootScan (s : State) : State :=
  let recs := s.get R.REC_TORN.TORN_REC
  let leds := s.get R.REC_TORN.TORN_LED
  let top := s.mram.slots.foldl (fun q e => if q = 0 || later e.2.seq q then e.2.seq else q) 0
  let s := scanRegion false (scanRegion true s)
  let s := s.each lanes64 scanLane
  let s := s.set R.REC_SEQ top
  let p := leBytes 4 s.rstCause ++ leBytes 4 s.startStat ++ leBytes 4 (s.get R.FAIL_CAUSES)
    ++ leBytes 2 (s.get R.REC_TORN.TORN_REC - recs) ++ leBytes 2 (s.get R.REC_TORN.TORN_LED - leds)
  beginWrite (s.stamp { typ := 0xB, cls := 0, plane := planeOf 15 0, observed := true, payload := p })
    { s with recd := { s.recd with scanned := true }, pw := { s.pw with stage := if s.pw.fwRuns && !s.pw.slateStart then 6 else s.pw.stage } }

/-! ### History import, R496 -/

/-- An import of 1,280 bytes into the selected history slot. -/
def importSlot (b : List Byte) (s : State) : State :=
  if !s.inState [.configure] || b.length != 1280 then s
  else
    let l := { lifeOf b with imported := true }
    if leAt b 0 4 != 0xA5C35A3C || s.liveLanes.any (fun n => match (s.led n).life with | some x => x.digest == l.digest | none => false)
        || (s.histOf l.digest).isSome then refuse (Src.REC_SETTING_REFUSED) s
    else s.setHist (s.get (obj 0x4C00 0x13 16 .rw 0)) (some l)

/-! ### Commands -/

/-- RECORD_WRITE_START, R479. -/
def execRecordWriteStart (s : State) : Host.Outcome State Fault Refusal := .next (startRecord s)

/-- RECORD_WRITE_COMPLETE, R479, R482: a record that R64 abandons keeps MARK 0. -/
def execRecordWriteComplete (s : State) : Host.Outcome State Fault Refusal := .next (if s.abandoned then s else endRecord s)

/-- REPEAT_FLUSH, R482. -/
def execRepeatFlush (s : State) : Host.Outcome State Fault Refusal := .next (flushAll s)

/-- PERIODIC_RECORDS, R478. -/
def execPeriodicRecords (s : State) : Host.Outcome State Fault Refusal := .next (periodic s)

/-- RECORD_DATA_LO_READ, R483. -/
def execRecordDataLoRead (host : Bool) (s : State) : Host.Outcome State Fault Refusal := .next (readDataLo host s)

/-- RECORD_DATA_HI_READ, R483: the latched bits are read, and UNIT moves on. -/
def execRecordDataHiRead (_host : Bool) (s : State) : Host.Outcome State Fault Refusal :=
  .next (s.set R.REC_RADDR.UNIT (s.get R.REC_RADDR.UNIT + 1))

/-- RECORD_SELECT, R485. -/
def execRecordSelect (v : Nat) (s : State) : Host.Outcome State Fault Refusal :=
  .next (if v % 2 ^ 32 = 0 then s else selectRecord (v % 2 ^ 32) s)

/-- RECORDER_BOOT_SCAN, R486: once in each Boot, in stage 0x6 of a normal start (R500). -/
def execRecorderBootScan (s : State) : Host.Outcome State Fault Refusal :=
  .next (if s.inState [.boot] && !s.recd.scanned then bootScan s else s)

/-- LEDGER_SAMPLE, R489. -/
def execLedgerSample (n : Fin 64) (s : State) : Host.Outcome State Fault Refusal := .next (ledgerSample n s)

/-- LEDGER_SECOND, R492, for every lane; the die histogram counts the second too (log 38). -/
def execLedgerSecond (s : State) : Host.Outcome State Fault Refusal :=
  .next (dieSecond (s.each lanes64 ledgerSecond))

/-- LEDGER_SAVE, R494. -/
def execLedgerSave (n : Fin 64) (s : State) : Host.Outcome State Fault Refusal := .next (startSave n s)

/-- LEDGER_CHUNK_WRITE, R480. -/
def execLedgerChunkWrite (s : State) : Host.Outcome State Fault Refusal := .next (saveChunk s)

/-- HISTORY_IMPORT, R496. -/
def execHistoryImport (bs : List Byte) (s : State) : Host.Outcome State Fault Refusal := .next (importSlot bs s)

end Sys2Proof.Machine
end

