-- ==== Sys2Proof/Machine/Timescale.lean ====
section
/-!
DEFINITION. Machine/Timescale.lean: the timescale and its discipline (05_timescale.md), and group time and hop delay on
the spine (15_spine_groups.md R424). Offsets are in 1/128 tick; one tick is 0.9765625 ns.
-/
namespace Sys2Proof.Machine

def State.modTs (s : State) (f : Ts → Ts) : State := { s with ts := f s.ts }
def State.modPtp (s : State) (f : Ptp → Ptp) : State := s.modTs (fun t => { t with ptp := f t.ptp })
def State.spl (s : State) (i : Nat) : SpLane := Tab.get {} s.spine.lanes i
def State.modSpl (s : State) (i : Nat) (f : SpLane → SpLane) : State :=
  { s with spine := { s.spine with lanes := Tab.modify {} s.spine.lanes i f } }

/-! ### TSC, operating seconds, R126, R128 -/

/-- A read of TS_TSC_LO latches bits 63:32 for its reader (R126, R541). -/
def readTscLo (host : Bool) (s : State) : State :=
  let v := s.ts.tsc / 2 ^ 32 % 2 ^ 32
  if host then s.modTs (fun t => { t with tscHiHost := v }) else s.set R.TS_TSC_HI v

/-- What the MRAM slot that is written next holds, while it is written and after (R128). -/
def Mram.putOpsec (m : Mram) (v : Option Nat) : Mram :=
  { m with opsecA := if m.opsecNext then m.opsecA else v, opsecB := if m.opsecNext then v else m.opsecB, opsecTorn := v.isNone }

/-- A save of the operating seconds and the temperature table ends with its valid mark (R128, R138); the next goes to the other slot. -/
def endOpsec (v : Nat) (s : State) : State :=
  { s with ts := { s.ts with saving := none }, mram := { s.mram.putOpsec (some v) with opsecNext := !s.mram.opsecNext, bins := s.ts.bins } }

/-- Save the operating seconds before a reset, which waits for the save (R128); one under way ends first. -/
def saveOpsec (s : State) : State :=
  let s := match s.ts.saving with | some (v, _) => endOpsec v s | none => s
  endOpsec s.opsec s

/-- A periodic save begins (R128): its slot has no valid mark until the save ends, within 2,048 ticks (R480; log 42). -/
def startOpsec (s : State) : State :=
  if s.cored ∧ s.ts.saving = none then
    { s.modTs (fun t => { t with saving := some (s.opsec, s.now) }) with mram := s.mram.putOpsec none }
  else s

/-- A save that was torn is found at Boot (R129). -/
def foundTorn (s : State) : State := { s with mram := { s.mram with opsecTorn := false } }

/-! ### States, R137, R139 -/

/-- Change the discipline state; the instant at which LOCKED or FOLLOW ends is kept for R379. -/
def setTsState (st : Nat) (s : State) : State :=
  let was := s.tsState
  let s := if (was = 2 ∨ was = 6) ∧ st ≠ was then s.modTs (fun t => { t with lockedAt := some t.tsc }) else s
  s.set R.TS_STAT.STATE st

/-- Entry to HOLDOVER or GROUP_COAST from a locked state: the estimate starts, F_last and T_last are kept (R139). -/
def startHold (s : State) : State :=
  if s.ts.holdSince.isSome then s
  else s.modTs (fun t => { t with holdSince := some t.tsc, holdPassed := false, fLast := t.freq, tLast := t.tMean })

/-- The compensation sensor changes (R462): the mean under way, T and T_last of the old one are dropped. -/
def newSensor (s : State) : State := s.modTs (fun t => { t with tSum := 0, tN := 0, tMean := none, tLast := none })

def endHold (s : State) : State := s.modTs (fun t => { t with holdSince := none, holdPassed := false })

/-- An offset is above the jump threshold. -/
def State.isJump (s : State) (x : Int) : Bool := x.natAbs * 125 > s.get O.JUMP_THR * 16384

/-- Clear the agreement run (R137). -/
def clearAgree (s : State) : State := (s.modTs (fun t => { t with agree := [] })).set R.TS_STAT.QUAL_CNT 0

/-! ### Agreement, R137, R141 -/

/-- A sample of a run, corrected for the frequency over the time since the first (log 39). -/
def corrected (freq : Int) (t0 : Nat) (p : Nat × Int) : Rat :=
  (p.2 : Rat) - (freq : Rat) * (((p.1 : Int) - (t0 : Int) : Int) : Rat) * mkRat 128 (10 ^ 10)

/-- The samples of a run lie within a band 100 ns wide. -/
def inBand (freq : Int) (l : List (Nat × Int)) : Bool :=
  match l with
  | [] => true
  | p :: _ =>
    let v := l.map (corrected freq p.1)
    l.all (fun a => v.all (fun b => (corrected freq p.1 a - b) * 125 ≤ 1638400))

/-- The run after one more sample: one outside the band is the first of a new run. -/
def pushAgree (freq : Int) (l : List (Nat × Int)) (p : Nat × Int) : List (Nat × Int) :=
  if inBand freq (l ++ [p]) then l ++ [p] else [p]

/-- Insert in rising order. -/
def insertInt (x : Int) : List Int → List Int
  | [] => [x]
  | y :: ys => if x ≤ y then x :: y :: ys else y :: insertInt x ys

/-- The median of eight offsets: the mean of the middle two. -/
def median8 (l : List (Nat × Int)) : Rat :=
  let v := l.foldl (fun a p => insertInt p.2 a) []
  (((v.getD 3 0 + v.getD 4 0 : Int)) : Rat) / 2

/-! ### TAI offset, R131, R141 -/

/-- The "TAI offset changed" record (R131): old and new offset. -/
def taiEvent (old new : Nat) (s : State) : State := postEvent 12 0 0 0 (leBytes 8 old ++ leBytes 8 new) s

/-- TAI_OFFSET with a change, mod 2^64. -/
def State.taiPlus (s : State) (d : Int) : Nat := (((s.ts.taiOffset : Int) + d) % (2 ^ 64 : Nat)).toNat

/-- A slew ends: where it stands, or at its target. -/
def endSlew (s : State) : State :=
  if s.bit R.TS_STAT.SLEWING then
    taiEvent s.ts.slewFrom s.ts.taiOffset ((s.modTs (fun t => { t with slewLeft := 0 })).set R.TS_STAT.SLEWING 0)
  else s

/-- The pending change applies at a frame boundary (R131). On a Member a change by one tick is a tick of the Root's slew and has no event
(log 80). -/
def applyTai (s : State) : State :=
  match s.ts.pendingTai with
  | none => s
  | some c =>
    let old := s.ts.taiOffset
    let s := s.modTs (fun t => { t with pendingTai := none })
    match c with
    | .acquire o => taiEvent old o (s.modTs (fun t => { t with taiOffset := o }))
    | .follow o =>
      let s := s.modTs (fun t => { t with taiOffset := o })
      if ((o : Int) - old).natAbs ≤ 1 then s else taiEvent old o s
    | .step d => raise (Src.TS_STEPPED) (taiEvent old (s.taiPlus d) (s.modTs (fun t => { t with taiOffset := s.taiPlus d })))
    | .slew d =>
      if d = 0 then s
      else taiEvent old (s.taiPlus d) ((s.modTs (fun t => { t with slewLeft := d, slewFrom := old })).set R.TS_STAT.SLEWING 1)

/-- One tick of a slew (R141). -/
def slewStep (s : State) : State :=
  if s.bit R.TS_STAT.SLEWING then
    let d : Int := if s.ts.slewLeft < 0 then -1 else 1
    let s := s.modTs (fun t => { t with taiOffset := s.taiPlus d, slewLeft := t.slewLeft - d })
    if s.ts.slewLeft = 0 then endSlew s else s
  else s

/-! ### Discipline, R136, R137 -/

/-- A number clamped to ±`m`. -/
def clampRat (m x : Rat) : Rat := if x < -m then -m else if m < x then m else x

/-- The servo takes an offset in 1/128 tick (R136): a second-order loop of time constant 32 s and damping 1. With ω = 1/32 s the integral part gains
ω²·x for each second since the last sample and the proportional part is 2ω·x, both in 0.1 ppb (DESIGN CHOICE: R136 gives no discrete form;
log 79). The proportional part, which pulls in a residual phase, is at most 5 µs/s; the correction is at most 50 ppm, and at that limit REF_RANGE is
set. -/
def servo (x : Int) (s : State) : State :=
  let dt : Nat := match s.ts.servoAt with | some t => s.ts.tsc - t | none => 0
  let u : Rat := (x : Rat) * mkRat (10 ^ 10) 131072000000
  let i := clampRat 500000 (s.ts.integ + u * mkRat dt 1024000000 / 1024)
  let f := clampInt (-500000) 500000 (roundEvenInt (i + clampRat 50000 (u / 16)))
  let s := s.modTs (fun t => { t with freq := f, integ := i, resid := x, servoAt := some t.tsc })
  if f.natAbs = 500000 then raise (Src.TS_REF_RANGE) s else s

/-- LOCKED is left for HOLDOVER. -/
def loseLock (s : State) : State :=
  raise (Src.TS_REF_LOST) (clearAgree (startHold (setTsState 3 (s.modTs (fun t => { t with jumps := 0 })))))

/-- The reference is lost: missing, or deselected (R135, R137). -/
def refLost (s : State) : State :=
  match s.tsState with
  | 1 => (clearAgree (setTsState 0 s)).modTs (fun t => { t with source := .none })
  | 2 => loseLock (endSlew s)
  | 4 => clearAgree (setTsState 3 s)
  | _ => s

/-- TAI_OFFSET is to be set from an offset at the next frame boundary. -/
def acquire (x : Int) (s : State) : State :=
  clearAgree (s.modTs (fun t => { t with pendingTai := some (.acquire (s.taiPlus (roundEvenInt ((x : Rat) / 128)))) }))

/-- Push a sample on the agreement run. -/
def agreeWith (x : Int) (s : State) : State :=
  let l := pushAgree s.ts.freq s.ts.agree (s.ts.tsc, x)
  (s.modTs (fun t => { t with agree := l })).set R.TS_STAT.QUAL_CNT l.length

/-- Eight samples agree in REQUALIFY (R137, R141). -/
def requalified (s : State) : State :=
  let m := median8 s.ts.agree
  let d := roundEvenInt (m / 128)
  let s := (endHold (setTsState 2 s)).modTs (fun t => { t with agree := [], jumps := 0 })
  if absRat m * 125 > ((s.get O.JUMP_THR * 16384 : Nat) : Rat) then
    s.modTs (fun t => { t with pendingTai := some (if s.get O.JUMP_POLICY = 0 then .step d else .slew d), resid := roundEvenInt m - 128 * d, servoAt := none })
  else s.modTs (fun t => { t with resid := roundEvenInt m, servoAt := none })

/-- A sample in REQUALIFY. -/
def requalify (x : Int) (s : State) : State :=
  let s := if s.isJump x then raise (Src.TS_REF_JUMP) s else s
  let s := agreeWith x s
  if s.ts.agree.length ≥ 8 then requalified s else s

/-- A sample of the source in use (R137). Where it sets TAI_OFFSET, the servo takes what the whole ticks leave. -/
def refSample (x : Int) (s : State) : State :=
  let s := s.modTs (fun t => { t with lastX := x })
  let r := x - 128 * roundEvenInt ((x : Rat) / 128)
  match s.tsState with
  | 0 => servo r (acquire x (setTsState 1 (s.modTs (fun t => { t with servoAt := none }))))
  | 1 =>
    if s.isJump x then servo r (acquire x s)
    else
      let s := servo x (agreeWith x s)
      if s.ts.agree.length ≥ 8 then
        (setTsState 2 s).modTs (fun t => { t with taiValid := true, agree := [], jumps := 0 })
      else s
  | 2 =>
    let e := x - 128 * s.ts.slewLeft
    if s.isJump e then
      let s := s.modTs (fun t => { t with jumps := t.jumps + 1 })
      if s.ts.jumps ≥ 3 then loseLock (endSlew s) else s
    else servo e (s.modTs (fun t => { t with jumps := 0 }))
  | 3 => requalify x (clearAgree (setTsState 4 s))
  | 4 => requalify x s
  | _ => s

/-! ### References on the Root, R132 to R135 -/

/-- Mapped TAI at a TSC, in 1/128 tick. -/
def State.tai128 (s : State) (tsc : Nat) : Int := 128 * ((((tsc : Int) + s.ts.groupOffset + s.ts.taiOffset) % (2 ^ 64 : Nat)))

/-- A PTP time with its correction, in 1/128 tick (R130: 1.024 ticks to the ns; corrections in 2^-16 ns). -/
def ptp128 (sec ns : Nat) (corr : Int) : Int := 131072000000 * (sec : Int) + ((ns : Int) * 65536 + corr) / 500

/-- The reference in use is PPS, and it gives samples. -/
def State.onPps (s : State) : Bool := s.ts.source == .pps && (s.tsState == 1 || s.tsState == 2 || s.tsState == 4)

/-- A PTP sample (R135): under selection 3 PTP replaces PPS when 8 of its samples agree. -/
def ptpSample (x : Int) (s : State) : State :=
  let sel := s.get O.SOURCE_SEL
  if sel = 1 ∨ (sel = 3 ∧ ¬ s.onPps) then
    refSample x (s.modTs (fun t => { t with source := .ptp, ptpMissing := false, ptpAgree := [] }))
  else if sel = 3 then
    let l := pushAgree s.ts.freq s.ts.ptpAgree (s.ts.tsc, x)
    if l.length ≥ 8 then
      refSample x ((refLost s).modTs (fun t => { t with source := .ptp, ptpMissing := false, ptpAgree := [] }))
    else s.modTs (fun t => { t with ptpAgree := l })
  else s

/-- A PPS sample (R135). -/
def ppsSample (x : Int) (s : State) : State :=
  let sel := s.get O.SOURCE_SEL
  if sel = 2 ∨ (sel = 3 ∧ (s.ts.source = .pps ∨ s.ts.ptpMissing)) then
    refSample x (s.modTs (fun t => { t with source := .pps }))
  else s

/-- Master data `a` is better than `b`: the default data set comparison of IEEE 1588-2019. -/
def betterMaster (a b : Announce) : Bool :=
  let ka := [a.priority1, a.clockClass, a.accuracy, a.variance, a.priority2, a.grandmaster, a.steps, a.source]
  let kb := [b.priority1, b.clockClass, b.accuracy, b.variance, b.priority2, b.grandmaster, b.steps, b.source]
  decide (ka < kb)

/-- A message is of the device's domain and from the selected master. -/
def State.fromMaster (s : State) (domain source : Nat) : Bool :=
  domain == s.get O.PTP_DOMAIN && (match s.ts.ptp.master with | some m => m.source == source | none => false)

/-- A Sync with its precise origin time gives an offset. -/
def syncSample (rx : Nat) (t : Int) (s : State) : State := ptpSample (t + s.ts.ptp.meanDelay - s.tai128 rx) s

/-- The mean path delay of a peer exchange: t1 and t4, and the peer's turnaround (R132). -/
def peerDelay (t1 t4 : Nat) (turn : Int) : Int := (128 * ((t4 : Int) - t1) - turn) / 2

/-- The UTC − TAI offset from PTP; a change is kept for R379. -/
def setUtc (u : Int) (s : State) : State :=
  if s.ts.utcOffset = u then s else s.modTs (fun t => { t with utcOffset := u, utcChanged := some t.tsc })

/-- A received Announce (R132); a master that leaves the PTP timescale is no longer selected, and one whose Announce messages have ceased for 3 s
yields to any other (log 78). currentUtcOffset is TAI − UTC, so UTC − TAI is its negative (R130). -/
def takeAnnounce (a : Announce) (s : State) : State :=
  if !a.ptpTimescale ∧ s.fromMaster a.domain a.source ∧ -4 ≤ a.logSync ∧ a.logSync ≤ 0 then
    s.modPtp (fun p => { p with master := none })
  else if a.domain = s.get O.PTP_DOMAIN ∧ a.ptpTimescale ∧ -4 ≤ a.logSync ∧ a.logSync ≤ 0 then
    let take := match s.ts.ptp.master with
      | none => true
      | some m => m.source == a.source || betterMaster a m || decide (s.ts.ptp.masterAt + 3 * ticksPerSec < s.ts.tsc)
    if take then
      setUtc (-a.utcOffset) (s.modPtp (fun p => { p with master := some a, masterAt := s.ts.tsc, leap61 := a.leap61, leap59 := a.leap59 }))
    else s
  else s

/-- A PTP frame (R132). PTP is unavailable under spread (R25), and a Member takes no reference (R135). -/
def takePtp (m : PtpMessage) (s : State) : State :=
  match m with
  | .badFcs => raise (Src.EG_RX_BAD) s
  | m =>
    if !s.isRoot || s.bit R.CLK_STAT.SPREAD_ACT then s
    else match m with
    | .announce a => takeAnnounce a s
    | .sync domain source seq twoStep rx sec ns corr =>
      if s.fromMaster domain source then
        if twoStep then s.modPtp (fun p => { p with sync := some (source, seq, rx, corr) })
        else syncSample rx (ptp128 sec ns corr) s
      else s
    | .followUp domain source seq sec ns corr =>
      if s.fromMaster domain source then
        match s.ts.ptp.sync with
        | some (src, q, rx, c) =>
          if src = source ∧ q = seq then syncSample rx (ptp128 sec ns (corr + c)) (s.modPtp (fun p => { p with sync := none })) else s
        | none => s
      else s
    | .pdelayReq domain source seq rx =>
      if domain = s.get O.PTP_DOMAIN then s.modPtp (fun p => { p with sent := p.sent ++ [.pdelayResp source seq rx (s.get O.PTP_VLAN) (s.get O.PTP_PRIO)] }) else s
    | .pdelayResp domain _ seq twoStep rx sec ns corr =>
      match s.ts.ptp.pdelayT1 with
      | some t1 =>
        if domain = s.get O.PTP_DOMAIN ∧ seq = s.ts.ptp.pdelaySeq then
          if twoStep then s.modPtp (fun p => { p with pdelayResp := some (rx, ptp128 sec ns (-corr)) })
          else s.modPtp (fun p => { p with meanDelay := peerDelay t1 rx (corr / 500), pdelayT1 := none })
        else s
      | none => s
    | .pdelayRespFollowUp domain _ seq sec ns corr =>
      match s.ts.ptp.pdelayT1, s.ts.ptp.pdelayResp with
      | some t1, some (t4, t2) =>
        if domain = s.get O.PTP_DOMAIN ∧ seq = s.ts.ptp.pdelaySeq then
          s.modPtp (fun p => { p with meanDelay := peerDelay t1 t4 (ptp128 sec ns corr - t2), pdelayT1 := none, pdelayResp := none })
        else s
      | _, _ => s
    | .other => s
    | .badFcs => s

/-- A Pdelay_Req is sent (R132). -/
def sendPdelay (s : State) : State :=
  if s.isRoot && s.ts.running && !s.bit R.CLK_STAT.SPREAD_ACT then
    let q := (s.ts.ptp.pdelaySeq + 1) % 65536
    s.modPtp (fun p => { p with pdelaySeq := q, pdelayT1 := some s.ts.tsc, pdelayResp := none, sent := p.sent ++ [.pdelayReq q (s.get O.PTP_VLAN) (s.get O.PTP_PRIO)] })
  else s

/-- An edge of PPS (R133, R134): `frac` 1/128 ticks after the present tick. In the reset state, Standby, Cold hold and Slate it is ignored (R43).
An edge without a label is not used; R133 does not say whether it is accepted, and it counts as the last accepted edge (DESIGN CHOICE, log 81).
A label written in the same core cycle labels the following edge. -/
def ppsEdge (frac : Nat) (s : State) : State :=
  if !s.isRoot || !s.inState [.boot, .configure, .armed, .run, .safe] then s
  else if (match s.ts.ppsLast with | some t => decide (s.ts.tsc < t + 512000000) | none => false) then raise (Src.TS_PPS_STRAY) s
  else
    let s := s.modTs (fun t => { t with ppsLast := some t.tsc })
    let fresh : Option (Option Nat) := match s.ts.ppsWas with | some (n, l) => if n = s.now then some l else none | none => none
    match fresh.getD s.ts.ppsLabel with
    | none => raise (Src.TS_TOS_MISSING) s
    | some l =>
      let s := if fresh.isSome then s else s.modTs (fun t => { t with ppsLabel := some (l + 1), ppsNew := false })
      let cable := sext 32 (s.get O.PPS_CABLE) * 16384 / 125
      ppsSample (131072000000 * (l : Int) + cable - (s.tai128 s.ts.tsc + frac % 128)) s

/-- The label of the next edge (R134); a Member ignores it. -/
def writeLabel (v : Nat) (s : State) : State :=
  if v < 2 ^ 48 then
    let s := s.set O.PPS_LABEL v
    if s.isRoot then s.modTs (fun t => { t with ppsLabel := some v, ppsNew := true, ppsWas := some (s.now, t.ppsLabel) }) else s
  else s

/-- 3 s without a sample (R135, R137). -/
def refMissing (s : State) : State :=
  if s.isRoot then
    let s := if s.ts.source = .pps then s else s.modTs (fun t => { t with ptpMissing := true })
    refLost s
  else s

/-! ### Holdover, R138, R139 -/

/-- Centre of a bin, °C. -/
def binCentre (i : Nat) : Rat := ((10 * (i : Int) - 35 : Int) : Rat)

/-- B(T) by interpolation between the centres of qualified bins; none outside their span. -/
def State.binAt (s : State) (t : Rat) : Option Rat :=
  let q := (List.range 16).filter (fun i => (Tab.get (0, 0) s.ts.bins i).2 ≥ 64)
  let below := (q.filter (fun i => binCentre i ≤ t)).getLast?
  let above := (q.filter (fun i => t ≤ binCentre i)).head?
  let b (i : Nat) : Rat := (Tab.get (0, 0) s.ts.bins i).1
  match below, above with
  | some i, some j =>
    if i = j then some (b i) else some (b i + (b j - b i) * (t - binCentre i) / (binCentre j - binCentre i))
  | _, _ => none

/-- A correction that holdover applies; the servo resumes from it. -/
def coast (f : Int) (s : State) : State :=
  let f := clampInt (-500000) 500000 f
  s.modTs (fun t => { t with freq := f, integ := f, servoAt := none })

/-- The correction in holdover (R139, R462). -/
def holdCorrection (s : State) : State :=
  match s.ts.tMean, s.ts.tLast with
  | some t, some l =>
    (match s.binAt (t / 16), s.binAt (l / 16) with
    | some b, some b0 => coast (s.ts.fLast + roundEvenInt (b - b0)) s
    | _, _ => coast s.ts.fLast s)
  | some t, none => coast s.ts.fLast (s.modTs (fun x => { x with tLast := some t }))
  | _, _ => s

/-- Learn at a temperature, 1/16 °C, while LOCKED (R138). -/
def learn (t : Rat) (s : State) : State :=
  let i := ((t / 16 + 40) / 10).floor
  if s.tsState = 2 ∧ ¬ s.bit R.TS_STAT.SLEWING ∧ 0 ≤ i ∧ i < 16 then
    s.modTs (fun x => { x with bins := Tab.modify (0, 0) x.bins i.toNat (fun b => (b.1 + ((x.freq : Rat) - b.1) / 64, min 255 (b.2 + 1))) })
  else s

/-- The estimate passes the holdover limit (R139). -/
def checkHold (s : State) : State :=
  if s.ts.holdSince.isSome && !s.ts.holdPassed && estAbove s.holdEst (s.get O.HOLD_LIMIT) then
    raise (Src.TS_HOLDOVER_LIMIT) (s.modTs (fun t => { t with holdPassed := true }))
  else s

/-- The second of R138: the 1 s mean is taken, learned from while LOCKED and applied in holdover. -/
def holdoverSecond (s : State) : State :=
  let s := if s.ts.tN = 0 then s
    else
      let t : Rat := (s.ts.tSum : Rat) / (s.ts.tN : Nat)
      learn t (s.modTs (fun x => { x with tMean := some t, tSum := 0, tN := 0 }))
  checkHold (if s.ts.holdSince.isSome then holdCorrection s else s)

/-! ### Group time, R144 to R148, R424 -/

/-- The payload of a group time message. -/
def groupPayload (origin : Nat) (corr : Int) (tai tq flags : Nat) (utc : Int) (epoch num : Nat) : List Byte :=
  leBytes 8 origin ++ leBytes 8 (ofInt 64 corr) ++ leBytes 8 tai ++ leBytes 1 tq ++ leBytes 1 flags ++ leBytes 2 (ofInt 16 utc)
    ++ leBytes 4 epoch ++ leBytes 4 num

/-- UTC − TAI by the source in use (R130). -/
def State.utc (s : State) : Int := if s.isRoot && s.ts.source == .pps then sext 16 (s.get O.PPS_UTC) else s.ts.utcOffset

/-- The Root sends group time both ways (R424). -/
def sendGroupTime (s : State) : State :=
  if s.isRoot && s.ts.running then
    let closed := match s.spine.map with | some m => m.closed | none => false
    let p (d : Nat) : List Byte := groupPayload s.groupTime 0 s.ts.taiOffset s.tq (d + 2 * b2n closed) s.utc s.ts.epoch s.ts.msgNum
    (sendBoth 0x47 1 0xFF p s).modTs (fun t => { t with msgNum := (t.msgNum + 1) % 2 ^ 32 })
  else s

/-- The delay of a spine lane, where measured. -/
def State.hopDelay (s : State) (i : Nat) : Option Nat :=
  if s.get (R.SL_DELAY.DELAY i) = 0xFFFFF then none else some (s.get (R.SL_DELAY.DELAY i))

/-- An alignment error is within ±2 ns (2.048 ticks). -/
def aligned (e : Rat) : Bool := absRat e * 1000 ≤ 262144

/-- A Member adopts a group time: GROUP_OFFSET at the next frame boundary, and JOIN (R147, R148). -/
def joinGroup (epoch : Nat) (off : Int) (s : State) : State :=
  (endHold (setTsState 5 (s.modTs (fun t => { t with groupEpoch := some epoch, pendingGroup := some (roundEvenInt ((off : Rat) / 128)), joinRun := 0, alignRun := 0, alignActive := false, groupEast := none, groupWest := none, pendingEpoch := none, servoAt := none })))).set
    R.TS_STAT.EPOCH_MISMATCH 0

/-- The Member's estimate of one interval is judged (R146, R147), and its tick phase is steered by it (R144; log 79). -/
def judge (off : Rat) (s : State) : State :=
  if s.ts.pendingGroup.isSome then s
  else
    let e := off - 128 * (s.ts.groupOffset : Rat)
    let s := servo (roundEvenInt e) s
    if aligned e then
      let s := s.modTs (fun t => { t with joinRun := t.joinRun + 1, alignRun := 0, alignActive := false })
      if s.tsState = 5 ∧ s.ts.joinRun ≥ 16 then setTsState 6 s else s
    else
      let s := s.modTs (fun t => { t with joinRun := 0, alignRun := t.alignRun + 1 })
      if s.ts.alignRun ≥ 16 ∧ ¬ s.ts.alignActive then raise (Src.TS_ALIGN) (s.modTs (fun t => { t with alignActive := true }))
      else s

/-- An estimate that stayed alone is judged by itself (R145). -/
def judgeAlone (g : Option GroupEst) (s : State) : State :=
  match g with
  | some e => judge e.offset (s.set R.TS_STAT.ONE_DIRECTION 1)
  | none => s

/-- Take one direction's estimate; `west` names the direction the message travels (R145, log 40). -/
def takeEstimate (west closed : Bool) (g : GroupEst) (s : State) : State :=
  let own := if west then s.ts.groupWest else s.ts.groupEast
  let other := if west then s.ts.groupEast else s.ts.groupWest
  let keep (g : Option GroupEst) (t : Ts) : Ts := if west then { t with groupWest := g, groupEast := none } else { t with groupEast := g, groupWest := none }
  match other with
  | some h =>
    if h.num = g.num then
      judge (((g.offset + h.offset : Int) : Rat) / 2) ((s.modTs (fun t => { t with groupWest := none, groupEast := none })).set R.TS_STAT.ONE_DIRECTION 0)
    else
      let s := (judgeAlone (some h) s).modTs (keep (some g))
      if closed then s else judgeAlone (some g) (s.modTs (keep none))
  | none =>
    let s := judgeAlone own s
    if closed then s.modTs (keep (some g)) else judgeAlone (some g) (s.modTs (keep none))

/-- A Member takes the Root's TAI_OFFSET at the next frame boundary, and its time-quality byte (R131, R148). -/
def takeRootTime (p : List Byte) (t : Ts) : Ts :=
  { t with pendingTai := if leAt p 16 8 = t.taiOffset then none else some (.follow (leAt p 16 8)), rootTq := leAt p 24 1 }

/-- A Member takes a group time message that arrives on a lane with a known delay (R145 to R148). -/
def memberTime (p : List Byte) (delay : Nat) (s : State) : State :=
  let epoch := leAt p 28 4
  let off : Int := 128 * (leAt p 0 8 : Int) + sext 64 (leAt p 8 8) + delay - 128 * (s.ts.tsc : Int)
  let s := (setUtc (sext 16 (leAt p 26 2)) s).modTs (fun t => { t with lastGroup := t.tsc })
  match s.ts.groupEpoch with
  | none => joinGroup epoch off (s.modTs (takeRootTime p))
  | some e =>
    if e ≠ epoch then
      if s.inState [.run] then
        let s := (startHold (setTsState 7 s)).modTs (fun t => { t with pendingEpoch := some (epoch, off) })
        if s.bit R.TS_STAT.EPOCH_MISMATCH then s else raise (Src.TS_EPOCH) (s.set R.TS_STAT.EPOCH_MISMATCH 1)
      else joinGroup epoch off (s.modTs (takeRootTime p))
    else
      let s := (s.modTs (takeRootTime p)).modTs (fun t => { t with pendingEpoch := none })
      let s := s.set R.TS_STAT.EPOCH_MISMATCH 0
      let s := if s.tsState = 7 then endHold (setTsState 6 s) else s
      takeEstimate (bitAt (leAt p 25 1) 0) (bitAt (leAt p 25 1) 1) { offset := off, tsc := s.ts.tsc, num := leAt p 32 4 } s

/-- The Root compares the travel time of a returning message with the hop delays (R146). -/
def rootReturn (p : List Byte) (delay : Nat) (s : State) : State :=
  let travel : Int := 128 * ((s.groupTime : Int) - leAt p 0 8)
  if (travel - (sext 64 (leAt p 8 8) + delay)).natAbs > 512 then raise (Src.TS_RING_DELAY) s else s

/-- A group time message on spine lane `i` (R424). Its own residence is a physical time and free. -/
def groupMessage (i : Nat) (b : List Byte) (s : State) : State :=
  if !s.spineUp i then s
  else if !(msgGood 0x47 b && msgLen b == 36) then dropBad s
  else
    let p := msgPayload b
    match s.hopDelay i with
    | none => if s.isRoot then s else passOn i b p s
    | some d =>
      if s.isRoot then rootReturn p d s
      else
        let (r, s) := s.draw
        let q := p.take 8 ++ leBytes 8 (ofInt 64 (sext 64 (leAt p 8 8) + d + (r % 2 ^ 24 : Nat))) ++ p.drop 16
        memberTime p d (passOn i b q s)

/-- 1,024 frames without a message (R147). -/
def groupLost (s : State) : State :=
  if !s.isRoot && (s.tsState == 5 || s.tsState == 6) then raise (Src.TS_GROUP_LOST) (startHold (setTsState 7 s)) else s

/-- GROUP_OFFSET is set at the frame boundary (R147, R148). -/
def setGroupOffset (s : State) : State :=
  match s.ts.pendingGroup with
  | some g => s.modTs (fun t => { t with groupOffset := g, pendingGroup := none })
  | none => s

/-- A write of 1 to 0x2023:01 (R148): refused on the Root and in Run. -/
def adoptEpoch (s : State) : State :=
  if s.isRoot || s.inState [.run] then s
  else match s.ts.pendingEpoch with
  | some (e, off) => joinGroup e off s
  | none => s

/-! ### Hop delay, R424 -/

/-- A delay-exchange block (R412) as its type and 7 payload bytes. -/
def delayBlock (resp : Bool) (seq residence : Nat) : List Byte :=
  leBytes 1 0x66 ++ leBytes 7 (2 ^ 55 * b2n resp + 2 ^ 48 * (seq % 128) + 2 ^ 24 * (residence % 2 ^ 24))

/-- A request is sent on a lane in UP. -/
def delayRequest (i : Nat) (s : State) : State :=
  if s.spineUp i then
    let q := ((s.spl i).dlySeq + 1) % 128
    (s.modSpl i (fun l => { l with dlySeq := q, dlyAt := some s.ts.tsc })).transmit (i / 2) (delayBlock false q 0)
  else s

/-- A delay-exchange block, given as its 7 payload bytes. -/
def delayReceived (i : Nat) (b : List Byte) (s : State) : State :=
  let v := leAt b 0 7
  let q := bits v 54 48
  if !s.spineUp i then s
  else if bitAt v 55 then
    match (s.spl i).dlyAt with
    | some t1 =>
      if q = (s.spl i).dlySeq then
        let d : Int := (128 * ((s.ts.tsc : Int) - t1) - bits v 47 24) / 2
        (s.modSpl i (fun l => { l with dlyAt := none })).set (R.SL_DELAY.DELAY i) (clampInt 0 0xFFFFE d).toNat
      else s
    | none => s
  else s.modSpl i (fun l => { l with dlyReq := some (q, s.ts.tsc) })

/-- The response to a request, at least 64 ticks after it. -/
def delayRespond (i : Nat) (s : State) : State :=
  match (s.spl i).dlyReq with
  | some (q, t) =>
    if s.spineUp i ∧ s.ts.tsc ≥ t + 64 then
      (s.modSpl i (fun l => { l with dlyReq := none })).transmit (i / 2) (delayBlock true q (128 * (s.ts.tsc - t)))
    else s
  | none => s

/-! ### Commands -/

/-- TSC_LO_READ, R126. -/
def execTscLoRead (host : Bool) (s : State) : Host.Outcome State Fault Refusal := .next (readTscLo host s)

/-- OPERATING_SECONDS_SAVE, R128. -/
def execOperatingSecondsSave (s : State) : Host.Outcome State Fault Refusal := .next (startOpsec s)

/-- PTP_MESSAGE_RX, R132. -/
def execPtpMessageRx (m : PtpMessage) (s : State) : Host.Outcome State Fault Refusal := .next (takePtp m s)

/-- PDELAY_REQ_SEND, R132. -/
def execPdelayReqSend (s : State) : Host.Outcome State Fault Refusal := .next (sendPdelay s)

/-- PPS_EDGE, R133, R134. -/
def execPpsEdge (frac : Nat) (s : State) : Host.Outcome State Fault Refusal := .next (ppsEdge frac s)

/-- PPS_LABEL_WRITE, R134. -/
def execPpsLabelWrite (v : Nat) (s : State) : Host.Outcome State Fault Refusal := .next (writeLabel v s)

/-- REFERENCE_MISSING, R137. -/
def execReferenceMissing (s : State) : Host.Outcome State Fault Refusal := .next (refMissing s)

/-- TAI_OFFSET_CHANGE, R131. -/
def execTaiOffsetChange (s : State) : Host.Outcome State Fault Refusal := .next (applyTai s)

/-- SLEW_STEP, R141. -/
def execSlewStep (s : State) : Host.Outcome State Fault Refusal := .next (slewStep s)

/-- HOLDOVER_LEARN, R138, R139. -/
def execHoldoverLearn (s : State) : Host.Outcome State Fault Refusal := .next (holdoverSecond s)

/-- TEMPERATURE_TABLE_CLEAR, R138: a write of 1. -/
def execTemperatureTableClear (v : Nat) (s : State) : Host.Outcome State Fault Refusal :=
  .next (if v = 1 then s.modTs (fun t => { t with bins := [] }) else s)

/-- GROUP_TIME_SEND, R424. -/
def execGroupTimeSend (s : State) : Host.Outcome State Fault Refusal := .next (sendGroupTime s)

/-- GROUP_TIME_MESSAGE, R424. -/
def execGroupTimeMessage (i : Fin 4) (bs : List Byte) (s : State) : Host.Outcome State Fault Refusal := .next (groupMessage i bs s)

/-- GROUP_LOST, R147. -/
def execGroupLost (s : State) : Host.Outcome State Fault Refusal := .next (groupLost s)

/-- GROUP_OFFSET_SET, R147. -/
def execGroupOffsetSet (s : State) : Host.Outcome State Fault Refusal := .next (setGroupOffset s)

/-- ADOPT_GROUP_EPOCH, R148: a write of 1. -/
def execAdoptGroupEpoch (v : Nat) (s : State) : Host.Outcome State Fault Refusal := .next (if v = 1 then adoptEpoch s else s)

/-- DELAY_EXCHANGE_REQUEST, R424. -/
def execDelayExchangeRequest (i : Fin 4) (s : State) : Host.Outcome State Fault Refusal := .next (delayRequest i s)

/-- DELAY_EXCHANGE_BLOCK, R424. -/
def execDelayExchangeBlock (i : Fin 4) (bs : List Byte) (s : State) : Host.Outcome State Fault Refusal := .next (delayReceived i bs s)

/-- DELAY_EXCHANGE_RESPONSE, R424. -/
def execDelayExchangeResponse (i : Fin 4) (s : State) : Host.Outcome State Fault Refusal := .next (delayRespond i s)

end Sys2Proof.Machine
end

