-- ==== Sys2Proof/Machine/Spine.lean ====
section
/-!
DEFINITION. Machine/Spine.lean: spine lanes, the ring map, urgent notices and spine tests (15_spine_groups.md); and the commands that act
on a cell lane (0 to 63) or on a spine lane (64 to 67) alike (R167, R175 to R177, R183, R429).
-/
namespace Sys2Proof.Machine

/-! ### Lanes, R413 to R417 -/

def State.slState (s : State) (i : Nat) : Nat := s.get (R.SL_STAT.STATE i)
/-- A spine lane is enabled, and this start has not disabled it for want of repair (R505). -/
def State.slEn (s : State) (i : Nat) : Bool := s.bit (R.SL_CTRL.EN i) && !bitAt s.sec.deadSpine i
def State.slAttempt (s : State) (i : Nat) : Bool := s.slState i == 2 || s.slState i == 3

/-- The receive side of a lane starts afresh: its polarity is open again unless RX_POL forces it (R414, R415); a lane that leaves UP loses its measured
delay (R424). -/
def clearSpine (i : Nat) (s : State) : State :=
  let s := s.setBit (R.SL_STAT.RX_INV i) (s.get (R.SL_CTRL.RX_POL i) == 2)
  let s := ((s.set (R.SL_STAT.SIGNAL i) 0).set (R.SL_STAT.CDR_LOCK i) 0).set (R.SL_STAT.BLOCK_LOCK i) 0
  let s := ((s.set (R.SL_STAT.PRECODE_TX i) 0).set (R.SL_STAT.PRECODE_RX i) 0).set (R.SL_STAT.CROSSED i) 0
  (s.set (R.SL_DELAY.DELAY i) 0xFFFFF).modSpl i (fun l => { l with train := 0, ready := 0, rxReady := false, nbPrecode := false, dlyAt := none, dlyReq := none, codeErrs := 0 })

/-- Start attempt `k` (R414). -/
def startSpine (i k : Nat) (s : State) : State :=
  ((clearSpine i s).set (R.SL_STAT.STATE i) 2).set (R.SL_STAT.ATTEMPT i) k

/-- A spine lane takes the state that the device gives it (R43, R413, R418, R501): OFF when disabled; IDLE before Configure or Slate and
while PLL-S is not locked; ABSENT where it failed self-test; otherwise attempt 1. -/
def spineBringUp (i : Nat) (s : State) : State :=
  let s := clearSpine i s
  if !s.slEn i then (s.set (R.SL_STAT.STATE i) 0).modSpl i (fun l => { l with absent := false, wasLost := false, retry := false })
  else if !s.bit R.CLK_STAT.LOCK_S || !s.inState [.slate, .configure, .armed, .run, .safe] then s.set (R.SL_STAT.STATE i) 1
  else if bitAt s.sec.badSpine i then
    raise (Src.SL_ABSENT i) ((s.set (R.SL_STAT.STATE i) 6).set (R.SL_STAT.FAIL_STAGE i) 2)
  else startSpine i 1 s

def spine4 : List Nat := [0, 1, 2, 3]

/-- An attempt fails at a step (R414). -/
def failSpine (i stage : Nat) (s : State) : State :=
  let k := s.get (R.SL_STAT.ATTEMPT i)
  let retry := (s.spl i).retry
  let s := ((clearSpine i s).set (R.SL_STAT.FAIL_STAGE i) stage).inc (R.SL_COUNTS.FAILED_ATTEMPTS i)
  if k < 16 then s.set (R.SL_STAT.STATE i) 5
  else
    let s := (s.set (R.SL_STAT.STATE i) 6).modSpl i (fun l => { l with absent := true, retry := false })
    if retry then s else raise (Src.SL_ABSENT i) s

/-- A link of this device is down: the Root raises RING_OPEN at once, every device at the next map (R418). -/
def linkCheck (i : Nat) (s : State) : State :=
  if s.isRoot ∧ s.spine.map.isSome ∧ !s.linkUp (i / 2) then raise (Src.SP_RING_OPEN) s else s

/-- The same, where the link was up in `old`. -/
def linkDrop (i : Nat) (old s : State) : State := if old.linkUp (i / 2) then linkCheck i s else s

/-- A lane in UP is lost (R417). -/
def loseSpine (i : Nat) (s : State) : State :=
  if s.spineUp i then
    let s := raise (Src.SL_LOST i) (s.inc (R.SL_COUNTS.LOSSES i))
    linkCheck i ((startSpine i 1 s).modSpl i (fun l => { l with wasLost := true }))
  else s

/-- The neighbour's position stands where R410 asks; the Root checks nothing. -/
def State.orderOk (s : State) (i nb : Nat) : Bool := s.isRoot || (if i < 2 then s.pos < nb || nb == 0 else nb < s.pos)

/-- The lane enters UP (R414, R415). -/
def spineEnters (i : Nat) (s : State) : State :=
  let l := s.spl i
  let nb := s.get (R.SL_STAT.NB_POS i)
  let s := (s.set (R.SL_STAT.STATE i) 4).setBit (R.SL_STAT.PRECODE_TX i) l.nbPrecode
  let s := (s.set (R.SL_STAT.PRECODE_RX i) (s.get (R.SL_CTRL.PRECODE_REQ i))).setBit (R.SL_STAT.CROSSED i) (s.get (R.SL_STAT.NB_LANE i) % 2 != i % 2)
  let s := s.modSpl i (fun l => { l with wasLost := false, absent := false, retry := false, codeErrs := 0 })
  raiseAll ((if l.wasLost || l.absent then [Src.SL_RETRAINED i] else []) ++ (if s.orderOk i nb then [] else [Src.SP_RING_ORDER])) s

/-- A training block of 7 payload bytes is valid (R412). -/
def trainingGood (b : List Byte) : Bool := b.length == 7 && bits (leAt b 0 7) 39 0 == 0 && bits (leAt b 0 7) 43 40 == 1

/-- The lane is refused (R414). -/
def refuseSpine (i : Nat) (src : Src) (s : State) : State :=
  let s := (s.set (R.SL_STAT.STATE i) 8).set (R.SL_STAT.FAIL_STAGE i) 5
  raise src ((s.inc (R.SL_COUNTS.FAILED_ATTEMPTS i)).modSpl i (fun l => { l with train := 0, ready := 0, rxReady := false }))

/-- A training block in EXCHANGE (R414). -/
def trainingBlock (i : Nat) (b : List Byte) (s : State) : State :=
  if s.slState i = 3 ∧ s.bit (R.SL_STAT.BLOCK_LOCK i) then
    if !trainingGood b then s.modSpl i (fun l => { l with train := 0, ready := 0 })
    else
      let v := leAt b 0 7
      let lane := bits v 55 54
      let nb := bits v 53 48
      let l := s.spl i
      let s := s.modSpl i (fun l => { l with train := min 8 (l.train + 1), nbPrecode := bitAt v 45 })
      if l.train + 1 < 8 then s
      else if bits v 47 47 ≠ s.grp then refuseSpine i (Src.SP_GROUP_MISMATCH) s
      else if nb = s.pos then refuseSpine i (Src.SP_POS_DUPLICATE) s
      else if lane / 2 = i / 2 then refuseSpine i (Src.SP_RING_ORDER) s
      else
        let s := ((s.set (R.SL_STAT.NB_POS i) nb).set (R.SL_STAT.NB_G i) (bits v 47 47)).set (R.SL_STAT.NB_LANE i) lane
        let n := if l.rxReady && bitAt v 46 then l.ready + 1 else 0
        let s := s.modSpl i (fun l => { l with rxReady := true, ready := n })
        if n ≥ 16 then spineEnters i s else s
  else s

/-- The step of R414 that an attempt has not passed. -/
def State.slStage (s : State) (i : Nat) : Nat :=
  if !s.bit (R.SL_STAT.SIGNAL i) then 1 else if s.slState i = 2 then 2 else if !s.bit (R.SL_STAT.BLOCK_LOCK i) then 3 else 4

/-- A marker arrives `skew` blocks after that of the other lane of the link (R416). -/
def marker (i skew : Nat) (s : State) : State :=
  if s.spineUp i ∧ skew > 16 then (loseSpine i (raise (Src.SL_SKEW i) s)).set (R.SL_STAT.FAIL_STAGE i) 7 else s

/-- A code error on a spine lane in UP (R412, R417). -/
def spineCodeError (i : Nat) (s : State) : State :=
  if s.spineUp i then
    let s := raise (Src.SL_CODE_ERR i) s
    let k := if (s.spl i).codeErrFrame = s.frame then (s.spl i).codeErrs + 1 else 1
    let s := s.modSpl i (fun l => { l with codeErrs := k, codeErrFrame := s.frame })
    if k ≥ 32 then loseSpine i s else s
  else s

/-- The 33 levels of a block at the receive pins, with the level and the 58 bits that came before them (R411, R412): a code error where they hold no block. -/
def blockRx (i prev scr : Nat) (l : List Nat) (s : State) : State :=
  if (readBlock (s.bit (R.SL_STAT.PRECODE_RX i)) (s.bit (R.SL_STAT.RX_INV i)) prev scr l).isNone then spineCodeError i s else s

/-- A spine lane is enabled or disabled: EN is RWC (R432). -/
def enableSpine (i : Nat) (v : Bool) (s : State) : State :=
  if s.inState [.configure] ∧ s.bit (R.SL_CTRL.EN i) ≠ v then
    linkDrop i s (spineBringUp i (s.setBit (R.SL_CTRL.EN i) v)) else s

/-! ### Tests, R429 -/

/-- A write of SL_TEST (R429): RWC; a set test field puts an enabled lane in TEST; a disabled one stays OFF (R413). -/
def writeSpineTest (i v : Nat) (s : State) : State :=
  if s.inState [.configure] then
    let old := s
    let s := ((s.set (R.SL_TEST.PRBS_GEN i) (bits v 31 31)).set (R.SL_TEST.PRBS_CHK i) (bits v 30 30)).set (R.SL_TEST.PATTERN i) (bits v 29 28)
    if bits v 31 28 ≠ 0 then
      if s.slEn i then patternWritten (64 + i) old (linkDrop i s ((clearSpine i s).set (R.SL_STAT.STATE i) 7)) else s
    else if s.slState i = 7 then spineBringUp i (endPattern (64 + i) s) else s
  else s

/-- A spine lane in TEST leaves it (R429). -/
def stopSpineTest (i : Nat) (s : State) : State :=
  if s.slState i = 7 then spineBringUp i (endPattern (64 + i) s) else s

/-- CNT_CLR of a spine lane (R432, R185). -/
def clearSpineCounts (i : Nat) (s : State) : State :=
  clearPrbs (64 + i) ((s.clearCount (R.SL_COUNTS.LOSSES i)).clearCount (R.SL_COUNTS.FAILED_ATTEMPTS i))

/-! ### The ring map, R422, R423 -/

/-- The payload of an enumeration (log 47): direction and end flag, number, and the positions in order. -/
def enumPayload (dir : Nat) (isEnd : Bool) (num : Nat) (ps : List Byte) : List Byte := leBytes 1 (dir + 2 * b2n isEnd) ++ leBytes 1 num ++ ps

/-- The payload of a ring map (log 47). -/
def mapPayload (m : RingMap) : List Byte :=
  leBytes 8 m.present ++ leBytes 8 m.dup ++ leBytes 1 (popCount 64 m.present) ++ leBytes 1 (b2n m.complete + 2 * b2n m.closed) ++ leBytes 1 m.num

def mapOf (p : List Byte) : RingMap :=
  { present := leAt p 0 8, dup := leAt p 8 8, complete := bitAt (leAt p 17 1) 0, closed := bitAt (leAt p 17 1) 1, num := leAt p 18 1 }

/-- The map shows the ring open. -/
def RingMap.opens (m : RingMap) : Bool := m.complete && !m.closed

/-- A device takes a map (R423): it raises RING_OPEN where the ring has opened since the last map (R418), POS_DUPLICATE where its own position
is duplicated, and then owns no cell outside Run. -/
def takeMap (m : RingMap) (s : State) : State :=
  let was := match s.spine.map with | some o => o.opens | none => false
  let s := { s with spine := { s.spine with map := some m } }
  let own := bitAt m.dup s.pos || (s.isRoot && m.dup != 0)
  let s := if bitAt m.dup s.pos ∧ !s.inState [.run] then s.each lanes64 disown else s
  raiseAll ((if m.opens && !was then [Src.SP_RING_OPEN] else []) ++ (if own then [Src.SP_POS_DUPLICATE] else [])) s

/-- The presence and duplicate masks of the positions listed. -/
def presentOf (l : List Nat) : Nat := l.foldl (fun m p => setBitAt m (p % 64) true) 0
def dupOf (l : List Nat) : Nat := maskOf (fun p => decide ((l.filter (fun x => x % 64 == p)).length ≥ 2))

/-- The Root builds and broadcasts the map (R423). -/
def publishMap (complete closed : Bool) (ps : List Nat) (s : State) : State :=
  let l := s.pos :: ps
  let num := (match s.spine.map with | some m => m.num | none => 0) + 1
  let m : RingMap := { present := presentOf l, dup := dupOf l, complete := complete, closed := closed, num := num % 256 }
  let s := { s with spine := { s.spine with enumOpen := false } }
  takeMap m (sendBoth 0x4D 2 0xFF (fun _ => mapPayload m) s)

/-- The Root sends an enumeration (R423). One whose copies have not come back gives a map that is not COMPLETE. A direction without a link
counts as ended at the Root (log 47). -/
def sendEnumeration (s : State) : State :=
  if s.isRoot ∧ s.inState [.slate, .configure, .armed, .run, .safe] ∧ (s.linkUp 0 ∨ s.linkUp 1) then
    let s := if s.spine.enumOpen then publishMap false false (s.spine.enumEast.getD [] ++ s.spine.enumWest.getD []) s else s
    let num := (s.spine.enumNum + 1) % 256
    let s := { s with spine := { s.spine with enumNum := num, enumOpen := true, enumEast := if s.linkUp 0 then none else some [], enumWest := if s.linkUp 1 then none else some [] } }
    sendBoth 0x45 2 0xFF (fun d => enumPayload d false num []) s
  else s

/-- A copy that returns to the Root (R423). -/
def enumReturns (i : Nat) (p : List Byte) (s : State) : State :=
  let dir := leAt p 0 1 % 2
  let ps := (p.drop 2).map BitVec.toNat
  if !s.spine.enumOpen ∨ leAt p 1 1 ≠ s.spine.enumNum then s
  else if bitAt (leAt p 0 1) 1 then
    let s := { s with spine := if dir = 0 then { s.spine with enumEast := some ps } else { s.spine with enumWest := some ps } }
    match s.spine.enumEast, s.spine.enumWest with
    | some a, some b => publishMap true false (a ++ b) s
    | _, _ => s
  else if dir = 0 ∧ 2 ≤ i then publishMap true true ps s
  else s

/-- An enumeration message (R423). -/
def enumeration (i : Nat) (b : List Byte) (s : State) : State :=
  if !s.spineUp i then s
  else if !(msgGood 0x45 b && 2 ≤ msgLen b) then dropBad s
  else
    let p := msgPayload b
    if s.isRoot then enumReturns i p s
    else if bitAt (leAt p 0 1) 1 then relay i b s
    else
      let q := p ++ leBytes 1 s.pos
      if s.linkUp (onward i) then passOn i b q s
      else
        let r := enumPayload (leAt p 0 1 % 2) true (leAt p 1 1) (q.drop 2)
        s.transmit (i / 2) (message 0x45 2 (msgHops b + 1) (msgSrc b) 0 (msgSeq b) r)

/-- A ring map message (R421, R423): the first copy is taken, and every copy is forwarded but at its source. -/
def ringMap (i : Nat) (b : List Byte) (s : State) : State :=
  if !s.spineUp i then s
  else if !(msgGood 0x4D b && msgLen b == 19) then dropBad s
  else if msgSrc b = s.pos then s
  else
    let s := passOn i b (msgPayload b) s
    if s.spine.mapSeq = some (msgSeq b) then s
    else takeMap (mapOf (msgPayload b)) { s with spine := { s.spine with mapSeq := some (msgSeq b) } }

/-- Waiting management messages that have a route now are sent (R421). -/
def sendQueued (s : State) : State :=
  let go := s.spine.waiting.filter (fun m => (s.route m.1).isSome)
  let s' := { s with spine := { s.spine with waiting := s.spine.waiting.filter (fun m => (s.route m.1).isNone) } }
  s'.each go (fun m t => match s.route m.1 with | some d => t.transmit d m.2 | none => t)

/-! ### Urgent notices, R426 to R428 -/

/-- The 8 bytes of a Black notice block (R412). -/
def noticeBlock (n : Notice) : List Byte :=
  leBytes 1 0x55 ++ leBytes 7 (2 ^ 52 + 2 ^ 46 * (n.origin % 64) + 2 ^ 40 * (n.hops % 64) + 2 ^ 32 * (n.source % 256) + n.stamp % 2 ^ 32)

/-- A pair of notice blocks on each lane in UP of a link. -/
def sendNotice (dir : Nat) (n : Notice) (s : State) : State :=
  s.each [2 * dir, 2 * dir + 1] (fun i s => if s.spineUp i then (s.transmit dir (noticeBlock n)).transmit dir (noticeBlock n) else s)

/-- The originator sends its notice (R426). -/
def originate (s : State) : State :=
  match s.spine.notice with
  | none => s
  | some n =>
    let s := { s with spine := { s.spine with notice := none, notices := ((n.origin, n.stamp, 3) :: s.spine.notices).take 8 } }
    sendNotice 1 n (sendNotice 0 n s)

/-- The full group time of a stamp: the one nearest to this device's group time (R428). -/
def State.fullTime (s : State) (stamp : Nat) : Nat := ((s.groupTime : Int) + sext 32 (ofInt 32 ((stamp : Int) - s.groupTime))).toNat

/-- An accepted notice in the collector (R428, R445, R446). -/
def noticeReport (n : Notice) (s : State) : State :=
  let s := groupFirst false n.origin n.source (s.fullTime n.stamp) s
  takeAll 8 [⟨14, 3, n.origin, true, false⟩] (s.set R.FC_CAUSE.RING_BLACK 1)

/-- A notice that arrives as one or two 7-byte payloads (R426, R428). -/
def noticeReceived (i : Nat) (b : List Byte) (s : State) : State :=
  if !s.spineUp i then s
  else if b.length ≠ 14 ∨ b.take 7 ≠ b.drop 7 then raise (Src.SP_NOTICE_BAD) s
  else
    let v := leAt b 0 7
    if bits v 55 52 ≠ 1 then s
    else
      let n : Notice := ⟨bits v 51 46, bits v 39 32, bits v 31 0, bits v 45 40⟩
      let old := s.spine.notices.find? (fun x => x.1 == n.origin && x.2.1 == n.stamp)
      let dirs := match old with | some x => x.2.2 | none => 0
      let on := onward i
      let fwd := n.origin != s.pos && n.hops < 63 && !bitAt dirs on
      let dirs' := if fwd then Nat.lor dirs (2 ^ on) else dirs
      let rest := s.spine.notices.filter (fun x => !(x.1 == n.origin && x.2.1 == n.stamp))
      let keep := if old.isSome then s.spine.notices.map (fun x => if x.1 == n.origin && x.2.1 == n.stamp then (n.origin, n.stamp, dirs') else x)
        else ((n.origin, n.stamp, dirs') :: rest).take 8
      let s := { s with spine := { s.spine with notices := keep } }
      let s := if fwd then sendNotice on { n with hops := n.hops + 1 } s else s
      if old.isSome then s else noticeReport n (s.inc R.SP_COUNTS.NOTICES_RX)

/-! ### Commands -/

/-- SPINE_LANE_ENABLE, R413. -/
def execSpineLaneEnable (i : Fin 4) (v : Bool) (s : State) : Host.Outcome State Fault Refusal := .next (enableSpine i v s)

/-- SPINE_SIGNAL_DETECT, R414 step 1. -/
def execSpineSignalDetect (i : Fin 4) (s : State) : Host.Outcome State Fault Refusal :=
  .next (if s.slState i = 2 then s.set (R.SL_STAT.SIGNAL i) 1 else s)

/-- SPINE_ADAPTED, R414 step 2: `inv` is the polarity that locked. -/
def execSpineAdapted (i : Fin 4) (inv : Bool) (s : State) : Host.Outcome State Fault Refusal :=
  .next (if s.slState i = 2 ∧ s.bit (R.SL_STAT.SIGNAL i) then
      let pol := s.get (R.SL_CTRL.RX_POL i)
      let s := s.setBit (R.SL_STAT.RX_INV i) (if pol = 1 then false else if pol = 2 then true else inv)
      (s.set (R.SL_STAT.CDR_LOCK i) 1).set (R.SL_STAT.STATE i) 3
    else s)

/-- SPINE_BLOCK_LOCK, R414 step 3. -/
def execSpineBlockLock (i : Fin 4) (s : State) : Host.Outcome State Fault Refusal :=
  .next (if s.slState i = 3 then s.set (R.SL_STAT.BLOCK_LOCK i) 1 else s)

/-- TRAINING_BLOCK_RX, R414 step 4: the 7 payload bytes, lowest first. -/
def execTrainingBlockRx (i : Fin 4) (bs : List Byte) (s : State) : Host.Outcome State Fault Refusal := .next (trainingBlock i bs s)

/-- SPINE_ATTEMPT_TIMEOUT, R414. -/
def execSpineAttemptTimeout (i : Fin 4) (s : State) : Host.Outcome State Fault Refusal :=
  .next (if s.slAttempt i then failSpine i (s.slStage i) s else s)

/-- SPINE_BACKOFF_END, R413. -/
def execSpineBackoffEnd (i : Fin 4) (s : State) : Host.Outcome State Fault Refusal :=
  .next (if s.slState i = 5 then startSpine i (s.get (R.SL_STAT.ATTEMPT i) + 1) s else s)

/-- SPINE_RETRY, R413: a lane that failed self-test makes no attempt (R501). -/
def execSpineRetry (i : Fin 4) (s : State) : Host.Outcome State Fault Refusal :=
  .next (if bitAt s.sec.badSpine i then s
    else if s.slState i = 6 then (startSpine i 16 s).modSpl i (fun l => { l with retry := true })
    else if s.slState i = 8 then startSpine i (min 16 (s.get (R.SL_STAT.ATTEMPT i) + 1)) s else s)

/-- SPINE_LANE_LOST, R417. -/
def execSpineLaneLost (i : Fin 4) (s : State) : Host.Outcome State Fault Refusal := .next (loseSpine i s)

/-- ALIGNMENT_MARKER_RX, R416. -/
def execAlignmentMarkerRx (i : Fin 4) (skew : Nat) (s : State) : Host.Outcome State Fault Refusal := .next (marker i skew s)

/-- SPINE_RETRAIN, R414. -/
def execSpineRetrain (i : Fin 4) (s : State) : Host.Outcome State Fault Refusal :=
  .next (if (s.slState i = 5 ∨ s.slState i = 6) ∧ !bitAt s.sec.badSpine i then startSpine i 1 s else s)

/-- SPINE_TEST_START, R429. -/
def execSpineTestStart (i : Fin 4) (v : Word) (s : State) : Host.Outcome State Fault Refusal := .next (writeSpineTest i v.toNat s)

/-- SPINE_TEST_STOP, R429. -/
def execSpineTestStop (i : Fin 4) (s : State) : Host.Outcome State Fault Refusal := .next (stopSpineTest i s)

/-- ENUMERATION_SEND, R423. -/
def execEnumerationSend (s : State) : Host.Outcome State Fault Refusal := .next (sendEnumeration s)

/-- ENUMERATION_RX, R423. -/
def execEnumerationRx (i : Fin 4) (bs : List Byte) (s : State) : Host.Outcome State Fault Refusal := .next (enumeration i bs s)

/-- RING_MAP_RX, R423. -/
def execRingMapRx (i : Fin 4) (bs : List Byte) (s : State) : Host.Outcome State Fault Refusal := .next (ringMap i bs s)

/-- QUEUED_MESSAGE_SEND, R421. -/
def execQueuedMessageSend (s : State) : Host.Outcome State Fault Refusal := .next (sendQueued s)

/-- URGENT_NOTICE_RX, R428. -/
def execUrgentNoticeRx (i : Fin 4) (bs : List Byte) (s : State) : Host.Outcome State Fault Refusal := .next (noticeReceived i bs s)

/-- URGENT_NOTICE_SEND, R426. -/
def execUrgentNoticeSend (s : State) : Host.Outcome State Fault Refusal := .next (originate s)

/-- ATTEMPT_SIGNAL_LOST, R167, R414: lane 0 to 63, or spine lane 64 + i. -/
def execAttemptSignalLost (n : Fin 68) (s : State) : Host.Outcome State Fault Refusal :=
  .next (if n < 64 then (if s.inAttempt n ∧ (s.lane n).sigSeen then failAttempt n 7 s else rxOnlyLost n s)
    else if s.slAttempt (n - 64) ∧ s.bit (R.SL_STAT.SIGNAL (n - 64)) then failSpine (n - 64) 6 s else s)

/-- INJ_ONE, R177, R429. -/
def execInjOne (n : Fin 68) (s : State) : Host.Outcome State Fault Refusal := .next (injectOne n s)

/-- PRBS_LOCK, R176, R429: what has passed since the last command that says so; the checker locks after 64 that match. -/
def execPrbsLock (x : TestPass) (s : State) : Host.Outcome State Fault Refusal := .next (testBits x.lane x.sent x.received s)

/-- PRBS_LOSS, R176, R429: the same; 64 errors among 1,024 bits lose the lock. -/
def execPrbsLoss (n : Fin 68) (sent : Nat) (l : List Nat) (s : State) : Host.Outcome State Fault Refusal := .next (testBits n sent l s)

/-- PRBS_BITS_LO_READ, R176, R429, R541: the same; the read then latches the upper bits of the count. -/
def execPrbsBitsLoRead (n : Fin 68) (host : Bool) (sent : Nat) (l : List Nat) (s : State) : Host.Outcome State Fault Refusal :=
  .next (readPrbsLo n host (testBits n sent l s))

/-- LANE_CNT_CLR, R183, R432. -/
def execLaneCntClr (n : Fin 68) (s : State) : Host.Outcome State Fault Refusal :=
  .next (if n < 64 then clearLaneCounts n s else clearSpineCounts (n - 64) s)

/-- CODE_ERROR, R155, R184, R412, R417: what the receiver has read outside a whole frame, set or message; a good group or block is no code error. -/
def execCodeError (c : RxCode) (s : State) : Host.Outcome State Fault Refusal :=
  .next (match c with
    | .cell n rd g place => groupRx n rd g place s
    | .spine i prev scr l => blockRx i prev scr l s)

end Sys2Proof.Machine
end

