-- ==== Sys2Proof/Machine/Power.lean ====
section
/-!
DEFINITION. Machine/Power.lean: Standby, wake events, the power handshake, every reset, and the start policy
(03_power_reset_insertion.md). A reset is latched with its cause and then taken (R64); `takeReset` is the one operation that ends a
reset, and `enterBoot` the one that starts Boot.
-/
namespace Sys2Proof.Machine

def State.modPw (s : State) (f : Power → Power) : State := { s with pw := f s.pw }
def State.modSec (s : State) (f : Sec → Sec) : State := { s with sec := f s.sec }

def O.RAIL_MS : Fld := obj 0x2011 1 8 .rwc 50
def O.RESTART_MS : Fld := obj 0x2011 2 16 .rwc 1000
def O.AUTO_RESTART : Fld := obj 0x2011 3 1 .rwc 1
def O.VNET : Fld := obj 0x2002 8 8 .rwc 2
def O.PHYS_NET : Fld := obj 0x2002 9 8 .rwc 1
def O.NOM_RATE : Fld := obj 0x2002 0xA 8 .rwc 3
def O.DATA_RATE : Fld := obj 0x2002 0xB 8 .rwc 3
/-- Communication objects of CiA 1301 with its predefined identifiers for node 1 (R530; log 53). -/
def O.COB_SYNC : Fld := obj 0x1005 0 32 .rw 0x80
def O.COB_EMCY : Fld := obj 0x1014 0 32 .rw 0x81
def O.HB_CONSUMER (i : Nat) : Fld := obj 0x1016 (1 + i) 32 .rw 0
def O.HB_PRODUCER : Fld := obj 0x1017 0 16 .rw 100
def O.RPDO_COB (j : Nat) : Fld := obj (0x1400 + j) 1 32 .rw (0x201 + 0x100 * j)
def O.RPDO_TYPE (j : Nat) : Fld := obj (0x1400 + j) 2 8 .rw 255
def O.RPDO_COUNT (j : Nat) : Fld := obj (0x1600 + j) 0 8 .rw 0
def O.RPDO_MAP (j n : Nat) : Fld := obj (0x1600 + j) n 32 .rw 0
def O.TPDO_COB (j : Nat) : Fld := obj (0x1800 + j) 1 32 .rw (0x181 + 0x100 * j)
def O.TPDO_TYPE (j : Nat) : Fld := obj (0x1800 + j) 2 8 .rw 255
def O.TPDO_TIME (j : Nat) : Fld := obj (0x1800 + j) 5 16 .rw 0
def O.TPDO_COUNT (j : Nat) : Fld := obj (0x1A00 + j) 0 8 .rw 0
def O.TPDO_MAP (j n : Nat) : Fld := obj (0x1A00 + j) n 32 .rw 0
def O.IDCODE : Fld := obj 0x4400 2 16 .rwc 1
def O.MAC : Fld := obj 0x4400 0x40 48 .rwc 0

/-! ### What a reset clears, R15 -/

/-- A field that a reset keeps: the keep-alive registers of R67, the objects 0x2011 (R88) and the torn counts in MRAM. -/
def keepsKey (k : Nat) : Bool :=
  (0x100F00 * 32 ≤ k && k < 0x100F18 * 32) || (0xF0020 * 32 ≤ k && k < 0xF0024 * 32)
    || ((0x10000000 + 0x201100) * 32 ≤ k && k < (0x10000000 + 0x201200) * 32)

/-- A field of the keep-alive domain (R57). -/
def vkaKey (k : Nat) : Bool :=
  (0x100F00 * 32 ≤ k && k < 0x100F18 * 32) || ((0x10000000 + 0x201100) * 32 ≤ k && k < (0x10000000 + 0x201200) * 32)

/-- What lies in MRAM, OTP and flash of the security state (R506, R512, R515, R516). -/
def Sec.kept (x : Sec) : Sec :=
  { makerKeys := x.makerKeys, makerVersion := x.makerVersion, slotState := x.slotState, slotDigest := x.slotDigest, counters := x.counters, debugOff := x.debugOff, images := x.images, imageNew := x.imageNew, banks := x.banks }

/-- Programming of counters is broken off: each ends between its old and its new value (R515). -/
def breakCounters (s : State) : State :=
  s.each s.sec.counting (fun c s =>
    let (d, s) := s.draw
    let v := Tab.get 0 s.sec.counters c.1
    s.modSec (fun x => { x with counters := Tab.set 0 x.counters c.1 (v + d % (c.2 - v + 1)) }))

/-- Everything outside the keep-alive domain and the non-volatile memories returns to its reset value (R15). A record or save in
flight is abandoned without its MARK (R64). The straps hold until the next pass through Cold hold (R47). The kind of start is dropped with the
rest: a reset in Standby or Cold hold, after a Slate start that was reset before its hold, counts under R72 while PENDING is set; R74 does not
say whether it is still "during a Slate start" (DESIGN CHOICE, log 77). -/
def clearState (s : State) : State :=
  let s := breakCounters s
  { pending := s.pending, regs := s.regs.filter (fun e => keepsKey e.1), freeCount := s.freeCount, now := s.now, mram := s.mram, store := s.store, sec := s.sec.kept, pw := { state := s.pw.state, vka := s.pw.vka, prsnt := s.pw.prsnt, nEject := s.pw.nEject, nReset := s.pw.nReset, pwren := s.pw.pwren, straps := s.pw.straps, vio := s.pw.vio, taken := s.pw.taken, pwrenRose := s.pw.pwrenRose, cycled := s.pw.cycled, failStage := s.pw.failStage, tap := s.pw.tap } }

/-- Standby: PWREN is low, and kept wake events are discarded (R59). -/
def enterStandby (s : State) : State :=
  s.modPw (fun p => { p with state := .standby, pwren := false, pwrenRose := false, railGood := false, coldHold := false, stage := 0, wakeInsertion := false, wakeReset := false, wakeRestart := false })

/-- Cold hold (R105): its timer runs unless nRESET holds the reset state (R43, R64). The power-cycle count rises where PWREN has
risen (R127). -/
def enterColdHold (s : State) : State :=
  let s := if s.pw.pwrenRose then { s with mram := { s.mram with pwrCycles := satAdd 0xFFFFFFFF s.mram.pwrCycles 1 } } else s
  s.modPw (fun p => { p with state := .coldHold, pwrenRose := false, railGood := false, coldHold := p.nReset, ch := {}, stage := 1 })

/-! ### The reset cause record, R61 to R77 -/

/-- The causes that drop PWREN (R61). -/
def dropsPwren (c : Nat) : Bool := [1, 2, 3, 4, 7, 0xC, 0xD, 0xE].contains c
/-- The causes that count as a failed start (R61). -/
def countsFailed (c : Nat) : Bool := 1 ≤ c && c ≤ 0xC
/-- The causes whose record in flight is completed (R55, R64, R83, R85, R467; log 44). -/
def completesRecord (c : Nat) : Bool := c = 1 || c = 7 || (9 ≤ c && c ≤ 0xF)

/-- Slate is left: SLATE, SLATE_REASON and FAILED_CONSEC clear (R81). -/
def leaveSlate (s : State) : State :=
  ((s.set R.START_STAT.SLATE 0).set R.START_STAT.SLATE_REASON 0).set R.START_STAT.FAILED_CONSEC 0

/-- A failed start is counted (R72, R73). -/
def failedStart (c : Nat) (s : State) : State :=
  let n := min 3 (s.get R.START_STAT.FAILED_CONSEC + 1)
  let s := (s.set R.START_STAT.FAILED_CONSEC n).inc R.START_STAT.FAILED_TOTAL
  let s := (s.set R.FAIL_CAUSES (s.get R.FAIL_CAUSES * 256 + c)).modPw (fun p => { p with failStage := p.stage })
  if n = 3 then (s.set R.START_STAT.SLATE 1).set R.START_STAT.SLATE_REASON 1 else s

/-- CAUSE moves into PREV_CAUSE and the new cause is written (R63). -/
def writeCause (c : ResetCause) (s : State) : State :=
  let s := (s.set R.RST_CAUSE.PREV_CAUSE (s.get R.RST_CAUSE.CAUSE)).set R.RST_CAUSE.CAUSE c.code
  let s := (s.set R.RST_CAUSE.PGOOD_LOW c.low).set R.RST_CAUSE.STAGE s.pw.stage
  let s := s.setBit R.RST_CAUSE.TSC_VALID c.tscValid
  if c.tscValid then s.set64 R.RST_TSC_LO R.RST_TSC_HI c.tsc else s

/-- The record of a reset (R63, R72 to R74). -/
def recordCause (c : ResetCause) (s : State) : State :=
  let s := writeCause c s
  if c.code = 0xF then (leaveSlate s).set R.START_STAT.PENDING 0
  else if !s.bit R.START_STAT.PENDING then s
  else if countsFailed c.code then (if s.pw.slateStart then s else failedStart c.code s)
  else s.set R.START_STAT.PENDING 0

/-- The TSC at a cause is valid (R69). -/
def State.tscValid (s : State) (code : Nat) : Bool := s.ts.running && !([0, 2, 4, 6] : List Nat).contains code

/-- The fields of the cause record and of the start counters (R68, R76, R77). -/
def causeFields : List Fld :=
  [R.RST_CAUSE.PREV_CAUSE, R.RST_CAUSE.CAUSE, R.RST_CAUSE.PGOOD_LOW, R.RST_CAUSE.STAGE, R.RST_CAUSE.SECOND, R.RST_CAUSE.TSC_VALID, R.RST_TSC_LO, R.RST_TSC_HI, R.START_STAT.FAILED_TOTAL, R.START_STAT.SLATE_REASON, R.START_STAT.SLATE, R.START_STAT.PENDING, R.START_STAT.FAILED_CONSEC, R.FAIL_CAUSES]

/-- A second cause has come (R62): SECOND is set by hardware. -/
def second (s : State) : State :=
  (s.set R.RST_CAUSE.SECOND 1).noteSet R.RST_CAUSE.SECOND

/-- The reset that has just been taken is recorded with a lower code of the same clock-monitor cycle (R62), and ends as that code's does. -/
def amend (c : ResetCause) (t : Taken) (s : State) : State :=
  let s := s.each (causeFields.zip t.vals) (fun x s => s.set x.1 x.2)
  let s := s.modPw (fun p => { p with stage := t.stage, failStage := t.failStage, slateStart := t.slateStart, pwren := true, taken := some { t with cause := c } })
  let s := (second (recordCause c s)).modPw (fun p => { p with slateStart := false })
  if dropsPwren c.code then enterStandby s else enterColdHold s

/-- Latch a reset cause. One that comes after another sets SECOND; in the same clock-monitor cycle the lower code is kept, also where the reset
has been taken at once, and 0x0D is never replaced (R62, R85). -/
def latch (code low : Nat) (s : State) : State :=
  let c : ResetCause := ⟨code, s.ts.tsc, s.tscValid code, low, s.cmCycle⟩
  match s.pw.cause, s.pw.taken with
  | some d, _ =>
    let s := second s
    if d.cyc = s.cmCycle ∧ code < d.code ∧ d.code ≠ 0xD then s.modPw (fun p => { p with cause := some c }) else s
  | none, some t =>
    if t.cause.cyc = s.cmCycle then (if code < t.cause.code ∧ t.cause.code ≠ 0xD then amend c t s else second s)
    else s.modPw (fun p => { p with cause := some c })
  | none, none => s.modPw (fun p => { p with cause := some c })

/-- The writes before a reset: the record in flight, and the saves of R128, R482 and R494. An ejection under way makes its own (R85, R86). -/
def saveBefore (c : Nat) (s : State) : State :=
  let e := s.pw.ejecting
  let s := if completesRecord c || e then endRecord s else s
  let s := if c = 7 ∨ c = 0xD ∨ e then flushAll s else s
  if c = 7 ∨ c = 0xB ∨ c = 0xC ∨ c = 0xD ∨ e then saveAll (saveOpsec s) else s

/-- The latched reset is taken (R61): the cause record, then Standby or Cold hold. PWREN drops for its cause, or where the loss of a
rail, the removal of the board or an ejection under way drops it (R86). -/
def takeReset (s : State) : State :=
  match s.pw.cause with
  | none => s
  | some c =>
    let drop := dropsPwren c.code || s.pw.pgoodLoss || s.pw.ejecting
    let s := saveBefore c.code s
    let t : Taken := ⟨c, causeFields.map s.get, s.pw.stage, s.pw.failStage, s.pw.slateStart⟩
    let s := clearState (recordCause c s)
    let s := s.modPw (fun p => { p with taken := some t })
    if drop then enterStandby s else enterColdHold s

/-- Every lane in UP is asked for a Black set where PLL-C is locked (R64). -/
def blackLanes (s : State) : State :=
  if s.bit R.CLK_STAT.LOCK_C then s.each lanes64 (fun n s => requestUrgent n .black s) else s

/-- Every enabled lane is switched to the safe-state generator (R55, R117). -/
def safeGenerator (s : State) : State :=
  if s.bit R.CLK_STAT.LOCK_C ∧ s.inState [.boot, .slate, .configure, .armed, .run, .safe] then
    s.each lanes64 (fun n s => if s.laneEn n then (s.set (R.LN_STAT.STATE n) 1).modLink n (fun l => { l with urgQ := [], edges := [] }) else s)
  else s

/-- The core, management, CAN and egress domains are gated (R117). Nothing in them acts or is read until the reset, which clears them (R15), so
what they hold is dropped at once; every enabled lane is left to the safe-state generator (log 75). -/
def gateCore (s : State) : State :=
  let s := safeGenerator s
  let t := clearState s
  let t := t.each lanes64 (fun n t => if s.laneEn n then t.set (R.LN_STAT.STATE n) (s.get (R.LN_STAT.STATE n)) else t)
  { t with pw := { s.pw with state := .gated, selfTest := false } }

/-- A reset that the device asks for: in Armed, Run and Safe it is latched while Black sets go out (R64); elsewhere it is taken at
once. -/
def requestReset (code : Nat) (s : State) : State :=
  let s' := latch code 0 s
  if s.pw.cause.isSome ∨ s'.pw.cause = none then s'
  else if s.inState [.armed, .run, .safe] then blackLanes s' else takeReset s'

/-! ### Boot, R70, R500 -/

/-- The larger of the valid operating-seconds saves (R128). -/
def Mram.opsec (m : Mram) : Nat := max (m.opsecA.getD 0) (m.opsecB.getD 0)

/-- The dither LFSR of each PLL with DITHER set is loaded (R92): A, C, S, T are 0 to 3. A seed of 0 is replaced by 1. -/
def ditherBit (p : Nat) : Fld :=
  match p with | 0 => R.CLK_DITHER.DITHER_A | 1 => R.CLK_DITHER.DITHER_C | 2 => R.CLK_DITHER.DITHER_S | _ => R.CLK_DITHER.DITHER_T
def loadDither (p : Nat) (s : State) : State :=
  if s.bit (ditherBit p) then { s with clk := { s.clk with lfsr := Tab.set 0 s.clk.lfsr p (max 1 (s.get (R.CLK_SEED.SEED p))) } } else s

/-- The identifiers of the communication objects for the node ID 1 + 64 × G (R534; log 53). -/
def cobResets (s : State) : State :=
  let n := 64 * s.grp
  let s := s.set O.COB_EMCY (0x81 + n)
  s.each [0, 1, 2, 3] (fun j s => (s.set (O.RPDO_COB j) (0x201 + 0x100 * j + n)).set (O.TPDO_COB j) (0x181 + 0x100 * j + n))

/-- The reset values that depend on the position (R92, R298, R528, R534, R381). -/
def positionResets (s : State) : State :=
  let s := cobResets (canRestart s)
  let s := s.each [0, 1, 2, 3] (fun p s => s.set (R.CLK_SEED.SEED p) (0x4B1 * (s.pos + 1)))
  let s := s.setBit R.BAL_CTRL.PREFER (s.pos % 2 == 0)
  ((s.set O.VNET (2 + s.grp)).set O.IDCODE (s.pos + 1)).set O.MAC Config.mac

/-- The core clock is released: straps are sampled (R47) and Boot begins (R70), which finds a torn save (R129). -/
def enterBoot (straps : Nat) (s : State) : State :=
  let ch := s.pw.ch
  let slate := s.bit R.START_STAT.SLATE
  let torn := s.mram.opsecTorn
  let s := s.modPw (fun p => { p with state := .boot, straps := straps, coldHold := false, selfTest := true, selfTestDone := false, slateStart := slate, romOnly := false, fwRuns := false, stage := 2, bootAt := s.now })
  let s := positionResets (s.set R.START_STAT.PENDING 1)
  let s := s.each [0, 1, 2, 3] loadDither
  let (e, s) := s.draw
  let s := s.modTs (fun t => { t with opsecBase := s.mram.opsec, bins := s.mram.bins, epoch := e % 2 ^ 32 })
  let (c, s) := s.draw
  let s := s.modSec (fun x => { x with challenge := c % 2 ^ 256 })
  let s := s.set R.CLK_PLLLK.QUAL_US (min 65535 ch.qualUs)
  let s := foundTorn (s.each lanes64 bringUp)
  raiseAll ((if torn then [Src.TS_OPSEC_TORN] else []) ++ (if ch.deferred then [Src.CLK_REF_DEFERRED] else [])
    ++ (if ch.qualUs < 500 ∨ 5000 < ch.qualUs then [Src.CLK_LOCK_FILTER] else [])
    ++ (if bitAt s.pw.vio 3 then [Src.WF_BANK_LEVEL] else [])) s

/-- The start is successful (R71); a bank in trial becomes the chosen one (R513). -/
def startSucceeded (s : State) : State :=
  let s := (s.set R.START_STAT.PENDING 0).set R.START_STAT.FAILED_CONSEC 0
  let s := s.modPw (fun p => { p with selfTest := false, stage := 7 })
  if s.mram.trial ∧ s.get R.SEC_BOOT.BANK ≠ s.mram.bootSel then { s with mram := { s.mram with bootSel := s.get R.SEC_BOOT.BANK, trial := false, tried := false } } else s

/-- Slate is held (R78 to R80): from the boot ROM alone the lanes send Black sets, else they enter RX_ONLY. The spine comes up (R413), the egress pair is
idle (R43), and the node sends its boot-up message (R529). -/
def holdSlate (s : State) : State :=
  let s := if s.bit R.EG_STAT.LINK_UP then raise (Src.EG_LINK_DOWN) ((s.set R.EG_STAT.LINK_UP 0).set R.EG_STAT.AN_DONE 0) else s
  let s := (s.modPw (fun p => { p with state := .slate, selfTest := false })).set R.START_STAT.PENDING 0
  let s := canSend .bootUp (s.each spine4 spineBringUp)
  if s.pw.romOnly then s.each lanes64 (fun n s => s.set (R.LN_STAT.STATE n) (b2n (s.laneEn n))) else s.each lanes64 bringUp

/-! ### Commands -/

/-- VKA rises (R57): every VKA field takes its first-application value, and the device enters Standby. -/
def vkaRises (s : State) : State :=
  if s.pw.state = .off then
    let s := { s with regs := s.regs.filter (fun e => !vkaKey e.1) }
    enterStandby (s.modPw (fun p => { p with vka := true, cycled := 0, failStage := 0 }))
  else s

/-- VKA falls (R57, R568): the device stops as at a reset that drops PWREN, and the VKA contents are lost. -/
def vkaFalls (s : State) : State :=
  let s := enterStandby (clearState s)
  { s.modPw (fun p => { p with state := .off, vka := false, cycled := 0, failStage := 0 }) with regs := s.regs.filter (fun e => !vkaKey e.1) }

/-- The board is seated (R59, R83): a wake event in Standby; a board cycle leaves Slate (R81). -/
def inserted (s : State) : State :=
  let c := s.pw.cycled
  let s := s.modPw (fun p => { p with prsnt := true, cycled := 0 })
  if s.pw.state = .standby then
    let s := s.modPw (fun p => { p with wakeInsertion := true })
    if s.bit R.START_STAT.SLATE ∧ (c = 1 ∨ c = 2) then
      leaveSlate (if c = 1 then writeCause ⟨0xE, s.ts.tsc, false, 0, s.cmCycle⟩ s else s)
    else s
  else s

/-- nRESET rises (R59): a wake event in Standby; the end of the reset state of R43 outside it. -/
def nresetRises (s : State) : State :=
  let s := s.modPw (fun p => { p with nReset := true })
  match s.pw.state with
  | .standby => s.modPw (fun p => { p with wakeReset := true })
  | .coldHold => if s.pw.coldHold then s else s.modPw (fun p => { p with coldHold := true, ch := {} })
  | _ => s

/-- The causes after which the restart delay applies (R59). -/
def State.restarts (s : State) : Bool :=
  let c := s.get R.RST_CAUSE.CAUSE
  c == 3 || c == 4 || c == 0xC || ((c == 1 || c == 2) && s.bit O.AUTO_RESTART)

/-- PWREN rises when a wake event is kept and the pins allow it (R54, R59); `nEject` is the level of nEJECT, of which no other command
tells in Standby (log 45). -/
def leaveStandby (nEject : Bool) (s : State) : State :=
  let p := s.pw
  let s := if p.state = .standby then s.modPw (fun p => { p with nEject := nEject }) else s
  if p.state = .standby ∧ !p.pwren ∧ p.prsnt ∧ nEject ∧ p.nReset ∧ (p.wakeInsertion ∨ p.wakeReset ∨ p.wakeRestart) then
    s.modPw (fun p => { p with pwren := true, pwrenRose := true, railGood := true, wakeInsertion := false, wakeReset := false, wakeRestart := false })
  else s

/-- A rail is lost (R55). -/
def railLost (low : Nat) (s : State) : State :=
  if s.inState [.off, .standby] ∨ s.pw.pgoodLoss then s
  else
    let s := latch 1 low s
    let s := if bitAt low 1 then s else safeGenerator s
    if s.pw.cause = none then s else s.modPw (fun p => { p with pgoodLoss := true })

/-- nRESET is taken (R64, R65). With PWREN up in Standby the cause is recorded and Cold hold waits for the release (log 45). -/
def nresetFalls (s : State) : State :=
  let s := s.modPw (fun p => { p with nReset := false, nResetTaken := !(p.state == .off || p.state == .standby) })
  if s.pw.state = .off ∨ (s.pw.state = .standby ∧ !s.pw.pwren) then s
  else if s.pw.state = .standby then recordCause ⟨8, s.ts.tsc, false, 0, s.cmCycle⟩ s
  else if s.pw.cause.isSome then latch 8 0 s
  else if s.inState [.armed, .run, .safe] then
    blackLanes ((latch 8 0 s).modPw (fun p => { p with nResetBlack := true }))
  else (takeReset (latch 8 0 s)).modPw (fun p => { p with coldHold := false })

/-- The board is removed (R83): the sequence of R55 without the wait for rails. -/
def boardRemoved (s : State) : State :=
  if s.inState [.off, .standby] then s
  else
    let slate := s.pw.state == .slate
    let s := (safeGenerator (latch 0xE 0 s)).modPw (fun p => { p with prsnt := false, cycled := if slate then 2 else 3 })
    if s.pw.cause = none then enterStandby s else takeReset (s.modPw (fun p => { p with pgoodLoss := true }))

/-- PRSNT is low for 10 ms in Standby (R59, R81). -/
def prsntLow (s : State) : State :=
  if s.pw.state = .standby then
    s.modPw (fun p => { p with prsnt := false, wakeInsertion := false, wakeReset := false, wakeRestart := false, cycled := if p.cycled ≤ 1 then 1 else 2 })
  else s

/-- An ejection is recognised (R85): 0x0D is the cause where none waits; ownership is released to a partner that is there, and EJECT_ALONE is
raised where none is. It runs to completion, whatever cause waits (R86). -/
def eject (s : State) : State :=
  if s.inState [.boot, .slate, .configure, .armed, .run, .safe] ∧ !s.pw.ejecting then
    let s := (latch 0xD 0 s).modPw (fun p => { p with nEject := false, ejecting := true })
    if s.ownedMask = 0 then s
    else if s.dx.current then { s with dx := { s.dx with releaseNext := s.ownedMask } }
    else raise (Src.BAL_EJECT_ALONE) s
  else s.modPw (fun p => { p with nEject := false })

/-- VKA_FIRST_APPLIED, R57. -/
def execVkaFirstApplied (s : State) : Host.Outcome State Fault Refusal := .next (vkaRises s)

/-- VKA_LOST, R568. -/
def execVkaLost (s : State) : Host.Outcome State Fault Refusal := .next (vkaFalls s)

/-- INSERTION, R83, R81. -/
def execInsertion (s : State) : Host.Outcome State Fault Refusal := .next (inserted s)

/-- NRESET_RELEASE, R59. -/
def execNresetRelease (s : State) : Host.Outcome State Fault Refusal := .next (nresetRises s)

/-- AUTOMATIC_RESTART, R59. -/
def execAutomaticRestart (s : State) : Host.Outcome State Fault Refusal :=
  .next (if s.pw.state = .standby ∧ s.restarts then s.modPw (fun p => { p with wakeRestart := true }) else s)

/-- LEAVE_STANDBY, R59. -/
def execLeaveStandby (s : State) (nEject : Bool := true) : Host.Outcome State Fault Refusal := .next (leaveStandby nEject s)

/-- RAIL_GOOD_TIMEOUT, R54. -/
def execRailGoodTimeout (s : State) : Host.Outcome State Fault Refusal :=
  .next (if s.pw.state = .standby ∧ s.pw.railGood then takeReset (latch 2 0 s) else s)

/-- ENTER_COLD_HOLD, R54: `vio` is the level detected on VIO1 to VIO4, bits 0 to 3, 1 for 3.3 V (R41). -/
def execEnterColdHold (vio : Nat) (s : State) : Host.Outcome State Fault Refusal :=
  .next (if s.pw.state = .standby ∧ s.pw.railGood then enterColdHold (s.modPw (fun p => { p with vio := vio % 16 })) else s)

/-- PGOOD_LOST, R55. -/
def execPgoodLost (low : Fin 16) (s : State) : Host.Outcome State Fault Refusal := .next (railLost low.val s)

/-- PGOOD_LOSS_PWREN_DROP, R55. -/
def execPgoodLossPwrenDrop (s : State) : Host.Outcome State Fault Refusal :=
  .next (if s.pw.pgoodLoss then takeReset s else s)

/-- NRESET_ASSERTED, R65. -/
def execNresetAsserted (s : State) : Host.Outcome State Fault Refusal := .next (nresetFalls s)

/-- NRESET_BLACK_SET_END, R64. -/
def execNresetBlackSetEnd (s : State) : Host.Outcome State Fault Refusal :=
  .next (if s.pw.nResetBlack then takeReset s else s)

/-- BOARD_REMOVED, R83. -/
def execBoardRemoved (s : State) : Host.Outcome State Fault Refusal := .next (boardRemoved s)

/-- NEJECT_RECOGNISED, R85. -/
def execNejectRecognised (s : State) : Host.Outcome State Fault Refusal := .next (eject s)

/-- EJECTION_PWREN_DROP, R85, R86. -/
def execEjectionPwrenDrop (s : State) : Host.Outcome State Fault Refusal :=
  .next (if s.pw.ejecting then takeReset s else s)

/-- INTERNAL_RESET_TAKEN, R64. -/
def execInternalResetTaken (s : State) : Host.Outcome State Fault Refusal :=
  .next (if s.pw.ejecting ∨ s.pw.nResetBlack ∨ s.pw.pgoodLoss then s else takeReset s)

/-- SELFTEST_DONE, R71: a write outside Boot is ignored. -/
def execSelftestDone (s : State) : Host.Outcome State Fault Refusal :=
  .next (if s.pw.state = .boot then s.modPw (fun p => { p with selfTestDone := true }) else s)

/-- SELF_TEST_TIMEOUT, R71. -/
def execSelfTestTimeout (s : State) : Host.Outcome State Fault Refusal :=
  .next (if s.pw.selfTest then requestReset 9 s else s)

/-- SLATE_HOLD, R78 to R80. -/
def execSlateHold (s : State) : Host.Outcome State Fault Refusal :=
  .next (if s.pw.state = .boot ∧ s.pw.slateStart ∧ (s.pw.romOnly ∨ s.pw.fwRuns) then holdSlate s else s)

/-- A reset that the host requests at 0x2010:01; refused in Run (R88). -/
def hostReset (code : Nat) (s : State) : State :=
  if s.inState [.boot, .slate, .configure, .armed, .safe] then requestReset code s else s

/-- SOFTWARE_RESET_REQUEST, R88. -/
def execSoftwareResetRequest (s : State) : Host.Outcome State Fault Refusal := .next (hostReset 0xB s)

/-- POWER_CYCLE_REQUEST, R88. -/
def execPowerCycleRequest (s : State) : Host.Outcome State Fault Refusal := .next (hostReset 0xC s)

/-- PRSNT_LOW, R59. -/
def execPrsntLow (s : State) : Host.Outcome State Fault Refusal := .next (prsntLow s)

end Sys2Proof.Machine
end

