-- ==== Sys2Proof/Machine/Metrology.lean ====
section
/-!
DEFINITION. Machine/Metrology.lean: the sigma-delta inputs, the phasor path and its reports, the C37.118.2 frames and the egress lane
(13_metrology.md).
-/
namespace Sys2Proof.Machine

/-! ### Values the spec leaves open (log 6) -/

/-- Any of `n` values. -/
def State.drawBelow (s : State) (n : Nat) : Nat × State := let (d, s) := s.draw; (d % n, s)

/-- Any finite binary32 whose magnitude is at most that of pattern `m`. -/
def State.drawFloat (s : State) (m : Nat) : Nat × State :=
  let (d, s) := s.drawBelow (2 * (m + 1))
  (if d ≤ m then d else d - (m + 1) + 2 ^ 31, s)

/-- A rounding that the spec does not name: either neighbour of a value that is no whole number. -/
def State.roundOpen (s : State) (r : Rat) : Nat × State :=
  if r = (r.floor : Rat) then (r.floor.toNat, s) else let (d, s) := s.drawBelow 2; (r.floor.toNat + d, s)

/-- `n` bytes of any value. -/
def State.drawBytes (s : State) (n : Nat) : List Byte × State :=
  (List.range n).foldl (fun (a : List Byte × State) _ => let (d, s) := a.2.drawBelow 256; (a.1 ++ [BitVec.ofNat 8 d], s)) ([], s)

/-! ### Objects, R388 -/

/-- The characters of a text, the first lowest. -/
def ascii (t : List Char) : Nat := leVal (t.map (fun c => BitVec.ofNat 8 c.toNat))
def digit (n : Nat) : Char := Char.ofNat (48 + n % 10)
/-- The default name of a phasor channel 0 to 11, or of a set 12 to 15. -/
def channelName (i : Nat) : Nat := if i < 12 then ascii ['P', 'H', digit (i / 10), digit i] else ascii ['P', 'S', digit (i - 12)]

def O.STATION : Fld := obj 0x4400 3 128 .rwc (ascii ['M', 'B', 'L', '7', '2', '6', '4'])
def O.BLOCKS : Fld := obj 0x4400 6 64 .rwc 1
def O.TX_START : Fld := obj 0x4400 8 1 .rwc 1
def O.CHNAM (i : Nat) : Fld := obj 0x4400 (0x20 + i) 128 .rwc (channelName i)
def O.DST_MAC : Fld := obj 0x4400 0x42 48 .rwc 0
def O.SRC_IP : Fld := obj 0x4400 0x41 32 .rwc 0
def O.DST_IP : Fld := obj 0x4400 0x43 32 .rwc 0
def O.PORTS : Fld := obj 0x4400 0x44 32 .rwc 0x12691269
def O.EG_VLAN : Fld := obj 0x4400 0x45 16 .rwc 0
def O.DSCP : Fld := obj 0x4400 0x46 8 .rwc 46
def O.AUTO_NEG : Fld := obj 0x4400 0x47 1 .rwc 1

/-! ### Control path, R366 to R368 -/

def State.sd (s : State) (c : Nat) : SdCh := Tab.get {} s.met.sd c

/-- The weight of the bit sampled `i` clocks before the last in a sinc3 filter of ratio 64 (R366): the three-fold sum of a run of 64. -/
def sincWeight (i : Nat) : Int :=
  let tri (j : Nat) : Int := if i < j then 0 else ((i - j + 1) * (i - j + 2) / 2 : Nat)
  tri 0 - 3 * tri 64 + 3 * tri 128

/-- The output code N of the last 190 bits. -/
def sincCode (hist : Nat) : Nat :=
  ((List.range 190).foldl (fun (a : Int) i => if bitAt hist i then a + sincWeight i else a) 0).toNat

/-- The run of equal bits through 64 new ones, bit 63 first: last bit, length (at most 256), and whether it has reached 256. -/
def runThrough (v : Nat) (last : Bool) (run : Nat) : Bool × Nat × Bool :=
  (List.range 64).foldl (fun (a : Bool × Nat × Bool) i =>
    let b := bitAt v (63 - i)
    let n := if b = a.1 ∧ a.2.1 > 0 then min 256 (a.2.1 + 1) else 1
    (b, n, a.2.2 || n == 256)) (last, run, false)

/-- gain × x + ofs in binary32, rounded once to nearest even (R366; log 48). -/
def scaled (gain ofs : Nat) (x : Rat) : Nat :=
  if finite32 gain ∧ finite32 ofs then round32 (val32 gain * x + val32 ofs) else fma32 gain (round32 x) ofs

/-- A control-path output (R366, R368): the 64 bits sampled since the last one, bit 63 first. Before 190 bits have been sampled the code is
open. -/
def controlOutput (c v : Nat) (s : State) : State :=
  if s.inState [.boot, .configure, .armed, .run, .safe] ∧ s.bit (R.SD_CFG.EN c) then
    let ch := s.sd c
    let (last, run, hit) := runThrough v ch.last ch.run
    let w := if s.bit (R.SD_CFG.INV c) then 2 ^ 64 - 1 - v else v
    let hist := (ch.hist * 2 ^ 64 + w) % 2 ^ 190
    let n := min 190 (ch.n + 64)
    let (code, s) := if n = 190 then (sincCode hist, s) else s.drawBelow 262145
    let x : Rat := mkRat code 131072 - 1
    let above := decide (mkRat (s.get R.SDCK_CFG.OVR_LIM) 256 ≤ absRat x)
    let good := if hit then 0 else min 3 (ch.good + 1)
    let below := if above then 0 else min 64 (ch.below + 1)
    let stuck := hit || (s.bit (R.SD_STAT.STUCK c) && good < 3)
    let ovr := above || (s.bit (R.SD_STAT.OVR c) && below < 64)
    let s := ((s.set (R.SD_STAT.RAW c) code).setBit (R.SD_STAT.STUCK c) stuck).setBit (R.SD_STAT.OVR c) ovr
    let y := scaled (s.get (R.SD_GAIN c)) (s.get (R.SD_OFS c)) x
    let s := s.modMet (fun m => { m with sample := Tab.set 0 m.sample c y, sd := Tab.set {} m.sd c { hist := hist, n := n, last := last, run := run, good := good, below := below } })
    raiseAll ((if hit then [Src.MET_SD_STUCK] else []) ++ (if above then [Src.MET_SD_OVR] else [])) s
  else s

/-- A channel is enabled: its filter starts afresh, and its sample is open until the first output. -/
def startChannel (c : Nat) (s : State) : State :=
  let (d, s) := s.drawFloat 0x7F7FFFFF
  s.modMet (fun m => { m with sample := Tab.set 0 m.sample c d, sd := Tab.set {} m.sd c {} })

/-! ### Phasor path and reports, R369 to R380 -/

/-- A channel reads as NaN (R368). -/
def State.channelNan (s : State) (c : Nat) : Bool := !s.bit (R.SD_CFG.EN c) || s.bit (R.SD_STAT.STUCK c)
def State.phRuns (s : State) : Bool := s.get R.MET_STAT.PH_STATE == 1 || s.get R.MET_STAT.PH_STATE == 2

/-- The group delay of the phasor path, 806.15 µs, in ticks (R369). -/
def groupDelay : Nat := 825498

/-- A phasor-path output (R369): its taps are not given, so its value is open; its stamp is the group time of its centre. -/
def pathOutput (c : Nat) (s : State) : State :=
  if s.phRuns then
    let (d, s) := s.drawFloat 0x7F7FFFFF
    let t := s.groupTime - groupDelay
    let v := if s.channelNan c then qnan else d
    s.modMet (fun m => { m with out := Tab.set (0, 0) m.out c (v, t), first := some (m.first.getD t) })
  else s

/-- f0 in Hz and Fs in frames per second (R374). -/
def State.f0 (s : State) : Nat := if s.bit R.PMU_CFG.F0 then 60 else 50
def rateOf (r : Nat) : Nat := [10, 12, 15, 20, 25, 30, 50, 60, 100, 120].getD r 10
/-- The rates allowed for 50 Hz and 60 Hz. -/
def rateAllowed (f60 : Bool) (r : Nat) : Bool := if f60 then [0, 1, 2, 3, 5, 7, 9].contains r else [0, 4, 6, 8].contains r
/-- The window in µs and τ in µs (R373, R374). -/
def windowUs (m f60 : Bool) (r : Nat) : Nat :=
  if m then
    (if f60 then (match r with | 3 => 180000 | 5 => 160000 | 7 => 100000 | 9 => 50000 | _ => 200000)
     else (match r with | 4 => 160000 | 6 => 140000 | 8 => 60000 | _ => 200000))
  else if f60 then (if r = 9 then 25000 else 33300) else (if r = 8 then 30000 else 40000)
def tauUs (m : Bool) : Nat := if m then 10000 else 2500
def State.windowTicks (s : State) : Nat :=
  windowUs (s.bit R.PMU_CFG.CLASS) (s.bit R.PMU_CFG.F0) (s.get R.PMU_CFG.RATE) * 1024

/-- Time quality in FRACSEC bits 27:24, STAT bits 8:6 and STAT bit 13 (R378). -/
def qualityOf (tq : Nat) : Nat × Nat × Nat :=
  if !bitAt tq 7 ∨ tq % 4 = 3 then (0xF, 7, 1)
  else if tq % 4 = 0 then (if bitAt tq 4 ∧ !bitAt tq 6 then 0 else 3, 1, 0)
  else if tq % 4 = 1 then (4, 2, 0)
  else (5, 3, 0)

/-- STAT bits 5:4 (R379). -/
def State.unlocked (s : State) : Nat :=
  if bitAt s.tq 4 then 0
  else match s.ts.lockedAt with
    | none => 3
    | some t =>
      let sec := (s.ts.tsc - t) / ticksPerSec
      if sec < 10 then 0 else if sec < 100 then 1 else if sec < 1000 then 2 else 3

/-- Bits 31:24 of FRACSEC (R378, R379). -/
def State.fracHigh (s : State) : Nat :=
  let ptp := s.ts.source != .pps
  let pend := ptp && (s.ts.ptp.leap61 || s.ts.ptp.leap59)
  let occurred := match s.ts.utcChanged with | some t => s.ts.tsc < t + 86400 * ticksPerSec | none => false
  64 * b2n (ptp && s.ts.ptp.leap59) + 32 * b2n occurred + 16 * b2n pend + (qualityOf s.tq).1

/-- The time bits of STAT (R378, R379). -/
def State.statTime (s : State) : Nat :=
  let q := qualityOf s.tq
  2 ^ 13 * q.2.2 + 2 ^ 6 * q.2.1 + 2 ^ 4 * s.unlocked

/-- Ticks on the grid of the reports: TAI, or group time while TAI_VALID is 0 (R377). -/
def State.gridTime (s : State) : Nat :=
  if bitAt s.tq 7 then (s.groupTime + s.ts.taiOffset) % 2 ^ 64 else s.groupTime
/-- SOC of a second of the grid (R377). -/
def State.socOf (s : State) (sec : Nat) : Nat := if bitAt s.tq 7 then ((sec : Int) + s.utc).toNat % 2 ^ 32 else sec % 2 ^ 32

/-- A phasor channel, or a set, reads as NaN. -/
def State.phNan (s : State) (h : Nat) : Bool := s.channelNan (s.get (R.PH_CFG.SDD h))
def State.psNan (s : State) (i : Nat) : Bool := s.phNan (3 * i) || s.phNan (3 * i + 1) || s.phNan (3 * i + 2)

/-- The enabled channels of a block in the order of R381, by whether they read as NaN. -/
def State.blockNans (s : State) : List Bool :=
  (bitList 12 (s.get R.PMU_CFG.PH_MASK)).map s.phNan ++ (bitList 4 (s.get R.PMU_CFG.PS_MASK)).map s.psNan

/-- An estimate counts as accurate: the figures of R376 apply with the ERROR field of the time quality at 0b00. -/
def State.accurate (s : State) : Bool := s.tq % 4 == 0

/-- What is applied, as far as R376 binds the report to it. -/
def State.bound (s : State) (a : Applied) : Applied := if s.accurate then a else { a with signal := .other }

/-- The phasor of channel h for the phasors at the inputs: scaled by the gain of its input (R366), PH_MAG and PH_ANG (R371); none where one of the three is not
finite. -/
def State.phasorOf (s : State) (l : List (Nat × Nat)) (h : Nat) : Option (Rat × Rat) :=
  let c := s.get (R.PH_CFG.SDD h)
  let g := s.get (R.SD_GAIN c)
  let m := s.get (R.PH_MAG h)
  let t := s.get (R.PH_ANG h)
  let p := l.getD c (0, 0)
  if finite32 g && finite32 m && finite32 t then
    let k := val32 g * val32 m
    some (turned (val32 t) (k * val32 p.1, k * val32 p.2))
  else none

/-- The positive sequence of set i: (XA + a·XB + a²·XC)/3 (R371). -/
def State.sequenceOf (s : State) (l : List (Nat × Nat)) (i : Nat) : Option (Rat × Rat) :=
  match s.phasorOf l (3 * i), s.phasorOf l (3 * i + 1), s.phasorOf l (3 * i + 2) with
  | some a, some b, some c =>
    let b := turned (mkRat 1 3) b
    let c := turned (mkRat 2 3) c
    some ((a.1 + b.1 + c.1) / 3, (a.2 + b.2 + c.2) / 3)
  | _, _, _ => none

/-- The phasor at place `i` of a block, in the order of R381: channels, then sets. -/
def State.placeOf (s : State) (l : List (Nat × Nat)) (i : Nat) : Option (Rat × Rat) :=
  let chs := bitList 12 (s.get R.PMU_CFG.PH_MASK)
  match chs[i]? with
  | some h => s.phasorOf l h
  | none => s.sequenceOf l ((bitList 4 (s.get R.PMU_CFG.PS_MASK)).getD (i - chs.length) 0)

/-- One phasor, 8 bytes, at place `i` of the report: the estimate is open within R376 (R372), polar or rectangular (R381). -/
def drawPhasor (a : Applied) (i : Nat) (nan : Bool) (s : State) : List Byte × State :=
  let polar := s.bit R.PMU_CFG.POLAR
  let (x, s) := s.drawFloat 0x7F7FFFFF
  let (y, s) := if polar then s.drawFloat 0x40490FDB else s.drawFloat 0x7F7FFFFF
  if nan then (beBytes 4 qnan ++ beBytes 4 qnan, s)
  else
    let before := match a.signal with | .step _ l => l | _ => a.phasors
    let pick := (if polar then abs32 x else x, y)
    let p := match s.placeOf a.phasors i, s.placeOf before i with
      | some n, some b => phasorWithin (s.bit R.PMU_CFG.CLASS) polar s.f0 (rateOf (s.get R.PMU_CFG.RATE)) a.signal n b pick
      | _, _ => pick
    (beBytes 4 p.1 ++ beBytes 4 p.2, s)

/-- A quantity is above a limit that is not 0.0 (R383). -/
def aboveLimit (r : Rat) (lim : Nat) : Bool := finite32 lim && decide (val32 lim ≠ 0) && decide (val32 lim < absRat r)

/-- The trigger bits of STAT without an onset (R383). -/
def State.triggerBits (s : State) (f rocof : Nat) : Nat :=
  if finite32 f ∧ aboveLimit (val32 f - s.f0) (s.get R.PMU_FBAND) then 2 ^ 11 + 4
  else if finite32 rocof ∧ aboveLimit (val32 rocof) (s.get R.PMU_RLIM) then 2 ^ 11 + 5
  else 0

/-- CFGCNT has changed within 60 s (R383). -/
def State.cfgRecent (s : State) : Bool := match s.met.cfgAt with | some t => s.ts.tsc < t + 60 * ticksPerSec | none => false

/-- The nFAULT output is low (R46, R447): also from the instant the nRESET filter takes a pulse until the reset. -/
def State.nfaultLow (s : State) : Bool :=
  s.inState [.standby, .coldHold, .boot, .slate] || s.bit R.FC_NFAULT.DRIVE || s.bit R.FC_NFAULT.PULSE || !s.pw.nReset || s.pw.nResetTaken

/-- The digital word without its onset bit (R382). -/
def State.digital (s : State) : Nat :=
  let trip := (List.range 8).any (fun i => s.bit (R.TRIP_STAT.LATCHED i))
  b2n (s.pw.state == .run) + 2 * b2n (s.pw.state == .safe) + 4 * b2n s.nfaultLow + 8 * b2n trip

/-- The time of a report instant: SOC and FRACSEC (R377). -/
def reportTime (sec k : Nat) (s : State) : Nat × Nat × State :=
  let (us, s) := s.roundOpen (mkRat (k * 1000000) (rateOf (s.get R.PMU_CFG.RATE)))
  (s.socOf sec, s.fracHigh * 2 ^ 24 + us, s)

/-- The estimate at a report instant (R372, R373, R377 to R380, R383), within the figures of R376. -/
def formReport (applied : Applied) (sec k : Nat) (s : State) : State :=
  let s := if bitAt s.tq 7 then s else raise (Src.MET_TIME_UNSYNC) s
  let a := s.bound applied
  let cls := s.bit R.PMU_CFG.CLASS
  let fs := rateOf (s.get R.PMU_CFG.RATE)
  let nans := s.blockNans
  let noFreq := s.psNan (s.get R.PMU_CFG.FREQ_SET)
  let (ph, s) := nans.zipIdx.foldl (fun (x : List Byte × State) n => let (b, s) := drawPhasor a n.2 n.1 x.2; (x.1 ++ b, s)) ([], s)
  let (f, s) := if noFreq then (qnan, s) else s.drawFloat 0x7F7FFFFF
  let (r, s) := if noFreq then (qnan, s) else s.drawFloat 0x7F7FFFFF
  let f := if noFreq then f else freqWithin cls s.f0 fs a f
  let r := if noFreq then r else rocofWithin cls s.f0 fs a r
  let out := finite32 f && decide (5 < absRat (val32 f - s.f0))
  let s := if out then raise (Src.MET_FREQ_RANGE) s else s
  let (d, s) := s.drawBelow (2 ^ 24)
  let s := s.set R.MET_STAT.FREQ (if finite32 f then roundEven (absRat (val32 f) * 1000) else d)
  let (soc, frac, s) := reportTime sec k s
  let err := if out || nans.any id then 2 ^ 14 else 0
  let stat := err + s.statTime + s.triggerBits f r
  let rep : Report := { soc := soc, frac := frac, instant := s.groupTime, stat := stat, body := ph ++ beBytes 4 f ++ beBytes 4 r, dig := if s.bit R.PMU_CFG.DIG_EN then some s.digital else none }
  (s.set R.MET_STAT.PH_STATE 2).modMet (fun m => { m with reports := m.reports ++ [rep] })

/-- A report of the time alone. -/
def timeReport (sec k : Nat) (s : State) : State :=
  let s := if bitAt s.tq 7 then s else raise (Src.MET_TIME_UNSYNC) s
  let (soc, frac, s) := reportTime sec k s
  s.modMet (fun m => { m with reports := m.reports ++ [{ soc := soc, frac := frac, instant := s.groupTime, stat := s.statTime, body := [], dig := none }] })

/-- A Root whose own phasor path is off, and whose frame carries the blocks of Members (R384). -/
def State.onlyGathers (s : State) : Bool := s.isRoot && s.active && !s.bit R.PMU_CFG.PH_EN && !s.met.built.isEmpty

/-- A report instant (R375, R380): the one nearest on the grid. An instant whose window is not filled yet, or at or before the last one
reported, gives no report; a forward step that skips instants raises REPORT_SKIPPED. Of a Root that only gathers blocks it has the time alone. -/
def reportInstant (a : Applied) (s : State) : State :=
  if !s.phRuns && !s.onlyGathers then s
  else
    let fs := rateOf (s.get R.PMU_CFG.RATE)
    let num := (2 * s.gridTime * fs + ticksPerSec) / (2 * ticksPerSec)
    let half := s.windowTicks / 2 + tauUs (s.bit R.PMU_CFG.CLASS) * 1024
    let filled : Bool := s.onlyGathers || match s.met.first with | some t => t + half ≤ s.groupTime | none => false
    let valid := bitAt s.tq 7
    let again : Bool := match s.met.last with | some (v, n, _) => v == valid && num ≤ n | none => false
    let skipped : Bool := match s.met.last with | some (v, n, o) => v && valid && n + 1 < num && o < s.ts.taiOffset | none => false
    if !filled ∨ again then s
    else
      let form := if s.onlyGathers then timeReport else formReport a
      let s := form (num / fs) (num % fs) (if skipped then raise (Src.MET_REPORT_SKIPPED) s else s)
      s.modMet (fun m => { m with last := some (valid, num, s.ts.taiOffset) })

/-! ### Frames, R381 to R383 -/

/-- CRC-CCITT: polynomial 0x1021, initial value 0xFFFF (R381). -/
def crcCcitt (bs : List Byte) : Nat :=
  bs.foldl (fun r b =>
    (List.range 8).foldl (fun r _ => if bitAt r 15 then Nat.xor (r * 2 % 65536) 0x1021 else r * 2 % 65536)
      (Nat.xor r (b.toNat * 256))) 0xFFFF

/-- A frame of R381: SYNC, FRAMESIZE, IDCODE, SOC, FRACSEC, what follows, and CHK. -/
def c37Frame (sync id soc frac : Nat) (body : List Byte) : List Byte :=
  let b := beBytes 2 sync ++ beBytes 2 (16 + body.length) ++ beBytes 2 id ++ beBytes 4 soc ++ beBytes 4 frac ++ body
  b ++ beBytes 2 (crcCcitt b)

/-- A text of 16 characters, padded with spaces. -/
def text16 (n : Nat) : List Byte := (leBytes 16 n).map (fun b => if b = 0 then 0x20 else b)

/-- One block of CFG-2 without CFGCNT (R381): station, IDCODE, FORMAT, the numbers of phasors, analog values and digital words, the names, the
units and FNOM. The 16 names of a digital word are open. -/
def blockConfig (s : State) : List Byte × State :=
  let chs := bitList 12 (s.get R.PMU_CFG.PH_MASK) ++ (bitList 4 (s.get R.PMU_CFG.PS_MASK)).map (fun i => 12 + i)
  let kind (i : Nat) : Nat := s.get (R.PH_CFG.KIND (if i < 12 then i else 3 * (i - 12)))
  let dig := s.bit R.PMU_CFG.DIG_EN
  let head := text16 (s.get O.STATION) ++ beBytes 2 (s.get O.IDCODE) ++ beBytes 2 (if s.bit R.PMU_CFG.POLAR then 0xF else 0xE)
    ++ beBytes 2 chs.length ++ beBytes 2 0 ++ beBytes 2 (b2n dig) ++ chs.flatMap (fun i => text16 (s.get (O.CHNAM i)))
  let tail := chs.flatMap (fun i => beBytes 4 (kind i * 2 ^ 24)) ++ (if dig then beBytes 4 0xFFFF else [])
    ++ beBytes 2 (if s.bit R.PMU_CFG.F0 then 0 else 1)
  let (names, s) := if dig then s.drawBytes 256 else ([], s)
  (head ++ names ++ tail, s)

/-- What a Member tells the Root of its block (R384; log 49): PMU_CFG, then the block of CFG-2. -/
def State.pmuWord (s : State) : Nat :=
  [(31, R.PMU_CFG.PH_EN), (30, R.PMU_CFG.CLASS), (29, R.PMU_CFG.F0), (28, R.PMU_CFG.POLAR), (24, R.PMU_CFG.RATE), (22, R.PMU_CFG.FREQ_SET),
    (16, R.PMU_CFG.PS_MASK), (4, R.PMU_CFG.PH_MASK), (0, R.PMU_CFG.DIG_EN)].foldl (fun a p => a + 2 ^ p.1 * s.get p.2) 0

/-- CFG-1 or CFG-2 (R381). -/
def State.cfgBody (s : State) : List Byte :=
  let blocks := s.met.built
  beBytes 4 1000000 ++ beBytes 2 blocks.length ++ blocks.flatMap (fun b => b.2.drop 4 ++ beBytes 2 (s.get R.PMU_CFGCNT.CFGCNT))
    ++ beBytes 2 (rateOf (s.get R.PMU_CFG.RATE))

/-- The text of the header frame (R381). -/
def headerText (p : Nat) : List Byte :=
  leBytes 30 (ascii ['P', 'e', 'r', 't', 'e', 'r', 'd', 'o', ' ', 'M', 'B', 'L', '7', '2', '6', '4', ' ', 'B', '0', ' ', 'p', 'o', 's', 'i', 't', 'i', 'o', 'n', ' ', digit (p / 10)])
    ++ leBytes 1 (digit p).toNat

/-! ### Egress lane, R385 -/

/-- The one's complement sum of 16-bit words. -/
def sum16 (bs : List Byte) : Nat :=
  let words (n : Nat) : Nat := beVal [bs.getD (2 * n) 0, bs.getD (2 * n + 1) 0]
  (List.range ((bs.length + 1) / 2)).foldl (fun a n => let t := a + words n; if t < 65536 then t else t - 65535) 0

/-- An Ethernet frame up to its payload, with the VLAN tag of 0x4400:45 where it is not 0. -/
def State.ethernet (s : State) (dst typ : Nat) (payload : List Byte) : List Byte :=
  let v := s.get O.EG_VLAN
  beBytes 6 dst ++ beBytes 6 (s.get O.MAC) ++ (if v = 0 then [] else beBytes 2 0x8100 ++ beBytes 2 v) ++ beBytes 2 typ ++ payload

/-- A UDP datagram from the local port over IPv4 (R385). -/
def State.udp (s : State) (mac ip port : Nat) (data : List Byte) : List Byte :=
  let src := s.get O.SRC_IP
  let len := 8 + data.length
  let h (chk : Nat) : List Byte := [0x45, BitVec.ofNat 8 (s.get O.DSCP * 4)] ++ beBytes 2 (20 + len) ++ beBytes 2 0 ++ beBytes 2 0x4000
    ++ beBytes 1 64 ++ beBytes 1 17 ++ beBytes 2 chk ++ beBytes 4 src ++ beBytes 4 ip
  let u (chk : Nat) : List Byte := beBytes 2 (s.get O.PORTS % 65536) ++ beBytes 2 port ++ beBytes 2 len ++ beBytes 2 chk ++ data
  let pseudo := beBytes 4 src ++ beBytes 4 ip ++ beBytes 2 17 ++ beBytes 2 len
  let c := 65535 - sum16 (pseudo ++ u 0)
  s.ethernet mac 0x800 (h (65535 - sum16 (h 0)) ++ u (if c = 0 then 65535 else c))

def egressSend (bs : List Byte) (s : State) : State := s.modMet (fun m => { m with egSent := m.egSent ++ [bs] })

/-- The egress link is up and the source address is set (R385). -/
def State.egressAble (s : State) : Bool := s.bit R.EG_STAT.LINK_UP && s.get O.SRC_IP != 0

/-- The present SOC and FRACSEC of a reply. -/
def nowFields (s : State) : Nat × Nat × State :=
  let t := s.gridTime
  let (us, s) := s.roundOpen (mkRat (t % ticksPerSec * 1000000) ticksPerSec)
  (s.socOf (t / ticksPerSec), s.fracHigh * 2 ^ 24 + min 999999 us, s)

/-- A received C37.118.2 command: the requester's MAC address, IPv4 address and port, then the frame (R381; log 49). -/
def commandGood (bs : List Byte) (s : State) : Bool :=
  let f := bs.drop 12
  12 < bs.length && beVal (f.take 2) == 0xAA42 && beVal ((f.drop 2).take 2) == f.length && 18 ≤ f.length
    && beVal (f.drop (f.length - 2)) == crcCcitt (f.take (f.length - 2)) && beVal ((f.drop 4).take 2) == s.get O.IDCODE
def commandCode (bs : List Byte) : Nat := beVal ((bs.drop 26).take 2)

/-- A command arrives (R381): a bad one, and one of an unsupported code, raises CMD_BAD; the one its row names is accepted. -/
def command (code : Nat) (bs : List Byte) (act : State → State) (s : State) : State :=
  if !s.egressAble then s
  else if !commandGood bs s ∨ commandCode bs < 1 ∨ 5 < commandCode bs then raise (Src.EG_CMD_BAD) s
  else if commandCode bs = code then act (s.inc R.EG_COUNTS.COMMANDS)
  else s

/-- The reply to a command (R381). -/
def reply (bs : List Byte) (sync : Nat) (body : State → List Byte) (s : State) : State :=
  let (soc, frac, s) := nowFields s
  egressSend (s.udp (beVal (bs.take 6)) (beVal ((bs.drop 6).take 4)) (beVal ((bs.drop 10).take 2)) (c37Frame sync (s.get O.IDCODE) soc frac (body s))) s

/-- An ARP request, 28 bytes, for the device's own address is answered (R385). -/
def arp (bs : List Byte) (s : State) : State :=
  if s.egressAble ∧ bs.length = 28 ∧ beVal (bs.take 8) = 0x0001080006040001 ∧ beVal (bs.drop 24) = s.get O.SRC_IP then
    let who := (bs.drop 8).take 10
    egressSend (s.ethernet (beVal (who.take 6)) 0x806 (beBytes 8 0x0001080006040002 ++ beBytes 6 (s.get O.MAC) ++ beBytes 4 (s.get O.SRC_IP) ++ who)) s
  else s

/-- The egress link leaves up (R25, R385). -/
def egressDown (s : State) : State :=
  if s.bit R.EG_STAT.LINK_UP then
    raise (Src.EG_LINK_DOWN) ((s.set R.EG_STAT.LINK_UP 0).set R.EG_STAT.AN_DONE 0)
  else s.set R.EG_STAT.AN_DONE 0

/-- The egress link comes up: the lane is held in reset under spread (R25, R385), and idle in Slate (R43). -/
def egressUp (s : State) : State :=
  if s.inState [.boot, .configure, .armed, .run, .safe] ∧ !s.bit R.CLK_STAT.SPREAD_ACT then (s.set R.EG_STAT.LINK_UP 1).set R.EG_STAT.AN_DONE (s.get O.AUTO_NEG) else s

/-! ### Blocks and data frames, R382 to R384 -/

/-- An onset record's T1 falls within the window of a report (R383, R400). -/
def State.onsetIn (s : State) (r : Report) : Bool :=
  s.wf.records.any (fun x => 2 * x.2.1 + s.windowTicks ≥ 2 * r.instant && 2 * x.2.1 ≤ 2 * r.instant + s.windowTicks)

/-- The block of a report as it is sent (R382, R383). -/
def State.blockOf (s : State) (r : Report) : List Byte :=
  let onset := s.onsetIn r
  let stat := if onset then andNot r.stat 0x80F + 2 ^ 11 + 8 else r.stat
  beBytes 2 (stat + 2 ^ 10 * b2n s.cfgRecent) ++ r.body ++ (match r.dig with | some d => beBytes 2 (d + 16 * b2n onset) | none => [])

/-- Set bit 10 of a block's STAT where the Root's CFGCNT has changed (R383). -/
def withCfgBit (b : Bool) (bs : List Byte) : List Byte :=
  let v := beVal (bs.take 2)
  beBytes 2 (if b then setBitAt v 10 true else v) ++ bs.drop 2

/-- The block that stands for one that is missing: data error 0b11 and every value NaN (R384). -/
def missingBlock (time : Nat) (cfg : List Byte) : List Byte :=
  let w := leAt cfg 0 4
  let n := popCount 12 (w / 16) + popCount 4 (w / 2 ^ 16)
  beBytes 2 (3 * 2 ^ 14 + time) ++ (List.range (2 * n + 2)).flatMap (fun _ => beBytes 4 qnan) ++ (if bitAt w 0 then beBytes 2 0 else [])

/-- The data frame of a report (R382, R384), and whether a block is missing. -/
def State.dataFrame (s : State) (r : Report) : List Byte × Bool :=
  let time := r.stat % 2 ^ 10 / 16 * 16 + 2 ^ 13 * b2n (bitAt r.stat 13)
  let own := s.blockOf r
  s.met.built.foldl (fun (a : List Byte × Bool) b =>
    if b.1 = s.pos then (a.1 ++ own, a.2)
    else match s.met.inbox.find? (fun x => x.pos == b.1 && x.soc == r.soc && x.frac == r.frac % 2 ^ 24) with
      | some x => (a.1 ++ withCfgBit s.cfgRecent x.block, a.2)
      | none => (a.1 ++ withCfgBit s.cfgRecent (missingBlock time b.2), true)) ([], false)

/-- The send time of the oldest report (R374, R382, R384): the Root sends the data frame; a Member, whose window is complete now, sends its
block to the Root (log 49). -/
def sendReport (s : State) : State :=
  match s.met.reports with
  | [] => s
  | r :: rest =>
    let s := s.modMet (fun m => { m with reports := rest })
    if !s.isRoot then
      let (s, l) := sendTo 0x44 3 0 (leBytes 1 1 ++ leBytes 4 s.pmuWord ++ leBytes 4 r.soc ++ leBytes 4 (r.frac % 2 ^ 24) ++ s.blockOf r) s
      report l s
    else if s.egressAble ∧ s.bit R.EG_STAT.TX_ON ∧ s.met.built ≠ [] then
      let (blocks, missing) := s.dataFrame r
      let s := s.modMet (fun m => { m with inbox := m.inbox.filter (fun x => x.soc != r.soc || x.frac != r.frac % 2 ^ 24) })
      let s := if missing then raise (Src.MET_BLOCK_MISSING) s else s
      let f := c37Frame 0xAA02 (s.get O.IDCODE) r.soc r.frac blocks
      egressSend (s.udp (s.get O.DST_MAC) (s.get O.DST_IP) (s.get O.PORTS / 65536) f) (s.incWrap R.EG_COUNTS.DATA_FRAMES)
    else s

/-- CFGCNT rises (R384). -/
def bumpCfg (s : State) : State :=
  raise (Src.EG_CFG_CHANGED) ((s.incWrap R.PMU_CFGCNT.CFGCNT).modMet (fun m => { m with cfgAt := some s.ts.tsc }))

/-- A Member's configuration reaches the Root (R384). -/
def peerConfig (p : Nat) (cfg : List Byte) (s : State) : State :=
  let s := s.modMet (fun m => { m with peers := Tab.set [] m.peers p cfg })
  match Tab.find? s.met.built p with
  | some old =>
    if old = cfg ∨ s.pw.state = .configure then s
    else bumpCfg (raise (Src.MET_BLOCK_MISSING) (s.modMet (fun m => { m with built := Tab.drop m.built p })))
  | none => s

/-- A phasor block message (R384, R419): the Root takes it; another device passes it on. -/
def phasorMessage (i : Nat) (b : List Byte) (s : State) : State :=
  if !s.cored then s
  else if !msgGood 0x44 b then dropBad s
  else if !s.isRoot then relay i b s
  else
    let p := msgPayload b
    if leAt p 0 1 = 0 then peerConfig (msgSrc b) (p.drop 1) s
    else s.modMet (fun m => { m with inbox := m.inbox ++ [{ pos := msgSrc b, soc := leAt p 5 4, frac := leAt p 9 4, block := p.drop 13 }] })

/-- The exit from Configure (R384): the Root builds CFG-2, in which it has a block of its own only with PH_EN (DEDUCED, log 49); a Member with PH_EN sends its
configuration. -/
def buildStream (s : State) : State :=
  if !s.isRoot && !s.bit R.PMU_CFG.PH_EN then s
  else
    let (c, s) := blockConfig s
    let own := leBytes 4 s.pmuWord ++ c
    if !s.isRoot then
      let (s, l) := sendTo 0x44 3 0 (leBytes 1 0 ++ own) s
      report l s
    else
      let alike (x : List Byte) : Bool :=
        x != [] && bits (leAt x 0 4) 30 29 == bits s.pmuWord 30 29 && bits (leAt x 0 4) 27 24 == bits s.pmuWord 27 24
      let cfg (p : Nat) : List Byte := if p = s.pos then own else Tab.get [] s.met.peers p
      let want := (bitList 64 (s.get O.BLOCKS)).filter (fun p => p != s.pos || s.bit R.PMU_CFG.PH_EN)
      let s := s.modMet (fun m => { m with built := want.foldl (fun t p => if alike (cfg p) then Tab.set [] t p (cfg p) else t) [], inbox := [] })
      if want.all (fun p => alike (cfg p)) then s else raise (Src.MET_BLOCK_MISSING) s

/-- Entry to Armed: transmission is on where 0x4400:08 asks for it (R385). -/
def armTransmission (s : State) : State := if s.bit O.TX_START then s.set R.EG_STAT.TX_ON 1 else s

/-! ### Commands -/

/-- SD_CONTROL_OUTPUT, R366: `bs` holds the 64 bits sampled since the last output, bit 63 first. -/
def execSdControlOutput (c : Fin 24) (bs : BitVec 64) (s : State) : Host.Outcome State Fault Refusal := .next (controlOutput c bs.toNat s)

/-- PHASOR_PATH_OUTPUT, R369. -/
def execPhasorPathOutput (c : Fin 24) (s : State) : Host.Outcome State Fault Refusal := .next (pathOutput c s)

/-- PHASOR_REPORT, R372: `a` is the signal at the modulators. -/
def execPhasorReport (s : State) (a : Applied := {}) : Host.Outcome State Fault Refusal := .next (reportInstant a s)

/-- DATA_FRAME_SEND, R382. -/
def execDataFrameSend (s : State) : Host.Outcome State Fault Refusal := .next (sendReport s)

/-- PHASOR_BLOCK_RX, R384. -/
def execPhasorBlockRx (i : Fin 4) (bs : List Byte) (s : State) : Host.Outcome State Fault Refusal := .next (phasorMessage i bs s)

/-- CMD_TRANSMISSION_OFF, R381. -/
def execCmdTransmissionOff (bs : List Byte) (s : State) : Host.Outcome State Fault Refusal :=
  .next (command 1 bs (fun s => s.set R.EG_STAT.TX_ON 0) s)

/-- CMD_TRANSMISSION_ON, R381. -/
def execCmdTransmissionOn (bs : List Byte) (s : State) : Host.Outcome State Fault Refusal :=
  .next (command 2 bs (fun s => s.set R.EG_STAT.TX_ON 1) s)

/-- CMD_SEND_HEADER, R381. -/
def execCmdSendHeader (bs : List Byte) (s : State) : Host.Outcome State Fault Refusal :=
  .next (command 3 bs (reply bs 0xAA12 (fun s => headerText s.pos)) s)

/-- CMD_SEND_CFG1, R381. -/
def execCmdSendCfg1 (bs : List Byte) (s : State) : Host.Outcome State Fault Refusal :=
  .next (command 4 bs (reply bs 0xAA22 State.cfgBody) s)

/-- CMD_SEND_CFG2, R381. -/
def execCmdSendCfg2 (bs : List Byte) (s : State) : Host.Outcome State Fault Refusal :=
  .next (command 5 bs (reply bs 0xAA32 State.cfgBody) s)

/-- ARP_REQUEST, R385. -/
def execArpRequest (bs : List Byte) (s : State) : Host.Outcome State Fault Refusal := .next (arp bs s)

/-- EGRESS_LINK_UP, R385. -/
def execEgressLinkUp (s : State) : Host.Outcome State Fault Refusal := .next (egressUp s)

/-- EGRESS_LINK_DOWN, R385. -/
def execEgressLinkDown (s : State) : Host.Outcome State Fault Refusal := .next (egressDown s)

end Sys2Proof.Machine
end

