-- ==== Sys2Proof/Machine/Clocks.lean ====
section
/-!
DEFINITION. Machine/Clocks.lean: Cold hold, the clock monitor, lock losses, the clock multiplexers and spread (04_clocks_plls.md).
-/
namespace Sys2Proof.Machine

def State.modClk (s : State) (f : Clk → Clk) : State := { s with clk := f s.clk }
def State.modCh (s : State) (f : ColdHold → ColdHold) : State := s.modPw (fun p => { p with ch := f p.ch })

/-- Number of a synthesizer: A, C, S, T. -/
def pllNum : Pll → Nat
  | .a => 0 | .c => 1 | .s => 2 | .t => 3

/-- Cold hold with its timer running. -/
def State.inHold (s : State) : Bool := s.pw.state == .coldHold && s.pw.coldHold

/-! ### Cold hold, R105 -/

/-- The first CKREF window after blanking ends (R105 step 3). -/
def windowDone (pass : Bool) (s : State) : State :=
  if s.inHold ∧ s.pw.ch.rcReady ∧ !s.pw.ch.refPassed then
    if pass then s.modCh (fun c => { c with refPassed := true }) else takeReset (latch 4 0 s)
  else s

/-- A PLL relocks in place (R116): C retrains the cell lanes, S the spine; T returns after 1 ms (R118). -/
def relock (p : Pll) (s : State) : State :=
  let s := s.modClk (fun c => { c with attempt := Tab.set 0 c.attempt (pllNum p) 0 })
  match p with
  | .a => s
  | .c => if s.bit R.CLK_STAT.LOCK_C then s else (s.set R.CLK_STAT.LOCK_C 1).each lanes64 bringUp
  | .s => if s.bit R.CLK_STAT.LOCK_S then s else (s.set R.CLK_STAT.LOCK_S 1).each spine4 spineBringUp
  | .t => if s.bit R.CLK_STAT.LOCK_T then s
      else ((s.set R.CLK_STAT.LOCK_T 1).set R.CLK_PHASE_T.PHASE 0).modClk (fun c => { c with tReturn := true })

/-- A PLL declares lock: in Cold hold (R105 steps 4 to 6), with the start of TSC (R125), the qualification time (R99) and the end of Cold hold;
or after a loss. -/
def lockDeclared (p : Pll) (qualUs straps : Nat) (s : State) : State :=
  if s.inHold then
    let c := s.pw.ch
    let able : Bool := match p with | .a => c.pllA | _ => c.refPassed
    if able ∧ !bitAt c.locks (pllNum p) then
      let s := s.modCh (fun c => { c with locks := setBitAt c.locks (pllNum p) true, qualUs := if p = .a then qualUs else c.qualUs })
      let s := if p = .t then s.modTs (fun t => { t with tsc := 0, running := true }) else s
      if s.pw.ch.locks = 15 then enterBoot straps s else s
    else s
  else if s.cored then relock p s
  else s

/-! ### Losses, R102 to R118 -/

/-- A CKREF trip (R101, R102, R105, R106): deferred while blanked, judged by the window before CKREF has passed, and cause 0x03 after that. A
monitor that has failed trips no more (R104). -/
def ckrefTrip (s : State) : State :=
  if s.pw.state = .coldHold then
    if !s.pw.coldHold then s
    else if !s.pw.ch.rcReady then s.modCh (fun c => { c with deferred := true })
    else if !s.pw.ch.refPassed then s
    else latch 3 0 s
  else if s.cored ∧ !s.clk.monIgnored then
    let first := s.pw.cause.isNone
    let s := latch 3 0 (s.set R.CLK_STAT.CKREF_OK 0)
    if first ∧ s.inState [.armed, .run, .safe] then blackLanes s else s
  else s

/-- A PLL loses the lock it has declared in Cold hold: the core clock awaits it again (R105 step 6). -/
def holdLockLost (p : Pll) (s : State) : State := s.modCh (fun c => { c with locks := setBitAt c.locks (pllNum p) false })

/-- PLL-A loses lock (R98, R103, R117), by the LO comparator (`pin`) or by the frequency check: cause 0x05 is latched, the lanes switch to the
safe-state generator, and the core domains are gated until the reset. -/
def pllALost (pin : Bool) (s : State) : State :=
  if s.cored then
    let hi := s.get R.CLK_PLLLK.HI
    let s := (gateCore (latch 5 0 s)).set R.CLK_STAT.LOCK_A 0
    (s.setBit R.CLK_PLLLK.LO pin).set R.CLK_PLLLK.HI (if pin then 0 else hi)
  else if s.inHold then holdLockLost .a s
  else s

/-- The cell lanes stop (R116, R172): electrical idle, without LOST or ABSENT. -/
def stopLanes (s : State) : State := s.each lanes64 (fun n s => (leaveUp n s).set (R.LN_STAT.STATE n) 0)

/-- The CAN clock leaves PLL-C by the forced path (R112): the controller is held in reset, until spread has ramped down where it runs. -/
def leavePllC (s : State) : State :=
  if s.bit R.CLK_MUX_CAN.CURRENT then
    let s := (((s.set R.CLK_MUX_CAN.CURRENT 0).set R.CLK_MUX_CAN.SEL 0).set R.CLK_MUX_CAN.BUSY 0).set R.CLK_STAT.CAN_BUSY 0
    frameLost (s.modClk (fun c => { c with canHeld := s.bit R.CLK_STAT.SPREAD_ACT, ramp := s.bit R.CLK_STAT.SPREAD_ACT }))
  else s

/-- PLL-C loses lock (R112, R116). With a current partner the device releases its cells and becomes standby; alone it enters Safe, by its own action
also where the leaf was set before and makes no report (R434, R439). -/
def pllCLost (s : State) : State :=
  if s.cored ∧ s.bit R.CLK_STAT.LOCK_C then
    let held := s.bit R.CLK_MUX_CAN.CURRENT
    let s := leavePllC ((s.set R.CLK_STAT.LOCK_C 0).inc R.CLK_LOSSCNT.LOSS_C)
    let s := if held ∧ !s.clk.canHeld then canRestart s else s
    if s.dx.current then
      let s := { s with dx := { s.dx with releaseNext := s.ownedMask } }
      let s := if s.dx.decided then s.set R.BAL_STAT.ROLE 2 else s
      stopLanes (raise (Src.CLK_PLLC_LOST_PARTNER) s)
    else
      let s := raise (Src.CLK_PLLC_LOST_ALONE) s
      stopLanes (if s.inState [.armed, .run] ∧ s.acts Src.CLK_PLLC_LOST_ALONE then toSafe s else s)
  else if s.inHold then holdLockLost .c s
  else s

/-- PLL-S loses lock (R116, R418): the spine lanes stop, without LOST. -/
def pllSLost (s : State) : State :=
  if s.cored ∧ s.bit R.CLK_STAT.LOCK_S then
    let t := raise (Src.CLK_PLLS_LOST) ((s.set R.CLK_STAT.LOCK_S 0).inc R.CLK_LOSSCNT.LOSS_S)
    let t := t.each spine4 spineBringUp
    linkDrop 2 s (linkDrop 0 s t)
  else if s.inHold then holdLockLost .s s
  else s

/-- PLL-T loses lock (R96, R118): the timescale counts from the core clock, and pending steps are discarded. -/
def pllTLost (s : State) : State :=
  if s.cored ∧ s.bit R.CLK_STAT.LOCK_T then
    let s := ((s.set R.CLK_STAT.LOCK_T 0).set R.CLK_STAT.TS_FALLBACK 1).inc R.CLK_LOSSCNT.LOSS_T
    raise (Src.CLK_PLLT_LOST) ((s.set R.CLK_PHASE_T.PENDING 0).modClk (fun c => { c with tReturn := false }))
  else if s.inHold then holdLockLost .t s
  else s

/-- A relock attempt of C, S or T (R92, R116): its dividers stop, and its LFSR is loaded from the seed. -/
def relockAttempt (p : Pll) (s : State) : State :=
  let out : Bool := match p with
    | .a => false
    | .c => !s.bit R.CLK_STAT.LOCK_C
    | .s => !s.bit R.CLK_STAT.LOCK_S
    | .t => !s.bit R.CLK_STAT.LOCK_T
  if s.cored ∧ out then loadDither (pllNum p) (s.modClk (fun c => { c with attempt := Tab.set 0 c.attempt (pllNum p) (s.now + 1) })) else s

/-- PLL-T has held lock for 1 ms (R118): the timescale returns to it. -/
def pllTReturn (s : State) : State :=
  if s.clk.tReturn ∧ s.bit R.CLK_STAT.LOCK_T then
    (s.set R.CLK_STAT.TS_FALLBACK 0).modClk (fun c => { c with tReturn := false })
  else s

/-! ### Multiplexers and CKOUT, R107 to R115 -/

/-- The PLL behind a CKOUT source (R113); none for those of PLL-A, CKREF and the RC oscillator. -/
def sourcePll (src : Nat) : Option Nat := if src = 4 then some 1 else if src = 5 then some 2 else if src = 6 then some 3 else none
/-- A clock's dividers are not stopped. -/
def State.runs (s : State) (p : Option Nat) : Bool := match p with | some k => !s.pllStopped k | none => true

/-- Nominal frequency of a CKOUT source, in Hz (R24, R113). -/
def sourceHz (src : Nat) : Rat :=
  match src with
  | 1 => 400000000 | 2 => 200000000 | 3 => 80000000 | 4 => 320000000 | 5 => 12800000000 / 33 | 6 => 1024000000
  | 7 => 20000000 | 8 => 80000000 | 9 => 32000000 | _ => 25000000

/-- The least divisor from `d` on that meets the limit of R114 (`n` steps at most). -/
def leastDiv (hz limit : Rat) : Nat → Nat → Nat
  | 0, d => d
  | n + 1, d => if hz ≤ limit * d then d else leastDiv hz limit n (d + 1)

/-- DIV_EFF (R113, R114): DIV, or the smallest divisor that meets the limit of VIO3. -/
def State.divEff (s : State) : Nat :=
  let d := if s.get R.CLK_CKOUT.DIV = 0 then 4096 else s.get R.CLK_CKOUT.DIV
  leastDiv (sourceHz s.clk.ckCur) (if bitAt s.pw.vio 2 then 50000000 else 100000000) 64 d

def setDiv (s : State) : State := s.set R.CLK_CKOUT.DIV_EFF s.divEff

/-- A write of SEL or SRC (R94, R107, R109). While the CAN multiplexer is busy the controller has no clock, and a frame in progress is lost (R111). -/
def selectMux (m : Mux) (sel : Nat) (s : State) : State :=
  match m with
  | .can =>
    if s.bit R.CLK_STAT.SPREAD_ACT ∧ sel % 2 = 0 then refuse (Src.CLK_SETTING_REFUSED) s
    else
      let s := s.set R.CLK_MUX_CAN.SEL sel
      let cur := s.get R.CLK_MUX_CAN.CURRENT
      let busy := sel % 2 != cur || (s.bit R.CLK_MUX_CAN.BUSY && !s.canRuns cur)
      let s := (s.setBit R.CLK_MUX_CAN.BUSY busy).setBit R.CLK_STAT.CAN_BUSY busy
      if busy then frameLost s else s
  | .ckout =>
    let s := s.set R.CLK_CKOUT.SRC sel
    let busy := sel % 16 != s.clk.ckCur || (s.bit R.CLK_STAT.CKOUT_BUSY && !s.runs (sourcePll s.clk.ckCur))
    s.setBit R.CLK_STAT.CKOUT_BUSY busy

/-- The source in use becomes the one selected. -/
def takeSource (m : Mux) (s : State) : State :=
  match m with
  | .can => ((s.set R.CLK_MUX_CAN.CURRENT (s.get R.CLK_MUX_CAN.SEL)).set R.CLK_MUX_CAN.BUSY 0).set R.CLK_STAT.CAN_BUSY 0
  | .ckout => setDiv ((s.modClk (fun c => { c with ckCur := s.get R.CLK_CKOUT.SRC })).set R.CLK_STAT.CKOUT_BUSY 0)

/-- The switch completes once both clocks run (R107). -/
def switchDone (m : Mux) (s : State) : State :=
  match m with
  | .can =>
    if s.bit R.CLK_MUX_CAN.BUSY ∧ s.canRuns (s.get R.CLK_MUX_CAN.CURRENT) ∧ s.canRuns (s.get R.CLK_MUX_CAN.SEL) then takeSource .can s else s
  | .ckout =>
    if s.bit R.CLK_STAT.CKOUT_BUSY ∧ s.runs (sourcePll s.clk.ckCur) ∧ s.runs (sourcePll (s.get R.CLK_CKOUT.SRC)) then takeSource .ckout s else s

/-- BUSY has stood for 2 µs (R108). -/
def muxHang (m : Mux) (s : State) : State :=
  match m with
  | .can => if s.bit R.CLK_MUX_CAN.BUSY then raise (Src.CLK_MUX_HANG_CAN) (s.inc R.CLK_LOSSCNT.HANGS) else s
  | .ckout => if s.bit R.CLK_STAT.CKOUT_BUSY then raise (Src.CLK_MUX_HANG_CKOUT) (s.inc R.CLK_LOSSCNT.HANGS) else s

/-- A FORCE write (R110): refused while the consumers are not idle. -/
def forceMux (m : Mux) (s : State) : State :=
  let idle := match m with | .can => s.bit R.CLK_MUX_CAN.CONSUMER_IDLE | .ckout => !s.bit R.CLK_CKOUT.EN
  if idle then takeSource m s else raise (Src.CLK_FORCE_REFUSED) s

/-- CONSUMER_IDLE (R110): at 1 the controller is held in reset; when it returns to 0, the controller starts from reset. -/
def consumerIdle (v : Bool) (s : State) : State :=
  let was := s.bit R.CLK_MUX_CAN.CONSUMER_IDLE
  let s := s.setBit R.CLK_MUX_CAN.CONSUMER_IDLE v
  if v then frameLost s else if was then canRestart s else s

/-! ### Spread, R93, R94 -/

/-- A write of CLK_SPREAD (R94): RWC; EN is accepted only under the conditions of R94, Configure among them. A write that clears EN stops
spread. -/
def writeSpread (v : Nat) (s : State) : State :=
  if !s.inState [.configure] then (if bitAt v 3 then refuse (Src.CLK_SETTING_REFUSED) s else s)
  else
    let en := bitAt v 3
    let ok := s.get R.MET_STAT.PH_STATE == 0 && !s.bit R.WF_CTRL.EN && s.bit R.CLK_MUX_CAN.CURRENT && (!bitAt v 2 || v % 4 == 0)
    if en ∧ !ok then refuse (Src.CLK_SETTING_REFUSED) s
    else
      let s := ((s.setBit R.CLK_SPREAD.EN en).set R.CLK_SPREAD.MODE (bits v 2 2)).set R.CLK_SPREAD.DEPTH (v % 4)
      let s := s.setBit R.CLK_STAT.SPREAD_ACT en
      if en then egressDown s else s

/-- After a loss of PLL-C, spread has ramped down (R112): the controller is released. -/
def rampDone (s : State) : State :=
  if s.clk.ramp then
    canRestart (((s.set R.CLK_STAT.SPREAD_ACT 0).set R.CLK_SPREAD.EN 0).modClk (fun c => { c with ramp := false, canHeld := false }))
  else s

/-! ### Commands -/

/-- RC_TRIM_READY, R105 step 3. -/
def execRcTrimReady (s : State) : Host.Outcome State Fault Refusal :=
  .next (if s.inHold then s.modCh (fun c => { c with rcReady := true }) else s)

/-- REFERENCE_WINDOW_DONE, R105 step 3. -/
def execReferenceWindowDone (pass : Bool) (s : State) : Host.Outcome State Fault Refusal := .next (windowDone pass s)

/-- PLL_A_START, R105 step 5. -/
def execPllAStart (s : State) : Host.Outcome State Fault Refusal :=
  .next (if s.inHold then s.modCh (fun c => { c with pllA := true }) else s)

/-- PLL_LOCK_DECLARED, R105: `qualUs` is the qualification time of PLL-A, and `straps` the levels of GPOS6 to GPOS0. -/
def execPllLockDeclared (p : Pll) (qualUs : Nat) (straps : Fin 128) (s : State) : Host.Outcome State Fault Refusal :=
  .next (lockDeclared p qualUs straps.val s)

/-- COLD_HOLD_TIMEOUT, R66. -/
def execColdHoldTimeout (s : State) : Host.Outcome State Fault Refusal :=
  .next (if s.inHold then takeReset (latch 6 0 s) else s)

/-- CKREF_TRIP, R102. -/
def execCkrefTrip (s : State) : Host.Outcome State Fault Refusal := .next (ckrefTrip s)

/-- PLL_A_LOCK_LOST, R117: `pin` where the LO comparator declares it, else the frequency check of R103. -/
def execPllALockLost (s : State) (pin : Bool := false) : Host.Outcome State Fault Refusal := .next (pllALost pin s)

/-- PLL_C_LOCK_LOST, R112, R116. -/
def execPllCLockLost (s : State) : Host.Outcome State Fault Refusal := .next (pllCLost s)

/-- PLL_S_LOCK_LOST, R116. -/
def execPllSLockLost (s : State) : Host.Outcome State Fault Refusal := .next (pllSLost s)

/-- PLL_T_LOCK_LOST, R118. -/
def execPllTLockLost (s : State) : Host.Outcome State Fault Refusal := .next (pllTLost s)

/-- PLL_RELOCK_ATTEMPT, R116. -/
def execPllRelockAttempt (p : Pll) (s : State) : Host.Outcome State Fault Refusal := .next (relockAttempt p s)

/-- PLL_T_RETURN, R118. -/
def execPllTReturn (s : State) : Host.Outcome State Fault Refusal := .next (pllTReturn s)

/-- CLOCK_MONITOR_FAILED, R104. Its own trips, ignored until the next reset, are read as those of CKREF: the lock losses and multiplexer hangs that it
reports still act (DESIGN CHOICE, log 83). -/
def execClockMonitorFailed (s : State) : Host.Outcome State Fault Refusal :=
  .next (if s.cored then raise (Src.CLK_MON_FAILED) (s.modClk (fun c => { c with monIgnored := true })) else s)

/-- MUX_SELECT_WRITE, R107, R109. -/
def execMuxSelectWrite (m : Mux) (sel : Nat) (s : State) : Host.Outcome State Fault Refusal := .next (selectMux m sel s)

/-- MUX_SWITCH_COMPLETE, R107. -/
def execMuxSwitchComplete (m : Mux) (s : State) : Host.Outcome State Fault Refusal := .next (switchDone m s)

/-- MUX_HANG, R108. -/
def execMuxHang (m : Mux) (s : State) : Host.Outcome State Fault Refusal := .next (muxHang m s)

/-- MUX_FORCE, R110. -/
def execMuxForce (m : Mux) (s : State) : Host.Outcome State Fault Refusal := .next (forceMux m s)

/-- CONSUMER_IDLE_WRITE, R110. -/
def execConsumerIdleWrite (v : Bool) (s : State) : Host.Outcome State Fault Refusal := .next (consumerIdle v s)

/-- SPREAD_ENABLE_WRITE, R94. -/
def execSpreadEnableWrite (v : Word) (s : State) : Host.Outcome State Fault Refusal := .next (writeSpread v.toNat s)

/-- SPREAD_RAMP_DONE, R112. -/
def execSpreadRampDone (s : State) : Host.Outcome State Fault Refusal := .next (rampDone s)

end Sys2Proof.Machine
end

