-- ==== Sys2Proof/Machine/Wavefront.lean ====
section
/-!
DEFINITION. Machine/Wavefront.lean: the wavefront unit: alignment, onsets, events, records, location and raw capture (14_fault_location.md).
Instants within a tick are counted in 1/80 tick (R392).
-/
namespace Sys2Proof.Machine

def O.WF_SELECT : Fld := obj 0x4600 0x22 32 .rw 0

def State.modWf (s : State) (f : Wf → Wf) : State := { s with wf := f s.wf }

/-! ### Alignment, R391 -/

/-- The unit runs: EN is 1, VIO4 is 1.8 V, no load is shed, and the device is in Armed, Run or Safe (R41, R389, R465). -/
def State.wfAble (s : State) : Bool := s.bit R.WF_CTRL.EN && s.active && !bitAt s.pw.vio 3 && !s.bit R.TH_STAT.SHEDDING

def State.setEn (s : State) (i : Nat) : Bool := s.bit (if i = 0 then R.WF_CTRL.SET0_EN else R.WF_CTRL.SET1_EN)

/-- The state of the unit once no channel aligns. -/
def wfSettled (s : State) : State :=
  if s.wf.aligning = 0 then s.set R.WF_STAT.STATE (if s.wf.ev.isSome then 3 else 2) else s

/-- An alignment of every enabled channel starts. -/
def wfStart (s : State) : State :=
  if s.wfAble then
    let s := (s.set R.WF_STAT.ALIGNED 0).set R.WF_STAT.STATE 1
    wfSettled (s.modWf (fun w => { w with alignAt := s.ts.tsc, aligning := 7 * b2n (s.setEn 0) + 56 * b2n (s.setEn 1) }))
  else s

/-- A channel is ALIGNED, or has failed by the 112th word. -/
def wfAligned (c : Nat) (ok : Bool) (s : State) : State :=
  if s.get R.WF_STAT.STATE = 1 ∧ bitAt s.wf.aligning c then
    let s := s.modWf (fun w => { w with aligning := setBitAt w.aligning c false })
    let s := if ok then s.set R.WF_STAT.ALIGNED (setBitAt (s.get R.WF_STAT.ALIGNED) c true) else raise (Src.WF_ALIGN_FAIL) s
    wfSettled s
  else s

/-! ### Raw capture, R404 -/

def State.now80 (s : State) : Int := 80 * (s.ts.tsc : Int)

/-- A macro of the capture buffer has found no spare (R505). -/
def State.captureLost (s : State) : Bool := s.sec.map.lost / 2 ^ 32 % 2 ^ 32 != 0

/-- Recording starts; refused while the buffer has a lost macro (R505), and not in a unit that VIO4 keeps disabled (R41). -/
def wfArm (s : State) : State :=
  if s.captureLost then refuse (Src.WF_SETTING_REFUSED) s else
  if bitAt s.pw.vio 3 then s else
  let s := ((s.set R.WF_CAPSTAT.BUSY 1).set R.WF_CAPSTAT.DONE 0).set R.WF_CAPSTAT.COUNT 0
  s.modWf (fun w => { w with capNum := w.capNum + 1, armedAt := s.now80, capTrig := none })

/-- Samples before the event: at most PRE, and no more than were taken since ARM. -/
def State.preSamples (s : State) (t : Int) : Nat := min (s.get R.WF_CAP.PRE) ((t - s.wf.armedAt) / 1024).toNat

/-- The buffer holds `n` samples, the first of them stamped `t`. -/
def wfHold (n : Nat) (t : Int) (s : State) : State :=
  ((s.set R.WF_CAPSTAT.BUSY 0).set R.WF_CAPSTAT.COUNT n).set64 R.WF_CAPTSC_LO R.WF_CAPTSC_HI (t / 80).toNat

/-- STOP keeps what was recorded. -/
def wfStopCapture (s : State) : State :=
  if s.bit R.WF_CAPSTAT.BUSY then
    let taken (t : Int) : Nat := ((s.now80 - t) / 1024).toNat
    match s.wf.capTrig with
    | none => let n := min 65536 (taken s.wf.armedAt); wfHold n (s.now80 - 1024 * n) s
    | some t =>
      let p := s.preSamples t
      wfHold (p + min (65536 - s.get R.WF_CAP.PRE) (taken t)) (t - 1024 * p) s
  else s

/-- The capture is complete. -/
def wfCaptured (s : State) : State :=
  match s.wf.capTrig with
  | some t =>
    if s.bit R.WF_CAPSTAT.BUSY then
      let p := s.preSamples t
      (wfHold (p + 65536 - s.get R.WF_CAP.PRE) (t - 1024 * p) s).set R.WF_CAPSTAT.DONE 1
    else s
  | none => s

/-- SAMPLE of WF_CDATA: the code at INDEX of channel CH, sign-extended (R404, R406). -/
def State.wfSample (s : State) : Nat :=
  ofInt 16 (sext 14 (Config.captured s.wf.capNum (s.get R.WF_CADDR.CH) (s.get R.WF_CADDR.INDEX)).toNat)

/-- The unit is off: its detectors stop and an open event is given up; a capture ends as by STOP (R465). -/
def wfOff (s : State) : State :=
  let s := wfStopCapture s
  ((s.set R.WF_STAT.STATE 0).set R.WF_STAT.ALIGNED 0).modWf (fun w => { w with aligning := 0, disarmed := 0, ev := none })

/-! ### Onsets, R393 to R397 -/

/-- The codes of the three channels of a set, 95 samples from 15 before the crossing. -/
abbrev Codes := List (Int × Int × Int)

/-- A mode of a set at one sample (R393, R394). -/
def State.mode (s : State) (d : Nat) (x : Int × Int × Int) : Rat :=
  let v (i : Nat) (c : Int) : Rat := val32 (round32 (val32 (s.get (R.WF_GAIN (d / 3 * 3 + i))) * mkRat c 8192))
  let a := v 0 x.1
  let b := v 1 x.2.1
  let c := v 2 x.2.2
  match d % 3 with
  | 0 => (a + b + c) / 3
  | 1 => (2 * a - b - c) / 3
  | _ => (b - c) * mkRat 10000000 17320508

/-- y at sample k + j (R395). -/
def State.yAt (s : State) (d : Nat) (w : Codes) (j : Nat) : Rat :=
  s.mode d (w.getD (15 + j) (0, 0, 0)) - s.mode d (w.getD (15 + j - s.get R.WF_CTRL.DIFF) (0, 0, 0))

/-- A code is overrange (R393). -/
def overCode (c : Int) : Bool := c ≥ 8191 || c ≤ -8192
/-- A code that an onset of a detector uses is overrange. -/
def State.overUsed (s : State) (d : Nat) (w : Codes) : Bool :=
  (w.drop (15 - s.get R.WF_CTRL.DIFF)).any (fun x => (d % 3 != 2 && overCode x.1) || overCode x.2.1 || overCode x.2.2)

/-- The gate edges that this device has scheduled, in group time (R395). -/
def planEdges (l : List (Nat × Nat)) : List Nat :=
  (l.map (·.1)).filter (fun t => !l.any (fun x => x.2 == t)) ++ (l.map (·.2)).filter (fun t => !l.any (fun x => x.1 == t))
def State.gateEdges (s : State) : List Nat := s.legs.flatMap (fun g => planEdges g.2.hi ++ planEdges g.2.lo)

/-- Blanking at an instant of group time: 0 none, 1 within 64 ticks after an interval, 2 blanked (R395). -/
def State.blanking (s : State) (t : Int) : Nat :=
  let len : Int := 8 * s.get R.WF_CTRL.BLANK_LEN
  if !s.bit R.WF_CTRL.BLANK_EN then 0
  else if s.gateEdges.any (fun e => decide ((e : Int) - 64 ≤ t ∧ t ≤ e + len)) then 2
  else if s.gateEdges.any (fun e => decide ((e : Int) + len < t ∧ t ≤ e + len + 64)) then 1
  else 0

/-- The onset time in ticks, halves upward, and whether it is interpolated (R396). -/
def onsetTime (t : Int) (y y1 : Rat) (diff : Nat) : Int × Bool :=
  let a := absRat y
  let b := absRat y1
  if a < b then
    let u : Rat := (t : Rat) - 1024 * a / (b - a)
    let v : Rat := (t : Rat) - 1024 * diff
    (((if u < v then v else u) / 80 + mkRat 1 2).floor, true)
  else (((t : Rat) / 80 + mkRat 1 2).floor, false)

/-- A detector may record a crossing (R391, R395). -/
def State.detects (s : State) (d : Nat) : Bool :=
  s.wfAble && s.get R.WF_STAT.STATE ≥ 2 && s.setEn (d / 3) && s.get R.WF_STAT.ALIGNED / 2 ^ (d / 3 * 3) % 8 == 7
    && val32 (s.get (R.WF_THR d)) != 0 && !bitAt s.wf.disarmed d

/-- The conversion instant, without DELAY, of the sample whose word starts at the pins with the WFCK edge at `at80` (R389, R392): LAT periods of 12.8 ticks
earlier, with the tick-clock phase, whose part below 1/80 tick is open; under TS_FALLBACK up to 3 ticks late (R118). -/
def State.sampleAt (s : State) (at80 : Nat) : Int × State :=
  let (p, s) := s.roundOpen (mkRat (5 * s.get R.CLK_PHASE_T.PHASE) 8)
  let (late, s) := if s.bit R.CLK_STAT.TS_FALLBACK then s.drawBelow 241 else (0, s)
  ((at80 : Int) - 1024 * s.get R.WF_CTRL.LAT + (if Config.phaseAdds then (p : Int) else -p) + late, s)

/-- An event starts (R397): `c80` is the conversion instant of its first sample. -/
def openEvent (at80 c80 t : Int) (s : State) : State :=
  let n := (s.wf.num + 1) % 2 ^ 32
  let e : WfEvent := { num := n, at80 := at80, t1 := t, ofs := s.ts.groupOffset, tai := s.ts.taiOffset, tq := s.tq, opsec := s.opsec }
  let s := (s.set R.WF_STAT.EVENT_LO n).set R.WF_STAT.STATE 3
  s.modWf (fun w => { w with num := n, ev := some e, capTrig := if s.bit R.WF_CAPSTAT.BUSY ∧ w.capTrig = none then some c80 else w.capTrig })

/-- Record an onset in the open event: the first 8 of each detector (R397). -/
def addOnset (d : Nat) (at80 : Int) (o : Onset) (e : WfEvent) : WfEvent :=
  let l := Tab.get [] e.onsets d
  { e with t1 := if at80 = e.at80 then min e.t1 o.time else e.t1, onsets := if l.length < 8 then Tab.set [] e.onsets d (l ++ [o]) else e.onsets, counts := Tab.set 0 e.counts d (min 255 (Tab.get 0 e.counts d + 1)) }

/-- The codes of a set that the running unit has sampled hold one that is overrange (R393). -/
def overrange (d : Nat) (w : Codes) (s : State) : State :=
  if s.wfAble ∧ s.get R.WF_STAT.STATE ≥ 2 ∧ s.setEn (d / 3) ∧ w.any (fun x => overCode x.1 || overCode x.2.1 || overCode x.2.2) then raise (Src.WF_OVR) s else s

/-- A crossing of detector `d` at the sample whose word starts at the pins with the edge at `at80` (R393, R395 to R397). -/
def crossing (d at80 : Nat) (w : Codes) (s : State) : State :=
  let s := overrange d w s
  let y := s.yAt d w 0
  let thr := val32 (s.get (R.WF_THR d))
  let delay := 5 * sext 16 (s.get (R.WF_CAL.DELAY (d / 3)))
  let (c80, s) := s.sampleAt at80
  let t : Int := if Config.delayAdds then c80 + delay else c80 - delay
  let bl := s.blanking (t / 80 + s.ts.groupOffset)
  if s.detects d ∧ thr ≤ absRat y ∧ bl ≠ 2 then
    let (time, interp) := onsetTime t y (s.yAt d w 1) (s.get R.WF_CTRL.DIFF)
    let peak := (List.range 80).foldl (fun (m : Rat) j => let a := absRat (s.yAt d w j); if m < a then a else m) 0
    let (amp, s) := s.roundOpen (256 * peak / thr)
    let above := s.overUsed d w
    let o : Onset := { time := time, amp := min 65535 amp, flags := b2n (decide (y < 0)) + 2 * b2n above + 4 * b2n interp + 8 * b2n (bl == 1) }
    let s := if s.wf.ev.isNone then openEvent at80 c80 time s else s
    s.modWf (fun w => { w with ev := w.ev.map (addOnset d at80 o), disarmed := setBitAt w.disarmed d true })
  else s

/-- W, computed at each exit from Configure (R397). -/
def setWindow (s : State) : State :=
  let l := val32 (s.get R.WF_LINE)
  if l = 0 then (s.set R.WF_WINDOW 102400).modWf (fun w => { w with cut := false })
  else
    let us := 2 * l / val32 (s.get R.WF_V1) + 20
    if 4096 < us then (s.set R.WF_WINDOW (4096 * 1024)).modWf (fun w => { w with cut := true })
    else (s.set R.WF_WINDOW (1024 * us).ceil.toNat).modWf (fun w => { w with cut := false })

/-! ### Location and records, R398 to R402 -/

/-- What location gives: x, x_alt and Δt where a reflection was found, x_g where it was formed, and the flags ambiguous, valid and no
reflection. -/
structure Location where
  x : Option (Rat × Rat × Nat) := none
  xg : Option Rat := none
  ambiguous : Bool := false
  valid : Bool := false
  noReflection : Bool := false

/-- Single-ended location of an event (R401, R402). With L = 0 none is computed (R397). -/
def State.locate (s : State) (e : WfEvent) : Location :=
  let l := val32 (s.get R.WF_LINE)
  let v1 := val32 (s.get R.WF_V1)
  let v0 := val32 (s.get R.WF_V0)
  let base := 3 * s.get R.WF_CTRL.LOC_SET
  if l = 0 then {}
  else match Tab.get [] e.onsets (base + 1 + s.get R.WF_CTRL.LOC_MODE) with
    | [] => { noReflection := true }
    | a :: later =>
      let xg := match Tab.get [] e.onsets base with
        | g :: _ => if v1 = v0 then none else some (v0 * v1 * (mkRat (g.time - a.time) 1024) / (v1 - v0))
        | [] => none
      match later.find? (fun o => bitAt o.flags 0 == bitAt a.flags 0) with
      | none => { xg := xg, noReflection := true }
      | some r =>
        let dt := (r.time - a.time).toNat
        let x := v1 * (dt : Rat) / 2048
        match xg with
        | none => { x := some (x, l - x, dt), ambiguous := true }
        | some g =>
          if absRat (g - x) ≤ absRat (g - (l - x)) then { x := some (x, l - x, dt), xg := xg, valid := true }
          else { x := some (l - x, x, dt), xg := xg, valid := true }

/-- An onset entry (R399). -/
def onsetBytes (t1 : Int) (o : Onset) : List Byte := leBytes 4 (ofInt 32 (o.time - t1)) ++ leBytes 2 o.amp ++ leBytes 1 o.flags ++ leBytes 1 0

/-- The flags byte of a record (R398). -/
def State.recordFlags (s : State) (e : WfEvent) (l : Location) : Nat :=
  let above := e.onsets.any (fun d => d.2.any (fun o => bitAt o.flags 1))
  b2n (s.setEn 0) + 2 * b2n (s.setEn 1) + 4 * b2n above + 8 * b2n s.wf.cut + 16 * b2n l.ambiguous + 32 * b2n l.valid + 64 * b2n l.noReflection

/-- A record's 512 bytes (R398, R399). -/
def State.wfRecord (s : State) (e : WfEvent) (flags x xalt xg dt : Nat) : List Byte :=
  let entry (d i : Nat) : List Byte := match (Tab.get [] e.onsets d)[i]? with | some o => onsetBytes e.t1 o | none => leBytes 8 0
  let b := leBytes 4 e.num ++ leBytes 8 (ofInt 64 e.t1) ++ leBytes 8 (ofInt 64 (e.t1 + e.ofs)) ++ leBytes 8 e.tai ++ leBytes 1 e.tq
    ++ leBytes 1 flags ++ leBytes 1 s.pos ++ leBytes 1 0 ++ (List.range 6).flatMap (fun d => leBytes 1 (Tab.get 0 e.counts d)) ++ leBytes 2 0
    ++ leBytes 4 x ++ leBytes 4 xalt ++ leBytes 4 xg ++ leBytes 4 dt ++ leBytes 8 0
    ++ (List.range 48).flatMap (fun j => entry (j / 8) (j % 8)) ++ leBytes 60 0
  b ++ leBytes 4 (crc32 b)

/-- The oldest event that awaits it gets its record (R398, R400). Without a location its figures are open; x_g is then NaN where it was not
formed. -/
def completeRecord (s : State) : State :=
  match s.wf.closed with
  | [] => s
  | e :: rest =>
    let l := s.locate e
    let (d1, s) := s.drawBelow (2 ^ 32)
    let (d2, s) := s.drawBelow (2 ^ 32)
    let (d3, s) := s.drawBelow (2 ^ 32)
    let (x, xalt, dt) := match l.x with | some (x, y, dt) => (round32 x, round32 y, dt) | none => (d1, d2, d3)
    let flags := s.recordFlags e l
    let r := s.wfRecord e flags x xalt (match l.xg with | some g => round32 g | none => qnan) dt
    let full := s.wf.records.length ≥ 16
    let gt := ofInt 64 (e.t1 + e.ofs)
    let s := s.modWf (fun w => { w with closed := rest, records := ((e.num, gt, r) :: w.records).take 16 })
    let s := raiseAll ([Src.WF_EVENT] ++ (if full then [Src.WF_RECORD_LOST] else []) ++ (if l.noReflection then [Src.WF_NO_REFLECTION] else [])
      ++ (if l.ambiguous then [Src.WF_AMBIGUOUS] else [])) s
    let (s, m) := post { s.stamp { typ := 5, cls := s.classOf 11 4 0, plane := 1, observed := true, block := 11, src := 4, payload := leBytes 4 e.num ++ leBytes 4 x ++ leBytes 1 flags } with tsc := ofInt 64 e.t1, tq := e.tq, opsec := e.opsec } s
    report m s

/-- A record is copied into the read buffer (R400). -/
def selectRecordWf (v : Nat) (s : State) : State :=
  match s.wf.records.find? (fun r => r.1 == v) with
  | some r => (s.set O.WF_SELECT v).modWf (fun w => { w with selected := r.2.2 })
  | none => refuse (Src.WF_SETTING_REFUSED) s

/-! ### Commands -/

/-- WF_ALIGN, R391. -/
def execWfAlign (s : State) : Host.Outcome State Fault Refusal := .next (wfStart s)

/-- WF_CHANNEL_ALIGNED, R391. -/
def execWfChannelAligned (c : Fin 6) (ok : Bool) (s : State) : Host.Outcome State Fault Refusal := .next (wfAligned c ok s)

/-- WAVEFRONT_CROSSING, R395: the WFCK edge with which the word of sample k starts at the pins, less the fixed output delay, in 1/80 tick of TSC, and the
codes of the set from sample k − 15 to k + 79. -/
def execWavefrontCrossing (d : Fin 6) (at80 : Nat) (w : List (Int × Int × Int)) (s : State) : Host.Outcome State Fault Refusal :=
  .next (crossing d at80 w s)

/-- DETECTOR_REARM, R395. -/
def execDetectorRearm (d : Fin 6) (s : State) : Host.Outcome State Fault Refusal :=
  .next (s.modWf (fun w => { w with disarmed := setBitAt w.disarmed d false }))

/-- EVENT_WINDOW_CLOSE, R397. -/
def execEventWindowClose (s : State) : Host.Outcome State Fault Refusal :=
  .next (match s.wf.ev with
    | none => s
    | some e =>
      let s := s.modWf (fun w => { w with ev := none, closed := w.closed ++ [e] })
      if s.get R.WF_STAT.STATE = 3 then s.set R.WF_STAT.STATE 2 else s)

/-- EVENT_RECORD_COMPLETE, R398. -/
def execEventRecordComplete (s : State) : Host.Outcome State Fault Refusal := .next (completeRecord s)

/-- WF_RECORD_SELECT, R400. -/
def execWfRecordSelect (v : Nat) (s : State) : Host.Outcome State Fault Refusal := .next (selectRecordWf v s)

/-- WF_CAPTURE_ARM, R404. -/
def execWfCaptureArm (s : State) : Host.Outcome State Fault Refusal := .next (wfArm s)

/-- WF_CAPTURE_STOP, R404. -/
def execWfCaptureStop (s : State) : Host.Outcome State Fault Refusal := .next (wfStopCapture s)

/-- WF_CAPTURE_DONE, R404. -/
def execWfCaptureDone (s : State) : Host.Outcome State Fault Refusal := .next (wfCaptured s)

/-- WF_CDATA_READ, R406: SAMPLE is `State.wfSample`, and INDEX rises, wrapping. -/
def execWfCdataRead (s : State) : Host.Outcome State Fault Refusal := .next (s.incWrap R.WF_CADDR.INDEX)

end Sys2Proof.Machine
end

