-- ==== Sys2Proof/Machine/Modes.lean ====
section
/-!
DEFINITION. Machine/Modes.lean: entries to and exits from the states Configure, Armed, Run and Safe (R6, R14, R447, R448, R531, R532), each
with everything that the chapters attach to it.
-/
namespace Sys2Proof.Machine


def State.goto (s : State) (d : DevState) : State := s.modPw (fun p => { p with state := d })

/-! ### Run conditions, R448, R532 -/

/-- A HELD bit belongs to a record of class Black with OBSERVED = 1. -/
def State.blackHeld (s : State) : Bool :=
  (List.range 16).any (fun n => s.bit (R.FC_STAT.HELD n) && s.get (R.FC_FIRST.CLASS n) == 3 && s.bit (R.FC_FIRST.OBSERVED n))

/-- Run blockers, 0x2001:04 (R539). -/
def State.runBlockers (s : State) : Nat :=
  b2n (!s.dx.decided) + 2 * b2n (!s.isRoot && s.tsState != 6) + 4 * b2n s.blackHeld + 8 * b2n (!s.inState [.armed, .run])

/-! ### The exit from Configure -/

/-- The fields of the word at an address. -/
def fieldsAt (a : Nat) : List Fld :=
  regBlocks.flatMap (fun b =>
    if b.step = 0 then (if a = b.base then b.fields 0 else [])
    else if b.base ≤ a ∧ (a - b.base) % b.step = 0 ∧ (a - b.base) / b.step < b.count then b.fields ((a - b.base) / b.step) else [])

/-- A word of the stored configuration of 0x3400, 0x3600, 0x3800 or 0x4000 to 0x407F (R257, R282, R309, R339, R537): the entries' own words, and the set-point
targets and steps. -/
def digestWord (a : Nat) : Bool :=
  [0x60000, 0x60010, 0x60014, 0x70008, 0x7000C, 0x70010, 0x70014, 0x80000].contains a
    || (0x60100 ≤ a && a < 0x60180 && (a - 0x60100) % 0x10 == 0)
    || (0x80100 ≤ a && a < 0x80200 && (a - 0x80100) % 0x20 ≤ 8)
    || (0x91000 ≤ a && a < 0x95000 && (a - 0x91000) % 0x80 ≤ 0x18)
    || (0x96000 ≤ a && a < 0x98000)

/-- A field of the digest: PREFER stays out, and what may not be written (R305). -/
def inDigest (k : Nat) : Bool := digestWord (k / 32) && k != R.BAL_CTRL.PREFER.key

/-- The digest of R305, over the fields of those objects that differ from their defaults (log 50). -/
def State.configDigest (s : State) : List Byte :=
  leBytes 64 (Config.sha3 ((s.regs.filter (fun e => inDigest e.1)).flatMap (fun e => leBytes 4 e.1 ++ leBytes 4 e.2))).toNat

/-- What happens at each exit from Configure (R177, R305, R324, R384, R397, R429). -/
def exitConfigure (s : State) : State :=
  let s := s.each lanes64 stopTest
  let s := s.each spine4 stopSpineTest
  let s := { s with dx := { s.dx with config := s.configDigest } }
  buildStream (setWindow (checkWcet s))

/-! ### Entries -/

/-- Entry to Configure (R286, R315, R532). -/
def enterConfigure (s : State) : State :=
  let s := dropReady (idleContexts (parkCells (s.goto .configure)))
  wfOff (phasorStart (canSend .bootUp (s.set O.RUN_REQUEST 0)))

/-- Entry to Armed (R298, R370, R385, R391). -/
def enterArmed (s : State) : State :=
  decideRole (wfStart (armTransmission (phasorStart (s.goto .armed))))

/-- From Run to Armed (R286, R532). -/
def runToArmed (s : State) : State := enterArmed (parkCells s)

/-- Entry to Run (R287, R370). -/
def enterRunState (s : State) : State := startStrings (phasorStart (s.goto .run))

/-- Leaving Safe: CLEAR_HOLD follows for each cell in MONITOR (R448). -/
def leaveSafe (s : State) : State :=
  s.each lanes64 (fun n s => if s.monitor n then s.modGate n (fun g => { g with clearHold := true }) else s)

/-- From Safe to Armed, where no observed Black record is held (R448). -/
def safeToArmed (s : State) : State :=
  if s.blackHeld then raise (Src.FC_SAFE_EXIT_REFUSED) s else enterArmed (leaveSafe s)

/-- Steps 2 to 4 of R447 with the entry to Safe from any state (R531). -/
def stopToSafe (s : State) : State :=
  let s := if s.pw.state = .configure then exitConfigure s else s
  let s := toSafe s
  s.each lanes64 (fun n s => requestUrgent n .black s)

end Sys2Proof.Machine
end

