-- ==== Sys2Proof/Machine/Collector.lean ====
section
/-!
DEFINITION. Machine/Collector.lean: the commands of the fault collector (16_fault_collector.md): reports from outside, windows, held records,
nFAULT, injection and automatic recovery. What a report does stands in Machine/Ops.lean.
-/
namespace Sys2Proof.Machine

/-- The number of instances of a source that has a leaf for each (R435). -/
def instCount (b i : Nat) : Nat :=
  if b = 1 ∧ i ≤ 5 ∨ b = 2 ∨ b = 7 ∧ i ≤ 10 ∨ b = 8 ∧ (i = 10 ∨ i = 11) then 64
  else if b = 3 ∧ 8 ≤ i then 4
  else if b = 6 ∧ 7 ≤ i ∨ b = 8 ∧ 6 ≤ i ∧ i ≤ 9 then 8
  else 128

/-- The leaf of a report; none for an instance that the block does not have. -/
def leafFor (r : ReportArg) : Option Fld := if r.inst < instCount r.block r.src then leafOf ⟨r.block, r.src, r.inst⟩ else none

/-- An injected report sets its leaf (R450). -/
def forceLeaf (f : Fld) (s : State) : State :=
  if s.bit f then s else (s.set f 1).modCyc (fun c => { c with forced := f.key :: c.forced })

/-- A report reaches the collector (R434): an injected one whatever its leaf holds, another where its leaf was clear. -/
def faultReport (r : ReportArg) (s : State) : State :=
  match leafFor r with
  | none => s
  | some f =>
    if !s.cored ∨ (!r.observed ∧ !r.injected) then s
    else if r.injected then report [r] (forceLeaf f s)
    else
      let (s, l) := setLeaf f r s
      report l s

/-- A window ends (R443). -/
def closeWindow (w : Nat) (s : State) : State :=
  if s.winOpen w ∧ Tab.get 0 s.fc.winEnd w ≤ s.ts.tsc then
    let n := s.get (R.FC_WIN.CONSEQ w)
    let s := s.set (R.FC_WIN.OPEN w) 0
    if n = 0 then s
    else
      let c := s.get (R.FC_WIN.CLASS w)
      let b := s.get (R.FC_WIN.FIRST_BLOCK w) + 1
      postRec { typ := 2, cls := c, plane := planeOf 14 0, observed := true, block := 14, inst := w, payload := leBytes 1 w ++ leBytes 1 c ++ leBytes 1 b ++ leBytes 2 n } s
  else s

/-- A write of FC_STAT: each written 1 releases a record (R440). -/
def writeHeld (v : Nat) (s : State) : State := s.each (bitList 16 v) (fun n s => releaseHeld (n + 1) s)

/-- A write of FC_LOST: each written 1 clears the bit and its LOSTCNT (R441), but for a bit that a report of this core cycle has set (R13). -/
def writeLost (v : Nat) (s : State) : State :=
  s.each (bitList 16 v) (fun n s =>
    if s.cyc.sets.contains (R.FC_LOST.LOST n).key then s else (s.set (R.FC_LOST.LOST n) 0).set (R.FC_LOSTCNT (n + 1)) 0)

/-- A write of DRIVE (R449); a Black report of the same core cycle wins over a release. -/
def writeDrive (v : Bool) (s : State) : State :=
  if v then (s.set R.FC_NFAULT.DRIVE 1).set R.FC_NFAULT.PENDING_REL 0
  else if s.cyc.black then s
  else if s.bit R.FC_NFAULT.PULSE then s.set R.FC_NFAULT.PENDING_REL 1
  else s.set R.FC_NFAULT.DRIVE 0

/-- The nFAULT pulse ends (R449). -/
def endPulse (s : State) : State :=
  if s.bit R.FC_NFAULT.PULSE then
    let s := s.set R.FC_NFAULT.PULSE 0
    if s.bit R.FC_NFAULT.PENDING_REL then (s.set R.FC_NFAULT.PENDING_REL 0).set R.FC_NFAULT.DRIVE 0 else s
  else s

/-- GO in FC_FORCE (R450): an injected-only report. -/
def forceReport (v : Nat) (s : State) : State :=
  let r : ReportArg := ⟨bits v 26 23 + 1, bits v 22 19, bits v 18 12, false, true⟩
  if !s.cored then s
  else if s.inState [.slate] ∨ (leafOf ⟨r.block, r.src, 0⟩).isNone then refuse (Src.FC_SETTING_REFUSED) s
  else report [r] (match leafFor r with | some f => forceLeaf f s | none => s)

/-- A write of FC_CBI (R451, R457): MEM and MASK are taken; ARM arms the injection. -/
def writeCbi (v : Nat) (s : State) : State :=
  let mem := bits v 28 26
  let n := popCount 7 v
  if 4 < mem ∨ (bitAt v 31 ∧ n ≠ 1 ∧ n ≠ 2) then refuse (Src.FC_SETTING_REFUSED) s
  else
    let s := (s.set R.FC_CBI.MEM mem).set R.FC_CBI.MASK (v % 128)
    if bitAt v 31 then
      ((s.set R.FC_CBI.ARMED 1).set R.FC_CBI.DONE 0).modFc (fun f => { f with cbiStored := decide (mem = 4) && s.bit R.WF_CAPSTAT.BUSY })
    else s

/-- A read finds an error (R451): in the word under injection the report is injected, and observed too where the syndrome is not that of MASK
alone; in any other word it is observed. -/
def eccError (m addr : Nat) (uncorr : Bool) (syn : Nat) (s : State) : State :=
  if !s.cored then s
  else if s.bit R.FC_CBI.ARMED ∧ s.fc.cbiStored ∧ s.get R.FC_CBI.MEM = m ∧ s.get R.FC_CBI_ADDR = addr then
    let mask := s.get R.FC_CBI.MASK
    let real := decide (syn ≠ mask)
    let s := (s.set R.FC_CBI.ARMED 0).modFc (fun f => { f with cbiStored := false })
    let s := if real then s else s.set R.FC_CBI.DONE 1
    faultReport ⟨14, if popCount 7 mask = 2 then 5 else 4, m, real, true⟩ s
  else faultReport ⟨14, if uncorr then 5 else 4, m, true, false⟩ s

/-- No read has reached the injected word within 1 s (R451). -/
def missInjection (s : State) : State :=
  if s.bit R.FC_CBI.ARMED ∧ s.fc.cbiStored then
    raise (Src.FC_INJ_MISS) ((s.set R.FC_CBI.ARMED 0).modFc (fun f => { f with cbiStored := false }))
  else s

/-! ### Automatic recovery, R453, R454 -/

/-- A held record may recover now. -/
def State.recovers (s : State) (b : Nat) : Bool :=
  let c := s.get (R.FC_FIRST.CLASS (b - 1))
  s.bit (R.FC_STAT.HELD (b - 1)) && c ≥ 1 && bitAt (s.get R.FC_RECOV.AUTO_EN) (c - 1) && !bitAt (s.get R.FC_RCNT.LATCH) (c - 1)
    && s.bit (R.FC_FIRST.OBSERVED (b - 1))
    && Tab.get 0 s.fc.lastReport b + s.get R.FC_RECOV.QUIET * 1024000 ≤ s.ts.tsc

/-- The step of a Crimson record. -/
def recoverCrimson (b : Nat) (s : State) : State :=
  let r := s.heldSrc b
  if b = 7 ∧ r.src ≤ 10 ∨ b = 8 ∧ (r.src = 10 ∨ r.src = 11) then
    if s.clearable r.inst then clearCell r.inst (s.modFc (fun f => { f with cells := f.cells ++ [(b, r.inst)] }))
    else restartQuiet b (clearCell r.inst s)
  else if b = 9 ∧ 4 ≤ r.src then
    let ok := s.ctxState r.inst == 3 && !bitAt s.eng.tileErr (r.inst / 4)
    let s := restart r.inst s
    if ok then countRecovery 2 (clearRecord b s) else restartQuiet b s
  else if b = 6 ∧ r.src = 8 then
    if s.bit (R.TRIP_STAT.TRIPACT r.inst) then restartQuiet b (tripClr r.inst s)
    else tripClr r.inst (s.modFc (fun f => { f with trips := f.trips ++ [r.inst] }))
  else countRecovery 2 (clearRecord b s)

/-- The step of a Black record: every held Black record and its leaf, Safe to Armed, and DRIVE. -/
def recoverBlack (s : State) : State :=
  let s := s.each (List.range 16) (fun n s =>
    if s.bit (R.FC_STAT.HELD n) ∧ s.get (R.FC_FIRST.CLASS n) = 3 then clearRecord (n + 1) s else s)
  let s := countRecovery 3 s
  writeDrive false (if s.pw.state = .safe then safeToArmed s else s)

/-- A held record recovers after QUIET ms without reports. -/
def recover (b : Nat) (s : State) : State :=
  if s.recovers b then
    match s.get (R.FC_FIRST.CLASS (b - 1)) with
    | 1 => countRecovery 1 (clearRecord b s)
    | 2 => recoverCrimson b s
    | _ => recoverBlack s
  else s

/-- UNLATCH (R454). -/
def unlatch (s : State) : State := (s.set R.FC_RCNT.LATCH 0).modFc (fun f => { f with recovered := [] })

/-- VALID of FC_GRP_INFO is written with 1 (R445); a cause of the same core cycle stays (R13). -/
def clearGroupFirst (s : State) : State :=
  if s.cyc.sets.contains R.FC_GRP_INFO.VALID.key then s else
  let s := (((s.set R.FC_GRP_INFO.VALID 0).set R.FC_GRP_INFO.LOCAL 0).set R.FC_GRP_INFO.ORIGIN 0).set R.FC_GRP_INFO.SOURCE 0
  s.set64 R.FC_GRP_T_LO R.FC_GRP_T_HI 0

/-! ### Commands -/

/-- FAULT_REPORT, R434. -/
def execFaultReport (r : ReportArg) (s : State) : Host.Outcome State Fault Refusal := .next (faultReport r s)

/-- COALESCING_WINDOW_CLOSE, R443. -/
def execCoalescingWindowClose (w : Fin 9) (s : State) : Host.Outcome State Fault Refusal := .next (closeWindow w s)

/-- HELD_CLEAR, R440. -/
def execHeldClear (v : Nat) (s : State) : Host.Outcome State Fault Refusal := .next (writeHeld v s)

/-- LOST_CLEAR, R441. -/
def execLostClear (v : Nat) (s : State) : Host.Outcome State Fault Refusal := .next (writeLost v s)

/-- NFAULT_PULSE_END, R449. -/
def execNfaultPulseEnd (s : State) : Host.Outcome State Fault Refusal := .next (endPulse s)

/-- NFAULT_DRIVE_WRITE, R449. -/
def execNfaultDriveWrite (v : Bool) (s : State) : Host.Outcome State Fault Refusal := .next (writeDrive v s)

/-- FORCE_REPORT, R450: the word that is written. -/
def execForceReport (v : Word) (s : State) : Host.Outcome State Fault Refusal := .next (forceReport v.toNat s)

/-- CHECK_BIT_INJECTION_ARM, R451: the word that is written. -/
def execCheckBitInjectionArm (v : Word) (s : State) : Host.Outcome State Fault Refusal := .next (writeCbi v.toNat s)

/-- ECC_ERROR, R451: the memory code, the word, whether it is uncorrectable, and the check bits that differ. -/
def execEccError (m : Fin 5) (addr : Nat) (uncorr : Bool) (syn : BitVec 7) (s : State) : Host.Outcome State Fault Refusal :=
  .next (eccError m addr uncorr syn.toNat s)

/-- INJECTION_MISS, R451. -/
def execInjectionMiss (s : State) : Host.Outcome State Fault Refusal := .next (missInjection s)

/-- AUTOMATIC_RECOVERY, R453: block `b` + 1. -/
def execAutomaticRecovery (b : Fin 16) (s : State) : Host.Outcome State Fault Refusal := .next (recover (b.val + 1) s)

/-- RECOVERY_UNLATCH, R454. -/
def execRecoveryUnlatch (s : State) : Host.Outcome State Fault Refusal := .next (unlatch s)

/-- GROUP_FIRST_CAUSE_CLEAR, R445. -/
def execGroupFirstCauseClear (s : State) : Host.Outcome State Fault Refusal := .next (clearGroupFirst s)

end Sys2Proof.Machine
end

