-- ==== Sys2Proof/Machine/Thermal.lean ====
section
/-!
DEFINITION. Machine/Thermal.lean: the thermal monitor (17_thermal.md). Readings are in 1/16 °C.
-/
namespace Sys2Proof.Machine

def State.modTh (s : State) (f : Therm → Therm) : State := { s with th := f s.th }

/-! ### Sensors, R460 to R462 -/

def sensors12 : List Nat := List.range 12
def State.sensorFailed (s : State) (i : Nat) : Bool := s.bit (R.TH_SENS.FAILED i)
def State.goodSensors (s : State) : List Nat := sensors12.filter (fun i => !s.sensorFailed i)

/-- Place a number in a rising list. -/
def placeInt (x : Int) : List Int → List Int
  | [] => [x]
  | y :: ys => if x ≤ y then x :: y :: ys else y :: placeInt x ys

/-- Twice the median of a list: the two middle numbers are averaged where its length is even. -/
def median2 (l : List Int) : Option Int :=
  let l := l.foldr placeInt []
  match l[(l.length - 1) / 2]?, l[l.length / 2]? with
  | some a, some b => some (a + b)
  | _, _ => none

/-- A reading within −60 °C to +150 °C. -/
def plausible : Option Int → Bool
  | some r => decide (-960 ≤ r ∧ r ≤ 2400)
  | none => false

/-- The sensor in use for compensation: the one selected, or the lowest good one (R462). -/
def State.compSensor (s : State) : Option Nat :=
  let c := s.get O.COMP_SENSOR
  if !s.sensorFailed c then some c else s.goodSensors.head?

/-- One sample's sensor failures (R462): the good sensors that fail are marked and reported, and compensation moves to another sensor. -/
def sensorCheck (rd : Nat → Option Int) (s : State) : State :=
  let sound := s.goodSensors.filter (fun i => plausible (rd i))
  let far (i : Nat) : Bool :=
    match rd i, median2 ((sound.filter (fun j => j != i)).filterMap rd) with
    | some r, some m => decide (480 < (2 * r - m).natAbs)
    | _, _ => false
  let count (i : Nat) : Nat := if sound.contains i ∧ far i then min 4 (Tab.get 0 s.th.off i + 1) else 0
  let bad := s.goodSensors.filter (fun i => !sound.contains i || count i == 4)
  let was := s.goodSensors.length
  let comp := s.compSensor
  let s := s.modTh (fun t => { t with off := sensors12.foldl (fun o i => Tab.set 0 o i (count i)) [] })
  let s := s.each bad (fun i s =>
    (s.set (R.TH_SENS.FAILED i) 1).set R.TH_STAT.FAILED (setBitAt (s.get R.TH_STAT.FAILED) i true))
  let s := if s.compSensor = comp then s else newSensor s
  let lost := decide (4 ≤ was ∧ s.goodSensors.length < 4)
  raiseAll (bad.map (fun i => Src.TH_SENSOR_FAIL i) ++ (if lost then [Src.TH_SENSORS_LOST] else [])) s

/-! ### Limits, R463 to R465 -/

/-- The three limits in 1/16 °C: WARN, THROT, SHUT. -/
def State.limit (s : State) (k : Nat) : Int :=
  16 * (if k = 0 then s.get R.TH_LIMITS.WARN else if k = 1 then s.get R.TH_LIMITS.THROT else s.get R.TH_LIMITS.SHUT)
def State.limitAct (s : State) (k : Nat) : Bool :=
  if k = 0 then s.bit R.TH_STAT.WARN_ACT else if k = 1 then s.bit R.TH_STAT.THROT_ACT else s.th.shut
def setLimit (k : Nat) (v : Bool) (s : State) : State :=
  if k = 0 then s.setBit R.TH_STAT.WARN_ACT v else if k = 1 then s.setBit R.TH_STAT.THROT_ACT v else s.modTh (fun t => { t with shut := v })

/-- A good sensor's reading meets a test. -/
def State.anyGood (s : State) (rd : Nat → Option Int) (p : Int → Bool) : Bool :=
  s.goodSensors.any (fun i => match rd i with | some r => p r | none => false)

/-- One limit in one sample (R463): the condition as it stands after the sample, and the cause of an entry. -/
def limitCheck (rd prev : Nat → Option Int) (k : Nat) (s : State) : State :=
  let lim := s.limit k
  let hot (f : Nat → Option Int) (i : Nat) : Bool := match f i with | some r => decide (lim ≤ r) | none => false
  if s.limitAct k then
    if s.anyGood rd (fun r => decide (lim - 8 * s.get R.TH_CTRL.HYST ≤ r)) then s else setLimit k false s
  else
    match s.goodSensors.find? (fun i => hot rd i && hot prev i) with
    | none => s
    | some i =>
      let s := setLimit k true s
      if k = 0 then raise (Src.TH_WARN i) s
      else if k = 1 then raise (Src.TH_THROTTLE i) s
      else raise (Src.TH_SHUTDOWN i) (s.modTh (fun t => { t with shutting := true }))

/-- SHEDDING follows the THROT condition (R465): the wavefront unit stops, and aligns anew afterwards. -/
def shed (s : State) : State :=
  let want := s.bit R.TH_STAT.THROT_ACT && s.bit R.TH_CTRL.SHED
  if want == s.bit R.TH_STAT.SHEDDING then s
  else if want then
    let s := s.each lanes64 (fun n s => s.set (R.LN_TEST.PRBS_LOCK n) 0)
    let s := s.each spine4 (fun i s => s.set (R.SL_TEST.PRBS_LOCK i) 0)
    wfOff (s.set R.TH_STAT.SHEDDING 1)
  else wfStart (s.set R.TH_STAT.SHEDDING 0)

/-! ### Rates, R461 and R466 -/

/-- The rate check of a sample (R466): `old` is the reading 1 ms earlier, none while 1 ms of samples is not held; the check then waits, and
RATE_ACT stands (log 100). -/
def rateCheck (rd : Nat → Option Int) (old : Option (List (Option Int))) (s : State) : State :=
  let lim : Int := 8 * s.get R.TH_CTRL.RATE
  let isOver (i : Nat) : Bool :=
    match rd i, (old.getD [])[i]? with
    | some r, some (some o) => decide (lim < r - o) && lim != 0
    | _, _ => false
  match s.goodSensors.find? isOver with
  | some i =>
    let s := s.modTh (fun t => { t with rateCalm := 0 })
    if s.bit R.TH_STAT.RATE_ACT then s else raise (Src.TH_RATE i) (s.set R.TH_STAT.RATE_ACT 1)
  | none =>
    if old.isNone then s
    else
    let n := s.th.rateCalm + (if s.bit R.TH_STAT.FAST then 1 else 16)
    let s := s.modTh (fun t => { t with rateCalm := min 16 n })
    if 16 ≤ n then s.set R.TH_STAT.RATE_ACT 0 else s

/-- The sampling rate after a sample (R461): a change keeps only this sample for the rate check. -/
def nextRate (now : List (Option Int)) (rd : Nat → Option Int) (s : State) : State :=
  let low := min (s.limit 0) (min (s.limit 1) (s.limit 2))
  let near := s.bit R.TH_STAT.RATE_ACT || s.anyGood rd (fun r => decide (low - 80 < r))
  let fast := s.bit R.TH_STAT.FAST
  let calm := if near then 0 else s.th.calm + 1
  let next := near || (fast && calm < 16)
  let hist := if next == fast then (now :: s.th.hist).take 17 else [now]
  (s.setBit R.TH_STAT.FAST next).modTh (fun t => { t with hist := hist, calm := min 16 calm })

/-! ### The sample -/

/-- The peak and the extremes of the period (R471, R478). -/
def peaks (rd : Nat → Option Int) (s : State) : State :=
  let s := s.each s.goodSensors (fun i s =>
    match rd i with
    | some r =>
      if s.get R.TH_PEAK.PEAK = 0x8000 ∨ sext 16 (s.get R.TH_PEAK.PEAK) < r then (s.set R.TH_PEAK.PEAK (ofInt 16 r)).set R.TH_PEAK.SENSOR i else s
    | none => s)
  let ext (f : Int → Int → Int) (t : Tab (Option Int)) : Tab (Option Int) :=
    sensors12.foldl (fun t i => match rd i with
      | some r => Tab.set none t i (some (match Tab.get none t i with | some o => f o r | none => r))
      | none => t) t
  { s with recd := { s.recd with dieLow := ext min s.recd.dieLow, dieHigh := ext max s.recd.dieHigh } }

/-- What the compensations take of a sample (R138, R469). -/
def compensate (rd : Nat → Option Int) (s : State) : State :=
  let s := match s.compSensor.bind rd with
    | some r => s.modTs (fun t => { t with tSum := t.tSum + r, tN := t.tN + 1 })
    | none => s
  match rd 0 with
  | some r =>
    let moved : Bool := match s.th.trimAt with | some o => decide (32 ≤ (r - o).natAbs) | none => true
    if !s.sensorFailed 0 && moved then s.modTh (fun t => { t with trimAt := some r }) else s
  | none => s

/-- A sample of all twelve sensors (R461 to R468). -/
def thermalSample (l : List (Option Int)) (s : State) : State :=
  if !s.cored then s
  else
    let rd (i : Nat) : Option Int := (l[i]?).getD none
    let now := sensors12.map rd
    let prev (i : Nat) : Option Int := ((s.th.hist.headD [])[i]?).getD none
    let old := if s.bit R.TH_STAT.FAST then s.th.hist[15]? else s.th.hist.head?
    let first := !s.th.sampled
    let s := s.modTh (fun t => { t with sampled := true })
    let s := s.each sensors12 (fun i s => match rd i with | some r => s.set (R.TH_SENS.TEMP i) (ofInt 16 r) | none => s)
    let s := compensate rd (peaks rd (sensorCheck rd s))
    if first && s.pw.state == .boot && s.anyGood rd (fun r => decide (s.limit 2 - 160 ≤ r)) then requestReset 7 s
    else
      let s := limitCheck rd prev 2 (limitCheck rd prev 1 (limitCheck rd prev 0 s))
      nextRate now rd (rateCheck rd old (shed s))

/-! ### Commands -/

/-- THERMAL_SAMPLE, R461: the readings of sensors 0 to 11 in 1/16 °C, none where a conversion does not complete. -/
def execThermalSample (l : List (Option Int)) (s : State) : Host.Outcome State Fault Refusal := .next (thermalSample l s)

/-- The end of the shutdown sequence (R467 steps 2 to 4): PWREN drops and the saves are made even where R62 keeps another cause. -/
def shutdownEnds (s : State) : State :=
  let s := latch 7 0 s
  let saved : Bool := match s.pw.cause with | some c => [7, 0xB, 0xC, 0xD].contains c.code | none => true
  let s := if saved then s else saveBefore 7 s
  takeReset (s.modPw (fun p => { p with pgoodLoss := true }))

/-- SHUTDOWN_PWREN_DROP, R467 step 4. -/
def execShutdownPwrenDrop (s : State) : Host.Outcome State Fault Refusal :=
  .next (if s.th.shutting then shutdownEnds s else s)

/-- PEAK_CLEAR, R471. -/
def execPeakClear (s : State) : Host.Outcome State Fault Refusal :=
  .next ((s.set R.TH_PEAK.PEAK 0x8000).set R.TH_PEAK.SENSOR 0)

end Sys2Proof.Machine
end

