-- ==== Sys2Proof/Machine/Security.lean ====
section
/-!
DEFINITION. Machine/Security.lean: self-test and repair, the firmware banks, signed tokens, the counters, attestation and debug
(19_security_repair.md), and the instructions of the test port.
-/
namespace Sys2Proof.Machine

def State.setStage (s : State) (n : Nat) : State := s.modPw (fun p => { p with stage := n })
/-- A refused write of subsystem 16 (R524). -/
def refuseSec (s : State) : State := refuse (Src.SEC_SETTING_REFUSED) s

/-! ### Self-test, R501 -/

/-- Self-test has ended with its findings; stage 0x3 follows. -/
def bistDone (f : BistFindings) (s : State) : State :=
  if s.pw.state = .boot ∧ s.pw.stage = 2 then
    (s.modSec (fun x => { x with found := some f, badSpine := f.spine.toNat })).setStage 3
  else s

/-! ### The repair map, R502 to R505 -/

/-- The lowest spare that a faulty line of a macro can take is free: 4 rows and 2 columns serve a macro (R502). -/
def spareFree (n m : Nat) (l : List (Nat × Nat)) : Bool := (l.filter (fun e => e.1 == m)).length < n

/-- A line of a macro takes a spare; one that has a spare keeps it; without a free spare the macro is lost. -/
def takeRow (m r : Nat) (p : RepairMap) : RepairMap :=
  if p.rows.contains (m, r) then p
  else if spareFree 4 m p.rows then { p with rows := p.rows ++ [(m, r)] }
  else { p with lost := Nat.lor p.lost (2 ^ m) }
def takeCol (m c : Nat) (p : RepairMap) : RepairMap :=
  if p.cols.contains (m, c) then p
  else if spareFree 2 m p.cols then { p with cols := p.cols ++ [(m, c)] }
  else { p with lost := Nat.lor p.lost (2 ^ m) }

/-- A macro fault (R503): one that lies in no single row or column finds no spare. -/
def addFault (f : MacroFault) (p : RepairMap) : RepairMap :=
  if f.macroNo ≥ 100 then p
  else
    match f.row, f.col with
    | none, none => { p with lost := Nat.lor p.lost (2 ^ f.macroNo) }
    | some r, none => takeRow f.macroNo r p
    | none, some c => takeCol f.macroNo c p
    | some r, some c => takeCol f.macroNo c (takeRow f.macroNo r p)

/-- The union of a map with findings and marks (R503). -/
def merge (f : BistFindings) (marks : Nat) (p : RepairMap) : RepairMap :=
  f.macros.foldl (fun p m => addFault m p) { p with tiles := Nat.lor (Nat.lor p.tiles f.tiles.toNat) marks, pads := Nat.lor p.pads f.pads.toNat, spares := Nat.lor p.spares f.spares.toNat }

/-- The copy in use (R504): the valid one with the higher SEQ; true for B. -/
def Mram.mapCopy (m : Mram) : Option Bool :=
  match m.mapA.mark, m.mapB.mark with
  | false, false => none
  | true, false => some false
  | false, true => some true
  | true, true => some (later m.mapB.seq m.mapA.seq)

def Mram.copyOf (m : Mram) (b : Bool) : MapCopy := if b then m.mapB else m.mapA

/-- The stored map; empty where neither copy is valid. -/
def Mram.storedMap (m : Mram) : RepairMap := match m.mapCopy with | some b => (m.copyOf b).map | none => {}

/-- A new map is written to the older copy, its MARK last (R504). -/
def Mram.writeMap (m : Mram) (p : RepairMap) : Mram :=
  match m.mapCopy with
  | some false => { m with mapB := { mark := true, seq := (m.mapA.seq + 1) % 2 ^ 32, map := p } }
  | some true => { m with mapA := { mark := true, seq := (m.mapB.seq + 1) % 2 ^ 32, map := p } }
  | none => { m with mapA := { mark := true, seq := 1, map := p } }

/-- The faulty pad pairs of a quad, and whether its spare is good. -/
def RepairMap.badPads (p : RepairMap) (q : Nat) : List Nat := (List.range 4).filter (fun i => bitAt p.pads (4 * q + i))
def RepairMap.spareGood (p : RepairMap) (q : Nat) : Bool := !bitAt p.spares q

/-- The serializers of a quad (R173): the lowest faulty pad pair takes the spare, and lanes on the others stay disabled. -/
def repairQuad (q : Nat) (s : State) : State :=
  let bad := s.sec.map.badPads q
  match bad with
  | [] => s
  | p :: rest =>
    let used := s.sec.map.spareGood q
    let dead := if used then rest else bad
    let s := if used then
        let s := (s.set (R.QUAD_CFG.SPARE_SEL q) (p + 1)).set (R.QUAD_CFG.SPARE_LOCK q) 1
        s.each (s.padLanes q (p + 1)) (fun n s => s.set (R.LN_STAT.ON_SPARE n) 1)
      else s
    let s := s.modSec (fun x => { x with deadLanes := dead.foldl (fun m i => Nat.lor m (2 ^ (4 * q + i))) x.deadLanes })
    if dead = [] then s else raise (Src.LA_SPARE_EXHAUSTED q) s

def quads16 : List Nat := List.range 16

/-- A lost macro 80 + q disables the lanes of quad q, and macro 96 + i spine lane i (R505). -/
def disableLost (s : State) : State :=
  let l := s.sec.map.lost
  s.modSec (fun x => { x with deadLanes := quads16.foldl (fun m q => if bitAt l (80 + q) then Nat.lor m (15 * 2 ^ (4 * q)) else m) x.deadLanes, deadSpine := l / 2 ^ 96 % 16 })

/-- SEC_REPAIR (R524). -/
def repairSummary (s : State) : State :=
  let p := s.sec.map
  let s := (s.set R.SEC_REPAIR.TILES_BAD (popCount 36 p.tiles)).set R.SEC_REPAIR.SPARES_USED (quads16.filter (fun q => s.get (R.QUAD_CFG.SPARE_SEL q) != 0)).length
  let s := (s.set R.SEC_REPAIR.ROWS_USED p.rows.length).set R.SEC_REPAIR.COLS_USED p.cols.length
  s.setBit R.SEC_REPAIR.MAP_COPY (s.mram.mapCopy == some true)

/-- Stage 0x3: the map is merged, written back where it has changed, and applied (R503 to R505, R310, R173). -/
def applyRepair (s : State) : State :=
  match s.pw.state, s.sec.found with
  | .boot, some f =>
    if s.pw.stage ≠ 3 then s
    else
      let torn := !s.mram.mapA.mark || !s.mram.mapB.mark
      let p := merge f s.mram.badTiles s.mram.storedMap
      let s := s.modMram (fun m =>
        { (if m.mapCopy.isNone || p != m.storedMap then m.writeMap p else m) with badTiles := 0 })
      let s := (s.modSec (fun x => { x with map := p, found := none })).modEng (fun e => { e with badUsed := p.tiles })
      let s := if torn then raise (Src.SEC_MAP_TORN) s else s
      let s := disableLost (s.each quads16 repairQuad)
      let s := s.each lanes64 (fun n s => if s.laneEn n then s else bringUp n s)
      let s := s.each spine4 (fun i s => if s.slEn i then s else spineBringUp i s)
      (repairSummary s).setStage 4
  | _, _ => s

/-- The faults of R505, raised at entry to stage 0x5. -/
def repairFaults (p : RepairMap) : List Src :=
  let mem := p.lost / 2 ^ 32 % 2 ^ 32 != 0 || p.lost / 2 ^ 80 % 2 ^ 20 != 0
  (if 4 < popCount 36 p.tiles then [Src.SEC_REPAIR_TILES] else []) ++ (if mem then [Src.SEC_REPAIR_MEM] else [])
    ++ (if p.lost % 2 ^ 32 != 0 || p.lost / 2 ^ 64 % 2 ^ 16 != 0 then [Src.SEC_MEM_UNREPAIRED] else [])

/-- The device does not leave Configure for Armed (R505, R522). -/
def State.startBarred (s : State) : Bool :=
  s.get R.SEC_STAT.DEBUG != 0 || s.sec.map.lost % 2 ^ 32 != 0 || s.sec.map.lost / 2 ^ 64 % 2 ^ 16 != 0

/-! ### Signed bodies, R508, R510, R512 -/

/-- The key of a signed body is the vendor root key; the key of an ACTIVE slot (R507). -/
def vendorKey (b : List Byte) : Bool := Config.sha3 (imgKey b) == Config.vendorRoot
def signedOk (b : List Byte) : Bool := Config.mldsa (imgKey b) (Config.sha3 (imgBody b)) (imgSig b)
def zeros (b : List Byte) (i n : Nat) : Bool := ((b.drop i).take n).all (fun x => x == 0)

/-- What an answer code raises (R510). -/
def raiseCode (c : Nat) (s : State) : State :=
  if 2 ≤ c ∧ c ≤ 4 then raise (Src.SEC_AUTH_FAIL) s else if c = 5 then raise (Src.SEC_ROLLBACK) s else s

/-- A response of a Member to a forwarded request, in parts of at most 1,000 bytes: number, abort code, last part, data (R425; log 54). -/
def sendResponse (num abort : Nat) : Nat → List Byte → State → State
  | 0, _, s => s
  | k + 1, b, s =>
    let last : Bool := b.length ≤ 1000
    let (s, l) := sendTo 0x50 2 0 (leBytes 4 num ++ leBytes 4 abort ++ leBytes 1 (b2n last) ++ b.take 1000) s
    if last then report l s else sendResponse num abort k (b.drop 1000) (report l s)

/-- The answer to a client where one awaits it: on CAN at the Root, to the Root at a Member, where the client is the request's number. -/
def answerTo (client : Option Nat) (abort : Nat) (bs : List Byte) (s : State) : State :=
  match client with
  | some c => if s.isRoot then canSend (.answer c abort bs) s else sendResponse c abort (bs.length + 1) bs s
  | none => s

/-! ### Firmware, R512 to R514 -/

def fwCodeLen (b : List Byte) : Nat := leAt b 20 4

/-- The header of a firmware image (R512). -/
def fwHeaderOk (b : List Byte) : Bool :=
  leAt b 0 4 == 0x424D5746 && leAt b 4 2 == 1 && leAt b 6 2 == 128 && leAt b 8 4 == 128 + fwCodeLen b + 7219 && b.length == leAt b 8 4
    && 8 ≤ fwCodeLen b && fwCodeLen b ≤ 16777216 && fwCodeLen b % 8 == 0 && leAt b 24 4 < fwCodeLen b
    && leAt b 16 1 == 0 && leAt b 17 1 == 0xFF && zeros b 18 2 && zeros b 28 4 && zeros b 64 64

/-- The security version of an image (R515). -/
def secVersion (b : List Byte) : Nat := leAt b 15 1

/-- The code of R510 of a firmware image. -/
def State.fwCode (s : State) (b : List Byte) : Nat :=
  if !fwHeaderOk b then 1
  else if !vendorKey b then 2
  else if !signedOk b then 3
  else if secVersion b < Tab.get 0 s.sec.counters 0 then 5
  else 0

/-- The boot control record as the ROM starts (R513 steps 1 and 2), with the bank it tries first. -/
def romStart (s : State) : State × Nat :=
  let m := s.mram
  if s.sec.tried != 0 then (s, 1 - s.sec.tried / 2)
  else if m.trial && !m.tried then (s.modMram (fun m => { m with tried := true }), 1 - m.bootSel)
  else if m.trial then ((s.modMram (fun m => { m with trial := false, tried := false })).modSec (fun x => { x with reverted := true }), m.bootSel)
  else (s, m.bootSel)

/-- The firmware of a bank starts: stage 0x5 (R505, R513). -/
def startFirmware (bank : Nat) (b : List Byte) (s : State) : State :=
  let rev := s.sec.reverted
  let s := ((s.set R.SEC_BOOT.BANK bank).modSec (fun x => { x with firmware := b, tried := 0, reverted := false })).modPw
    (fun p => { p with fwRuns := true, stage := 5 })
  raiseAll (repairFaults s.sec.map ++ (if rev then [Src.SEC_UPDATE_REVERTED] else [])) s

/-- The ROM has checked a bank (R513). `rom` is what the bank holds where this device has not written it. -/
def verifyFirmware (rom : List Byte) (s : State) : State :=
  if s.pw.state = .boot ∧ s.pw.stage = 4 ∧ !s.pw.romOnly then
    let (s, bank) := romStart s
    let b := match Tab.find? s.sec.banks bank with | some b => b | none => rom
    let c := if bitAt s.mram.fwInvalid bank then 1 else s.fwCode b
    if c = 0 then startFirmware bank b s
    else
      let s := raiseCode c s
      if s.sec.tried = 0 then s.modSec (fun x => { x with tried := bank + 1 })
      else
        let s := s.modSec (fun x => { x with tried := 0 })
        if s.pw.slateStart then s.modPw (fun p => { p with romOnly := true }) else requestReset 0xA s
  else s

/-- A firmware image is written to the bank that is not running (R514). -/
def writeFirmware (client : Option Nat) (b : List Byte) (s : State) : State :=
  if s.inState [.configure] then
    let o := 1 - s.get R.SEC_BOOT.BANK
    let waits := s.sec.checking
    let s := s.modSec (fun x => { x with banks := Tab.put x.banks o b, checking := true, checkFor := client })
    if waits then s else engineAsk .firmware s
  else s

/-- The written bank has been read back and checked, and the write is answered (R514, R510). -/
def firmwareChecked (s : State) : State :=
  if s.sec.checking ∧ s.sec.engine = some .firmware then
    let s := engineEnds s
    let o := 1 - s.get R.SEC_BOOT.BANK
    let b := Tab.get [] s.sec.banks o
    let c := s.fwCode b
    let client := s.sec.checkFor
    let short : Bool := c == 1 && b.length != leAt b 8 4
    let s := (s.modSec (fun x => { x with checking := false, checkFor := none })).set R.SEC_BOOT.FW_RESULT c
    let s := raiseCode c (s.modMram (fun m => { m with fwInvalid := setBitAt m.fwInvalid o (c != 0) }))
    let s := if c = 0 ∨ short then s else refuseSec s
    answerTo client (if c = 0 then 0 else if short then 0x06070010 else 0x08000024) [] s
  else s

/-- A write to 0x5000:04 (R514). -/
def tryFirmware (v : Nat) (s : State) : State :=
  if v ≠ 1 then s
  else if s.get R.SEC_BOOT.FW_RESULT = 0 then s.modMram (fun m => { m with trial := true, tried := false })
  else refuseSec s

/-! ### Anti-rollback counters, R515 -/

/-- The security version of the running image that names a counter. -/
def State.versionOf (s : State) (i : Nat) : Option Nat :=
  if i = 0 then (if s.pw.fwRuns then some (secVersion s.sec.firmware) else none)
  else if s.sec.image != [] && leAt s.sec.image 16 1 == i then some (secVersion s.sec.image) else none

/-- A write to 0x5000:08. -/
def advanceCtr (i : Nat) (s : State) : State :=
  if 63 < i then s
  else
    match s.versionOf i with
    | none => refuseSec s
    | some v =>
      if s.bit R.START_STAT.PENDING ∨ s.mram.trial then refuseSec s
      else s.modSec (fun x => { x with counting := x.counting ++ [(i, v)] })

/-- The fuses of the oldest counter in work are programmed; a counter never falls. -/
def counterDone (s : State) : State :=
  match s.sec.counting with
  | [] => s
  | (i, v) :: rest =>
    s.modSec (fun x => { x with counting := rest, counters := Tab.set 0 x.counters i (max v (Tab.get 0 x.counters i)) })

/-! ### Tokens, R507 to R511 -/

def tokLen (b : List Byte) : Nat := leAt b 6 2
def tokCmd (b : List Byte) : Nat := leAt b 8 1
def tokKey (b : List Byte) : Nat := leAt b 9 1
def tokPayload (b : List Byte) : List Byte := (b.drop 128).take (tokLen b)

/-- The payload length and the bytes of the binding in use, by command (R509). -/
def payloadLen (c : Nat) : Nat := match c with | 2 => 68 | 3 => 1 | 4 => 960 | 5 => 1 | _ => 0
def bindLen (c : Nat) : Nat := match c with | 1 => 16 | 4 => 4 | 5 => 32 | _ => 0

/-- Code 0x01: magic, format, lengths, command and reserved bytes (R510). -/
def tokHeaderOk (cmds : List Nat) (b : List Byte) : Bool :=
  leAt b 0 4 == 0x424D4B54 && leAt b 4 2 == 1 && b.length == 128 + tokLen b + 7219 && cmds.contains (tokCmd b)
    && tokLen b == payloadLen (tokCmd b) && zeros b 10 2 && zeros b 80 48
    && (tokCmd b != 2 || zeros b 129 3) && (tokCmd b != 5 || (1 ≤ leAt b 128 1 && leAt b 128 1 ≤ 2))

def State.slotState (s : State) (i : Nat) : Nat := Tab.get 0 s.sec.slotState i
def State.anyActive (s : State) : Bool := [0, 1, 2, 3].any (fun i => s.slotState i == 1)

/-- Code 0x02: the key that the command requires (R507, R509). -/
def State.tokKeyOk (s : State) (b : List Byte) : Bool :=
  let owner := s.ownerKey (tokKey b) (imgKey b)
  let vendor := tokKey b == 0xFF && vendorKey b
  match tokCmd b with
  | 1 | 5 => owner || vendor
  | 2 => if s.anyActive then owner else vendor
  | _ => owner

/-- Code 0x04: the serial number and the binding (R508, R509). -/
def State.bindOk (s : State) (b : List Byte) : Bool :=
  let c := tokCmd b
  leAt b 12 4 == Config.serial % 2 ^ 32 && zeros b (16 + bindLen c) (64 - bindLen c)
    && (match c with
      | 1 => leAt b 16 4 == s.get R.START_STAT.FAILED_TOTAL && leAt b 20 8 == s.get64 R.RST_TSC_LO R.RST_TSC_HI && leAt b 28 4 == s.get R.FAIL_CAUSES
      | 5 => leAt b 16 32 == s.sec.challenge
      | _ => true)

/-- Code 0x06: the state, and what R507 allows. -/
def State.tokAllowed (s : State) (b : List Byte) : Bool :=
  let t := leAt b 128 1
  match tokCmd b with
  | 1 => true
  | 2 => s.inState [.configure] && t < 4 && s.slotState t == 0
  | 3 => s.inState [.configure] && t < 4 && s.slotState t == 1 && tokKey b != t
  | 4 => s.inState [.configure]
  | _ => s.inState [.configure, .safe, .slate]

/-- The code of the first check that a token fails, or 0 (R510). With DEBUG_OFF a debug token gets 0x06 (R521). -/
def State.tokenCode (s : State) (cmds : List Nat) (b : List Byte) : Nat :=
  if cmds = [5] ∧ s.sec.debugOff then 6
  else if !tokHeaderOk cmds b then 1
  else if !s.tokKeyOk b then 2
  else if !signedOk b then 3
  else if !s.bindOk b then 4
  else if tokCmd b = 4 ∧ leAt b 16 4 ≤ s.sec.makerVersion then 5
  else if !s.tokAllowed b then 6
  else 0

/-- The commands that a write may carry: enrolment and revocation share 0x5000:10. -/
def entryCmds (c : Nat) : List Nat := if c = 2 ∨ c = 3 then [2, 3] else [c]

/-- What an accepted token does (R509). -/
def applyToken (b : List Byte) (s : State) : State :=
  let p := tokPayload b
  match tokCmd b with
  | 1 => s.modSec (fun x => { x with clearing := true })
  | 2 => s.modSec (fun x => { x with slotState := Tab.set 0 x.slotState (leAt p 0 1) 1, slotDigest := Tab.set 0 x.slotDigest (leAt p 0 1) (BitVec.ofNat 512 (leAt p 4 64)) })
  | 3 => s.modSec (fun x => { x with slotState := Tab.set 0 x.slotState (leAt p 0 1) 3 })
  | 4 => s.modSec (fun x => { x with makerVersion := leAt b 16 4, makerKeys := (List.range 15).map (fun i => BitVec.ofNat 512 (leAt p (64 * i) 64)) })
  | _ => raise (Src.SEC_DEBUG_OPEN) (s.set R.SEC_STAT.DEBUG (leAt p 0 1))

/-- A token is refused (R510): a refused write sets SETTING_REFUSED but for a wrong length; the test port writes no entry. -/
def refuseToken (c cmd : Nat) (b : List Byte) (s : State) : State :=
  let s := raiseCode c s
  if cmd = 5 ∨ (c = 1 ∧ b.length ≠ 128 + tokLen b + 7219) then s else refuseSec s

/-- The abort code of a code of R510. -/
def tokenAbort (c : Nat) (b : List Byte) : Nat :=
  if c = 0 then 0 else if c = 1 ∧ b.length ≠ 128 + tokLen b + 7219 then 0x06070010 else 0x08000024

/-- A token is written (R509 to R511): while one of the same command is checked it gets code 0x07; else its check waits for the
engine. -/
def writeToken (cmd : Nat) (client : Option Nat) (b : List Byte) (s : State) : State :=
  let cmds := entryCmds cmd
  if s.sec.tokens.any (fun j => cmds.contains j.cmd && tokCmd j.bytes == tokCmd b) then
    let c := if tokHeaderOk cmds b then 7 else 1
    answerTo client (tokenAbort c b) [] (refuseToken c cmd b (s.set R.SEC_BOOT.TOKEN_RESULT c))
  else engineAsk .token (s.modSec (fun x => { x with tokens := x.tokens ++ [⟨cmd, b, client⟩] }))

/-- The check of the oldest token ends, and a new challenge is drawn (R511, R521). -/
def tokenChecked (s : State) : State :=
  match s.sec.engine, s.sec.tokens with
  | some .token, j :: rest =>
    let c := s.tokenCode (entryCmds j.cmd) j.bytes
    let (d, s) := (engineEnds s).draw
    let s := (s.set R.SEC_BOOT.TOKEN_RESULT c).modSec (fun x => { x with tokens := rest, challenge := d % 2 ^ 256 })
    let s := if c = 0 then applyToken j.bytes s else refuseToken c j.cmd j.bytes s
    answerTo j.client (tokenAbort c j.bytes) [] s
  | _, _ => s

/-! ### Attestation, R519 -/

/-- A list brought to a length. -/
def sized (n : Nat) (l : List Byte) : List Byte := (l ++ List.replicate n 0).take n

def hashBytes (b : List Byte) : List Byte := leBytes 64 (Config.sha3 b).toNat

/-- The slot states, slot 0 in bits 1:0 (R519, R524). -/
def State.slotBits (s : State) : Nat := s.slotState 0 + 4 * s.slotState 1 + 16 * s.slotState 2 + 64 * s.slotState 3

/-- The maker key list with its 16 entries. -/
def State.makerList (s : State) : List Byte :=
  leBytes 64 Config.waisinKey.toNat ++ (List.range 15).flatMap (fun i => leBytes 64 (s.sec.makerKeys.getD i 0).toNat)

def State.repairWord (s : State) : Nat :=
  fieldsWord s [R.SEC_REPAIR.TILES_BAD, R.SEC_REPAIR.SPARES_USED, R.SEC_REPAIR.ROWS_USED, R.SEC_REPAIR.COLS_USED, R.SEC_REPAIR.MAP_COPY]

/-- Bytes 0 to 407 of a report. -/
def State.reportBody (s : State) (nonce : List Byte) : List Byte :=
  leBytes 4 0x424D5441 ++ leBytes 2 1 ++ leBytes 2 5035 ++ sized 32 nonce ++ leBytes 4 Config.serial
    ++ leBytes 1 s.pos ++ leBytes 1 0xB0 ++ leBytes 1 (s.get R.SEC_STAT.DEBUG) ++ leBytes 1 s.pw.state.code
    ++ (if s.sec.firmware = [] then List.replicate 64 0 else hashBytes (imgBody s.sec.firmware))
    ++ (if s.sec.image = [] then List.replicate 64 0 else hashBytes (imgBody s.sec.image))
    ++ sized 64 s.dx.config ++ leBytes 4 s.slotBits ++ leBytes 4 s.repairWord ++ leBytes 4 s.rstCause ++ leBytes 4 s.startStat
    ++ leBytes 8 s.ts.tsc ++ leBytes 8 s.tq ++ leBytes 4 s.opsec ++ leBytes 4 s.mram.pwrCycles
    ++ (List.range 64).flatMap (fun i => leBytes 1 (Tab.get 0 s.sec.counters i)) ++ hashBytes s.makerList

/-- A nonce of 32 bytes starts a report; one in work is abandoned. -/
def writeNonce (b : List Byte) (s : State) : State :=
  if b.length = 32 then
    let waits := s.sec.nonce.isSome
    let s := s.modSec (fun x => { x with nonce := some b, report := [] })
    if waits then s else engineAsk .report s
  else s

/-- The report is signed. -/
def reportDone (s : State) : State :=
  match s.sec.engine, s.sec.nonce with
  | some .report, some n =>
    let b := s.reportBody n
    let (d, s) := (engineEnds s).draw
    s.modSec (fun x => { x with nonce := none, report := b ++ sized 4627 (Config.mldsaSign (Config.sha3 b) d) })
  | _, _ => s

/-! ### Commands -/

/-- BIST_COMPLETE, R501. -/
def execBistComplete (f : BistFindings) (s : State) : Host.Outcome State Fault Refusal := .next (bistDone f s)

/-- REPAIR_APPLIED, R503 to R505. -/
def execRepairApplied (s : State) : Host.Outcome State Fault Refusal := .next (applyRepair s)

/-- FIRMWARE_VERIFIED, R513: `bs` is what the ROM reads from the bank where this device has not written it. -/
def execFirmwareVerified (bs : List Byte) (s : State) : Host.Outcome State Fault Refusal := .next (verifyFirmware bs s)

/-- AUTHENTICATED_CLEAR, R509: a token written to 0x2013. -/
def execAuthenticatedClear (bs : List Byte) (s : State) : Host.Outcome State Fault Refusal :=
  .next (if s.cored then writeToken 1 none bs s else s)

/-- ENROL_OWNER_KEY, R507, R525: accepted in Configure only. -/
def execEnrolOwnerKey (bs : List Byte) (s : State) : Host.Outcome State Fault Refusal :=
  .next (if s.inState [.configure] then writeToken 2 none bs s else s)

/-- REVOKE_OWNER_KEY, R507, R525: accepted in Configure only. -/
def execRevokeOwnerKey (bs : List Byte) (s : State) : Host.Outcome State Fault Refusal :=
  .next (if s.inState [.configure] then writeToken 3 none bs s else s)

/-- MAKER_KEY_LIST, R516, R525: an RWC entry. -/
def execMakerKeyList (bs : List Byte) (s : State) : Host.Outcome State Fault Refusal :=
  .next (if s.inState [.configure] then writeToken 4 none bs s else s)

/-- DEBUG_UNLOCK, R521, R522. -/
def execDebugUnlock (bs : List Byte) (s : State) : Host.Outcome State Fault Refusal :=
  .next (if s.cored then writeToken 5 none bs s else s)

/-- TOKEN_CHECK_DONE, R510, R511. -/
def execTokenCheckDone (s : State) : Host.Outcome State Fault Refusal := .next (tokenChecked s)

/-- AUTH_CLEAR_RESET, R511, R81. -/
def execAuthClearReset (s : State) : Host.Outcome State Fault Refusal :=
  .next (if s.sec.clearing then requestReset 0xF s else s)

/-- FIRMWARE_IMAGE_WRITE, R514. -/
def execFirmwareImageWrite (bs : List Byte) (s : State) : Host.Outcome State Fault Refusal := .next (writeFirmware none bs s)

/-- FIRMWARE_CHECK_DONE, R514. -/
def execFirmwareCheckDone (s : State) : Host.Outcome State Fault Refusal := .next (firmwareChecked s)

/-- TRY_NEW_FIRMWARE, R514. -/
def execTryNewFirmware (v : Nat) (s : State) : Host.Outcome State Fault Refusal := .next (tryFirmware v s)

/-- ADVANCE_COUNTER, R515. -/
def execAdvanceCounter (v : Nat) (s : State) : Host.Outcome State Fault Refusal := .next (advanceCtr v s)

/-- COUNTER_PROGRAMMED, R515. -/
def execCounterProgrammed (s : State) : Host.Outcome State Fault Refusal := .next (counterDone s)

/-- ATTESTATION_NONCE, R519. -/
def execAttestationNonce (bs : List Byte) (s : State) : Host.Outcome State Fault Refusal := .next (writeNonce bs s)

/-- ATTESTATION_REPORT_DONE, R519. -/
def execAttestationReportDone (s : State) : Host.Outcome State Fault Refusal := .next (reportDone s)

/-- DEBUG_LEVEL_ZERO, R522. -/
def execDebugLevelZero (s : State) : Host.Outcome State Fault Refusal := .next (s.set R.SEC_STAT.DEBUG 0)

/-- TEST_PORT_INSTRUCTION, R520: it acts in every device state, on the pins of banks 1 to 4 (`State.cell1149`). -/
def execTestPortInstruction (ins : TapInstr) (s : State) : Host.Outcome State Fault Refusal :=
  .next (s.modPw (fun p => { p with tap := some ins }))

end Sys2Proof.Machine
end

