-- ==== Sys2Proof/Machine/Registers.lean ====
section
/-!
DEFINITION. Machine/Registers.lean: writes to register words, through firmware or the aperture (R11 to R16, R540): the access codes of the
fields, what each block refuses, and what a write starts. A refused write leaves its word unchanged, but for subsystem 7, where it
leaves the field unchanged (R279; log 51).
-/
namespace Sys2Proof.Machine

/-- What a word write gives a field. -/
def part (w : Nat) (f : Fld) : Nat := w / 2 ^ f.lo % 2 ^ f.width

/-- A field takes a write now (R12, R14). -/
def State.cfg (s : State) : Bool := s.inState [.configure]
def State.takes (s : State) (f : Fld) : Bool :=
  match f.acc with | .rw => true | .rwc => s.cfg | _ => false

/-- Write one field by its access code: RW, RWC in Configure, and W1C; RO and WO fields keep nothing. -/
def writeField (w : Nat) (f : Fld) (s : State) : State :=
  if s.takes f then s.set f (part w f)
  else if f.acc = .w1c ∧ part w f = 1 then clearBit f s else s

/-- Write the fields of a word. -/
def plain (a w : Nat) (s : State) : State := s.each (fieldsAt a) (writeField w)

/-- Write the fields of a word unless the block refuses the write. -/
def guarded (bad : Bool) (r : Src) (a w : Nat) (s : State) : State := if bad then refuse r s else plain a w s

/-- The number of a word in an array of words. -/
def index (base step count a : Nat) : Option Nat :=
  if base ≤ a ∧ (a - base) % step = 0 ∧ (a - base) / step < count then some ((a - base) / step) else none

/-- An effect where a bit is written with 1. -/
def onBit (w i : Nat) (f : State → State) (s : State) : State := if bitAt w i then f s else s

/-- A value is negative, or no number. -/
def notFinite (x : Nat) : Bool := !finite32 x
def badMagnitude (x : Nat) : Bool := !finite32 x || val32 x < 0

/-! ### Subsystems 13, 1 and 2 -/

/-- Subsystem 13 (04_clocks_plls.md). A write of SEL = 0 under spread is refused whole (R94, R16). R110 gives no order for the fields of one word
write: CONSUMER_IDLE or EN is taken first, then SEL or SRC, then FORCE with the new values (DESIGN CHOICE, log 84). -/
def writeClk (a w : Nat) (s : State) : State :=
  if a = 0xD0008 then writeSpread w s
  else if a = 0xD0020 then
    if s.bit R.CLK_STAT.SPREAD_ACT ∧ w % 2 = 0 then refuse (Src.CLK_SETTING_REFUSED) s
    else onBit w 1 (forceMux .can) (selectMux .can (w % 2) (consumerIdle (bitAt w 2) s))
  else if a = 0xD0024 then
    let s := setDiv ((s.set R.CLK_CKOUT.EN (bits w 31 31)).set R.CLK_CKOUT.DIV (bits w 11 0))
    onBit w 30 (forceMux .ckout) (selectMux .ckout (bits w 27 24) s)
  else plain a w s

/-- EN of a cell lane, RWC (R162). -/
def setLaneEn (n : Nat) (v : Bool) (s : State) : State :=
  if !s.cfg || s.bit (R.LN_CTRL.EN n) == v then s
  else if v then bringUp n (s.set (R.LN_CTRL.EN n) 1)
  else ledgerRemove n (bringUp n (s.set (R.LN_CTRL.EN n) 0))

/-- RETRAIN (R168). -/
def retrainLane (n : Nat) (s : State) : State := if s.laneState n = 5 ∨ s.laneState n = 6 then startAttempt n 1 s else s

/-- Subsystem 1 (06_cell_lanes.md). -/
def writeLaneWord (n o w : Nat) (s : State) : State :=
  let a := 0x10100 + 0x40 * n + o
  match o with
  | 0x00 =>
    let s := setLaneEn n (bitAt w 31) (writeField w (R.LN_CTRL.RX_POL n) (writeField w (R.LN_CTRL.TX_INV n) s))
    onBit w 2 (retrainLane n) (onBit w 3 (clearLaneCounts n) s)
  | 0x14 => writeTest n w s
  | 0x18 => onBit w 31 (injectOne n) (plain a w s)
  | _ => plain a w s

def writeCellArray (a w : Nat) (s : State) : State :=
  match index 0x10040 4 16 a with
  | some q =>
    let s := writeMapMode q (bits w 31 30) s
    if bits w 26 24 = s.get (R.QUAD_CFG.SPARE_SEL q) then s else writeSpare q (bits w 26 24) s
  | none =>
    if 0x10100 ≤ a ∧ a < 0x11100 then writeLaneWord ((a - 0x10100) / 0x40) ((a - 0x10100) % 0x40) w s else plain a w s

/-- Subsystem 2 (07_limisk_link.md). -/
def writeLink (a w : Nat) (s : State) : State :=
  if 0x20100 ≤ a ∧ a < 0x21100 then
    let n := (a - 0x20100) / 0x40
    match (a - 0x20100) % 0x40 with
    | 0x00 => onBit w 29 (clearLinkCounts n) (onBit w 30 (descFetch n) (plain a w s))
    | 0x14 => onBit w 5 (startParam n (bits w 31 24) (bits w 23 8) (bitAt w 4)) (plain a w s)
    | _ => plain a w s
  else plain a w s

/-! ### Subsystems 6, 7 and 8 -/

def writeTrip (i o w : Nat) (s : State) : State :=
  let a := 0x60100 + 0x10 * i + o
  match o with
  | 0x0 => guarded (s.cfg && bits w 27 20 == 0) (Src.MOD_SETTING_REFUSED) a w s
  | 0x4 => onBit w 31 (tripClr i) (guarded (s.cfg && bits w 15 0 == 0) (Src.MOD_SETTING_REFUSED) a w s)
  | _ => plain a w s

def writeCarrier (k o w : Nat) (s : State) : State :=
  let a := 0x61000 + 0x20 * k + o
  match o with
  | 0x00 =>
    let s' := plain a w s
    if bitAt w 31 == s.bit (R.CAR_CTRL.EN k) then s' else if bitAt w 31 then enableCar k s' else disableCar k s'
  | 0x04 => writePer k w s
  | 0x08 | 0x0C => stampCar k (plain a w s)
  | _ => plain a w s

def writeLeg (l o w : Nat) (s : State) : State :=
  let a := 0x62000 + 0x20 * l + o
  match o with
  | 0x00 =>
    if bits w 31 29 > 4 ∨ (s.cfg ∧ (bits w 28 27 = 3 ∨ bits w 26 25 = 3)) then refuse (Src.MOD_SETTING_REFUSED) s else stampLeg l (plain a w s)
  | 0x04 | 0x08 | 0x0C => stampLeg l (plain a w s)
  | _ => plain a w s

/-- Subsystem 6 (08_modulation.md). -/
def writeModulation (a w : Nat) (s : State) : State :=
  if a = 0x6000C then commitGroups (w % 65536) s
  else if a = 0x60014 then guarded (s.cfg && w % 2 ^ 26 < 10240) (Src.MOD_SETTING_REFUSED) a w s
  else if 0x60040 ≤ a ∧ a < 0x60080 then guarded (s.cfg && bits w 9 8 == 0) (Src.MOD_SETTING_REFUSED) a w s
  else if 0x60100 ≤ a ∧ a < 0x60180 then writeTrip ((a - 0x60100) / 0x10) ((a - 0x60100) % 0x10) w s
  else if 0x61000 ≤ a ∧ a < 0x61800 then writeCarrier ((a - 0x61000) / 0x20) ((a - 0x61000) % 0x20) w s
  else if 0x62000 ≤ a ∧ a < 0x65000 then writeLeg ((a - 0x62000) / 0x20) ((a - 0x62000) % 0x20) w s
  else plain a w s

/-- Write the fields that are in range; any other sets SETTING_REFUSED (R279). -/
def ranged (l : List (Fld × Bool)) (w : Nat) (s : State) : State :=
  let s' := s.each l (fun x s => if x.2 then s else writeField w x.1 s)
  if s.cfg && l.any (·.2) then refuse (Src.GS_SETTING_REFUSED) s' else s'

/-- Subsystem 7 (09_gate_supervision.md). -/
def writeGates (a w : Nat) (s : State) : State :=
  if a = 0x7000C then ranged [(R.GS_UVDEF.UV_HS_DEF, bits w 31 16 == 65535), (R.GS_UVDEF.UV_LS_DEF, bits w 15 0 == 65535)] w s
  else if a = 0x70014 then guarded (s.cfg && sext 16 (bits w 15 0) ≤ sext 16 (bits w 31 16)) (Src.GS_SETTING_REFUSED) a w s
  else if 0x70100 ≤ a ∧ a < 0x70900 then
    let n := (a - 0x70100) / 0x20
    match (a - 0x70100) % 0x20 with
    | 0x00 => ranged [(R.GSC_CFG.VGS_MASK n, false), (R.GSC_CFG.DEB n, bits w 19 16 == 0), (R.GSC_CFG.PARTNER_DELAY n, false)] w s
    | 0x14 => onBit w 31 (clearCell n) s
    | _ => plain a w s
  else plain a w s

/-- A member mask (R283): a mask that places a cell in two strings is refused. -/
def writeMembers (t m : Nat) (s : State) : State :=
  if !s.cfg then s
  else if (List.range 8).any (fun u => u != t && Nat.land m (s.members u) != 0) then refuse (Src.BAL_SETTING_REFUSED) s
  else resettleCells (s.set64 (R.STR_MEM_LO t) (R.STR_MEM_HI t) m)

/-- Subsystem 8 (10_balancing_duplex.md). -/
def writeBalancer (a w : Nat) (s : State) : State :=
  if a = 0x80000 then guarded (s.cfg && (bits w 30 29 == 3 || bits w 25 16 == 0 || 600 < bits w 25 16)) (Src.BAL_SETTING_REFUSED) a w s
  else if a = 0x8000C then onBit w 31 handbackGo s
  else if 0x80100 ≤ a ∧ a < 0x80200 then
    let t := (a - 0x80100) / 0x20
    match (a - 0x80100) % 0x20 with
    | 0x00 =>
      let s := guarded (s.cfg && 64 < bits w 22 16) (Src.BAL_SETTING_REFUSED) a w s
      if s.cfg then resettleCells s else s
    | 0x04 => writeMembers t (w + 2 ^ 32 * s.get (R.STR_MEM_HI t)) s
    | 0x08 => writeMembers t (s.get (R.STR_MEM_LO t) + 2 ^ 32 * w) s
    | _ => plain a w s
  else if 0x80400 ≤ a ∧ a < 0x80800 ∧ (a - 0x80400) % 0x10 = 0 then
    let n := (a - 0x80400) / 0x10
    onBit w 30 (parkCell n) (onBit w 31 (insertCell n) s)
  else plain a w s

/-! ### Subsystem 9 -/

/-- CX_CFG (R315, R329): a write of EN = 1 that the engine refuses leaves the word unchanged. -/
def writeCxCfg (k w : Nat) (s : State) : State :=
  let en := bitAt w 31
  let s' := s.each [R.CX_CFG.POLICY k, R.CX_CFG.ABORT_BYPASS k, R.CX_CFG.STRINGS k, R.CX_CFG.ENTRY k] (writeField w)
  if s.cfg ∧ en ∧ s'.enableRefused k then refuse (Src.CE_SETTING_REFUSED) s
  else
    let s' := if bitAt w 28 == s.bit (R.CX_CFG.SP_FREEZE k) then s' else writeFreeze k (bitAt w 28) s'
    if !s.cfg then s' else if en then enableCtx k s' else if s.bit (R.CX_CFG.EN k) then offCtx k s' else s'

/-- BANK_REQ (R326): 1 swap, 2 bank A, 3 bank B. -/
def bankReq (k v : Nat) (s : State) : State :=
  match v with
  | 1 => requestBank k (!s.bit (R.CX_STAT.BANK k)) s
  | 2 => requestBank k false s
  | 3 => requestBank k true s
  | _ => s

def writeContext (k o w : Nat) (s : State) : State :=
  let a := 0x91000 + 0x80 * k + o
  match o with
  | 0x00 => writeCxCfg k w s
  | 0x04 => guarded (s.cfg && (5 ≤ bits w 31 29 || (bits w 31 29 == 3 && bits w 6 0 == k))) (Src.CE_SETTING_REFUSED) a w s
  | 0x08 => guarded (s.cfg && w % 2 ^ 26 < 5120) (Src.CE_SETTING_REFUSED) a w s
  | 0x1C => onBit w 27 (clearCtxCounts k) (bankReq k (bits w 29 28) (onBit w 30 (trigger k) (onBit w 31 (restart k) s)))
  | 0x34 => plain a w (clearHist k s)
  | _ => plain a w s

/-- Subsystem 9 (11_control_engine.md). -/
def writeControl (a w : Nat) (s : State) : State :=
  if 0x90010 ≤ a ∧ a < 0x90020 then
    s.each (bitList 32 w) (fun i s => bankReq (32 * ((a - 0x90010) / 4) + i) 1 s)
  else if a = 0x90024 then nextMaddr (memWrite (s.get R.CE_MADDR.MEM) (s.get R.CE_MADDR.WORD % memWords (s.get R.CE_MADDR.MEM)) w s)
  else if a = 0x90040 then
    if 5 ≤ bits w 31 29 then refuse (Src.CE_SETTING_REFUSED) s
    else onBit w 28 startInjection (onBit w 27 endInjection (checkInjection (plain a w s)))
  else if a = 0x90048 then guarded (w % 65536 == 0) (Src.CE_SETTING_REFUSED) a w s
  else if a = 0x90050 then onBit w 30 (fun s => s.set R.CAP_STAT.BUSY 0) (onBit w 31 armCapture (plain a w s))
  else if a = 0x90054 then guarded ((leBytes 4 w).any (fun b => 0x29 < b.toNat)) (Src.CE_SETTING_REFUSED) a w s
  else if 0x91000 ≤ a ∧ a < 0x95000 then writeContext ((a - 0x91000) / 0x80) ((a - 0x91000) % 0x80) w s
  else if 0x96000 ≤ a ∧ a < 0x98000 then
    guarded (if (a - 0x96000) % 0x40 < 0x20 then notFinite w else badMagnitude w) (Src.CE_SETTING_REFUSED) a w (noteSps ((a - 0x96000) / 0x40) s)
  else plain a w s

/-! ### Subsystems 10, 11 and 3 -/

/-- Clock delays and enables of the sigma-delta clocks (R365). -/
def clockRefused (w : Nat) (s : State) : Bool :=
  19 < bits w 31 27 || 19 < bits w 26 22 || 19 < bits w 21 17 || 19 < bits w 16 12
    || (List.range 24).any (fun c => s.bit (R.SD_CFG.EN c) && !bitAt w (s.get (R.SD_CFG.CLK c)))

/-- PMU_CFG (R370, R374). -/
def pmuRefused (w : Nat) (s : State) : Bool :=
  (bitAt w 31 && s.bit R.CLK_STAT.SPREAD_ACT) || !rateAllowed (bitAt w 29) (bits w 27 24)

/-- Subsystem 10 (13_metrology.md). -/
def writeMetrology (a w : Nat) (s : State) : State :=
  if a = 0xA0008 then guarded (s.cfg && clockRefused w s) (Src.MET_SETTING_REFUSED) a w s
  else if a = 0xA000C then
    if !s.cfg then s else if pmuRefused w s then refuse (Src.MET_SETTING_REFUSED) s else phasorStart (plain a w s)
  else if a = 0xA0010 ∨ a = 0xA0014 then guarded (badMagnitude w) (Src.MET_SETTING_REFUSED) a w s
  else if 0xA0100 ≤ a ∧ a < 0xA0280 ∧ (a - 0xA0100) % 0x10 = 0 then
    let c := (a - 0xA0100) / 0x10
    if !s.cfg then s
    else if bitAt w 31 && !bitAt (s.get R.SDCK_CFG.CKEN) (bits w 29 28) then refuse (Src.MET_SETTING_REFUSED) s
    else if bitAt w 31 && !s.bit (R.SD_CFG.EN c) then startChannel c (plain a w s) else plain a w s
  else if 0xA0400 ≤ a ∧ a < 0xA04C0 ∧ (a - 0xA0400) % 0x10 = 0 then guarded (s.cfg && 23 < bits w 28 24) (Src.MET_SETTING_REFUSED) a w s
  else plain a w s

/-- A binary32 value within two numbers. -/
def within32 (lo hi : Rat) (x : Nat) : Bool := finite32 x && lo ≤ val32 x && val32 x ≤ hi

/-- Subsystem 11 (14_fault_location.md). -/
def writeWave (a w : Nat) (s : State) : State :=
  let r := Src.WF_SETTING_REFUSED
  let wide := s.bit R.CLK_STAT.SPREAD_ACT || bitAt s.pw.vio 3
  if a = 0xB0000 then guarded (s.cfg && ((bitAt w 31 && wide) || bits w 20 17 == 0 || bits w 15 8 == 0)) r a w s
  else if a = 0xB000C then onBit w 29 wfStopCapture (onBit w 30 wfArm (onBit w 31 wfStart s))
  else if a = 0xB0010 then guarded (s.cfg && !within32 0 600000 w) r a w s
  else if a = 0xB0014 then guarded (s.cfg && !(within32 150 300 w && val32 (s.get R.WF_V0) < val32 w)) r a w s
  else if a = 0xB0018 then guarded (s.cfg && !(within32 100 300 w && val32 w < val32 (s.get R.WF_V1))) r a w s
  else if (0xB0020 ≤ a ∧ a < 0xB0038) ∨ (0xB0040 ≤ a ∧ a < 0xB0058) then guarded (s.cfg && badMagnitude w) r a w s
  else if a = 0xB0058 then guarded (5 < bits w 30 28 || 5 < bits w 26 24 || 5 < bits w 22 20 || 5 < bits w 18 16) r a w s
  else plain a w s

/-- RETRAIN of a spine lane (R415). -/
def retrainSpine (i : Nat) (s : State) : State :=
  if (s.slState i = 5 ∨ s.slState i = 6) ∧ !bitAt s.sec.badSpine i then startSpine i 1 s else s

/-- Subsystem 3 (15_spine_groups.md). -/
def writeSpineWord (a w : Nat) (s : State) : State :=
  if a = 0x30000 then guarded (s.cfg && (w % 1024 == 0 || 1000 < w % 1024)) (Src.SP_SETTING_REFUSED) a w s
  else if 0x30100 ≤ a ∧ a < 0x30200 then
    let i := (a - 0x30100) / 0x40
    match (a - 0x30100) % 0x40 with
    | 0x00 =>
      let s := enableSpine i (bitAt w 31) (s.each [R.SL_CTRL.PRECODE_REQ i, R.SL_CTRL.TX_INV i, R.SL_CTRL.RX_POL i] (writeField w))
      onBit w 25 (clearSpineCounts i) (onBit w 26 (retrainSpine i) s)
    | 0x14 => writeSpineTest i w s
    | 0x18 => onBit w 31 (injectOne (64 + i)) (plain a w s)
    | _ => plain a w s
  else plain a w s

/-! ### Subsystems 14, 15 and 16 -/

/-- The floor of a source's class (R437). -/
def floorOf (b i : Nat) : Nat :=
  if b = 7 ∧ i ≤ 3 then 2
  else if (b = 13 ∧ (i = 0 ∨ i = 2)) ∨ (b = 14 ∧ i = 3) ∨ (b = 16 ∧ (i = 7 ∨ i = 14 ∨ i = 15)) ∨ (b = 8 ∧ i = 12) then 3
  else 0

/-- A write of FC_SEVn that R437 refuses. -/
def sevRefused (b w : Nat) : Bool :=
  (List.range 16).any (fun i =>
    let c := bits w (2 * i + 1) (2 * i)
    if (leafOf ⟨b, i, 0⟩).isSome then c < floorOf b i else c != 0)

/-- Subsystem 14 (16_fault_collector.md). -/
def writeCollector (a w : Nat) (s : State) : State :=
  let r := Src.FC_SETTING_REFUSED
  if a = 0xE0000 then guarded (s.cfg && (bits w 8 0 < 5 || 500 < bits w 8 0)) r a w s
  else if a = 0xE0004 then writeHeld (w % 65536) s
  else if a = 0xE0008 then writeLost (w % 65536) s
  else if a = 0xE0010 then writeDrive (bitAt w 31) s
  else if a = 0xE0014 then
    onBit w 31 unlatch (guarded (s.cfg && (bits w 27 24 == 0 || bits w 13 0 == 0 || 10000 < bits w 13 0)) r a w s)
  else if a = 0xE001C then onBit w 31 (forceReport w) s
  else if a = 0xE0020 then writeCbi w s
  else if a = 0xE0030 then onBit w 31 clearGroupFirst s
  else
    match index 0xE0040 4 16 a with
    | some n => guarded (s.cfg && sevRefused (n + 1) w) r a w s
    | none => plain a w s

/-- Subsystem 15 (18_recorder_ledger.md). -/
def writeRecorder (a w : Nat) (s : State) : State :=
  let r := Src.REC_SETTING_REFUSED
  if a = 0xF0000 then guarded (s.cfg && (bits w 10 0 == 0 || 1440 < bits w 10 0)) r a w s
  else if a = 0xF0034 then guarded (s.cfg && (bits w 14 8 == 0 || 40 < bits w 14 8 || bits w 6 0 == 0 || 99 < bits w 6 0)) r a w s
  else if 0xF0100 ≤ a ∧ a < 0xF0200 then
    guarded (s.cfg && (badMagnitude w || ((a - 0xF0100) % 0x20 == 0x0C && zero32 w))) r a w s
  else plain a w s

/-- The limits of R464. -/
def limitsRefused (w : Nat) : Bool :=
  let sh := bits w 23 16
  let th := bits w 15 8
  let wn := bits w 7 0
  !(wn ≤ th && th < sh && 60 ≤ wn && wn ≤ 125 && 60 ≤ th && th ≤ 125 && 100 ≤ sh && sh ≤ 130)

/-- PEAK_CLR (R470). -/
def clearPeak (s : State) : State := (s.set R.TH_PEAK.PEAK 0x8000).set R.TH_PEAK.SENSOR 0

/-- Subsystem 16 (17_thermal.md, 19_security_repair.md, 03_power_reset_insertion.md). -/
def writeSystem (a w : Nat) (s : State) : State :=
  if a = 0x100C00 then
    onBit w 30 clearPeak (guarded (s.cfg && (bits w 12 8 == 0 || 16 < bits w 12 8)) (Src.TH_SETTING_REFUSED) a w s)
  else if a = 0x100C0C then guarded (s.cfg && limitsRefused w) (Src.TH_SETTING_REFUSED) a w s
  else if a = 0x100F14 then
    onBit w 0 (fun s => if s.pw.state = .boot then s.modPw (fun p => { p with selfTestDone := true }) else s) s
  else plain a w s

/-! ### A word write -/

/-- A write of a register word. Host writes to 0x0010_0F00–0x0010_0FFF have no effect, and the aperture is not offered in Slate (R540). -/
def writeWord (host : Bool) (a w : Nat) (s : State) : State :=
  if !s.cored || (host && (s.inState [.slate] || (0x100F00 ≤ a && a ≤ 0x100FFF))) then s
  else
    match a / 65536 with
    | 0x1 => writeCellArray a w s
    | 0x2 => writeLink a w s
    | 0x3 => writeSpineWord a w s
    | 0x6 => writeModulation a w s
    | 0x7 => writeGates a w s
    | 0x8 => writeBalancer a w s
    | 0x9 => writeControl a w s
    | 0xA => writeMetrology a w s
    | 0xB => writeWave a w s
    | 0xD => writeClk a w s
    | 0xE => writeCollector a w s
    | 0xF => writeRecorder a w s
    | 0x10 => writeSystem a w s
    | _ => plain a w s

/-- REGISTER_WRITE, R11, R540: `host` for the aperture, else firmware. -/
def execRegisterWrite (host : Bool) (addr : Nat) (v : Word) (s : State) : Host.Outcome State Fault Refusal :=
  .next (writeWord host addr v.toNat s)

end Sys2Proof.Machine
end

