-- ==== Sys2Proof/Machine/Flags.lean ====
section
/-!
DEFINITION. Machine/Flags.lean: what a register word reads as: its stored fields, and the summary, mask and status bits that the spec
computes from other state (R13, R15, R540 to R543, and the register tables of the chapters).
-/
namespace Sys2Proof.Machine

/-! ### Leaves, R542 -/

/-- Some instance of a source has its leaf set. -/
def State.leafSet (s : State) (b i : Nat) : Bool :=
  (List.range 128).any (fun n => match leafOf ⟨b, i, n⟩ with | some f => s.bit f | none => false)

/-- SUM: bit n − 1 while any leaf of subsystem n is set. -/
def State.sum (s : State) : Nat :=
  (List.range 16).foldl (fun m n => if (List.range 16).any (fun i => s.leafSet (n + 1) i) then m + 2 ^ n else m) 0

/-- A source counts in IRQ_PEND by its class. -/
def State.pends (s : State) (b i : Nat) : Bool := s.get (R.FC_SEV b i) ≥ 1 || s.bit R.FC_CTRL.GREY_IRQ

/-- PEND: bit n − 1 while a leaf of subsystem n is set whose class counts. -/
def State.irqPend (s : State) : Nat :=
  (List.range 16).foldl (fun m n => if (List.range 16).any (fun i => s.pends (n + 1) i && s.leafSet (n + 1) i) then m + 2 ^ n else m) 0

/-- nIRQ is driven low (R543); in Standby, Cold hold and Slate it is not (R43). -/
def State.nirqLow (s : State) : Bool :=
  s.inState [.boot, .configure, .armed, .run, .safe] && Nat.land s.irqPend (s.get R.IRQ_EN.EN) != 0

/-- The stored fields of a word; a WO field reads 0 (R12). -/
def State.stored (s : State) (a : Nat) : Nat := fieldsWord s ((fieldsAt a).filter (fun f => f.acc != .wo))

/-- The bits of a cause word in an array of words. -/
def State.cause (s : State) (base step n : Nat) : Nat := s.stored (base + step * n)

/-- The union of the cause words of an array. -/
def State.causes (s : State) (base step count : Nat) : Nat :=
  (List.range count).foldl (fun m n => Nat.lor m (s.cause base step n)) 0

/-- A 64-bit mask of the words of an array that are not 0. -/
def State.pendMask (s : State) (base step : Nat) : Nat := maskOf (fun n => s.cause base step n != 0)

/-- The lower or upper half of a 64-bit value, by its word address. -/
def half (a base v : Nat) : Nat := if a = base then v % 2 ^ 32 else v / 2 ^ 32 % 2 ^ 32

def countOf (n : Nat) (f : Nat → Bool) : Nat := ((List.range n).filter f).length

/-! ### Computed words -/

/-- Subsystem 12 (R149). -/
def State.timeWord (s : State) (host : Bool) (a : Nat) : Nat :=
  match a with
  | 0xC0000 => s.ts.tsc % 2 ^ 32
  | 0xC0004 => if host then s.ts.tscHiHost else s.get R.TS_TSC_HI
  | 0xC0008 => 2 ^ 24 * s.tq + 2 ^ 7 * s.get R.CLK_STAT.TS_FALLBACK
  | 0xC0010 => s.ts.taiOffset % 2 ^ 32
  | 0xC0014 => s.ts.taiOffset / 2 ^ 32 % 2 ^ 32
  | 0xC0018 => ofInt 64 s.ts.groupOffset % 2 ^ 32
  | 0xC001C => ofInt 64 s.ts.groupOffset / 2 ^ 32
  | 0xC0020 => ofInt 32 s.ts.freq
  | 0xC0024 => ofInt 32 (clampInt (-(2 ^ 31)) (2 ^ 31 - 1) s.ts.lastX)
  | 0xC0028 => s.opsec
  | 0xC002C => s.mram.pwrCycles
  | _ => 0

/-- Subsystems 1 and 2 (R181, R221). -/
def State.laneWord (s : State) (host : Bool) (a : Nat) : Nat :=
  let absent := maskOf (fun n => (s.lane n).absent)
  if a = 0x10000 then s.causes 0x10108 0x40 64
  else if a = 0x10004 ∨ a = 0x10008 then half a 0x10004 (maskOf s.up)
  else if a = 0x1000C ∨ a = 0x10010 then half a 0x1000C absent
  else if a = 0x10014 ∨ a = 0x10018 then half a 0x10014 (s.pendMask 0x10108 0x40)
  else match index 0x10124 0x40 64 a with
    | some n => if host then (s.prbsOf n).hiHost else s.get (R.LN_PRBS_BITS_HI n)
    | none => 0
def State.linkWord (s : State) (a : Nat) : Nat :=
  if a = 0x20000 then s.causes 0x20108 0x40 64
  else if a = 0x20004 ∨ a = 0x20008 then half a 0x20004 (maskOf s.admitted)
  else if a = 0x2000C ∨ a = 0x20010 then half a 0x2000C (s.pendMask 0x20108 0x40)
  else if 0x20100 ≤ a ∧ a < 0x21100 then
    let l := s.link ((a - 0x20100) / 0x40)
    match (a - 0x20100) % 0x40 with
    | 0x04 => l.segs.length
    | _ => 0
  else 0

/-- Subsystem 3 (R430, R431). -/
def State.spineWord (s : State) (host : Bool) (a : Nat) : Nat :=
  let present := match s.spine.map with | some m => m.present | none => 0
  let dup := match s.spine.map with | some m => m.dup | none => 0
  let done : Bool := match s.spine.map with | some m => m.complete | none => false
  let closed : Bool := match s.spine.map with | some m => m.closed | none => false
  let num := match s.spine.map with | some m => m.num | none => 0
  let east := s.linkUp 0
  let west := s.linkUp 1
  let nb (d : Nat) : Nat := if s.spineUp (2 * d) then s.get (R.SL_STAT.NB_POS (2 * d)) else if s.spineUp (2 * d + 1) then s.get (R.SL_STAT.NB_POS (2 * d + 1)) else 0
  let ring := if !east && !west then 0 else if !done then 3 else if closed then 2 else 1
  if a = 0x30004 then
    2 ^ 30 * ring + 2 ^ 29 * b2n done + 2 ^ 22 * popCount 64 present + 2 ^ 16 * nb 0 + 2 ^ 10 * nb 1 + 2 ^ 9 * b2n east + 2 ^ 8 * b2n west + num % 256
  else if a = 0x30008 then 2 ^ 8 * b2n (s.causes 0x30108 0x40 4 != 0)
  else if a = 0x3000C ∨ a = 0x30010 then half a 0x3000C present
  else if a = 0x30014 ∨ a = 0x30018 then half a 0x30014 dup
  else match index 0x30124 0x40 4 a with
    | some i => if host then (s.prbsOf (64 + i)).hiHost else s.get (R.SL_PRBS_BITS_HI i)
    | none => 0

/-- Subsystems 6 and 7 (R251, R253, R278, R279). -/
def State.modWord (s : State) (a : Nat) : Nat :=
  if a = 0x60004 then b2n (s.pw.state == .run)
  else match index 0x61014 0x20 64 a with
    | some k => (match (s.car k).cur with | some p => if p.zero ≤ s.groupTime then (s.groupTime - p.zero) % 2 ^ 26 else 0 | none => 0)
    | none => match index 0x62010 0x20 384 a with | some l => b2n (s.shootOff l) | none => 0
def State.gateWord (s : State) (a : Nat) : Nat :=
  let iso := maskOf (fun n => s.get (R.GSC_STAT.STATE n) != 0)
  if a = 0x70000 then popCount 64 iso
  else if a = 0x70004 then s.causes 0x7010C 0x20 64
  else if a = 0x70018 ∨ a = 0x7001C then half a 0x70018 iso
  else if a = 0x70020 ∨ a = 0x70024 then half a 0x70020 (s.pendMask 0x7010C 0x20)
  else 0

/-- Subsystem 8 (R306 to R308). -/
def State.balWord (s : State) (a : Nat) : Nat :=
  if a = 0x80008 then 2 ^ 7 * b2n (s.causes 0x80408 0x10 64 != 0) + 2 ^ 6 * b2n (s.causes 0x80110 0x20 8 != 0)
  else if a = 0x80010 ∨ a = 0x80014 then half a 0x80010 s.ownedMask
  else if a = 0x80018 ∨ a = 0x8001C then half a 0x80018 (maskOf (fun n => s.balState n == 3))
  else if a = 0x80020 ∨ a = 0x80024 then half a 0x80020 (s.pendMask 0x80408 0x10)
  else
    match index 0x8010C 0x20 8 a, index 0x80404 0x10 64 a with
    | some t, _ =>
      let m := s.members t
      let cnt (f : Nat → Bool) : Nat := countOf 64 (fun n => bitAt m n && f n)
      2 ^ 24 * cnt (fun n => s.balState n == 3) + 2 ^ 16 * cnt s.usable + 2 ^ 8 * cnt (fun n => s.usable n && s.balState n == 1) + popCount 64 m
    | none, some n =>
      (match s.stringOf n with | some t => 2 ^ 26 * t + 2 ^ 25 | none => 0) + 2 ^ 24 * b2n (s.owns n) + 2 ^ 22 * b2n (s.headClosed n)
    | none, none => 0

/-- Subsystem 9 (R334, R335). -/
def State.engineWord (s : State) (a : Nat) : Nat :=
  let bad := Nat.lor s.sec.map.tiles s.mram.badTiles
  if a = 0x90000 then 2 ^ 8 * countOf 128 (fun k => s.ctxState k == 2) + 4 * min 32 s.goodTiles.length
  else if a = 0x90004 then 2 ^ 4 * b2n (s.causes 0x91024 0x80 128 != 0)
  else if a = 0x90008 ∨ a = 0x9000C then half a 0x90008 bad
  else if a = 0x90024 then s.memRead (s.get R.CE_MADDR.MEM) (s.get R.CE_MADDR.WORD % memWords (s.get R.CE_MADDR.MEM))
  else if 0x90028 ≤ a ∧ a < 0x90038 then
    (List.range 32).foldl (fun m j => if s.cause 0x91024 0x80 (8 * (a - 0x90028) + j) != 0 then m + 2 ^ j else m) 0
  else match index 0x91020 0x80 128 a with
    | some k => 2 ^ 26 * b2n (s.unavailable k)
    | none => 0

/-- One code of the raw capture (R404). -/
def State.captureCode (s : State) (c i : Nat) : Nat := ofInt 16 (sext 14 (Config.captured s.wf.capNum c i).toNat)

/-- The good sensor with the highest last reading (R471). -/
def State.hotSensor (s : State) : Nat :=
  ((List.range 12).foldl (fun (b : Nat × Int) n =>
    let t := sext 16 (s.get (R.TH_SENS.TEMP n))
    if !s.bit (R.TH_SENS.FAILED n) && b.2 < t then (n, t) else b) (0, -32768)).1

/-- Valid records of a region (R498). -/
def State.validCount (s : State) (f : Bool) : Nat := ((s.regionSlots f).filter (fun e => e.2.mark)).length

/-- Subsystem 15 (R498). -/
def State.recWord (s : State) (host : Bool) (a : Nat) : Nat :=
  match a with
  | 0xF0004 => 2 ^ 31 * b2n (s.recd.writing.isSome || s.saving.isSome)
  | 0xF000C => 2 ^ 16 * s.validCount true
  | 0xF0010 => 2 ^ 16 * s.validCount false
  | 0xF002C => s.recUnit (s.get R.REC_RADDR.SLOT) (s.get R.REC_RADDR.UNIT) % 2 ^ 32
  | 0xF0030 => if host then s.recd.rdataHiHost else s.get R.REC_RDATA_HI
  | 0xF0038 => 2 ^ 24 * s.byDamage.headD 0xFF + 2 ^ 16 * s.liveLanes.length + s.mram.history.length
  | _ => 0

/-- The clients whose requests are not answered yet, one session each (R529, R535; log 52). -/
def State.clients (s : State) : List Nat :=
  let fwd (t : Tab (List (Nat × UsdoRequest))) : List Nat := t.flatMap (fun e => e.2.map (fun q => q.2.client))
  (fwd s.spine.fwdSent ++ fwd s.spine.fwdWait ++ s.sec.tokens.filterMap (·.client) ++ s.sec.checkFor.toList).eraseDups
/-- Sessions in use, 0 to 4. -/
def State.sessions (s : State) : Nat := if s.isRoot then min 4 s.clients.length else 0

/-- Subsystem 5 (R545). -/
def State.nodeWord (s : State) : Nat :=
  2 ^ 28 * s.pw.state.code + 2 ^ 23 * s.sessions + 2 ^ 19 * (s.net.emcy.length - b2n s.net.emcySending)

/-- Subsystem 16 (R523, R524, R471). -/
def State.secWord (s : State) (a : Nat) : Nat :=
  if a = 0x100000 then
    2 ^ 29 * b2n s.sec.debugOff + 2 ^ 28 * b2n s.sec.engine.isSome + 2 ^ 20 * s.slotBits
  else if a = 0x100008 then 2 ^ 30 * s.mram.bootSel + 2 ^ 29 * b2n s.mram.trial + 2 ^ 28 * b2n s.mram.tried
  else if 0x100010 ≤ a ∧ a < 0x100050 then leVal ((List.range 4).map (fun j => BitVec.ofNat 8 (Tab.get 0 s.sec.counters (a - 0x100010 + j))))
  else if a = 0x100C04 then 2 ^ 8 * s.hotSensor
  else 0

/-- The bits of a word that are computed. -/
def State.computed (s : State) (host : Bool) (a : Nat) : Nat :=
  match a / 65536 with
  | 0x0 => if a = 0 then s.sum else if a = 4 then s.irqPend else 0
  | 0x1 => s.laneWord host a
  | 0x2 => s.linkWord a
  | 0x3 => s.spineWord host a
  | 0x4 => if a = 0x40000 then 2 ^ 28 * s.get R.CLK_STAT.SPREAD_ACT else 0
  | 0x5 => if a = 0x50000 then s.nodeWord else 0
  | 0x6 => s.modWord a
  | 0x7 => s.gateWord a
  | 0x8 => s.balWord a
  | 0x9 => s.engineWord a
  | 0xB =>
    if a = 0xB0004 then 2 ^ 16 * min 16 s.wf.records.length
    else if a = 0xB006C then s.captureCode (s.get R.WF_CADDR.CH) (s.get R.WF_CADDR.INDEX) else 0
  | 0xC => s.timeWord host a
  | 0xD => if a = 0xD0024 then 2 ^ 28 * b2n (s.clk.ckCur == s.get R.CLK_CKOUT.SRC) else 0
  | 0xE =>
    if a = 0xE0010 then 2 ^ 28 * b2n s.nfaultLow
    else match index 0xE0100 0x10 16 a with | some n => 2 ^ 31 * s.get (R.FC_STAT.HELD n) | none => 0
  | 0xF => s.recWord host a
  | 0x10 => s.secWord a
  | _ => 0

/-- Words whose stored latch is part of the computed value. -/
def latchWord (a : Nat) : Bool :=
  a == 0xC0004 || a == 0xF0030 || (index 0x10124 0x40 64 a).isSome || (index 0x30124 0x40 4 a).isSome

/-- A word as firmware or the aperture reads it; an address without a register reads 0 (R540). -/
def State.readWord (s : State) (host : Bool) (a : Nat) : Nat :=
  (if latchWord a then 0 else s.stored a) + s.computed host a

/-- What a read of a word does (R126, R176, R334, R406, R483, R541). -/
def readEffect (host : Bool) (a : Nat) (s : State) : State :=
  if a = 0xC0000 then readTscLo host s
  else if a = 0x90024 then nextMaddr s
  else if a = 0xB006C then s.incWrap R.WF_CADDR.INDEX
  else if a = 0xF002C then readDataLo host s
  else if a = 0xF0030 then s.set R.REC_RADDR.UNIT (s.get R.REC_RADDR.UNIT + 1)
  else
    match index 0x10120 0x40 64 a, index 0x30120 0x40 4 a with
    | some n, _ => readPrbsLo n host s
    | none, some i => readPrbsLo (64 + i) host s
    | none, none => s

end Sys2Proof.Machine
end

