-- ==== Sys2Proof/Machine/Objects.lean ====
section
/-!
DEFINITION. Machine/Objects.lean: the object dictionary (20_object_dictionary.md and the object tables of the other chapters): NMT commands,
every entry with its length, access, range and effect, and reads and writes of entries with their abort codes (R14, R16, R536).
-/
namespace Sys2Proof.Machine

/-! ### NMT, R531, R532 -/

/-- A command that R531 ignores. -/
def nmtIgnored (s : State) : State := raise (Src.FN_NMT_REFUSED) s

/-- Start (0x01): barred from Configure in the cases of R505 and R522. -/
def nmtStart (s : State) : State :=
  match s.pw.state with
  | .configure => if s.startBarred then refuseSec s else enterArmed (exitConfigure s)
  | .safe => safeToArmed s
  | .slate => nmtIgnored s
  | _ => s

/-- Stop (0x02). -/
def nmtStop (s : State) : State :=
  match s.pw.state with
  | .configure | .armed | .run => stopToSafe s
  | .slate => nmtIgnored s
  | _ => s

/-- Enter pre-operational (0x80). -/
def nmtPreOp (s : State) : State :=
  match s.pw.state with
  | .armed => enterConfigure s
  | .run => enterConfigure (runToArmed s)
  | .safe => enterConfigure (leaveSafe s)
  | .slate => nmtIgnored s
  | _ => s

/-- Reset node (0x81). -/
def nmtReset (s : State) : State :=
  match s.pw.state with
  | .configure | .armed | .safe | .slate => requestReset 0xB s
  | .run => nmtIgnored s
  | _ => s

/-- The objects 0x1000 to 0x1FFF take their default values. -/
def defaultComm (s : State) : State :=
  cobResets { s with regs := s.regs.filter (fun e => !((0x10000000 + 0x100000) * 32 ≤ e.1 && e.1 < (0x10000000 + 0x200000) * 32)) }

/-- The bit-rate codes of 0x2002 come into use (R527). -/
def useRates (s : State) : State := s.modNet (fun n => { n with nomRate := s.get O.NOM_RATE, dataRate := s.get O.DATA_RATE })

/-- The run request 0x2001:02 is written (R532): 0 in Run returns the device to Armed. -/
def setRunRequest (v : Bool) (s : State) : State :=
  let s := s.setBit O.RUN_REQUEST v
  if s.pw.state = .run ∧ !v then runToArmed s else s

/-! ### Entries -/

/-- The access codes of R12 at the object level. -/
inductive ObjAcc where
  | const | ro | rw | wo | rwc
  deriving DecidableEq, Repr

/-- The data types that a mapping tells apart (R529). -/
inductive ObjKind where
  | num | str | dom
  deriving DecidableEq, Repr

/-- An object entry (R16): its kind, access, length in bytes (none where it varies), range, value and what a write does. `only` marks a WO entry
that is accepted in Configure only; `bars` is the abort code of a rule of the entry itself, or 0; `late` an effect that follows the answer
(R533); `every` the code that every write has in a state of the device; `token` the command of a signed token (R511), `image` a firmware image. -/
structure Entry where
  kind : ObjKind
  acc : ObjAcc
  len : State → Option Nat
  get : State → List Byte
  put : List Byte → State → State
  ok : List Byte → Bool := fun _ => true
  only : Bool := false
  bars : List Byte → State → Nat := fun _ _ => 0
  every : State → Nat := fun _ => 0
  unread : State → Nat := fun _ => 0
  late : Bool := false
  token : Option Nat := none
  image : Bool := false

/-- A number of `n` bytes. -/
def numEnt (n : Nat) (acc : ObjAcc) (get : State → Nat) (put : Nat → State → State) (ok : Nat → Bool) : Entry :=
  { kind := .num, acc := acc, len := fun _ => some n, get := fun s => leBytes n (get s), put := fun b s => put (leVal b) s, ok := fun b => ok (leVal b) }

def anyVal (_ : Nat) : Bool := true
def noPut (_ : Nat) (s : State) : State := s

def roNum (n : Nat) (get : State → Nat) : Entry := numEnt n .ro get noPut anyVal
def constNum (n v : Nat) : Entry := numEnt n .const (fun _ => v) noPut anyVal
/-- A WO command. -/
def woNum (n : Nat) (ok : Nat → Bool) (put : Nat → State → State) : Entry := numEnt n .wo (fun _ => 0) put ok
def between (lo hi v : Nat) : Bool := lo ≤ v && v ≤ hi
def withinInt (w : Nat) (lo hi : Int) (v : Nat) : Bool := lo ≤ sext w v && sext w v ≤ hi
def bool01 (v : Nat) : Bool := v ≤ 1
def only1 (v : Nat) : Bool := v == 1

/-- A register word. -/
def roWord (a : Nat) : Entry := roNum 4 (fun s => s.readWord true a)
def wordEnt (acc : ObjAcc) (a : Nat) (ok : Nat → Bool) : Entry := numEnt 4 acc (fun s => s.readWord true a) (fun v s => writeWord false a v s) ok

/-- The word that a write of one field gives: the other fields keep their values. -/
def State.fieldWord (s : State) (f : Fld) (v : Nat) : Nat :=
  fieldsWord s ((fieldsAt f.addr).filter (fun g => g != f && (g.acc == .rw || g.acc == .rwc))) + v % 2 ^ f.width * 2 ^ f.lo
def putField (f : Fld) (v : Nat) (s : State) : State := writeWord false f.addr (s.fieldWord f v) s

/-- A register field. -/
def fieldEnt (n : Nat) (acc : ObjAcc) (f : Fld) (ok : Nat → Bool) : Entry := numEnt n acc (fun s => s.get f) (putField f) ok
def roField (n : Nat) (f : Fld) : Entry := roNum n (fun s => s.get f)
/-- An entry without a register. -/
def ownEnt (n : Nat) (acc : ObjAcc) (f : Fld) (ok : Nat → Bool) : Entry := numEnt n acc (fun s => s.get f) (fun v s => s.set f v) ok

/-- A text of 1 to 16 characters. -/
def strEnt (f : Fld) : Entry :=
  { kind := .str, acc := .rwc, len := fun _ => none, get := fun s => (leBytes 16 (s.get f)).takeWhile (fun b => b != 0), put := fun b s => s.set f (leVal b), ok := fun b => 1 ≤ b.length && b.length ≤ 16 }
def constStr (l : List Char) : Entry :=
  { kind := .str, acc := .const, len := fun _ => none, get := fun _ => l.map (fun c => BitVec.ofNat 8 c.toNat), put := fun _ s => s }

/-- A DOMAIN. -/
def roDom (get : State → List Byte) : Entry := { kind := .dom, acc := .ro, len := fun _ => none, get := get, put := fun _ s => s }
def woDom (n : Option Nat) (put : List Byte → State → State) : Entry := { kind := .dom, acc := .wo, len := fun _ => n, get := fun _ => [], put := put }
def tokenDom (acc : ObjAcc) (only : Bool) (cmd : Nat) (get : State → List Byte) : Entry :=
  { kind := .dom, acc := acc, len := fun _ => none, get := get, put := fun b s => writeToken cmd none b s, only := only, token := some cmd }

/-- The words of some addresses as bytes. -/
def State.wordBytes (s : State) (l : List Nat) : List Byte := l.flatMap (fun a => leBytes 4 (s.readWord true a))
def State.word64 (s : State) (a : Nat) : Nat := s.readWord true a + 2 ^ 32 * s.readWord true (a + 4)

/-! ### 0x1000 to 0x1FFF, R529, R530 -/

/-- The error register 0x1001. -/
def State.errorReg (s : State) : Nat :=
  b2n ((List.range 16).any (fun n => s.bit (R.FC_STAT.HELD n))) + 16 * b2n (s.get R.FN_STAT.BUS == 1 || s.get R.FN_STAT.BUS == 2)
    + 128 * b2n (s.inState [.safe])

def hexDigit (n : Nat) : Byte := BitVec.ofNat 8 (if n < 10 then 48 + n else 55 + n)
def State.fwVersion (s : State) : Nat := leAt s.sec.firmware 12 4
/-- 0x100A. -/
def State.versionText (s : State) : List Byte := (List.range 8).map (fun i => hexDigit (s.fwVersion / 16 ^ (7 - i) % 16))

/-- 0x1016, 0x1017 and the other communication objects are RW; an index with no sub-indices has its value at :00. -/
def entStd (idx sub : Nat) : Option Entry :=
  match idx, sub with
  | 0x1000, 0 => some (constNum 4 0)
  | 0x1001, 0 => some (roNum 1 State.errorReg)
  | 0x1003, 0 => some (numEnt 1 .rw (fun s => s.net.errors.length) (fun _ s => s.modNet (fun n => { n with errors := [] })) (fun v => v == 0))
  | 0x1003, k => if k ≤ 8 then some (roNum 4 (fun s => s.net.errors.getD (k - 1) 0)) else none
  | 0x1005, 0 => some (ownEnt 4 .rw O.COB_SYNC anyVal)
  | 0x1008, 0 => some (constStr ['M', 'B', 'L', '7', '2', '6', '4'])
  | 0x1009, 0 => some (constStr ['B', '0'])
  | 0x100A, 0 => some { constStr [] with get := State.versionText }
  | 0x1010, 0 | 0x1011, 0 => some (constNum 1 1)
  | 0x1014, 0 => some (ownEnt 4 .rw O.COB_EMCY anyVal)
  | 0x1016, 0 => some (constNum 1 4)
  | 0x1016, k => if k ≤ 4 then some (ownEnt 4 .rw (O.HB_CONSUMER (k - 1)) anyVal) else none
  | 0x1017, 0 => some (ownEnt 2 .rw O.HB_PRODUCER anyVal)
  | 0x1018, 0 => some (constNum 1 4)
  | 0x1018, 1 => some (roNum 4 (fun _ => 0x0D5A))
  | 0x1018, 2 => some (roNum 4 (fun _ => 0x00072640))
  | 0x1018, 3 => some (roNum 4 (fun s => 0x00B00000 + secVersion s.sec.firmware))
  | 0x1018, 4 => some (roNum 4 (fun _ => Config.serial % 2 ^ 32))
  | _, _ => none

/-- An RPDO may map set-point targets and the run request (R529). -/
def rpdoMaps (v : Nat) : Bool :=
  let idx := v / 2 ^ 16
  let sub := v / 256 % 256
  (0x4000 ≤ idx && idx ≤ 0x407F && 0x20 ≤ sub && sub ≤ 0x27 && v % 256 == 32) || (idx == 0x2001 && sub == 2 && v % 256 == 8)

/-- A mapping of `k` entries names `k` entries of 1 to 64 bytes together. -/
def countOk (f : Nat → Fld) (k : Nat) (s : State) : Bool :=
  let l := (List.range k).map (fun i => s.get (f (i + 1)) % 256 / 8)
  k == 0 || (k ≤ 64 && l.all (fun n => n != 0) && l.sum ≤ 64)

def syncType (lo v : Nat) : Bool := between lo 240 v || v == 254 || v == 255

/-- The RPDO and TPDO objects; `maps` is the rule of R529 for a TPDO. -/
def entPdo (maps : Nat → Bool) (idx sub : Nat) : Option Entry :=
  let j := idx % 4
  if 0x1400 ≤ idx ∧ idx ≤ 0x1403 then
    match sub with
    | 0 => some (constNum 1 2)
    | 1 => some (ownEnt 4 .rw (O.RPDO_COB j) anyVal)
    | 2 => some (ownEnt 1 .rw (O.RPDO_TYPE j) (syncType 0))
    | _ => none
  else if 0x1800 ≤ idx ∧ idx ≤ 0x1803 then
    match sub with
    | 0 => some (constNum 1 5)
    | 1 => some (ownEnt 4 .rw (O.TPDO_COB j) anyVal)
    | 2 => some (ownEnt 1 .rw (O.TPDO_TYPE j) (syncType 1))
    | 5 => some (ownEnt 2 .rw (O.TPDO_TIME j) anyVal)
    | _ => none
  else if (0x1600 ≤ idx ∧ idx ≤ 0x1603) ∨ (0x1A00 ≤ idx ∧ idx ≤ 0x1A03) then
    let tx : Bool := 0x1A00 ≤ idx
    let f (n : Nat) : Fld := if tx then O.TPDO_MAP j n else O.RPDO_MAP j n
    if sub = 0 then
      some { ownEnt 1 .rw (if tx then O.TPDO_COUNT j else O.RPDO_COUNT j) anyVal with bars := fun b s => if countOk f (leVal b) s then 0 else 0x06040041 }
    else if sub ≤ 64 then
      some { ownEnt 4 .rw (f sub) anyVal with bars := fun b _ => let v := leVal b; if v = 0 ∨ (if tx then maps v else rpdoMaps v) then 0 else 0x06040041 }
    else none
  else none

/-- A stored value of a communication object returns. -/
def restoreComm (e : Nat × List Byte) (s : State) : State :=
  if e.1 < 0x200000 then
    match (entStd (e.1 / 256) (e.1 % 256)).or (entPdo anyVal (e.1 / 256) (e.1 % 256)) with
    | some x => x.put e.2 s
    | none => s
  else s

/-- Reset communication (0x82): the CAN controller and the objects 0x1000 to 0x1FFF restart (R527, R531). -/
def nmtResetComm (s : State) : State :=
  if s.inState [.slate, .configure, .armed, .run, .safe] then
    let s := (defaultComm (canRestart s)).each (Tab.get [] s.store.copies s.store.newer) restoreComm
    useRates (s.modNet (fun n => { n with emcySending := false, errors := [], syncs := [], rpdo := [], monitored := 0 }))
  else s

/-- A command specifier, from the bus or written to 0x2001:03 (R533). -/
def nmtCommand (v : Nat) (s : State) : State :=
  match v with
  | 0x01 => nmtStart s
  | 0x02 => nmtStop s
  | 0x80 => nmtPreOp s
  | 0x81 => nmtReset s
  | 0x82 => nmtResetComm s
  | _ => s

/-! ### 0x2000 to 0x2024, R88, R152, R539 -/

/-- The state and group entries. -/
def entNode (idx sub : Nat) : Option Entry :=
  match idx, sub with
  | 0x2000, 1 => some (constStr ['M', 'B', 'L', '7', '2', '6', '4'])
  | 0x2000, 2 => some (constNum 1 0xB0)
  | 0x2000, 3 => some (numEnt 4 .const (fun _ => Config.serial % 2 ^ 32) noPut anyVal)
  | 0x2000, 4 => some (roNum 4 State.fwVersion)
  | 0x2000, 5 => some (roNum 4 (fun s => leAt s.sec.image 12 4))
  | 0x2001, 1 => some (roNum 1 (fun s => s.pw.state.code))
  | 0x2001, 2 => some (numEnt 1 .rw (fun s => s.get O.RUN_REQUEST) (fun v s => setRunRequest (v == 1) s) bool01)
  | 0x2001, 3 => some { woNum 1 (fun v => [0x01, 0x02, 0x80, 0x81, 0x82].contains v) nmtCommand with late := true }
  | 0x2001, 4 => some (roNum 1 State.runBlockers)
  | 0x2002, 1 => some (roNum 1 (fun s => s.pw.straps % 128))
  | 0x2002, 2 => some (roNum 1 State.pos)
  | 0x2002, 3 => some (roNum 1 State.grp)
  | 0x2002, 4 => some (roNum 1 (fun s => b2n (!s.isRoot)))
  | 0x2002, 5 => some (roNum 1 State.partner)
  | 0x2002, 6 => some (roNum 1 (fun s => s.pos + 1))
  | 0x2002, 7 => some (roNum 1 (fun s => 1 + 64 * s.grp))
  | 0x2002, 8 => some (numEnt 1 .rwc (fun s => s.get O.VNET) (fun v s => if v = s.get O.PHYS_NET then refuse (Src.FN_SETTING_REFUSED) s else s.set O.VNET v) (between 2 127))
  | 0x2002, 9 => some (numEnt 1 .rwc (fun s => s.get O.PHYS_NET) (fun v s => if v = s.get O.VNET then refuse (Src.FN_SETTING_REFUSED) s else s.set O.PHYS_NET v) (between 1 127))
  | 0x2002, 0xA => some (ownEnt 1 .rwc O.NOM_RATE (between 0 3))
  | 0x2002, 0xB => some (ownEnt 1 .rwc O.DATA_RATE (between 0 4))
  | 0x2003, 1 => some (roNum 2 State.sum)
  | 0x2003, 2 => some (roNum 2 State.irqPend)
  | 0x2003, 3 => some (fieldEnt 2 .rw R.IRQ_EN.EN anyVal)
  | 0x2003, 4 => some (ownEnt 1 .rwc O.EMCY_CLASS (between 0 3))
  | 0x2010, 1 => some { woNum 1 (between 1 2) (fun v s => hostReset (if v = 1 then 0xB else 0xC) s) with late := true, bars := fun _ s => if s.inState [.run] then 0x08000022 else 0 }
  | 0x2010, 2 => some (roWord 0x100F00)
  | 0x2011, 1 => some (ownEnt 1 .rwc O.RAIL_MS (between 5 200))
  | 0x2011, 2 => some (ownEnt 2 .rwc O.RESTART_MS (between 100 60000))
  | 0x2011, 3 => some (ownEnt 1 .rwc O.AUTO_RESTART bool01)
  | 0x2012, 1 => some (roField 1 R.START_STAT.SLATE_REASON)
  | 0x2012, 2 => some (roField 4 R.FAIL_CAUSES)
  | 0x2012, 3 => some (roField 1 R.START_STAT.FAILED_CONSEC)
  | 0x2012, 4 => some (roField 2 R.START_STAT.FAILED_TOTAL)
  | 0x2012, 5 => some (roNum 1 (fun s => s.pw.failStage))
  | 0x2012, 6 => some (roNum 8 (fun s => s.get64 R.RST_TSC_LO R.RST_TSC_HI))
  | 0x2013, 0 => some (tokenDom .wo false 1 (fun _ => []))
  | _, _ => none

/-- A bin of the holdover temperature table in ppb (R138); NaN until it qualifies. -/
def State.binPpb (s : State) (i : Nat) : Nat :=
  let e := Tab.get ((0 : Rat), 0) s.ts.bins i
  if 64 ≤ e.2 then fRound 8 23 (decide (e.1 < 0)) (absRat e.1 / 10) else 0x7FC00000

/-- SOURCE_SEL takes a new value: the reference in use is lost (R135). Every change of the value counts as a change of source, also one that leaves the
source in use selected, such as 1 to 3 under PTP (DESIGN CHOICE, log 82). -/
def putSource (v : Nat) (s : State) : State :=
  if v = s.get O.SOURCE_SEL then s else refLost (s.set O.SOURCE_SEL v)

/-- A write of 0x2021:06 (R139, R462): T and T_last of another sensor are not used. -/
def putSensor (v : Nat) (s : State) : State :=
  let t := s.set O.COMP_SENSOR v
  if t.compSensor = s.compSensor then t else newSensor t

/-- The timescale entries (R152). -/
def entTime (idx sub : Nat) : Option Entry :=
  match idx, sub with
  | 0x2020, 1 => some (roNum 8 (fun s => s.ts.tsc))
  | 0x2020, 2 => some (roNum 1 State.tq)
  | 0x2020, 3 => some (roNum 8 (fun s => s.ts.taiOffset))
  | 0x2020, 4 => some (roNum 8 (fun s => ofInt 64 s.ts.groupOffset))
  | 0x2020, 5 => some (roNum 1 State.tsState)
  | 0x2020, 6 => some (roNum 4 State.opsec)
  | 0x2020, 7 => some (roNum 4 (fun s => s.mram.pwrCycles))
  | 0x2020, 8 => some (roNum 2 (fun s => ofInt 16 s.utc))
  | 0x2021, 1 => some (numEnt 1 .rwc (fun s => s.get O.SOURCE_SEL) putSource (between 0 3))
  | 0x2021, 2 => some (ownEnt 1 .rwc O.JUMP_POLICY bool01)
  | 0x2021, 3 => some (ownEnt 4 .rwc O.JUMP_THR (between 100 100000))
  | 0x2021, 4 => some (ownEnt 4 .rwc O.HOLD_LIMIT (between 100 1000000))
  | 0x2021, 5 => some (ownEnt 2 .rwc O.DRIFT (between 1 1000))
  | 0x2021, 6 => some (numEnt 1 .rwc (fun s => s.get O.COMP_SENSOR) putSensor (between 0 11))
  | 0x2021, 7 => some (ownEnt 1 .rwc O.PTP_DOMAIN anyVal)
  | 0x2021, 8 => some (ownEnt 2 .rwc O.PTP_VLAN (between 0 4094))
  | 0x2021, 9 => some (ownEnt 1 .rwc O.PTP_PRIO (between 0 7))
  | 0x2021, 0xA => some (ownEnt 4 .rwc O.PPS_CABLE (withinInt 32 (-1000000) 1000000))
  | 0x2022, 1 => some (numEnt 8 .rw (fun s => s.get O.PPS_LABEL) writeLabel (fun v => v < 2 ^ 48))
  | 0x2022, 2 => some (ownEnt 2 .rw O.PPS_UTC (withinInt 16 (-1000) 1000))
  | 0x2023, 1 => some { woNum 1 only1 (fun _ s => adoptEpoch s) with every := fun s => if s.isRoot then 0x08000024 else if s.inState [.run] then 0x08000022 else 0 }
  | 0x2024, 0x11 => some (woNum 1 only1 (fun _ s => s.modTs (fun t => { t with bins := [] })))
  | 0x2024, k => if 1 ≤ k ∧ k ≤ 16 then some (roNum 4 (fun s => s.binPpb (k - 1))) else none
  | _, _ => none

/-! ### Cells: 0x3000 to 0x38FF, R186, R226, R257, R282, R309 -/

/-- A lane's entries. -/
def entLane (n sub : Nat) : Option Entry :=
  match sub with
  | 0x01 => some (fieldEnt 1 .rwc (R.LN_CTRL.EN n) bool01)
  | 0x02 => some (roField 1 (R.LN_STAT.STATE n))
  | 0x03 => some (roField 2 (R.LN_COUNTS.FAILED_ATTEMPTS n))
  | 0x04 => some (roField 2 (R.LN_COUNTS.LOSSES n))
  | 0x05 => some (roField 4 (R.LN_CODEERR n))
  | 0x06 => some (roNum 1 (fun s => s.get (R.LN_STAT.RX_PAD n) + 128 * s.get (R.LN_STAT.RX_INV n)))
  | 0x10 => some (roField 1 (R.LKN_STAT.ADMIT n))
  | 0x11 => some (roField 1 (R.LKN_STAT.ID_RESULT n))
  | 0x12 => some (roDom (fun s => sized 64 (s.link n).digest))
  | 0x13 => some (roDom (fun s => sized 7347 (s.link n).desc))
  | 0x14 => some (fieldEnt 1 .rwc (R.LKN_CTRL.ID_POLICY n) bool01)
  | 0x15 => some (woNum 1 only1 (fun _ s => descFetch n s))
  | 0x16 => some (roField 2 (R.LKN_DELAY.D n))
  | 0x17 => some (numEnt 1 .rw (fun s => s.get (R.LKN_PARAM.ADDR n)) (fun v s => startParam n v 0 false s) anyVal)
  | 0x18 => some (numEnt 2 .rw (fun s => s.get (R.LKN_PARAM.VALUE n)) (fun v s => startParam n (s.get (R.LKN_PARAM.ADDR n)) v true s) anyVal)
  | 0x19 => some (roField 1 (R.LKN_PARAM.STATUS n))
  | 0x1A => some (roNum 4 (fun s => let u := (s.link n).up; upStatA u + 256 * upStatB u + 65536 * upFault u))
  | _ => none

/-- 0x3400, R257. -/
def entMod (sub : Nat) : Option Entry :=
  let i := sub % 8
  match sub with
  | 0x01 => some (fieldEnt 2 .rwc R.MOD_CTRL.MIN_COMMIT (between 0 1023))
  | 0x02 => some (fieldEnt 2 .rwc R.MOD_TREF.TREF (between 0 4095))
  | 0x03 => some (fieldEnt 4 .rwc R.MOD_THOLD.THOLD (between 10240 67108863))
  | 0x04 => some (woNum 2 (between 1 0xFFFF) commitGroups)
  | _ =>
    if 0x10 ≤ sub ∧ sub ≤ 0x17 then some (wordEnt .rwc (0x60100 + 0x10 * i) anyVal)
    else if 0x18 ≤ sub ∧ sub ≤ 0x1F then some (roWord (0x60108 + 0x10 * i))
    else if 0x20 ≤ sub ∧ sub ≤ 0x27 then some (woNum 1 only1 (fun _ s => tripClr i s))
    else none

/-- 0x3600, R282. -/
def entGate (sub : Nat) : Option Entry :=
  match sub with
  | 0x01 => some (wordEnt .rwc 0x70008 anyVal)
  | 0x02 => some (fieldEnt 2 .rwc R.GS_UVDEF.UV_HS_DEF (between 0 65534))
  | 0x03 => some (fieldEnt 2 .rwc R.GS_UVDEF.UV_LS_DEF (between 0 65534))
  | 0x04 => some (fieldEnt 2 .rwc R.GS_UVCFG.HYS (between 0 1023))
  | 0x05 => some (fieldEnt 2 .rwc R.GS_UVCFG.WARN (between 0 4095))
  | 0x06 => some (fieldEnt 2 .rwc R.GS_TEMP.TEMP_WARN (withinInt 16 (-4000) 25000))
  | 0x07 => some (fieldEnt 2 .rwc R.GS_TEMP.TEMP_TRIP (withinInt 16 (-4000) 25000))
  | 0x08 => some (roNum 8 (fun s => s.word64 0x70018))
  | 0x09 => some (woNum 1 (between 0 63) clearCell)
  | _ => if 0x40 ≤ sub ∧ sub ≤ 0x7F then some (roWord (0x70108 + 0x20 * (sub - 0x40))) else none

/-- 0x3800, R309. -/
def entBal (sub : Nat) : Option Entry :=
  let t := sub % 8
  match sub with
  | 0x01 => some (fieldEnt 1 .rwc R.BAL_CTRL.PREFER bool01)
  | 0x02 => some (fieldEnt 1 .rwc R.BAL_CTRL.HANDBACK (between 0 2))
  | 0x03 => some (fieldEnt 2 .rwc R.BAL_CTRL.HB_QUAL (between 1 600))
  | 0x04 => some (fieldEnt 1 .rwc R.BAL_CTRL.AUTO_INSERT bool01)
  | 0x05 => some (woNum 1 only1 (fun _ s => handbackGo s))
  | 0x06 => some (roWord 0x80004)
  | 0x07 => some (roNum 8 (fun s => s.word64 0x80010))
  | 0x08 => some (roNum 8 (fun s => s.word64 0x80018))
  | 0x28 => some (woNum 1 (between 0 63) insertCell)
  | 0x29 => some (woNum 1 (between 0 63) parkCell)
  | _ =>
    if 0x10 ≤ sub ∧ sub ≤ 0x17 then some (wordEnt .rwc (0x80100 + 0x20 * t) anyVal)
    else if 0x18 ≤ sub ∧ sub ≤ 0x1F then some (numEnt 8 .rwc (fun s => s.members t) (fun v s => writeMembers t v s) anyVal)
    else if 0x20 ≤ sub ∧ sub ≤ 0x27 then some (roWord (0x8010C + 0x20 * t))
    else none

/-! ### Contexts: 0x4000 to 0x407F, R339 -/

/-- The coefficient region of a context in a bank (1 A, 2 B), as bytes. -/
def State.coefBytes (s : State) (bank k : Nat) : List Byte :=
  (List.range (s.get (R.CX_COEF.COEF_LEN k))).flatMap (fun i => leBytes 4 (s.memRead bank ((s.get (R.CX_COEF.COEF_BASE k) + i) % 16384)))

/-- A whole region is replaced in one write (R327). -/
def writeCoefs (bank k : Nat) (b : List Byte) (s : State) : State :=
  s.each (List.range (s.get (R.CX_COEF.COEF_LEN k))) (fun i s => memWrite bank ((s.get (R.CX_COEF.COEF_BASE k) + i) % 16384) (leAt b (4 * i) 4) s)

def coefEnt (bank k : Nat) : Entry :=
  { kind := .dom, acc := .rw, len := fun s => some (4 * s.get (R.CX_COEF.COEF_LEN k)), get := fun s => s.coefBytes bank k, put := writeCoefs bank k }

/-- A context's entries. -/
def entCtx (k sub : Nat) : Option Entry :=
  let a := 0x91000 + 0x80 * k
  match sub with
  | 0x01 => some (wordEnt .rwc a anyVal)
  | 0x02 => some (wordEnt .rwc (a + 0x04) anyVal)
  | 0x03 => some (wordEnt .rwc (a + 0x08) (between 5120 67108863))
  | 0x04 => some (wordEnt .rwc (a + 0x0C) (between 0 67108863))
  | 0x05 => some (wordEnt .rwc (a + 0x10) anyVal)
  | 0x06 => some (wordEnt .rwc (a + 0x14) anyVal)
  | 0x07 => some (wordEnt .rwc (a + 0x18) anyVal)
  | 0x10 => some (roWord (a + 0x20))
  | 0x11 => some (woNum 1 only1 (fun _ s => restart k s))
  | 0x12 => some (woNum 1 only1 (fun _ s => trigger k s))
  | 0x13 => some (woNum 1 (between 1 3) (fun v s => bankReq k v s))
  | 0x14 => some (roWord (a + 0x2C))
  | 0x15 => some (roWord (a + 0x28))
  | 0x16 => some (roWord (a + 0x30))
  | 0x17 => some (roDom (fun s => s.wordBytes ((List.range 16).map (fun i => a + 0x40 + 4 * i))))
  | 0x18 => some (numEnt 1 .rw (fun s => s.get (R.CX_HCFG.SHIFT k)) (fun v s => writeWord false (a + 0x34) v s) (between 0 15))
  | 0x38 => some (numEnt 1 .rw (fun s => s.get (R.CX_CFG.SP_FREEZE k)) (fun v s => if (v == 1) == s.bit (R.CX_CFG.SP_FREEZE k) then s else writeFreeze k (v == 1) s) bool01)
  | 0x40 => some (coefEnt 1 k)
  | 0x41 => some (coefEnt 2 k)
  | _ =>
    let j := 4 * (sub % 8)
    if 0x20 ≤ sub ∧ sub ≤ 0x27 then some (wordEnt .rw (0x96000 + 0x40 * k + j) finite32)
    else if 0x28 ≤ sub ∧ sub ≤ 0x2F then some (wordEnt .rw (0x96020 + 0x40 * k + j) (fun v => !badMagnitude v))
    else if 0x30 ≤ sub ∧ sub ≤ 0x37 then some (roWord (0x98000 + 0x20 * k + j))
    else none

/-! ### 0x4400, 0x4600, 0x4800, R388, R407, R433 -/

def entMet (sub : Nat) : Option Entry :=
  match sub with
  | 0x01 => some (wordEnt .rwc 0xA000C anyVal)
  | 0x02 => some (ownEnt 2 .rwc O.IDCODE (between 1 65534))
  | 0x03 => some (strEnt O.STATION)
  | 0x04 => some (wordEnt .rw 0xA0010 (fun v => !badMagnitude v))
  | 0x05 => some (wordEnt .rw 0xA0014 (fun v => !badMagnitude v))
  | 0x06 => some (ownEnt 8 .rwc O.BLOCKS (fun v => popCount 64 v ≤ 8))
  | 0x07 => some (roField 2 R.PMU_CFGCNT.CFGCNT)
  | 0x08 => some (ownEnt 1 .rwc O.TX_START bool01)
  | 0x40 => some (ownEnt 6 .rwc O.MAC anyVal)
  | 0x41 => some (ownEnt 4 .rwc O.SRC_IP anyVal)
  | 0x42 => some (ownEnt 6 .rwc O.DST_MAC anyVal)
  | 0x43 => some (ownEnt 4 .rwc O.DST_IP anyVal)
  | 0x44 => some (ownEnt 4 .rwc O.PORTS anyVal)
  | 0x45 => some (ownEnt 2 .rwc O.EG_VLAN anyVal)
  | 0x46 => some (ownEnt 1 .rwc O.DSCP (between 0 63))
  | 0x47 => some (ownEnt 1 .rwc O.AUTO_NEG bool01)
  | _ =>
    if 0x10 ≤ sub ∧ sub ≤ 0x1B then some (wordEnt .rwc (0xA0400 + 0x10 * (sub - 0x10)) anyVal)
    else if 0x20 ≤ sub ∧ sub ≤ 0x2F then some (strEnt (O.CHNAM (sub - 0x20)))
    else none

def entWave (sub : Nat) : Option Entry :=
  match sub with
  | 0x01 => some (wordEnt .rwc 0xB0000 anyVal)
  | 0x02 => some (wordEnt .rwc 0xB0010 (within32 0 600000))
  | 0x03 => some (wordEnt .rwc 0xB0014 (within32 150 300))
  | 0x04 => some (wordEnt .rwc 0xB0018 (within32 100 300))
  | 0x05 => some (wordEnt .rw 0xB0058 anyVal)
  | 0x06 => some (woNum 1 (between 1 2) (fun v s => if v = 1 then wfArm s else wfStopCapture s))
  | 0x07 => some (roWord 0xB005C)
  | 0x08 => some (woNum 1 only1 (fun _ s => wfStart s))
  | 0x20 => some (roWord 0xB0004)
  | 0x21 => some (roNum 4 (fun s => s.wf.num % 2 ^ 32))
  | 0x22 => some (numEnt 4 .rw (fun s => s.get O.WF_SELECT) selectRecordWf anyVal)
  | 0x23 => some (roDom (fun s => sized 512 s.wf.selected))
  | _ =>
    if 0x10 ≤ sub ∧ sub ≤ 0x15 then some (wordEnt .rwc (0xB0040 + 4 * (sub - 0x10)) (fun v => !badMagnitude v))
    else if 0x16 ≤ sub ∧ sub ≤ 0x1B then some (wordEnt .rwc (0xB0020 + 4 * (sub - 0x16)) finite32)
    else if 0x1C ≤ sub ∧ sub ≤ 0x1D then some (fieldEnt 2 .rwc (R.WF_CAL.DELAY (sub - 0x1C)) anyVal)
    else if 0x30 ≤ sub ∧ sub ≤ 0x33 then some (roDom (fun s => (List.range 65536).flatMap (fun i => leBytes 2 (s.captureCode (sub - 0x30) i))))
    else none

def entSpine (sub : Nat) : Option Entry :=
  let i := sub % 4
  match sub with
  | 0x01 => some (fieldEnt 2 .rwc R.SP_CTRL.FWD_TIMEOUT (between 1 1000))
  | 0x02 => some (roWord 0x30004)
  | 0x03 => some (roNum 8 (fun s => s.word64 0x3000C))
  | 0x04 => some (roNum 8 (fun s => s.word64 0x30014))
  | 0x05 => some (roWord 0x3001C)
  | _ =>
    if 0x10 ≤ sub ∧ sub ≤ 0x13 then some (fieldEnt 1 .rwc (R.SL_CTRL.EN i) bool01)
    else if 0x14 ≤ sub ∧ sub ≤ 0x17 then some (roWord (0x30104 + 0x40 * i))
    else if 0x18 ≤ sub ∧ sub ≤ 0x1B then some (roWord (0x3010C + 0x40 * i))
    else if 0x1C ≤ sub ∧ sub ≤ 0x1F then some (fieldEnt 1 .rwc (R.SL_CTRL.PRECODE_REQ i) bool01)
    else none

/-! ### 0x4A00, 0x4C00, 0x4E00, R459, R472, R499 -/

def entColl (sub : Nat) : Option Entry :=
  match sub with
  | 0x01 => some (wordEnt .rwc 0xE0000 anyVal)
  | 0x02 => some (numEnt 2 .rw (fun s => s.readWord true 0xE0004 % 65536) writeHeld anyVal)
  | 0x03 => some (numEnt 2 .rw (fun s => s.readWord true 0xE0008 % 65536) writeLost anyVal)
  | 0x04 => some (numEnt 4 .rwc (fun s => s.readWord true 0xE0014) (fun v s => writeWord false 0xE0014 (v % 2 ^ 31) s) anyVal)
  | 0x05 => some (roWord 0xE0018)
  | 0x06 => some (woNum 1 only1 (fun _ s => unlatch s))
  | 0x07 => some (numEnt 1 .rw (fun s => s.get R.FC_NFAULT.DRIVE) (fun v s => writeDrive (v == 1) s) bool01)
  | 0x08 => some (woNum 4 anyVal (fun v s => writeWord false 0xE001C v s))
  | 0x09 => some (wordEnt .rw 0xE0020 anyVal)
  | 0x0A => some (wordEnt .rw 0xE0024 (between 0 131071))
  | 0x30 => some (roDom (fun s => s.wordBytes [0xE0030, 0xE0034, 0xE0038]))
  | _ =>
    let n := sub % 16
    if 0x10 ≤ sub ∧ sub ≤ 0x1F then some (wordEnt .rwc (0xE0040 + 4 * n) anyVal)
    else if 0x20 ≤ sub ∧ sub ≤ 0x2F then some (roDom (fun s => s.wordBytes [0xE0100 + 0x10 * n, 0xE0104 + 0x10 * n, 0xE0108 + 0x10 * n]))
    else if 0x31 ≤ sub ∧ sub ≤ 0x39 then some (roWord (0xE0200 + 4 * (sub - 0x31)))
    else none

/-- The newer valid copy of a live slot as its 1,280 bytes (R494, R496); no valid copy reads as zeros (log 55). -/
def State.liveSlot (s : State) (n : Nat) : List Byte :=
  let a := Tab.get {} s.mram.copyA n
  let b := Tab.get {} s.mram.copyB n
  let c := if a.mark && (!b.mark || later a.seq b.seq || a.seq == b.seq) then a else b
  match c.mark, c.life with | true, some l => l.image 0xA5C35A3C 1 | _, _ => List.replicate 1280 0

def O.HIST_SEL : Fld := obj 0x4C00 0x13 16 .rw 0
def O.REC_SEL : Fld := obj 0x4C00 7 32 .rw 0

def State.histSlot (s : State) (i : Nat) : List Byte :=
  match s.histAt i with | some l => l.image 0xA5C35A3C 2 | none => List.replicate 1280 0

/-- A record is selected (R485). -/
def putRecSelect (v : Nat) (s : State) : State :=
  if (s.slotOfSeq v).isSome then selectRecord v (s.set O.REC_SEL v) else selectRecord v s

/-- The words of a life model. -/
def modelWords (t : Nat) : List Nat := (List.range 7).map (fun i => 0xF0100 + 0x20 * t + 4 * i)

/-- A life model is written whole: one bad word refuses it (R498). -/
def putModel (t : Nat) (b : List Byte) (s : State) : State :=
  let bad (i : Nat) : Bool := badMagnitude (leAt b (4 * i) 4) || (i == 3 && zero32 (leAt b (4 * i) 4))
  if (List.range 7).any bad then refuse (Src.REC_SETTING_REFUSED) s
  else s.each (List.range 7) (fun i s => writeWord false (0xF0100 + 0x20 * t + 4 * i) (leAt b (4 * i) 4) s)

def entRec (sub : Nat) : Option Entry :=
  match sub with
  | 0x01 => some (wordEnt .rwc 0xF0000 anyVal)
  | 0x02 => some (roWord 0xF0014)
  | 0x03 => some (roWord 0xF000C)
  | 0x04 => some (roWord 0xF0010)
  | 0x05 => some (roNum 8 (fun s => s.get R.REC_LOST01.CONTROL + 2 ^ 16 * s.get R.REC_LOST01.DATA + 2 ^ 32 * s.get R.REC_LOST2.MANAGEMENT))
  | 0x06 => some (roWord 0xF0020)
  | 0x07 => some (numEnt 4 .rw (fun s => s.get O.REC_SEL) putRecSelect (fun v => 1 ≤ v))
  | 0x08 => some (roDom (fun s => sized 128 s.recd.selected))
  | 0x10 => some (wordEnt .rwc 0xF0034 anyVal)
  | 0x11 => some (roWord 0xF0038)
  | 0x12 => some (roDom (fun s => ((s.byDamage.map (fun n => BitVec.ofNat 8 n)) ++ List.replicate 64 0xFF).take 64))
  | 0x13 => some (ownEnt 2 .rw O.HIST_SEL (between 0 255))
  | 0x14 => some { kind := .dom, acc := .rw, len := fun _ => some 1280, get := fun s => s.histSlot (s.get O.HIST_SEL), put := importSlot, only := true }
  | _ =>
    if 0x20 ≤ sub ∧ sub ≤ 0x5F then some (roDom (fun s => s.liveSlot (sub - 0x20)))
    else if 0x60 ≤ sub ∧ sub ≤ 0x67 then
      some { kind := .dom, acc := .rwc, len := fun _ => some 28, get := fun s => s.wordBytes (modelWords (sub - 0x60)), put := putModel (sub - 0x60) }
    else none

def entTherm (sub : Nat) : Option Entry :=
  match sub with
  | 0x01 => some (numEnt 4 .rwc (fun s => s.readWord true 0x100C00) (fun v s => writeWord false 0x100C00 (setBitAt v 30 false) s) anyVal)
  | 0x02 => some (fieldEnt 1 .rwc R.TH_LIMITS.WARN (between 60 125))
  | 0x03 => some (fieldEnt 1 .rwc R.TH_LIMITS.THROT (between 60 125))
  | 0x04 => some (fieldEnt 1 .rwc R.TH_LIMITS.SHUT (between 100 130))
  | 0x05 => some (roWord 0x100C04)
  | 0x06 => some (roWord 0x100C10)
  | 0x07 => some (woNum 1 only1 (fun _ s => clearPeak s))
  | _ => if 0x10 ≤ sub ∧ sub ≤ 0x1B then some (roField 2 (R.TH_SENS.TEMP (sub - 0x10))) else none

/-! ### 0x5000, R525 -/

/-- The identity certificate (R517). -/
def certificate : List Byte :=
  leBytes 4 0x424D4449 ++ leBytes 2 1 ++ leBytes 2 0 ++ leBytes 4 Config.serial ++ leBytes 4 0 ++ sized 2592 Config.identityKey
    ++ sized 4627 Config.identitySig

/-- The repair map as its 4,096 bytes: the spec gives the size and the fields of the copy but not their places (log 56). -/
def RepairMap.image (p : RepairMap) (seq : Nat) : List Byte :=
  let pairs (l : List (Nat × Nat)) : List Byte := l.flatMap (fun e => leBytes 1 e.1 ++ leBytes 2 e.2)
  sized 4096 (leBytes 4 seq ++ leBytes 5 p.tiles ++ leBytes 8 p.pads ++ leBytes 2 p.spares ++ leBytes 13 p.lost ++ leBytes 2 p.rows.length
    ++ leBytes 2 p.cols.length ++ pairs p.rows ++ pairs p.cols)

def State.mapBytes (s : State) : List Byte :=
  match s.mram.mapCopy with | some b => (s.mram.copyOf b).map.image (s.mram.copyOf b).seq | none => List.replicate 4096 0

/-- The digest of an owner key slot; zero when EMPTY. -/
def State.slotDigest (s : State) (i : Nat) : List Byte :=
  if s.slotState i = 0 then List.replicate 64 0 else leBytes 64 (Tab.get 0 s.sec.slotDigest i).toNat

def entSec (sub : Nat) : Option Entry :=
  match sub with
  | 0x01 => some (roWord 0x100000)
  | 0x02 => some (roWord 0x100008)
  | 0x03 => some { woDom none (fun b s => writeFirmware none b s) with only := true, image := true }
  | 0x04 => some (woNum 1 only1 tryFirmware)
  | 0x05 => some { woDom none (fun b s => writeImage b s) with only := true }
  | 0x08 => some (woNum 1 (between 0 63) advanceCtr)
  | 0x09 => some (roDom (fun s => (List.range 64).map (fun i => BitVec.ofNat 8 (Tab.get 0 s.sec.counters i))))
  | 0x0A => some (roWord 0x10000C)
  | 0x0B => some (roDom (fun _ => leBytes 64 Config.vendorRoot.toNat))
  | 0x10 => some (tokenDom .wo true 2 (fun _ => []))
  | 0x11 => some (tokenDom .rwc false 4 State.makerList)
  | 0x12 => some (roDom (fun _ => sized 2592 Config.identityKey))
  | 0x13 => some (roDom (fun _ => certificate))
  | 0x14 => some (woDom (some 32) (fun b s => writeNonce b s))
  | 0x15 => some { roDom (fun s => s.sec.report) with unread := fun s => if s.sec.report = [] then 0x08000022 else 0 }
  | 0x16 => some (roDom State.mapBytes)
  | _ => if 0x0C ≤ sub ∧ sub ≤ 0x0F then some (roDom (fun s => s.slotDigest (sub - 0x0C))) else none

/-! ### The dictionary -/

/-- The highest sub-index of a record of 0x2000 to 0x5FFF; none where the index is not offered (R537, R538). -/
def highest (idx : Nat) : Option Nat :=
  match idx with
  | 0x2000 => some 0x05
  | 0x2001 => some 0x04
  | 0x2002 => some 0x0B
  | 0x2003 => some 0x04
  | 0x2010 => some 0x02
  | 0x2011 => some 0x03
  | 0x2012 => some 0x06
  | 0x2013 => some 0x00
  | 0x2020 => some 0x08
  | 0x2021 => some 0x0A
  | 0x2022 => some 0x02
  | 0x2023 => some 0x01
  | 0x2024 => some 0x11
  | 0x3400 => some 0x27
  | 0x3600 => some 0x7F
  | 0x3800 => some 0x29
  | 0x4400 => some 0x47
  | 0x4600 => some 0x33
  | 0x4800 => some 0x1F
  | 0x4A00 => some 0x39
  | 0x4C00 => some 0x67
  | 0x4E00 => some 0x1B
  | 0x5000 => some 0x16
  | _ =>
    if 0x3000 ≤ idx ∧ idx ≤ 0x303F then some 0x1A
    else if 0x4000 ≤ idx ∧ idx ≤ 0x407F then some 0x41
    else if 0x5800 ≤ idx ∧ idx ≤ 0x5FFF then some 0x80
    else none

/-- The standard objects (R530). -/
def standard (idx : Nat) : Bool :=
  [0x1000, 0x1001, 0x1003, 0x1005, 0x1008, 0x1009, 0x100A, 0x1010, 0x1011, 0x1014, 0x1016, 0x1017, 0x1018].contains idx
    || (idx % 256 < 4 && [0x14, 0x16, 0x18, 0x1A].contains (idx / 256))

/-- The register word that an aperture entry reaches (R540). -/
def apertureAddr (idx sub : Nat) : Nat :=
  let k := idx - 0x5800
  65536 * (k / 0x80 + 1) + 0x200 * (k % 0x80) + 4 * (sub - 1)

/-- The entry of a sub-index above 0 of a record. -/
def entRecord (idx sub : Nat) : Option Entry :=
  if idx < 0x2020 then entNode idx sub
  else if idx < 0x3000 then entTime idx sub
  else if idx < 0x3400 then entLane (idx - 0x3000) sub
  else if idx < 0x4000 ∨ idx ≥ 0x4400 then
    match idx with
    | 0x3400 => entMod sub
    | 0x3600 => entGate sub
    | 0x3800 => entBal sub
    | 0x4400 => entMet sub
    | 0x4600 => entWave sub
    | 0x4800 => entSpine sub
    | 0x4A00 => entColl sub
    | 0x4C00 => entRec sub
    | 0x4E00 => entTherm sub
    | 0x5000 => entSec sub
    | _ =>
      if 0x5800 ≤ idx ∧ 1 ≤ sub ∧ sub ≤ 0x80 then
        let a := apertureAddr idx sub
        some (numEnt 4 .rw (fun s => s.readWord true a) (fun v s => writeWord true a v s) anyVal)
      else none
  else entCtx (idx - 0x4000) sub

/-- A TPDO may map an RO or RW entry of 1 to 8 bytes that is no DOMAIN and no VISIBLE_STRING (R529). -/
def tpdoMaps (v : Nat) : Bool :=
  let idx := v / 2 ^ 16
  let sub := v / 256 % 256
  let e := if idx < 0x2000 then entStd idx sub else if sub = 0 then none else (highest idx).bind (fun _ => entRecord idx sub)
  match e with
  | some e => e.kind == .num && (e.acc == .ro || e.acc == .rw) && 8 * (e.get {}).length == v % 256
  | none => false

/-! ### The stored configuration, R537 -/

/-- The indices that hold stored entries. -/
def savedIdx : List Nat :=
  [0x1005, 0x1014, 0x1016, 0x1017] ++ [0x1400, 0x1600, 0x1800, 0x1A00].flatMap (fun b => (List.range 4).map (fun j => b + j))
    ++ [0x2002, 0x2003, 0x2021] ++ lanes64.map (fun n => 0x3000 + n) ++ [0x3400, 0x3600, 0x3800] ++ ctxs128.map (fun k => 0x4000 + k)
    ++ [0x4400, 0x4600, 0x4800, 0x4A00, 0x4C00, 0x4E00]

/-- An entry that holds configuration: RW below 0x2000, RWC above it, and the set-points, steps and coefficient banks. -/
def savedEnt (idx sub : Nat) : Option Entry :=
  if idx < 0x2000 then ((entStd idx sub).or (entPdo tpdoMaps idx sub)).filter (fun e => e.acc == .rw)
  else if sub = 0 then none
  else (entRecord idx sub).filter (fun e => e.acc == .rwc
    || (0x4000 ≤ idx && idx ≤ 0x407F && ((0x20 ≤ sub && sub ≤ 0x2F) || sub == 0x40 || sub == 0x41)))

/-- The configuration as a list of writes in rising order. -/
def State.savedConfig (s : State) : List (Nat × List Byte) :=
  savedIdx.flatMap (fun idx => (List.range 0x80).filterMap (fun sub => (savedEnt idx sub).map (fun e => (256 * idx + sub, e.get s))))

/-- Store: the older of the two copies takes the configuration. -/
def storeConfig (s : State) : State :=
  let o := if Tab.get [] s.store.copies s.store.newer = [] then s.store.newer else 1 - s.store.newer
  { s with store := { copies := Tab.set [] s.store.copies o s.savedConfig, newer := o } }

/-- Restore: both copies are erased. -/
def eraseConfig (s : State) : State := { s with store := {} }

/-- The signatures of 0x1010:01 and 0x1011:01. -/
def storeSig : Nat := 0x65766173
def restoreSig : Nat := 0x64616F6C

/-- The standard objects with the commands of R537, which read 1. -/
def entStandard (idx sub : Nat) : Option Entry :=
  if idx = 0x1010 ∧ sub = 1 then some { numEnt 4 .rw (fun _ => 1) (fun _ s => storeConfig s) (fun v => v == storeSig) with only := true }
  else if idx = 0x1011 ∧ sub = 1 then some { numEnt 4 .rw (fun _ => 1) (fun _ s => eraseConfig s) (fun v => v == restoreSig) with only := true }
  else (entStd idx sub).or (entPdo tpdoMaps idx sub)

/-- The entry of an index and sub-index. -/
def entryOf (idx sub : Nat) : Option Entry :=
  if idx < 0x2000 then entStandard idx sub
  else if sub = 0 ∧ idx ≠ 0x2013 then (highest idx).map (fun h => constNum 1 h)
  else entRecord idx sub

/-- An index is part of the dictionary. -/
def offered (idx : Nat) : Bool := if idx < 0x2000 then standard idx else (highest idx).isSome

/-- The entries of Slate (R78, R79, R525, R538). -/
def inSlate (romOnly : Bool) (idx sub : Nat) : Bool :=
  if romOnly then [0x1000, 0x1018, 0x2012, 0x2013].contains idx
  else [0x1000, 0x1001, 0x1018].contains idx || (0x2000 ≤ idx && idx ≤ 0x2013) || (idx == 0x5000 && 0x0B ≤ sub && sub ≤ 0x0F)

/-- The entry that a request names, or the abort code (R536). -/
def State.lookup (s : State) (idx sub : Nat) : Except Nat Entry :=
  if !offered idx || (s.inState [.slate] && !inSlate s.pw.romOnly idx sub) then .error 0x06020000
  else match entryOf idx sub with | some e => .ok e | none => .error 0x06090011

/-- What else a read of an entry does: the read latches and read pointers of R541. -/
def readTouch (idx sub : Nat) (s : State) : State := if 0x5800 ≤ idx ∧ 1 ≤ sub then readEffect true (apertureAddr idx sub) s else s

/-- A read of an entry: its abort code or 0, its bytes, and the state after. -/
def readEntry (idx sub : Nat) (s : State) : Nat × List Byte × State :=
  match s.lookup idx sub with
  | .error a => (a, [], s)
  | .ok e =>
    if e.acc = .wo then (0x06010001, [], s)
    else if e.unread s ≠ 0 then (e.unread s, [], s)
    else (0, e.get s, readTouch idx sub s)

/-- The leaves that show a refused write. -/
def refusals : List Fld :=
  [R.LA_CAUSE.SETTING_REFUSED, R.SP_CAUSE.SETTING_REFUSED, R.FN_CAUSE.SETTING_REFUSED, R.MOD_CAUSE.SETTING_REFUSED, R.MOD_CAUSE.TRIP_CLR_REFUSED,
    R.GS_CAUSE.SETTING_REFUSED, R.BAL_CAUSE.SETTING_REFUSED, R.CE_CAUSE.SETTING_REFUSED, R.MET_CAUSE.SETTING_REFUSED, R.WF_CAUSE.SETTING_REFUSED,
    R.CLK_CAUSE.SETTING_REFUSED, R.FC_CAUSE.SETTING_REFUSED, R.REC_CAUSE.SETTING_REFUSED, R.SEC_CAUSE.SETTING_REFUSED, R.TH_CAUSE.SETTING_REFUSED]
    ++ lanes64.map R.GSC_CAUSE.CLEAR_REFUSED ++ ctxs128.map R.CX_CAUSE.RESTART_REFUSED

/-- A rule of the block refuses a write (R16): it would set one of those leaves were it clear. -/
def State.refuses (s : State) (f : State → State) : Bool :=
  let s' := f (s.each refusals (fun r s => s.set r 0))
  refusals.any s'.bit

/-- The abort code of a write before its effect: access, what refuses every write (R148), length, state, range, and the entry's own rules (R16, R536; log 57). -/
def Entry.bar (e : Entry) (b : List Byte) (s : State) : Nat :=
  if e.acc = .const ∨ e.acc = .ro then 0x06010002
  else if e.every s ≠ 0 then e.every s
  else if !((e.len s).all (fun n => n == b.length)) then 0x06070010
  else if (e.acc = .rwc ∨ e.only) ∧ !s.inState [.configure] then 0x08000022
  else if !e.ok b then 0x06090030
  else e.bars b s

/-- The abort code of a program image that was refused (R510). -/
def imageAbort (s : State) (b : List Byte) : Nat :=
  let c := s.imageCode b
  if c = 0 then 0 else if c = 1 ∧ b.length ≠ leAt b 8 4 then 0x06070010 else 0x08000024

/-- A write of an entry without an answer: its abort code or 0, and the state after. An aperture access never aborts for its block (R540). -/
def writeEntry (idx sub : Nat) (b : List Byte) (s : State) : Nat × State :=
  match s.lookup idx sub with
  | .error a => (a, s)
  | .ok e =>
    let a := e.bar b s
    if a ≠ 0 then (a, s)
    else if 0x5800 ≤ idx ∨ e.late ∨ e.token.isSome ∨ e.image then (0, e.put b s)
    else if idx = 0x5000 ∧ sub = 5 then (imageAbort s b, e.put b s)
    else (if s.refuses (e.put b) then 0x08000024 else 0, e.put b s)

end Sys2Proof.Machine
end

