-- ==== Sys2Proof/Machine/Network.lean ====
section
/-!
DEFINITION. Machine/Network.lean: the field-network node (20_object_dictionary.md) and the forwarding of requests over the spine (R425):
USDO transfers, PDOs, SYNC, heartbeats, emergency messages, the stored configuration and the entry to Configure.
-/
namespace Sys2Proof.Machine

def State.modSpine (s : State) (f : Spine → Spine) : State := { s with spine := f s.spine }

/-- The dictionary is offered: in every state from Slate on (R538, R539). -/
def State.served (s : State) : Bool := s.inState [.slate, .configure, .armed, .run, .safe]

/-! ### Serving a request, R535 -/

/-- Of the writes to one entry that complete at the Root in one core cycle, the one from the lower client node ID applies first (R535): those of
higher ones that came before it in the queue stand over it. A write-only entry holds nothing and takes them as they come. -/
def higherWrites (client idx sub : Nat) (b : List Byte) (wo : Bool) (s : State) : State :=
  if !s.isRoot ∨ wo then s
  else
    let higher := s.cyc.entries.filter (fun w => w.2.1 == 256 * idx + sub && client < w.1)
    (s.each higher (fun w s => (writeEntry idx sub w.2.2 s).2)).modCyc (fun c => { c with entries := c.entries ++ [(client, 256 * idx + sub, b)] })

/-- A write is served and answered. A token, and a firmware image, is answered when its check ends (R510, R511); a reset follows its
answer (R533). -/
def serveWrite (client idx sub : Nat) (b : List Byte) (s : State) : State :=
  match s.lookup idx sub with
  | .error a => answerTo (some client) a [] s
  | .ok e =>
    let a := e.bar b s
    if a ≠ 0 then answerTo (some client) a [] s
    else
      match e.token with
      | some c => writeToken c (some client) b s
      | none =>
        if e.image then writeFirmware (some client) b s
        else if e.late then e.put b (answerTo (some client) 0 [] s)
        else
          let (a, s) := writeEntry idx sub b s
          answerTo (some client) a [] (higherWrites client idx sub b (e.acc == .wo) s)

/-- A request to this device's own dictionary is served. -/
def serve (client idx sub : Nat) (data : Option (List Byte)) (s : State) : State :=
  match data with
  | some b => serveWrite client idx sub b s
  | none =>
    let (a, b, s) := readEntry idx sub s
    answerTo (some client) a b s

/-! ### Forwarding, R425 -/

def State.fwdOut (s : State) (p : Nat) : List (Nat × UsdoRequest) := Tab.get [] s.spine.fwdSent p
def State.fwdQueue (s : State) (p : Nat) : List (Nat × UsdoRequest) := Tab.get [] s.spine.fwdWait p
def setOut (p : Nat) (l : List (Nat × UsdoRequest)) (s : State) : State := s.modSpine (fun x => { x with fwdSent := Tab.set [] x.fwdSent p l })
def setQueue (p : Nat) (l : List (Nat × UsdoRequest)) (s : State) : State := s.modSpine (fun x => { x with fwdWait := Tab.set [] x.fwdWait p l })

/-- Send a management message and take the reports of a drop. -/
def sendMgmt (typ dest : Nat) (payload : List Byte) (s : State) : State :=
  let (s, l) := sendTo typ 2 dest payload s
  report l s

/-- A request as message 0x4F, in parts of at most 1,000 bytes of data: number, index, sub-index, flags (bit 0 write, bit 1 last part),
data (log 54). -/
def sendParts (p num idx sub wr : Nat) : Nat → List Byte → State → State
  | 0, _, s => s
  | k + 1, b, s =>
    let last : Bool := b.length ≤ 1000
    let s := sendMgmt 0x4F p (leBytes 4 num ++ leBytes 2 idx ++ leBytes 1 sub ++ leBytes 1 (wr + 2 * b2n last) ++ b.take 1000) s
    if last then s else sendParts p num idx sub wr k (b.drop 1000) s

def sendRequest (p : Nat) (q : Nat × UsdoRequest) (s : State) : State :=
  let b := q.2.data.getD []
  sendParts p q.1 q.2.index q.2.sub (b2n q.2.data.isSome) (b.length + 1) b s

/-- Requests that wait go out while fewer than 4 are outstanding. -/
def releaseQueue : Nat → Nat → State → State
  | 0, _, s => s
  | k + 1, p, s =>
    match s.fwdQueue p with
    | [] => s
    | q :: rest =>
      if 4 ≤ (s.fwdOut p).length then s
      else releaseQueue k p (sendRequest p q (setOut p (s.fwdOut p ++ [q]) (setQueue p rest s)))

/-- The Root answers the host in the order of the requests of a Member. -/
def answerInOrder : Nat → Nat → State → State
  | 0, _, s => s
  | k + 1, p, s =>
    match s.fwdOut p with
    | [] => s
    | q :: rest =>
      match Tab.find? s.spine.fwdDone q.1 with
      | none => s
      | some (a, b) =>
        let s := answerTo (some q.2.client) a b ((setOut p rest s).modSpine (fun x => { x with fwdDone := Tab.drop x.fwdDone q.1 }))
        answerInOrder k p s

/-- What follows an answer or a timeout at a position. -/
def advance (p : Nat) (s : State) : State := releaseQueue 4 p (answerInOrder 5 p s)

/-- A request to a position is forwarded, or answered at once where a COMPLETE map shows none. -/
def forward (r : UsdoRequest) (s : State) : State :=
  let p := r.node - 1
  let absent : Bool := match s.spine.map with | some m => m.complete && !bitAt m.present p | none => false
  if r.node = 0 ∨ 64 < r.node ∨ absent then answerTo (some r.client) 0x08000000 [] s
  else
    let n := s.spine.fwdNum
    let s := s.modSpine (fun x => { x with fwdNum := (n + 1) % 2 ^ 32 })
    releaseQueue 1 p (setQueue p (s.fwdQueue p ++ [(n, r)]) s)

/-- A completed USDO transfer at the Root (R425, R529, R534, R535). A request for another node of the bus is none of its own. -/
def usdo (r : UsdoRequest) (s : State) : State :=
  if !s.onBus ∨ !s.served then s
  else if !s.clients.contains r.client ∧ 4 ≤ s.clients.length then
    answerTo (some r.client) 0x08000020 [] (raise (Src.FN_SESSION_REFUSED) s)
  else if r.net = s.get O.PHYS_NET then (if r.node = 1 + 64 * s.grp then serve r.client r.index r.sub r.data s else s)
  else if r.net = s.get O.VNET then (if r.node = 1 then serve r.client r.index r.sub r.data s else forward r s)
  else answerTo (some r.client) 0x08000000 [] s

/-- The parts of a message from a position, with this one; kept until the last part. -/
def gather (src : Nat) (last : Bool) (b : List Byte) (s : State) : List Byte × State :=
  let all := Tab.get [] s.spine.fwdIn src ++ b
  (all, s.modSpine (fun x => { x with fwdIn := Tab.set [] x.fwdIn src (if last then [] else all) }))

/-- A forwarded request (R425): the device that it names serves it; any other passes it on. -/
def requestMessage (i : Nat) (m : List Byte) (s : State) : State :=
  if !s.spineUp i then s
  else if !(msgGood 0x4F m && 8 ≤ msgLen m) then dropBad s
  else
    let p := msgPayload m
    if msgDest m ≠ s.pos then relay i m s
    else
      let fl := leAt p 7 1
      let (b, s) := gather (msgSrc m) (bitAt fl 1) (p.drop 8) s
      if bitAt fl 1 ∧ s.served then serve (leAt p 0 4) (leAt p 4 2) (leAt p 6 1) (if bitAt fl 0 then some b else none) s else s

/-- A response (R425): one to a request that is not outstanding is discarded. -/
def responseMessage (i : Nat) (m : List Byte) (s : State) : State :=
  if !s.spineUp i then s
  else if !(msgGood 0x50 m && 9 ≤ msgLen m) then dropBad s
  else
    let p := msgPayload m
    if msgDest m ≠ s.pos then relay i m s
    else
      let last := bitAt (leAt p 8 1) 0
      let (b, s) := gather (msgSrc m) last (p.drop 9) s
      if last ∧ (s.fwdOut (msgSrc m)).any (fun q => q.1 == leAt p 0 4) then
        advance (msgSrc m) (s.modSpine (fun x => { x with fwdDone := Tab.put x.fwdDone (leAt p 0 4) (leAt p 4 4, b) }))
      else s

/-- The oldest request to a position that has no answer times out (R425): it is answered on CAN, and what waits of it in the queue goes. -/
def fwdTimeout (p : Nat) (s : State) : State :=
  match (s.fwdOut p ++ s.fwdQueue p).find? (fun q => (Tab.find? s.spine.fwdDone q.1).isNone) with
  | none => s
  | some q =>
    let s := raise (Src.SP_FWD_TIMEOUT) (s.inc R.SP_COUNTS.FWD_TIMEOUTS)
    let s := setQueue p ((s.fwdQueue p).filter (fun x => x.1 != q.1)) (setOut p ((s.fwdOut p).filter (fun x => x.1 != q.1)) s)
    let s := s.modSpine (fun x => { x with waiting := x.waiting.filter (fun w => !(w.1 == p && msgType w.2 == 0x4F && leAt w.2 8 4 == q.1)) })
    advance p (answerTo (some q.2.client) 0x05040000 [] s)

/-! ### Emergency messages, R544 -/

/-- A Member's record in message 0x52: a first-cause record of a class at or above 0x2003:04 becomes an emergency message. -/
def recordMessage (i : Nat) (m : List Byte) (s : State) : State :=
  if !s.spineUp i then s
  else if !(msgGood 0x52 m && msgLen m == 128) then dropBad s
  else
    let p := msgPayload m
    if msgDest m ≠ s.pos then relay i m s
    else if s.isRoot ∧ leAt p 8 1 = 1 ∧ s.get O.EMCY_CLASS ≤ leAt p 9 1 % 4 then
      let (s, l) := postEmcy (msgSrc m) (leAt p 10 1) (leAt p 11 1) (leAt p 12 2) (leAt p 40 4) (leAt p 16 4) s
      report l s
    else s

/-- The message at the head of the queue goes out. -/
def sendEmcy (s : State) : State :=
  match s.net.emcy with
  | [] => s
  | e :: _ => if s.net.emcySending ∨ !s.onBus then s else canSend (.emcy e) (s.modNet (fun n => { n with emcySending := true }))

/-! ### PDOs and SYNC, R529 -/

/-- Operational: PDOs are exchanged in Armed and Run only, at the Root. -/
def State.operational (s : State) : Bool := s.isRoot && s.inState [.armed, .run]
/-- A PDO exists: bit 31 of its COB-ID is 0 (log 53). -/
def validCob (v : Nat) : Bool := !bitAt v 31

/-- The mapped entries of a PDO: index, sub-index and bytes. -/
def State.mapped (s : State) (count : Nat) (f : Nat → Fld) : List (Nat × Nat × Nat) :=
  (List.range count).map (fun i => let v := s.get (f (i + 1)); (v / 2 ^ 16, v / 256 % 256, v % 256 / 8))
def State.rpdoMap (s : State) (j : Nat) : List (Nat × Nat × Nat) := s.mapped (s.get (O.RPDO_COUNT j)) (O.RPDO_MAP j)
def State.tpdoMap (s : State) (j : Nat) : List (Nat × Nat × Nat) := s.mapped (s.get (O.TPDO_COUNT j)) (O.TPDO_MAP j)

/-- The bytes of an RPDO go to its entries in order. -/
def applyRpdo : List (Nat × Nat × Nat) → List Byte → State → State
  | [], _, s => s
  | (idx, sub, n) :: l, b, s => applyRpdo l (b.drop n) (writeEntry idx sub (b.take n) s).2

/-- An RPDO arrives: a synchronous one waits for the next SYNC. -/
def takeRpdo (j : Nat) (b : List Byte) (s : State) : State :=
  let m := s.rpdoMap j
  if !s.operational ∨ !s.onBus ∨ !validCob (s.get (O.RPDO_COB j)) ∨ m = [] ∨ b.length < (m.map (fun e => e.2.2)).sum then s
  else if s.get (O.RPDO_TYPE j) ≤ 240 then s.modNet (fun n => { n with rpdo := Tab.set none n.rpdo j (some b) })
  else applyRpdo m b s

/-- The bytes of a TPDO, and the state after the reads. -/
def tpdoBytes : List (Nat × Nat × Nat) → State → List Byte × State
  | [], s => ([], s)
  | (idx, sub, n) :: l, s =>
    let (_, b, s) := readEntry idx sub s
    let (r, s) := tpdoBytes l s
    (sized n b ++ r, s)

/-- A TPDO is sent. -/
def sendTpdo (j : Nat) (s : State) : State :=
  let m := s.tpdoMap j
  if !s.operational ∨ !validCob (s.get (O.TPDO_COB j)) ∨ m = [] then s
  else
    let (b, s) := tpdoBytes m s
    canSend (.tpdo j b) s

/-- A TPDO counts a SYNC and is sent after its number of them. -/
def countSync (j : Nat) (s : State) : State :=
  let t := s.get (O.TPDO_TYPE j)
  if 1 ≤ t ∧ t ≤ 240 then
    let c := Tab.get 0 s.net.syncs j + 1
    if t ≤ c then sendTpdo j (s.modNet (fun n => { n with syncs := Tab.set 0 n.syncs j 0 }))
    else s.modNet (fun n => { n with syncs := Tab.set 0 n.syncs j c })
  else s

/-- A SYNC: RPDOs that wait are applied, then TPDOs are counted and sent. -/
def takeSync (s : State) : State :=
  if s.operational ∧ s.onBus then
    let s := s.each [0, 1, 2, 3] (fun j s =>
      match Tab.get none s.net.rpdo j with
      | some b => applyRpdo (s.rpdoMap j) b (s.modNet (fun n => { n with rpdo := Tab.set none n.rpdo j none }))
      | none => s)
    s.each [0, 1, 2, 3] countSync
  else s

/-! ### Heartbeats, R530, R531 -/

/-- The NMT state of a heartbeat: Pre-operational 0x7F, Operational 0x05, Stopped 0x04. -/
def State.nmtState (s : State) : Nat := if s.inState [.armed, .run] then 0x05 else if s.inState [.safe] then 0x04 else 0x7F

def sendHeartbeat (s : State) : State := if s.get O.HB_PRODUCER ≠ 0 ∧ s.served then canSend (.heartbeat s.nmtState) s else s

/-- The consumer entry of a node: 0x1016 with its time not 0. -/
def State.consumer (s : State) (node : Nat) : Option Nat :=
  (List.range 4).find? (fun i => let v := s.get (O.HB_CONSUMER i); v / 65536 % 256 == node && v % 65536 != 0)

/-- A consumed heartbeat starts the monitoring of its node. -/
def heardFrom (node : Nat) (s : State) : State :=
  match s.consumer node with
  | some i => if s.onBus ∧ s.served then s.modNet (fun n => { n with monitored := setBitAt n.monitored i true }) else s
  | none => s

/-- A monitored node has been silent for its time. -/
def heartbeatLost (node : Nat) (s : State) : State :=
  match s.consumer node with
  | some i =>
    if bitAt s.net.monitored i then raise (Src.FN_HB_LOST node) (s.modNet (fun n => { n with monitored := setBitAt n.monitored i false })) else s
  | none => s

/-! ### The CAN controller, R526, R528, R545 -/

/-- Bus-off. -/
def busOff (s : State) : State :=
  if s.onBus ∧ s.cored then
    raise (Src.FN_BUS_OFF) (frameLost (((s.set R.FN_STAT.BUS 2).set R.FN_COUNTS.TEC 255).inc R.FN_COUNTS.BUS_OFFS))
  else s

/-- The error counters move across the error-passive limit of 128. -/
def errorCounts (tec rcv : Nat) (s : State) : State :=
  if !s.onBus ∨ !s.cored then s
  else
    let was := s.get R.FN_STAT.BUS = 1
    let now := 128 ≤ tec ∨ 128 ≤ rcv
    let s := ((s.set R.FN_COUNTS.TEC (min 255 tec)).set R.FN_COUNTS.REC (min 255 rcv)).set R.FN_STAT.BUS (if now then 1 else 0)
    if now ∧ ¬ was then raise (Src.FN_ERROR_PASSIVE) s else s

/-! ### The entry to Configure, R500, R515, R537 -/

/-- Each write of a list that is not refused is made; the refused ones are listed. -/
def writePass (l : List (Nat × List Byte)) (s : State) : List (Nat × List Byte) × State :=
  l.foldl (fun (x : List (Nat × List Byte) × State) e =>
    let (a, s') := writeEntry (e.1 / 256) (e.1 % 256) e.2 x.2
    if a = 0 then (x.1, s') else (x.1 ++ [e], x.2)) ([], s)

/-- The stored configuration as writes in Configure (R537). A write that would be refused is put off until the others are made (log 58); one that
is refused then leaves its default and raises STORE_BAD. -/
def applyConfig (s : State) : State :=
  let d := s.pw.state
  let l := Tab.get [] s.store.copies s.store.newer
  if l = [] then raise (Src.FN_STORE_BAD) s
  else
    let (l, s) := writePass l (s.goto .configure)
    let (l, s) := writePass l s
    let (l, s) := writePass l s
    let s := s.each l (fun e s => raise (Src.FN_STORE_BAD) (writeEntry (e.1 / 256) (e.1 % 256) e.2 s).2)
    s.goto d

/-- The newer copy of the program image store that passes R361 is loaded; where none passes, AUTH_FAIL is raised (R515). -/
def loadStored (s : State) : State :=
  let a := Tab.get [] s.sec.images s.sec.imageNew
  let b := Tab.get [] s.sec.images (1 - s.sec.imageNew)
  if a ≠ [] ∧ s.imageCode a = 0 then loadImage a (s.set R.SEC_BOOT.LOAD_RESULT 0)
  else if b ≠ [] ∧ s.imageCode b = 0 then loadImage b (s.set R.SEC_BOOT.LOAD_RESULT 0)
  else raise (Src.SEC_AUTH_FAIL) s

/-- The device reaches Configure from Boot: DRIVE is 0 (R449), lanes and the spine come up (R162, R413), and a start whose self-test is
complete is successful (R71). -/
def reachConfigure (s : State) : State :=
  if s.pw.state = .boot ∧ s.pw.fwRuns ∧ !s.pw.slateStart ∧ s.recd.scanned then
    let s := loadStored (applyConfig s)
    let s := useRates ((enterConfigure s).set R.FC_NFAULT.DRIVE 0)
    let s := (s.each lanes64 bringUp).each spine4 spineBringUp
    if s.pw.selfTestDone then startSucceeded s else s
  else s

/-! ### Commands -/

/-- FORWARDED_REQUEST_RX, R425. -/
def execForwardedRequestRx (i : Fin 4) (bs : List Byte) (s : State) : Host.Outcome State Fault Refusal := .next (requestMessage i bs s)

/-- FORWARDED_RESPONSE_RX, R425. -/
def execForwardedResponseRx (i : Fin 4) (bs : List Byte) (s : State) : Host.Outcome State Fault Refusal := .next (responseMessage i bs s)

/-- HOST_RECORD_RX, R544. -/
def execHostRecordRx (i : Fin 4) (bs : List Byte) (s : State) : Host.Outcome State Fault Refusal := .next (recordMessage i bs s)

/-- FORWARD_TIMEOUT, R425. -/
def execForwardTimeout (p : Fin 64) (s : State) : Host.Outcome State Fault Refusal := .next (fwdTimeout p s)

/-- CONFIGURE_REACHED, R500. -/
def execConfigureReached (s : State) : Host.Outcome State Fault Refusal := .next (reachConfigure s)

/-- NMT_START, R531: a command on the bus, which a Member does not take (R533). -/
def execNmtStart (s : State) : Host.Outcome State Fault Refusal := .next (if s.onBus then nmtStart s else s)

/-- NMT_STOP, R531, R533. -/
def execNmtStop (s : State) : Host.Outcome State Fault Refusal := .next (if s.onBus then nmtStop s else s)

/-- NMT_ENTER_PRE_OPERATIONAL, R531, R533. -/
def execNmtEnterPreOperational (s : State) : Host.Outcome State Fault Refusal := .next (if s.onBus then nmtPreOp s else s)

/-- NMT_RESET_NODE, R531, R533. -/
def execNmtResetNode (s : State) : Host.Outcome State Fault Refusal := .next (if s.onBus then nmtReset s else s)

/-- NMT_RESET_COMMUNICATION, R531, R533. -/
def execNmtResetCommunication (s : State) : Host.Outcome State Fault Refusal := .next (if s.onBus then nmtResetComm s else s)

/-- RUN_REQUEST_WRITE, R532. -/
def execRunRequestWrite (v : Bool) (s : State) : Host.Outcome State Fault Refusal := .next (if s.served then setRunRequest v s else s)

/-- ENTER_RUN, R532: in Armed, with the run request set and no run blocker, at a position that is no duplicate (R423). -/
def execEnterRun (s : State) : Host.Outcome State Fault Refusal :=
  .next (if s.pw.state = .armed ∧ s.bit O.RUN_REQUEST ∧ s.runBlockers = 0 ∧ !s.duplicated then enterRunState s else s)

/-- USDO_REQUEST, R535. -/
def execUsdoRequest (r : UsdoRequest) (s : State) : Host.Outcome State Fault Refusal := .next (usdo r s)

/-- STORE_PARAMETERS, R537. -/
def execStoreParameters (v : Nat) (s : State) : Host.Outcome State Fault Refusal :=
  .next (if s.inState [.configure] ∧ v = storeSig then storeConfig s else s)

/-- RESTORE_DEFAULTS, R537. -/
def execRestoreDefaults (v : Nat) (s : State) : Host.Outcome State Fault Refusal :=
  .next (if s.inState [.configure] ∧ v = restoreSig then eraseConfig s else s)

/-- SYNC_RX, R529. -/
def execSyncRx (s : State) : Host.Outcome State Fault Refusal := .next (takeSync s)

/-- RPDO_RX, R529. -/
def execRpdoRx (i : Fin 4) (bs : List Byte) (s : State) : Host.Outcome State Fault Refusal := .next (takeRpdo i bs s)

/-- TPDO_EVENT_TIMER, R529: of a TPDO of type 254 or 255 with its timer on. -/
def execTpdoEventTimer (i : Fin 4) (s : State) : Host.Outcome State Fault Refusal :=
  .next (if 254 ≤ s.get (O.TPDO_TYPE i) ∧ s.get (O.TPDO_TIME i) ≠ 0 then sendTpdo i s else s)

/-- NMT_HEARTBEAT_SEND, R530. -/
def execNmtHeartbeatSend (s : State) : Host.Outcome State Fault Refusal := .next (sendHeartbeat s)

/-- HB_LOST, R530. -/
def execHbLost (node : Fin 128) (s : State) : Host.Outcome State Fault Refusal := .next (heartbeatLost node s)

/-- EMCY_SEND, R544. -/
def execEmcySend (s : State) : Host.Outcome State Fault Refusal := .next (sendEmcy s)

/-- EMCY_SENT, R544: the frame has been acknowledged. -/
def execEmcySent (s : State) : Host.Outcome State Fault Refusal :=
  .next (if s.net.emcySending then s.modNet (fun n => { n with emcySending := false, emcy := n.emcy.drop 1 }) else s)

/-- ERROR_FIELD_CLEAR, R530: a write of 0 to 0x1003:00. -/
def execErrorFieldClear (v : Nat) (s : State) : Host.Outcome State Fault Refusal :=
  .next (if v = 0 ∧ s.inState [.configure, .armed, .run, .safe] then s.modNet (fun n => { n with errors := [] }) else s)

/-- BUS_OFF, R528. -/
def execBusOff (s : State) : Host.Outcome State Fault Refusal := .next (busOff s)

/-- BUS_OFF_RECOVERY, R526. -/
def execBusOffRecovery (s : State) : Host.Outcome State Fault Refusal := .next (if s.get R.FN_STAT.BUS = 2 ∧ !s.canHeld then canRestart s else s)

/-- ERROR_PASSIVE, R545. -/
def execErrorPassive (tec : Nat) (rcv : Nat) (s : State) : Host.Outcome State Fault Refusal := .next (errorCounts tec rcv s)

/-- CONSUMER_HEARTBEAT_RX, R530. -/
def execConsumerHeartbeatRx (node : Fin 128) (_st : Byte) (s : State) : Host.Outcome State Fault Refusal := .next (heardFrom node s)

end Sys2Proof.Machine
end

