-- ==== Sys2Proof/Machine/Dispatch.lean ====
section
/-!
DEFINITION. Machine/Dispatch.lean: the meaning of each command, one arm for each row of spec/opcode_table.json.
-/
namespace Sys2Proof.Machine

def exec (i : Instr) (s : State) : Host.Outcome State Fault Refusal :=
  match i with
  | .vkaFirstApplied => Sys2Proof.Machine.execVkaFirstApplied s
  | .vkaLost => Sys2Proof.Machine.execVkaLost s
  | .insertion => Sys2Proof.Machine.execInsertion s
  | .nresetRelease => Sys2Proof.Machine.execNresetRelease s
  | .automaticRestart => Sys2Proof.Machine.execAutomaticRestart s
  | .leaveStandby nEject => Sys2Proof.Machine.execLeaveStandby s nEject
  | .railGoodTimeout => Sys2Proof.Machine.execRailGoodTimeout s
  | .enterColdHold vio => Sys2Proof.Machine.execEnterColdHold vio s
  | .pgoodLost low => Sys2Proof.Machine.execPgoodLost low s
  | .pgoodLossPwrenDrop => Sys2Proof.Machine.execPgoodLossPwrenDrop s
  | .nresetAsserted => Sys2Proof.Machine.execNresetAsserted s
  | .nresetBlackSetEnd => Sys2Proof.Machine.execNresetBlackSetEnd s
  | .boardRemoved => Sys2Proof.Machine.execBoardRemoved s
  | .nejectRecognised => Sys2Proof.Machine.execNejectRecognised s
  | .ejectionPwrenDrop => Sys2Proof.Machine.execEjectionPwrenDrop s
  | .internalResetTaken => Sys2Proof.Machine.execInternalResetTaken s
  | .selftestDone => Sys2Proof.Machine.execSelftestDone s
  | .selfTestTimeout => Sys2Proof.Machine.execSelfTestTimeout s
  | .slateHold => Sys2Proof.Machine.execSlateHold s
  | .softwareResetRequest => Sys2Proof.Machine.execSoftwareResetRequest s
  | .powerCycleRequest => Sys2Proof.Machine.execPowerCycleRequest s
  | .rcTrimReady => Sys2Proof.Machine.execRcTrimReady s
  | .referenceWindowDone pass => Sys2Proof.Machine.execReferenceWindowDone pass s
  | .pllAStart => Sys2Proof.Machine.execPllAStart s
  | .pllLockDeclared p qualUs straps => Sys2Proof.Machine.execPllLockDeclared p qualUs straps s
  | .coldHoldTimeout => Sys2Proof.Machine.execColdHoldTimeout s
  | .ckrefTrip => Sys2Proof.Machine.execCkrefTrip s
  | .pllALockLost pin => Sys2Proof.Machine.execPllALockLost s pin
  | .pllCLockLost => Sys2Proof.Machine.execPllCLockLost s
  | .pllSLockLost => Sys2Proof.Machine.execPllSLockLost s
  | .pllTLockLost => Sys2Proof.Machine.execPllTLockLost s
  | .pllRelockAttempt p => Sys2Proof.Machine.execPllRelockAttempt p s
  | .pllTReturn => Sys2Proof.Machine.execPllTReturn s
  | .clockMonitorFailed => Sys2Proof.Machine.execClockMonitorFailed s
  | .muxSelectWrite m sel => Sys2Proof.Machine.execMuxSelectWrite m sel s
  | .muxSwitchComplete m => Sys2Proof.Machine.execMuxSwitchComplete m s
  | .muxHang m => Sys2Proof.Machine.execMuxHang m s
  | .muxForce m => Sys2Proof.Machine.execMuxForce m s
  | .consumerIdleWrite v => Sys2Proof.Machine.execConsumerIdleWrite v s
  | .spreadEnableWrite v => Sys2Proof.Machine.execSpreadEnableWrite v s
  | .spreadRampDone => Sys2Proof.Machine.execSpreadRampDone s
  | .tscLoRead host => Sys2Proof.Machine.execTscLoRead host s
  | .operatingSecondsSave => Sys2Proof.Machine.execOperatingSecondsSave s
  | .ptpMessageRx m => Sys2Proof.Machine.execPtpMessageRx m s
  | .pdelayReqSend => Sys2Proof.Machine.execPdelayReqSend s
  | .ppsEdge frac => Sys2Proof.Machine.execPpsEdge frac s
  | .ppsLabelWrite v => Sys2Proof.Machine.execPpsLabelWrite v s
  | .referenceMissing => Sys2Proof.Machine.execReferenceMissing s
  | .taiOffsetChange => Sys2Proof.Machine.execTaiOffsetChange s
  | .slewStep => Sys2Proof.Machine.execSlewStep s
  | .holdoverLearn => Sys2Proof.Machine.execHoldoverLearn s
  | .temperatureTableClear v => Sys2Proof.Machine.execTemperatureTableClear v s
  | .groupTimeSend => Sys2Proof.Machine.execGroupTimeSend s
  | .groupTimeMessage ln bs => Sys2Proof.Machine.execGroupTimeMessage ln bs s
  | .groupLost => Sys2Proof.Machine.execGroupLost s
  | .groupOffsetSet => Sys2Proof.Machine.execGroupOffsetSet s
  | .adoptGroupEpoch v => Sys2Proof.Machine.execAdoptGroupEpoch v s
  | .delayExchangeRequest ln => Sys2Proof.Machine.execDelayExchangeRequest ln s
  | .delayExchangeBlock ln bs => Sys2Proof.Machine.execDelayExchangeBlock ln bs s
  | .delayExchangeResponse ln => Sys2Proof.Machine.execDelayExchangeResponse ln s
  | .laneEnable n => Sys2Proof.Machine.execLaneEnable n s
  | .laneDisable n => Sys2Proof.Machine.execLaneDisable n s
  | .laneSignalDetect n => Sys2Proof.Machine.execLaneSignalDetect n s
  | .laneCdrLock n => Sys2Proof.Machine.execLaneCdrLock n s
  | .trainingSetRx pad place rd gs => Sys2Proof.Machine.execTrainingSetRx pad place rd gs s
  | .attemptTimeout n => Sys2Proof.Machine.execAttemptTimeout n s
  | .backoffEnd n => Sys2Proof.Machine.execBackoffEnd n s
  | .absentRetry n => Sys2Proof.Machine.execAbsentRetry n s
  | .attemptSignalLost n => Sys2Proof.Machine.execAttemptSignalLost n s
  | .retrain n => Sys2Proof.Machine.execRetrain n s
  | .laneLost n => Sys2Proof.Machine.execLaneLost n s
  | .quadMapModeWrite q v => Sys2Proof.Machine.execQuadMapModeWrite q v s
  | .spareSelWrite q v => Sys2Proof.Machine.execSpareSelWrite q v s
  | .spareCalibrated q => Sys2Proof.Machine.execSpareCalibrated q s
  | .laneTestStart n v => Sys2Proof.Machine.execLaneTestStart n v s
  | .laneTestStop n => Sys2Proof.Machine.execLaneTestStop n s
  | .injOne n => Sys2Proof.Machine.execInjOne n s
  | .prbsLock x => Sys2Proof.Machine.execPrbsLock x s
  | .prbsLoss n sent l => Sys2Proof.Machine.execPrbsLoss n sent l s
  | .prbsBitsLoRead n host sent l => Sys2Proof.Machine.execPrbsBitsLoRead n host sent l s
  | .laneCntClr n => Sys2Proof.Machine.execLaneCntClr n s
  | .downstreamFrameSend n => Sys2Proof.Machine.execDownstreamFrameSend n s
  | .edgeCutoff => Sys2Proof.Machine.execEdgeCutoff s
  | .edgeHandover n => Sys2Proof.Machine.execEdgeHandover n s
  | .upstreamFrameRx n onSlot rt rd gs => Sys2Proof.Machine.execUpstreamFrameRx n onSlot rt rd gs s
  | .upstreamFrameMissing n => Sys2Proof.Machine.execUpstreamFrameMissing n s
  | .laneDelayUpdate n => Sys2Proof.Machine.execLaneDelayUpdate n s
  | .laneDelayApply n => Sys2Proof.Machine.execLaneDelayApply n s
  | .urgentSetSend n => Sys2Proof.Machine.execUrgentSetSend n s
  | .paramWrite n addr v => Sys2Proof.Machine.execParamWrite n addr v s
  | .paramRead n addr => Sys2Proof.Machine.execParamRead n addr s
  | .paramTimeout n => Sys2Proof.Machine.execParamTimeout n s
  | .descFetch n => Sys2Proof.Machine.execDescFetch n s
  | .descriptorVerified n => Sys2Proof.Machine.execDescriptorVerified n s
  | .descriptorTimeout n => Sys2Proof.Machine.execDescriptorTimeout n s
  | .linkCntClr n => Sys2Proof.Machine.execLinkCntClr n s
  | .carrierEnable k => Sys2Proof.Machine.execCarrierEnable k s
  | .carrierDisable k => Sys2Proof.Machine.execCarrierDisable k s
  | .carrierEvent k e => Sys2Proof.Machine.execCarrierEvent k e s
  | .periodOpening k => Sys2Proof.Machine.execPeriodOpening k s
  | .groupCommitWrite v => Sys2Proof.Machine.execGroupCommitWrite v s
  | .tripActive ln => Sys2Proof.Machine.execTripActive ln s
  | .tripInactive ln => Sys2Proof.Machine.execTripInactive ln s
  | .tripRearm ln => Sys2Proof.Machine.execTripRearm ln s
  | .tripClr ln => Sys2Proof.Machine.execTripClr ln s
  | .tripClearComplete ln => Sys2Proof.Machine.execTripClearComplete ln s
  | .scarletSetRx n r => Sys2Proof.Machine.execScarletSetRx n r s
  | .partnerDelayExpiry n => Sys2Proof.Machine.execPartnerDelayExpiry n s
  | .cellClear n => Sys2Proof.Machine.execCellClear n s
  | .clearTimeout n => Sys2Proof.Machine.execClearTimeout n s
  | .reserveOpen t => Sys2Proof.Machine.execReserveOpen t s
  | .bypassTimeout n => Sys2Proof.Machine.execBypassTimeout n s
  | .insert n => Sys2Proof.Machine.execInsert n s
  | .park n => Sys2Proof.Machine.execPark n s
  | .sortComplete t => Sys2Proof.Machine.execSortComplete t s
  | .heartbeatSend => Sys2Proof.Machine.execHeartbeatSend s
  | .heartbeatRx bs => Sys2Proof.Machine.execHeartbeatRx bs s
  | .heartbeatWindowClose => Sys2Proof.Machine.execHeartbeatWindowClose s
  | .aloneDecision => Sys2Proof.Machine.execAloneDecision s
  | .cellReclaim n => Sys2Proof.Machine.execCellReclaim n s
  | .reclaimRequest => Sys2Proof.Machine.execReclaimRequest s
  | .handbackGo => Sys2Proof.Machine.execHandbackGo s
  | .duplexReady => Sys2Proof.Machine.execDuplexReady s
  | .contextTrigger k => Sys2Proof.Machine.execContextTrigger k s
  | .programRelease k => Sys2Proof.Machine.execProgramRelease k s
  | .softTrig k => Sys2Proof.Machine.execSoftTrig k s
  | .contextRestart k => Sys2Proof.Machine.execContextRestart k s
  | .contextEnable k => Sys2Proof.Machine.execContextEnable k s
  | .contextDisable k => Sys2Proof.Machine.execContextDisable k s
  | .bankSwapRequest k => Sys2Proof.Machine.execBankSwapRequest k s
  | .bankARequest k => Sys2Proof.Machine.execBankARequest k s
  | .bankBRequest k => Sys2Proof.Machine.execBankBRequest k s
  | .contextCntClr k => Sys2Proof.Machine.execContextCntClr k s
  | .histogramClear k => Sys2Proof.Machine.execHistogramClear k s
  | .histogramShiftWrite k v => Sys2Proof.Machine.execHistogramShiftWrite k v s
  | .coefficientRegionWrite k bank ws => Sys2Proof.Machine.execCoefficientRegionWrite k bank ws s
  | .memoryDataWrite v => Sys2Proof.Machine.execMemoryDataWrite v s
  | .memoryDataRead => Sys2Proof.Machine.execMemoryDataRead s
  | .spFreezeWrite k v => Sys2Proof.Machine.execSpFreezeWrite k v s
  | .injectionStart => Sys2Proof.Machine.execInjectionStart s
  | .injectionStop => Sys2Proof.Machine.execInjectionStop s
  | .captureArm => Sys2Proof.Machine.execCaptureArm s
  | .captureStop => Sys2Proof.Machine.execCaptureStop s
  | .tileParityError t => Sys2Proof.Machine.execTileParityError t s
  | .nop k => Sys2Proof.Machine.execNop k s
  | .add k => Sys2Proof.Machine.execAdd k s
  | .sub k => Sys2Proof.Machine.execSub k s
  | .mul k => Sys2Proof.Machine.execMul k s
  | .fma k => Sys2Proof.Machine.execFma k s
  | .fnma k => Sys2Proof.Machine.execFnma k s
  | .min k => Sys2Proof.Machine.execMin k s
  | .max k => Sys2Proof.Machine.execMax k s
  | .clamp k => Sys2Proof.Machine.execClamp k s
  | .abs k => Sys2Proof.Machine.execAbs k s
  | .neg k => Sys2Proof.Machine.execNeg k s
  | .mov k => Sys2Proof.Machine.execMov k s
  | .round k => Sys2Proof.Machine.execRound k s
  | .sel k => Sys2Proof.Machine.execSel k s
  | .movi k => Sys2Proof.Machine.execMovi k s
  | .addi k => Sys2Proof.Machine.execAddi k s
  | .muli k => Sys2Proof.Machine.execMuli k s
  | .rcp k => Sys2Proof.Machine.execRcp k s
  | .rsq k => Sys2Proof.Machine.execRsq k s
  | .sqrt k => Sys2Proof.Machine.execSqrt k s
  | .lut k => Sys2Proof.Machine.execLut k s
  | .sincos k => Sys2Proof.Machine.execSincos k s
  | .atan2 k => Sys2Proof.Machine.execAtan2 k s
  | .hypot k => Sys2Proof.Machine.execHypot k s
  | .rot k => Sys2Proof.Machine.execRot k s
  | .cmplt k => Sys2Proof.Machine.execCmplt k s
  | .cmple k => Sys2Proof.Machine.execCmple k s
  | .cmpeq k => Sys2Proof.Machine.execCmpeq k s
  | .cmplti k => Sys2Proof.Machine.execCmplti k s
  | .plog k => Sys2Proof.Machine.execPlog k s
  | .ldc k => Sys2Proof.Machine.execLdc k s
  | .lds k => Sys2Proof.Machine.execLds k s
  | .sts k => Sys2Proof.Machine.execSts k s
  | .ldin k => Sys2Proof.Machine.execLdin k s
  | .sort k => Sys2Proof.Machine.execSort k s
  | .stl k => Sys2Proof.Machine.execStl k s
  | .stl2 k => Sys2Proof.Machine.execStl2 k s
  | .stm k => Sys2Proof.Machine.execStm k s
  | .commit k => Sys2Proof.Machine.execCommit k s
  | .evt k => Sys2Proof.Machine.execEvt k s
  | .loop k => Sys2Proof.Machine.execLoop k s
  | .programImageWrite bs => Sys2Proof.Machine.execProgramImageWrite bs s
  | .sdControlOutput c bs => Sys2Proof.Machine.execSdControlOutput c bs s
  | .phasorPathOutput c => Sys2Proof.Machine.execPhasorPathOutput c s
  | .phasorReport a => Sys2Proof.Machine.execPhasorReport s a
  | .dataFrameSend => Sys2Proof.Machine.execDataFrameSend s
  | .phasorBlockRx ln bs => Sys2Proof.Machine.execPhasorBlockRx ln bs s
  | .cmdTransmissionOff bs => Sys2Proof.Machine.execCmdTransmissionOff bs s
  | .cmdTransmissionOn bs => Sys2Proof.Machine.execCmdTransmissionOn bs s
  | .cmdSendHeader bs => Sys2Proof.Machine.execCmdSendHeader bs s
  | .cmdSendCfg1 bs => Sys2Proof.Machine.execCmdSendCfg1 bs s
  | .cmdSendCfg2 bs => Sys2Proof.Machine.execCmdSendCfg2 bs s
  | .arpRequest bs => Sys2Proof.Machine.execArpRequest bs s
  | .egressLinkUp => Sys2Proof.Machine.execEgressLinkUp s
  | .egressLinkDown => Sys2Proof.Machine.execEgressLinkDown s
  | .wfAlign => Sys2Proof.Machine.execWfAlign s
  | .wfChannelAligned c ok => Sys2Proof.Machine.execWfChannelAligned c ok s
  | .wavefrontCrossing d at80 w => Sys2Proof.Machine.execWavefrontCrossing d at80 w s
  | .detectorRearm d => Sys2Proof.Machine.execDetectorRearm d s
  | .eventWindowClose => Sys2Proof.Machine.execEventWindowClose s
  | .eventRecordComplete => Sys2Proof.Machine.execEventRecordComplete s
  | .wfRecordSelect v => Sys2Proof.Machine.execWfRecordSelect v s
  | .wfCaptureArm => Sys2Proof.Machine.execWfCaptureArm s
  | .wfCaptureStop => Sys2Proof.Machine.execWfCaptureStop s
  | .wfCaptureDone => Sys2Proof.Machine.execWfCaptureDone s
  | .wfCdataRead => Sys2Proof.Machine.execWfCdataRead s
  | .spineLaneEnable ln v => Sys2Proof.Machine.execSpineLaneEnable ln v s
  | .spineSignalDetect ln => Sys2Proof.Machine.execSpineSignalDetect ln s
  | .spineAdapted ln inv => Sys2Proof.Machine.execSpineAdapted ln inv s
  | .spineBlockLock ln => Sys2Proof.Machine.execSpineBlockLock ln s
  | .trainingBlockRx ln bs => Sys2Proof.Machine.execTrainingBlockRx ln bs s
  | .spineAttemptTimeout ln => Sys2Proof.Machine.execSpineAttemptTimeout ln s
  | .spineBackoffEnd ln => Sys2Proof.Machine.execSpineBackoffEnd ln s
  | .spineRetry ln => Sys2Proof.Machine.execSpineRetry ln s
  | .spineLaneLost ln => Sys2Proof.Machine.execSpineLaneLost ln s
  | .alignmentMarkerRx ln skew => Sys2Proof.Machine.execAlignmentMarkerRx ln skew s
  | .spineRetrain ln => Sys2Proof.Machine.execSpineRetrain ln s
  | .spineTestStart ln v => Sys2Proof.Machine.execSpineTestStart ln v s
  | .spineTestStop ln => Sys2Proof.Machine.execSpineTestStop ln s
  | .enumerationSend => Sys2Proof.Machine.execEnumerationSend s
  | .enumerationRx ln bs => Sys2Proof.Machine.execEnumerationRx ln bs s
  | .ringMapRx ln bs => Sys2Proof.Machine.execRingMapRx ln bs s
  | .forwardedRequestRx ln bs => Sys2Proof.Machine.execForwardedRequestRx ln bs s
  | .forwardedResponseRx ln bs => Sys2Proof.Machine.execForwardedResponseRx ln bs s
  | .hostRecordRx ln bs => Sys2Proof.Machine.execHostRecordRx ln bs s
  | .forwardTimeout p => Sys2Proof.Machine.execForwardTimeout p s
  | .queuedMessageSend => Sys2Proof.Machine.execQueuedMessageSend s
  | .urgentNoticeRx ln bs => Sys2Proof.Machine.execUrgentNoticeRx ln bs s
  | .urgentNoticeSend => Sys2Proof.Machine.execUrgentNoticeSend s
  | .faultReport r => Sys2Proof.Machine.execFaultReport r s
  | .coalescingWindowClose w => Sys2Proof.Machine.execCoalescingWindowClose w s
  | .heldClear v => Sys2Proof.Machine.execHeldClear v s
  | .lostClear v => Sys2Proof.Machine.execLostClear v s
  | .nfaultPulseEnd => Sys2Proof.Machine.execNfaultPulseEnd s
  | .nfaultDriveWrite v => Sys2Proof.Machine.execNfaultDriveWrite v s
  | .forceReport v => Sys2Proof.Machine.execForceReport v s
  | .checkBitInjectionArm v => Sys2Proof.Machine.execCheckBitInjectionArm v s
  | .eccError m addr uncorr syn => Sys2Proof.Machine.execEccError m addr uncorr syn s
  | .injectionMiss => Sys2Proof.Machine.execInjectionMiss s
  | .automaticRecovery b => Sys2Proof.Machine.execAutomaticRecovery b s
  | .recoveryUnlatch => Sys2Proof.Machine.execRecoveryUnlatch s
  | .groupFirstCauseClear => Sys2Proof.Machine.execGroupFirstCauseClear s
  | .thermalSample ts => Sys2Proof.Machine.execThermalSample ts s
  | .shutdownPwrenDrop => Sys2Proof.Machine.execShutdownPwrenDrop s
  | .peakClear => Sys2Proof.Machine.execPeakClear s
  | .recordWriteStart => Sys2Proof.Machine.execRecordWriteStart s
  | .recordWriteComplete => Sys2Proof.Machine.execRecordWriteComplete s
  | .repeatFlush => Sys2Proof.Machine.execRepeatFlush s
  | .periodicRecords => Sys2Proof.Machine.execPeriodicRecords s
  | .recordDataLoRead host => Sys2Proof.Machine.execRecordDataLoRead host s
  | .recordDataHiRead host => Sys2Proof.Machine.execRecordDataHiRead host s
  | .recordSelect v => Sys2Proof.Machine.execRecordSelect v s
  | .recorderBootScan => Sys2Proof.Machine.execRecorderBootScan s
  | .ledgerSample n => Sys2Proof.Machine.execLedgerSample n s
  | .ledgerSecond => Sys2Proof.Machine.execLedgerSecond s
  | .ledgerSave n => Sys2Proof.Machine.execLedgerSave n s
  | .ledgerChunkWrite => Sys2Proof.Machine.execLedgerChunkWrite s
  | .historyImport bs => Sys2Proof.Machine.execHistoryImport bs s
  | .bistComplete f => Sys2Proof.Machine.execBistComplete f s
  | .repairApplied => Sys2Proof.Machine.execRepairApplied s
  | .firmwareVerified bs => Sys2Proof.Machine.execFirmwareVerified bs s
  | .configureReached => Sys2Proof.Machine.execConfigureReached s
  | .authenticatedClear bs => Sys2Proof.Machine.execAuthenticatedClear bs s
  | .enrolOwnerKey bs => Sys2Proof.Machine.execEnrolOwnerKey bs s
  | .revokeOwnerKey bs => Sys2Proof.Machine.execRevokeOwnerKey bs s
  | .makerKeyList bs => Sys2Proof.Machine.execMakerKeyList bs s
  | .debugUnlock bs => Sys2Proof.Machine.execDebugUnlock bs s
  | .tokenCheckDone => Sys2Proof.Machine.execTokenCheckDone s
  | .authClearReset => Sys2Proof.Machine.execAuthClearReset s
  | .firmwareImageWrite bs => Sys2Proof.Machine.execFirmwareImageWrite bs s
  | .firmwareCheckDone => Sys2Proof.Machine.execFirmwareCheckDone s
  | .tryNewFirmware v => Sys2Proof.Machine.execTryNewFirmware v s
  | .advanceCounter v => Sys2Proof.Machine.execAdvanceCounter v s
  | .counterProgrammed => Sys2Proof.Machine.execCounterProgrammed s
  | .attestationNonce bs => Sys2Proof.Machine.execAttestationNonce bs s
  | .attestationReportDone => Sys2Proof.Machine.execAttestationReportDone s
  | .debugLevelZero => Sys2Proof.Machine.execDebugLevelZero s
  | .nmtStart => Sys2Proof.Machine.execNmtStart s
  | .nmtStop => Sys2Proof.Machine.execNmtStop s
  | .nmtEnterPreOperational => Sys2Proof.Machine.execNmtEnterPreOperational s
  | .nmtResetNode => Sys2Proof.Machine.execNmtResetNode s
  | .nmtResetCommunication => Sys2Proof.Machine.execNmtResetCommunication s
  | .runRequestWrite v => Sys2Proof.Machine.execRunRequestWrite v s
  | .enterRun => Sys2Proof.Machine.execEnterRun s
  | .usdoRequest r => Sys2Proof.Machine.execUsdoRequest r s
  | .storeParameters v => Sys2Proof.Machine.execStoreParameters v s
  | .restoreDefaults v => Sys2Proof.Machine.execRestoreDefaults v s
  | .syncRx => Sys2Proof.Machine.execSyncRx s
  | .rpdoRx ln bs => Sys2Proof.Machine.execRpdoRx ln bs s
  | .tpdoEventTimer ln => Sys2Proof.Machine.execTpdoEventTimer ln s
  | .nmtHeartbeatSend => Sys2Proof.Machine.execNmtHeartbeatSend s
  | .hbLost node => Sys2Proof.Machine.execHbLost node s
  | .emcySend => Sys2Proof.Machine.execEmcySend s
  | .emcySent => Sys2Proof.Machine.execEmcySent s
  | .errorFieldClear v => Sys2Proof.Machine.execErrorFieldClear v s
  | .busOff => Sys2Proof.Machine.execBusOff s
  | .busOffRecovery => Sys2Proof.Machine.execBusOffRecovery s
  | .registerWrite host addr v => Sys2Proof.Machine.execRegisterWrite host addr v s
  | .errorPassive tec rcv => Sys2Proof.Machine.execErrorPassive tec rcv s
  | .consumerHeartbeatRx node st => Sys2Proof.Machine.execConsumerHeartbeatRx node st s
  | .testPortInstruction ins => Sys2Proof.Machine.execTestPortInstruction ins s
  | .codeError c => Sys2Proof.Machine.execCodeError c s
  | .prsntLow => Sys2Proof.Machine.execPrsntLow s

end Sys2Proof.Machine
end

