-- ==== Sys2Proof/Machine/Tick.lean ====
section
/-!
DEFINITION. Machine/Tick.lean: a tick of time, which passes where no command waits (log 4): the count of TSC (R22, R125, R118), the phase steps of the
tick clock (R95, R96, R136), the dither LFSRs (R92), READY (R304) and the end of an operating-seconds save (R128). Commands between two ticks fall in one core cycle
(log 74).
-/
namespace Sys2Proof.Machine

/-! ### TSC -/

/-- TSC counts each tick; in fallback it counts from the core clock of 400 MHz, by 2 or 3 at each core cycle (R118). -/
def countTsc (s : State) : State :=
  if !s.ts.running then s
  else
    let d : Nat :=
      if s.bit R.CLK_STAT.TS_FALLBACK then (s.now + 1) * 25 / 64 * 64 / 25 - s.now * 25 / 64 * 64 / 25
      else 1
    { s with ts := { s.ts with tsc := (s.ts.tsc + d) % 2 ^ 64 } }

/-! ### Phase steps, R95, R96 -/

/-- A step request adds to the pending count, which saturates (R96). -/
def requestSteps (d : Int) (s : State) : State :=
  s.set R.CLK_PHASE_T.PENDING (ofInt 16 (clampInt (-32768) 32767 (sext 16 (s.get R.CLK_PHASE_T.PENDING) + d)))

/-- The frequency correction asks for steps of 1/128 tick (R95, R136): one for each 10^10 tenths of a ppb in 1/128 tick. -/
def gatherSteps (s : State) : State :=
  let a := s.ts.stepAcc + 128 * s.ts.freq
  let n : Int := if 10 ^ 10 ≤ a then 1 else if a ≤ -10 ^ 10 then -1 else 0
  let s := { s with ts := { s.ts with stepAcc := a - n * 10 ^ 10 } }
  if n = 0 then s else requestSteps n s

/-- In a reference cycle the interpolator moves by at most one step, toward a pending count of 0, while PLL-T is locked (R95). -/
def applyStep (s : State) : State :=
  let p := sext 16 (s.get R.CLK_PHASE_T.PENDING)
  if p = 0 ∨ !s.bit R.CLK_STAT.LOCK_T then s
  else
    let d : Int := if p < 0 then -1 else 1
    (s.set R.CLK_PHASE_T.PENDING (ofInt 16 (p - d))).set R.CLK_PHASE_T.PHASE (ofInt 7 ((s.get R.CLK_PHASE_T.PHASE : Int) + d))

/-! ### Dither, R92 -/

/-- One step of the 23-bit LFSR with polynomial x^23 + x^18 + 1. -/
def ditherNext (v : Nat) : Nat := (2 * v + Nat.xor (bits v 22 22) (bits v 17 17)) % 2 ^ 23

/-- The one-LSB dither that a PLL adds to its modulator's input: none where DITHER is clear, or the modulator is idle, as it is in PLL-C and PLL-S
always and in PLL-A with spread off. The LFSR's newest bit is the dither (DESIGN CHOICE, log 85). -/
def State.dither (s : State) (p : Nat) : Nat :=
  if s.bit (ditherBit p) ∧ (p = 3 ∨ (p = 0 ∧ s.bit R.CLK_STAT.SPREAD_ACT)) then Tab.get 0 s.clk.lfsr p % 2 else 0

def stepDither (p : Nat) (s : State) : State :=
  if s.bit (ditherBit p) then s.modClk (fun c => { c with lfsr := Tab.modify 0 c.lfsr p ditherNext }) else s

/-! ### A tick -/

/-- A cycle of the 25 MHz reference ends with the tick under way: 40.96 ticks to the cycle. -/
def State.refCycle (s : State) : Bool := (s.now + 1) * 25 / 1024 != s.now * 25 / 1024

/-- A periodic save of the operating seconds ends within 2,048 ticks (R128, R480). -/
def endOpsecSave (s : State) : State :=
  match s.ts.saving with
  | some (v, t) => if t + 2048 ≤ s.now then endOpsec v s else s
  | none => s

/-- A tick of time. -/
def tick (s : State) : State :=
  let r := s.refCycle
  let s := countTsc (if s.ts.running ∧ s.bit R.CLK_STAT.LOCK_T then gatherSteps s else s)
  let s := if r then s.each [0, 1, 2, 3] stepDither else s
  let s := if r then applyStep s else s
  endOpsecSave { dropReady s with now := s.now + 1, cyc := { sentFrom := s.spine.sent.length } }

end Sys2Proof.Machine
end

