-- ==== Sys2Proof/Safety.lean ====
section
/-!
DEFINITION. Safety.lean: the words the statements use: what a command leaves alone, and the invariants of the block.
-/
namespace Sys2Proof.Machine

/-- Every register field outside the list reads in `t` as in `s`. -/
def OnlyRegs (s t : State) (l : List Fld) : Prop := ∀ f : Fld, f.key ∉ l.map Fld.key → t.get f = s.get f

/-- `t` differs from `s` in the register fields of the list alone. -/
def OnlySets (s t : State) (l : List Fld) : Prop := t = { s with regs := t.regs } ∧ OnlyRegs s t l

/-- The register table has its canonical form: keys rising, so equal registers are equal data. -/
def State.RegsRising (s : State) : Prop := Tab.rising s.regs

/-- No reset was taken in this clock-monitor cycle; nor does a cause wait (R62). -/
def State.freshCycle (s : State) : Bool := s.pw.taken.all (fun t => t.cause.cyc != s.cmCycle)
def State.noReset (s : State) : Bool := s.pw.cause.isNone && s.freshCycle

/-- A program instruction of context `k` (R343): where the next word holds operation code `op`, command `c` answers a next state whose only change is the sample
of the context: `f` of the word and the sample where the predicate allows it (R342), nothing but the passage of its issues where it does not; `n` issues and
write latency `l` are counted (R345, R350), and the end bit or the next word follows (R343, R358). -/
def RunsInstr (c : Instr) (k op n l : Nat) (f : Nat → Sample → Sample) : Prop :=
  ∀ s w q, s.instrAt k = some (w, q) → iOp w = op → exec c s = .next (setRun k (((if q.allowed w then f w q else q)).after w n l) s)

/-- An owner key slot stays, or moves EMPTY to ACTIVE or ACTIVE to REVOKED: 0, 1 and 3 (R507). -/
def SlotMoves (a b : Nat) : Prop := b = a ∨ (a = 0 ∧ b = 1) ∨ (a = 1 ∧ b = 3)

/-- OTP only moves one way from `a` to `b` (R506, R507, R515): owner key slots, rollback counters, which never fall, and DEBUG_OFF, which stays
set. -/
def OtpKept (a b : State) : Prop :=
  (∀ k, SlotMoves (Tab.get 0 a.sec.slotState k) (Tab.get 0 b.sec.slotState k))
    ∧ (∀ k, Tab.get 0 a.sec.counters k ≤ Tab.get 0 b.sec.counters k) ∧ (a.sec.debugOff = true → b.sec.debugOff = true)

/-- The receive flags of a lane (R183), and with them the fields that a new attempt writes: while MAP is undecided, those of the mirrored pad pair too (R161, R163). -/
def receiveRegs (n : Nat) : List Fld := [R.LN_STAT.SIGNAL n, R.LN_STAT.CDR_LOCK n, R.LN_STAT.ALIGNED n, R.LN_STAT.RX_INV n]
def attemptRegs (n : Nat) : List Fld := [R.LN_STAT.STATE n, R.LN_STAT.ATTEMPT n] ++ receiveRegs n ++ receiveRegs (mirror n)

/-- What a counter has counted in this core cycle: a clear leaves that (R185). -/
def State.counted (s : State) (f : Fld) : Nat := min ((s.cyc.counts.filter (fun k => k == f.key)).length) (2 ^ f.width - 1)

/-- The `k` bits of a test sequence that follow the bits `h` (R175). -/
def follows (pattern : Nat) : Nat → Nat → List Bool
  | _, 0 => []
  | h, k + 1 => nextBit pattern h :: follows pattern (pushBit h (nextBit pattern h)) k

/-- The count of PRBS bits of a lane, 48 bits (R176). -/
def State.prbsBits (s : State) (n : Nat) : Nat := s.get (testRegs n).lo + 2 ^ 32 * (s.prbsOf n).hi

/-- The checker of a lane runs on its receive pair: no near-end loopback (R176, R178). -/
def State.checksRx (s : State) (n : Nat) : Bool := s.chkRuns n && (s.loop n == 0 || s.loop n == 3)

/-- From `s` to `t` the security engine is asked for an operation (R511): an idle engine takes it up, and a busy one queues it. -/
abbrev State.asksEngine (s t : State) (o : EngineOp) : Prop :=
  (s.sec.engine = none → s.verifyQ = [] → s.sec.engineQ = [] → t.sec.engine = some o ∧ t.sec.engineQ = [])
    ∧ (s.sec.engine.isSome = true → t.sec.engine = s.sec.engine ∧ t.sec.engineQ = s.sec.engineQ ++ [o])

/-- A block of 8 bytes of data, or of a type of R412 and 7 bytes. -/
def Block.wf : Block → Bool
  | .data l => l.length == 8
  | .control t l => blockTypes.contains t && l.length == 7

/-- The fields of a spine lane that start afresh with an attempt and when the lane leaves UP (R414, R424). -/
def spineAfresh (i : Nat) : List Fld :=
  [R.SL_STAT.RX_INV i, R.SL_STAT.SIGNAL i, R.SL_STAT.CDR_LOCK i, R.SL_STAT.BLOCK_LOCK i, R.SL_STAT.PRECODE_TX i, R.SL_STAT.PRECODE_RX i, R.SL_STAT.CROSSED i, R.SL_DELAY.DELAY i]

/-- No write or loss on a spine lane can raise RING_OPEN at this device at once: it is a Member, or the Root without a map (R418). -/
abbrev State.noRingYet (s : State) : Prop := s.isRoot = false ∨ s.spine.map = none

end Sys2Proof.Machine
end

