-- ==== Sys2Proof/Certificates/Slice0/Obligations.lean ====
section
/-!
DEFINITION. Certificates/Slice0/Obligations.lean: the statements for the provers. Where a statement rests on a choice of the model its
docstring names the log entry. The clauses of one statement follow the order of the commands named in its docstring.
-/
open Sys2Proof Sys2Proof.Machine

/-! ### Power, resets and the start, 03_power_reset_insertion.md -/

/-- VKA_FIRST_APPLIED, INSERTION, NRESET_RELEASE, AUTOMATIC_RESTART, PRSNT_LOW, LEAVE_STANDBY: what the first application of VKA
gives (R57), which events are kept as wake events in Standby (R59), how an insertion ends Slate, with cause 0x0E where the board was cycled in Standby (R81), and that a
kept wake event raises PWREN while nEJECT is high, its level the operand of LEAVE_STANDBY (R54, R59; log 45). Each clause gives the whole next state, so everything it does not name is unchanged. -/
def Obligations.WakeEventsInStandby : Prop :=
  (∀ s, s.pw.state = .off → ∃ t, exec .vkaFirstApplied s = .next t ∧ t.pw.state = .standby ∧ t.pw.vka = true ∧ t.pw.pwren = false ∧ (∀ f : Fld, vkaKey f.key = true → t.get f = f.reset % 2 ^ f.width) ∧ (∀ f : Fld, vkaKey f.key = false → t.get f = s.get f) ∧ t = { s with pw := t.pw, regs := t.regs })
  ∧ (∀ s, s.pw.state = .standby → s.bit R.START_STAT.SLATE = false → exec .insertion s = .next { s with pw := { s.pw with prsnt := true, cycled := 0, wakeInsertion := true } })
  ∧ (∀ s, s.pw.state = .standby → s.bit R.START_STAT.SLATE = true → s.pw.cycled = 2 → ∃ t, exec .insertion s = .next t ∧ t.get R.START_STAT.SLATE = 0 ∧ t.get R.START_STAT.SLATE_REASON = 0 ∧ t.get R.START_STAT.FAILED_CONSEC = 0 ∧ t.pw = { s.pw with prsnt := true, cycled := 0, wakeInsertion := true } ∧ OnlyRegs s t [R.START_STAT.SLATE, R.START_STAT.SLATE_REASON, R.START_STAT.FAILED_CONSEC])
  ∧ (∀ s, s.pw.state = .standby → s.bit R.START_STAT.SLATE = true → s.pw.cycled = 1 → ∃ t, exec .insertion s = .next t ∧ t.get R.START_STAT.SLATE = 0 ∧ t.get R.START_STAT.SLATE_REASON = 0 ∧ t.get R.START_STAT.FAILED_CONSEC = 0 ∧ t.get R.RST_CAUSE.CAUSE = 0xE ∧ t.get R.RST_CAUSE.PREV_CAUSE = s.get R.RST_CAUSE.CAUSE ∧ t.get R.RST_CAUSE.TSC_VALID = 0 ∧ t.pw = { s.pw with prsnt := true, cycled := 0, wakeInsertion := true } ∧ OnlyRegs s t [R.START_STAT.SLATE, R.START_STAT.SLATE_REASON, R.START_STAT.FAILED_CONSEC, R.RST_CAUSE.CAUSE, R.RST_CAUSE.PREV_CAUSE, R.RST_CAUSE.PGOOD_LOW, R.RST_CAUSE.STAGE, R.RST_CAUSE.TSC_VALID])
  ∧ (∀ s, s.pw.state = .standby → exec .nresetRelease s = .next { s with pw := { s.pw with nReset := true, wakeReset := true } })
  ∧ (∀ s, s.pw.state = .standby → (s.get R.RST_CAUSE.CAUSE = 3 ∨ s.get R.RST_CAUSE.CAUSE = 4 ∨ s.get R.RST_CAUSE.CAUSE = 0xC ∨ ((s.get R.RST_CAUSE.CAUSE = 1 ∨ s.get R.RST_CAUSE.CAUSE = 2) ∧ s.bit O.AUTO_RESTART = true)) → exec .automaticRestart s = .next { s with pw := { s.pw with wakeRestart := true } })
  ∧ (∀ s, s.pw.state = .standby → exec .prsntLow s = .next { s with pw := { s.pw with prsnt := false, wakeInsertion := false, wakeReset := false, wakeRestart := false, cycled := if s.pw.cycled ≤ 1 then 1 else 2 } })
  ∧ (∀ s, s.pw.state = .standby → s.pw.pwren = false → s.pw.prsnt = true → s.pw.nReset = true → (s.pw.wakeInsertion = true ∨ s.pw.wakeReset = true ∨ s.pw.wakeRestart = true) → exec (.leaveStandby true) s = .next { s with pw := { s.pw with pwren := true, pwrenRose := true, railGood := true, nEject := true, wakeInsertion := false, wakeReset := false, wakeRestart := false } })
  ∧ (∀ s, s.pw.state = .standby → exec (.leaveStandby false) s = .next { s with pw := { s.pw with nEject := false } })

/-- RAIL_GOOD_TIMEOUT, ENTER_COLD_HOLD, NRESET_ASSERTED, BOARD_REMOVED, VKA_LOST: a start that misses its rails drops PWREN with cause 0x02
(R54, R61); Cold hold is entered with PWREN high and counts a power cycle (R54, R127); nRESET in Boot, Slate or Configure is taken at once
with cause 0x08 and holds Cold hold (R64, R65, R43; log 44); a removal ends in Standby with PWREN low (R83); the loss of VKA turns the device off (R57). -/
def Obligations.HandshakeAndPinResets : Prop :=
  (∀ s, s.pw.state = .standby → s.pw.railGood = true → s.noReset = true → s.pw.ejecting = false → ∃ t, exec .railGoodTimeout s = .next t ∧ t.pw.state = .standby ∧ t.pw.pwren = false ∧ t.get R.RST_CAUSE.CAUSE = 2 ∧ t.get R.RST_CAUSE.PREV_CAUSE = s.get R.RST_CAUSE.CAUSE % 256 ∧ t.mram = s.mram ∧ t.pending = s.pending)
  ∧ (∀ s vio, s.pw.state = .standby → s.pw.railGood = true → s.pw.pwrenRose = true → exec (.enterColdHold vio) s = .next { s with mram := { s.mram with pwrCycles := min 0xFFFFFFFF (s.mram.pwrCycles + 1) }, pw := { s.pw with vio := vio % 16, state := .coldHold, pwrenRose := false, railGood := false, coldHold := s.pw.nReset, ch := {}, stage := 1 } })
  ∧ (∀ s, s.inState [.boot, .slate, .configure] = true → s.noReset = true → s.pw.pgoodLoss = false → s.pw.ejecting = false → ∃ t, exec .nresetAsserted s = .next t ∧ t.pw.state = .coldHold ∧ t.pw.coldHold = false ∧ t.pw.nReset = false ∧ t.pw.pwren = s.pw.pwren ∧ t.get R.RST_CAUSE.CAUSE = 8 ∧ t.get R.RST_CAUSE.PREV_CAUSE = s.get R.RST_CAUSE.CAUSE % 256 ∧ t.pending = s.pending)
  ∧ (∀ s, s.inState [.boot, .slate, .configure, .armed, .run, .safe] = true → s.freshCycle = true → ∃ t, exec .boardRemoved s = .next t ∧ t.pw.state = .standby ∧ t.pw.pwren = false ∧ t.pw.prsnt = false ∧ t.lanes = [] ∧ t.ts = {})
  ∧ (∀ s, ∃ t, exec .vkaLost s = .next t ∧ t.pw.state = .off ∧ t.pw.vka = false ∧ t.pw.pwren = false ∧ (∀ f : Fld, vkaKey f.key = true → t.get f = f.reset % 2 ^ f.width) ∧ t.mram = s.mram ∧ t.store = s.store ∧ t.sec.slotState = s.sec.slotState ∧ t.pending = s.pending)

/-- PGOOD_LOST, PGOOD_LOSS_PWREN_DROP, NRESET_BLACK_SET_END, NEJECT_RECOGNISED, EJECTION_PWREN_DROP, INTERNAL_RESET_TAKEN: a lost rail latches
cause 0x01 and, with the core supply good, puts every enabled lane under the safe-state generator (R55); an ejection latches cause 0x0D, or sets SECOND where another cause waits (R62), and
asks the partner for the cells it owns (R85); the resets that wait are taken, with PWREN dropped as R61 says. -/
def Obligations.LatchedResetsAreTaken : Prop :=
  (∀ s low, s.inState [.coldHold, .boot, .slate, .configure, .armed, .run, .safe] = true → s.pw.pgoodLoss = false → s.noReset = true → bitAt low.val 1 = true → exec (.pgoodLost low) s = .next { s with pw := { s.pw with cause := some ⟨1, s.ts.tsc, s.ts.running, low.val, s.cmCycle⟩, pgoodLoss := true } })
  ∧ (∀ s low, s.inState [.boot, .slate, .configure, .armed, .run, .safe] = true → s.pw.pgoodLoss = false → s.noReset = true → bitAt low.val 1 = false → s.bit R.CLK_STAT.LOCK_C = true → ∃ t, exec (.pgoodLost low) s = .next t ∧ t.pw.cause = some ⟨1, s.ts.tsc, s.ts.running, low.val, s.cmCycle⟩ ∧ t.pw.pgoodLoss = true ∧ ∀ n, n < 64 → s.laneEn n = true → t.get (R.LN_STAT.STATE n) = 1 ∧ (t.link n).urgQ = [])
  ∧ (∀ s c, s.pw.pgoodLoss = true → s.pw.cause = some c → ∃ t, exec .pgoodLossPwrenDrop s = .next t ∧ t.pw.state = .standby ∧ t.pw.pwren = false ∧ t.pw.cause = none ∧ t.lanes = [])
  ∧ (∀ s c, s.pw.nResetBlack = true → s.pw.cause = some c → c.code = 8 → s.pw.pgoodLoss = false → s.pw.ejecting = false → ∃ t, exec .nresetBlackSetEnd s = .next t ∧ t.pw.state = .coldHold ∧ t.pw.pwren = s.pw.pwren ∧ t.pw.cause = none ∧ t.get R.RST_CAUSE.CAUSE = 8)
  ∧ (∀ s, s.inState [.boot, .slate, .configure, .armed, .run, .safe] = true → s.pw.ejecting = false → s.noReset = true → s.dx.current = true → ∃ t, exec .nejectRecognised s = .next t ∧ t.pw.ejecting = true ∧ t.pw.cause = some ⟨0xD, s.ts.tsc, s.ts.running, 0, s.cmCycle⟩ ∧ (s.ownedMask ≠ 0 → t.dx.releaseNext = s.ownedMask) ∧ t.regs = s.regs ∧ t.pw.state = s.pw.state)
  ∧ (∀ s d, s.inState [.boot, .slate, .configure, .armed, .run, .safe] = true → s.pw.ejecting = false → s.pw.cause = some d → d.cyc ≠ s.cmCycle → s.dx.current = true → ∃ t, exec .nejectRecognised s = .next t ∧ t.pw.ejecting = true ∧ t.pw.cause = some d ∧ t.get R.RST_CAUSE.SECOND = 1 ∧ (s.ownedMask ≠ 0 → t.dx.releaseNext = s.ownedMask) ∧ OnlyRegs s t [R.RST_CAUSE.SECOND] ∧ t.pw.state = s.pw.state)
  ∧ (∀ s c, s.pw.ejecting = true → s.pw.cause = some c → c.code = 0xD → ∃ t, exec .ejectionPwrenDrop s = .next t ∧ t.pw.state = .standby ∧ t.pw.pwren = false ∧ t.pw.ejecting = false)
  ∧ (∀ s c, s.pw.ejecting = false → s.pw.nResetBlack = false → s.pw.pgoodLoss = false → s.pw.cause = some c → ∃ t, exec .internalResetTaken s = .next t ∧ t.pw.cause = none ∧ t.lanes = [] ∧ t.pw.state = (if c.code ∈ [1, 2, 3, 4, 7, 0xC, 0xD, 0xE] then DevState.standby else DevState.coldHold))

/-- SELFTEST_DONE, SELF_TEST_TIMEOUT, SLATE_HOLD, SOFTWARE_RESET_REQUEST, POWER_CYCLE_REQUEST: the start policy. SELFTEST_DONE acts in Boot alone
(R71); the timer of R70 resets a start; a Slate start is held with PENDING clear (R80); a host's reset is latched in Safe while Black sets go
out (R64), taken at once in Boot, Slate and Configure, and refused in Run (R88). -/
def Obligations.StartPolicyAndHostResets : Prop :=
  (∀ s, exec .selftestDone s = .next (if s.pw.state = .boot then { s with pw := { s.pw with selfTestDone := true } } else s))
  ∧ (∀ s, s.pw.state = .boot → s.pw.selfTest = true → s.noReset = true → s.pw.pgoodLoss = false → s.pw.ejecting = false → ∃ t, exec .selfTestTimeout s = .next t ∧ t.pw.state = .coldHold ∧ t.pw.pwren = s.pw.pwren ∧ t.lanes = [])
  ∧ (∀ s, s.pw.state = .boot → s.pw.slateStart = true → (s.pw.romOnly = true ∨ s.pw.fwRuns = true) → ∃ t, exec .slateHold s = .next t ∧ t.pw.state = .slate ∧ t.pw.selfTest = false ∧ t.get R.START_STAT.PENDING = 0)
  ∧ (∀ s, s.pw.state = .safe → s.noReset = true → ∃ t, exec .softwareResetRequest s = .next t ∧ t.pw = { s.pw with cause := some ⟨0xB, s.ts.tsc, s.ts.running, 0, s.cmCycle⟩ } ∧ t.regs = s.regs ∧ ∀ n, n < 64 → s.bit R.CLK_STAT.LOCK_C = true → s.up n = true → (t.link n).urgQ = [.black])
  ∧ (∀ s, s.inState [.boot, .slate, .configure] = true → s.noReset = true → s.pw.pgoodLoss = false → s.pw.ejecting = false → ∃ t, exec .softwareResetRequest s = .next t ∧ t.pw.state = .coldHold ∧ t.pw.pwren = s.pw.pwren)
  ∧ (∀ s, s.pw.state = .run → exec .softwareResetRequest s = .next s ∧ exec .powerCycleRequest s = .next s)
  ∧ (∀ s, s.inState [.boot, .slate, .configure] = true → s.noReset = true → ∃ t, exec .powerCycleRequest s = .next t ∧ t.pw.state = .standby ∧ t.pw.pwren = false)

/-! ### Clocks, 04_clocks_plls.md, and the thermal monitor, 17_thermal.md -/

/-- RC_TRIM_READY, REFERENCE_WINDOW_DONE, PLL_A_START, PLL_LOCK_DECLARED, COLD_HOLD_TIMEOUT: the sequence of Cold hold (R105): a CKREF window that
fails is cause 0x04 (R105), the lock of PLL-T starts TSC at 0 (R125), the last lock enters Boot with the straps sampled (R47, R70), and the
timer of R66 takes cause 0x06 with PWREN unchanged. -/
def Obligations.ColdHoldSequence : Prop :=
  (∀ s, s.inHold = true → exec .rcTrimReady s = .next { s with pw := { s.pw with ch := { s.pw.ch with rcReady := true } } })
  ∧ (∀ s, s.inHold = true → s.pw.ch.rcReady = true → s.pw.ch.refPassed = false → exec (.referenceWindowDone true) s = .next { s with pw := { s.pw with ch := { s.pw.ch with refPassed := true } } })
  ∧ (∀ s, s.inHold = true → s.pw.ch.rcReady = true → s.pw.ch.refPassed = false → s.noReset = true → ∃ t, exec (.referenceWindowDone false) s = .next t ∧ t.pw.state = .standby ∧ t.pw.pwren = false ∧ t.get R.RST_CAUSE.CAUSE = 4)
  ∧ (∀ s, s.inHold = true → exec .pllAStart s = .next { s with pw := { s.pw with ch := { s.pw.ch with pllA := true } } })
  ∧ (∀ s q st, s.inHold = true → s.pw.ch.pllA = true → s.pw.ch.locks = 0 → exec (.pllLockDeclared .a q st) s = .next { s with pw := { s.pw with ch := { s.pw.ch with locks := 1, qualUs := q } } })
  ∧ (∀ s q st, s.inHold = true → s.pw.ch.refPassed = true → s.pw.ch.locks < 7 → exec (.pllLockDeclared .t q st) s = .next { s with pw := { s.pw with ch := { s.pw.ch with locks := s.pw.ch.locks + 8 } }, ts := { s.ts with tsc := 0, running := true } })
  ∧ (∀ s q st, s.inHold = true → s.pw.ch.refPassed = true → s.pw.ch.locks = 13 → s.pw.ch.deferred = false → 500 ≤ s.pw.ch.qualUs → s.pw.ch.qualUs ≤ 5000 → bitAt s.pw.vio 3 = false → ∃ t, exec (.pllLockDeclared .c q st) s = .next t ∧ t.pw.state = .boot ∧ t.pw.straps = st.val ∧ t.pw.selfTest = true ∧ t.pw.coldHold = false ∧ t.pw.stage = 2 ∧ t.get R.START_STAT.PENDING = 1 ∧ t.get R.CLK_PLLLK.QUAL_US = s.pw.ch.qualUs ∧ t.ts.opsecBase = max (s.mram.opsecA.getD 0) (s.mram.opsecB.getD 0))
  ∧ (∀ s, s.inHold = true → s.noReset = true → s.pw.pgoodLoss = false → s.pw.ejecting = false → ∃ t, exec .coldHoldTimeout s = .next t ∧ t.pw.state = .coldHold ∧ t.pw.pwren = s.pw.pwren ∧ t.pw.ch = {} ∧ t.get R.RST_CAUSE.CAUSE = 6)

/-- CKREF_TRIP, PLL_A_LOCK_LOST, PLL_C_LOCK_LOST, PLL_S_LOCK_LOST, PLL_T_LOCK_LOST, PLL_RELOCK_ATTEMPT, PLL_T_RETURN, CLOCK_MONITOR_FAILED: a trip during
blanking is deferred (R106), one while running clears CKREF_OK and latches cause 0x03 (R102), the loss of PLL-A latches cause 0x05, puts the lanes under the safe-state generator and gates the
core (R117; log 75), and the other losses clear their lock, count, report and act as R116 and R118 say. -/
def Obligations.ClockLosses : Prop :=
  (∀ s, s.pw.state = .coldHold → s.pw.coldHold = true → s.pw.ch.rcReady = false → exec .ckrefTrip s = .next { s with pw := { s.pw with ch := { s.pw.ch with deferred := true } } })
  ∧ (∀ s, s.inState [.boot, .slate, .configure] = true → s.clk.monIgnored = false → s.noReset = true → ∃ t, exec .ckrefTrip s = .next t ∧ t.get R.CLK_STAT.CKREF_OK = 0 ∧ OnlyRegs s t [R.CLK_STAT.CKREF_OK] ∧ t = { s with regs := t.regs, pw := { s.pw with cause := some ⟨3, s.ts.tsc, s.ts.running, 0, s.cmCycle⟩ } })
  ∧ (∀ s, s.active = true → s.clk.monIgnored = false → s.noReset = true → s.bit R.CLK_STAT.LOCK_C = true → ∃ t, exec .ckrefTrip s = .next t ∧ t.get R.CLK_STAT.CKREF_OK = 0 ∧ t.pw = { s.pw with cause := some ⟨3, s.ts.tsc, s.ts.running, 0, s.cmCycle⟩ } ∧ (∀ n, n < 64 → s.up n = true → (t.link n).urgQ = [.black]) ∧ OnlyRegs s t [R.CLK_STAT.CKREF_OK])
  ∧ (∀ s pin, s.cored = true → s.noReset = true → ∃ t, exec (.pllALockLost pin) s = .next t ∧ t.get R.CLK_STAT.LOCK_A = 0 ∧ t.get R.CLK_PLLLK.LO = b2n pin ∧ t.pw = { s.pw with cause := some ⟨5, s.ts.tsc, s.ts.running, 0, s.cmCycle⟩, state := .gated, selfTest := false } ∧ (∀ n, n < 64 → s.laneEn n = true → t.get (R.LN_STAT.STATE n) = if s.bit R.CLK_STAT.LOCK_C then 1 else s.get (R.LN_STAT.STATE n)) ∧ t.mram = s.mram ∧ t.pending = s.pending)
  ∧ (∀ s, s.cored = true → s.bit R.CLK_STAT.LOCK_C = true → s.bit R.CLK_MUX_CAN.CURRENT = false → s.dx.current = false → s.inState [.armed, .run] = false → exec .pllCLockLost s = .next (stopLanes (raise Src.CLK_PLLC_LOST_ALONE ((s.set R.CLK_STAT.LOCK_C 0).inc R.CLK_LOSSCNT.LOSS_C))))
  ∧ (∀ s, s.cored = true → s.bit R.CLK_STAT.LOCK_C = true → s.dx.current = false → s.inState [.armed, .run] = true → s.acts Src.CLK_PLLC_LOST_ALONE = true → ∃ t, exec .pllCLockLost s = .next t ∧ t.pw.state = .safe ∧ t.get R.CLK_STAT.LOCK_C = 0)
  ∧ (∀ s, s.cored = true → s.bit R.CLK_STAT.LOCK_C = true → ∃ t, exec .pllCLockLost s = .next t ∧ ∀ n, n < 64 → t.get (R.LN_STAT.STATE n) = 0)
  ∧ (∀ s, s.cored = true → s.bit R.CLK_STAT.LOCK_S = true → exec .pllSLockLost s = .next (linkDrop 2 s (linkDrop 0 s ((raise Src.CLK_PLLS_LOST ((s.set R.CLK_STAT.LOCK_S 0).inc R.CLK_LOSSCNT.LOSS_S)).each [0, 1, 2, 3] spineBringUp))))
  ∧ (∀ s, s.cored = true → s.bit R.CLK_STAT.LOCK_T = true → exec .pllTLockLost s = .next (raise Src.CLK_PLLT_LOST { ((((s.set R.CLK_STAT.LOCK_T 0).set R.CLK_STAT.TS_FALLBACK 1).inc R.CLK_LOSSCNT.LOSS_T).set R.CLK_PHASE_T.PENDING 0) with clk := { s.clk with tReturn := false } }))
  ∧ (∀ s, s.cored = true → s.bit R.CLK_STAT.LOCK_C = false → ∃ t, exec (.pllRelockAttempt .c) s = .next t ∧ t.pllStopped 1 = true ∧ Tab.get 0 t.clk.attempt 1 = s.now + 1 ∧ (s.bit R.CLK_DITHER.DITHER_C = true → Tab.get 0 t.clk.lfsr 1 = max 1 (s.get (R.CLK_SEED.SEED 1))) ∧ t = { s with clk := t.clk })
  ∧ (∀ s, exec (.pllRelockAttempt .a) s = .next s)
  ∧ (∀ s, s.clk.tReturn = true → s.bit R.CLK_STAT.LOCK_T = true → ∃ t, exec .pllTReturn s = .next t ∧ t.get R.CLK_STAT.TS_FALLBACK = 0 ∧ OnlyRegs s t [R.CLK_STAT.TS_FALLBACK] ∧ t = { s with regs := t.regs, clk := { s.clk with tReturn := false } })
  ∧ (∀ s, s.cored = true → exec .clockMonitorFailed s = .next (raise Src.CLK_MON_FAILED { s with clk := { s.clk with monIgnored := true } }))

/-- MUX_SELECT_WRITE, MUX_SWITCH_COMPLETE, MUX_HANG, MUX_FORCE, CONSUMER_IDLE_WRITE, SPREAD_ENABLE_WRITE, SPREAD_RAMP_DONE: a select starts a switch and
BUSY shows it, the switch makes CURRENT follow SEL (R107), a hang is counted and reported (R108), a forced switch is refused while the consumer is not
idle (R110), the return of CONSUMER_IDLE to 0 restarts the CAN controller (R110), and spread is accepted under the conditions of R94 and holds the egress lane
down. -/
def Obligations.ClockMultiplexers : Prop :=
  (∀ s sel, s.bit R.CLK_STAT.SPREAD_ACT = false → s.bit R.CLK_MUX_CAN.BUSY = false → ∃ t, exec (.muxSelectWrite .can sel) s = .next t ∧ t.get R.CLK_MUX_CAN.SEL = sel % 2 ∧ t.bit R.CLK_MUX_CAN.BUSY = decide (sel % 2 ≠ s.get R.CLK_MUX_CAN.CURRENT) ∧ t.bit R.CLK_STAT.CAN_BUSY = decide (sel % 2 ≠ s.get R.CLK_MUX_CAN.CURRENT) ∧ OnlyRegs s t [R.CLK_MUX_CAN.SEL, R.CLK_MUX_CAN.BUSY, R.CLK_STAT.CAN_BUSY] ∧ t = { s with regs := t.regs, net := t.net } ∧ (sel % 2 = s.get R.CLK_MUX_CAN.CURRENT → t.net = s.net))
  ∧ (∀ s, s.bit R.CLK_STAT.SPREAD_ACT = true → exec (.muxSelectWrite .can 0) s = .next (raise Src.CLK_SETTING_REFUSED s))
  ∧ (∀ s, s.bit R.CLK_MUX_CAN.BUSY = true → s.canRuns (s.get R.CLK_MUX_CAN.CURRENT) = true → s.canRuns (s.get R.CLK_MUX_CAN.SEL) = true → ∃ t, exec (.muxSwitchComplete .can) s = .next t ∧ t.get R.CLK_MUX_CAN.CURRENT = s.get R.CLK_MUX_CAN.SEL % 2 ∧ t.get R.CLK_MUX_CAN.BUSY = 0 ∧ t.get R.CLK_STAT.CAN_BUSY = 0 ∧ OnlySets s t [R.CLK_MUX_CAN.CURRENT, R.CLK_MUX_CAN.BUSY, R.CLK_STAT.CAN_BUSY])
  ∧ (∀ s, s.bit R.CLK_MUX_CAN.BUSY = true → exec (.muxHang .can) s = .next (raise Src.CLK_MUX_HANG_CAN (s.inc R.CLK_LOSSCNT.HANGS)))
  ∧ (∀ s, s.bit R.CLK_STAT.CKOUT_BUSY = true → exec (.muxHang .ckout) s = .next (raise Src.CLK_MUX_HANG_CKOUT (s.inc R.CLK_LOSSCNT.HANGS)))
  ∧ (∀ s, s.bit R.CLK_MUX_CAN.CONSUMER_IDLE = true → ∃ t, exec (.muxForce .can) s = .next t ∧ t.get R.CLK_MUX_CAN.CURRENT = s.get R.CLK_MUX_CAN.SEL % 2 ∧ t.get R.CLK_MUX_CAN.BUSY = 0)
  ∧ (∀ s, s.bit R.CLK_MUX_CAN.CONSUMER_IDLE = false → exec (.muxForce .can) s = .next (raise Src.CLK_FORCE_REFUSED s))
  ∧ (∀ s, s.bit R.CLK_MUX_CAN.CONSUMER_IDLE = true → ∃ t, exec (.consumerIdleWrite false) s = .next t ∧ t.get R.CLK_MUX_CAN.CONSUMER_IDLE = 0 ∧ t.get R.FN_COUNTS.TEC = 0 ∧ t.get R.FN_COUNTS.REC = 0 ∧ t.get R.FN_STAT.BUS = (if s.isRoot then 0 else 3) ∧ t = { s with regs := t.regs, net := { s.net with emcySending := false } } ∧ OnlyRegs s t [R.CLK_MUX_CAN.CONSUMER_IDLE, R.FN_COUNTS.TEC, R.FN_COUNTS.REC, R.FN_STAT.BUS])
  ∧ (∀ s (v : Word), s.pw.state = .configure → bitAt v.toNat 3 = false → ∃ t, exec (.spreadEnableWrite v) s = .next t ∧ t.get R.CLK_SPREAD.EN = 0 ∧ t.get R.CLK_STAT.SPREAD_ACT = 0 ∧ t.get R.CLK_SPREAD.DEPTH = v.toNat % 4 ∧ OnlySets s t [R.CLK_SPREAD.EN, R.CLK_SPREAD.MODE, R.CLK_SPREAD.DEPTH, R.CLK_STAT.SPREAD_ACT])
  ∧ (∀ s (v : Word), s.pw.state = .configure → bitAt v.toNat 3 = true → bitAt v.toNat 2 = false → s.get R.MET_STAT.PH_STATE = 0 → s.bit R.WF_CTRL.EN = false → s.bit R.CLK_MUX_CAN.CURRENT = true → ∃ t, exec (.spreadEnableWrite v) s = .next t ∧ t.get R.CLK_SPREAD.EN = 1 ∧ t.get R.CLK_STAT.SPREAD_ACT = 1 ∧ t.get R.CLK_SPREAD.DEPTH = v.toNat % 4 ∧ t.get R.EG_STAT.LINK_UP = 0)
  ∧ (∀ s (v : Word), s.pw.state = .configure → bitAt v.toNat 3 = true → s.bit R.CLK_MUX_CAN.CURRENT = false → exec (.spreadEnableWrite v) s = .next (raise Src.CLK_SETTING_REFUSED s))
  ∧ (∀ s, s.clk.ramp = true → ∃ t, exec .spreadRampDone s = .next t ∧ t.get R.CLK_STAT.SPREAD_ACT = 0 ∧ t.get R.CLK_SPREAD.EN = 0 ∧ t.get R.FN_COUNTS.TEC = 0 ∧ t.get R.FN_COUNTS.REC = 0 ∧ t.clk = { s.clk with ramp := false, canHeld := false })

/-- SHUTDOWN_PWREN_DROP, PEAK_CLEAR, THERMAL_SAMPLE: the shutdown sequence ends with PWREN dropped (R467), a clear sets the peak to its reset value (R471), and a
sample of twelve sound, cool sensors is read back from TH_SENS and opens no condition (R461 to R463). -/
def Obligations.ThermalMonitor : Prop :=
  (∀ s, s.th.shutting = true → s.noReset = true → ∃ t, exec .shutdownPwrenDrop s = .next t ∧ t.pw.state = .standby ∧ t.pw.pwren = false ∧ t.th = {} ∧ t.lanes = [])
  ∧ (∀ s, ∃ t, exec .peakClear s = .next t ∧ t.get R.TH_PEAK.PEAK = 0x8000 ∧ t.get R.TH_PEAK.SENSOR = 0 ∧ OnlySets s t [R.TH_PEAK.PEAK, R.TH_PEAK.SENSOR])
  ∧ (∀ s (x : Int), s.inState [.configure, .armed, .run, .safe] = true → s.goodSensors = List.range 12 → 0 ≤ x → 16 * x < 16 * s.get R.TH_LIMITS.WARN - 80 → 16 * x < 16 * s.get R.TH_LIMITS.THROT - 80 → 16 * x < 16 * s.get R.TH_LIMITS.SHUT - 80 → x ≤ 150 → s.bit R.TH_STAT.WARN_ACT = false → s.bit R.TH_STAT.THROT_ACT = false → s.th.shut = false → s.get R.TH_CTRL.RATE = 0 → s.bit R.TH_STAT.SHEDDING = false → ∃ t, exec (.thermalSample (List.replicate 12 (some (16 * x)))) s = .next t ∧ (∀ i, i < 12 → (t.get (R.TH_SENS.TEMP i) : Int) = 16 * x) ∧ t.bit R.TH_STAT.WARN_ACT = false ∧ t.bit R.TH_STAT.THROT_ACT = false ∧ t.pw = s.pw ∧ t.goodSensors = List.range 12)

/-! ### Cell lanes, 06_cell_lanes.md -/

/-- LANE_ENABLE, LANE_SIGNAL_DETECT, LANE_CDR_LOCK, TRAINING_SET_RX: characters written in the 8b/10b code are read back (R155); bring-up of a lane, step by step
(R162, R163): the fourth comma at one bit position aligns the receiver, a set off the aligned position restarts the counts, the first echo decides an undecided map (R160),
the eighth consecutive TSU set with one echo enters READY, and the
eighth TSU2 set with 16 TSD2 sets sent enters UP, where identification starts (R219). -/
def Obligations.LaneBringUpSteps : Prop :=
  (∀ (rd : Bool) (l : List Sym), readGroups rd (groupsOf rd l) = l.map some)
  ∧ (∀ s (n : Fin 64), s.pw.state = .configure → s.bit (R.LN_CTRL.EN n) = false → s.sec.deadLanes = 0 → s.bit R.CLK_STAT.LOCK_C = true → s.up n = false → ∃ t, exec (.laneEnable n) s = .next t ∧ t.get (R.LN_CTRL.EN n) = 1 ∧ t.get (R.LN_STAT.STATE n) = 2 ∧ t.get (R.LN_STAT.ATTEMPT n) = 1 ∧ t.get (R.LN_STAT.ALIGNED n) = 0 ∧ t.get (R.LN_STAT.RX_INV n) = b2n (s.get (R.LN_CTRL.RX_POL n) == 2) ∧ (t.lane n).commas = 0 ∧ (t.lane n).startAt = s.ts.tsc ∧ OnlyRegs s t (R.LN_CTRL.EN n :: attemptRegs n) ∧ t = { s with regs := t.regs, lanes := t.lanes })
  ∧ (∀ s (n : Fin 64), s.laneState n = 2 ∨ s.laneState n = 8 → ∃ t, exec (.laneSignalDetect n) s = .next t ∧ t.get (R.LN_STAT.SIGNAL n) = 1 ∧ (t.lane n).sigSeen = true ∧ OnlyRegs s t [R.LN_STAT.SIGNAL n] ∧ t = { s with regs := t.regs, lanes := t.lanes })
  ∧ (∀ s (n : Fin 64), s.laneState n = 2 ∨ s.laneState n = 8 → s.bit (R.LN_STAT.SIGNAL n) = true → ∃ t, exec (.laneCdrLock n) s = .next t ∧ t.get (R.LN_STAT.CDR_LOCK n) = 1 ∧ OnlySets s t [R.LN_STAT.CDR_LOCK n])
  ∧ (∀ s (p : Fin 64) (n : Nat) (k : Fin 10) (rd : Bool) (g : Nat) (gs : List Nat), n = s.laneOfPad p → s.laneState n = 2 ∨ s.laneState n = 8 → s.bit (R.LN_STAT.SIGNAL n) = true → s.bit (R.LN_STAT.CDR_LOCK n) = true → s.bit (R.LN_STAT.ALIGNED n) = false → (s.lane n).commas = 3 → isComma g = true → ∃ t, exec (.trainingSetRx p k rd (g :: gs)) s = .next t ∧ t.get (R.LN_STAT.ALIGNED n) = b2n ((s.lane n).commaPlace == k.val) ∧ (t.lane n).commas = (if (s.lane n).commaPlace = k.val then 4 else 1) ∧ (t.lane n).commaPlace = k.val ∧ OnlyRegs s t [R.LN_STAT.ALIGNED n] ∧ t = { s with regs := t.regs, lanes := t.lanes })
  ∧ (∀ s (p : Fin 64) (k : Fin 10) (rd : Bool) (gs : List Nat) (l ty port : Nat), k.val = (s.lane p).commaPlace → s.map (p.val / 4) = 0 → s.laneState p = 2 → s.bit (R.LN_STAT.SIGNAL p) = true → s.bit (R.LN_STAT.CDR_LOCK p) = true → s.bit (R.LN_STAT.ALIGNED p) = true → (s.lane p).tsuRun = 0 → (l = p.val ∨ l = mirror p) → (ty = 0x11 ∨ ty = 0x12) → port < 256 → s.readLane p rd gs = (Sym.k28_5 :: (leBytes 1 ty ++ leBytes 1 l ++ leBytes 1 port ++ leBytes 1 0 ++ List.replicate 11 0xB5).map Sym.data).map some → ∃ t, exec (.trainingSetRx p k rd gs) s = .next t ∧ t.get (R.QUAD_CFG.MAP (p.val / 4)) = (if l = p.val then 1 else 2) ∧ t.get (R.LN_STAT.RX_PAD l) = (if l = p.val then s.get (R.LN_STAT.RX_PAD l) else p.val) ∧ (t.lane l).tsuRun = 1 ∧ (t.lane l).echo = some l ∧ t = { s with regs := t.regs, lanes := t.lanes })
  ∧ (∀ s (p : Fin 64) (n : Nat) (k : Fin 10) (rd : Bool) (gs : List Nat) (ty port : Nat), n = s.laneOfPad p → k.val = (s.lane n).commaPlace → s.map (p.val / 4) = 1 ∨ s.map (p.val / 4) = 2 → s.laneState n = 2 → s.bit (R.LN_STAT.SIGNAL n) = true → s.bit (R.LN_STAT.CDR_LOCK n) = true → s.bit (R.LN_STAT.ALIGNED n) = true → (s.lane n).tsuRun = 7 → (s.lane n).echo = some n → (ty = 0x11 ∨ ty = 0x12) → port < 256 → s.readLane n rd gs = (Sym.k28_5 :: (leBytes 1 ty ++ leBytes 1 n ++ leBytes 1 port ++ leBytes 1 0 ++ List.replicate 11 0xB5).map Sym.data).map some → ∃ t, exec (.trainingSetRx p k rd gs) s = .next t ∧ t.laneState n = 3 ∧ t.get (R.LN_STAT.PORT n) = port / 2 % 2 ∧ (t.lane n).tsu2Run = 0 ∧ (t.lane n).readyAt = s.ts.tsc ∧ OnlyRegs s t [R.LN_STAT.STATE n, R.LN_STAT.PORT n] ∧ t = { s with regs := t.regs, lanes := t.lanes })
  ∧ (∀ s (p : Fin 64) (n : Nat) (k : Fin 10) (rd : Bool) (gs : List Nat) (port : Nat), n = s.laneOfPad p → k.val = (s.lane n).commaPlace → s.map (p.val / 4) = 1 ∨ s.map (p.val / 4) = 2 → s.laneState n = 3 → s.bit (R.LN_STAT.SIGNAL n) = true → s.bit (R.LN_STAT.CDR_LOCK n) = true → s.bit (R.LN_STAT.ALIGNED n) = true → (s.lane n).tsu2Run = 7 → (s.lane n).wasLost = false → (s.lane n).absent = false → s.get (R.LN_STAT.PORT n) = s.pos % 2 → 16 ≤ s.tsd2Sent n → port < 256 → s.readLane n rd gs = (Sym.k28_5 :: (leBytes 1 0x12 ++ leBytes 1 n ++ leBytes 1 port ++ leBytes 1 0 ++ List.replicate 11 0xB5).map Sym.data).map some → ∃ t, exec (.trainingSetRx p k rd gs) s = .next t ∧ t.up n = true ∧ t.get (R.LKN_STAT.ADMIT n) = 1 ∧ t.get (R.LKN_STAT.ID_RESULT n) = 0 ∧ (t.link n).descReq = true ∧ (t.link n).fetchAt = s.frame ∧ OnlyRegs s t [R.LN_STAT.STATE n, R.LKN_STAT.ADMIT n, R.LKN_STAT.ID_RESULT n] ∧ t = { s with regs := t.regs, lanes := t.lanes, links := t.links })
  ∧ (∀ s (p : Fin 64) (n : Nat) (k : Fin 10) (rd : Bool) (gs : List Nat), n = s.laneOfPad p → s.inAttempt n = true → s.bit (R.LN_STAT.SIGNAL n) = true → s.bit (R.LN_STAT.CDR_LOCK n) = true → s.bit (R.LN_STAT.ALIGNED n) = true → k.val ≠ (s.lane n).commaPlace → exec (.trainingSetRx p k rd gs) s = .next (s.modLane n (fun l => { l with invRun := 0, tsuRun := 0, tsu2Run := 0 })))

/-- LANE_DISABLE, ATTEMPT_TIMEOUT, BACKOFF_END, ABSENT_RETRY, RETRAIN, LANE_LOST: a disabled lane is OFF (R162); an attempt that times out goes to BACKOFF with the failed
step, and the 16th to ABSENT (R163, R165, R166); the next attempt starts at TSD1 with its number; a lane in UP that is lost counts the loss and
starts attempt 1 (R170). -/
def Obligations.LaneAttemptsAndLoss : Prop :=
  (∀ s (n : Fin 64), s.pw.state = .configure → s.laneEn n = true → s.up n = false → (Tab.get {} s.ledger n).life = none → ∃ t, exec (.laneDisable n) s = .next t ∧ t.get (R.LN_CTRL.EN n) = 0 ∧ t.get (R.LN_STAT.STATE n) = 0 ∧ (t.lane n).absent = false)
  ∧ (∀ s (n : Fin 64), s.inAttempt n = true → s.get (R.LN_STAT.ATTEMPT n) < 16 → ∃ t, exec (.attemptTimeout n) s = .next t ∧ t.get (R.LN_STAT.STATE n) = 5 ∧ t.get (R.LN_STAT.FAIL_STAGE n) = s.stageOf n ∧ t.get (R.LN_COUNTS.FAILED_ATTEMPTS n) = min (2 ^ 16 - 1) (s.get (R.LN_COUNTS.FAILED_ATTEMPTS n) + 1) ∧ t.get (R.LN_STAT.ALIGNED n) = 0 ∧ OnlyRegs s t [R.LN_STAT.STATE n, R.LN_STAT.FAIL_STAGE n, R.LN_COUNTS.FAILED_ATTEMPTS n, R.LN_STAT.SIGNAL n, R.LN_STAT.CDR_LOCK n, R.LN_STAT.ALIGNED n] ∧ t = { s with regs := t.regs, cyc := t.cyc })
  ∧ (∀ s (n : Fin 64), s.inAttempt n = true → s.get (R.LN_STAT.ATTEMPT n) = 16 → ∃ t, exec (.attemptTimeout n) s = .next t ∧ t.get (R.LN_STAT.STATE n) = 6 ∧ (t.lane n).absent = true ∧ t.get (R.LN_STAT.FAIL_STAGE n) = s.stageOf n)
  ∧ (∀ s (n : Fin 64), s.laneState n = 5 → s.get (R.LN_STAT.ATTEMPT n) < 16 → ∃ t, exec (.backoffEnd n) s = .next t ∧ t.get (R.LN_STAT.STATE n) = 2 ∧ t.get (R.LN_STAT.ATTEMPT n) = s.get (R.LN_STAT.ATTEMPT n) + 1 ∧ (t.lane n).tsuRun = 0 ∧ OnlyRegs s t (attemptRegs n) ∧ t = { s with regs := t.regs, lanes := t.lanes })
  ∧ (∀ s (n : Fin 64), s.laneState n = 6 → ∃ t, exec (.absentRetry n) s = .next t ∧ t.get (R.LN_STAT.STATE n) = 2 ∧ t.get (R.LN_STAT.ATTEMPT n) = 16 ∧ (t.lane n).retry = true ∧ OnlyRegs s t (attemptRegs n) ∧ t = { s with regs := t.regs, lanes := t.lanes })
  ∧ (∀ s (n : Fin 64), s.laneState n = 5 ∨ s.laneState n = 6 → ∃ t, exec (.retrain n) s = .next t ∧ t.get (R.LN_STAT.STATE n) = 2 ∧ t.get (R.LN_STAT.ATTEMPT n) = 1 ∧ OnlyRegs s t (attemptRegs n) ∧ t = { s with regs := t.regs, lanes := t.lanes })
  ∧ (∀ s (n : Fin 64), s.up n = true → ∃ t, exec (.laneLost n) s = .next t ∧ t.get (R.LN_STAT.STATE n) = 2 ∧ t.get (R.LN_STAT.ATTEMPT n) = 1 ∧ (t.lane n).wasLost = true ∧ t.get (R.LKN_STAT.ADMIT n) = 0 ∧ t.get (R.LN_COUNTS.LOSSES n) = min (2 ^ 16 - 1) (s.get (R.LN_COUNTS.LOSSES n) + 1))

/-- QUAD_MAP_MODE_WRITE, SPARE_SEL_WRITE, SPARE_CALIBRATED, LANE_TEST_START, LANE_TEST_STOP: a fixed map mode sets the map and retrains the quad (R161); a spare select of a quad
whose lanes are idle calibrates (R173, R174), and one that is locked is refused; a lane under test is in TEST, and leaves it into bring-up with its test
fields clear (R179); a disabled lane stays OFF (R162). -/
def Obligations.QuadsSparesAndTests : Prop :=
  (∀ s (q : Fin 16), s.pw.state = .configure → orientation (s.get (R.QUAD_CFG.MAP_MODE q)) = 0 → (∀ n, n < 64 → s.bit (R.LN_CTRL.EN n) = false) → ∃ t, exec (.quadMapModeWrite q 2) s = .next t ∧ t.get (R.QUAD_CFG.MAP_MODE q) = 2 ∧ t.get (R.QUAD_CFG.MAP q) = 2 ∧ (∀ k, k < 4 → t.get (R.LN_STAT.RX_PAD (4 * q.val + k)) = 4 * q.val + 3 - k) ∧ t = { s with regs := t.regs })
  ∧ (∀ s (q : Fin 16) v, s.pw.state = .configure → v < 4 → orientation v = orientation (s.get (R.QUAD_CFG.MAP_MODE q)) → ∃ t, exec (.quadMapModeWrite q v) s = .next t ∧ t.get (R.QUAD_CFG.MAP_MODE q) = v ∧ OnlySets s t [R.QUAD_CFG.MAP_MODE q])
  ∧ (∀ s (q : Fin 16) v, 5 ≤ v → exec (.spareSelWrite q v) s = .next (raise Src.LA_SETTING_REFUSED s))
  ∧ (∀ s (q : Fin 16) v, s.bit (R.QUAD_CFG.SPARE_LOCK q) = true → exec (.spareSelWrite q v) s = .next (raise Src.LA_SETTING_REFUSED s))
  ∧ (∀ s (q : Fin 16) v, v ≤ 4 → s.bit (R.QUAD_CFG.SPARE_LOCK q) = false → (∀ n, n < 64 → s.laneState n = 0) → (∀ n, n < 64 → s.bit (R.LN_CTRL.EN n) = false) → ∃ t, exec (.spareSelWrite q v) s = .next t ∧ t.get (R.QUAD_CFG.SPARE_SEL q) = v ∧ t.get (R.QUAD_CFG.SPARE_BUSY q) = 1 ∧ OnlySets s t [R.QUAD_CFG.SPARE_SEL q, R.QUAD_CFG.SPARE_BUSY q])
  ∧ (∀ s (q : Fin 16), s.bit (R.QUAD_CFG.SPARE_BUSY q) = true → (∀ n, n < 64 → s.laneState n ≠ 9) → ∃ t, exec (.spareCalibrated q) s = .next t ∧ t.get (R.QUAD_CFG.SPARE_BUSY q) = 0 ∧ (∀ k, k < 4 → t.bit (R.LN_STAT.ON_SPARE (4 * q.val + k)) = (s.padLanes q (s.get (R.QUAD_CFG.SPARE_SEL q))).contains (4 * q.val + k)) ∧ t = { s with regs := t.regs })
  ∧ (∀ s (n : Fin 64) (v : Word), s.pw.state = .configure → s.up n = false → s.laneEn n = true → 2 ^ 26 ≤ v.toNat → ∃ t, exec (.laneTestStart n v) s = .next t ∧ t.get (R.LN_STAT.STATE n) = 7 ∧ t.get (R.LN_TEST.PRBS_GEN n) = v.toNat / 2 ^ 31 ∧ t.get (R.LN_TEST.LOOP n) = v.toNat / 2 ^ 26 % 4 ∧ OnlyRegs s t [R.LN_STAT.STATE n, R.LN_TEST.PRBS_GEN n, R.LN_TEST.PRBS_CHK n, R.LN_TEST.PATTERN n, R.LN_TEST.LOOP n, R.LN_TEST.PRBS_LOCK n] ∧ t = { s with regs := t.regs, prbs := t.prbs, freeCount := t.freeCount })
  ∧ (∀ s (n : Fin 64) (v : Word), s.pw.state = .configure → s.laneEn n = false → 2 ^ 26 ≤ v.toNat → ∃ t, exec (.laneTestStart n v) s = .next t ∧ OnlySets s t [R.LN_TEST.PRBS_GEN n, R.LN_TEST.PRBS_CHK n, R.LN_TEST.PATTERN n, R.LN_TEST.LOOP n])
  ∧ (∀ s (n : Fin 64), s.laneState n = 7 → s.pw.state = .configure → s.laneEn n = true → s.bit R.CLK_STAT.LOCK_C = true → ∃ t, exec (.laneTestStop n) s = .next t ∧ t.get (R.LN_STAT.STATE n) = 2 ∧ t.get (R.LN_STAT.ATTEMPT n) = 1 ∧ t.get (R.LN_TEST.PRBS_GEN n) = 0 ∧ t.get (R.LN_TEST.LOOP n) = 0 ∧ t.get (R.LN_TEST.PRBS_LOCK n) = 0)
/-! ### The Limisk link, 07_limisk_link.md -/

/-- DOWNSTREAM_FRAME_SEND, EDGE_CUTOFF, UPSTREAM_FRAME_RX, UPSTREAM_FRAME_MISSING, LANE_DELAY_UPDATE, LANE_DELAY_APPLY, URGENT_SET_SEND: what a frame carries
and when it is complete (R192, R195), what a valid frame and an invalid one leave (R198 to R202), how D is formed and applied (R190), and how an urgent
set goes out and cuts a frame (R204). -/
def Obligations.LinkFramesBothWays : Prop :=
  (∀ s (n : Fin 64), s.up n = true → (s.cell n).ownNext = none → (s.gate n).tripClear = none → (s.gate n).clearPhase ≠ 1 → ∃ t, exec (.downstreamFrameSend n) s = .next t ∧ (t.link n).down.length = 287 ∧ (t.link n).down = s.downHead n ∧ (t.link n).down.take 5 = leBytes 1 (s.ctrlField n) ++ leBytes 1 (s.frame % 256) ++ leBytes 1 n ++ leBytes 1 s.pos ++ leBytes 1 (s.bypassField n) ∧ (t.link n).driven = s.driven n ∧ t = { s with links := t.links })
  ∧ (∀ s, ∃ t, exec .edgeCutoff s = .next t ∧ t = { s with links := t.links } ∧ ∀ n, n < 64 → (s.up n = false → t.link n = s.link n) ∧ (s.up n = true → (t.link n).edges = [] ∧ (t.link n).muted = 0 ∧ ((s.link n).driven = false → (t.link n).levels = 0) ∧ (((s.link n).cut = false ∨ (s.link n).urgSlot ≠ s.frame) → (s.link n).down.length = 287 → (t.link n).down.length = 315 ∧ (t.link n).down.take 287 = (s.link n).down)))
  ∧ (∀ s (n : Fin 64) (rt : Nat) (rd : Bool) (gs : List Nat) (bs : List Byte), s.rxOnly n = true → s.readLane n rd gs = (Sym.k28_5 :: bs.map Sym.data).map some → upGood bs = true → bitAt (upStatA bs) 1 = false → bitAt (upStatA bs) 3 = false → bitAt (upStatA bs) 5 = false → upFault bs = 0 → (s.gate n).oc = none → (s.gate n).capOv = none → upTemp0 bs = none → s.admitted n = false → s.monitor n = true → 0 < s.get (R.GSC_CFG.DEB n) → (s.gate n).warnOff = 0 → (s.gate n).warnOn = 0 → (s.gate n).tripOn = 0 → (s.gate n).tripOff = 0 → (s.gate n).clearHold = false → ∃ t, exec (.upstreamFrameRx n false rt rd gs) s = .next t ∧ (t.link n).up = bs ∧ (t.link n).upAt = s.ts.tsc ∧ (t.link n).upStamp = 1024 * t.upSlot n + s.get (R.LKN_DELAY.D n) + descSampleOfs (s.link n).desc ∧ (t.link n).invalidRun = 0 ∧ t.bit (R.LKN_STAT.OWNER_ACK n) = bitAt (upStatA bs) 7 ∧ t.bit (R.LKN_STAT.OTHER_OWNER n) = bitAt (upStatA bs) 6 ∧ t.bit (R.LKN_STAT.HOLD n) = bitAt (upStatA bs) 4 ∧ t.bit (R.LKN_STAT.ENABLED n) = bitAt (upStatA bs) 2 ∧ t.get (R.LKN_STAT.NO_OWNER n) = upStatB bs % 16 ∧ (∀ m, m < 64 → t.gate m = s.gate m) ∧ t = { s with regs := t.regs, links := t.links, gates := t.gates })
  ∧ (∀ s (n : Fin 64) (rt : Nat) (rd : Bool) (gs : List Nat), s.up n = true → (s.link n).invalidRun < 3 → (s.link n).rtCount < 64 → codeErrorsIn (s.readLane n rd gs) = 0 → (dataAfter .k28_5 (s.readLane n rd gs)).all (fun bs => !upGood bs) = true → ∃ t, exec (.upstreamFrameRx n true rt rd gs) s = .next t ∧ (t.link n).rtSum = (s.link n).rtSum + rt ∧ (t.link n).rtCount = (s.link n).rtCount + 1 ∧ (t.link n).invalidRun = (s.link n).invalidRun + 1 ∧ (t.link n).up = (s.link n).up ∧ t.get (R.LKN_COUNTS.BAD_UP n) = min (2 ^ (R.LKN_COUNTS.BAD_UP n).width - 1) (s.get (R.LKN_COUNTS.BAD_UP n) + 1) ∧ OnlyRegs s t [R.LKN_COUNTS.BAD_UP n] ∧ t = { s with regs := t.regs, cyc := t.cyc, links := t.links })
  ∧ (∀ s (n : Fin 64), s.up n = true → (s.link n).invalidRun < 3 → ∃ t, exec (.upstreamFrameMissing n) s = .next t ∧ (t.link n).invalidRun = (s.link n).invalidRun + 1 ∧ t.get (R.LKN_COUNTS.BAD_UP n) = min (2 ^ (R.LKN_COUNTS.BAD_UP n).width - 1) (s.get (R.LKN_COUNTS.BAD_UP n) + 1) ∧ OnlyRegs s t [R.LKN_COUNTS.BAD_UP n] ∧ t = { s with regs := t.regs, cyc := t.cyc, links := t.links })
  ∧ (∀ s (n : Fin 64) (c : Nat), (s.link n).rtCount = c → 0 < c → (s.link n).desc ≠ [] → (s.link n).descReq = false → c * descTTurn (s.link n).desc ≤ (s.link n).rtSum + c → (s.link n).rtSum + c < c * descTTurn (s.link n).desc + 2 * c * 513 → ∃ t, exec (.laneDelayUpdate n) s = .next t ∧ t.get (R.LKN_DELAY.RTT n) = min 65535 ((s.link n).rtSum / c) ∧ (t.link n).dPending = some (((s.link n).rtSum + c - c * descTTurn (s.link n).desc) / (2 * c)) ∧ (t.link n).rtCount = 0 ∧ (t.link n).rtSum = 0 ∧ OnlyRegs s t [R.LKN_DELAY.RTT n] ∧ t = { s with regs := t.regs, links := t.links })
  ∧ (∀ s (n : Fin 64) d, (s.link n).dPending = some d → d ≤ 512 → s.get (R.LKN_STAT.ADMIT n) = 3 → ∃ t, exec (.laneDelayApply n) s = .next t ∧ t.get (R.LKN_DELAY.D n) = d ∧ (t.link n).dPending = none ∧ (t.link n).dFormed = true ∧ OnlyRegs s t [R.LKN_DELAY.D n] ∧ t = { s with regs := t.regs, links := t.links })
  ∧ (∀ s (n : Fin 64) u rest, (s.link n).urgQ = u :: rest → s.up n = true → s.urgBefore n = 0 → ∃ t, exec (.urgentSetSend n) s = .next t ∧ (t.link n).urgQ = rest ∧ (t.link n).lastUrgent = urgentChars u ∧ (t.link n).urgEnd = s.urgAt n + 4 ∧ (t.link n).cut = s.urgCut n ∧ (t.gate n).lvlQuiet = (s.urgAt n + 3) / 320 + 4 ∧ t = { s with links := t.links, gates := t.gates })
  ∧ (∀ s (n : Fin 64) u rest, (s.link n).urgQ = u :: rest → s.up n = true → 0 < s.urgBefore n → s.urgCut n = false → s.urgAt n % 320 < 316 + s.urgBefore n → ∃ t, exec (.urgentSetSend n) s = .next t ∧ (t.link n).cut = true ∧ (t.link n).urgQ = rest ∧ (t.link n).urgEnd = s.urgAt n + 4 ∧ t.get (R.LKN_COUNTS.CUT n) = min (2 ^ (R.LKN_COUNTS.CUT n).width - 1) (s.get (R.LKN_COUNTS.CUT n) + 1) ∧ OnlyRegs s t [R.LKN_COUNTS.CUT n] ∧ t = { s with regs := t.regs, cyc := t.cyc, links := t.links, gates := t.gates })

/-- PARAM_WRITE, PARAM_READ, PARAM_TIMEOUT, DESC_FETCH, DESCRIPTOR_VERIFIED, DESCRIPTOR_TIMEOUT, LINK_CNT_CLR: a head parameter access starts, or fails at once where a write
lacks the ownership (R215); a fetch begins afresh (R218); a verification writes its result, a refused cell is not admitted, and a cell whose delay is not yet known waits in
IDENTIFY (R217, R219); a descriptor that does not come is result 7 (R219). -/
def Obligations.HeadParametersAndIdentity : Prop :=
  (∀ s (n : Fin 64) (a : Byte) v, s.owns n = true → ∃ t, exec (.paramWrite n a v) s = .next t ∧ t.get (R.LKN_PARAM.ADDR n) = a.toNat ∧ t.get (R.LKN_PARAM.VALUE n) = v % 65536 ∧ t.get (R.LKN_PARAM.WRITE n) = 1 ∧ t.get (R.LKN_PARAM.STATUS n) = 1 ∧ OnlySets s t [R.LKN_PARAM.ADDR n, R.LKN_PARAM.VALUE n, R.LKN_PARAM.WRITE n, R.LKN_PARAM.STATUS n])
  ∧ (∀ s (n : Fin 64) (a : Byte) v, s.owns n = false → exec (.paramWrite n a v) s = .next (raise (Src.LKN_PARAM_FAIL n) ((((s.set (R.LKN_PARAM.ADDR n) a.toNat).set (R.LKN_PARAM.WRITE n) 1).set (R.LKN_PARAM.VALUE n) v).set (R.LKN_PARAM.STATUS n) 3)))
  ∧ (∀ s (n : Fin 64) (a : Byte), ∃ t, exec (.paramRead n a) s = .next t ∧ t.get (R.LKN_PARAM.ADDR n) = a.toNat ∧ t.get (R.LKN_PARAM.WRITE n) = 0 ∧ t.get (R.LKN_PARAM.STATUS n) = 1 ∧ OnlySets s t [R.LKN_PARAM.ADDR n, R.LKN_PARAM.WRITE n, R.LKN_PARAM.STATUS n])
  ∧ (∀ s (n : Fin 64), s.get (R.LKN_PARAM.STATUS n) = 1 → exec (.paramTimeout n) s = .next (raise (Src.LKN_PARAM_FAIL n) (s.set (R.LKN_PARAM.STATUS n) 3)))
  ∧ (∀ s (n : Fin 64), s.get (R.LKN_STAT.ADMIT n) = 1 ∨ s.get (R.LKN_STAT.ADMIT n) = 3 → ∃ t, exec (.descFetch n) s = .next t ∧ t.get (R.LKN_STAT.ADMIT n) = 1 ∧ t.get (R.LKN_STAT.ID_RESULT n) = 0 ∧ t.get (R.LKN_DELAY.D n) = 0 ∧ (t.link n).descReq = true ∧ (t.link n).dFormed = false ∧ (t.link n).segs = [] ∧ (t.link n).desc = [] ∧ (t.link n).fetchAt = s.frame ∧ t.verifyQ = s.verifyQ.filter (fun m => m != n.val) ∧ t.sec.engine ≠ some (.verify n true) ∧ OnlyRegs s t [R.LKN_STAT.ADMIT n, R.LKN_STAT.ID_RESULT n, R.LKN_DELAY.D n] ∧ t = { s with regs := t.regs, links := t.links, verifyQ := t.verifyQ, sec := { s.sec with engine := t.sec.engine } })
  ∧ (∀ s (n : Fin 64), s.get (R.LKN_STAT.ADMIT n) = 2 → ∃ t, exec (.descFetch n) s = .next t ∧ (t.link n).descReq = true ∧ (t.link n).refetch = true ∧ (t.link n).segs = [] ∧ (t.link n).fetchAt = s.frame ∧ t = { s with links := t.links, verifyQ := t.verifyQ, sec := { s.sec with engine := t.sec.engine } })
  ∧ (∀ s (n : Fin 64) (r : Nat), s.sec.engine = some (.verify n true) → ((s.link n).admitted = [] ∨ (s.link n).admitted = digestOf ((s.link n).desc.take 2720)) → r = verifyResult (s.link n).desc (Config.waisinKey :: s.sec.makerKeys.filter (· != 0)) (s.bit (R.LKN_CTRL.ID_POLICY n)) → s.get (R.LKN_STAT.ADMIT n) = 1 → s.get (R.LN_STAT.PORT n) = s.pos % 2 → (s.link n).dFormed = false → ∃ t, exec (.descriptorVerified n) s = .next t ∧ t.get (R.LKN_STAT.ID_RESULT n) = r ∧ (2 < r → t.get (R.LKN_STAT.ADMIT n) = 3 ∧ t.owns n = false) ∧ (r ≤ 2 → t.verifyQ = s.verifyQ.filter (fun m => m != n.val) ∧ t.sec.engine ≠ some (.verify n true) ∧ t.get (R.LKN_STAT.ADMIT n) = 1 ∧ (t.link n).digest = digestOf ((s.link n).desc.take 2720) ∧ t.get (R.LKN_ID_LO n) = leAt (t.link n).digest 0 4 ∧ OnlyRegs s t [R.LKN_STAT.ID_RESULT n, R.LKN_ID_LO n, R.LKN_ID_HI n]))
  ∧ (∀ s (n : Fin 64), (s.link n).descReq = true → s.get (R.LKN_STAT.ADMIT n) = 1 ∨ s.get (R.LKN_STAT.ADMIT n) = 2 → ∃ t, exec (.descriptorTimeout n) s = .next t ∧ t.get (R.LKN_STAT.ADMIT n) = 3 ∧ t.get (R.LKN_STAT.ID_RESULT n) = 7 ∧ t.get (R.BC_STAT.HELD_OUT n) = 0 ∧ t.owns n = false ∧ (t.link n).descReq = false)
  ∧ (∀ s (n : Fin 64), ∃ t, exec (.linkCntClr n) s = .next t ∧ t.get (R.LKN_COUNTS.BAD_UP n) = s.counted (R.LKN_COUNTS.BAD_UP n) ∧ t.get (R.LKN_COUNTS.SCARLET_RX n) = s.counted (R.LKN_COUNTS.SCARLET_RX n) ∧ t.get (R.LKN_COUNTS.CUT n) = s.counted (R.LKN_COUNTS.CUT n) ∧ OnlySets s t [R.LKN_COUNTS.BAD_UP n, R.LKN_COUNTS.SCARLET_RX n, R.LKN_COUNTS.CUT n])

/-! ### Modulation, 08_modulation.md, and gate supervision, 09_gate_supervision.md -/

/-- CARRIER_ENABLE, CARRIER_DISABLE, CARRIER_EVENT, PERIOD_OPENING: the first ZERO of a carrier that starts lies at its phase, at least three frames ahead (R228); a disabled
carrier opens no further period (R228); ZERO makes the opened period the one in progress and an event commits the shadows that are due (R230, R235); an opening latches
the period length and counts it (R229, R237), and a leg in mode 2 is on for the whole of it (R232). -/
def Obligations.CarriersOpenPeriods : Prop :=
  (∀ s (k : Fin 64), (s.car k).cur = none → (s.car k).next = none → 0 < s.get (R.CAR_PER.PER k) → ∃ t z, exec (.carrierEnable k) s = .next t ∧ t.get (R.CAR_CTRL.EN k) = 1 ∧ (t.car k).first = some z ∧ s.groupTime + 3072 ≤ z ∧ z < s.groupTime + 3072 + s.get (R.CAR_PER.PER k) ∧ z % s.get (R.CAR_PER.PER k) = s.get (R.CAR_PHASE.PHASE k) % s.get (R.CAR_PER.PER k) ∧ (t.car k).per = s.get (R.CAR_PER.PER k) ∧ (t.car k).stamp = none ∧ OnlyRegs s t [R.CAR_CTRL.EN k] ∧ t = { s with regs := t.regs, cars := t.cars })
  ∧ (∀ s (k : Fin 64), ∃ t, exec (.carrierDisable k) s = .next t ∧ t.get (R.CAR_CTRL.EN k) = 0 ∧ (t.car k).first = none ∧ (t.car k).next = none ∧ (t.car k).cur = (s.car k).cur ∧ (∀ l, l < 384 → ((s.car k).cur.all (fun p => s.get (R.LEG_CFG.CARRIER l) != k.val || (t.leg l).planEnd ≤ p.zero + p.len)) = true) ∧ OnlyRegs s t [R.CAR_CTRL.EN k] ∧ t = { s with regs := t.regs, cars := t.cars, legs := t.legs })
  ∧ (∀ s (k : Fin 64) p, (s.car k).next = some p → s.get (R.CAR_CTRL.COMMIT_SRC k) = 0 → s.get (R.CAR_TRIG.TRIG_SRC k) = 0 → s.groupPend = [] → s.legsOf k = [] → ∃ t, exec (.carrierEvent k .zero) s = .next t ∧ (t.car k).cur = some p ∧ (t.car k).next = none ∧ t.get (R.CAR_CTRL.RUNNING k) = 1 ∧ OnlyRegs s t [R.CAR_CTRL.RUNNING k] ∧ t = { s with regs := t.regs, cars := t.cars })
  ∧ (∀ s (k : Fin 64) p w, (s.car k).cur = some p → s.get (R.CAR_CTRL.COMMIT_SRC k) = 2 → s.get (R.CAR_TRIG.TRIG_SRC k) = 0 → s.bit (R.CAR_CTRL.GROUPED k) = false → (s.car k).stamp = some w → w < s.ts.tsc → w + s.get R.MOD_CTRL.MIN_COMMIT ≤ s.ts.tsc → s.groupPend = [] → s.legsOf k = [] → ∃ t, exec (.carrierEvent k .period) s = .next t ∧ (t.car k).per = s.get (R.CAR_PER.PER k) ∧ (t.car k).phase = s.get (R.CAR_PHASE.PHASE k) ∧ (t.car k).evtCmp = s.get (R.CAR_EVTCMP.EVT_CMP k) ∧ (t.car k).stamp = none ∧ t = { s with cars := t.cars })
  ∧ (∀ s (k : Fin 64) z, (s.car k).first = some z → s.bit (R.CAR_CTRL.EN k) = true → (s.car k).next = none → (s.car k).shift = 0 → s.legsOf k = [] → ∃ t, exec (.periodOpening k) s = .next t ∧ (t.car k).next = some ⟨z, (s.car k).per, (s.car k).per, (s.car k).evtCmp⟩ ∧ (t.car k).first = none ∧ t.get (R.CAR_PERIODS.PERIODS k) = (s.get (R.CAR_PERIODS.PERIODS k) + 1) % 2 ^ (R.CAR_PERIODS.PERIODS k).width ∧ OnlyRegs s t [R.CAR_PERIODS.PERIODS k] ∧ t = { s with regs := t.regs, cyc := t.cyc, cars := t.cars })
  ∧ (∀ s (k : Fin 64) z l, (s.car k).first = some z → s.bit (R.CAR_CTRL.EN k) = true → (s.car k).next = none → (s.car k).shift = 0 → s.legsOf k = [l] → s.leg l = { mode := 2, lastMode := 2 } → s.inState [.run] = false → ∃ t, exec (.periodOpening k) s = .next t ∧ (t.leg l).hi = [(z, z + (s.car k).per)] ∧ (t.leg l).lo = [] ∧ (t.leg l).planEnd = z + (s.car k).per ∧ OnlyRegs s t [R.CAR_PERIODS.PERIODS k])

/-- GROUP_COMMIT_WRITE, EDGE_HANDOVER, TRIP_ACTIVE, TRIP_INACTIVE, TRIP_REARM, TRIP_CLR, TRIP_CLEAR_COMPLETE: a COMMIT stamps the groups of its mask that have none pending (R236); the
hand-over gives a cell the on and the off edge of a pulse inside the frame (R237); a trip that becomes active counts, holds the legs of its cells and, at N, latches (R246, R247, R248); CLR is refused while the input is
active and otherwise pends (R250). -/
def Obligations.CommitsEdgesAndTrips : Prop :=
  (∀ s v, ∃ t, exec (.groupCommitWrite v) s = .next t ∧ (∀ g, g < 16 → Tab.get 0 t.groupPend g = if bitAt v g = true ∧ Tab.get 0 s.groupPend g = 0 then s.ts.tsc + 1 else Tab.get 0 s.groupPend g) ∧ t = { s with groupPend := t.groupPend })
  ∧ (∀ s (n : Fin 64) (a b w : Nat), s.driven n = true → (s.link n).driven = true → s.get (R.GSC_STAT.STATE n) = 0 → s.tickInFrame ≤ 896 → w = (s.frame + 2) * 1024 → w ≤ a → a < b → b < w + 1024 → (s.leg (6 * n.val)).hi = [(a, b)] → (s.leg (6 * n.val)).lo = [] → (∀ i, i < 6 → 0 < i → (s.leg (6 * n.val + i)).hi = [] ∧ (s.leg (6 * n.val + i)).lo = []) → bitAt (s.fitted n) 0 = true → s.get (R.GSC_STAT.OFF_GATES n) = 0 → s.tripHolds n = false → (s.leg (6 * n.val)).abort = false → (s.link n).levels = 0 → ∃ t, exec (.edgeHandover n) s = .next t ∧ (t.link n).edges = [⟨0, true, (a : Int) - w⟩, ⟨0, false, (b : Int) - w⟩] ∧ t = { s with links := t.links })
  ∧ (∀ s (i : Fin 8), s.inState [.boot, .configure, .armed, .run, .safe] = true → s.bit (R.TRIP_CFG.EN i) = true → s.bit (R.TRIP_STAT.TRIPACT i) = false → ∃ t, exec (.tripActive i) s = .next t ∧ t.get (R.TRIP_STAT.TRIPACT i) = 1 ∧ t.get (R.TRIP_STAT.TOTAL i) = min (2 ^ (R.TRIP_STAT.TOTAL i).width - 1) (s.get (R.TRIP_STAT.TOTAL i) + 1) ∧ t.get (R.TRIP_STAT.CLR_PENDING i) = 0 ∧ (∀ n, n ∈ s.tripCells i → ∀ j, j < 6 → t.get (R.LEG_STAT.TRIP_HELD (6 * n + j)) = 1) ∧ (s.bit (R.TRIP_CFG.LATCH_EN i) = true → s.get (R.TRIP_CFG.N i) ≤ s.get (R.TRIP_STAT.CNT i) → t.get (R.TRIP_STAT.LATCHED i) = 1))
  ∧ (∀ s (i : Fin 8), ∃ t, exec (.tripInactive i) s = .next t ∧ t.get (R.TRIP_STAT.TRIPACT i) = 0 ∧ OnlySets s t [R.TRIP_STAT.TRIPACT i])
  ∧ (∀ s (i : Fin 8), s.bit (R.TRIP_STAT.TRIPACT i) = false → ∃ t, exec (.tripRearm i) s = .next t ∧ t.get (R.TRIP_STAT.CNT i) = 0 ∧ OnlySets s t [R.TRIP_STAT.CNT i])
  ∧ (∀ s (i : Fin 8), s.bit (R.TRIP_STAT.TRIPACT i) = false → ∃ t, exec (.tripClr i) s = .next t ∧ t.get (R.TRIP_STAT.CLR_PENDING i) = 1 ∧ OnlySets s t [R.TRIP_STAT.CLR_PENDING i])
  ∧ (∀ s (i : Fin 8), s.bit (R.TRIP_STAT.TRIPACT i) = true → exec (.tripClr i) s = .next (raise Src.MOD_TRIP_CLR_REFUSED s))
  ∧ (∀ s (i : Fin 8), s.bit (R.TRIP_STAT.CLR_PENDING i) = true → s.bit (R.TRIP_STAT.TRIPACT i) = false → s.fc.trips = [] → s.tripCells i = [] → ∃ t, exec (.tripClearComplete i) s = .next t ∧ t.get (R.TRIP_STAT.CLR_PENDING i) = 0 ∧ t.get (R.TRIP_STAT.LATCHED i) = 0 ∧ t.get (R.TRIP_STAT.CNT i) = 0 ∧ OnlyRegs s t [R.TRIP_STAT.CLR_PENDING i, R.TRIP_STAT.LATCHED i, R.TRIP_STAT.CNT i])

/-- SCARLET_SET_RX, PARTNER_DELAY_EXPIRY, CELL_CLEAR, CLEAR_TIMEOUT: an over-current of a fitted gate starts the sequence, with the leg off and the timer running (R261); any other cause isolates the
cell with every fitted gate off (R262); the timer's end isolates it (R261); a clear is accepted under the conditions of R277, else refused, and one that times out isolates the cell
again. -/
def Obligations.GateSupervisionOfACell : Prop :=
  (∀ s (n : Fin 64) (rd : Bool) (gs : List Nat), s.up n = true ∨ s.rxOnly n = true → (dataAfter .k28_1 (s.readLane n rd gs)).bind scarletOf = none → exec (.scarletSetRx n ⟨rd, gs⟩) s = .next (codeError n s))
  ∧ (∀ s (n : Fin 64) (rd : Bool) (gs : List Nat) g, s.up n = true → (dataAfter .k28_1 (s.readLane n rd gs)).bind scarletOf = some (1, g) → g < 12 → bitAt (s.fitted n) g = true → s.get (R.GSC_STAT.STATE n) = 0 → s.get (R.GSC_CFG.PARTNER_DELAY n) ≠ 0 → ∃ t, exec (.scarletSetRx n ⟨rd, gs⟩) s = .next t ∧ t.get (R.GSC_STAT.STATE n) = 1 ∧ t.get (R.GSC_STAT.OFF_GATES n) = Nat.lor (s.get (R.GSC_STAT.OFF_GATES n)) (Nat.land (s.fitted n) (legMask g)) % 4096 ∧ (t.gate n).timer = true ∧ (t.gate n).scarOc = true ∧ (t.link n).edges = [] ∧ t.get (R.LKN_COUNTS.SCARLET_RX n) = min 255 (s.get (R.LKN_COUNTS.SCARLET_RX n) + 1))
  ∧ (∀ s (n : Fin 64) (rd : Bool) (gs : List Nat) c g, s.up n = true → (dataAfter .k28_1 (s.readLane n rd gs)).bind scarletOf = some (c, g) → c = 2 ∨ c = 3 → ∃ t, exec (.scarletSetRx n ⟨rd, gs⟩) s = .next t ∧ t.get (R.GSC_STAT.STATE n) = 2 ∧ t.get (R.GSC_STAT.OFF_GATES n) = Nat.lor (s.get (R.GSC_STAT.OFF_GATES n)) (s.fitted n) % 4096 ∧ (t.link n).edges = [])
  ∧ (∀ s (n : Fin 64), (s.gate n).timer = true → ∃ t, exec (.partnerDelayExpiry n) s = .next t ∧ t.get (R.GSC_STAT.STATE n) = 2 ∧ t.get (R.GSC_STAT.OFF_GATES n) = Nat.lor (s.get (R.GSC_STAT.OFF_GATES n)) (s.fitted n) % 4096 ∧ (t.gate n).timer = false ∧ (t.link n).edges = [])
  ∧ (∀ s (n : Fin 64), s.clearable n = true → ∃ t, exec (.cellClear n) s = .next t ∧ t.get (R.GSC_STAT.STATE n) = 3 ∧ (t.gate n).clearPhase = 1 ∧ (t.gate n).clearAt = s.frame ∧ OnlyRegs s t [R.GSC_STAT.STATE n] ∧ t = { s with regs := t.regs, gates := t.gates })
  ∧ (∀ s (n : Fin 64), s.clearable n = false → exec (.cellClear n) s = .next (raise (Src.GSC_CLEAR_REFUSED n) s))
  ∧ (∀ s (n : Fin 64), s.get (R.GSC_STAT.STATE n) = 3 → ∃ t, exec (.clearTimeout n) s = .next t ∧ t.get (R.GSC_STAT.STATE n) = 2 ∧ (t.gate n).clearPhase = 0 ∧ (t.gate n).isoAt = some s.frame)

/-- The plan of a complementary leg (R234): within the period, and with at least the dead time between the end of any interval of one side and the start of any interval of the other. -/
def Obligations.ComplementaryLegsKeepDeadTime : Prop :=
  ∀ align cmp t dt minp hiOn, cmp ≤ t → (∀ x ∈ (complementary align cmp t dt minp hiOn).1, ∀ y ∈ (complementary align cmp t dt minp hiOn).2.1, x.2 + dt ≤ y.1 ∨ y.2 + dt ≤ x.1)
    ∧ (∀ x ∈ (complementary align cmp t dt minp hiOn).1 ++ (complementary align cmp t dt minp hiOn).2.1, x.2 ≤ t)

/-! ### Strings and the duplex pair, 10_balancing_duplex.md -/

/-- RESERVE_OPEN, BYPASS_TIMEOUT, INSERT, PARK, SORT_COMPLETE: a cold string below N_REQ opens its next reserve (R288), a bypass that does not move in time fails the cell (R290), INSERT
and PARK act on a usable cell and are refused otherwise (R293), and a sort that leaves the network ranks the cells and makes the result ready to its context (R294, R295). -/
def Obligations.StringsAndSorts : Prop :=
  (∀ s (g : Fin 8) n, s.pw.state = .run → s.standby = false → s.strEn g = true → s.bit (R.STR_CFG.RESERVE_MODE g) = true → s.wantedCount g < s.get (R.STR_CFG.N_REQ g) → s.reserveCell g = some n → exec (.reserveOpen g) s = .next (raise (Src.STR_RESERVE_INSERTED g) ((s.set (R.BC_STAT.STATE n) 2).modCell n (fun c => { c with since := s.frame + 1, keepCmd := none }))))
  ∧ (∀ s (n : Fin 64), s.balState n = 2 → (s.cell n).since + descBypassTime (s.link n).desc + 12 ≤ s.frame → exec (.bypassTimeout n) s = .next (checkStrings (raise (Src.BC_OPEN_FAIL n) ((s.set (R.BC_STAT.STATE n) 5).modCell n (fun c => { c with keepCmd := none })))))
  ∧ (∀ s (n : Fin 64), s.insertable n = true → ∃ t, exec (.insert n) s = .next t ∧ t.get (R.BC_STAT.HELD_OUT n) = 0 ∧ (t.cell n).since = s.frame + 1)
  ∧ (∀ s (n : Fin 64), s.insertable n = false → exec (.insert n) s = .next (raise Src.BAL_SETTING_REFUSED s))
  ∧ (∀ s (n : Fin 64), s.pw.state = .armed → s.balState n = 3 → s.standby = false → ∃ t, exec (.park n) s = .next t ∧ t.get (R.BC_STAT.STATE n) = 4 ∧ t.get (R.BC_STAT.HELD_OUT n) = 1 ∧ (t.cell n).since = s.frame + 1 ∧ OnlyRegs s t [R.BC_STAT.STATE n, R.BC_STAT.HELD_OUT n])
  ∧ (∀ s (n : Fin 64), s.parkable n = false → exec (.park n) s = .next (raise Src.BAL_SETTING_REFUSED s))
  ∧ (∀ s (g : Fin 8) r rest, (s.str g).sortPending = r :: rest → r.bad = [] → (r.ranked.map (·.1)).Nodup → (∀ x ∈ r.ranked, x.1 < 64 ∧ x.2 < 65536) → ∃ t, exec (.sortComplete g) s = .next t ∧ (t.str g).sortPending = rest ∧ (∀ q, (s.ctx r.ctx).run = some q → ∃ q', (t.ctx r.ctx).run = some q' ∧ bitAt q'.ready g = true) ∧ (∀ i (h : i < r.ranked.length), i < 64 → t.get (R.BC_SORT.RANKED (r.ranked[i].1)) = 1 ∧ t.get (R.BC_SORT.RANK (r.ranked[i].1)) = i ∧ t.get (R.BC_SORT.KEY (r.ranked[i].1)) = r.ranked[i].2))

/-- HEARTBEAT_SEND, HEARTBEAT_RX, HEARTBEAT_WINDOW_CLOSE, ALONE_DECISION, CELL_RECLAIM, RECLAIM_REQUEST, HANDBACK_GO, DUPLEX_READY: a heartbeat goes out on the partner's side (R299); a bad one is reported and a valid one makes the partner current (R300); the third
miss makes the standby alone, with every admitted cell its own from the next frame boundary (R35, R300); 64 frames of an empty partner position decide for alone (R298). The holder of a split cell shows it for release after 64 clean frames (R302); the preferred standby asks after HB_QUAL seconds
(R303); HANDBACK_GO releases every owned cell, or is refused where the partner cannot take them (R303, R307); a device is ready once its group time is settled (R304). -/
def Obligations.DuplexHeartbeatsAndHandback : Prop :=
  (∀ s, s.pw.state = .armed → s.direct = true → s.dx.releaseNext = 0 → ∃ t, exec .heartbeatSend s = .next t ∧ t.spine.sent = s.sentWith (s.pos % 2) (message 0x48 1 0 s.pos s.partner (Tab.get 0 s.spine.seq 1) s.heartbeat) ∧ Tab.get 0 t.spine.seq 1 = (Tab.get 0 s.spine.seq 1 + 1) % 65536 ∧ t.regs = s.regs ∧ t.dx = { s.dx with reclaimReq := false })
  ∧ (∀ s bs, (heartbeatGood bs && (heartbeatOf bs).pos == s.partner && (heartbeatOf bs).frame == s.frame % 2 ^ 32) = false → exec (.heartbeatRx bs) s = .next (raise Src.BAL_HB_BAD s))
  ∧ (∀ s bs, heartbeatGood bs = true → (heartbeatOf bs).pos = s.partner → (heartbeatOf bs).frame = s.frame % 2 ^ 32 → s.pw.state = .configure → s.dx.decided = false → s.dx.config = [] → s.dx.hbRun < 1000000 → ∃ t, exec (.heartbeatRx bs) s = .next t ∧ t.dx.last = some (heartbeatOf bs) ∧ t.dx.current = true ∧ t.dx.inWindow = true ∧ t.dx.hbRun = s.dx.hbRun + 1 ∧ t.dx.alone = 0 ∧ t.get R.BAL_STAT.MISSES = 0 ∧ t.get R.BAL_STAT.PARTNER = 1 ∧ (∀ n, n < 64 → t.bit (R.BC_STAT.PARTNER_ADMITTED n) = bitAt (heartbeatOf bs).admitted n) ∧ t.pw = s.pw)
  ∧ (∀ s, s.settled = true → s.pw.state = .run → s.dx.inWindow = true → exec .heartbeatWindowClose s = .next { s with dx := { s.dx with inWindow := false } })
  ∧ (∀ s, s.pw.state = .run → s.dx.inWindow = false → s.dx.current = true → s.get R.BAL_STAT.MISSES = 2 → s.dx.decided = true → s.role = 2 → ∃ t, exec .heartbeatWindowClose s = .next t ∧ t.get R.BAL_STAT.ROLE = 0 ∧ t.get R.BAL_STAT.PARTNER = 2 ∧ t.dx.current = false ∧ ∀ n, n < 64 → s.admitted n = true → s.owns n = false → (t.cell n).ownNext = some (s.frame + 1, true))
  ∧ (∀ s, s.pw.state = .armed → 64 ≤ s.dx.alone → s.dx.decided = false → s.duplicated = false → ∃ t, exec .aloneDecision s = .next t ∧ t.get R.BAL_STAT.ROLE = 0 ∧ t.get R.BAL_STAT.PARTNER = 3 ∧ t.dx.decided = true ∧ ∀ n, n < 64 → s.admitted n = true → t.owns n = true)
  ∧ (∀ s (n : Fin 64) f, s.owns n = true → (s.cell n).split = true → (s.cell n).partnerSince = some f → f + 64 ≤ s.frame → ∃ t, exec (.cellReclaim n) s = .next t ∧ t.dx.releaseNext = Nat.lor s.dx.releaseNext (2 ^ n.val) ∧ t = { s with dx := t.dx })
  ∧ (∀ s f, s.standby = true → s.bit R.BAL_CTRL.PREFER = true → s.get R.BAL_CTRL.HANDBACK = 1 → s.dx.cleanFrom = some f → f + s.get R.BAL_CTRL.HB_QUAL * 1000000 ≤ s.frame → exec .reclaimRequest s = .next { s with dx := { s.dx with reclaimReq := true, cleanFrom := some s.frame } })
  ∧ (∀ s, s.get R.BAL_CTRL.HANDBACK = 2 → s.role = 1 → s.mayRelease = true → exec .handbackGo s = .next { s with dx := { s.dx with releaseNext := s.ownedMask } })
  ∧ (∀ s, s.get R.BAL_CTRL.HANDBACK = 2 → s.role = 1 → s.mayRelease = false → exec .handbackGo s = .next (raise Src.BAL_HANDBACK_REFUSED s))
  ∧ (∀ s, s.role ≠ 1 → exec .handbackGo s = .next (raise Src.BAL_SETTING_REFUSED s))
  ∧ (∀ s, s.settled = true → s.pw.state = .armed → exec .duplexReady s = .next { s with dx := { s.dx with ready := true } })

/-! ### The control engine, 11_control_engine.md -/

/-- CONTEXT_TRIGGER, SOFT_TRIG, PROGRAM_RELEASE, CONTEXT_RESTART, CONTEXT_ENABLE, CONTEXT_DISABLE: a trigger of an idle context starts a sample at the entry with everything of R316 latched; one within 5,120 ticks of the last
is dropped (R313); one that finds the context computing counts an overrun and starts anew (R320, R321); a release applies what the program staged, together (R317, R318); an aborted context restarts with its registers clear
(R323); a context is enabled in Configure alone, under the checks of R318 (R315). -/
def Obligations.ContextsAndSamples : Prop :=
  (∀ s (k : Fin 128), s.get (R.CX_TRIG.SRC k) = 1 ∨ s.get (R.CX_TRIG.SRC k) = 3 → 0 < (s.ctx k).due → s.ctxState k = 1 → (s.ctx k).run = none → s.pw.state = .run → (s.ctx k).lastTrig = none → s.eng.inj.on = false → s.get (R.CX_CFG.STRINGS k) = 0 → s.bit (R.CX_STAT.SWAP_PENDING k) = false → s.cyc.oldSps = [] → s.cyc.oldSwaps = [] → ∃ t q, exec (.contextTrigger k) s = .next t ∧ t.ctxState k = 2 ∧ (t.ctx k).run = some q ∧ q.pc = s.get (R.CX_CFG.ENTRY k) ∧ q.v = (s.ctx k).v ∧ q.p = (s.ctx k).p ∧ q.atTsc = s.ts.tsc ∧ q.issues = 0 ∧ q.ended = false ∧ (∀ n, n < 64 → Tab.get [] q.frames n = (s.link n).up) ∧ (t.ctx k).due = (s.ctx k).due - 1 ∧ (t.ctx k).lastTrig = some s.ts.tsc ∧ (t.ctx k).lastAt = some s.ts.tsc ∧ (∀ j, j < 8 → t.get (R.SP_APP k j) = stepSp (s.target k j) (s.get (R.SP_STEP k j)) (s.get (R.SP_APP k j)) % 2 ^ 32) ∧ OnlyRegs s t (R.CX_STAT.STATE k :: (List.range 8).map (R.SP_APP k)))
  ∧ (∀ s (k : Fin 128) (u : Nat), s.get (R.CX_TRIG.SRC k) = 2 → s.periodDue k = some u → exec (.contextTrigger k) s = .next (trigger k (s.modCtx k (fun c => { c with perAt := some u }))))
  ∧ (∀ s (k : Fin 128) u, s.ctxActive k = true → s.pw.state = .run → (s.ctx k).lastTrig = some u → s.ts.tsc < u + 5120 → exec (.softTrig k) s = .next (raise (Src.CX_TRIG_DROPPED k) (s.modCtx k (fun c => { c with drops := c.drops + 1 }))))
  ∧ (∀ s (k : Fin 128), s.ctxState k = 2 → s.pw.state = .run → (s.ctx k).lastTrig = none → (s.ctx k).run.all (fun q => !q.ended) = true → s.bit (R.CX_CFG.POLICY k) = false → ∃ t q, exec (.softTrig k) s = .next t ∧ t.ctxState k = 2 ∧ (t.ctx k).run = some q ∧ q.pc = s.get (R.CX_CFG.ENTRY k) ∧ q.issues = 0 ∧ t.get (R.CX_COUNTS.OVERRUNS k) = min 65535 (s.get (R.CX_COUNTS.OVERRUNS k) + 1))
  ∧ (∀ s (k : Fin 128) q, (s.ctx k).run = some q → q.ended = true → q.legs = [] → q.outRange = false → q.evts = [] → q.states = [] → q.commits = 0 → s.bit R.CAP_STAT.BUSY = false → ∃ t, exec (.programRelease k) s = .next t ∧ t.ctxState k = 1 ∧ (t.ctx k).run = none ∧ (t.ctx k).v = q.v ∧ (t.ctx k).p = q.p ∧ t.get (R.CX_SAMPLES.RELEASES k) = (s.get (R.CX_SAMPLES.RELEASES k) + 1) % 2 ^ 32 ∧ t.get (R.CX_STAT.LAST_RUN k) = min 65535 (4 * (q.issues - 1) + q.lastW) ∧ (∀ l ∈ s.outLegs k, (t.leg l).abort = false) ∧ OnlyRegs s t [R.CX_STAT.STATE k, R.CX_SAMPLES.RELEASES k, R.CX_STAT.LAST_RUN k, R.CX_MAX.MAXRUN k])
  ∧ (∀ s (k : Fin 128) q l v, (s.ctx k).run = some q → q.ended = true → q.legs = [⟨l, 0, v⟩] → q.evts = [] → s.bit R.CAP_STAT.BUSY = false → l < 384 → l ∈ s.outLegs k → s.bit (R.LEG_CFG.RATIO l) = false → finite32 v = true → neg32 v = false → ∃ t, exec (.programRelease k) s = .next t ∧ t.get (R.LEG_VAL.VAL l) = min (2 ^ 26 - 1) (roundEven (val32 v)) ∧ (t.leg l).stamp = some s.ts.tsc)
  ∧ (∀ s (k : Fin 128) q a x, (s.ctx k).run = some q → q.ended = true → q.states = [(a, x)] → s.bit R.CAP_STAT.BUSY = false → ∃ t, exec (.programRelease k) s = .next t ∧ Tab.get 0 t.eng.mem a = x)
  ∧ (∀ s (k : Fin 128), s.ctxState k = 3 → bitAt s.eng.tileErr (k.val / 4) = false → ∃ t, exec (.contextRestart k) s = .next t ∧ t.ctxState k = 1 ∧ (t.ctx k).v = [] ∧ (t.ctx k).p = 0 ∧ (t.ctx k).run = none ∧ OnlyRegs s t [R.CX_STAT.STATE k])
  ∧ (∀ s (k : Fin 128), s.ctxState k ≠ 3 → exec (.contextRestart k) s = .next (raise (Src.CX_RESTART_REFUSED k) s))
  ∧ (∀ s (k : Fin 128), s.pw.state = .configure → s.enableRefused k = false → s.ctxState k = 0 → ∃ t, exec (.contextEnable k) s = .next t ∧ t.get (R.CX_CFG.EN k) = 1 ∧ t.ctxState k = 1 ∧ (t.ctx k).v = [] ∧ (∀ j, j < 8 → t.get (R.SP_APP k j) = s.target k j % 2 ^ 32) ∧ OnlyRegs s t (R.CX_CFG.EN k :: R.CX_STAT.STATE k :: (List.range 8).map (R.SP_APP k)))
  ∧ (∀ s (k : Fin 128), s.pw.state = .configure → s.enableRefused k = true → exec (.contextEnable k) s = .next (raise Src.CE_SETTING_REFUSED s))
  ∧ (∀ s (k : Fin 128), s.pw.state = .configure → s.ctxState k ≠ 3 → (s.ctx k).run = none → s.eng.inj.on = false → ∃ t, exec (.contextDisable k) s = .next t ∧ t.get (R.CX_CFG.EN k) = 0 ∧ t.ctxState k = 0 ∧ OnlyRegs s t [R.CX_CFG.EN k, R.CX_STAT.STATE k] ∧ t = { s with regs := t.regs, ctxs := t.ctxs })
  ∧ (∀ s (k : Fin 128), s.pw.state = .configure → s.ctxState k = 3 → ∃ t, exec (.contextDisable k) s = .next t ∧ t.get (R.CX_CFG.EN k) = 0 ∧ t.ctxState k = 3 ∧ OnlySets s t [R.CX_CFG.EN k])

/-- BANK_SWAP_REQUEST, BANK_A_REQUEST, BANK_B_REQUEST, CONTEXT_CNT_CLR, HISTOGRAM_CLEAR, HISTOGRAM_SHIFT_WRITE, COEFFICIENT_REGION_WRITE, MEMORY_DATA_WRITE, MEMORY_DATA_READ: a bank request pends with its target (R326), the clears set their counts to 0
(R319, R337), a region is written whole from its base (R327), and CE_MDATA reaches the word of CE_MADDR, which then advances and wraps (R334). -/
def Obligations.BanksCountsAndMemories : Prop :=
  (∀ s (k : Fin 128), ∃ t, exec (.bankSwapRequest k) s = .next t ∧ t.get (R.CX_STAT.SWAP_PENDING k) = 1 ∧ t.bit (R.CX_STAT.PEND_BANK k) = !s.bit (R.CX_STAT.BANK k) ∧ OnlyRegs s t [R.CX_STAT.SWAP_PENDING k, R.CX_STAT.PEND_BANK k] ∧ t = { s with regs := t.regs, cyc := t.cyc })
  ∧ (∀ s (k : Fin 128), ∃ t, exec (.bankARequest k) s = .next t ∧ t.get (R.CX_STAT.SWAP_PENDING k) = 1 ∧ t.get (R.CX_STAT.PEND_BANK k) = 0 ∧ OnlyRegs s t [R.CX_STAT.SWAP_PENDING k, R.CX_STAT.PEND_BANK k] ∧ t = { s with regs := t.regs, cyc := t.cyc })
  ∧ (∀ s (k : Fin 128), ∃ t, exec (.bankBRequest k) s = .next t ∧ t.get (R.CX_STAT.SWAP_PENDING k) = 1 ∧ t.get (R.CX_STAT.PEND_BANK k) = 1 ∧ OnlyRegs s t [R.CX_STAT.SWAP_PENDING k, R.CX_STAT.PEND_BANK k] ∧ t = { s with regs := t.regs, cyc := t.cyc })
  ∧ (∀ s (k : Fin 128), ∃ t, exec (.contextCntClr k) s = .next t ∧ t.get (R.CX_COUNTS.OVERRUNS k) = s.counted (R.CX_COUNTS.OVERRUNS k) ∧ t.get (R.CX_COUNTS.NOT_COMMITTED k) = s.counted (R.CX_COUNTS.NOT_COMMITTED k) ∧ t.get (R.CX_SAMPLES.RELEASES k) = s.counted (R.CX_SAMPLES.RELEASES k) ∧ t.get (R.CX_MAX.MAXRUN k) = 0 ∧ OnlySets s t [R.CX_COUNTS.OVERRUNS k, R.CX_COUNTS.NOT_COMMITTED k, R.CX_SAMPLES.RELEASES k, R.CX_MAX.MAXRUN k])
  ∧ (∀ s (k : Fin 128), ∃ t, exec (.histogramClear k) s = .next t ∧ (∀ i, i < 16 → t.get (R.CX_HIST k i) = 0) ∧ t.get (R.CX_MAX.MAXDELAY k) = 0 ∧ OnlySets s t (R.CX_MAX.MAXDELAY k :: (List.range 16).map (R.CX_HIST k)))
  ∧ (∀ s (k : Fin 128) v, ∃ t, exec (.histogramShiftWrite k v) s = .next t ∧ (∀ i, i < 16 → t.get (R.CX_HIST k i) = 0) ∧ t.get (R.CX_HCFG.SHIFT k) = v % 16 ∧ OnlySets s t (R.CX_HCFG.SHIFT k :: R.CX_MAX.MAXDELAY k :: (List.range 16).map (R.CX_HIST k)))
  ∧ (∀ s (k : Fin 128) (ws : List Word), ws.length = s.get (R.CX_COEF.COEF_LEN k) → s.get (R.CX_COEF.COEF_BASE k) + ws.length ≤ 16384 → s.inState [.slate] = false → ∃ t, exec (.coefficientRegionWrite k true ws) s = .next t ∧ (∀ i (h : i < ws.length), Tab.get 0 t.eng.bankB (s.get (R.CX_COEF.COEF_BASE k) + i) = ws[i].toNat) ∧ (∀ a, a < s.get (R.CX_COEF.COEF_BASE k) ∨ s.get (R.CX_COEF.COEF_BASE k) + ws.length ≤ a → Tab.get 0 t.eng.bankB a = Tab.get 0 s.eng.bankB a) ∧ t.eng.bankA = s.eng.bankA ∧ t.regs = s.regs)
  ∧ (∀ s (v : Word), s.get R.CE_MADDR.MEM = 1 → s.inState [.slate] = false → ∃ t, exec (.memoryDataWrite v) s = .next t ∧ (∀ a, Tab.get 0 t.eng.bankA a = if a = s.get R.CE_MADDR.WORD % 16384 then v.toNat else Tab.get 0 s.eng.bankA a) ∧ t.get R.CE_MADDR.WORD = (s.get R.CE_MADDR.WORD + 1) % 16384 ∧ OnlyRegs s t [R.CE_MADDR.WORD])
  ∧ (∀ s, ∃ t, exec .memoryDataRead s = .next t ∧ t.get R.CE_MADDR.WORD = (s.get R.CE_MADDR.WORD + 1) % memWords (s.get R.CE_MADDR.MEM) ∧ OnlySets s t [R.CE_MADDR.WORD])

/-- SP_FREEZE_WRITE, INJECTION_START, INJECTION_STOP, CAPTURE_ARM, CAPTURE_STOP, TILE_PARITY_ERROR, PROGRAM_IMAGE_WRITE: a freeze holds the targets of its write (R329), an injection starts afresh and ends with its value at 0.0 (R330), ARM clears the capture
(R331), a parity error is recorded against its tile (R333), and an image that passes every check of R361 is loaded with its entry table, while one that fails is refused with its code (R362). -/
def Obligations.InjectionCaptureAndImages : Prop :=
  (∀ s (k : Fin 128), s.bit (R.CX_CFG.SP_FREEZE k) = false → ∃ t f, exec (.spFreezeWrite k true) s = .next t ∧ t.get (R.CX_CFG.SP_FREEZE k) = 1 ∧ (t.ctx k).frozen = some f ∧ (∀ j, j < 8 → Tab.get 0 f j = s.get (R.SP_TGT k j)) ∧ OnlyRegs s t [R.CX_CFG.SP_FREEZE k])
  ∧ (∀ s (k : Fin 128), ∃ t, exec (.spFreezeWrite k false) s = .next t ∧ t.get (R.CX_CFG.SP_FREEZE k) = 0 ∧ (t.ctx k).frozen = none ∧ OnlyRegs s t [R.CX_CFG.SP_FREEZE k])
  ∧ (∀ s, s.pw.state = .armed → s.ctxActive (s.get R.INJ_CFG.INJ_CTX) = true → ∃ t, exec .injectionStart s = .next t ∧ t.eng.inj = { on := true, fresh := true, synced := s.eng.inj.synced } ∧ t = { s with eng := t.eng })
  ∧ (∀ s, s.eng.inj.on = true → exec .injectionStop s = .next (raise Src.CE_INJ_DONE { s with eng := { s.eng with inj := { s.eng.inj with on := false, value := 0 } } }))
  ∧ (∀ s, (∀ k, k < 128 → s.bit (R.CX_CFG.EN k) = false) → ∃ t, exec .captureArm s = .next t ∧ t.get R.CAP_STAT.BUSY = 1 ∧ t.get R.CAP_STAT.DONE = 0 ∧ t.get R.CAP_STAT.COUNT = 0 ∧ t.get R.CAP_STAT.GAPS = 0 ∧ t.eng.skip = 0 ∧ OnlyRegs s t [R.CAP_STAT.BUSY, R.CAP_STAT.DONE, R.CAP_STAT.COUNT, R.CAP_STAT.GAPS])
  ∧ (∀ s, ∃ t, exec .captureStop s = .next t ∧ t.get R.CAP_STAT.BUSY = 0 ∧ OnlySets s t [R.CAP_STAT.BUSY])
  ∧ (∀ s (p : Fin 36), s.logicalOf p = none → ∃ t, exec (.tileParityError p) s = .next t ∧ t.get R.CE_STAT.LAST_TILE_ERR = p ∧ t.mram = { s.mram with badTiles := Nat.lor s.mram.badTiles (2 ^ p.val) })
  ∧ (∀ s bs, s.pw.state = .configure → ∃ t, exec (.programImageWrite bs) s = .next t ∧ t.get R.SEC_BOOT.LOAD_RESULT = s.imageCode bs ∧ (s.imageCode bs ≠ 0 → t.sec = s.sec ∧ t.eng = s.eng) ∧ (s.imageCode bs = 0 → t.sec.image = bs ∧ t.eng.entries = imgTable bs ∧ t.eng.prog = progOf (imgCode bs) (imgLoad bs) [] ∧ Tab.get [] t.sec.images (1 - s.sec.imageNew) = bs))
  ∧ (∀ s bs, s.pw.state = .configure → 2 ≤ s.imageCode bs → exec (.programImageWrite bs) s = .next (raise Src.SEC_SETTING_REFUSED (s.set R.SEC_BOOT.LOAD_RESULT (s.imageCode bs))))

/-! ### Programs, 12_program_image_isa.md -/

/-- NOP, ADD, SUB, MUL, FMA, FNMA, MIN, MAX, CLAMP, ABS, NEG, MOV, ROUND, SEL, MOVI, ADDI, MULI: each command runs the next instruction of its context as R350 says, with the operands
read before the result is written, and leaves all else of the machine unchanged. -/
def Obligations.ArithmeticInstructions : Prop :=
  ∀ k : Fin 128,
    RunsInstr (.nop k) k 0x00 1 2 (fun _ q => q)
    ∧ RunsInstr (.add k) k 0x01 1 4 (fun w q => q.put (iD w) (add32 (q.a w) (q.b w)))
    ∧ RunsInstr (.sub k) k 0x02 1 4 (fun w q => q.put (iD w) (add32 (q.a w) (neg32of (q.b w))))
    ∧ RunsInstr (.mul k) k 0x03 1 4 (fun w q => q.put (iD w) (mul32 (q.a w) (q.b w)))
    ∧ RunsInstr (.fma k) k 0x04 1 4 (fun w q => q.put (iD w) (fma32 (q.a w) (q.b w) (q.c w)))
    ∧ RunsInstr (.fnma k) k 0x05 1 4 (fun w q => q.put (iD w) (fma32 (neg32of (q.a w)) (q.b w) (q.c w)))
    ∧ RunsInstr (.min k) k 0x06 1 4 (fun w q => q.put (iD w) (min32 (q.a w) (q.b w)))
    ∧ RunsInstr (.max k) k 0x07 1 4 (fun w q => q.put (iD w) (max32 (q.a w) (q.b w)))
    ∧ RunsInstr (.clamp k) k 0x08 1 4 (fun w q => q.put (iD w) (max32 (q.b w) (min32 (q.a w) (q.c w))))
    ∧ RunsInstr (.abs k) k 0x09 1 4 (fun w q => q.put (iD w) (abs32 (q.a w)))
    ∧ RunsInstr (.neg k) k 0x0A 1 4 (fun w q => q.put (iD w) (neg32of (q.a w)))
    ∧ RunsInstr (.mov k) k 0x0B 1 4 (fun w q => q.put (iD w) (q.a w))
    ∧ RunsInstr (.round k) k 0x0C 1 4 (fun w q => q.put (iD w) (rnd32 (q.a w)))
    ∧ RunsInstr (.sel k) k 0x0D 1 4 (fun w q => q.put (iD w) (if q.pred (iC w % 8) then q.a w else q.b w))
    ∧ RunsInstr (.movi k) k 0x0E 1 4 (fun w q => q.put (iD w) (iImm w))
    ∧ RunsInstr (.addi k) k 0x0F 1 4 (fun w q => q.put (iD w) (add32 (q.a w) (ftz (iImm w))))
    ∧ RunsInstr (.muli k) k 0x10 1 4 (fun w q => q.put (iD w) (mul32 (q.a w) (ftz (iImm w))))

/-- RCP, RSQ, SQRT, ATAN2, HYPOT, CMPLT, CMPLE, CMPEQ, CMPLTI, PLOG, COMMIT, EVT, SINCOS, ROT: as above (R350, R351, R357). Where R351 bounds a result without fixing it, the result is the free value of
Config.approx within that bound (log 6). -/
def Obligations.FunctionsAndComparisons : Prop :=
  (∀ k : Fin 128,
    RunsInstr (.rcp k) k 0x11 2 4 (fun w q => q.put (iD w) (rcp32 (q.a w) (Config.approx 0x11 0 (q.a w) 0 0)))
    ∧ RunsInstr (.rsq k) k 0x12 2 4 (fun w q => q.put (iD w) (rsq32 (q.a w) (Config.approx 0x12 0 (q.a w) 0 0)))
    ∧ RunsInstr (.sqrt k) k 0x13 2 4 (fun w q => q.put (iD w) (sqrt32 (q.a w)))
    ∧ RunsInstr (.atan2 k) k 0x16 6 4 (fun w q => q.put (iD w) (atan32 (q.a w) (q.b w) (Config.approx 0x16 0 (q.a w) (q.b w) 0)))
    ∧ RunsInstr (.hypot k) k 0x17 6 4 (fun w q => q.put (iD w) (hypot32 (q.a w) (q.b w) (Config.approx 0x17 0 (q.a w) (q.b w) 0)))
    ∧ RunsInstr (.cmplt k) k 0x19 1 4 (fun w q => q.putP (iPD w) (lt32 (q.a w) (q.b w)))
    ∧ RunsInstr (.cmple k) k 0x1A 1 4 (fun w q => q.putP (iPD w) (le32 (q.a w) (q.b w)))
    ∧ RunsInstr (.cmpeq k) k 0x1B 1 4 (fun w q => q.putP (iPD w) (eq32 (q.a w) (q.b w)))
    ∧ RunsInstr (.cmplti k) k 0x1C 1 4 (fun w q => q.putP (iPD w) (lt32 (q.a w) (ftz (iImm w))))
    ∧ RunsInstr (.plog k) k 0x1D 1 4 (fun w q => q.putP (iPD w) (bitAt w (2 * b2n (q.pred (iA w % 8)) + b2n (q.pred (iB w % 8)))))
    ∧ RunsInstr (.commit k) k 0x28 1 2 (fun w q => { q with commits := Nat.lor q.commits (bits w 15 0) })
    ∧ RunsInstr (.evt k) k 0x29 1 2 (fun w q => { q with evts := q.evts ++ [(bits w 15 0, q.a w)] }))
  ∧ (∀ s (k : Fin 128) w q, s.instrAt k = some (w, q) → iOp w = 0x15 → q.allowed w = true → iE w = true → finite32 (q.a w) = true → ∃ t q', exec (.sincos k) s = .next t ∧ (t.ctx k).run = some q' ∧ q'.ended = true ∧ q'.issues = q.issues + 6 ∧ Tab.get 0 q'.v (iD w) = ftz (trig32 (sinTurns (val32 (q.a w))) (Config.approx 0x15 0 (q.a w) 0 0)) ∧ Tab.get 0 q'.v (iD w + 1) = ftz (trig32 (cosTurns (val32 (q.a w))) (Config.approx 0x15 1 (q.a w) 0 0)) ∧ (∀ r, r ≠ iD w → r ≠ iD w + 1 → Tab.get 0 q'.v r = Tab.get 0 q.v r) ∧ t = { s with ctxs := t.ctxs })
  ∧ (∀ s (k : Fin 128) w q, s.instrAt k = some (w, q) → iOp w = 0x18 → q.allowed w = true → iE w = true → ∃ t q', exec (.rot k) s = .next t ∧ (t.ctx k).run = some q' ∧ q'.ended = true ∧ q'.issues = q.issues + 6 ∧ (∀ r, r ≠ iD w → r ≠ iD w + 1 → Tab.get 0 q'.v r = Tab.get 0 q.v r) ∧ t = { s with ctxs := t.ctxs })

/-- LUT, LDC, LDS, STS, LDIN, STL, STL2, STM: an access within its region reads or stages its word, and one outside it reads 0 or stages nothing and reports the range (R352, R353, R355, R356); a program writes
nothing outside its own sample before its release (R341). -/
def Obligations.ProgramMemoryAccesses : Prop :=
  (∀ s (k : Fin 128) w q i, s.instrAt k = some (w, q) → iOp w = 0x20 → q.allowed w = true → q.place w (bits w 14 0) 1 (s.get (R.CX_COEF.COEF_LEN k)) = some i → exec (.ldc k) s = .next (setRun k ((q.put (iD w) (Tab.get 0 q.coefs (s.get (R.CX_COEF.COEF_BASE k) + i))).after w 1 4) s))
  ∧ (∀ s (k : Fin 128) w q, s.instrAt k = some (w, q) → iOp w = 0x20 → q.allowed w = true → q.place w (bits w 14 0) 1 (s.get (R.CX_COEF.COEF_LEN k)) = none → exec (.ldc k) s = .next (raise (Src.CX_MEM_RANGE k) (setRun k ((q.put (iD w) 0).after w 1 4) s)))
  ∧ (∀ s (k : Fin 128) w q i, s.instrAt k = some (w, q) → iOp w = 0x21 → q.allowed w = true → q.place w (bits w 14 0) 1 (s.get (R.CX_STATE.STATE_LEN k)) = some i → exec (.lds k) s = .next (setRun k ((q.put (iD w) (Tab.get 0 s.eng.mem (s.get (R.CX_STATE.STATE_BASE k) + i))).after w 1 4) s))
  ∧ (∀ s (k : Fin 128) w q i, s.instrAt k = some (w, q) → iOp w = 0x22 → q.allowed w = true → q.place w (bits w 14 0) 1 (s.get (R.CX_STATE.STATE_LEN k)) = some i → exec (.sts k) s = .next (setRun k ({ q with states := q.states ++ [(s.get (R.CX_STATE.STATE_BASE k) + i, q.a w)] }.after w 1 2) s))
  ∧ (∀ s (k : Fin 128) w q, s.instrAt k = some (w, q) → iOp w = 0x22 → q.allowed w = true → q.place w (bits w 14 0) 1 (s.get (R.CX_STATE.STATE_LEN k)) = none → exec (.sts k) s = .next (raise (Src.CX_MEM_RANGE k) (setRun k (q.after w 1 2) s)))
  ∧ (∀ s (k : Fin 128) w q i, s.instrAt k = some (w, q) → iOp w = 0x23 → q.allowed w = true → (bits w 31 28 = 0 ∧ bits w 27 24 ≤ 5) ∨ bits w 31 28 = 1 ∨ bits w 31 28 = 2 ∨ bits w 31 28 = 3 → q.place w (bits w 11 0) 1 (inputCount (bits w 31 28) (bits w 27 24)) = some i → exec (.ldin k) s = .next (setRun k ((q.put (iD w) (q.input (bits w 31 28) (bits w 27 24) i)).after w 1 4) s))
  ∧ (∀ s (k : Fin 128) w q l, s.instrAt k = some (w, q) → q.allowed w = true → q.place w (bits w 8 0) 6 1000 = some l → (iOp w = 0x25 → exec (.stl k) s = .next (setRun k ({ q with legs := q.legs ++ [LegStore.mk l 0 (q.a w)] }.after w 1 2) s)) ∧ (iOp w = 0x26 → exec (.stl2 k) s = .next (setRun k ({ q with legs := q.legs ++ [LegStore.mk l 1 (q.a w)] }.after w 1 2) s)) ∧ (iOp w = 0x27 → exec (.stm k) s = .next (setRun k ({ q with legs := q.legs ++ [LegStore.mk l 2 (q.a w)] }.after w 1 2) s)))
  ∧ (∀ s (k : Fin 128) w q, s.instrAt k = some (w, q) → iOp w = 0x14 → q.allowed w = true → nan32 (q.a w) = true → exec (.lut k) s = .next (setRun k ((q.put (iD w) qnan).after w 2 4) s))
  ∧ (∀ s (k : Fin 128) w q, s.instrAt k = some (w, q) → iOp w = 0x14 → q.allowed w = true → nan32 (q.a w) = false → ∃ t x, exec (.lut k) s = .next t ∧ (t.ctx k).run = some ((q.put (iD w) x).after w 2 4))

/-- SORT, LOOP, and the end of any instruction: SORT waits one issue at a time while its result is not ready (R346), and its count is the number of cells ranked (R354); a loop with no end bit enters its body at index 0 (R358), the
last word of a body goes back to its first with the next index and leaves the loop at its count (R358), and the end bit ends the program (R343). -/
def Obligations.SortsAndLoops : Prop :=
  (∀ s (k : Fin 128) w q, s.instrAt k = some (w, q) → iOp w = 0x24 → s.sortWaits k w q = true → exec (.sort k) s = .next (setRun k { q with issues := q.issues + 1 } s))
  ∧ (∀ s (k : Fin 128) w q, s.instrAt k = some (w, q) → iOp w = 0x24 → s.sortWaits k w q = false → q.allowed w = true → bits w 31 28 = 0 → exec (.sort k) s = .next (setRun k ((q.put (iD w) (round32 ((Tab.get [] q.sorts (bits w 10 8)).length : Int))).after w 1 4) s))
  ∧ (∀ s (k : Fin 128) w q, s.instrAt k = some (w, q) → iOp w = 0x30 → iE w = false → exec (.loop k) s = .next (setRun k { q with loops := ⟨q.pc + 1, q.pc + bits w 23 16, 0, bits w 15 0⟩ :: q.loops, pc := q.pc + 1, issues := q.issues + 1 } s))
  ∧ (∀ (q : Sample) w n l, iE w = true → (q.after w n l).ended = true ∧ (q.after w n l).pc = q.pc ∧ (q.after w n l).issues = q.issues + n ∧ (q.after w n l).lastW = l)
  ∧ (∀ (q : Sample) w n l, iE w = false → (∀ x ∈ q.loops, x.last ≠ q.pc) → (q.after w n l).pc = q.pc + 1 ∧ (q.after w n l).loops = q.loops ∧ (q.after w n l).issues = q.issues + n)
  ∧ (∀ (q : Sample) w n l x rest, iE w = false → q.loops = x :: rest → x.last = q.pc → x.idx + 1 < x.count → (q.after w n l).pc = x.first ∧ (q.after w n l).loops = { x with idx := x.idx + 1 } :: rest)
  ∧ (∀ (q : Sample) w n l x, iE w = false → q.loops = [x] → x.last = q.pc → x.count ≤ x.idx + 1 → (q.after w n l).pc = q.pc + 1 ∧ (q.after w n l).loops = [])

/-- The arithmetic of R347 to R349: a NaN operand gives the quiet NaN 0x7FC00000, a comparison with a NaN is false, a single NaN gives the other operand of MIN and MAX, −0.0 lies below +0.0 for them, opposite infinities and 0 × ∞ give the quiet NaN, an exact zero sum is +0.0 unless both
operands are −0.0, and no instruction writes a subnormal. -/
def Obligations.FloatingPointRules : Prop :=
  (∀ a b, nan32 a = true ∨ nan32 b = true → add32 a b = 0x7FC00000 ∧ mul32 a b = 0x7FC00000 ∧ lt32 a b = false ∧ le32 a b = false ∧ eq32 a b = false ∧ ∀ c, fma32 a b c = 0x7FC00000 ∧ fma32 b c a = 0x7FC00000)
  ∧ (∀ a b, nan32 a = true → nan32 b = false → min32 a b = b ∧ min32 b a = b ∧ max32 a b = b ∧ max32 b a = b)
  ∧ (min32 0 0x80000000 = 0x80000000 ∧ min32 0x80000000 0 = 0x80000000 ∧ max32 0 0x80000000 = 0 ∧ max32 0x80000000 0 = 0 ∧ eq32 0 0x80000000 = true)
  ∧ (add32 0x7F800000 0xFF800000 = 0x7FC00000 ∧ mul32 0 0x7F800000 = 0x7FC00000 ∧ add32 0x80000000 0x80000000 = 0x80000000 ∧ add32 0 0x80000000 = 0)
  ∧ (∀ a, finite32 a = true → zero32 a = false → add32 a (neg32of a) = 0)
  ∧ (∀ (q : Sample) r x, fExp 8 23 (Tab.get 0 (q.put r x).v r) = 0 → fMan 23 (Tab.get 0 (q.put r x).v r) = 0)

/-! ### Metrology and the egress lane, 13_metrology.md -/

/-- SD_CONTROL_OUTPUT, PHASOR_PATH_OUTPUT, PHASOR_REPORT, DATA_FRAME_SEND, PHASOR_BLOCK_RX: the control path gives gain × (N/2^17 − 1) + offset of its last 190 bits (R366, R368); a phasor-path output carries the stamp of its centre, and is NaN from a channel that reads so (R368, R369); a report
is formed once for each instant whose window is full (R372, R375, R380), its frequency and ROCOF within the figures of R376 of what is applied; the Root sends the frame of the oldest report (R382) and keeps a Member's block until then (R384). Values that the spec leaves open are free (log 6, log 48). -/
def Obligations.SamplesAndReports : Prop :=
  (∀ s (c : Fin 24) (v : BitVec 64) h x, s.inState [.boot, .configure, .armed, .run, .safe] = true → s.bit (R.SD_CFG.EN c) = true → s.bit (R.SD_CFG.INV c) = false → 126 ≤ (s.sd c).n → h = ((s.sd c).hist * 2 ^ 64 + v.toNat) % 2 ^ 190 → x = mkRat (sincCode h) 131072 - 1 → (runThrough v.toNat (s.sd c).last (s.sd c).run).2.2 = false → absRat x < mkRat (s.get R.SDCK_CFG.OVR_LIM) 256 → s.bit (R.SD_STAT.STUCK c) = false → s.bit (R.SD_STAT.OVR c) = false → ∃ t, exec (.sdControlOutput c v) s = .next t ∧ t.get (R.SD_STAT.RAW c) = sincCode h % 2 ^ (R.SD_STAT.RAW c).width ∧ t.get (R.SD_STAT.STUCK c) = 0 ∧ t.get (R.SD_STAT.OVR c) = 0 ∧ Tab.get 0 t.met.sample c = scaled (s.get (R.SD_GAIN c)) (s.get (R.SD_OFS c)) x ∧ (t.sd c).hist = h ∧ (t.sd c).n = 190 ∧ OnlyRegs s t [R.SD_STAT.RAW c, R.SD_STAT.STUCK c, R.SD_STAT.OVR c] ∧ t = { s with regs := t.regs, met := t.met })
  ∧ (∀ s (c : Fin 24), s.phRuns = true → s.channelNan c = true → ∃ t, exec (.phasorPathOutput c) s = .next t ∧ Tab.get (0, 0) t.met.out c = (0x7FC00000, s.groupTime - 825498) ∧ t.regs = s.regs)
  ∧ (∀ s (c : Fin 24), s.phRuns = true → s.channelNan c = false → ∃ t v, exec (.phasorPathOutput c) s = .next t ∧ finite32 v = true ∧ Tab.get (0, 0) t.met.out c = (v, s.groupTime - 825498) ∧ t.met.first = some (s.met.first.getD (s.groupTime - 825498)) ∧ t.regs = s.regs)
  ∧ (∀ s (a : Applied) f, s.phRuns = true → bitAt s.tq 7 = true → s.met.first = some f → f + (s.windowTicks / 2 + tauUs (s.bit R.PMU_CFG.CLASS) * 1024) ≤ s.groupTime → s.met.last = none → s.psNan (s.get R.PMU_CFG.FREQ_SET) = true → ∃ t rep n, exec (.phasorReport a) s = .next t ∧ n = (2 * s.gridTime * rateOf (s.get R.PMU_CFG.RATE) + ticksPerSec) / (2 * ticksPerSec) ∧ t.met.reports = s.met.reports ++ [rep] ∧ rep.soc = s.socOf (n / rateOf (s.get R.PMU_CFG.RATE)) ∧ rep.instant = s.groupTime ∧ rep.dig = (if s.bit R.PMU_CFG.DIG_EN then some s.digital else none) ∧ t.met.last = some (true, n, s.ts.taiOffset) ∧ t.get R.MET_STAT.PH_STATE = 2 ∧ OnlyRegs s t [R.MET_STAT.PH_STATE, R.MET_STAT.FREQ])
  ∧ (∀ (m : Bool) (f0 fs : Nat) (a : Applied) (p : Nat) (g : Rat × Rat × Rat), figures m f0 fs a.signal = some g → absRat (val32 (freqWithin m f0 fs a p) - val32 a.freq) ≤ g.2.1 ∧ absRat (val32 (rocofWithin m f0 fs a p) - val32 a.rocof) ≤ g.2.2)
  ∧ (∀ s r rest, s.isRoot = true → s.met.reports = r :: rest → s.egressAble = true → s.bit R.EG_STAT.TX_ON = true → s.met.built ≠ [] → (s.dataFrame r).2 = false → ∃ t, exec .dataFrameSend s = .next t ∧ t.met.reports = rest ∧ t.met.egSent = s.met.egSent ++ [s.udp (s.get O.DST_MAC) (s.get O.DST_IP) (s.get O.PORTS / 65536) (c37Frame 0xAA02 (s.get O.IDCODE) r.soc r.frac (s.dataFrame r).1)] ∧ t.get R.EG_COUNTS.DATA_FRAMES = (s.get R.EG_COUNTS.DATA_FRAMES + 1) % 2 ^ (R.EG_COUNTS.DATA_FRAMES).width ∧ OnlyRegs s t [R.EG_COUNTS.DATA_FRAMES])
  ∧ (∀ s r rest, s.isRoot = true → s.met.reports = r :: rest → s.bit R.EG_STAT.TX_ON = false → exec .dataFrameSend s = .next { s with met := { s.met with reports := rest } })
  ∧ (∀ s (i : Fin 4) b, s.cored = true → s.isRoot = true → msgGood 0x44 b = true → leAt (msgPayload b) 0 1 ≠ 0 → exec (.phasorBlockRx i b) s = .next { s with met := { s.met with inbox := s.met.inbox ++ [⟨msgSrc b, leAt (msgPayload b) 5 4, leAt (msgPayload b) 9 4, (msgPayload b).drop 13⟩] } })

/-- CMD_TRANSMISSION_OFF, CMD_TRANSMISSION_ON, CMD_SEND_HEADER, CMD_SEND_CFG1, CMD_SEND_CFG2, ARP_REQUEST, EGRESS_LINK_UP, EGRESS_LINK_DOWN: a good C37.118.2 command is counted and answered as R381 says, a bad one is reported (R381), an ARP request for the device's address is answered, and the link comes up and goes down as R385
says. The microsecond of a reply that falls between two is free (log 49). -/
def Obligations.EgressCommands : Prop :=
  (∀ s bs, s.egressAble = true → commandGood bs s = true → commandCode bs = 1 → ∃ t, exec (.cmdTransmissionOff bs) s = .next t ∧ t.get R.EG_STAT.TX_ON = 0 ∧ t.get R.EG_COUNTS.COMMANDS = min (2 ^ (R.EG_COUNTS.COMMANDS).width - 1) (s.get R.EG_COUNTS.COMMANDS + 1) ∧ OnlyRegs s t [R.EG_STAT.TX_ON, R.EG_COUNTS.COMMANDS] ∧ t = { s with regs := t.regs, cyc := t.cyc })
  ∧ (∀ s bs, s.egressAble = true → commandGood bs s = true → commandCode bs = 2 → ∃ t, exec (.cmdTransmissionOn bs) s = .next t ∧ t.get R.EG_STAT.TX_ON = 1 ∧ OnlyRegs s t [R.EG_STAT.TX_ON, R.EG_COUNTS.COMMANDS] ∧ t = { s with regs := t.regs, cyc := t.cyc })
  ∧ (∀ s bs, s.egressAble = true → commandGood bs s = true → commandCode bs = 3 → ∃ t soc frac, exec (.cmdSendHeader bs) s = .next t ∧ t.met.egSent = s.met.egSent ++ [s.udp (beVal (bs.take 6)) (beVal ((bs.drop 6).take 4)) (beVal ((bs.drop 10).take 2)) (c37Frame 0xAA12 (s.get O.IDCODE) soc frac (headerText s.pos))] ∧ OnlyRegs s t [R.EG_COUNTS.COMMANDS])
  ∧ (∀ s bs, s.egressAble = true → commandGood bs s = true → commandCode bs = 4 → ∃ t soc frac, exec (.cmdSendCfg1 bs) s = .next t ∧ t.met.egSent = s.met.egSent ++ [s.udp (beVal (bs.take 6)) (beVal ((bs.drop 6).take 4)) (beVal ((bs.drop 10).take 2)) (c37Frame 0xAA22 (s.get O.IDCODE) soc frac s.cfgBody)] ∧ OnlyRegs s t [R.EG_COUNTS.COMMANDS])
  ∧ (∀ s bs, s.egressAble = true → commandGood bs s = true → commandCode bs = 5 → ∃ t soc frac, exec (.cmdSendCfg2 bs) s = .next t ∧ t.met.egSent = s.met.egSent ++ [s.udp (beVal (bs.take 6)) (beVal ((bs.drop 6).take 4)) (beVal ((bs.drop 10).take 2)) (c37Frame 0xAA32 (s.get O.IDCODE) soc frac s.cfgBody)] ∧ OnlyRegs s t [R.EG_COUNTS.COMMANDS])
  ∧ (∀ s bs, s.egressAble = true → commandGood bs s = false → exec (.cmdTransmissionOff bs) s = .next (raise Src.EG_CMD_BAD s) ∧ exec (.cmdSendCfg2 bs) s = .next (raise Src.EG_CMD_BAD s))
  ∧ (∀ s mac ip, s.egressAble = true → mac < 2 ^ 48 → ip < 2 ^ 32 → s.get O.SRC_IP < 2 ^ 32 → ∃ t, exec (.arpRequest (beBytes 8 0x0001080006040001 ++ beBytes 6 mac ++ beBytes 4 ip ++ beBytes 6 0 ++ beBytes 4 (s.get O.SRC_IP))) s = .next t ∧ t.met.egSent = s.met.egSent ++ [s.ethernet mac 0x806 (beBytes 8 0x0001080006040002 ++ beBytes 6 (s.get O.MAC) ++ beBytes 4 (s.get O.SRC_IP) ++ (beBytes 6 mac ++ beBytes 4 ip))] ∧ t = { s with met := t.met })
  ∧ (∀ s, s.inState [.boot, .configure, .armed, .run, .safe] = true → s.bit R.CLK_STAT.SPREAD_ACT = false → ∃ t, exec .egressLinkUp s = .next t ∧ t.get R.EG_STAT.LINK_UP = 1 ∧ t.get R.EG_STAT.AN_DONE = s.get O.AUTO_NEG ∧ OnlySets s t [R.EG_STAT.LINK_UP, R.EG_STAT.AN_DONE])
  ∧ (∀ s, s.bit R.EG_STAT.LINK_UP = true → exec .egressLinkDown s = .next (raise Src.EG_LINK_DOWN ((s.set R.EG_STAT.LINK_UP 0).set R.EG_STAT.AN_DONE 0)))

/-! ### Fault location, 14_fault_location.md -/

/-- WF_ALIGN, WF_CHANNEL_ALIGNED, WAVEFRONT_CROSSING, DETECTOR_REARM, EVENT_WINDOW_CLOSE, EVENT_RECORD_COMPLETE, WF_RECORD_SELECT, WF_CAPTURE_ARM, WF_CAPTURE_STOP, WF_CAPTURE_DONE, WF_CDATA_READ: an alignment starts with every enabled channel and ends as they do (R391); the first crossing opens an
event with the time of its onset and disarms its detector (R395 to R397); the window's end closes the event, and its 512-byte record is kept with the newest 16 (R397 to R400); a record that is held is copied to the read buffer, and a number that is not held is refused (R400); a capture is armed,
stopped or complete with BUSY, DONE and COUNT as R404 says; a read of WF_CDATA moves INDEX on (R406). The sign of DELAY is free (log 6). -/
def Obligations.WavefrontEventsAndRecords : Prop :=
  (∀ s, s.wfAble = true → s.setEn 0 = true → ∃ t, exec .wfAlign s = .next t ∧ t.get R.WF_STAT.ALIGNED = 0 ∧ t.get R.WF_STAT.STATE = 1 ∧ t.wf.aligning = 7 + 56 * b2n (s.setEn 1) ∧ OnlyRegs s t [R.WF_STAT.ALIGNED, R.WF_STAT.STATE])
  ∧ (∀ s (c : Fin 6), s.get R.WF_STAT.STATE = 1 → s.wf.aligning = 2 ^ c.val → s.wf.ev = none → ∃ t, exec (.wfChannelAligned c true) s = .next t ∧ t.get R.WF_STAT.STATE = 2 ∧ bitAt (t.get R.WF_STAT.ALIGNED) c = true ∧ t.wf.aligning = 0 ∧ OnlyRegs s t [R.WF_STAT.ALIGNED, R.WF_STAT.STATE])
  ∧ (∀ s (d : Fin 6) (a : Nat) w (x : Int), s.detects d = true → s.wf.ev = none → val32 (s.get (R.WF_THR d)) ≤ absRat (s.yAt d w 0) → w.all (fun c => !overCode c.1 && !overCode c.2.1 && !overCode c.2.2) = true → x = (if Config.delayAdds then (s.sampleAt a).1 + 5 * sext 16 (s.get (R.WF_CAL.DELAY (d / 3))) else (s.sampleAt a).1 - 5 * sext 16 (s.get (R.WF_CAL.DELAY (d / 3)))) → s.blanking (x / 80 + s.ts.groupOffset) = 0 → ∃ t e, exec (.wavefrontCrossing d a w) s = .next t ∧ t.wf.ev = some e ∧ e.num = (s.wf.num + 1) % 2 ^ 32 ∧ e.t1 = (onsetTime x (s.yAt d w 0) (s.yAt d w 1) (s.get R.WF_CTRL.DIFF)).1 ∧ Tab.get 0 e.counts d = 1 ∧ (Tab.get [] e.onsets d).length = 1 ∧ e.ofs = s.ts.groupOffset ∧ e.tq = s.tq ∧ t.get R.WF_STAT.STATE = 3 ∧ bitAt t.wf.disarmed d = true ∧ OnlyRegs s t [R.WF_STAT.EVENT_LO, R.WF_STAT.STATE])
  ∧ (∀ s (d : Fin 6), ∃ t, exec (.detectorRearm d) s = .next t ∧ bitAt t.wf.disarmed d = false ∧ t = { s with wf := t.wf })
  ∧ (∀ s e, s.wf.ev = some e → s.get R.WF_STAT.STATE = 3 → ∃ t, exec .eventWindowClose s = .next t ∧ t.wf.ev = none ∧ t.wf.closed = s.wf.closed ++ [e] ∧ t.get R.WF_STAT.STATE = 2 ∧ OnlyRegs s t [R.WF_STAT.STATE])
  ∧ (∀ s e rest, s.wf.closed = e :: rest → ∃ t r, exec .eventRecordComplete s = .next t ∧ t.wf.closed = rest ∧ t.wf.records = ((e.num, ofInt 64 (e.t1 + e.ofs), r) :: s.wf.records).take 16 ∧ r.length = 512 ∧ r.take 4 = leBytes 4 e.num)
  ∧ (∀ s v r, s.wf.records.find? (fun r => r.1 == v) = some r → v < 2 ^ 32 → ∃ t, exec (.wfRecordSelect v) s = .next t ∧ t.wf.selected = r.2.2 ∧ t.get O.WF_SELECT = v ∧ OnlyRegs s t [O.WF_SELECT])
  ∧ (∀ s v, s.wf.records.find? (fun r => r.1 == v) = none → exec (.wfRecordSelect v) s = .next (raise Src.WF_SETTING_REFUSED s))
  ∧ (∀ s, s.captureLost = true → exec .wfCaptureArm s = .next (raise Src.WF_SETTING_REFUSED s))
  ∧ (∀ s, s.captureLost = false → bitAt s.pw.vio 3 = false → ∃ t, exec .wfCaptureArm s = .next t ∧ t.get R.WF_CAPSTAT.BUSY = 1 ∧ t.get R.WF_CAPSTAT.DONE = 0 ∧ t.get R.WF_CAPSTAT.COUNT = 0 ∧ t.wf.capNum = s.wf.capNum + 1 ∧ t.wf.armedAt = 80 * (s.ts.tsc : Int) ∧ OnlyRegs s t [R.WF_CAPSTAT.BUSY, R.WF_CAPSTAT.DONE, R.WF_CAPSTAT.COUNT])
  ∧ (∀ s, s.bit R.WF_CAPSTAT.BUSY = true → s.wf.capTrig = none → ∃ t, exec .wfCaptureStop s = .next t ∧ t.get R.WF_CAPSTAT.BUSY = 0 ∧ t.get R.WF_CAPSTAT.COUNT = min 65536 ((80 * (s.ts.tsc : Int) - s.wf.armedAt) / 1024).toNat ∧ t.get R.WF_CAPSTAT.DONE = s.get R.WF_CAPSTAT.DONE ∧ OnlySets s t [R.WF_CAPSTAT.BUSY, R.WF_CAPSTAT.COUNT, R.WF_CAPTSC_LO, R.WF_CAPTSC_HI])
  ∧ (∀ s x, s.bit R.WF_CAPSTAT.BUSY = true → s.wf.capTrig = some x → ∃ t, exec .wfCaptureDone s = .next t ∧ t.get R.WF_CAPSTAT.BUSY = 0 ∧ t.get R.WF_CAPSTAT.DONE = 1 ∧ OnlySets s t [R.WF_CAPSTAT.BUSY, R.WF_CAPSTAT.DONE, R.WF_CAPSTAT.COUNT, R.WF_CAPTSC_LO, R.WF_CAPTSC_HI])
  ∧ (∀ s, ∃ t, exec .wfCdataRead s = .next t ∧ t.get R.WF_CADDR.INDEX = (s.get R.WF_CADDR.INDEX + 1) % 65536 ∧ OnlyRegs s t [R.WF_CADDR.INDEX] ∧ t = { s with regs := t.regs, cyc := t.cyc })

/-! ### The timescale, 05_timescale.md, and group time on the spine, 15_spine_groups.md -/

/-- TSC_LO_READ, OPERATING_SECONDS_SAVE, PTP_MESSAGE_RX, PDELAY_REQ_SEND, PPS_EDGE, PPS_LABEL_WRITE, REFERENCE_MISSING: a read of TS_TSC_LO latches the high half for its reader (R126, R541); a save of the operating seconds begins in the slot that is written next, and leaves the other (R128); the first sample of the selected reference starts acquisition (R137); a stray or
unlabelled PPS edge is reported, and a labelled one counts the label on (R133, R134); the loss of the reference takes LOCKED to HOLDOVER (R137, R139). A tick of time, which passes where no command waits (log 4): TSC counts it (R22), in fallback by 2 or 3 at each core cycle (R118); the frequency correction asks for a phase step, whose count saturates (R96); in a cycle of the reference one step toward
a pending count of 0 is taken (R95) and the dither LFSRs step (R92); a save of the operating seconds ends with its valid mark (R128). -/
def Obligations.ClockAndReferences : Prop :=
  (∀ s, exec (.tscLoRead true) s = .next { s with ts := { s.ts with tscHiHost := s.ts.tsc / 2 ^ 32 % 2 ^ 32 } })
  ∧ (∀ s, ∃ t, exec (.tscLoRead false) s = .next t ∧ t.get R.TS_TSC_HI = s.ts.tsc / 2 ^ 32 % 2 ^ 32 ∧ OnlySets s t [R.TS_TSC_HI])
  ∧ (∀ s, s.cored = true → s.ts.saving = none → ∃ t, exec .operatingSecondsSave s = .next t ∧ t.ts.saving = some (s.opsec, s.now) ∧ (s.mram.opsecNext = false → t.mram.opsecA = none ∧ t.mram.opsecB = s.mram.opsecB) ∧ (s.mram.opsecNext = true → t.mram.opsecB = none ∧ t.mram.opsecA = s.mram.opsecA) ∧ t.mram.opsecNext = s.mram.opsecNext ∧ t = { s with ts := { s.ts with saving := t.ts.saving }, mram := t.mram })
  ∧ (∀ s, exec (.ptpMessageRx .badFcs) s = .next (raise Src.EG_RX_BAD s))
  ∧ (∀ s d src q rx sec ns c, s.isRoot = true → s.bit R.CLK_STAT.SPREAD_ACT = false → s.fromMaster d src = true → exec (.ptpMessageRx (.sync d src q true rx sec ns c)) s = .next { s with ts := { s.ts with ptp := { s.ts.ptp with sync := some (src, q, rx, c) } } })
  ∧ (∀ s d src q rx sec ns c, s.isRoot = true → s.bit R.CLK_STAT.SPREAD_ACT = false → s.fromMaster d src = true → s.get O.SOURCE_SEL = 1 → s.tsState = 0 → ∃ t, exec (.ptpMessageRx (.sync d src q false rx sec ns c)) s = .next t ∧ t.tsState = 1 ∧ t.ts.source = .ptp ∧ (∃ o, t.ts.pendingTai = some (.acquire o)) ∧ t.ts.agree = [] ∧ t.ts.freq.natAbs ≤ 500000)
  ∧ (∀ s, s.isRoot = true → s.ts.running = true → s.bit R.CLK_STAT.SPREAD_ACT = false → ∃ t, exec .pdelayReqSend s = .next t ∧ t.ts.ptp.pdelaySeq = (s.ts.ptp.pdelaySeq + 1) % 65536 ∧ t.ts.ptp.pdelayT1 = some s.ts.tsc ∧ t.ts.ptp.sent = s.ts.ptp.sent ++ [.pdelayReq ((s.ts.ptp.pdelaySeq + 1) % 65536) (s.get O.PTP_VLAN) (s.get O.PTP_PRIO)] ∧ t.regs = s.regs)
  ∧ (∀ s f u, s.isRoot = true → s.inState [.boot, .configure, .armed, .run, .safe] = true → s.ts.ppsLast = some u → s.ts.tsc < u + 512000000 → exec (.ppsEdge f) s = .next (raise Src.TS_PPS_STRAY s))
  ∧ (∀ s f, s.isRoot = true → s.inState [.boot, .configure, .armed, .run, .safe] = true → s.ts.ppsLast = none → s.ts.ppsLabel = none → s.ts.ppsWas.all (fun w => w.1 != s.now) = true →  exec (.ppsEdge f) s = .next (raise Src.TS_TOS_MISSING { s with ts := { s.ts with ppsLast := some s.ts.tsc } }))
  ∧ (∀ s f l, s.isRoot = true → s.inState [.boot, .configure, .armed, .run, .safe] = true → s.ts.ppsLast = none → s.ts.ppsLabel = some l → s.ts.ppsWas.all (fun w => w.1 != s.now) = true →  s.get O.SOURCE_SEL = 1 → exec (.ppsEdge f) s = .next { s with ts := { s.ts with ppsLast := some s.ts.tsc, ppsLabel := some (l + 1), ppsNew := false } })
  ∧ (∀ s v, s.isRoot = true → v < 2 ^ 48 → ∃ t, exec (.ppsLabelWrite v) s = .next t ∧ t.ts = { s.ts with ppsLabel := some v, ppsNew := true, ppsWas := some (s.now, s.ts.ppsLabel) } ∧ t.get O.PPS_LABEL = v ∧ OnlyRegs s t [O.PPS_LABEL])
  ∧ (∀ s, s.isRoot = true → s.tsState = 2 → s.bit R.TS_STAT.SLEWING = false → s.ts.holdSince = none → ∃ t, exec .referenceMissing s = .next t ∧ t.tsState = 3 ∧ t.ts.holdSince = some s.ts.tsc ∧ t.ts.fLast = s.ts.freq ∧ t.ts.lockedAt = some s.ts.tsc ∧ t.ts.agree = [])
  ∧ (∀ s, s.pending = [] → ∃ t, step s = .next t ∧ (s.ts.running = false → t.ts.tsc = s.ts.tsc) ∧ (s.ts.running = true → s.bit R.CLK_STAT.TS_FALLBACK = false → t.ts.tsc = (s.ts.tsc + 1) % 2 ^ 64))
  ∧ (∀ s, s.pending = [] → s.ts.running = true → s.bit R.CLK_STAT.TS_FALLBACK = true → ∃ t, step s = .next t ∧ (s.now * 25 / 64 = (s.now + 1) * 25 / 64 → t.ts.tsc = s.ts.tsc % 2 ^ 64) ∧ (s.now * 25 / 64 ≠ (s.now + 1) * 25 / 64 → t.ts.tsc = (s.ts.tsc + 2) % 2 ^ 64 ∨ t.ts.tsc = (s.ts.tsc + 3) % 2 ^ 64))
  ∧ (∀ s, s.pending = [] → s.ts.running = true → s.bit R.CLK_STAT.LOCK_T = true → s.refCycle = false → 10 ^ 10 ≤ s.ts.stepAcc + 128 * s.ts.freq → ∃ t, step s = .next t ∧ sext 16 (t.get R.CLK_PHASE_T.PENDING) = min 32767 (sext 16 (s.get R.CLK_PHASE_T.PENDING) + 1) ∧ t.ts.stepAcc = s.ts.stepAcc + 128 * s.ts.freq - 10 ^ 10 ∧ OnlyRegs s t [R.CLK_PHASE_T.PENDING])
  ∧ (∀ s, s.pending = [] → s.ts.running = true → s.bit R.CLK_STAT.LOCK_T = true → s.refCycle = false → s.ts.stepAcc + 128 * s.ts.freq ≤ -10 ^ 10 → ∃ t, step s = .next t ∧ sext 16 (t.get R.CLK_PHASE_T.PENDING) = max (-32768) (sext 16 (s.get R.CLK_PHASE_T.PENDING) - 1) ∧ t.ts.stepAcc = s.ts.stepAcc + 128 * s.ts.freq + 10 ^ 10 ∧ OnlyRegs s t [R.CLK_PHASE_T.PENDING])
  ∧ (∀ s, s.pending = [] → s.ts.running = false → s.bit R.CLK_STAT.LOCK_T = true → s.refCycle = true → 0 < sext 16 (s.get R.CLK_PHASE_T.PENDING) → ∃ t, step s = .next t ∧ sext 16 (t.get R.CLK_PHASE_T.PENDING) = sext 16 (s.get R.CLK_PHASE_T.PENDING) - 1 ∧ t.get R.CLK_PHASE_T.PHASE = (s.get R.CLK_PHASE_T.PHASE + 1) % 128 ∧ OnlyRegs s t [R.CLK_PHASE_T.PENDING, R.CLK_PHASE_T.PHASE])
  ∧ (∀ s, s.pending = [] → s.ts.running = false → s.bit R.CLK_STAT.LOCK_T = true → s.refCycle = true → sext 16 (s.get R.CLK_PHASE_T.PENDING) < 0 → ∃ t, step s = .next t ∧ sext 16 (t.get R.CLK_PHASE_T.PENDING) = sext 16 (s.get R.CLK_PHASE_T.PENDING) + 1 ∧ t.get R.CLK_PHASE_T.PHASE = (s.get R.CLK_PHASE_T.PHASE + 127) % 128 ∧ OnlyRegs s t [R.CLK_PHASE_T.PENDING, R.CLK_PHASE_T.PHASE])
  ∧ (∀ s (p : Nat), s.pending = [] → p < 4 → s.refCycle = true → s.bit (ditherBit p) = true → ∃ t, step s = .next t ∧ Tab.get 0 t.clk.lfsr p = (2 * Tab.get 0 s.clk.lfsr p + Nat.xor (bits (Tab.get 0 s.clk.lfsr p) 22 22) (bits (Tab.get 0 s.clk.lfsr p) 17 17)) % 2 ^ 23)
  ∧ (∀ s v u, s.pending = [] → s.ts.saving = some (v, u) → u + 2048 ≤ s.now → ∃ t, step s = .next t ∧ t.ts.saving = none ∧ (if s.mram.opsecNext then t.mram.opsecB = some v ∧ t.mram.opsecA = s.mram.opsecA else t.mram.opsecA = some v ∧ t.mram.opsecB = s.mram.opsecB) ∧ t.mram.opsecNext = !s.mram.opsecNext)

/-- TAI_OFFSET_CHANGE, SLEW_STEP, HOLDOVER_LEARN, TEMPERATURE_TABLE_CLEAR, GROUP_OFFSET_SET, ADOPT_GROUP_EPOCH, GROUP_LOST: a pending change of TAI_OFFSET applies whole (R131), a slew moves it one tick at a time to its target (R141), the 1 s mean is taken (R138), a pending group offset applies (R147), a
Member adopts a new epoch outside Run (R148), and coasts when group time is lost (R147). -/
def Obligations.OffsetsAndHoldover : Prop :=
  (∀ s o, s.ts.pendingTai = some (.acquire o) → ∃ t, exec .taiOffsetChange s = .next t ∧ t.ts = { s.ts with pendingTai := none, taiOffset := o })
  ∧ (∀ s d, s.ts.pendingTai = some (.step d) → ∃ t, exec .taiOffsetChange s = .next t ∧ t.ts = { s.ts with pendingTai := none, taiOffset := (((s.ts.taiOffset : Int) + d) % 2 ^ 64).toNat })
  ∧ (∀ s o, s.ts.pendingTai = some (.follow o) → ∃ t, exec .taiOffsetChange s = .next t ∧ t.ts = { s.ts with pendingTai := none, taiOffset := o })
  ∧ (∀ s d, s.ts.pendingTai = some (.slew d) → d ≠ 0 → ∃ t, exec .taiOffsetChange s = .next t ∧ t.ts.slewLeft = d ∧ t.ts.slewFrom = s.ts.taiOffset ∧ t.ts.taiOffset = s.ts.taiOffset ∧ t.bit R.TS_STAT.SLEWING = true)
  ∧ (∀ s, s.bit R.TS_STAT.SLEWING = true → 1 < s.ts.slewLeft → exec .slewStep s = .next { s with ts := { s.ts with taiOffset := ((s.ts.taiOffset : Int) + 1) % 2 ^ 64 |>.toNat, slewLeft := s.ts.slewLeft - 1 } })
  ∧ (∀ s, s.bit R.TS_STAT.SLEWING = true → s.ts.slewLeft = 1 → ∃ t, exec .slewStep s = .next t ∧ t.bit R.TS_STAT.SLEWING = false ∧ t.ts.slewLeft = 0 ∧ t.ts.taiOffset = (((s.ts.taiOffset : Int) + 1) % 2 ^ 64).toNat)
  ∧ (∀ s, 0 < s.ts.tN → s.tsState ≠ 2 → s.ts.holdSince = none → exec .holdoverLearn s = .next { s with ts := { s.ts with tMean := some ((s.ts.tSum : Rat) / (s.ts.tN : Nat)), tSum := 0, tN := 0 } })
  ∧ (∀ s, exec (.temperatureTableClear 1) s = .next { s with ts := { s.ts with bins := [] } })
  ∧ (∀ s g, s.ts.pendingGroup = some g → exec .groupOffsetSet s = .next { s with ts := { s.ts with groupOffset := g, pendingGroup := none } })
  ∧ (∀ s (e : Nat) (o : Int), s.isRoot = false → s.inState [.run] = false → s.ts.pendingEpoch = some (e, o) → ∃ t, exec (.adoptGroupEpoch 1) s = .next t ∧ t.ts.groupEpoch = some e ∧ t.tsState = 5 ∧ t.ts.pendingGroup = some (roundEvenInt ((o : Rat) / 128)) ∧ t.ts.pendingEpoch = none ∧ t.get R.TS_STAT.EPOCH_MISMATCH = 0 ∧ OnlyRegs s t [R.TS_STAT.STATE, R.TS_STAT.EPOCH_MISMATCH])
  ∧ (∀ s, s.isRoot = false → s.tsState = 6 → s.ts.holdSince = none → ∃ t, exec .groupLost s = .next t ∧ t.tsState = 7 ∧ t.ts.holdSince = some s.ts.tsc ∧ t.ts.lockedAt = some s.ts.tsc)

/-- GROUP_TIME_SEND, GROUP_TIME_MESSAGE, DELAY_EXCHANGE_REQUEST, DELAY_EXCHANGE_BLOCK, DELAY_EXCHANGE_RESPONSE: the Root sends its group time on both links (R424), a Member's first message gives it the epoch, the TAI offset for the next frame boundary (R131) and the state JOIN (R147, R424), and the exchange of a lane gives half of the
round trip less the residence as its delay (R424). -/
def Obligations.GroupTimeMessages : Prop :=
  (∀ s, s.isRoot = true → s.ts.running = true → ∃ (t : State) (p : Nat → List Byte), exec .groupTimeSend s = .next t ∧ t.ts.msgNum = (s.ts.msgNum + 1) % 2 ^ 32 ∧ (∀ d, p d = groupPayload s.groupTime 0 s.ts.taiOffset s.tq (d + 2 * b2n (match s.spine.map with | some m => m.closed | none => false)) s.utc s.ts.epoch s.ts.msgNum) ∧ t.spine.sent = (([0, 1].filter s.linkUp).foldl (fun x d => x.transmit d (message 0x47 1 0 s.pos 0xFF (Tab.get 0 s.spine.seq 1) (p d))) s).spine.sent ∧ t.regs = s.regs)
  ∧ (∀ s (i : Fin 4) b d, s.isRoot = false → s.spineUp i = true → msgGood 0x47 b = true → msgLen b = 36 → s.hopDelay i = some d → s.ts.groupEpoch = none → ∃ t, exec (.groupTimeMessage i b) s = .next t ∧ t.ts.groupEpoch = some (leAt (msgPayload b) 28 4) ∧ t.ts.taiOffset = s.ts.taiOffset ∧ t.ts.pendingTai = (if leAt (msgPayload b) 16 8 = s.ts.taiOffset then none else some (.follow (leAt (msgPayload b) 16 8))) ∧ t.ts.rootTq = leAt (msgPayload b) 24 1 ∧ t.ts.lastGroup = s.ts.tsc ∧ t.ts.pendingGroup = some (roundEvenInt (((128 * (leAt (msgPayload b) 0 8 : Int) + sext 64 (leAt (msgPayload b) 8 8) + d - 128 * (s.ts.tsc : Int) : Int) : Rat) / 128)) ∧ t.tsState = 5)
  ∧ (∀ s (i : Fin 4), s.spineUp i = true → ∃ t, exec (.delayExchangeRequest i) s = .next t ∧ (t.spl i).dlyAt = some s.ts.tsc ∧ (t.spl i).dlySeq = ((s.spl i).dlySeq + 1) % 128 ∧ t.spine.sent = s.sentWith (i.val / 2) (delayBlock false (((s.spl i).dlySeq + 1) % 128) 0) ∧ t.regs = s.regs)
  ∧ (∀ s (i : Fin 4) b, s.spineUp i = true → bitAt (leAt b 0 7) 55 = false → ∃ t, exec (.delayExchangeBlock i b) s = .next t ∧ (t.spl i).dlyReq = some (bits (leAt b 0 7) 54 48, s.ts.tsc) ∧ t.regs = s.regs)
  ∧ (∀ s (i : Fin 4) b t1, s.spineUp i = true → bitAt (leAt b 0 7) 55 = true → (s.spl i).dlyAt = some t1 → bits (leAt b 0 7) 54 48 = (s.spl i).dlySeq → ∃ t, exec (.delayExchangeBlock i b) s = .next t ∧ t.get (R.SL_DELAY.DELAY i) = (clampInt 0 0xFFFFE ((128 * ((s.ts.tsc : Int) - t1) - bits (leAt b 0 7) 47 24) / 2)).toNat ∧ (t.spl i).dlyAt = none ∧ OnlyRegs s t [R.SL_DELAY.DELAY i])
  ∧ (∀ s (i : Fin 4) q u, s.spineUp i = true → (s.spl i).dlyReq = some (q, u) → u + 64 ≤ s.ts.tsc → ∃ t, exec (.delayExchangeResponse i) s = .next t ∧ (t.spl i).dlyReq = none ∧ t.spine.sent = s.sentWith (i.val / 2) (delayBlock true q (128 * (s.ts.tsc - u))) ∧ t.regs = s.regs)

/-! ### Spine lanes, the ring and its notices, 15_spine_groups.md -/

/-- SPINE_LANE_ENABLE, SPINE_SIGNAL_DETECT, SPINE_ADAPTED, SPINE_BLOCK_LOCK, TRAINING_BLOCK_RX: a block sent as PAM4 levels is read back, precoded or not, inverted or not (R411, R412); bring-up of a spine lane, step by step (R413, R414): enabling in Configure starts attempt 1; adaptation enters EXCHANGE with the polarity
that RX_POL asks for; valid training blocks count, and the sixteenth with RX_READY both ways enters UP with what the neighbour sent (R415). -/
def Obligations.SpineBringUpSteps : Prop :=
  (∀ (pre inv : Bool) (prev scr : Nat) (b : Block), prev < 4 → b.wf = true → readBlock pre inv (if inv then 3 - prev else prev) scr (blockLevels pre inv prev scr b) = some b)
  ∧ (∀ s (i : Fin 4), s.pw.state = .configure → s.bit (R.SL_CTRL.EN i) = false → bitAt s.sec.deadSpine i = false → bitAt s.sec.badSpine i = false → s.bit R.CLK_STAT.LOCK_S = true → s.noRingYet → ∃ t, exec (.spineLaneEnable i true) s = .next t ∧ t.get (R.SL_CTRL.EN i) = 1 ∧ t.slState i = 2 ∧ t.get (R.SL_STAT.ATTEMPT i) = 1 ∧ t.get (R.SL_STAT.SIGNAL i) = 0 ∧ OnlyRegs s t ([R.SL_CTRL.EN i, R.SL_STAT.STATE i, R.SL_STAT.ATTEMPT i] ++ spineAfresh i) ∧ t = { s with regs := t.regs, spine := t.spine })
  ∧ (∀ s (i : Fin 4), s.pw.state = .configure → s.bit (R.SL_CTRL.EN i) = true → s.noRingYet → ∃ t, exec (.spineLaneEnable i false) s = .next t ∧ t.get (R.SL_CTRL.EN i) = 0 ∧ t.slState i = 0 ∧ t.get (R.SL_DELAY.DELAY i) = 0xFFFFF ∧ OnlyRegs s t ([R.SL_CTRL.EN i, R.SL_STAT.STATE i] ++ spineAfresh i))
  ∧ (∀ s (i : Fin 4), s.slState i = 2 → ∃ t, exec (.spineSignalDetect i) s = .next t ∧ t.get (R.SL_STAT.SIGNAL i) = 1 ∧ OnlySets s t [R.SL_STAT.SIGNAL i])
  ∧ (∀ s (i : Fin 4) inv, s.slState i = 2 → s.bit (R.SL_STAT.SIGNAL i) = true → ∃ t, exec (.spineAdapted i inv) s = .next t ∧ t.slState i = 3 ∧ t.get (R.SL_STAT.CDR_LOCK i) = 1 ∧ (s.get (R.SL_CTRL.RX_POL i) = 0 → t.bit (R.SL_STAT.RX_INV i) = inv) ∧ (s.get (R.SL_CTRL.RX_POL i) = 1 → t.bit (R.SL_STAT.RX_INV i) = false) ∧ (s.get (R.SL_CTRL.RX_POL i) = 2 → t.bit (R.SL_STAT.RX_INV i) = true) ∧ OnlySets s t [R.SL_STAT.STATE i, R.SL_STAT.CDR_LOCK i, R.SL_STAT.RX_INV i])
  ∧ (∀ s (i : Fin 4), s.slState i = 3 → ∃ t, exec (.spineBlockLock i) s = .next t ∧ t.get (R.SL_STAT.BLOCK_LOCK i) = 1 ∧ OnlySets s t [R.SL_STAT.BLOCK_LOCK i])
  ∧ (∀ s (i : Fin 4) b, s.slState i = 3 → s.bit (R.SL_STAT.BLOCK_LOCK i) = true → trainingGood b = true → (s.spl i).train < 7 → ∃ t, exec (.trainingBlockRx i b) s = .next t ∧ (t.spl i).train = (s.spl i).train + 1 ∧ (t.spl i).nbPrecode = bitAt (leAt b 0 7) 45 ∧ t = { s with spine := t.spine })
  ∧ (∀ s (i : Fin 4) b, s.slState i = 3 → s.bit (R.SL_STAT.BLOCK_LOCK i) = true → trainingGood b = false → ∃ t, exec (.trainingBlockRx i b) s = .next t ∧ (t.spl i).train = 0 ∧ (t.spl i).ready = 0 ∧ t = { s with spine := t.spine })
  ∧ (∀ s (i : Fin 4) b, s.slState i = 3 → s.bit (R.SL_STAT.BLOCK_LOCK i) = true → trainingGood b = true → 7 ≤ (s.spl i).train → bits (leAt b 0 7) 47 47 = s.grp → bits (leAt b 0 7) 53 48 ≠ s.pos → bits (leAt b 0 7) 55 54 / 2 ≠ i.val / 2 → (s.spl i).rxReady = true → bitAt (leAt b 0 7) 46 = true → (s.spl i).ready = 15 → (s.spl i).wasLost = false → (s.spl i).absent = false → s.orderOk i (bits (leAt b 0 7) 53 48) = true → ∃ t, exec (.trainingBlockRx i b) s = .next t ∧ t.spineUp i = true ∧ t.get (R.SL_STAT.NB_POS i) = bits (leAt b 0 7) 53 48 ∧ t.get (R.SL_STAT.NB_G i) = s.grp ∧ t.get (R.SL_STAT.NB_LANE i) = bits (leAt b 0 7) 55 54 ∧ t.bit (R.SL_STAT.PRECODE_TX i) = bitAt (leAt b 0 7) 45 ∧ t.get (R.SL_STAT.PRECODE_RX i) = s.get (R.SL_CTRL.PRECODE_REQ i) ∧ t.bit (R.SL_STAT.CROSSED i) = (bits (leAt b 0 7) 55 54 % 2 != i.val % 2) ∧ OnlyRegs s t [R.SL_STAT.STATE i, R.SL_STAT.NB_POS i, R.SL_STAT.NB_G i, R.SL_STAT.NB_LANE i, R.SL_STAT.PRECODE_TX i, R.SL_STAT.PRECODE_RX i, R.SL_STAT.CROSSED i] ∧ t = { s with regs := t.regs, spine := t.spine })

/-- SPINE_ATTEMPT_TIMEOUT, SPINE_BACKOFF_END, SPINE_RETRY, SPINE_RETRAIN, SPINE_LANE_LOST, ALIGNMENT_MARKER_RX, ATTEMPT_SIGNAL_LOST: an attempt that fails goes to BACKOFF with the failed step (R414), the next starts with its number, a retrain starts at attempt 1, and a lane in UP
that is lost, or whose markers are more than 16 blocks apart, counts the loss and starts attempt 1 (R416, R417); an attempt of a cell lane or spine lane whose signal is lost fails (R167, R414). -/
def Obligations.SpineAttemptsAndLoss : Prop :=
  (∀ s (i : Fin 4), s.slAttempt i = true → s.get (R.SL_STAT.ATTEMPT i) < 16 → ∃ t, exec (.spineAttemptTimeout i) s = .next t ∧ t.slState i = 5 ∧ t.get (R.SL_STAT.FAIL_STAGE i) = s.slStage i ∧ t.get (R.SL_COUNTS.FAILED_ATTEMPTS i) = min (2 ^ 16 - 1) (s.get (R.SL_COUNTS.FAILED_ATTEMPTS i) + 1) ∧ OnlyRegs s t ([R.SL_STAT.STATE i, R.SL_STAT.FAIL_STAGE i, R.SL_COUNTS.FAILED_ATTEMPTS i] ++ spineAfresh i) ∧ t = { s with regs := t.regs, cyc := t.cyc, spine := t.spine })
  ∧ (∀ s (i : Fin 4), s.slAttempt i = true → s.get (R.SL_STAT.ATTEMPT i) = 16 → ∃ t, exec (.spineAttemptTimeout i) s = .next t ∧ t.slState i = 6 ∧ (t.spl i).absent = true ∧ (t.spl i).retry = false)
  ∧ (∀ s (i : Fin 4), s.slState i = 5 → s.get (R.SL_STAT.ATTEMPT i) < 16 → ∃ t, exec (.spineBackoffEnd i) s = .next t ∧ t.slState i = 2 ∧ t.get (R.SL_STAT.ATTEMPT i) = s.get (R.SL_STAT.ATTEMPT i) + 1 ∧ OnlyRegs s t ([R.SL_STAT.STATE i, R.SL_STAT.ATTEMPT i] ++ spineAfresh i))
  ∧ (∀ s (i : Fin 4), bitAt s.sec.badSpine i = false → s.slState i = 6 → ∃ t, exec (.spineRetry i) s = .next t ∧ t.slState i = 2 ∧ t.get (R.SL_STAT.ATTEMPT i) = 16 ∧ (t.spl i).retry = true ∧ OnlyRegs s t ([R.SL_STAT.STATE i, R.SL_STAT.ATTEMPT i] ++ spineAfresh i))
  ∧ (∀ s (i : Fin 4), bitAt s.sec.badSpine i = false → s.slState i = 5 ∨ s.slState i = 6 → ∃ t, exec (.spineRetrain i) s = .next t ∧ t.slState i = 2 ∧ t.get (R.SL_STAT.ATTEMPT i) = 1 ∧ OnlyRegs s t ([R.SL_STAT.STATE i, R.SL_STAT.ATTEMPT i] ++ spineAfresh i))
  ∧ (∀ s (i : Fin 4), s.spineUp i = true → s.noRingYet → ∃ t, exec (.spineLaneLost i) s = .next t ∧ t.slState i = 2 ∧ t.get (R.SL_STAT.ATTEMPT i) = 1 ∧ (t.spl i).wasLost = true ∧ t.get (R.SL_COUNTS.LOSSES i) = min (2 ^ 16 - 1) (s.get (R.SL_COUNTS.LOSSES i) + 1) ∧ t.get (R.SL_DELAY.DELAY i) = 0xFFFFF)
  ∧ (∀ s (i : Fin 4) k, s.spineUp i = true → 16 < k → s.noRingYet → ∃ t, exec (.alignmentMarkerRx i k) s = .next t ∧ t.slState i = 2 ∧ t.get (R.SL_STAT.FAIL_STAGE i) = 7 ∧ (t.spl i).wasLost = true)
  ∧ (∀ s (i : Fin 4) k, k ≤ 16 → exec (.alignmentMarkerRx i k) s = .next s)
  ∧ (∀ s (n : Fin 68), n.val < 64 → s.inAttempt n = true → (s.lane n).sigSeen = true → s.get (R.LN_STAT.ATTEMPT n) < 16 → ∃ t, exec (.attemptSignalLost n) s = .next t ∧ t.laneState n = 5 ∧ t.get (R.LN_STAT.FAIL_STAGE n) = 7 ∧ OnlyRegs s t [R.LN_STAT.STATE n, R.LN_STAT.FAIL_STAGE n, R.LN_COUNTS.FAILED_ATTEMPTS n, R.LN_STAT.SIGNAL n, R.LN_STAT.CDR_LOCK n, R.LN_STAT.ALIGNED n] ∧ t = { s with regs := t.regs, cyc := t.cyc })
  ∧ (∀ s (n : Fin 68), 64 ≤ n.val → s.slAttempt (n.val - 64) = true → s.bit (R.SL_STAT.SIGNAL (n.val - 64)) = true → s.get (R.SL_STAT.ATTEMPT (n.val - 64)) < 16 → ∃ t, exec (.attemptSignalLost n) s = .next t ∧ t.slState (n.val - 64) = 5 ∧ t.get (R.SL_STAT.FAIL_STAGE (n.val - 64)) = 6 ∧ OnlyRegs s t ([R.SL_STAT.STATE (n.val - 64), R.SL_STAT.FAIL_STAGE (n.val - 64), R.SL_COUNTS.FAILED_ATTEMPTS (n.val - 64)] ++ spineAfresh (n.val - 64)))

/-- SPINE_TEST_START, SPINE_TEST_STOP, INJ_ONE, PRBS_LOCK, PRBS_LOSS, PRBS_BITS_LO_READ, LANE_CNT_CLR, CODE_ERROR: a spine lane under test is in TEST (R429); one bit is to be inverted while PRBS_GEN is set (R177); the checker of a lane locks after 64 bits that continue the sequence of R175, loses its lock at 64 errors among 1,024 bits, counts bits and errors
while locked, saturating, and a read of the low half latches the high half (R176, R541); CNT_CLR clears (R183, R432); a code error in UP is counted and reported (R184, R412). -/
def Obligations.TestsAndCountersOfAnyLane : Prop :=
  (∀ s (i : Fin 4) (v : Word), s.pw.state = .configure → s.slEn i = true → 2 ^ 28 ≤ v.toNat → s.noRingYet → ∃ t, exec (.spineTestStart i v) s = .next t ∧ t.slState i = 7 ∧ t.get (R.SL_TEST.PRBS_GEN i) = v.toNat / 2 ^ 31 ∧ t.get (R.SL_TEST.PRBS_CHK i) = v.toNat / 2 ^ 30 % 2 ∧ t.get (R.SL_TEST.PATTERN i) = v.toNat / 2 ^ 28 % 4 ∧ OnlyRegs s t ([R.SL_STAT.STATE i, R.SL_TEST.PRBS_GEN i, R.SL_TEST.PRBS_CHK i, R.SL_TEST.PATTERN i, R.SL_TEST.PRBS_LOCK i] ++ spineAfresh i))
  ∧ (∀ s (i : Fin 4), s.slState i = 7 → s.pw.state = .configure → s.slEn i = true → bitAt s.sec.badSpine i = false → s.bit R.CLK_STAT.LOCK_S = true → ∃ t, exec (.spineTestStop i) s = .next t ∧ t.slState i = 2 ∧ t.get (R.SL_STAT.ATTEMPT i) = 1 ∧ t.get (R.SL_TEST.PRBS_GEN i) = 0 ∧ t.get (R.SL_TEST.PRBS_CHK i) = 0 ∧ t.get (R.SL_TEST.PATTERN i) = 0 ∧ t.get (R.SL_TEST.PRBS_LOCK i) = 0)
  ∧ (∀ s (n : Fin 68), s.bit (testRegs n).gen = true → s.bit R.TH_STAT.SHEDDING = false → ∃ t, exec (.injOne n) s = .next t ∧ (t.prbsOf n).one = (s.prbsOf n).one + 1 ∧ t = { s with prbs := t.prbs })
  ∧ (∀ s (n : Fin 68) (sent : Nat) (l : List Nat) (k : Nat), s.checksRx n = true → s.bit (testRegs n).lock = false → (taps (s.get (testRegs n).pattern)).1 ≤ (s.prbsOf n).seeded → (s.prbsOf n).run + k = 64 → 0 < k → s.rxBits n l = follows (s.get (testRegs n).pattern) (s.prbsOf n).hist k → ∃ t, exec (.prbsLock ⟨n, sent, l⟩) s = .next t ∧ t.get (testRegs n).lock = 1 ∧ OnlyRegs s t [(testRegs n).lock] ∧ t = { s with regs := t.regs, prbs := t.prbs })
  ∧ (∀ s (n : Fin 68) (sent : Nat) (l : List Nat) (rest : List Bool), s.checksRx n = true → s.bit (testRegs n).lock = true → 63 ≤ ((s.prbsOf n).errs.filter (fun i => (s.prbsOf n).checked < i + 1024)).length → s.rxBits n l = (!nextBit (s.get (testRegs n).pattern) (s.prbsOf n).hist) :: rest → rest.length ≤ 1 → ∃ t, exec (.prbsLoss n sent l) s = .next t ∧ t.get (testRegs n).lock = 0 ∧ t.get (testRegs n).err = min (2 ^ 32 - 1) (s.get (testRegs n).err + 1) ∧ t.prbsBits n = min (2 ^ 48 - 1) (s.prbsBits n + 1))
  ∧ (∀ s (n : Fin 68) (sent : Nat) (l : List Nat) (k : Nat), s.checksRx n = true → s.bit (testRegs n).lock = true → (s.prbsOf n).errs.length < 64 → s.rxBits n l = follows (s.get (testRegs n).pattern) (s.prbsOf n).hist k → ∃ t, exec (.prbsBitsLoRead n false sent l) s = .next t ∧ t.prbsBits n = min (2 ^ 48 - 1) (s.prbsBits n + k) ∧ t.get (testRegs n).hi = t.prbsBits n / 2 ^ 32 ∧ t.get (testRegs n).err = s.get (testRegs n).err ∧ OnlyRegs s t [(testRegs n).lo, (testRegs n).hi] ∧ t = { s with regs := t.regs, cyc := t.cyc, prbs := t.prbs })
  ∧ (∀ s (n : Fin 68) (sent : Nat) (l : List Nat) (k : Nat), s.checksRx n = true → s.bit (testRegs n).lock = true → (s.prbsOf n).errs.length < 64 → s.rxBits n l = follows (s.get (testRegs n).pattern) (s.prbsOf n).hist k → ∃ t, exec (.prbsBitsLoRead n true sent l) s = .next t ∧ t.prbsBits n = min (2 ^ 48 - 1) (s.prbsBits n + k) ∧ (t.prbsOf n).hiHost = t.prbsBits n / 2 ^ 32 ∧ OnlyRegs s t [(testRegs n).lo] ∧ t = { s with regs := t.regs, cyc := t.cyc, prbs := t.prbs })
  ∧ (∀ s (n : Fin 68), n.val < 64 → ∃ t, exec (.laneCntClr n) s = .next t ∧ t.get (R.LN_CODEERR n) = s.counted (R.LN_CODEERR n) ∧ t.get (R.LN_COUNTS.LOSSES n) = s.counted (R.LN_COUNTS.LOSSES n) ∧ t.get (R.LN_COUNTS.FAILED_ATTEMPTS n) = s.counted (R.LN_COUNTS.FAILED_ATTEMPTS n) ∧ t.get (R.LN_PRBS_ERR n) = s.counted (R.LN_PRBS_ERR n) ∧ t.get (R.LN_PRBS_BITS_LO n) = s.counted (R.LN_PRBS_BITS_LO n) ∧ (t.prbsOf n).hi = 0 ∧ OnlyRegs s t [R.LN_CODEERR n, R.LN_COUNTS.LOSSES n, R.LN_COUNTS.FAILED_ATTEMPTS n, R.LN_PRBS_ERR n, R.LN_PRBS_BITS_LO n] ∧ t = { s with regs := t.regs, prbs := t.prbs })
  ∧ (∀ s (n : Fin 68), 64 ≤ n.val → ∃ t, exec (.laneCntClr n) s = .next t ∧ t.get (R.SL_COUNTS.LOSSES (n.val - 64)) = s.counted (R.SL_COUNTS.LOSSES (n.val - 64)) ∧ t.get (R.SL_COUNTS.FAILED_ATTEMPTS (n.val - 64)) = s.counted (R.SL_COUNTS.FAILED_ATTEMPTS (n.val - 64)) ∧ t.get (R.SL_PRBS_ERR (n.val - 64)) = s.counted (R.SL_PRBS_ERR (n.val - 64)) ∧ (t.prbsOf n).hi = 0 ∧ OnlyRegs s t [R.SL_COUNTS.LOSSES (n.val - 64), R.SL_COUNTS.FAILED_ATTEMPTS (n.val - 64), R.SL_PRBS_ERR (n.val - 64), R.SL_PRBS_BITS_LO (n.val - 64)] ∧ t = { s with regs := t.regs, prbs := t.prbs })
  ∧ (∀ s (n : Fin 64) (rd : Bool) (g : Nat) (k : Fin 10), s.up n = true → (s.lane n).codeErrFrame ≠ s.frame → ((k.val != (s.lane n).commaPlace && isComma g) || (s.readLane n rd [g]).any (fun c => c.isNone)) = true → exec (.codeError (.cell n rd g k)) s = .next ((raise (Src.LN_CODE_ERR n) (s.inc (R.LN_CODEERR n))).modLane n (fun l => { l with codeErrs := 1, codeErrFrame := s.frame })))
  ∧ (∀ s (n : Fin 64) (rd : Bool) (g : Nat) (k : Fin 10), k.val = (s.lane n).commaPlace → (s.readLane n rd [g]).all (fun c => c.isSome) = true → exec (.codeError (.cell n rd g k)) s = .next s)
  ∧ (∀ s (i : Fin 4) (prev scr : Nat) (l : List Nat), s.spineUp i = true → (s.spl i).codeErrFrame ≠ s.frame → (readBlock (s.bit (R.SL_STAT.PRECODE_RX i)) (s.bit (R.SL_STAT.RX_INV i)) prev scr l).isNone = true → exec (.codeError (.spine i prev scr l)) s = .next ((raise (Src.SL_CODE_ERR i) s).modSpl i (fun l => { l with codeErrs := 1, codeErrFrame := s.frame })))

/-- ENUMERATION_SEND, ENUMERATION_RX, RING_MAP_RX, QUEUED_MESSAGE_SEND, URGENT_NOTICE_SEND, URGENT_NOTICE_RX: the Root numbers and sends an enumeration on both links; a Member adds its position and sends it on, or back from the end of an open ring; the copy that comes round makes a complete, closed map, which
a Member takes and forwards (R423); a management message without a route is sent when it has one (R421). The payload layouts are the model's (log 47). The originator sends its notice as two equal blocks on every lane in UP and remembers it (R426, R412); a notice whose halves differ is reported; one that
is accepted for the first time is forwarded with one more hop, counted, and enters the collector; one that is held already is not reported again (R428). -/
def Obligations.RingMessagesAndNotices : Prop :=
  (∀ s, s.isRoot = true → s.pw.state = .configure → s.linkUp 0 = true → s.linkUp 1 = true → s.spine.enumOpen = false → ∃ t, exec .enumerationSend s = .next t ∧ t.spine.enumNum = (s.spine.enumNum + 1) % 256 ∧ t.spine.enumOpen = true ∧ t.spine.enumEast = none ∧ t.spine.enumWest = none ∧ t.spine.sent = ((s.transmit 0 (message 0x45 2 0 s.pos 0xFF (Tab.get 0 s.spine.seq 2) (enumPayload 0 false ((s.spine.enumNum + 1) % 256) []))).transmit 1 (message 0x45 2 0 s.pos 0xFF (Tab.get 0 s.spine.seq 2) (enumPayload 1 false ((s.spine.enumNum + 1) % 256) []))).spine.sent ∧ t.regs = s.regs)
  ∧ (∀ s (i : Fin 4) b, s.isRoot = false → s.spineUp i = true → msgGood 0x45 b = true → 2 ≤ msgLen b → bitAt (leAt (msgPayload b) 0 1) 1 = false → s.linkUp (onward i) = true → msgHops b < 63 → exec (.enumerationRx i b) s = .next (s.transmit (onward i) (message (msgType b) (msgChan b) (msgHops b + 1) (msgSrc b) (msgDest b) (msgSeq b) (msgPayload b ++ leBytes 1 s.pos))))
  ∧ (∀ s (i : Fin 4) b, s.isRoot = false → s.spineUp i = true → msgGood 0x45 b = true → 2 ≤ msgLen b → bitAt (leAt (msgPayload b) 0 1) 1 = false → s.linkUp (onward i) = false → exec (.enumerationRx i b) s = .next (s.transmit (i / 2) (message 0x45 2 (msgHops b + 1) (msgSrc b) 0 (msgSeq b) (enumPayload (leAt (msgPayload b) 0 1 % 2) true (leAt (msgPayload b) 1 1) ((msgPayload b ++ leBytes 1 s.pos).drop 2)))))
  ∧ (∀ s (i : Fin 4) b, s.isRoot = true → 2 ≤ i.val → s.spineUp i = true → msgGood 0x45 b = true → 2 ≤ msgLen b → leAt (msgPayload b) 0 1 = 0 → s.spine.enumOpen = true → leAt (msgPayload b) 1 1 = s.spine.enumNum → ∃ (t : State) (m : RingMap), exec (.enumerationRx i b) s = .next t ∧ m.present = presentOf (s.pos :: ((msgPayload b).drop 2).map BitVec.toNat) ∧ m.complete = true ∧ m.closed = true ∧ t.spine.map = some m ∧ t.spine.enumOpen = false)
  ∧ (∀ s (i : Fin 4) b, s.isRoot = false → s.spineUp i = true → msgGood 0x4D b = true → msgLen b = 19 → msgSrc b ≠ s.pos → s.spine.mapSeq ≠ some (msgSeq b) → bitAt (mapOf (msgPayload b)).dup s.pos = false → (mapOf (msgPayload b)).closed = true → s.linkUp (onward i) = true → msgHops b < 63 → ∃ t, exec (.ringMapRx i b) s = .next t ∧ t.spine.map = some (mapOf (msgPayload b)) ∧ t.spine.mapSeq = some (msgSeq b) ∧ t.spine.sent = s.sentWith (onward i) (message (msgType b) (msgChan b) (msgHops b + 1) (msgSrc b) (msgDest b) (msgSeq b) (msgPayload b)) ∧ t = { s with spine := t.spine })
  ∧ (∀ s (i : Fin 4) b, s.spineUp i = true → msgGood 0x4D b = true → msgLen b = 19 → msgSrc b = s.pos → exec (.ringMapRx i b) s = .next s)
  ∧ (∀ s, ∃ t, exec .queuedMessageSend s = .next t ∧ t.spine.waiting = s.spine.waiting.filter (fun m => (s.route m.1).isNone) ∧ t.spine.sent = ((s.spine.waiting.filter (fun m => (s.route m.1).isSome)).foldl (fun x m => x.transmit ((s.route m.1).getD 0) m.2) s).spine.sent ∧ t.regs = s.regs)
  ∧ (∀ s n, s.spine.notice = some n → ∃ t, exec .urgentNoticeSend s = .next t ∧ t.spine.notice = none ∧ t.spine.notices = ((n.origin, n.stamp, 3) :: s.spine.notices).take 8 ∧ t.spine.sent = (([0, 1, 2, 3].filter s.spineUp).foldl (fun x i => (x.transmit (i / 2) (noticeBlock n)).transmit (i / 2) (noticeBlock n)) s).spine.sent ∧ t.regs = s.regs)
  ∧ (∀ s (i : Fin 4) b, s.spineUp i = true → b.length = 14 → b.take 7 ≠ b.drop 7 → exec (.urgentNoticeRx i b) s = .next (raise Src.SP_NOTICE_BAD s))
  ∧ (∀ s (i : Fin 4) b o src st h, s.spineUp i = true → b.length = 14 → b.take 7 = b.drop 7 → leAt b 0 7 = 2 ^ 52 + 2 ^ 46 * o + 2 ^ 40 * h + 2 ^ 32 * src + st → o < 64 → h < 63 → src < 256 → st < 2 ^ 32 → o ≠ s.pos → s.spine.notices.find? (fun x => x.1 == o && x.2.1 == st) = none → exec (.urgentNoticeRx i b) s = .next (noticeReport ⟨o, src, st, h⟩ ((sendNotice (onward i) ⟨o, src, st, h + 1⟩ { s with spine := { s.spine with notices := ((o, st, 2 ^ onward i) :: s.spine.notices).take 8 } }).inc R.SP_COUNTS.NOTICES_RX)))
  ∧ (∀ s (i : Fin 4) b, s.spineUp i = true → b.length = 14 → b.take 7 = b.drop 7 → bits (leAt b 0 7) 55 52 = 1 → (s.spine.notices.find? (fun x => x.1 == bits (leAt b 0 7) 51 46 && x.2.1 == bits (leAt b 0 7) 31 0)).isSome = true → ∃ t, exec (.urgentNoticeRx i b) s = .next t ∧ t = { s with spine := t.spine })

/-! ### Recorder and life ledger, 18_recorder_ledger.md -/

/-- RECORD_WRITE_START, RECORD_WRITE_COMPLETE, REPEAT_FLUSH, PERIODIC_RECORDS, RECORDER_BOOT_SCAN, RECORD_SELECT: the oldest entry takes the slot after the newest of its region with MARK clear and the next SEQ, and its MARK is written last (R474, R479), unless a loss of CKREF or PLL-A abandons it (R64); pending repeats go to the newest record
(R482); the die histogram makes a record and starts again (R478); a scan of an empty recorder writes the Start record to slot 0 (R486); a record is selected by its sequence number, and one that is not held is refused (R485). -/
def Obligations.RecordsAreWritten : Prop :=
  (∀ s p r q, s.recd.writing = none → s.recd.scanned = true → s.abandoned = false → s.oldestQueue = some p → s.queue p = r :: q → s.get (pendField (faultRegion r)) = 0 → ∃ t, exec .recordWriteStart s = .next t ∧ t.recd.writing = some (s.nextSlot (faultRegion r), r) ∧ t.queue p = q ∧ t.get R.REC_SEQ = nextSeq (s.get R.REC_SEQ) ∧ t.slot (s.nextSlot (faultRegion r)) = { s.slot (s.nextSlot (faultRegion r)) with mark := false, seq := nextSeq (s.get R.REC_SEQ) } ∧ (∀ j, j ≠ s.nextSlot (faultRegion r) → t.slot j = s.slot j) ∧ OnlyRegs s t [R.REC_SEQ])
  ∧ (∀ s i r, s.recd.writing = some (i, r) → s.abandoned = false → i < 2 ^ (newestField (faultRegion r)).width → s.get (pendField (faultRegion r)) = 0 → ∃ t, exec .recordWriteComplete s = .next t ∧ t.recd.writing = none ∧ t.slot i = { mark := true, seq := (s.slot i).seq, r := some r } ∧ t.newest (faultRegion r) = i ∧ (∀ j, j ≠ i → t.slot j = s.slot j) ∧ OnlyRegs s t [newestField (faultRegion r)])
  ∧ (∀ s, s.abandoned = true → exec .recordWriteStart s = .next s ∧ exec .recordWriteComplete s = .next s)
  ∧ (∀ s r, s.get R.REC_PEND.PEND_G = 0 → s.get R.REC_PEND.PEND_F ≠ 0 → (s.slot (s.newest true)).mark = true → (s.slot (s.newest true)).r = some r → r.key = s.recd.pendKeyF → s.waits true s.recd.pendKeyF = false → r.rep + s.get R.REC_PEND.PEND_F ≤ 65535 → ∃ t, exec .repeatFlush s = .next t ∧ t.get R.REC_PEND.PEND_F = 0 ∧ (t.slot (s.newest true)).r = some { r with rep := r.rep + s.get R.REC_PEND.PEND_F, repTsc := s.recd.pendTscF % 2 ^ 48 } ∧ (t.slot (s.newest true)).seq = (s.slot (s.newest true)).seq ∧ (∀ j, j ≠ s.newest true → t.slot j = s.slot j) ∧ OnlyRegs s t [R.REC_PEND.PEND_F])
  ∧ (∀ s, s.get R.REC_CTRL.HIST_EN = 2 → (s.queue 2).length < 32 → ∃ t, exec .periodicRecords s = .next t ∧ t.queue 2 = s.queue 2 ++ [s.stamp { typ := 7, cls := 0, plane := 2, observed := true, payload := words4 s.recd.dieHist 16 }] ∧ t.recd.dieHist = [] ∧ t.regs = s.regs)
  ∧ (∀ s, s.pw.state = .boot → s.recd.scanned = false → s.mram.slots = [] → s.mram.copyA = [] → s.mram.copyB = [] → s.get R.REC_PEND.PEND_F = 0 → ∃ t r, exec .recorderBootScan s = .next t ∧ t.recd.scanned = true ∧ t.recd.writing = some (0, r) ∧ r.typ = 0xB ∧ r.tsc = s.ts.tsc ∧ t.get R.REC_SEQ = 1 ∧ t.get R.REC_FPOS.NEWEST = 0 ∧ t.get R.REC_GPOS.NEWEST = 1024 ∧ OnlyRegs s t [R.REC_SEQ, R.REC_FPOS.NEWEST, R.REC_GPOS.NEWEST])
  ∧ (∀ s v i, 0 < v → v < 2 ^ 32 → s.slotOfSeq v = some i → ∃ t, exec (.recordSelect v) s = .next t ∧ t.recd.selected = (s.slot i).image ∧ t = { s with recd := t.recd })
  ∧ (∀ s v, 0 < v → v < 2 ^ 32 → s.slotOfSeq v = none → exec (.recordSelect v) s = .next (raise Src.REC_SETTING_REFUSED s))

/-- R483 whole, with RECORD_DATA_LO_READ and RECORD_DATA_HI_READ: REC_RDATA_LO reads bits 31:0 of unit UNIT of slot SLOT, and the read latches bits 63:32 for its reader (R541); REC_RDATA_HI reads the latched bits, and the read adds 1 to UNIT, which wraps from 15 to 0. -/
def Obligations.RecordDataIsReadByUnits : Prop :=
  (∀ s, ∃ t, exec (.recordDataLoRead false) s = .next t ∧ t.get R.REC_RDATA_HI = s.recUnit (s.get R.REC_RADDR.SLOT) (s.get R.REC_RADDR.UNIT) / 2 ^ 32 ∧ OnlySets s t [R.REC_RDATA_HI])
  ∧ (∀ s, exec (.recordDataLoRead true) s = .next { s with recd := { s.recd with rdataHiHost := s.recUnit (s.get R.REC_RADDR.SLOT) (s.get R.REC_RADDR.UNIT) / 2 ^ 32 } })
  ∧ (∀ s h, ∃ t, exec (.recordDataHiRead h) s = .next t ∧ t.get R.REC_RADDR.UNIT = (s.get R.REC_RADDR.UNIT + 1) % 16 ∧ OnlySets s t [R.REC_RADDR.UNIT])
  ∧ (∀ (s : State) h, s.readWord h 0xF002C = s.recUnit (s.get R.REC_RADDR.SLOT) (s.get R.REC_RADDR.UNIT) % 2 ^ 32)
  ∧ (∀ s : State, s.readWord false 0xF0030 = s.get R.REC_RDATA_HI ∧ s.readWord true 0xF0030 = s.recd.rdataHiHost)

/-- LEDGER_SAMPLE, LEDGER_SECOND, LEDGER_SAVE, LEDGER_CHUNK_WRITE, HISTORY_IMPORT: the extremes of an admitted lane rise with its samples (R489); a second in use counts (R488); a save clears MARK in the older copy, writes ten chunks and MARK last (R480, R494);
an import fills the selected history slot (R496). -/
def Obligations.LedgerAndHistory : Prop :=
  (∀ s (n : Fin 64) l v x, s.admitted n = true → (s.led n).life = some l → s.fresh n = true → upVcap (s.link n).up = some v → upTemp0 (s.link n).up = some x → ∃ t l', exec (.ledgerSample n) s = .next t ∧ (t.led n).life = some l' ∧ l'.vcapHigh = max l.vcapHigh v ∧ l'.tempHigh = max l.tempHigh x ∧ l'.digest = l.digest ∧ (t.led n).iCount = 0 ∧ ∀ m, m ≠ n.val → t.led m = s.led m)
  ∧ (∀ s (n : Fin 64) l, s.admitted n = true → (s.led n).life = some l → (∀ m, m < 64 → m ≠ n.val → (s.led m).life = none) → s.get (R.BC_STAT.STATE n) = 3 → ∃ t l', exec .ledgerSecond s = .next t ∧ (t.led n).life = some l' ∧ l'.useSec = min 0xFFFFFFFF (l.useSec + 1) ∧ l'.lastOp = s.opsec ∧ l'.lastPwr = s.mram.pwrCycles)
  ∧ (∀ s (n : Fin 64) l, (s.led n).life = some l → (s.led n).dirty = true → s.saving = none → (Tab.get {} s.mram.copyA n).mark = false → ∃ t, exec (.ledgerSave n) s = .next t ∧ t.saving = some (n.val, 0, { l with seq := l.seq + 1 }) ∧ Tab.get {} t.mram.copyA n = { seq := l.seq + 1 } ∧ t.mram.copyB = s.mram.copyB ∧ t.get R.REC_STAT.SAVING = 1 ∧ OnlyRegs s t [R.REC_STAT.SAVING])
  ∧ (∀ s n k l, s.saving = some (n, k, l) → (s.led n).life.isSome = true → k + 1 < 10 → exec .ledgerChunkWrite s = .next { s with saving := some (n, k + 1, l) })
  ∧ (∀ s n l, s.saving = some (n, 9, l) → (s.led n).life.isSome = true → (Tab.get {} s.mram.copyA n).mark = false → (Tab.get {} s.mram.copyA n).seq = l.seq → ∃ t, exec .ledgerChunkWrite s = .next t ∧ t.saving = none ∧ Tab.get {} t.mram.copyA n = { mark := true, seq := l.seq, life := some l } ∧ t.mram.copyB = s.mram.copyB ∧ t.get R.REC_STAT.SAVING = 0 ∧ OnlyRegs s t [R.REC_STAT.SAVING])
  ∧ (∀ s b, s.pw.state = .configure → b.length = 1280 → leAt b 0 4 = 0xA5C35A3C → (∀ n, n < 64 → (s.led n).life = none) → s.histOf (lifeOf b).digest = none → ∃ t, exec (.historyImport b) s = .next t ∧ t.histAt (s.get (obj 0x4C00 0x13 16 .rw 0)) = some { lifeOf b with imported := true } ∧ t = { s with mram := t.mram })
  ∧ (∀ s b, s.pw.state = .configure → b.length = 1280 → leAt b 0 4 ≠ 0xA5C35A3C → exec (.historyImport b) s = .next (raise Src.REC_SETTING_REFUSED s))

/-! ### Fault collector, 16_fault_collector.md -/

/-- FAULT_REPORT, COALESCING_WINDOW_CLOSE, HELD_CLEAR, LOST_CLEAR, GROUP_FIRST_CAUSE_CLEAR: a report whose leaf was clear sets it and is taken, and one whose leaf is set is none (R434); a window that ends posts its count of consequences, if any (R443); a written 1 releases a held record, at the
Root with the error-reset message where none is left (R440, R544), but for one that a report of the same core cycle holds (R442); a report in the core cycle of the clear finds HELD and the record as they were, and is lost (R442); LOST clears with its counter (R441); the group first cause clears whole (R445). -/
def Obligations.ReportsWindowsAndRecords : Prop :=
  (∀ s b i n f, s.cored = true → leafFor ⟨b, i, n, true, false⟩ = some f → s.bit f = false → exec (.faultReport ⟨b, i, n, true, false⟩) s = .next (report [⟨b, i, n, true, false⟩] ((s.noteSet f).set f 1)))
  ∧ (∀ s b i n f, leafFor ⟨b, i, n, true, false⟩ = some f → s.bit f = true → f.key ∉ s.cyc.forced → ∃ t, exec (.faultReport ⟨b, i, n, true, false⟩) s = .next t ∧ t = { s with cyc := t.cyc })
  ∧ (∀ s b i n f, s.cored = true → leafFor ⟨b, i, n, true, false⟩ = some f → s.bit f = true → f.key ∈ s.cyc.forced → exec (.faultReport ⟨b, i, n, true, false⟩) s = .next (report [⟨b, i, n, true, false⟩] { s with cyc := { s.cyc with sets := f.key :: s.cyc.sets, forced := s.cyc.forced.filter (fun k => k != f.key) } }))
  ∧ (∀ s (r : ReportArg), s.cored = false → exec (.faultReport r) s = .next s)
  ∧ (∀ s (r : ReportArg), 0 < r.block → r.block ≤ 16 → r.src < 16 → s.cyc.released.contains r.block = true → s.joins r = false → s.classOf r.block r.src r.inst < 3 → s.winHolds (s.scope r) (s.classOf r.block r.src r.inst) = false → s.winHolds 8 (s.classOf r.block r.src r.inst) = false →
    (report [r] s).bit (R.FC_STAT.HELD (r.block - 1)) = true ∧ (report [r] s).heldSrc r.block = s.heldSrc r.block ∧ (report [r] s).get64 (R.FC_FIRST_TSC_LO (r.block - 1)) (R.FC_FIRST_TSC_HI (r.block - 1)) = s.get64 (R.FC_FIRST_TSC_LO (r.block - 1)) (R.FC_FIRST_TSC_HI (r.block - 1)) ∧ (report [r] s).bit (R.FC_LOST.LOST (r.block - 1)) = true ∧ (report [r] s).get (R.FC_LOSTCNT r.block) = min 255 (s.get (R.FC_LOSTCNT r.block) + 1))
  ∧ (∀ s (w : Fin 9), s.winOpen w = true → Tab.get 0 s.fc.winEnd w ≤ s.ts.tsc → s.get (R.FC_WIN.CONSEQ w) = 0 → ∃ t, exec (.coalescingWindowClose w) s = .next t ∧ t.winOpen w = false ∧ OnlySets s t [R.FC_WIN.OPEN w])
  ∧ (∀ s (w : Fin 9), s.winOpen w = true → Tab.get 0 s.fc.winEnd w ≤ s.ts.tsc → s.get (R.FC_WIN.CONSEQ w) ≠ 0 → exec (.coalescingWindowClose w) s = .next (postRec { typ := 2, cls := s.get (R.FC_WIN.CLASS w), plane := 2, observed := true, block := 14, inst := w, payload := leBytes 1 w ++ leBytes 1 (s.get (R.FC_WIN.CLASS w)) ++ leBytes 1 (s.get (R.FC_WIN.FIRST_BLOCK w) + 1) ++ leBytes 2 (s.get (R.FC_WIN.CONSEQ w)) } (s.set (R.FC_WIN.OPEN w) 0)))
  ∧ (∀ s (n : Fin 16), s.isRoot = false → s.bit (R.FC_STAT.HELD n) = true → s.cyc.held.contains (n.val + 1) = false → ∃ t, exec (.heldClear (2 ^ n.val)) s = .next t ∧ t.bit (R.FC_STAT.HELD n) = false ∧ t.cyc.released = (n.val + 1) :: s.cyc.released ∧ t = { s with regs := t.regs, cyc := t.cyc } ∧ OnlyRegs s t [R.FC_STAT.HELD n])
  ∧ (∀ s (n : Fin 16), s.cyc.held.contains (n.val + 1) = true → exec (.heldClear (2 ^ n.val)) s = .next s)
  ∧ (∀ s (n : Fin 16), s.isRoot = true → s.bit (R.FC_STAT.HELD n) = true → s.cyc.held.contains (n.val + 1) = false → (∀ m, m < 16 → m ≠ n.val → s.bit (R.FC_STAT.HELD m) = false) → s.net.emcy.length < 16 → ∃ t, exec (.heldClear (2 ^ n.val)) s = .next t ∧ t.bit (R.FC_STAT.HELD n) = false ∧ t.net.emcy = s.net.emcy ++ [⟨0, []⟩] ∧ OnlyRegs s t [R.FC_STAT.HELD n])
  ∧ (∀ s (n : Fin 16), (R.FC_LOST.LOST n).key ∉ s.cyc.sets → ∃ t, exec (.lostClear (2 ^ n.val)) s = .next t ∧ t.get (R.FC_LOST.LOST n) = 0 ∧ t.get (R.FC_LOSTCNT (n + 1)) = 0 ∧ OnlySets s t [R.FC_LOST.LOST n, R.FC_LOSTCNT (n + 1)])
  ∧ (∀ s, R.FC_GRP_INFO.VALID.key ∉ s.cyc.sets → ∃ t, exec .groupFirstCauseClear s = .next t ∧ t.get R.FC_GRP_INFO.VALID = 0 ∧ t.get R.FC_GRP_INFO.ORIGIN = 0 ∧ t.get R.FC_GRP_INFO.SOURCE = 0 ∧ t.get64 R.FC_GRP_T_LO R.FC_GRP_T_HI = 0 ∧ OnlySets s t [R.FC_GRP_INFO.VALID, R.FC_GRP_INFO.LOCAL, R.FC_GRP_INFO.ORIGIN, R.FC_GRP_INFO.SOURCE, R.FC_GRP_T_LO, R.FC_GRP_T_HI])

/-- NFAULT_DRIVE_WRITE, NFAULT_PULSE_END, AUTOMATIC_RECOVERY, RECOVERY_UNLATCH: firmware drives nFAULT at once, and releases it at once, or after the pulse where one runs (R449); an Amber record that has been quiet clears with its leaf and counts, a record that may not recover is left alone, and UNLATCH
clears the latches and the counts (R453, R454). -/
def Obligations.NfaultAndRecovery : Prop :=
  (∀ s, ∃ t, exec (.nfaultDriveWrite true) s = .next t ∧ t.get R.FC_NFAULT.DRIVE = 1 ∧ t.get R.FC_NFAULT.PENDING_REL = 0 ∧ OnlySets s t [R.FC_NFAULT.DRIVE, R.FC_NFAULT.PENDING_REL])
  ∧ (∀ s, s.cyc.black = false → s.bit R.FC_NFAULT.PULSE = true → ∃ t, exec (.nfaultDriveWrite false) s = .next t ∧ t.get R.FC_NFAULT.PENDING_REL = 1 ∧ OnlySets s t [R.FC_NFAULT.PENDING_REL])
  ∧ (∀ s, s.cyc.black = true → exec (.nfaultDriveWrite false) s = .next s)
  ∧ (∀ s, s.cyc.black = false → s.bit R.FC_NFAULT.PULSE = false → ∃ t, exec (.nfaultDriveWrite false) s = .next t ∧ t.get R.FC_NFAULT.DRIVE = 0 ∧ OnlySets s t [R.FC_NFAULT.DRIVE])
  ∧ (∀ s, s.bit R.FC_NFAULT.PULSE = true → s.bit R.FC_NFAULT.PENDING_REL = false → ∃ t, exec .nfaultPulseEnd s = .next t ∧ t.get R.FC_NFAULT.PULSE = 0 ∧ OnlySets s t [R.FC_NFAULT.PULSE])
  ∧ (∀ s, s.bit R.FC_NFAULT.PULSE = true → s.bit R.FC_NFAULT.PENDING_REL = true → ∃ t, exec .nfaultPulseEnd s = .next t ∧ t.get R.FC_NFAULT.PULSE = 0 ∧ t.get R.FC_NFAULT.PENDING_REL = 0 ∧ t.get R.FC_NFAULT.DRIVE = 0 ∧ OnlySets s t [R.FC_NFAULT.PULSE, R.FC_NFAULT.PENDING_REL, R.FC_NFAULT.DRIVE])
  ∧ (∀ s (b : Fin 16) f, s.isRoot = false → s.recovers (b.val + 1) = true → s.get (R.FC_FIRST.CLASS b) = 1 → leafOf (s.heldSrc (b.val + 1)) = some f → f.key ∉ s.cyc.sets → s.cyc.held.contains (b.val + 1) = false → (s.recoveries 1).length + 1 < s.get R.FC_RECOV.K → ∃ t, exec (.automaticRecovery b) s = .next t ∧ t.bit (R.FC_STAT.HELD b) = false ∧ t.get f = 0 ∧ Tab.get [] t.fc.recovered 1 = (s.ts.tsc :: s.recoveries 1).take 15 ∧ OnlyRegs s t [R.FC_STAT.HELD b, f])
  ∧ (∀ s (b : Fin 16), s.recovers (b.val + 1) = false → exec (.automaticRecovery b) s = .next s)
  ∧ (∀ s, ∃ t, exec .recoveryUnlatch s = .next t ∧ t.get R.FC_RCNT.LATCH = 0 ∧ t.fc.recovered = [] ∧ OnlyRegs s t [R.FC_RCNT.LATCH])

/-- FORCE_REPORT, CHECK_BIT_INJECTION_ARM, ECC_ERROR, INJECTION_MISS: a forced report is injected-only and sets its leaf, and Slate refuses it (R450); a check-bit injection of one or two bits arms, a wider one is refused; the read of the injected word ends it with an injected report, an error in any other
word is observed, and a miss is reported (R451). -/
def Obligations.InjectedFaults : Prop :=
  (∀ s (v : Word) f, s.cored = true → s.pw.state ≠ .slate → (leafOf ⟨bits v.toNat 26 23 + 1, bits v.toNat 22 19, 0⟩).isSome = true → leafFor ⟨bits v.toNat 26 23 + 1, bits v.toNat 22 19, bits v.toNat 18 12, false, true⟩ = some f → exec (.forceReport v) s = .next (report [⟨bits v.toNat 26 23 + 1, bits v.toNat 22 19, bits v.toNat 18 12, false, true⟩] (if s.bit f then s else (s.set f 1).modCyc (fun c => { c with forced := f.key :: c.forced }))))
  ∧ (∀ s (v : Word), s.pw.state = .slate → exec (.forceReport v) s = .next (raise Src.FC_SETTING_REFUSED s))
  ∧ (∀ s (v : Word), bits v.toNat 28 26 ≤ 4 → bitAt v.toNat 31 = true → popCount 7 v.toNat = 1 ∨ popCount 7 v.toNat = 2 → ∃ t, exec (.checkBitInjectionArm v) s = .next t ∧ t.get R.FC_CBI.MEM = bits v.toNat 28 26 ∧ t.get R.FC_CBI.MASK = v.toNat % 128 ∧ t.get R.FC_CBI.ARMED = 1 ∧ t.get R.FC_CBI.DONE = 0 ∧ OnlyRegs s t [R.FC_CBI.MEM, R.FC_CBI.MASK, R.FC_CBI.ARMED, R.FC_CBI.DONE])
  ∧ (∀ s (v : Word), bitAt v.toNat 31 = true → 2 < popCount 7 v.toNat → exec (.checkBitInjectionArm v) s = .next (raise Src.FC_SETTING_REFUSED s))
  ∧ (∀ s (m : Fin 5) a u (y : BitVec 7), s.cored = true → s.bit R.FC_CBI.ARMED = true → s.fc.cbiStored = true → s.get R.FC_CBI.MEM = m.val → s.get R.FC_CBI_ADDR = a → y.toNat = s.get R.FC_CBI.MASK → exec (.eccError m a u y) s = .next (faultReport ⟨14, if popCount 7 y.toNat = 2 then 5 else 4, m, false, true⟩ (((s.set R.FC_CBI.ARMED 0).modFc (fun f => { f with cbiStored := false })).set R.FC_CBI.DONE 1)))
  ∧ (∀ s (m : Fin 5) a u y, s.cored = true → s.bit R.FC_CBI.ARMED = false → exec (.eccError m a u y) s = .next (faultReport ⟨14, if u then 5 else 4, m, true, false⟩ s))
  ∧ (∀ s, s.bit R.FC_CBI.ARMED = true → s.fc.cbiStored = true → exec .injectionMiss s = .next (raise Src.FC_INJ_MISS ((s.set R.FC_CBI.ARMED 0).modFc (fun f => { f with cbiStored := false }))))

/-! ### Security and self-repair, 19_security_repair.md -/

/-- BIST_COMPLETE, REPAIR_APPLIED, FIRMWARE_VERIFIED: self-test ends with its findings (R501); the repair map in use is the union of the stored map, the findings and the marks (R503, R504); the bank of the boot control record starts where its image passes the check, and a bank that fails raises its
fault (R513, R510). -/
def Obligations.BootStages : Prop :=
  (∀ s f, s.pw.state = .boot → s.pw.stage = 2 → exec (.bistComplete f) s = .next { s with sec := { s.sec with found := some f, badSpine := f.spine.toNat }, pw := { s.pw with stage := 3 } })
  ∧ (∀ s f, s.pw.state = .boot → s.pw.stage = 3 → s.sec.found = some f → ∃ t, exec .repairApplied s = .next t ∧ t.sec.map = merge f s.mram.badTiles s.mram.storedMap ∧ t.sec.found = none ∧ t.mram.badTiles = 0 ∧ t.eng.badUsed = t.sec.map.tiles ∧ t.get R.SEC_REPAIR.TILES_BAD = popCount 36 t.sec.map.tiles ∧ t.pw.stage = 4)
  ∧ (∀ s rom, s.pw.state = .boot → s.pw.stage = 4 → s.pw.romOnly = false → s.sec.tried = 0 → s.mram.trial = false → Tab.find? s.sec.banks s.mram.bootSel = none → bitAt s.mram.fwInvalid s.mram.bootSel = false → s.mram.bootSel ≤ 1 → ∃ t, exec (.firmwareVerified rom) s = .next t ∧ (s.fwCode rom = 0 → t.sec.firmware = rom ∧ t.get R.SEC_BOOT.BANK = s.mram.bootSel ∧ t.pw.fwRuns = true ∧ t.pw.stage = 5 ∧ t.sec.tried = 0) ∧ (s.fwCode rom ≠ 0 → t.pw = s.pw ∧ t.sec = { s.sec with tried := s.mram.bootSel + 1 }) ∧ (s.fwCode rom = 3 → t = (raise Src.SEC_AUTH_FAIL s).modSec (fun x => { x with tried := s.mram.bootSel + 1 })))

/-- AUTHENTICATED_CLEAR, ENROL_OWNER_KEY, REVOKE_OWNER_KEY, MAKER_KEY_LIST, DEBUG_UNLOCK, TOKEN_CHECK_DONE, AUTH_CLEAR_RESET, DEBUG_LEVEL_ZERO: a token waits for its check, and one of the same command gets code 0x07 meanwhile (R510, R511); the check gives TOKEN_RESULT its code, and an accepted token
enrols, revokes, or opens debug (R507, R509, R516, R521); an accepted clear asks for the reset 0x0F (R511, R81); debug closes (R522). -/
def Obligations.SignedTokens : Prop :=
  (∀ s b, s.cored = true → s.sec.tokens = [] → ∃ t, exec (.authenticatedClear b) s = .next t ∧ t.sec.tokens = [⟨1, b, none⟩] ∧ s.asksEngine t .token ∧ t = { s with sec := t.sec })
  ∧ (∀ s b, s.pw.state = .configure → s.sec.tokens = [] → ∃ t, exec (.enrolOwnerKey b) s = .next t ∧ t.sec.tokens = [⟨2, b, none⟩] ∧ s.asksEngine t .token ∧ t = { s with sec := t.sec })
  ∧ (∀ s b, s.pw.state = .configure → s.sec.tokens = [] → ∃ t, exec (.revokeOwnerKey b) s = .next t ∧ t.sec.tokens = [⟨3, b, none⟩] ∧ s.asksEngine t .token ∧ t = { s with sec := t.sec })
  ∧ (∀ s b, s.pw.state = .configure → s.sec.tokens = [] → ∃ t, exec (.makerKeyList b) s = .next t ∧ t.sec.tokens = [⟨4, b, none⟩] ∧ s.asksEngine t .token ∧ t = { s with sec := t.sec })
  ∧ (∀ s b, s.cored = true → s.sec.tokens = [] → ∃ t, exec (.debugUnlock b) s = .next t ∧ t.sec.tokens = [⟨5, b, none⟩] ∧ s.asksEngine t .token ∧ t = { s with sec := t.sec })
  ∧ (∀ s b c, s.cored = true → s.sec.tokens = [⟨1, c, none⟩] → tokCmd c = tokCmd b → tokHeaderOk [1] b = true → exec (.authenticatedClear b) s = .next (raise Src.SEC_SETTING_REFUSED (s.set R.SEC_BOOT.TOKEN_RESULT 7)))
  ∧ (∀ s b rest, s.sec.engine = some .token → s.sec.tokens = ⟨2, b, none⟩ :: rest → tokCmd b = 2 → ∃ t, exec .tokenCheckDone s = .next t ∧ t.get R.SEC_BOOT.TOKEN_RESULT = s.tokenCode [2, 3] b ∧ t.sec.tokens = rest ∧ (s.tokenCode [2, 3] b ≠ 0 → t.sec.slotState = s.sec.slotState) ∧ (s.tokenCode [2, 3] b = 0 → t.slotState (leAt (tokPayload b) 0 1) = 1 ∧ Tab.get 0 t.sec.slotDigest (leAt (tokPayload b) 0 1) = BitVec.ofNat 512 (leAt (tokPayload b) 4 64) ∧ (∀ k, k ≠ leAt (tokPayload b) 0 1 → t.slotState k = s.slotState k) ∧ OnlyRegs s t [R.SEC_BOOT.TOKEN_RESULT]))
  ∧ (∀ s b rest, s.sec.engine = some .token → s.sec.tokens = ⟨3, b, none⟩ :: rest → tokCmd b = 3 → ∃ t, exec .tokenCheckDone s = .next t ∧ t.get R.SEC_BOOT.TOKEN_RESULT = s.tokenCode [2, 3] b ∧ t.sec.tokens = rest ∧ (s.tokenCode [2, 3] b = 0 → t.slotState (leAt (tokPayload b) 0 1) = 3 ∧ OnlyRegs s t [R.SEC_BOOT.TOKEN_RESULT]))
  ∧ (∀ s b rest, s.sec.engine = some .token → s.sec.tokens = ⟨1, b, none⟩ :: rest → tokCmd b = 1 → ∃ t, exec .tokenCheckDone s = .next t ∧ t.get R.SEC_BOOT.TOKEN_RESULT = s.tokenCode [1] b ∧ t.sec.slotState = s.sec.slotState ∧ (s.tokenCode [1] b = 0 → t.sec.clearing = true ∧ OnlyRegs s t [R.SEC_BOOT.TOKEN_RESULT]) ∧ (s.tokenCode [1] b ≠ 0 → t.sec.clearing = s.sec.clearing))
  ∧ (∀ s, s.sec.engine ≠ some .token → exec .tokenCheckDone s = .next s)
  ∧ (∀ s, s.sec.clearing = true → s.pw.state = .run → s.noReset = true → ∃ t, exec .authClearReset s = .next t ∧ t.pw.cause = some ⟨0xF, s.ts.tsc, s.tscValid 0xF, 0, s.cmCycle⟩ ∧ t.pw.state = .run ∧ t.regs = s.regs)
  ∧ (∀ s, s.sec.clearing = true → s.pw.state = .slate → s.noReset = true → s.pw.pgoodLoss = false → s.pw.ejecting = false → ∃ t, exec .authClearReset s = .next t ∧ t.pw.state = .coldHold ∧ t.get R.RST_CAUSE.CAUSE = 0xF ∧ t.get R.START_STAT.SLATE = 0 ∧ t.get R.START_STAT.FAILED_CONSEC = 0)
  ∧ (∀ s, ∃ t, exec .debugLevelZero s = .next t ∧ t.get R.SEC_STAT.DEBUG = 0 ∧ OnlySets s t [R.SEC_STAT.DEBUG])

/-- FIRMWARE_IMAGE_WRITE, FIRMWARE_CHECK_DONE, TRY_NEW_FIRMWARE, ADVANCE_COUNTER, COUNTER_PROGRAMMED, ATTESTATION_NONCE, ATTESTATION_REPORT_DONE, TEST_PORT_INSTRUCTION: an image goes to the bank that does not run and is checked there (R514); the trial is set only where that check passed (R514); a counter takes the
version of what runs and never falls (R515); a nonce gives a signed report (R519). -/
def Obligations.FirmwareCountersAndReports : Prop :=
  (∀ s b, s.pw.state = .configure → ∃ t, exec (.firmwareImageWrite b) s = .next t ∧ Tab.get [] t.sec.banks (1 - s.get R.SEC_BOOT.BANK) = b ∧ t.sec.checking = true ∧ (s.sec.checking = false → s.asksEngine t .firmware) ∧ t = { s with sec := t.sec })
  ∧ (∀ s c, s.sec.checking = true → s.sec.engine = some .firmware → s.sec.checkFor = none → c = s.fwCode (Tab.get [] s.sec.banks (1 - s.get R.SEC_BOOT.BANK)) → ∃ t, exec .firmwareCheckDone s = .next t ∧ t.get R.SEC_BOOT.FW_RESULT = c ∧ bitAt t.mram.fwInvalid (1 - s.get R.SEC_BOOT.BANK) = decide (c ≠ 0) ∧ t.sec.checking = false ∧ (c = 0 → OnlyRegs s t [R.SEC_BOOT.FW_RESULT]))
  ∧ (∀ s, s.get R.SEC_BOOT.FW_RESULT = 0 → exec (.tryNewFirmware 1) s = .next { s with mram := { s.mram with trial := true, tried := false } })
  ∧ (∀ s, s.get R.SEC_BOOT.FW_RESULT ≠ 0 → exec (.tryNewFirmware 1) s = .next (raise Src.SEC_SETTING_REFUSED s))
  ∧ (∀ s i v, i ≤ 63 → s.versionOf i = some v → s.bit R.START_STAT.PENDING = false → s.mram.trial = false → exec (.advanceCounter i) s = .next { s with sec := { s.sec with counting := s.sec.counting ++ [(i, v)] } })
  ∧ (∀ s i, i ≤ 63 → s.versionOf i = none → exec (.advanceCounter i) s = .next (raise Src.SEC_SETTING_REFUSED s))
  ∧ (∀ s i v rest, s.sec.counting = (i, v) :: rest → ∃ t, exec .counterProgrammed s = .next t ∧ Tab.get 0 t.sec.counters i = max v (Tab.get 0 s.sec.counters i) ∧ (∀ k, k ≠ i → Tab.get 0 t.sec.counters k = Tab.get 0 s.sec.counters k) ∧ t.sec.counting = rest ∧ t = { s with sec := t.sec })
  ∧ (∀ s b, b.length = 32 → ∃ t, exec (.attestationNonce b) s = .next t ∧ t.sec.nonce = some b ∧ t.sec.report = [] ∧ (s.sec.nonce.isSome = false → s.asksEngine t .report) ∧ t = { s with sec := t.sec })
  ∧ (∀ s n, s.sec.engine = some .report → s.sec.nonce = some n → ∃ t sig, exec .attestationReportDone s = .next t ∧ t.sec.report = s.reportBody n ++ sig ∧ sig.length = 4627 ∧ t.sec.nonce = none ∧ t.regs = s.regs)
  ∧ (∀ s i, exec (.testPortInstruction i) s = .next { s with pw := { s.pw with tap := some i } })

/-! ### Register words and the interrupt summary, 00_scope.md and 20_object_dictionary.md -/

/-- REGISTER_WRITE: an RW field takes what is written and no other changes (R12); an RWC field keeps its value outside Configure, and takes a value in its range in Configure, where one out of range is refused (R12, R14, R16, R456); a W1C bit clears where 1 is written; a host write to the words kept for
firmware has no effect, and the aperture is not offered in Slate (R540). -/
def Obligations.RegisterWordsAreWritten : Prop :=
  (∀ s h (v : Word), s.cored = true → (h = true → s.pw.state ≠ .slate) → ∃ t, exec (.registerWrite h 0xE0024 v) s = .next t ∧ t.get R.FC_CBI_ADDR = v.toNat % 2 ^ 17 ∧ OnlySets s t [R.FC_CBI_ADDR])
  ∧ (∀ s h (v : Word), s.cored = true → (h = true → s.pw.state ≠ .slate) → ∃ t, exec (.registerWrite h 8 v) s = .next t ∧ t.get R.IRQ_EN.EN = v.toNat % 65536 ∧ OnlySets s t [R.IRQ_EN.EN])
  ∧ (∀ s h (v : Word), s.pw.state ≠ .configure → exec (.registerWrite h 0xE0000 v) s = .next s)
  ∧ (∀ s h (v : Word), s.pw.state = .configure → 5 ≤ v.toNat % 512 → v.toNat % 512 ≤ 500 → ∃ t, exec (.registerWrite h 0xE0000 v) s = .next t ∧ t.get R.FC_CTRL.COAL_WIN = v.toNat % 512 ∧ t.get R.FC_CTRL.GREY_IRQ = v.toNat / 2 ^ 31 ∧ OnlySets s t [R.FC_CTRL.COAL_WIN, R.FC_CTRL.GREY_IRQ, R.FC_CTRL.INJ_ACT, R.FC_CTRL.SAFE_BYPASS])
  ∧ (∀ s h (v : Word), s.pw.state = .configure → (v.toNat % 512 < 5 ∨ 500 < v.toNat % 512) → exec (.registerWrite h 0xE0000 v) s = .next (raise Src.FC_SETTING_REFUSED s))
  ∧ (∀ s h, s.cored = true → (h = true → s.pw.state ≠ .slate) → R.FC_CAUSE.ECC_CORR.key ∉ s.cyc.sets → ∃ t, exec (.registerWrite h 0xE000C 0x10) s = .next t ∧ t.get R.FC_CAUSE.ECC_CORR = 0 ∧ OnlySets s t [R.FC_CAUSE.ECC_CORR])
  ∧ (∀ s a (v : Word), 0x100F00 ≤ a → a ≤ 0x100FFF → exec (.registerWrite true a v) s = .next s)
  ∧ (∀ s a (v : Word), s.pw.state = .slate → exec (.registerWrite true a v) s = .next s)
  ∧ (∀ s h a (v : Word), s.cored = false → exec (.registerWrite h a v) s = .next s)
  ∧ (∀ s h (v : Word), s.pw.state = .boot → bitAt v.toNat 0 = true → exec (.registerWrite h 0x100F14 v) s = .next (if h then s else { s with pw := { s.pw with selfTestDone := true } }))

/-- Bit n − 1 of IRQ_PEND is 1 exactly while a leaf of subsystem n is set whose source counts: its class is Amber or worse, or Grey sources count too (R542, R543). -/
def Obligations.IrqPendFollowsTheLeaves : Prop :=
  ∀ (s : State) (n : Nat), n < 16 → (bitAt s.irqPend n = true ↔ ∃ i k f, i < 16 ∧ k < 128 ∧ leafOf ⟨n + 1, i, k⟩ = some f ∧ s.bit f = true ∧ (1 ≤ s.get (R.FC_SEV (n + 1) i) ∨ s.bit R.FC_CTRL.GREY_IRQ = true))

/-! ### The field-network node and the device states, 20_object_dictionary.md -/

/-- NMT_START, NMT_STOP, NMT_ENTER_PRE_OPERATIONAL, NMT_RESET_NODE, NMT_RESET_COMMUNICATION, RUN_REQUEST_WRITE, ENTER_RUN, CONFIGURE_REACHED: the NMT commands move the Root between Configure, Armed, Safe and the reset 0x0B (R531); Run is entered from Armed with the run request and no blocker, at a position that
is no duplicate, and is left where the request clears (R532, R423); Boot ends in Configure, and a start whose self-test is complete succeeds there (R500, R71). -/
def Obligations.DeviceStatesFollowCommands : Prop :=
  (∀ s, s.onBus = true → s.pw.state = .configure → s.startBarred = false → s.dx.alone < 64 → s.dx.hbRun < 16 → ∃ t, exec .nmtStart s = .next t ∧ t.pw.state = .armed)
  ∧ (∀ s, s.onBus = true → s.pw.state = .configure → s.startBarred = true → exec .nmtStart s = .next (raise Src.SEC_SETTING_REFUSED s))
  ∧ (∀ s, s.onBus = true → s.pw.state = .armed → ∃ t, exec .nmtStop s = .next t ∧ t.pw.state = .safe ∧ t.get O.RUN_REQUEST = 0)
  ∧ (∀ s, s.onBus = true → s.pw.state = .armed → ∃ t, exec .nmtEnterPreOperational s = .next t ∧ t.pw.state = .configure ∧ t.get O.RUN_REQUEST = 0)
  ∧ (∀ s, s.onBus = true → s.pw.state = .armed → s.noReset = true → ∃ t, exec .nmtResetNode s = .next t ∧ t.pw.cause = some ⟨0xB, s.ts.tsc, s.tscValid 0xB, 0, s.cmCycle⟩ ∧ t.pw.state = .armed ∧ t.regs = s.regs)
  ∧ (∀ s, s.onBus = true → s.pw.state = .run → exec .nmtResetNode s = .next (raise Src.FN_NMT_REFUSED s))
  ∧ (∀ s, s.onBus = true → s.pw.state = .run → s.store.copies = [] → ∃ t, exec .nmtResetCommunication s = .next t ∧ t.get R.FN_COUNTS.TEC = 0 ∧ t.get R.FN_COUNTS.REC = 0 ∧ t.get R.FN_STAT.BUS = 0 ∧ t.net.errors = [] ∧ t.get O.HB_PRODUCER = 100 ∧ t.pw = s.pw)
  ∧ (∀ s v, s.served = true → s.pw.state ≠ .run → ∃ t, exec (.runRequestWrite v) s = .next t ∧ t.bit O.RUN_REQUEST = v ∧ OnlySets s t [O.RUN_REQUEST])
  ∧ (∀ s, s.pw.state = .run → s.dx.alone < 64 → s.dx.hbRun < 16 → ∃ t, exec (.runRequestWrite false) s = .next t ∧ t.pw.state = .armed ∧ t.get O.RUN_REQUEST = 0)
  ∧ (∀ s, s.pw.state = .armed → s.bit O.RUN_REQUEST = true → s.runBlockers = 0 → s.duplicated = false → exec .enterRun s = .next (startStrings (phasorStart { s with pw := { s.pw with state := .run } })))
  ∧ (∀ s, s.runBlockers ≠ 0 → exec .enterRun s = .next s)
  ∧ (∀ s, s.pw.state = .boot → s.pw.fwRuns = true → s.pw.slateStart = false → s.recd.scanned = true → s.store.copies = [] → s.sec.images = [] → ∃ t, exec .configureReached s = .next t ∧ t.pw.state = .configure ∧ t.get O.RUN_REQUEST = 0 ∧ (s.pw.selfTestDone = true → t.get R.START_STAT.PENDING = 0 ∧ t.get R.START_STAT.FAILED_CONSEC = 0 ∧ t.pw.stage = 7))
  ∧ (∀ s, s.duplicated = true → exec .enterRun s = .next s)

/-- USDO_REQUEST, STORE_PARAMETERS, RESTORE_DEFAULTS, ERROR_FIELD_CLEAR: the Root serves its own dictionary and answers with the data or the abort code (R535, R536); the configuration is stored in the older copy and erased by their signatures (R537); the error field clears (R530). -/
def Obligations.DictionaryIsServed : Prop :=
  (∀ s c, s.onBus = true → s.served = true → s.clients.contains c = true → exec (.usdoRequest ⟨c, s.get O.PHYS_NET, 1 + 64 * s.grp, 0x1018, 1, none⟩) s = .next { s with net := { s.net with sent := s.net.sent ++ [.answer c 0 (leBytes 4 0x0D5A)] } })
  ∧ (∀ s c, s.onBus = true → s.served = true → s.clients.contains c = true → exec (.usdoRequest ⟨c, s.get O.PHYS_NET, 1 + 64 * s.grp, 0x1002, 0, none⟩) s = .next { s with net := { s.net with sent := s.net.sent ++ [.answer c 0x06020000 []] } })
  ∧ (∀ s c, s.onBus = true → s.served = true → s.clients.contains c = true → exec (.usdoRequest ⟨c, s.get O.PHYS_NET, 1 + 64 * s.grp, 0x1018, 9, none⟩) s = .next { s with net := { s.net with sent := s.net.sent ++ [.answer c 0x06090011 []] } })
  ∧ (∀ s c b, s.onBus = true → s.served = true → s.clients.contains c = true → exec (.usdoRequest ⟨c, s.get O.PHYS_NET, 1 + 64 * s.grp, 0x1018, 1, some b⟩) s = .next { s with net := { s.net with sent := s.net.sent ++ [.answer c 0x06010002 []] } })
  ∧ (∀ s c, s.onBus = true → s.served = true → s.clients.contains c = false → 4 ≤ s.clients.length → exec (.usdoRequest ⟨c, s.get O.PHYS_NET, 1, 0x1000, 0, none⟩) s = .next (canSend (.answer c 0x08000020 []) (raise Src.FN_SESSION_REFUSED s)))
  ∧ (∀ s, s.pw.state = .configure → ∃ t, exec (.storeParameters 0x65766173) s = .next t ∧ Tab.get [] t.store.copies t.store.newer = s.savedConfig ∧ t = { s with store := t.store })
  ∧ (∀ s v, v ≠ 0x65766173 → exec (.storeParameters v) s = .next s)
  ∧ (∀ s, s.pw.state = .configure → exec (.restoreDefaults 0x64616F6C) s = .next { s with store := {} })
  ∧ (∀ s, s.pw.state = .configure → exec (.errorFieldClear 0) s = .next { s with net := { s.net with errors := [] } })

/-- SYNC_RX, RPDO_RX, TPDO_EVENT_TIMER, NMT_HEARTBEAT_SEND, HB_LOST, CONSUMER_HEARTBEAT_RX, EMCY_SEND, EMCY_SENT, BUS_OFF, BUS_OFF_RECOVERY, ERROR_PASSIVE: PDOs are exchanged while the Root is operational (R529); a synchronous RPDO waits for SYNC, and a SYNC counts for a TPDO; heartbeats carry the NMT
state, and a consumed node that falls silent is reported once (R530); the oldest emergency message goes out and leaves the queue when its frame is acknowledged (R544); bus-off, its recovery and error passive move the controller's state and counters (R526, R528, R545). -/
def Obligations.NodeTraffic : Prop :=
  (∀ s, s.operational = true → s.onBus = true → (∀ j, j < 4 → Tab.get none s.net.rpdo j = none) → s.get (O.TPDO_TYPE 0) = 3 → Tab.get 0 s.net.syncs 0 = 0 → s.get (O.TPDO_TYPE 1) = 255 → s.get (O.TPDO_TYPE 2) = 255 → s.get (O.TPDO_TYPE 3) = 255 → ∃ t, exec .syncRx s = .next t ∧ Tab.get 0 t.net.syncs 0 = 1 ∧ t = { s with net := t.net })
  ∧ (∀ s (i : Fin 4) b, s.operational = true → s.onBus = true → validCob (s.get (O.RPDO_COB i)) = true → s.rpdoMap i ≠ [] → ((s.rpdoMap i).map (fun e => e.2.2)).sum ≤ b.length → s.get (O.RPDO_TYPE i) ≤ 240 → ∃ t, exec (.rpdoRx i b) s = .next t ∧ Tab.get none t.net.rpdo i = some b ∧ t = { s with net := t.net })
  ∧ (∀ s (i : Fin 4) b, s.operational = false → exec (.rpdoRx i b) s = .next s)
  ∧ (∀ s (i : Fin 4), 254 ≤ s.get (O.TPDO_TYPE i) → s.get (O.TPDO_TIME i) ≠ 0 → s.operational = true → s.canHeld = false → validCob (s.get (O.TPDO_COB i)) = true → s.tpdoMap i = [(0x1001, 0, 1)] → exec (.tpdoEventTimer i) s = .next { s with net := { s.net with sent := s.net.sent ++ [.tpdo i (leBytes 1 s.errorReg)] } })
  ∧ (∀ s, s.isRoot = true → s.canHeld = false → s.served = true → s.get O.HB_PRODUCER ≠ 0 → exec .nmtHeartbeatSend s = .next { s with net := { s.net with sent := s.net.sent ++ [.heartbeat s.nmtState] } })
  ∧ (∀ s (n : Fin 128) i, s.consumer n = some i → bitAt s.net.monitored i = true → exec (.hbLost n) s = .next (raise (Src.FN_HB_LOST n) { s with net := { s.net with monitored := setBitAt s.net.monitored i false } }))
  ∧ (∀ s (n : Fin 128) st i, s.consumer n = some i → s.onBus = true → s.served = true → exec (.consumerHeartbeatRx n st) s = .next { s with net := { s.net with monitored := setBitAt s.net.monitored i true } })
  ∧ (∀ s e l, s.net.emcy = e :: l → s.net.emcySending = false → s.onBus = true → exec .emcySend s = .next { s with net := { s.net with emcySending := true, sent := s.net.sent ++ [.emcy e] } })
  ∧ (∀ s e l, s.net.emcy = e :: l → s.net.emcySending = true → exec .emcySent s = .next { s with net := { s.net with emcySending := false, emcy := l } })
  ∧ (∀ s, s.onBus = true → s.cored = true → exec .busOff s = .next (raise Src.FN_BUS_OFF { ((s.set R.FN_STAT.BUS 2).set R.FN_COUNTS.TEC 255).inc R.FN_COUNTS.BUS_OFFS with net := { s.net with emcySending := false } }))
  ∧ (∀ s, s.isRoot = true → s.canHeld = false → s.get R.FN_STAT.BUS = 2 → ∃ t, exec .busOffRecovery s = .next t ∧ t.get R.FN_STAT.BUS = 0 ∧ t.get R.FN_COUNTS.TEC = 0 ∧ t.get R.FN_COUNTS.REC = 0 ∧ t = { s with regs := t.regs, net := { s.net with emcySending := false } } ∧ OnlyRegs s t [R.FN_STAT.BUS, R.FN_COUNTS.TEC, R.FN_COUNTS.REC])
  ∧ (∀ s tec rcv, s.onBus = true → s.cored = true → s.get R.FN_STAT.BUS = 0 → 128 ≤ tec → exec (.errorPassive tec rcv) s = .next (raise Src.FN_ERROR_PASSIVE (((s.set R.FN_COUNTS.TEC (min 255 tec)).set R.FN_COUNTS.REC (min 255 rcv)).set R.FN_STAT.BUS 1)))
  ∧ (∀ s tec rcv, s.onBus = true → s.cored = true → s.get R.FN_STAT.BUS = 1 → tec < 128 → rcv < 128 → ∃ t, exec (.errorPassive tec rcv) s = .next t ∧ t.get R.FN_STAT.BUS = 0 ∧ t.get R.FN_COUNTS.TEC = tec ∧ t.get R.FN_COUNTS.REC = rcv ∧ OnlySets s t [R.FN_STAT.BUS, R.FN_COUNTS.TEC, R.FN_COUNTS.REC])

/-- FORWARDED_REQUEST_RX, FORWARDED_RESPONSE_RX, FORWARD_TIMEOUT, HOST_RECORD_RX: a request or response for another position is passed on; a whole request for this device is served; the Root answers its host with the response to its oldest request, or with a timeout (R425); a Member's record becomes an
emergency message (R544). The layouts of the two messages are the model's (log 54). -/
def Obligations.ForwardingOverTheSpine : Prop :=
  (∀ s (i : Fin 4) m, s.spineUp i = true → msgGood 0x4F m = true → 8 ≤ msgLen m → msgDest m ≠ s.pos → exec (.forwardedRequestRx i m) s = .next (if s.linkUp (onward i) = true ∧ msgHops m < 63 then passOn i m (msgPayload m) s else dropBad s))
  ∧ (∀ s (i : Fin 4) m, s.spineUp i = true → msgGood 0x4F m = true → 8 ≤ msgLen m → msgDest m = s.pos → leAt (msgPayload m) 7 1 = 2 → s.served = true → s.spine.fwdIn = [] → exec (.forwardedRequestRx i m) s = .next (serve (leAt (msgPayload m) 0 4) (leAt (msgPayload m) 4 2) (leAt (msgPayload m) 6 1) none s))
  ∧ (∀ s (i : Fin 4) m, s.spineUp i = true → msgGood 0x50 m = true → 9 ≤ msgLen m → msgDest m ≠ s.pos → exec (.forwardedResponseRx i m) s = .next (if s.linkUp (onward i) = true ∧ msgHops m < 63 then passOn i m (msgPayload m) s else dropBad s))
  ∧ (∀ s (i : Fin 4) m r, s.isRoot = true → s.canHeld = false → s.spineUp i = true → msgGood 0x50 m = true → 9 ≤ msgLen m → msgDest m = s.pos → leAt (msgPayload m) 8 1 = 1 → s.spine.fwdIn = [] → s.fwdOut (msgSrc m) = [(leAt (msgPayload m) 0 4, r)] → s.fwdQueue (msgSrc m) = [] → ∃ t, exec (.forwardedResponseRx i m) s = .next t ∧ t.net.sent = s.net.sent ++ [.answer r.client (leAt (msgPayload m) 4 4) ((msgPayload m).drop 9)] ∧ t.fwdOut (msgSrc m) = [] ∧ t.regs = s.regs)
  ∧ (∀ s (p : Fin 64) n r, s.isRoot = true → s.canHeld = false → s.fwdOut p = [(n, r)] → s.fwdQueue p = [] → Tab.find? s.spine.fwdDone n = none → ∃ t, exec (.forwardTimeout p) s = .next t ∧ t.net.sent = s.net.sent ++ [.answer r.client 0x05040000 []] ∧ t.fwdOut p = [])
  ∧ (∀ s (i : Fin 4) m, s.spineUp i = true → msgGood 0x52 m = true → msgLen m = 128 → msgDest m ≠ s.pos → exec (.hostRecordRx i m) s = .next (if s.linkUp (onward i) = true ∧ msgHops m < 63 then passOn i m (msgPayload m) s else dropBad s))
  ∧ (∀ s (i : Fin 4) m, s.isRoot = true → s.spineUp i = true → msgGood 0x52 m = true → msgLen m = 128 → msgDest m = s.pos → leAt (msgPayload m) 8 1 = 1 → s.get O.EMCY_CLASS ≤ leAt (msgPayload m) 9 1 % 4 → s.net.emcy.length < 16 → ∃ t e, exec (.hostRecordRx i m) s = .next t ∧ t.net.emcy = s.net.emcy ++ [e] ∧ e.code = 0xFF00 + 16 * (leAt (msgPayload m) 10 1 - 1) + leAt (msgPayload m) 11 1 ∧ t = { s with net := t.net })

/-! ### The collector and the whole machine -/

/-- R348 whole: MIN and MAX order −0.0 below +0.0; where exactly one operand is a NaN they return the other; CLAMP is MAX(b, MIN(a, c)); a NaN in a gives MAX(b, c); where b > c, CLAMP gives b. -/
def Obligations.MinMaxAndClamp : Prop :=
  (min32 0 0x80000000 = 0x80000000 ∧ min32 0x80000000 0 = 0x80000000 ∧ max32 0 0x80000000 = 0 ∧ max32 0x80000000 0 = 0)
  ∧ (∀ a b, nan32 a = true → nan32 b = false → min32 a b = b ∧ min32 b a = b ∧ max32 a b = b ∧ max32 b a = b)
  ∧ (∀ k : Fin 128, RunsInstr (.clamp k) k 0x08 1 4 (fun w q => q.put (iD w) (max32 (q.b w) (min32 (q.a w) (q.c w)))))
  ∧ (∀ a b c, nan32 a = true → nan32 c = false → max32 b (min32 a c) = max32 b c)
  ∧ (∀ a b c, lt32 c b = true → max32 b (min32 a c) = b)

/-- A report of a block without a held record, and not consequent, is captured with its source, instance, class, flags and stamp (R440); one of a block with an observed record is lost, counted, and changes nothing of the record (R441); one within an open window of its scope with a class at or above
its own is consequent and only counted (R443). -/
def Obligations.FirstCauseIsKept : Prop :=
  (∀ (s : State) (r : ReportArg), 1 ≤ r.block → r.block ≤ 16 → r.src < 16 → r.inst < 128 → s.ts.tsc < 2 ^ 64 → s.cyc.released.contains r.block = false → s.joins r = false → s.bit (R.FC_STAT.HELD (r.block - 1)) = false → s.winHolds (s.scope r) (s.classOf r.block r.src r.inst) = false → s.winHolds 8 (s.classOf r.block r.src r.inst) = false → (takeOne r s).1.bit (R.FC_STAT.HELD (r.block - 1)) = true ∧ (takeOne r s).1.get (R.FC_FIRST.SRC (r.block - 1)) = r.src ∧ (takeOne r s).1.get (R.FC_FIRST.INSTANCE (r.block - 1)) = r.inst ∧ (takeOne r s).1.get (R.FC_FIRST.CLASS (r.block - 1)) = s.classOf r.block r.src r.inst ∧ (takeOne r s).1.bit (R.FC_FIRST.OBSERVED (r.block - 1)) = r.observed ∧ (takeOne r s).1.bit (R.FC_FIRST.INJECTED (r.block - 1)) = r.injected ∧ (takeOne r s).1.get64 (R.FC_FIRST_TSC_LO (r.block - 1)) (R.FC_FIRST_TSC_HI (r.block - 1)) = s.ts.tsc)
  ∧ (∀ (s : State) (r : ReportArg), 1 ≤ r.block → r.block ≤ 16 → s.cyc.released.contains r.block = false → s.joins r = false → s.eng.inj.on = false → s.bit (R.FC_STAT.HELD (r.block - 1)) = true → s.bit (R.FC_FIRST.OBSERVED (r.block - 1)) = true → s.winHolds (s.scope r) (s.classOf r.block r.src r.inst) = false → s.winHolds 8 (s.classOf r.block r.src r.inst) = false → (takeOne r s).2 = [] ∧ (takeOne r s).1.bit (R.FC_LOST.LOST (r.block - 1)) = true ∧ (takeOne r s).1.get (R.FC_LOSTCNT r.block) = min 255 (s.get (R.FC_LOSTCNT r.block) + 1) ∧ (takeOne r s).1.get (R.FC_FIRST.SRC (r.block - 1)) = s.get (R.FC_FIRST.SRC (r.block - 1)) ∧ (takeOne r s).1.get (R.FC_FIRST.INSTANCE (r.block - 1)) = s.get (R.FC_FIRST.INSTANCE (r.block - 1)) ∧ (takeOne r s).1.get (R.FC_FIRST.CLASS (r.block - 1)) = s.get (R.FC_FIRST.CLASS (r.block - 1)))
  ∧ (∀ (s : State) (r : ReportArg), s.joins r = false → s.eng.inj.on = false → s.winHolds (s.scope r) (s.classOf r.block r.src r.inst) = true → (takeOne r s).2 = [] ∧ (takeOne r s).1.get (R.FC_WIN.CONSEQ (s.scope r)) = min 65535 (s.get (R.FC_WIN.CONSEQ (s.scope r)) + 1) ∧ ∀ n, n < 16 → (takeOne r s).1.get (R.FC_STAT.HELD n) = s.get (R.FC_STAT.HELD n))

/-- An observed Black report in Armed or Run puts the device in Safe: the run request clears, nFAULT is driven with its pulse, and every lane in UP is asked for a Black set, which replaces what waits (R447, R449, R32). -/
def Obligations.BlackReportEntersSafe : Prop :=
  ∀ (s : State) (r : ReportArg) f, s.pw.state = .armed ∨ s.pw.state = .run → leafFor r = some f → s.bit f = false → r.observed = true → s.classOf r.block r.src r.inst = 3 → ∃ t, exec (.faultReport r) s = .next t ∧ t.pw.state = .safe ∧ t.get O.RUN_REQUEST = 0 ∧ t.get R.FC_NFAULT.DRIVE = 1 ∧ t.get R.FC_NFAULT.PULSE = 1 ∧ ∀ n, n < 64 → s.up n = true → (t.link n).urgQ = [.black]

/-- A step runs the command at the front of the queue on the rest of it; and every command completes: exec answers a next state for each of them in every state. Where no command waits a tick of time passes (R125; log 4): a core cycle begins, and nothing changes but the clock's own state, READY and the end of a save. -/
def Obligations.StepTakesTheFrontCommand : Prop :=
  (∀ (c : Instr) (s : State) (l : List Instr), step { s with pending := c :: l } = exec c { s with pending := l })
  ∧ (∀ (c : Instr) (s : State), ∃ t, exec c s = .next t)
  ∧ (∀ s : State, s.pending = [] → ∃ t, step s = .next t ∧ t.now = s.now + 1 ∧ t.cyc = { sentFrom := s.spine.sent.length } ∧ t = { s with now := t.now, cyc := t.cyc, ts := t.ts, regs := t.regs, clk := t.clk, dx := { s.dx with ready := t.dx.ready }, mram := t.mram } ∧ OnlyRegs s t [R.CLK_PHASE_T.PENDING, R.CLK_PHASE_T.PHASE])

/-- The state with no supply applied: no command waits, every register field reads its reset value (R12, R15), the device is Off (R6), the timescale does not run, no record or save is in the non-volatile memory, and the register table has its canonical form. What the spec does not give stands in log 3. -/
def Obligations.ResetState : Prop :=
  State.reset.pending = [] ∧ (∀ f : Fld, State.reset.get f = f.reset % 2 ^ f.width) ∧ State.reset.pw.state = .off ∧ State.reset.ts.running = false ∧ State.reset.ts.tsc = 0 ∧ State.reset.mram.slots = [] ∧ State.reset.RegsRising
    ∧ State.reset.get R.FC_CTRL.COAL_WIN = 0x14 ∧ State.reset.get R.FC_RECOV.QUIET = 0x3E8 ∧ State.reset.get (R.SL_DELAY.DELAY 3) = 0xFFFFF ∧ State.reset.get R.IRQ_EN.EN = 0xFFFF

/-- Every step keeps the register table in its canonical form, so equal registers are equal data. -/
def Obligations.EveryStepKeepsTheRegisterForm : Prop :=
  ∀ s t : State, s.RegsRising → step s = .next t → t.RegsRising

/-- Every step takes the front command and leaves the others as they wait. -/
def Obligations.EveryStepKeepsTheQueue : Prop :=
  ∀ s t : State, step s = .next t → t.pending = s.pending.tail

/-- In every step each owner key slot stays or moves EMPTY to ACTIVE or ACTIVE to REVOKED, no anti-rollback counter falls, and DEBUG_OFF stays set (R506, R507, R515). -/
def Obligations.EveryStepMovesOtpOneWay : Prop :=
  ∀ s t : State, step s = .next t → OtpKept s t
end

