-- ==== Sys2Proof/Laws/Tab.lean ====
section
/-!
SUPPORT. Laws/Tab.lean: what a sparse table reads as after a write, and that every operation keeps the canonical form.
-/
namespace Sys2Proof.Machine

variable {α : Type}

@[simp] theorem Tab.get_nil (d : α) (k : Nat) : Tab.get d [] k = d := rfl

theorem Tab.find?_put (t : Tab α) (k j : Nat) (v : α) :
    Tab.find? (Tab.put t k v) j = if k = j then some v else Tab.find? t j := by
  induction t with
  | nil => simp [Tab.put, Tab.find?]
  | cons e t ih =>
    obtain ⟨i, w⟩ := e
    simp only [Tab.put]
    split
    · simp [Tab.find?]
    · split
      · subst k; by_cases h : i = j <;> simp [Tab.find?, h]
      · simp only [Tab.find?, ih]
        by_cases h : i = j
        · have : ¬ k = j := by omega
          simp [h, this]
        · simp [h]

theorem Tab.find?_drop (t : Tab α) (k j : Nat) :
    Tab.find? (Tab.drop t k) j = if k = j then none else Tab.find? t j := by
  induction t with
  | nil => simp [Tab.drop, Tab.find?]
  | cons e t ih =>
    obtain ⟨i, w⟩ := e
    simp only [Tab.drop]
    by_cases h : i = k
    · subst i; simp only [if_true, ih, Tab.find?]
      by_cases h : k = j <;> simp [h]
    · simp only [h, if_false, Tab.find?, ih]
      by_cases h2 : i = j
      · have : ¬ k = j := by omega
        simp [h2, this]
      · simp [h2]

/-- A read after a write: the value written at that key, what was there at every other. -/
theorem Tab.get_set [DecidableEq α] (d : α) (t : Tab α) (k j : Nat) (v : α) :
    Tab.get d (Tab.set d t k v) j = if k = j then v else Tab.get d t j := by
  unfold Tab.set Tab.get
  split
  · rw [Tab.find?_drop]; split <;> simp_all
  · rw [Tab.find?_put]; split <;> simp_all

@[simp] theorem Tab.get_set_self [DecidableEq α] (d : α) (t : Tab α) (k : Nat) (v : α) :
    Tab.get d (Tab.set d t k v) k = v := by simp [Tab.get_set]

theorem Tab.get_set_of_ne [DecidableEq α] (d : α) (t : Tab α) {k j : Nat} (v : α) (h : k ≠ j) :
    Tab.get d (Tab.set d t k v) j = Tab.get d t j := by simp [Tab.get_set, h]

theorem Tab.get_modify [DecidableEq α] (d : α) (t : Tab α) (k j : Nat) (f : α → α) :
    Tab.get d (Tab.modify d t k f) j = if k = j then f (Tab.get d t k) else Tab.get d t j := Tab.get_set ..

theorem Tab.mem_drop {t : Tab α} {k : Nat} {e : Nat × α} (h : e ∈ Tab.drop t k) : e ∈ t := by
  induction t with
  | nil => exact h
  | cons a t ih =>
    obtain ⟨i, w⟩ := a
    simp only [Tab.drop] at h
    split at h
    · exact List.mem_cons_of_mem _ (ih h)
    · rcases List.mem_cons.1 h with h | h
      · exact h ▸ List.mem_cons_self
      · exact List.mem_cons_of_mem _ (ih h)

theorem Tab.mem_put {t : Tab α} {k : Nat} {v : α} {e : Nat × α} (h : e ∈ Tab.put t k v) : e = (k, v) ∨ e ∈ t := by
  induction t with
  | nil => simpa [Tab.put] using h
  | cons a t ih =>
    obtain ⟨i, w⟩ := a
    simp only [Tab.put] at h
    split at h
    · exact List.mem_cons.1 h
    · split at h
      · exact (List.mem_cons.1 h).imp_right (List.mem_cons_of_mem _)
      · rcases List.mem_cons.1 h with h | h
        · exact .inr (h ▸ List.mem_cons_self)
        · exact (ih h).imp_right (List.mem_cons_of_mem _)

theorem Tab.rising_drop {t : Tab α} (k : Nat) (h : Tab.rising t) : Tab.rising (Tab.drop t k) := by
  induction t with
  | nil => exact h
  | cons a t ih =>
    obtain ⟨i, w⟩ := a
    have h' := List.pairwise_cons.1 h
    simp only [Tab.drop]
    split
    · exact ih h'.2
    · exact List.pairwise_cons.2 ⟨fun e he => h'.1 e (Tab.mem_drop he), ih h'.2⟩

theorem Tab.rising_put {t : Tab α} (k : Nat) (v : α) (h : Tab.rising t) : Tab.rising (Tab.put t k v) := by
  induction t with
  | nil => simp [Tab.put, Tab.rising]
  | cons a t ih =>
    obtain ⟨i, w⟩ := a
    have h' := List.pairwise_cons.1 h
    simp only [Tab.put]
    split
    · refine List.pairwise_cons.2 ⟨fun e he => ?_, h⟩
      rcases List.mem_cons.1 he with rfl | he
      · assumption
      · exact Nat.lt_trans ‹k < i› (h'.1 e he)
    · split
      · subst k; exact List.pairwise_cons.2 ⟨h'.1, h'.2⟩
      · refine List.pairwise_cons.2 ⟨fun e he => ?_, ih h'.2⟩
        rcases Tab.mem_put he with rfl | he
        · show i < k; omega
        · exact h'.1 e he

theorem Tab.rising_set [DecidableEq α] {t : Tab α} (d : α) (k : Nat) (v : α) (h : Tab.rising t) :
    Tab.rising (Tab.set d t k v) := by
  unfold Tab.set; split
  · exact Tab.rising_drop k h
  · exact Tab.rising_put k v h

/-- A write keeps the canonical form. -/
theorem Tab.wf_set [DecidableEq α] {t : Tab α} (d : α) (k : Nat) (v : α) (h : Tab.wf d t) : Tab.wf d (Tab.set d t k v) := by
  refine ⟨Tab.rising_set d k v h.1, fun e he => ?_⟩
  unfold Tab.set at he; split at he
  · exact h.2 e (Tab.mem_drop he)
  · rcases Tab.mem_put he with rfl | he
    · assumption
    · exact h.2 e he

theorem Tab.wf_modify [DecidableEq α] {t : Tab α} (d : α) (k : Nat) (f : α → α) (h : Tab.wf d t) :
    Tab.wf d (Tab.modify d t k f) := Tab.wf_set d k _ h

end Sys2Proof.Machine
end

