-- ==== Sys2Proof/Laws/State.lean ====
section
/-!
SUPPORT. Laws/State.lean: what each update of the state leaves as it was, and what a register field reads as after a write.
-/
namespace Sys2Proof.Machine

/-! ### Register fields -/

/-- A field reads no more than its width holds. -/
theorem State.get_lt (s : State) (f : Fld) : s.get f < 2 ^ f.width := Nat.mod_lt _ (Nat.two_pow_pos _)

/-- A field reads as it was written, within its width. -/
@[simp] theorem State.get_set_self (s : State) (f : Fld) (v : Nat) : (s.set f v).get f = v % 2 ^ f.width := by
  simp [State.get, State.set]

/-- A write of one field leaves every field at another place. -/
theorem State.get_set_of_ne (s : State) {f g : Fld} (v : Nat) (h : f.key ≠ g.key) : (s.set f v).get g = s.get g := by
  simp only [State.get, State.set, Tab.get, Tab.set]
  split <;> simp [Tab.find?_drop, Tab.find?_put, h]

theorem State.bit_set_of_ne (s : State) {f g : Fld} (v : Nat) (h : f.key ≠ g.key) : (s.set f v).bit g = s.bit g := by
  simp [State.bit, State.get_set_of_ne s v h]

/-- A counter that saturates. -/
theorem State.get_inc_self (s : State) (f : Fld) : (s.inc f).get f = min (2 ^ f.width - 1) (s.get f + 1) := by
  have h := s.get_lt f
  show ((s.set f _).get f) = _
  rw [State.get_set_self]
  split
  · rw [Nat.mod_eq_of_lt ‹_›]; omega
  · rw [Nat.mod_eq_of_lt (by omega)]; omega

theorem State.get_inc_of_ne (s : State) {f g : Fld} (h : f.key ≠ g.key) : (s.inc f).get g = s.get g := State.get_set_of_ne s _ h

/-! ### Frames -/

@[simp] theorem State.set_pending (s : State) (f : Fld) (v : Nat) : (s.set f v).pending = s.pending := rfl
@[simp] theorem State.set_freeCount (s : State) (f : Fld) (v : Nat) : (s.set f v).freeCount = s.freeCount := rfl
@[simp] theorem State.set_now (s : State) (f : Fld) (v : Nat) : (s.set f v).now = s.now := rfl
@[simp] theorem State.set_cyc (s : State) (f : Fld) (v : Nat) : (s.set f v).cyc = s.cyc := rfl
@[simp] theorem State.set_pw (s : State) (f : Fld) (v : Nat) : (s.set f v).pw = s.pw := rfl
@[simp] theorem State.set_clk (s : State) (f : Fld) (v : Nat) : (s.set f v).clk = s.clk := rfl
@[simp] theorem State.set_ts (s : State) (f : Fld) (v : Nat) : (s.set f v).ts = s.ts := rfl
@[simp] theorem State.set_lanes (s : State) (f : Fld) (v : Nat) : (s.set f v).lanes = s.lanes := rfl
@[simp] theorem State.set_prbs (s : State) (f : Fld) (v : Nat) : (s.set f v).prbs = s.prbs := rfl
@[simp] theorem State.set_links (s : State) (f : Fld) (v : Nat) : (s.set f v).links = s.links := rfl
@[simp] theorem State.set_verifyQ (s : State) (f : Fld) (v : Nat) : (s.set f v).verifyQ = s.verifyQ := rfl
@[simp] theorem State.set_gates (s : State) (f : Fld) (v : Nat) : (s.set f v).gates = s.gates := rfl
@[simp] theorem State.set_cells (s : State) (f : Fld) (v : Nat) : (s.set f v).cells = s.cells := rfl
@[simp] theorem State.set_cars (s : State) (f : Fld) (v : Nat) : (s.set f v).cars = s.cars := rfl
@[simp] theorem State.set_legs (s : State) (f : Fld) (v : Nat) : (s.set f v).legs = s.legs := rfl
@[simp] theorem State.set_groupPend (s : State) (f : Fld) (v : Nat) : (s.set f v).groupPend = s.groupPend := rfl
@[simp] theorem State.set_ctxs (s : State) (f : Fld) (v : Nat) : (s.set f v).ctxs = s.ctxs := rfl
@[simp] theorem State.set_eng (s : State) (f : Fld) (v : Nat) : (s.set f v).eng = s.eng := rfl
@[simp] theorem State.set_met (s : State) (f : Fld) (v : Nat) : (s.set f v).met = s.met := rfl
@[simp] theorem State.set_wf (s : State) (f : Fld) (v : Nat) : (s.set f v).wf = s.wf := rfl
@[simp] theorem State.set_strs (s : State) (f : Fld) (v : Nat) : (s.set f v).strs = s.strs := rfl
@[simp] theorem State.set_dx (s : State) (f : Fld) (v : Nat) : (s.set f v).dx = s.dx := rfl
@[simp] theorem State.set_fc (s : State) (f : Fld) (v : Nat) : (s.set f v).fc = s.fc := rfl
@[simp] theorem State.set_spine (s : State) (f : Fld) (v : Nat) : (s.set f v).spine = s.spine := rfl
@[simp] theorem State.set_recd (s : State) (f : Fld) (v : Nat) : (s.set f v).recd = s.recd := rfl
@[simp] theorem State.set_mram (s : State) (f : Fld) (v : Nat) : (s.set f v).mram = s.mram := rfl
@[simp] theorem State.set_ledger (s : State) (f : Fld) (v : Nat) : (s.set f v).ledger = s.ledger := rfl
@[simp] theorem State.set_saving (s : State) (f : Fld) (v : Nat) : (s.set f v).saving = s.saving := rfl
@[simp] theorem State.set_th (s : State) (f : Fld) (v : Nat) : (s.set f v).th = s.th := rfl
@[simp] theorem State.set_net (s : State) (f : Fld) (v : Nat) : (s.set f v).net = s.net := rfl
@[simp] theorem State.set_sec (s : State) (f : Fld) (v : Nat) : (s.set f v).sec = s.sec := rfl
@[simp] theorem State.set_store (s : State) (f : Fld) (v : Nat) : (s.set f v).store = s.store := rfl
@[simp] theorem State.setBit_pending (s : State) (f : Fld) (b : Bool) : (s.setBit f b).pending = s.pending := rfl
@[simp] theorem State.setBit_freeCount (s : State) (f : Fld) (b : Bool) : (s.setBit f b).freeCount = s.freeCount := rfl
@[simp] theorem State.setBit_now (s : State) (f : Fld) (b : Bool) : (s.setBit f b).now = s.now := rfl
@[simp] theorem State.setBit_cyc (s : State) (f : Fld) (b : Bool) : (s.setBit f b).cyc = s.cyc := rfl
@[simp] theorem State.setBit_pw (s : State) (f : Fld) (b : Bool) : (s.setBit f b).pw = s.pw := rfl
@[simp] theorem State.setBit_clk (s : State) (f : Fld) (b : Bool) : (s.setBit f b).clk = s.clk := rfl
@[simp] theorem State.setBit_ts (s : State) (f : Fld) (b : Bool) : (s.setBit f b).ts = s.ts := rfl
@[simp] theorem State.setBit_lanes (s : State) (f : Fld) (b : Bool) : (s.setBit f b).lanes = s.lanes := rfl
@[simp] theorem State.setBit_prbs (s : State) (f : Fld) (b : Bool) : (s.setBit f b).prbs = s.prbs := rfl
@[simp] theorem State.setBit_links (s : State) (f : Fld) (b : Bool) : (s.setBit f b).links = s.links := rfl
@[simp] theorem State.setBit_verifyQ (s : State) (f : Fld) (b : Bool) : (s.setBit f b).verifyQ = s.verifyQ := rfl
@[simp] theorem State.setBit_gates (s : State) (f : Fld) (b : Bool) : (s.setBit f b).gates = s.gates := rfl
@[simp] theorem State.setBit_cells (s : State) (f : Fld) (b : Bool) : (s.setBit f b).cells = s.cells := rfl
@[simp] theorem State.setBit_cars (s : State) (f : Fld) (b : Bool) : (s.setBit f b).cars = s.cars := rfl
@[simp] theorem State.setBit_legs (s : State) (f : Fld) (b : Bool) : (s.setBit f b).legs = s.legs := rfl
@[simp] theorem State.setBit_groupPend (s : State) (f : Fld) (b : Bool) : (s.setBit f b).groupPend = s.groupPend := rfl
@[simp] theorem State.setBit_ctxs (s : State) (f : Fld) (b : Bool) : (s.setBit f b).ctxs = s.ctxs := rfl
@[simp] theorem State.setBit_eng (s : State) (f : Fld) (b : Bool) : (s.setBit f b).eng = s.eng := rfl
@[simp] theorem State.setBit_met (s : State) (f : Fld) (b : Bool) : (s.setBit f b).met = s.met := rfl
@[simp] theorem State.setBit_wf (s : State) (f : Fld) (b : Bool) : (s.setBit f b).wf = s.wf := rfl
@[simp] theorem State.setBit_strs (s : State) (f : Fld) (b : Bool) : (s.setBit f b).strs = s.strs := rfl
@[simp] theorem State.setBit_dx (s : State) (f : Fld) (b : Bool) : (s.setBit f b).dx = s.dx := rfl
@[simp] theorem State.setBit_fc (s : State) (f : Fld) (b : Bool) : (s.setBit f b).fc = s.fc := rfl
@[simp] theorem State.setBit_spine (s : State) (f : Fld) (b : Bool) : (s.setBit f b).spine = s.spine := rfl
@[simp] theorem State.setBit_recd (s : State) (f : Fld) (b : Bool) : (s.setBit f b).recd = s.recd := rfl
@[simp] theorem State.setBit_mram (s : State) (f : Fld) (b : Bool) : (s.setBit f b).mram = s.mram := rfl
@[simp] theorem State.setBit_ledger (s : State) (f : Fld) (b : Bool) : (s.setBit f b).ledger = s.ledger := rfl
@[simp] theorem State.setBit_saving (s : State) (f : Fld) (b : Bool) : (s.setBit f b).saving = s.saving := rfl
@[simp] theorem State.setBit_th (s : State) (f : Fld) (b : Bool) : (s.setBit f b).th = s.th := rfl
@[simp] theorem State.setBit_net (s : State) (f : Fld) (b : Bool) : (s.setBit f b).net = s.net := rfl
@[simp] theorem State.setBit_sec (s : State) (f : Fld) (b : Bool) : (s.setBit f b).sec = s.sec := rfl
@[simp] theorem State.setBit_store (s : State) (f : Fld) (b : Bool) : (s.setBit f b).store = s.store := rfl
@[simp] theorem State.inc_pending (s : State) (f : Fld) : (s.inc f).pending = s.pending := rfl
@[simp] theorem State.inc_freeCount (s : State) (f : Fld) : (s.inc f).freeCount = s.freeCount := rfl
@[simp] theorem State.inc_now (s : State) (f : Fld) : (s.inc f).now = s.now := rfl
@[simp] theorem State.inc_pw (s : State) (f : Fld) : (s.inc f).pw = s.pw := rfl
@[simp] theorem State.inc_clk (s : State) (f : Fld) : (s.inc f).clk = s.clk := rfl
@[simp] theorem State.inc_ts (s : State) (f : Fld) : (s.inc f).ts = s.ts := rfl
@[simp] theorem State.inc_lanes (s : State) (f : Fld) : (s.inc f).lanes = s.lanes := rfl
@[simp] theorem State.inc_prbs (s : State) (f : Fld) : (s.inc f).prbs = s.prbs := rfl
@[simp] theorem State.inc_links (s : State) (f : Fld) : (s.inc f).links = s.links := rfl
@[simp] theorem State.inc_verifyQ (s : State) (f : Fld) : (s.inc f).verifyQ = s.verifyQ := rfl
@[simp] theorem State.inc_gates (s : State) (f : Fld) : (s.inc f).gates = s.gates := rfl
@[simp] theorem State.inc_cells (s : State) (f : Fld) : (s.inc f).cells = s.cells := rfl
@[simp] theorem State.inc_cars (s : State) (f : Fld) : (s.inc f).cars = s.cars := rfl
@[simp] theorem State.inc_legs (s : State) (f : Fld) : (s.inc f).legs = s.legs := rfl
@[simp] theorem State.inc_groupPend (s : State) (f : Fld) : (s.inc f).groupPend = s.groupPend := rfl
@[simp] theorem State.inc_ctxs (s : State) (f : Fld) : (s.inc f).ctxs = s.ctxs := rfl
@[simp] theorem State.inc_eng (s : State) (f : Fld) : (s.inc f).eng = s.eng := rfl
@[simp] theorem State.inc_met (s : State) (f : Fld) : (s.inc f).met = s.met := rfl
@[simp] theorem State.inc_wf (s : State) (f : Fld) : (s.inc f).wf = s.wf := rfl
@[simp] theorem State.inc_strs (s : State) (f : Fld) : (s.inc f).strs = s.strs := rfl
@[simp] theorem State.inc_dx (s : State) (f : Fld) : (s.inc f).dx = s.dx := rfl
@[simp] theorem State.inc_fc (s : State) (f : Fld) : (s.inc f).fc = s.fc := rfl
@[simp] theorem State.inc_spine (s : State) (f : Fld) : (s.inc f).spine = s.spine := rfl
@[simp] theorem State.inc_recd (s : State) (f : Fld) : (s.inc f).recd = s.recd := rfl
@[simp] theorem State.inc_mram (s : State) (f : Fld) : (s.inc f).mram = s.mram := rfl
@[simp] theorem State.inc_ledger (s : State) (f : Fld) : (s.inc f).ledger = s.ledger := rfl
@[simp] theorem State.inc_saving (s : State) (f : Fld) : (s.inc f).saving = s.saving := rfl
@[simp] theorem State.inc_th (s : State) (f : Fld) : (s.inc f).th = s.th := rfl
@[simp] theorem State.inc_net (s : State) (f : Fld) : (s.inc f).net = s.net := rfl
@[simp] theorem State.inc_sec (s : State) (f : Fld) : (s.inc f).sec = s.sec := rfl
@[simp] theorem State.inc_store (s : State) (f : Fld) : (s.inc f).store = s.store := rfl
@[simp] theorem State.incWrap_pending (s : State) (f : Fld) : (s.incWrap f).pending = s.pending := rfl
@[simp] theorem State.incWrap_freeCount (s : State) (f : Fld) : (s.incWrap f).freeCount = s.freeCount := rfl
@[simp] theorem State.incWrap_now (s : State) (f : Fld) : (s.incWrap f).now = s.now := rfl
@[simp] theorem State.incWrap_pw (s : State) (f : Fld) : (s.incWrap f).pw = s.pw := rfl
@[simp] theorem State.incWrap_clk (s : State) (f : Fld) : (s.incWrap f).clk = s.clk := rfl
@[simp] theorem State.incWrap_ts (s : State) (f : Fld) : (s.incWrap f).ts = s.ts := rfl
@[simp] theorem State.incWrap_lanes (s : State) (f : Fld) : (s.incWrap f).lanes = s.lanes := rfl
@[simp] theorem State.incWrap_prbs (s : State) (f : Fld) : (s.incWrap f).prbs = s.prbs := rfl
@[simp] theorem State.incWrap_links (s : State) (f : Fld) : (s.incWrap f).links = s.links := rfl
@[simp] theorem State.incWrap_verifyQ (s : State) (f : Fld) : (s.incWrap f).verifyQ = s.verifyQ := rfl
@[simp] theorem State.incWrap_gates (s : State) (f : Fld) : (s.incWrap f).gates = s.gates := rfl
@[simp] theorem State.incWrap_cells (s : State) (f : Fld) : (s.incWrap f).cells = s.cells := rfl
@[simp] theorem State.incWrap_cars (s : State) (f : Fld) : (s.incWrap f).cars = s.cars := rfl
@[simp] theorem State.incWrap_legs (s : State) (f : Fld) : (s.incWrap f).legs = s.legs := rfl
@[simp] theorem State.incWrap_groupPend (s : State) (f : Fld) : (s.incWrap f).groupPend = s.groupPend := rfl
@[simp] theorem State.incWrap_ctxs (s : State) (f : Fld) : (s.incWrap f).ctxs = s.ctxs := rfl
@[simp] theorem State.incWrap_eng (s : State) (f : Fld) : (s.incWrap f).eng = s.eng := rfl
@[simp] theorem State.incWrap_met (s : State) (f : Fld) : (s.incWrap f).met = s.met := rfl
@[simp] theorem State.incWrap_wf (s : State) (f : Fld) : (s.incWrap f).wf = s.wf := rfl
@[simp] theorem State.incWrap_strs (s : State) (f : Fld) : (s.incWrap f).strs = s.strs := rfl
@[simp] theorem State.incWrap_dx (s : State) (f : Fld) : (s.incWrap f).dx = s.dx := rfl
@[simp] theorem State.incWrap_fc (s : State) (f : Fld) : (s.incWrap f).fc = s.fc := rfl
@[simp] theorem State.incWrap_spine (s : State) (f : Fld) : (s.incWrap f).spine = s.spine := rfl
@[simp] theorem State.incWrap_recd (s : State) (f : Fld) : (s.incWrap f).recd = s.recd := rfl
@[simp] theorem State.incWrap_mram (s : State) (f : Fld) : (s.incWrap f).mram = s.mram := rfl
@[simp] theorem State.incWrap_ledger (s : State) (f : Fld) : (s.incWrap f).ledger = s.ledger := rfl
@[simp] theorem State.incWrap_saving (s : State) (f : Fld) : (s.incWrap f).saving = s.saving := rfl
@[simp] theorem State.incWrap_th (s : State) (f : Fld) : (s.incWrap f).th = s.th := rfl
@[simp] theorem State.incWrap_net (s : State) (f : Fld) : (s.incWrap f).net = s.net := rfl
@[simp] theorem State.incWrap_sec (s : State) (f : Fld) : (s.incWrap f).sec = s.sec := rfl
@[simp] theorem State.incWrap_store (s : State) (f : Fld) : (s.incWrap f).store = s.store := rfl
@[simp] theorem State.set64_pending (s : State) (lo hi : Fld) (v : Nat) : (s.set64 lo hi v).pending = s.pending := rfl
@[simp] theorem State.set64_freeCount (s : State) (lo hi : Fld) (v : Nat) : (s.set64 lo hi v).freeCount = s.freeCount := rfl
@[simp] theorem State.set64_now (s : State) (lo hi : Fld) (v : Nat) : (s.set64 lo hi v).now = s.now := rfl
@[simp] theorem State.set64_cyc (s : State) (lo hi : Fld) (v : Nat) : (s.set64 lo hi v).cyc = s.cyc := rfl
@[simp] theorem State.set64_pw (s : State) (lo hi : Fld) (v : Nat) : (s.set64 lo hi v).pw = s.pw := rfl
@[simp] theorem State.set64_clk (s : State) (lo hi : Fld) (v : Nat) : (s.set64 lo hi v).clk = s.clk := rfl
@[simp] theorem State.set64_ts (s : State) (lo hi : Fld) (v : Nat) : (s.set64 lo hi v).ts = s.ts := rfl
@[simp] theorem State.set64_lanes (s : State) (lo hi : Fld) (v : Nat) : (s.set64 lo hi v).lanes = s.lanes := rfl
@[simp] theorem State.set64_prbs (s : State) (lo hi : Fld) (v : Nat) : (s.set64 lo hi v).prbs = s.prbs := rfl
@[simp] theorem State.set64_links (s : State) (lo hi : Fld) (v : Nat) : (s.set64 lo hi v).links = s.links := rfl
@[simp] theorem State.set64_verifyQ (s : State) (lo hi : Fld) (v : Nat) : (s.set64 lo hi v).verifyQ = s.verifyQ := rfl
@[simp] theorem State.set64_gates (s : State) (lo hi : Fld) (v : Nat) : (s.set64 lo hi v).gates = s.gates := rfl
@[simp] theorem State.set64_cells (s : State) (lo hi : Fld) (v : Nat) : (s.set64 lo hi v).cells = s.cells := rfl
@[simp] theorem State.set64_cars (s : State) (lo hi : Fld) (v : Nat) : (s.set64 lo hi v).cars = s.cars := rfl
@[simp] theorem State.set64_legs (s : State) (lo hi : Fld) (v : Nat) : (s.set64 lo hi v).legs = s.legs := rfl
@[simp] theorem State.set64_groupPend (s : State) (lo hi : Fld) (v : Nat) : (s.set64 lo hi v).groupPend = s.groupPend := rfl
@[simp] theorem State.set64_ctxs (s : State) (lo hi : Fld) (v : Nat) : (s.set64 lo hi v).ctxs = s.ctxs := rfl
@[simp] theorem State.set64_eng (s : State) (lo hi : Fld) (v : Nat) : (s.set64 lo hi v).eng = s.eng := rfl
@[simp] theorem State.set64_met (s : State) (lo hi : Fld) (v : Nat) : (s.set64 lo hi v).met = s.met := rfl
@[simp] theorem State.set64_wf (s : State) (lo hi : Fld) (v : Nat) : (s.set64 lo hi v).wf = s.wf := rfl
@[simp] theorem State.set64_strs (s : State) (lo hi : Fld) (v : Nat) : (s.set64 lo hi v).strs = s.strs := rfl
@[simp] theorem State.set64_dx (s : State) (lo hi : Fld) (v : Nat) : (s.set64 lo hi v).dx = s.dx := rfl
@[simp] theorem State.set64_fc (s : State) (lo hi : Fld) (v : Nat) : (s.set64 lo hi v).fc = s.fc := rfl
@[simp] theorem State.set64_spine (s : State) (lo hi : Fld) (v : Nat) : (s.set64 lo hi v).spine = s.spine := rfl
@[simp] theorem State.set64_recd (s : State) (lo hi : Fld) (v : Nat) : (s.set64 lo hi v).recd = s.recd := rfl
@[simp] theorem State.set64_mram (s : State) (lo hi : Fld) (v : Nat) : (s.set64 lo hi v).mram = s.mram := rfl
@[simp] theorem State.set64_ledger (s : State) (lo hi : Fld) (v : Nat) : (s.set64 lo hi v).ledger = s.ledger := rfl
@[simp] theorem State.set64_saving (s : State) (lo hi : Fld) (v : Nat) : (s.set64 lo hi v).saving = s.saving := rfl
@[simp] theorem State.set64_th (s : State) (lo hi : Fld) (v : Nat) : (s.set64 lo hi v).th = s.th := rfl
@[simp] theorem State.set64_net (s : State) (lo hi : Fld) (v : Nat) : (s.set64 lo hi v).net = s.net := rfl
@[simp] theorem State.set64_sec (s : State) (lo hi : Fld) (v : Nat) : (s.set64 lo hi v).sec = s.sec := rfl
@[simp] theorem State.set64_store (s : State) (lo hi : Fld) (v : Nat) : (s.set64 lo hi v).store = s.store := rfl
@[simp] theorem State.transmit_pending (s : State) (d : Nat) (b : List Byte) : (s.transmit d b).pending = s.pending := rfl
@[simp] theorem State.transmit_regs (s : State) (d : Nat) (b : List Byte) : (s.transmit d b).regs = s.regs := rfl
@[simp] theorem State.transmit_freeCount (s : State) (d : Nat) (b : List Byte) : (s.transmit d b).freeCount = s.freeCount := rfl
@[simp] theorem State.transmit_now (s : State) (d : Nat) (b : List Byte) : (s.transmit d b).now = s.now := rfl
@[simp] theorem State.transmit_cyc (s : State) (d : Nat) (b : List Byte) : (s.transmit d b).cyc = s.cyc := rfl
@[simp] theorem State.transmit_pw (s : State) (d : Nat) (b : List Byte) : (s.transmit d b).pw = s.pw := rfl
@[simp] theorem State.transmit_clk (s : State) (d : Nat) (b : List Byte) : (s.transmit d b).clk = s.clk := rfl
@[simp] theorem State.transmit_ts (s : State) (d : Nat) (b : List Byte) : (s.transmit d b).ts = s.ts := rfl
@[simp] theorem State.transmit_lanes (s : State) (d : Nat) (b : List Byte) : (s.transmit d b).lanes = s.lanes := rfl
@[simp] theorem State.transmit_prbs (s : State) (d : Nat) (b : List Byte) : (s.transmit d b).prbs = s.prbs := rfl
@[simp] theorem State.transmit_links (s : State) (d : Nat) (b : List Byte) : (s.transmit d b).links = s.links := rfl
@[simp] theorem State.transmit_verifyQ (s : State) (d : Nat) (b : List Byte) : (s.transmit d b).verifyQ = s.verifyQ := rfl
@[simp] theorem State.transmit_gates (s : State) (d : Nat) (b : List Byte) : (s.transmit d b).gates = s.gates := rfl
@[simp] theorem State.transmit_cells (s : State) (d : Nat) (b : List Byte) : (s.transmit d b).cells = s.cells := rfl
@[simp] theorem State.transmit_cars (s : State) (d : Nat) (b : List Byte) : (s.transmit d b).cars = s.cars := rfl
@[simp] theorem State.transmit_legs (s : State) (d : Nat) (b : List Byte) : (s.transmit d b).legs = s.legs := rfl
@[simp] theorem State.transmit_groupPend (s : State) (d : Nat) (b : List Byte) : (s.transmit d b).groupPend = s.groupPend := rfl
@[simp] theorem State.transmit_ctxs (s : State) (d : Nat) (b : List Byte) : (s.transmit d b).ctxs = s.ctxs := rfl
@[simp] theorem State.transmit_eng (s : State) (d : Nat) (b : List Byte) : (s.transmit d b).eng = s.eng := rfl
@[simp] theorem State.transmit_met (s : State) (d : Nat) (b : List Byte) : (s.transmit d b).met = s.met := rfl
@[simp] theorem State.transmit_wf (s : State) (d : Nat) (b : List Byte) : (s.transmit d b).wf = s.wf := rfl
@[simp] theorem State.transmit_strs (s : State) (d : Nat) (b : List Byte) : (s.transmit d b).strs = s.strs := rfl
@[simp] theorem State.transmit_dx (s : State) (d : Nat) (b : List Byte) : (s.transmit d b).dx = s.dx := rfl
@[simp] theorem State.transmit_fc (s : State) (d : Nat) (b : List Byte) : (s.transmit d b).fc = s.fc := rfl
@[simp] theorem State.transmit_recd (s : State) (d : Nat) (b : List Byte) : (s.transmit d b).recd = s.recd := rfl
@[simp] theorem State.transmit_mram (s : State) (d : Nat) (b : List Byte) : (s.transmit d b).mram = s.mram := rfl
@[simp] theorem State.transmit_ledger (s : State) (d : Nat) (b : List Byte) : (s.transmit d b).ledger = s.ledger := rfl
@[simp] theorem State.transmit_saving (s : State) (d : Nat) (b : List Byte) : (s.transmit d b).saving = s.saving := rfl
@[simp] theorem State.transmit_th (s : State) (d : Nat) (b : List Byte) : (s.transmit d b).th = s.th := rfl
@[simp] theorem State.transmit_net (s : State) (d : Nat) (b : List Byte) : (s.transmit d b).net = s.net := rfl
@[simp] theorem State.transmit_sec (s : State) (d : Nat) (b : List Byte) : (s.transmit d b).sec = s.sec := rfl
@[simp] theorem State.transmit_store (s : State) (d : Nat) (b : List Byte) : (s.transmit d b).store = s.store := rfl
@[simp] theorem State.modCh_pending (s : State) (f : ColdHold → ColdHold) : (s.modCh f).pending = s.pending := rfl
@[simp] theorem State.modCh_regs (s : State) (f : ColdHold → ColdHold) : (s.modCh f).regs = s.regs := rfl
@[simp] theorem State.modCh_freeCount (s : State) (f : ColdHold → ColdHold) : (s.modCh f).freeCount = s.freeCount := rfl
@[simp] theorem State.modCh_now (s : State) (f : ColdHold → ColdHold) : (s.modCh f).now = s.now := rfl
@[simp] theorem State.modCh_cyc (s : State) (f : ColdHold → ColdHold) : (s.modCh f).cyc = s.cyc := rfl
@[simp] theorem State.modCh_clk (s : State) (f : ColdHold → ColdHold) : (s.modCh f).clk = s.clk := rfl
@[simp] theorem State.modCh_ts (s : State) (f : ColdHold → ColdHold) : (s.modCh f).ts = s.ts := rfl
@[simp] theorem State.modCh_lanes (s : State) (f : ColdHold → ColdHold) : (s.modCh f).lanes = s.lanes := rfl
@[simp] theorem State.modCh_prbs (s : State) (f : ColdHold → ColdHold) : (s.modCh f).prbs = s.prbs := rfl
@[simp] theorem State.modCh_links (s : State) (f : ColdHold → ColdHold) : (s.modCh f).links = s.links := rfl
@[simp] theorem State.modCh_verifyQ (s : State) (f : ColdHold → ColdHold) : (s.modCh f).verifyQ = s.verifyQ := rfl
@[simp] theorem State.modCh_gates (s : State) (f : ColdHold → ColdHold) : (s.modCh f).gates = s.gates := rfl
@[simp] theorem State.modCh_cells (s : State) (f : ColdHold → ColdHold) : (s.modCh f).cells = s.cells := rfl
@[simp] theorem State.modCh_cars (s : State) (f : ColdHold → ColdHold) : (s.modCh f).cars = s.cars := rfl
@[simp] theorem State.modCh_legs (s : State) (f : ColdHold → ColdHold) : (s.modCh f).legs = s.legs := rfl
@[simp] theorem State.modCh_groupPend (s : State) (f : ColdHold → ColdHold) : (s.modCh f).groupPend = s.groupPend := rfl
@[simp] theorem State.modCh_ctxs (s : State) (f : ColdHold → ColdHold) : (s.modCh f).ctxs = s.ctxs := rfl
@[simp] theorem State.modCh_eng (s : State) (f : ColdHold → ColdHold) : (s.modCh f).eng = s.eng := rfl
@[simp] theorem State.modCh_met (s : State) (f : ColdHold → ColdHold) : (s.modCh f).met = s.met := rfl
@[simp] theorem State.modCh_wf (s : State) (f : ColdHold → ColdHold) : (s.modCh f).wf = s.wf := rfl
@[simp] theorem State.modCh_strs (s : State) (f : ColdHold → ColdHold) : (s.modCh f).strs = s.strs := rfl
@[simp] theorem State.modCh_dx (s : State) (f : ColdHold → ColdHold) : (s.modCh f).dx = s.dx := rfl
@[simp] theorem State.modCh_fc (s : State) (f : ColdHold → ColdHold) : (s.modCh f).fc = s.fc := rfl
@[simp] theorem State.modCh_spine (s : State) (f : ColdHold → ColdHold) : (s.modCh f).spine = s.spine := rfl
@[simp] theorem State.modCh_recd (s : State) (f : ColdHold → ColdHold) : (s.modCh f).recd = s.recd := rfl
@[simp] theorem State.modCh_mram (s : State) (f : ColdHold → ColdHold) : (s.modCh f).mram = s.mram := rfl
@[simp] theorem State.modCh_ledger (s : State) (f : ColdHold → ColdHold) : (s.modCh f).ledger = s.ledger := rfl
@[simp] theorem State.modCh_saving (s : State) (f : ColdHold → ColdHold) : (s.modCh f).saving = s.saving := rfl
@[simp] theorem State.modCh_th (s : State) (f : ColdHold → ColdHold) : (s.modCh f).th = s.th := rfl
@[simp] theorem State.modCh_net (s : State) (f : ColdHold → ColdHold) : (s.modCh f).net = s.net := rfl
@[simp] theorem State.modCh_sec (s : State) (f : ColdHold → ColdHold) : (s.modCh f).sec = s.sec := rfl
@[simp] theorem State.modCh_store (s : State) (f : ColdHold → ColdHold) : (s.modCh f).store = s.store := rfl
@[simp] theorem State.modPtp_pending (s : State) (f : Ptp → Ptp) : (s.modPtp f).pending = s.pending := rfl
@[simp] theorem State.modPtp_regs (s : State) (f : Ptp → Ptp) : (s.modPtp f).regs = s.regs := rfl
@[simp] theorem State.modPtp_freeCount (s : State) (f : Ptp → Ptp) : (s.modPtp f).freeCount = s.freeCount := rfl
@[simp] theorem State.modPtp_now (s : State) (f : Ptp → Ptp) : (s.modPtp f).now = s.now := rfl
@[simp] theorem State.modPtp_cyc (s : State) (f : Ptp → Ptp) : (s.modPtp f).cyc = s.cyc := rfl
@[simp] theorem State.modPtp_pw (s : State) (f : Ptp → Ptp) : (s.modPtp f).pw = s.pw := rfl
@[simp] theorem State.modPtp_clk (s : State) (f : Ptp → Ptp) : (s.modPtp f).clk = s.clk := rfl
@[simp] theorem State.modPtp_lanes (s : State) (f : Ptp → Ptp) : (s.modPtp f).lanes = s.lanes := rfl
@[simp] theorem State.modPtp_prbs (s : State) (f : Ptp → Ptp) : (s.modPtp f).prbs = s.prbs := rfl
@[simp] theorem State.modPtp_links (s : State) (f : Ptp → Ptp) : (s.modPtp f).links = s.links := rfl
@[simp] theorem State.modPtp_verifyQ (s : State) (f : Ptp → Ptp) : (s.modPtp f).verifyQ = s.verifyQ := rfl
@[simp] theorem State.modPtp_gates (s : State) (f : Ptp → Ptp) : (s.modPtp f).gates = s.gates := rfl
@[simp] theorem State.modPtp_cells (s : State) (f : Ptp → Ptp) : (s.modPtp f).cells = s.cells := rfl
@[simp] theorem State.modPtp_cars (s : State) (f : Ptp → Ptp) : (s.modPtp f).cars = s.cars := rfl
@[simp] theorem State.modPtp_legs (s : State) (f : Ptp → Ptp) : (s.modPtp f).legs = s.legs := rfl
@[simp] theorem State.modPtp_groupPend (s : State) (f : Ptp → Ptp) : (s.modPtp f).groupPend = s.groupPend := rfl
@[simp] theorem State.modPtp_ctxs (s : State) (f : Ptp → Ptp) : (s.modPtp f).ctxs = s.ctxs := rfl
@[simp] theorem State.modPtp_eng (s : State) (f : Ptp → Ptp) : (s.modPtp f).eng = s.eng := rfl
@[simp] theorem State.modPtp_met (s : State) (f : Ptp → Ptp) : (s.modPtp f).met = s.met := rfl
@[simp] theorem State.modPtp_wf (s : State) (f : Ptp → Ptp) : (s.modPtp f).wf = s.wf := rfl
@[simp] theorem State.modPtp_strs (s : State) (f : Ptp → Ptp) : (s.modPtp f).strs = s.strs := rfl
@[simp] theorem State.modPtp_dx (s : State) (f : Ptp → Ptp) : (s.modPtp f).dx = s.dx := rfl
@[simp] theorem State.modPtp_fc (s : State) (f : Ptp → Ptp) : (s.modPtp f).fc = s.fc := rfl
@[simp] theorem State.modPtp_spine (s : State) (f : Ptp → Ptp) : (s.modPtp f).spine = s.spine := rfl
@[simp] theorem State.modPtp_recd (s : State) (f : Ptp → Ptp) : (s.modPtp f).recd = s.recd := rfl
@[simp] theorem State.modPtp_mram (s : State) (f : Ptp → Ptp) : (s.modPtp f).mram = s.mram := rfl
@[simp] theorem State.modPtp_ledger (s : State) (f : Ptp → Ptp) : (s.modPtp f).ledger = s.ledger := rfl
@[simp] theorem State.modPtp_saving (s : State) (f : Ptp → Ptp) : (s.modPtp f).saving = s.saving := rfl
@[simp] theorem State.modPtp_th (s : State) (f : Ptp → Ptp) : (s.modPtp f).th = s.th := rfl
@[simp] theorem State.modPtp_net (s : State) (f : Ptp → Ptp) : (s.modPtp f).net = s.net := rfl
@[simp] theorem State.modPtp_sec (s : State) (f : Ptp → Ptp) : (s.modPtp f).sec = s.sec := rfl
@[simp] theorem State.modPtp_store (s : State) (f : Ptp → Ptp) : (s.modPtp f).store = s.store := rfl
@[simp] theorem State.modLife_pending (s : State) (n : Nat) (f : Life → Life) : (s.modLife n f).pending = s.pending := rfl
@[simp] theorem State.modLife_regs (s : State) (n : Nat) (f : Life → Life) : (s.modLife n f).regs = s.regs := rfl
@[simp] theorem State.modLife_freeCount (s : State) (n : Nat) (f : Life → Life) : (s.modLife n f).freeCount = s.freeCount := rfl
@[simp] theorem State.modLife_now (s : State) (n : Nat) (f : Life → Life) : (s.modLife n f).now = s.now := rfl
@[simp] theorem State.modLife_cyc (s : State) (n : Nat) (f : Life → Life) : (s.modLife n f).cyc = s.cyc := rfl
@[simp] theorem State.modLife_pw (s : State) (n : Nat) (f : Life → Life) : (s.modLife n f).pw = s.pw := rfl
@[simp] theorem State.modLife_clk (s : State) (n : Nat) (f : Life → Life) : (s.modLife n f).clk = s.clk := rfl
@[simp] theorem State.modLife_ts (s : State) (n : Nat) (f : Life → Life) : (s.modLife n f).ts = s.ts := rfl
@[simp] theorem State.modLife_lanes (s : State) (n : Nat) (f : Life → Life) : (s.modLife n f).lanes = s.lanes := rfl
@[simp] theorem State.modLife_prbs (s : State) (n : Nat) (f : Life → Life) : (s.modLife n f).prbs = s.prbs := rfl
@[simp] theorem State.modLife_links (s : State) (n : Nat) (f : Life → Life) : (s.modLife n f).links = s.links := rfl
@[simp] theorem State.modLife_verifyQ (s : State) (n : Nat) (f : Life → Life) : (s.modLife n f).verifyQ = s.verifyQ := rfl
@[simp] theorem State.modLife_gates (s : State) (n : Nat) (f : Life → Life) : (s.modLife n f).gates = s.gates := rfl
@[simp] theorem State.modLife_cells (s : State) (n : Nat) (f : Life → Life) : (s.modLife n f).cells = s.cells := rfl
@[simp] theorem State.modLife_cars (s : State) (n : Nat) (f : Life → Life) : (s.modLife n f).cars = s.cars := rfl
@[simp] theorem State.modLife_legs (s : State) (n : Nat) (f : Life → Life) : (s.modLife n f).legs = s.legs := rfl
@[simp] theorem State.modLife_groupPend (s : State) (n : Nat) (f : Life → Life) : (s.modLife n f).groupPend = s.groupPend := rfl
@[simp] theorem State.modLife_ctxs (s : State) (n : Nat) (f : Life → Life) : (s.modLife n f).ctxs = s.ctxs := rfl
@[simp] theorem State.modLife_eng (s : State) (n : Nat) (f : Life → Life) : (s.modLife n f).eng = s.eng := rfl
@[simp] theorem State.modLife_met (s : State) (n : Nat) (f : Life → Life) : (s.modLife n f).met = s.met := rfl
@[simp] theorem State.modLife_wf (s : State) (n : Nat) (f : Life → Life) : (s.modLife n f).wf = s.wf := rfl
@[simp] theorem State.modLife_strs (s : State) (n : Nat) (f : Life → Life) : (s.modLife n f).strs = s.strs := rfl
@[simp] theorem State.modLife_dx (s : State) (n : Nat) (f : Life → Life) : (s.modLife n f).dx = s.dx := rfl
@[simp] theorem State.modLife_fc (s : State) (n : Nat) (f : Life → Life) : (s.modLife n f).fc = s.fc := rfl
@[simp] theorem State.modLife_spine (s : State) (n : Nat) (f : Life → Life) : (s.modLife n f).spine = s.spine := rfl
@[simp] theorem State.modLife_recd (s : State) (n : Nat) (f : Life → Life) : (s.modLife n f).recd = s.recd := rfl
@[simp] theorem State.modLife_mram (s : State) (n : Nat) (f : Life → Life) : (s.modLife n f).mram = s.mram := rfl
@[simp] theorem State.modLife_saving (s : State) (n : Nat) (f : Life → Life) : (s.modLife n f).saving = s.saving := rfl
@[simp] theorem State.modLife_th (s : State) (n : Nat) (f : Life → Life) : (s.modLife n f).th = s.th := rfl
@[simp] theorem State.modLife_net (s : State) (n : Nat) (f : Life → Life) : (s.modLife n f).net = s.net := rfl
@[simp] theorem State.modLife_sec (s : State) (n : Nat) (f : Life → Life) : (s.modLife n f).sec = s.sec := rfl
@[simp] theorem State.modLife_store (s : State) (n : Nat) (f : Life → Life) : (s.modLife n f).store = s.store := rfl
@[simp] theorem State.setHist_pending (s : State) (i : Nat) (l : Option Life) : (s.setHist i l).pending = s.pending := rfl
@[simp] theorem State.setHist_regs (s : State) (i : Nat) (l : Option Life) : (s.setHist i l).regs = s.regs := rfl
@[simp] theorem State.setHist_freeCount (s : State) (i : Nat) (l : Option Life) : (s.setHist i l).freeCount = s.freeCount := rfl
@[simp] theorem State.setHist_now (s : State) (i : Nat) (l : Option Life) : (s.setHist i l).now = s.now := rfl
@[simp] theorem State.setHist_cyc (s : State) (i : Nat) (l : Option Life) : (s.setHist i l).cyc = s.cyc := rfl
@[simp] theorem State.setHist_pw (s : State) (i : Nat) (l : Option Life) : (s.setHist i l).pw = s.pw := rfl
@[simp] theorem State.setHist_clk (s : State) (i : Nat) (l : Option Life) : (s.setHist i l).clk = s.clk := rfl
@[simp] theorem State.setHist_ts (s : State) (i : Nat) (l : Option Life) : (s.setHist i l).ts = s.ts := rfl
@[simp] theorem State.setHist_lanes (s : State) (i : Nat) (l : Option Life) : (s.setHist i l).lanes = s.lanes := rfl
@[simp] theorem State.setHist_prbs (s : State) (i : Nat) (l : Option Life) : (s.setHist i l).prbs = s.prbs := rfl
@[simp] theorem State.setHist_links (s : State) (i : Nat) (l : Option Life) : (s.setHist i l).links = s.links := rfl
@[simp] theorem State.setHist_verifyQ (s : State) (i : Nat) (l : Option Life) : (s.setHist i l).verifyQ = s.verifyQ := rfl
@[simp] theorem State.setHist_gates (s : State) (i : Nat) (l : Option Life) : (s.setHist i l).gates = s.gates := rfl
@[simp] theorem State.setHist_cells (s : State) (i : Nat) (l : Option Life) : (s.setHist i l).cells = s.cells := rfl
@[simp] theorem State.setHist_cars (s : State) (i : Nat) (l : Option Life) : (s.setHist i l).cars = s.cars := rfl
@[simp] theorem State.setHist_legs (s : State) (i : Nat) (l : Option Life) : (s.setHist i l).legs = s.legs := rfl
@[simp] theorem State.setHist_groupPend (s : State) (i : Nat) (l : Option Life) : (s.setHist i l).groupPend = s.groupPend := rfl
@[simp] theorem State.setHist_ctxs (s : State) (i : Nat) (l : Option Life) : (s.setHist i l).ctxs = s.ctxs := rfl
@[simp] theorem State.setHist_eng (s : State) (i : Nat) (l : Option Life) : (s.setHist i l).eng = s.eng := rfl
@[simp] theorem State.setHist_met (s : State) (i : Nat) (l : Option Life) : (s.setHist i l).met = s.met := rfl
@[simp] theorem State.setHist_wf (s : State) (i : Nat) (l : Option Life) : (s.setHist i l).wf = s.wf := rfl
@[simp] theorem State.setHist_strs (s : State) (i : Nat) (l : Option Life) : (s.setHist i l).strs = s.strs := rfl
@[simp] theorem State.setHist_dx (s : State) (i : Nat) (l : Option Life) : (s.setHist i l).dx = s.dx := rfl
@[simp] theorem State.setHist_fc (s : State) (i : Nat) (l : Option Life) : (s.setHist i l).fc = s.fc := rfl
@[simp] theorem State.setHist_spine (s : State) (i : Nat) (l : Option Life) : (s.setHist i l).spine = s.spine := rfl
@[simp] theorem State.setHist_recd (s : State) (i : Nat) (l : Option Life) : (s.setHist i l).recd = s.recd := rfl
@[simp] theorem State.setHist_ledger (s : State) (i : Nat) (l : Option Life) : (s.setHist i l).ledger = s.ledger := rfl
@[simp] theorem State.setHist_saving (s : State) (i : Nat) (l : Option Life) : (s.setHist i l).saving = s.saving := rfl
@[simp] theorem State.setHist_th (s : State) (i : Nat) (l : Option Life) : (s.setHist i l).th = s.th := rfl
@[simp] theorem State.setHist_net (s : State) (i : Nat) (l : Option Life) : (s.setHist i l).net = s.net := rfl
@[simp] theorem State.setHist_sec (s : State) (i : Nat) (l : Option Life) : (s.setHist i l).sec = s.sec := rfl
@[simp] theorem State.setHist_store (s : State) (i : Nat) (l : Option Life) : (s.setHist i l).store = s.store := rfl
@[simp] theorem State.setSlot_pending (s : State) (i : Nat) (x : RecSlot) : (s.setSlot i x).pending = s.pending := rfl
@[simp] theorem State.setSlot_regs (s : State) (i : Nat) (x : RecSlot) : (s.setSlot i x).regs = s.regs := rfl
@[simp] theorem State.setSlot_freeCount (s : State) (i : Nat) (x : RecSlot) : (s.setSlot i x).freeCount = s.freeCount := rfl
@[simp] theorem State.setSlot_now (s : State) (i : Nat) (x : RecSlot) : (s.setSlot i x).now = s.now := rfl
@[simp] theorem State.setSlot_cyc (s : State) (i : Nat) (x : RecSlot) : (s.setSlot i x).cyc = s.cyc := rfl
@[simp] theorem State.setSlot_pw (s : State) (i : Nat) (x : RecSlot) : (s.setSlot i x).pw = s.pw := rfl
@[simp] theorem State.setSlot_clk (s : State) (i : Nat) (x : RecSlot) : (s.setSlot i x).clk = s.clk := rfl
@[simp] theorem State.setSlot_ts (s : State) (i : Nat) (x : RecSlot) : (s.setSlot i x).ts = s.ts := rfl
@[simp] theorem State.setSlot_lanes (s : State) (i : Nat) (x : RecSlot) : (s.setSlot i x).lanes = s.lanes := rfl
@[simp] theorem State.setSlot_prbs (s : State) (i : Nat) (x : RecSlot) : (s.setSlot i x).prbs = s.prbs := rfl
@[simp] theorem State.setSlot_links (s : State) (i : Nat) (x : RecSlot) : (s.setSlot i x).links = s.links := rfl
@[simp] theorem State.setSlot_verifyQ (s : State) (i : Nat) (x : RecSlot) : (s.setSlot i x).verifyQ = s.verifyQ := rfl
@[simp] theorem State.setSlot_gates (s : State) (i : Nat) (x : RecSlot) : (s.setSlot i x).gates = s.gates := rfl
@[simp] theorem State.setSlot_cells (s : State) (i : Nat) (x : RecSlot) : (s.setSlot i x).cells = s.cells := rfl
@[simp] theorem State.setSlot_cars (s : State) (i : Nat) (x : RecSlot) : (s.setSlot i x).cars = s.cars := rfl
@[simp] theorem State.setSlot_legs (s : State) (i : Nat) (x : RecSlot) : (s.setSlot i x).legs = s.legs := rfl
@[simp] theorem State.setSlot_groupPend (s : State) (i : Nat) (x : RecSlot) : (s.setSlot i x).groupPend = s.groupPend := rfl
@[simp] theorem State.setSlot_ctxs (s : State) (i : Nat) (x : RecSlot) : (s.setSlot i x).ctxs = s.ctxs := rfl
@[simp] theorem State.setSlot_eng (s : State) (i : Nat) (x : RecSlot) : (s.setSlot i x).eng = s.eng := rfl
@[simp] theorem State.setSlot_met (s : State) (i : Nat) (x : RecSlot) : (s.setSlot i x).met = s.met := rfl
@[simp] theorem State.setSlot_wf (s : State) (i : Nat) (x : RecSlot) : (s.setSlot i x).wf = s.wf := rfl
@[simp] theorem State.setSlot_strs (s : State) (i : Nat) (x : RecSlot) : (s.setSlot i x).strs = s.strs := rfl
@[simp] theorem State.setSlot_dx (s : State) (i : Nat) (x : RecSlot) : (s.setSlot i x).dx = s.dx := rfl
@[simp] theorem State.setSlot_fc (s : State) (i : Nat) (x : RecSlot) : (s.setSlot i x).fc = s.fc := rfl
@[simp] theorem State.setSlot_spine (s : State) (i : Nat) (x : RecSlot) : (s.setSlot i x).spine = s.spine := rfl
@[simp] theorem State.setSlot_recd (s : State) (i : Nat) (x : RecSlot) : (s.setSlot i x).recd = s.recd := rfl
@[simp] theorem State.setSlot_ledger (s : State) (i : Nat) (x : RecSlot) : (s.setSlot i x).ledger = s.ledger := rfl
@[simp] theorem State.setSlot_saving (s : State) (i : Nat) (x : RecSlot) : (s.setSlot i x).saving = s.saving := rfl
@[simp] theorem State.setSlot_th (s : State) (i : Nat) (x : RecSlot) : (s.setSlot i x).th = s.th := rfl
@[simp] theorem State.setSlot_net (s : State) (i : Nat) (x : RecSlot) : (s.setSlot i x).net = s.net := rfl
@[simp] theorem State.setSlot_sec (s : State) (i : Nat) (x : RecSlot) : (s.setSlot i x).sec = s.sec := rfl
@[simp] theorem State.setSlot_store (s : State) (i : Nat) (x : RecSlot) : (s.setSlot i x).store = s.store := rfl
@[simp] theorem State.goto_pending (s : State) (d : DevState) : (s.goto d).pending = s.pending := rfl
@[simp] theorem State.goto_regs (s : State) (d : DevState) : (s.goto d).regs = s.regs := rfl
@[simp] theorem State.goto_freeCount (s : State) (d : DevState) : (s.goto d).freeCount = s.freeCount := rfl
@[simp] theorem State.goto_now (s : State) (d : DevState) : (s.goto d).now = s.now := rfl
@[simp] theorem State.goto_cyc (s : State) (d : DevState) : (s.goto d).cyc = s.cyc := rfl
@[simp] theorem State.goto_clk (s : State) (d : DevState) : (s.goto d).clk = s.clk := rfl
@[simp] theorem State.goto_ts (s : State) (d : DevState) : (s.goto d).ts = s.ts := rfl
@[simp] theorem State.goto_lanes (s : State) (d : DevState) : (s.goto d).lanes = s.lanes := rfl
@[simp] theorem State.goto_prbs (s : State) (d : DevState) : (s.goto d).prbs = s.prbs := rfl
@[simp] theorem State.goto_links (s : State) (d : DevState) : (s.goto d).links = s.links := rfl
@[simp] theorem State.goto_verifyQ (s : State) (d : DevState) : (s.goto d).verifyQ = s.verifyQ := rfl
@[simp] theorem State.goto_gates (s : State) (d : DevState) : (s.goto d).gates = s.gates := rfl
@[simp] theorem State.goto_cells (s : State) (d : DevState) : (s.goto d).cells = s.cells := rfl
@[simp] theorem State.goto_cars (s : State) (d : DevState) : (s.goto d).cars = s.cars := rfl
@[simp] theorem State.goto_legs (s : State) (d : DevState) : (s.goto d).legs = s.legs := rfl
@[simp] theorem State.goto_groupPend (s : State) (d : DevState) : (s.goto d).groupPend = s.groupPend := rfl
@[simp] theorem State.goto_ctxs (s : State) (d : DevState) : (s.goto d).ctxs = s.ctxs := rfl
@[simp] theorem State.goto_eng (s : State) (d : DevState) : (s.goto d).eng = s.eng := rfl
@[simp] theorem State.goto_met (s : State) (d : DevState) : (s.goto d).met = s.met := rfl
@[simp] theorem State.goto_wf (s : State) (d : DevState) : (s.goto d).wf = s.wf := rfl
@[simp] theorem State.goto_strs (s : State) (d : DevState) : (s.goto d).strs = s.strs := rfl
@[simp] theorem State.goto_dx (s : State) (d : DevState) : (s.goto d).dx = s.dx := rfl
@[simp] theorem State.goto_fc (s : State) (d : DevState) : (s.goto d).fc = s.fc := rfl
@[simp] theorem State.goto_spine (s : State) (d : DevState) : (s.goto d).spine = s.spine := rfl
@[simp] theorem State.goto_recd (s : State) (d : DevState) : (s.goto d).recd = s.recd := rfl
@[simp] theorem State.goto_mram (s : State) (d : DevState) : (s.goto d).mram = s.mram := rfl
@[simp] theorem State.goto_ledger (s : State) (d : DevState) : (s.goto d).ledger = s.ledger := rfl
@[simp] theorem State.goto_saving (s : State) (d : DevState) : (s.goto d).saving = s.saving := rfl
@[simp] theorem State.goto_th (s : State) (d : DevState) : (s.goto d).th = s.th := rfl
@[simp] theorem State.goto_net (s : State) (d : DevState) : (s.goto d).net = s.net := rfl
@[simp] theorem State.goto_sec (s : State) (d : DevState) : (s.goto d).sec = s.sec := rfl
@[simp] theorem State.goto_store (s : State) (d : DevState) : (s.goto d).store = s.store := rfl
@[simp] theorem State.setStage_pending (s : State) (n : Nat) : (s.setStage n).pending = s.pending := rfl
@[simp] theorem State.setStage_regs (s : State) (n : Nat) : (s.setStage n).regs = s.regs := rfl
@[simp] theorem State.setStage_freeCount (s : State) (n : Nat) : (s.setStage n).freeCount = s.freeCount := rfl
@[simp] theorem State.setStage_now (s : State) (n : Nat) : (s.setStage n).now = s.now := rfl
@[simp] theorem State.setStage_cyc (s : State) (n : Nat) : (s.setStage n).cyc = s.cyc := rfl
@[simp] theorem State.setStage_clk (s : State) (n : Nat) : (s.setStage n).clk = s.clk := rfl
@[simp] theorem State.setStage_ts (s : State) (n : Nat) : (s.setStage n).ts = s.ts := rfl
@[simp] theorem State.setStage_lanes (s : State) (n : Nat) : (s.setStage n).lanes = s.lanes := rfl
@[simp] theorem State.setStage_prbs (s : State) (n : Nat) : (s.setStage n).prbs = s.prbs := rfl
@[simp] theorem State.setStage_links (s : State) (n : Nat) : (s.setStage n).links = s.links := rfl
@[simp] theorem State.setStage_verifyQ (s : State) (n : Nat) : (s.setStage n).verifyQ = s.verifyQ := rfl
@[simp] theorem State.setStage_gates (s : State) (n : Nat) : (s.setStage n).gates = s.gates := rfl
@[simp] theorem State.setStage_cells (s : State) (n : Nat) : (s.setStage n).cells = s.cells := rfl
@[simp] theorem State.setStage_cars (s : State) (n : Nat) : (s.setStage n).cars = s.cars := rfl
@[simp] theorem State.setStage_legs (s : State) (n : Nat) : (s.setStage n).legs = s.legs := rfl
@[simp] theorem State.setStage_groupPend (s : State) (n : Nat) : (s.setStage n).groupPend = s.groupPend := rfl
@[simp] theorem State.setStage_ctxs (s : State) (n : Nat) : (s.setStage n).ctxs = s.ctxs := rfl
@[simp] theorem State.setStage_eng (s : State) (n : Nat) : (s.setStage n).eng = s.eng := rfl
@[simp] theorem State.setStage_met (s : State) (n : Nat) : (s.setStage n).met = s.met := rfl
@[simp] theorem State.setStage_wf (s : State) (n : Nat) : (s.setStage n).wf = s.wf := rfl
@[simp] theorem State.setStage_strs (s : State) (n : Nat) : (s.setStage n).strs = s.strs := rfl
@[simp] theorem State.setStage_dx (s : State) (n : Nat) : (s.setStage n).dx = s.dx := rfl
@[simp] theorem State.setStage_fc (s : State) (n : Nat) : (s.setStage n).fc = s.fc := rfl
@[simp] theorem State.setStage_spine (s : State) (n : Nat) : (s.setStage n).spine = s.spine := rfl
@[simp] theorem State.setStage_recd (s : State) (n : Nat) : (s.setStage n).recd = s.recd := rfl
@[simp] theorem State.setStage_mram (s : State) (n : Nat) : (s.setStage n).mram = s.mram := rfl
@[simp] theorem State.setStage_ledger (s : State) (n : Nat) : (s.setStage n).ledger = s.ledger := rfl
@[simp] theorem State.setStage_saving (s : State) (n : Nat) : (s.setStage n).saving = s.saving := rfl
@[simp] theorem State.setStage_th (s : State) (n : Nat) : (s.setStage n).th = s.th := rfl
@[simp] theorem State.setStage_net (s : State) (n : Nat) : (s.setStage n).net = s.net := rfl
@[simp] theorem State.setStage_sec (s : State) (n : Nat) : (s.setStage n).sec = s.sec := rfl
@[simp] theorem State.setStage_store (s : State) (n : Nat) : (s.setStage n).store = s.store := rfl
@[simp] theorem State.modSpl_pending (s : State) (i : Nat) (f : SpLane → SpLane) : (s.modSpl i f).pending = s.pending := rfl
@[simp] theorem State.modSpl_regs (s : State) (i : Nat) (f : SpLane → SpLane) : (s.modSpl i f).regs = s.regs := rfl
@[simp] theorem State.modSpl_freeCount (s : State) (i : Nat) (f : SpLane → SpLane) : (s.modSpl i f).freeCount = s.freeCount := rfl
@[simp] theorem State.modSpl_now (s : State) (i : Nat) (f : SpLane → SpLane) : (s.modSpl i f).now = s.now := rfl
@[simp] theorem State.modSpl_cyc (s : State) (i : Nat) (f : SpLane → SpLane) : (s.modSpl i f).cyc = s.cyc := rfl
@[simp] theorem State.modSpl_pw (s : State) (i : Nat) (f : SpLane → SpLane) : (s.modSpl i f).pw = s.pw := rfl
@[simp] theorem State.modSpl_clk (s : State) (i : Nat) (f : SpLane → SpLane) : (s.modSpl i f).clk = s.clk := rfl
@[simp] theorem State.modSpl_ts (s : State) (i : Nat) (f : SpLane → SpLane) : (s.modSpl i f).ts = s.ts := rfl
@[simp] theorem State.modSpl_lanes (s : State) (i : Nat) (f : SpLane → SpLane) : (s.modSpl i f).lanes = s.lanes := rfl
@[simp] theorem State.modSpl_prbs (s : State) (i : Nat) (f : SpLane → SpLane) : (s.modSpl i f).prbs = s.prbs := rfl
@[simp] theorem State.modSpl_links (s : State) (i : Nat) (f : SpLane → SpLane) : (s.modSpl i f).links = s.links := rfl
@[simp] theorem State.modSpl_verifyQ (s : State) (i : Nat) (f : SpLane → SpLane) : (s.modSpl i f).verifyQ = s.verifyQ := rfl
@[simp] theorem State.modSpl_gates (s : State) (i : Nat) (f : SpLane → SpLane) : (s.modSpl i f).gates = s.gates := rfl
@[simp] theorem State.modSpl_cells (s : State) (i : Nat) (f : SpLane → SpLane) : (s.modSpl i f).cells = s.cells := rfl
@[simp] theorem State.modSpl_cars (s : State) (i : Nat) (f : SpLane → SpLane) : (s.modSpl i f).cars = s.cars := rfl
@[simp] theorem State.modSpl_legs (s : State) (i : Nat) (f : SpLane → SpLane) : (s.modSpl i f).legs = s.legs := rfl
@[simp] theorem State.modSpl_groupPend (s : State) (i : Nat) (f : SpLane → SpLane) : (s.modSpl i f).groupPend = s.groupPend := rfl
@[simp] theorem State.modSpl_ctxs (s : State) (i : Nat) (f : SpLane → SpLane) : (s.modSpl i f).ctxs = s.ctxs := rfl
@[simp] theorem State.modSpl_eng (s : State) (i : Nat) (f : SpLane → SpLane) : (s.modSpl i f).eng = s.eng := rfl
@[simp] theorem State.modSpl_met (s : State) (i : Nat) (f : SpLane → SpLane) : (s.modSpl i f).met = s.met := rfl
@[simp] theorem State.modSpl_wf (s : State) (i : Nat) (f : SpLane → SpLane) : (s.modSpl i f).wf = s.wf := rfl
@[simp] theorem State.modSpl_strs (s : State) (i : Nat) (f : SpLane → SpLane) : (s.modSpl i f).strs = s.strs := rfl
@[simp] theorem State.modSpl_dx (s : State) (i : Nat) (f : SpLane → SpLane) : (s.modSpl i f).dx = s.dx := rfl
@[simp] theorem State.modSpl_fc (s : State) (i : Nat) (f : SpLane → SpLane) : (s.modSpl i f).fc = s.fc := rfl
@[simp] theorem State.modSpl_recd (s : State) (i : Nat) (f : SpLane → SpLane) : (s.modSpl i f).recd = s.recd := rfl
@[simp] theorem State.modSpl_mram (s : State) (i : Nat) (f : SpLane → SpLane) : (s.modSpl i f).mram = s.mram := rfl
@[simp] theorem State.modSpl_ledger (s : State) (i : Nat) (f : SpLane → SpLane) : (s.modSpl i f).ledger = s.ledger := rfl
@[simp] theorem State.modSpl_saving (s : State) (i : Nat) (f : SpLane → SpLane) : (s.modSpl i f).saving = s.saving := rfl
@[simp] theorem State.modSpl_th (s : State) (i : Nat) (f : SpLane → SpLane) : (s.modSpl i f).th = s.th := rfl
@[simp] theorem State.modSpl_net (s : State) (i : Nat) (f : SpLane → SpLane) : (s.modSpl i f).net = s.net := rfl
@[simp] theorem State.modSpl_sec (s : State) (i : Nat) (f : SpLane → SpLane) : (s.modSpl i f).sec = s.sec := rfl
@[simp] theorem State.modSpl_store (s : State) (i : Nat) (f : SpLane → SpLane) : (s.modSpl i f).store = s.store := rfl
@[simp] theorem State.modCyc_pending (s : State) (f : CoreCycle → CoreCycle) : (s.modCyc f).pending = s.pending := rfl
@[simp] theorem State.modCyc_regs (s : State) (f : CoreCycle → CoreCycle) : (s.modCyc f).regs = s.regs := rfl
@[simp] theorem State.modCyc_freeCount (s : State) (f : CoreCycle → CoreCycle) : (s.modCyc f).freeCount = s.freeCount := rfl
@[simp] theorem State.modCyc_now (s : State) (f : CoreCycle → CoreCycle) : (s.modCyc f).now = s.now := rfl
@[simp] theorem State.modCyc_pw (s : State) (f : CoreCycle → CoreCycle) : (s.modCyc f).pw = s.pw := rfl
@[simp] theorem State.modCyc_clk (s : State) (f : CoreCycle → CoreCycle) : (s.modCyc f).clk = s.clk := rfl
@[simp] theorem State.modCyc_ts (s : State) (f : CoreCycle → CoreCycle) : (s.modCyc f).ts = s.ts := rfl
@[simp] theorem State.modCyc_lanes (s : State) (f : CoreCycle → CoreCycle) : (s.modCyc f).lanes = s.lanes := rfl
@[simp] theorem State.modCyc_prbs (s : State) (f : CoreCycle → CoreCycle) : (s.modCyc f).prbs = s.prbs := rfl
@[simp] theorem State.modCyc_links (s : State) (f : CoreCycle → CoreCycle) : (s.modCyc f).links = s.links := rfl
@[simp] theorem State.modCyc_verifyQ (s : State) (f : CoreCycle → CoreCycle) : (s.modCyc f).verifyQ = s.verifyQ := rfl
@[simp] theorem State.modCyc_gates (s : State) (f : CoreCycle → CoreCycle) : (s.modCyc f).gates = s.gates := rfl
@[simp] theorem State.modCyc_cells (s : State) (f : CoreCycle → CoreCycle) : (s.modCyc f).cells = s.cells := rfl
@[simp] theorem State.modCyc_cars (s : State) (f : CoreCycle → CoreCycle) : (s.modCyc f).cars = s.cars := rfl
@[simp] theorem State.modCyc_legs (s : State) (f : CoreCycle → CoreCycle) : (s.modCyc f).legs = s.legs := rfl
@[simp] theorem State.modCyc_groupPend (s : State) (f : CoreCycle → CoreCycle) : (s.modCyc f).groupPend = s.groupPend := rfl
@[simp] theorem State.modCyc_ctxs (s : State) (f : CoreCycle → CoreCycle) : (s.modCyc f).ctxs = s.ctxs := rfl
@[simp] theorem State.modCyc_eng (s : State) (f : CoreCycle → CoreCycle) : (s.modCyc f).eng = s.eng := rfl
@[simp] theorem State.modCyc_met (s : State) (f : CoreCycle → CoreCycle) : (s.modCyc f).met = s.met := rfl
@[simp] theorem State.modCyc_wf (s : State) (f : CoreCycle → CoreCycle) : (s.modCyc f).wf = s.wf := rfl
@[simp] theorem State.modCyc_strs (s : State) (f : CoreCycle → CoreCycle) : (s.modCyc f).strs = s.strs := rfl
@[simp] theorem State.modCyc_dx (s : State) (f : CoreCycle → CoreCycle) : (s.modCyc f).dx = s.dx := rfl
@[simp] theorem State.modCyc_fc (s : State) (f : CoreCycle → CoreCycle) : (s.modCyc f).fc = s.fc := rfl
@[simp] theorem State.modCyc_spine (s : State) (f : CoreCycle → CoreCycle) : (s.modCyc f).spine = s.spine := rfl
@[simp] theorem State.modCyc_recd (s : State) (f : CoreCycle → CoreCycle) : (s.modCyc f).recd = s.recd := rfl
@[simp] theorem State.modCyc_mram (s : State) (f : CoreCycle → CoreCycle) : (s.modCyc f).mram = s.mram := rfl
@[simp] theorem State.modCyc_ledger (s : State) (f : CoreCycle → CoreCycle) : (s.modCyc f).ledger = s.ledger := rfl
@[simp] theorem State.modCyc_saving (s : State) (f : CoreCycle → CoreCycle) : (s.modCyc f).saving = s.saving := rfl
@[simp] theorem State.modCyc_th (s : State) (f : CoreCycle → CoreCycle) : (s.modCyc f).th = s.th := rfl
@[simp] theorem State.modCyc_net (s : State) (f : CoreCycle → CoreCycle) : (s.modCyc f).net = s.net := rfl
@[simp] theorem State.modCyc_sec (s : State) (f : CoreCycle → CoreCycle) : (s.modCyc f).sec = s.sec := rfl
@[simp] theorem State.modCyc_store (s : State) (f : CoreCycle → CoreCycle) : (s.modCyc f).store = s.store := rfl
@[simp] theorem State.modCyc_cyc (s : State) (f : CoreCycle → CoreCycle) : (s.modCyc f).cyc = f s.cyc := rfl
@[simp] theorem State.modClk_pending (s : State) (f : Clk → Clk) : (s.modClk f).pending = s.pending := rfl
@[simp] theorem State.modClk_regs (s : State) (f : Clk → Clk) : (s.modClk f).regs = s.regs := rfl
@[simp] theorem State.modClk_freeCount (s : State) (f : Clk → Clk) : (s.modClk f).freeCount = s.freeCount := rfl
@[simp] theorem State.modClk_now (s : State) (f : Clk → Clk) : (s.modClk f).now = s.now := rfl
@[simp] theorem State.modClk_cyc (s : State) (f : Clk → Clk) : (s.modClk f).cyc = s.cyc := rfl
@[simp] theorem State.modClk_pw (s : State) (f : Clk → Clk) : (s.modClk f).pw = s.pw := rfl
@[simp] theorem State.modClk_ts (s : State) (f : Clk → Clk) : (s.modClk f).ts = s.ts := rfl
@[simp] theorem State.modClk_lanes (s : State) (f : Clk → Clk) : (s.modClk f).lanes = s.lanes := rfl
@[simp] theorem State.modClk_prbs (s : State) (f : Clk → Clk) : (s.modClk f).prbs = s.prbs := rfl
@[simp] theorem State.modClk_links (s : State) (f : Clk → Clk) : (s.modClk f).links = s.links := rfl
@[simp] theorem State.modClk_verifyQ (s : State) (f : Clk → Clk) : (s.modClk f).verifyQ = s.verifyQ := rfl
@[simp] theorem State.modClk_gates (s : State) (f : Clk → Clk) : (s.modClk f).gates = s.gates := rfl
@[simp] theorem State.modClk_cells (s : State) (f : Clk → Clk) : (s.modClk f).cells = s.cells := rfl
@[simp] theorem State.modClk_cars (s : State) (f : Clk → Clk) : (s.modClk f).cars = s.cars := rfl
@[simp] theorem State.modClk_legs (s : State) (f : Clk → Clk) : (s.modClk f).legs = s.legs := rfl
@[simp] theorem State.modClk_groupPend (s : State) (f : Clk → Clk) : (s.modClk f).groupPend = s.groupPend := rfl
@[simp] theorem State.modClk_ctxs (s : State) (f : Clk → Clk) : (s.modClk f).ctxs = s.ctxs := rfl
@[simp] theorem State.modClk_eng (s : State) (f : Clk → Clk) : (s.modClk f).eng = s.eng := rfl
@[simp] theorem State.modClk_met (s : State) (f : Clk → Clk) : (s.modClk f).met = s.met := rfl
@[simp] theorem State.modClk_wf (s : State) (f : Clk → Clk) : (s.modClk f).wf = s.wf := rfl
@[simp] theorem State.modClk_strs (s : State) (f : Clk → Clk) : (s.modClk f).strs = s.strs := rfl
@[simp] theorem State.modClk_dx (s : State) (f : Clk → Clk) : (s.modClk f).dx = s.dx := rfl
@[simp] theorem State.modClk_fc (s : State) (f : Clk → Clk) : (s.modClk f).fc = s.fc := rfl
@[simp] theorem State.modClk_spine (s : State) (f : Clk → Clk) : (s.modClk f).spine = s.spine := rfl
@[simp] theorem State.modClk_recd (s : State) (f : Clk → Clk) : (s.modClk f).recd = s.recd := rfl
@[simp] theorem State.modClk_mram (s : State) (f : Clk → Clk) : (s.modClk f).mram = s.mram := rfl
@[simp] theorem State.modClk_ledger (s : State) (f : Clk → Clk) : (s.modClk f).ledger = s.ledger := rfl
@[simp] theorem State.modClk_saving (s : State) (f : Clk → Clk) : (s.modClk f).saving = s.saving := rfl
@[simp] theorem State.modClk_th (s : State) (f : Clk → Clk) : (s.modClk f).th = s.th := rfl
@[simp] theorem State.modClk_net (s : State) (f : Clk → Clk) : (s.modClk f).net = s.net := rfl
@[simp] theorem State.modClk_sec (s : State) (f : Clk → Clk) : (s.modClk f).sec = s.sec := rfl
@[simp] theorem State.modClk_store (s : State) (f : Clk → Clk) : (s.modClk f).store = s.store := rfl
@[simp] theorem State.modClk_clk (s : State) (f : Clk → Clk) : (s.modClk f).clk = f s.clk := rfl
@[simp] theorem State.modEng_pending (s : State) (f : Engine → Engine) : (s.modEng f).pending = s.pending := rfl
@[simp] theorem State.modEng_regs (s : State) (f : Engine → Engine) : (s.modEng f).regs = s.regs := rfl
@[simp] theorem State.modEng_freeCount (s : State) (f : Engine → Engine) : (s.modEng f).freeCount = s.freeCount := rfl
@[simp] theorem State.modEng_now (s : State) (f : Engine → Engine) : (s.modEng f).now = s.now := rfl
@[simp] theorem State.modEng_cyc (s : State) (f : Engine → Engine) : (s.modEng f).cyc = s.cyc := rfl
@[simp] theorem State.modEng_pw (s : State) (f : Engine → Engine) : (s.modEng f).pw = s.pw := rfl
@[simp] theorem State.modEng_clk (s : State) (f : Engine → Engine) : (s.modEng f).clk = s.clk := rfl
@[simp] theorem State.modEng_ts (s : State) (f : Engine → Engine) : (s.modEng f).ts = s.ts := rfl
@[simp] theorem State.modEng_lanes (s : State) (f : Engine → Engine) : (s.modEng f).lanes = s.lanes := rfl
@[simp] theorem State.modEng_prbs (s : State) (f : Engine → Engine) : (s.modEng f).prbs = s.prbs := rfl
@[simp] theorem State.modEng_links (s : State) (f : Engine → Engine) : (s.modEng f).links = s.links := rfl
@[simp] theorem State.modEng_verifyQ (s : State) (f : Engine → Engine) : (s.modEng f).verifyQ = s.verifyQ := rfl
@[simp] theorem State.modEng_gates (s : State) (f : Engine → Engine) : (s.modEng f).gates = s.gates := rfl
@[simp] theorem State.modEng_cells (s : State) (f : Engine → Engine) : (s.modEng f).cells = s.cells := rfl
@[simp] theorem State.modEng_cars (s : State) (f : Engine → Engine) : (s.modEng f).cars = s.cars := rfl
@[simp] theorem State.modEng_legs (s : State) (f : Engine → Engine) : (s.modEng f).legs = s.legs := rfl
@[simp] theorem State.modEng_groupPend (s : State) (f : Engine → Engine) : (s.modEng f).groupPend = s.groupPend := rfl
@[simp] theorem State.modEng_ctxs (s : State) (f : Engine → Engine) : (s.modEng f).ctxs = s.ctxs := rfl
@[simp] theorem State.modEng_met (s : State) (f : Engine → Engine) : (s.modEng f).met = s.met := rfl
@[simp] theorem State.modEng_wf (s : State) (f : Engine → Engine) : (s.modEng f).wf = s.wf := rfl
@[simp] theorem State.modEng_strs (s : State) (f : Engine → Engine) : (s.modEng f).strs = s.strs := rfl
@[simp] theorem State.modEng_dx (s : State) (f : Engine → Engine) : (s.modEng f).dx = s.dx := rfl
@[simp] theorem State.modEng_fc (s : State) (f : Engine → Engine) : (s.modEng f).fc = s.fc := rfl
@[simp] theorem State.modEng_spine (s : State) (f : Engine → Engine) : (s.modEng f).spine = s.spine := rfl
@[simp] theorem State.modEng_recd (s : State) (f : Engine → Engine) : (s.modEng f).recd = s.recd := rfl
@[simp] theorem State.modEng_mram (s : State) (f : Engine → Engine) : (s.modEng f).mram = s.mram := rfl
@[simp] theorem State.modEng_ledger (s : State) (f : Engine → Engine) : (s.modEng f).ledger = s.ledger := rfl
@[simp] theorem State.modEng_saving (s : State) (f : Engine → Engine) : (s.modEng f).saving = s.saving := rfl
@[simp] theorem State.modEng_th (s : State) (f : Engine → Engine) : (s.modEng f).th = s.th := rfl
@[simp] theorem State.modEng_net (s : State) (f : Engine → Engine) : (s.modEng f).net = s.net := rfl
@[simp] theorem State.modEng_sec (s : State) (f : Engine → Engine) : (s.modEng f).sec = s.sec := rfl
@[simp] theorem State.modEng_store (s : State) (f : Engine → Engine) : (s.modEng f).store = s.store := rfl
@[simp] theorem State.modEng_eng (s : State) (f : Engine → Engine) : (s.modEng f).eng = f s.eng := rfl
@[simp] theorem State.modMram_pending (s : State) (f : Mram → Mram) : (s.modMram f).pending = s.pending := rfl
@[simp] theorem State.modMram_regs (s : State) (f : Mram → Mram) : (s.modMram f).regs = s.regs := rfl
@[simp] theorem State.modMram_freeCount (s : State) (f : Mram → Mram) : (s.modMram f).freeCount = s.freeCount := rfl
@[simp] theorem State.modMram_now (s : State) (f : Mram → Mram) : (s.modMram f).now = s.now := rfl
@[simp] theorem State.modMram_cyc (s : State) (f : Mram → Mram) : (s.modMram f).cyc = s.cyc := rfl
@[simp] theorem State.modMram_pw (s : State) (f : Mram → Mram) : (s.modMram f).pw = s.pw := rfl
@[simp] theorem State.modMram_clk (s : State) (f : Mram → Mram) : (s.modMram f).clk = s.clk := rfl
@[simp] theorem State.modMram_ts (s : State) (f : Mram → Mram) : (s.modMram f).ts = s.ts := rfl
@[simp] theorem State.modMram_lanes (s : State) (f : Mram → Mram) : (s.modMram f).lanes = s.lanes := rfl
@[simp] theorem State.modMram_prbs (s : State) (f : Mram → Mram) : (s.modMram f).prbs = s.prbs := rfl
@[simp] theorem State.modMram_links (s : State) (f : Mram → Mram) : (s.modMram f).links = s.links := rfl
@[simp] theorem State.modMram_verifyQ (s : State) (f : Mram → Mram) : (s.modMram f).verifyQ = s.verifyQ := rfl
@[simp] theorem State.modMram_gates (s : State) (f : Mram → Mram) : (s.modMram f).gates = s.gates := rfl
@[simp] theorem State.modMram_cells (s : State) (f : Mram → Mram) : (s.modMram f).cells = s.cells := rfl
@[simp] theorem State.modMram_cars (s : State) (f : Mram → Mram) : (s.modMram f).cars = s.cars := rfl
@[simp] theorem State.modMram_legs (s : State) (f : Mram → Mram) : (s.modMram f).legs = s.legs := rfl
@[simp] theorem State.modMram_groupPend (s : State) (f : Mram → Mram) : (s.modMram f).groupPend = s.groupPend := rfl
@[simp] theorem State.modMram_ctxs (s : State) (f : Mram → Mram) : (s.modMram f).ctxs = s.ctxs := rfl
@[simp] theorem State.modMram_eng (s : State) (f : Mram → Mram) : (s.modMram f).eng = s.eng := rfl
@[simp] theorem State.modMram_met (s : State) (f : Mram → Mram) : (s.modMram f).met = s.met := rfl
@[simp] theorem State.modMram_wf (s : State) (f : Mram → Mram) : (s.modMram f).wf = s.wf := rfl
@[simp] theorem State.modMram_strs (s : State) (f : Mram → Mram) : (s.modMram f).strs = s.strs := rfl
@[simp] theorem State.modMram_dx (s : State) (f : Mram → Mram) : (s.modMram f).dx = s.dx := rfl
@[simp] theorem State.modMram_fc (s : State) (f : Mram → Mram) : (s.modMram f).fc = s.fc := rfl
@[simp] theorem State.modMram_spine (s : State) (f : Mram → Mram) : (s.modMram f).spine = s.spine := rfl
@[simp] theorem State.modMram_recd (s : State) (f : Mram → Mram) : (s.modMram f).recd = s.recd := rfl
@[simp] theorem State.modMram_ledger (s : State) (f : Mram → Mram) : (s.modMram f).ledger = s.ledger := rfl
@[simp] theorem State.modMram_saving (s : State) (f : Mram → Mram) : (s.modMram f).saving = s.saving := rfl
@[simp] theorem State.modMram_th (s : State) (f : Mram → Mram) : (s.modMram f).th = s.th := rfl
@[simp] theorem State.modMram_net (s : State) (f : Mram → Mram) : (s.modMram f).net = s.net := rfl
@[simp] theorem State.modMram_sec (s : State) (f : Mram → Mram) : (s.modMram f).sec = s.sec := rfl
@[simp] theorem State.modMram_store (s : State) (f : Mram → Mram) : (s.modMram f).store = s.store := rfl
@[simp] theorem State.modMram_mram (s : State) (f : Mram → Mram) : (s.modMram f).mram = f s.mram := rfl
@[simp] theorem State.modNet_pending (s : State) (f : Net → Net) : (s.modNet f).pending = s.pending := rfl
@[simp] theorem State.modNet_regs (s : State) (f : Net → Net) : (s.modNet f).regs = s.regs := rfl
@[simp] theorem State.modNet_freeCount (s : State) (f : Net → Net) : (s.modNet f).freeCount = s.freeCount := rfl
@[simp] theorem State.modNet_now (s : State) (f : Net → Net) : (s.modNet f).now = s.now := rfl
@[simp] theorem State.modNet_cyc (s : State) (f : Net → Net) : (s.modNet f).cyc = s.cyc := rfl
@[simp] theorem State.modNet_pw (s : State) (f : Net → Net) : (s.modNet f).pw = s.pw := rfl
@[simp] theorem State.modNet_clk (s : State) (f : Net → Net) : (s.modNet f).clk = s.clk := rfl
@[simp] theorem State.modNet_ts (s : State) (f : Net → Net) : (s.modNet f).ts = s.ts := rfl
@[simp] theorem State.modNet_lanes (s : State) (f : Net → Net) : (s.modNet f).lanes = s.lanes := rfl
@[simp] theorem State.modNet_prbs (s : State) (f : Net → Net) : (s.modNet f).prbs = s.prbs := rfl
@[simp] theorem State.modNet_links (s : State) (f : Net → Net) : (s.modNet f).links = s.links := rfl
@[simp] theorem State.modNet_verifyQ (s : State) (f : Net → Net) : (s.modNet f).verifyQ = s.verifyQ := rfl
@[simp] theorem State.modNet_gates (s : State) (f : Net → Net) : (s.modNet f).gates = s.gates := rfl
@[simp] theorem State.modNet_cells (s : State) (f : Net → Net) : (s.modNet f).cells = s.cells := rfl
@[simp] theorem State.modNet_cars (s : State) (f : Net → Net) : (s.modNet f).cars = s.cars := rfl
@[simp] theorem State.modNet_legs (s : State) (f : Net → Net) : (s.modNet f).legs = s.legs := rfl
@[simp] theorem State.modNet_groupPend (s : State) (f : Net → Net) : (s.modNet f).groupPend = s.groupPend := rfl
@[simp] theorem State.modNet_ctxs (s : State) (f : Net → Net) : (s.modNet f).ctxs = s.ctxs := rfl
@[simp] theorem State.modNet_eng (s : State) (f : Net → Net) : (s.modNet f).eng = s.eng := rfl
@[simp] theorem State.modNet_met (s : State) (f : Net → Net) : (s.modNet f).met = s.met := rfl
@[simp] theorem State.modNet_wf (s : State) (f : Net → Net) : (s.modNet f).wf = s.wf := rfl
@[simp] theorem State.modNet_strs (s : State) (f : Net → Net) : (s.modNet f).strs = s.strs := rfl
@[simp] theorem State.modNet_dx (s : State) (f : Net → Net) : (s.modNet f).dx = s.dx := rfl
@[simp] theorem State.modNet_fc (s : State) (f : Net → Net) : (s.modNet f).fc = s.fc := rfl
@[simp] theorem State.modNet_spine (s : State) (f : Net → Net) : (s.modNet f).spine = s.spine := rfl
@[simp] theorem State.modNet_recd (s : State) (f : Net → Net) : (s.modNet f).recd = s.recd := rfl
@[simp] theorem State.modNet_mram (s : State) (f : Net → Net) : (s.modNet f).mram = s.mram := rfl
@[simp] theorem State.modNet_ledger (s : State) (f : Net → Net) : (s.modNet f).ledger = s.ledger := rfl
@[simp] theorem State.modNet_saving (s : State) (f : Net → Net) : (s.modNet f).saving = s.saving := rfl
@[simp] theorem State.modNet_th (s : State) (f : Net → Net) : (s.modNet f).th = s.th := rfl
@[simp] theorem State.modNet_sec (s : State) (f : Net → Net) : (s.modNet f).sec = s.sec := rfl
@[simp] theorem State.modNet_store (s : State) (f : Net → Net) : (s.modNet f).store = s.store := rfl
@[simp] theorem State.modNet_net (s : State) (f : Net → Net) : (s.modNet f).net = f s.net := rfl
@[simp] theorem State.modMet_pending (s : State) (f : Met → Met) : (s.modMet f).pending = s.pending := rfl
@[simp] theorem State.modMet_regs (s : State) (f : Met → Met) : (s.modMet f).regs = s.regs := rfl
@[simp] theorem State.modMet_freeCount (s : State) (f : Met → Met) : (s.modMet f).freeCount = s.freeCount := rfl
@[simp] theorem State.modMet_now (s : State) (f : Met → Met) : (s.modMet f).now = s.now := rfl
@[simp] theorem State.modMet_cyc (s : State) (f : Met → Met) : (s.modMet f).cyc = s.cyc := rfl
@[simp] theorem State.modMet_pw (s : State) (f : Met → Met) : (s.modMet f).pw = s.pw := rfl
@[simp] theorem State.modMet_clk (s : State) (f : Met → Met) : (s.modMet f).clk = s.clk := rfl
@[simp] theorem State.modMet_ts (s : State) (f : Met → Met) : (s.modMet f).ts = s.ts := rfl
@[simp] theorem State.modMet_lanes (s : State) (f : Met → Met) : (s.modMet f).lanes = s.lanes := rfl
@[simp] theorem State.modMet_prbs (s : State) (f : Met → Met) : (s.modMet f).prbs = s.prbs := rfl
@[simp] theorem State.modMet_links (s : State) (f : Met → Met) : (s.modMet f).links = s.links := rfl
@[simp] theorem State.modMet_verifyQ (s : State) (f : Met → Met) : (s.modMet f).verifyQ = s.verifyQ := rfl
@[simp] theorem State.modMet_gates (s : State) (f : Met → Met) : (s.modMet f).gates = s.gates := rfl
@[simp] theorem State.modMet_cells (s : State) (f : Met → Met) : (s.modMet f).cells = s.cells := rfl
@[simp] theorem State.modMet_cars (s : State) (f : Met → Met) : (s.modMet f).cars = s.cars := rfl
@[simp] theorem State.modMet_legs (s : State) (f : Met → Met) : (s.modMet f).legs = s.legs := rfl
@[simp] theorem State.modMet_groupPend (s : State) (f : Met → Met) : (s.modMet f).groupPend = s.groupPend := rfl
@[simp] theorem State.modMet_ctxs (s : State) (f : Met → Met) : (s.modMet f).ctxs = s.ctxs := rfl
@[simp] theorem State.modMet_eng (s : State) (f : Met → Met) : (s.modMet f).eng = s.eng := rfl
@[simp] theorem State.modMet_wf (s : State) (f : Met → Met) : (s.modMet f).wf = s.wf := rfl
@[simp] theorem State.modMet_strs (s : State) (f : Met → Met) : (s.modMet f).strs = s.strs := rfl
@[simp] theorem State.modMet_dx (s : State) (f : Met → Met) : (s.modMet f).dx = s.dx := rfl
@[simp] theorem State.modMet_fc (s : State) (f : Met → Met) : (s.modMet f).fc = s.fc := rfl
@[simp] theorem State.modMet_spine (s : State) (f : Met → Met) : (s.modMet f).spine = s.spine := rfl
@[simp] theorem State.modMet_recd (s : State) (f : Met → Met) : (s.modMet f).recd = s.recd := rfl
@[simp] theorem State.modMet_mram (s : State) (f : Met → Met) : (s.modMet f).mram = s.mram := rfl
@[simp] theorem State.modMet_ledger (s : State) (f : Met → Met) : (s.modMet f).ledger = s.ledger := rfl
@[simp] theorem State.modMet_saving (s : State) (f : Met → Met) : (s.modMet f).saving = s.saving := rfl
@[simp] theorem State.modMet_th (s : State) (f : Met → Met) : (s.modMet f).th = s.th := rfl
@[simp] theorem State.modMet_net (s : State) (f : Met → Met) : (s.modMet f).net = s.net := rfl
@[simp] theorem State.modMet_sec (s : State) (f : Met → Met) : (s.modMet f).sec = s.sec := rfl
@[simp] theorem State.modMet_store (s : State) (f : Met → Met) : (s.modMet f).store = s.store := rfl
@[simp] theorem State.modMet_met (s : State) (f : Met → Met) : (s.modMet f).met = f s.met := rfl
@[simp] theorem State.modFc_pending (s : State) (f : Fc → Fc) : (s.modFc f).pending = s.pending := rfl
@[simp] theorem State.modFc_regs (s : State) (f : Fc → Fc) : (s.modFc f).regs = s.regs := rfl
@[simp] theorem State.modFc_freeCount (s : State) (f : Fc → Fc) : (s.modFc f).freeCount = s.freeCount := rfl
@[simp] theorem State.modFc_now (s : State) (f : Fc → Fc) : (s.modFc f).now = s.now := rfl
@[simp] theorem State.modFc_cyc (s : State) (f : Fc → Fc) : (s.modFc f).cyc = s.cyc := rfl
@[simp] theorem State.modFc_pw (s : State) (f : Fc → Fc) : (s.modFc f).pw = s.pw := rfl
@[simp] theorem State.modFc_clk (s : State) (f : Fc → Fc) : (s.modFc f).clk = s.clk := rfl
@[simp] theorem State.modFc_ts (s : State) (f : Fc → Fc) : (s.modFc f).ts = s.ts := rfl
@[simp] theorem State.modFc_lanes (s : State) (f : Fc → Fc) : (s.modFc f).lanes = s.lanes := rfl
@[simp] theorem State.modFc_prbs (s : State) (f : Fc → Fc) : (s.modFc f).prbs = s.prbs := rfl
@[simp] theorem State.modFc_links (s : State) (f : Fc → Fc) : (s.modFc f).links = s.links := rfl
@[simp] theorem State.modFc_verifyQ (s : State) (f : Fc → Fc) : (s.modFc f).verifyQ = s.verifyQ := rfl
@[simp] theorem State.modFc_gates (s : State) (f : Fc → Fc) : (s.modFc f).gates = s.gates := rfl
@[simp] theorem State.modFc_cells (s : State) (f : Fc → Fc) : (s.modFc f).cells = s.cells := rfl
@[simp] theorem State.modFc_cars (s : State) (f : Fc → Fc) : (s.modFc f).cars = s.cars := rfl
@[simp] theorem State.modFc_legs (s : State) (f : Fc → Fc) : (s.modFc f).legs = s.legs := rfl
@[simp] theorem State.modFc_groupPend (s : State) (f : Fc → Fc) : (s.modFc f).groupPend = s.groupPend := rfl
@[simp] theorem State.modFc_ctxs (s : State) (f : Fc → Fc) : (s.modFc f).ctxs = s.ctxs := rfl
@[simp] theorem State.modFc_eng (s : State) (f : Fc → Fc) : (s.modFc f).eng = s.eng := rfl
@[simp] theorem State.modFc_met (s : State) (f : Fc → Fc) : (s.modFc f).met = s.met := rfl
@[simp] theorem State.modFc_wf (s : State) (f : Fc → Fc) : (s.modFc f).wf = s.wf := rfl
@[simp] theorem State.modFc_strs (s : State) (f : Fc → Fc) : (s.modFc f).strs = s.strs := rfl
@[simp] theorem State.modFc_dx (s : State) (f : Fc → Fc) : (s.modFc f).dx = s.dx := rfl
@[simp] theorem State.modFc_spine (s : State) (f : Fc → Fc) : (s.modFc f).spine = s.spine := rfl
@[simp] theorem State.modFc_recd (s : State) (f : Fc → Fc) : (s.modFc f).recd = s.recd := rfl
@[simp] theorem State.modFc_mram (s : State) (f : Fc → Fc) : (s.modFc f).mram = s.mram := rfl
@[simp] theorem State.modFc_ledger (s : State) (f : Fc → Fc) : (s.modFc f).ledger = s.ledger := rfl
@[simp] theorem State.modFc_saving (s : State) (f : Fc → Fc) : (s.modFc f).saving = s.saving := rfl
@[simp] theorem State.modFc_th (s : State) (f : Fc → Fc) : (s.modFc f).th = s.th := rfl
@[simp] theorem State.modFc_net (s : State) (f : Fc → Fc) : (s.modFc f).net = s.net := rfl
@[simp] theorem State.modFc_sec (s : State) (f : Fc → Fc) : (s.modFc f).sec = s.sec := rfl
@[simp] theorem State.modFc_store (s : State) (f : Fc → Fc) : (s.modFc f).store = s.store := rfl
@[simp] theorem State.modFc_fc (s : State) (f : Fc → Fc) : (s.modFc f).fc = f s.fc := rfl
@[simp] theorem State.modPw_pending (s : State) (f : Power → Power) : (s.modPw f).pending = s.pending := rfl
@[simp] theorem State.modPw_regs (s : State) (f : Power → Power) : (s.modPw f).regs = s.regs := rfl
@[simp] theorem State.modPw_freeCount (s : State) (f : Power → Power) : (s.modPw f).freeCount = s.freeCount := rfl
@[simp] theorem State.modPw_now (s : State) (f : Power → Power) : (s.modPw f).now = s.now := rfl
@[simp] theorem State.modPw_cyc (s : State) (f : Power → Power) : (s.modPw f).cyc = s.cyc := rfl
@[simp] theorem State.modPw_clk (s : State) (f : Power → Power) : (s.modPw f).clk = s.clk := rfl
@[simp] theorem State.modPw_ts (s : State) (f : Power → Power) : (s.modPw f).ts = s.ts := rfl
@[simp] theorem State.modPw_lanes (s : State) (f : Power → Power) : (s.modPw f).lanes = s.lanes := rfl
@[simp] theorem State.modPw_prbs (s : State) (f : Power → Power) : (s.modPw f).prbs = s.prbs := rfl
@[simp] theorem State.modPw_links (s : State) (f : Power → Power) : (s.modPw f).links = s.links := rfl
@[simp] theorem State.modPw_verifyQ (s : State) (f : Power → Power) : (s.modPw f).verifyQ = s.verifyQ := rfl
@[simp] theorem State.modPw_gates (s : State) (f : Power → Power) : (s.modPw f).gates = s.gates := rfl
@[simp] theorem State.modPw_cells (s : State) (f : Power → Power) : (s.modPw f).cells = s.cells := rfl
@[simp] theorem State.modPw_cars (s : State) (f : Power → Power) : (s.modPw f).cars = s.cars := rfl
@[simp] theorem State.modPw_legs (s : State) (f : Power → Power) : (s.modPw f).legs = s.legs := rfl
@[simp] theorem State.modPw_groupPend (s : State) (f : Power → Power) : (s.modPw f).groupPend = s.groupPend := rfl
@[simp] theorem State.modPw_ctxs (s : State) (f : Power → Power) : (s.modPw f).ctxs = s.ctxs := rfl
@[simp] theorem State.modPw_eng (s : State) (f : Power → Power) : (s.modPw f).eng = s.eng := rfl
@[simp] theorem State.modPw_met (s : State) (f : Power → Power) : (s.modPw f).met = s.met := rfl
@[simp] theorem State.modPw_wf (s : State) (f : Power → Power) : (s.modPw f).wf = s.wf := rfl
@[simp] theorem State.modPw_strs (s : State) (f : Power → Power) : (s.modPw f).strs = s.strs := rfl
@[simp] theorem State.modPw_dx (s : State) (f : Power → Power) : (s.modPw f).dx = s.dx := rfl
@[simp] theorem State.modPw_fc (s : State) (f : Power → Power) : (s.modPw f).fc = s.fc := rfl
@[simp] theorem State.modPw_spine (s : State) (f : Power → Power) : (s.modPw f).spine = s.spine := rfl
@[simp] theorem State.modPw_recd (s : State) (f : Power → Power) : (s.modPw f).recd = s.recd := rfl
@[simp] theorem State.modPw_mram (s : State) (f : Power → Power) : (s.modPw f).mram = s.mram := rfl
@[simp] theorem State.modPw_ledger (s : State) (f : Power → Power) : (s.modPw f).ledger = s.ledger := rfl
@[simp] theorem State.modPw_saving (s : State) (f : Power → Power) : (s.modPw f).saving = s.saving := rfl
@[simp] theorem State.modPw_th (s : State) (f : Power → Power) : (s.modPw f).th = s.th := rfl
@[simp] theorem State.modPw_net (s : State) (f : Power → Power) : (s.modPw f).net = s.net := rfl
@[simp] theorem State.modPw_sec (s : State) (f : Power → Power) : (s.modPw f).sec = s.sec := rfl
@[simp] theorem State.modPw_store (s : State) (f : Power → Power) : (s.modPw f).store = s.store := rfl
@[simp] theorem State.modPw_pw (s : State) (f : Power → Power) : (s.modPw f).pw = f s.pw := rfl
@[simp] theorem State.modSec_pending (s : State) (f : Sec → Sec) : (s.modSec f).pending = s.pending := rfl
@[simp] theorem State.modSec_regs (s : State) (f : Sec → Sec) : (s.modSec f).regs = s.regs := rfl
@[simp] theorem State.modSec_freeCount (s : State) (f : Sec → Sec) : (s.modSec f).freeCount = s.freeCount := rfl
@[simp] theorem State.modSec_now (s : State) (f : Sec → Sec) : (s.modSec f).now = s.now := rfl
@[simp] theorem State.modSec_cyc (s : State) (f : Sec → Sec) : (s.modSec f).cyc = s.cyc := rfl
@[simp] theorem State.modSec_pw (s : State) (f : Sec → Sec) : (s.modSec f).pw = s.pw := rfl
@[simp] theorem State.modSec_clk (s : State) (f : Sec → Sec) : (s.modSec f).clk = s.clk := rfl
@[simp] theorem State.modSec_ts (s : State) (f : Sec → Sec) : (s.modSec f).ts = s.ts := rfl
@[simp] theorem State.modSec_lanes (s : State) (f : Sec → Sec) : (s.modSec f).lanes = s.lanes := rfl
@[simp] theorem State.modSec_prbs (s : State) (f : Sec → Sec) : (s.modSec f).prbs = s.prbs := rfl
@[simp] theorem State.modSec_links (s : State) (f : Sec → Sec) : (s.modSec f).links = s.links := rfl
@[simp] theorem State.modSec_verifyQ (s : State) (f : Sec → Sec) : (s.modSec f).verifyQ = s.verifyQ := rfl
@[simp] theorem State.modSec_gates (s : State) (f : Sec → Sec) : (s.modSec f).gates = s.gates := rfl
@[simp] theorem State.modSec_cells (s : State) (f : Sec → Sec) : (s.modSec f).cells = s.cells := rfl
@[simp] theorem State.modSec_cars (s : State) (f : Sec → Sec) : (s.modSec f).cars = s.cars := rfl
@[simp] theorem State.modSec_legs (s : State) (f : Sec → Sec) : (s.modSec f).legs = s.legs := rfl
@[simp] theorem State.modSec_groupPend (s : State) (f : Sec → Sec) : (s.modSec f).groupPend = s.groupPend := rfl
@[simp] theorem State.modSec_ctxs (s : State) (f : Sec → Sec) : (s.modSec f).ctxs = s.ctxs := rfl
@[simp] theorem State.modSec_eng (s : State) (f : Sec → Sec) : (s.modSec f).eng = s.eng := rfl
@[simp] theorem State.modSec_met (s : State) (f : Sec → Sec) : (s.modSec f).met = s.met := rfl
@[simp] theorem State.modSec_wf (s : State) (f : Sec → Sec) : (s.modSec f).wf = s.wf := rfl
@[simp] theorem State.modSec_strs (s : State) (f : Sec → Sec) : (s.modSec f).strs = s.strs := rfl
@[simp] theorem State.modSec_dx (s : State) (f : Sec → Sec) : (s.modSec f).dx = s.dx := rfl
@[simp] theorem State.modSec_fc (s : State) (f : Sec → Sec) : (s.modSec f).fc = s.fc := rfl
@[simp] theorem State.modSec_spine (s : State) (f : Sec → Sec) : (s.modSec f).spine = s.spine := rfl
@[simp] theorem State.modSec_recd (s : State) (f : Sec → Sec) : (s.modSec f).recd = s.recd := rfl
@[simp] theorem State.modSec_mram (s : State) (f : Sec → Sec) : (s.modSec f).mram = s.mram := rfl
@[simp] theorem State.modSec_ledger (s : State) (f : Sec → Sec) : (s.modSec f).ledger = s.ledger := rfl
@[simp] theorem State.modSec_saving (s : State) (f : Sec → Sec) : (s.modSec f).saving = s.saving := rfl
@[simp] theorem State.modSec_th (s : State) (f : Sec → Sec) : (s.modSec f).th = s.th := rfl
@[simp] theorem State.modSec_net (s : State) (f : Sec → Sec) : (s.modSec f).net = s.net := rfl
@[simp] theorem State.modSec_store (s : State) (f : Sec → Sec) : (s.modSec f).store = s.store := rfl
@[simp] theorem State.modSec_sec (s : State) (f : Sec → Sec) : (s.modSec f).sec = f s.sec := rfl
@[simp] theorem State.modTh_pending (s : State) (f : Therm → Therm) : (s.modTh f).pending = s.pending := rfl
@[simp] theorem State.modTh_regs (s : State) (f : Therm → Therm) : (s.modTh f).regs = s.regs := rfl
@[simp] theorem State.modTh_freeCount (s : State) (f : Therm → Therm) : (s.modTh f).freeCount = s.freeCount := rfl
@[simp] theorem State.modTh_now (s : State) (f : Therm → Therm) : (s.modTh f).now = s.now := rfl
@[simp] theorem State.modTh_cyc (s : State) (f : Therm → Therm) : (s.modTh f).cyc = s.cyc := rfl
@[simp] theorem State.modTh_pw (s : State) (f : Therm → Therm) : (s.modTh f).pw = s.pw := rfl
@[simp] theorem State.modTh_clk (s : State) (f : Therm → Therm) : (s.modTh f).clk = s.clk := rfl
@[simp] theorem State.modTh_ts (s : State) (f : Therm → Therm) : (s.modTh f).ts = s.ts := rfl
@[simp] theorem State.modTh_lanes (s : State) (f : Therm → Therm) : (s.modTh f).lanes = s.lanes := rfl
@[simp] theorem State.modTh_prbs (s : State) (f : Therm → Therm) : (s.modTh f).prbs = s.prbs := rfl
@[simp] theorem State.modTh_links (s : State) (f : Therm → Therm) : (s.modTh f).links = s.links := rfl
@[simp] theorem State.modTh_verifyQ (s : State) (f : Therm → Therm) : (s.modTh f).verifyQ = s.verifyQ := rfl
@[simp] theorem State.modTh_gates (s : State) (f : Therm → Therm) : (s.modTh f).gates = s.gates := rfl
@[simp] theorem State.modTh_cells (s : State) (f : Therm → Therm) : (s.modTh f).cells = s.cells := rfl
@[simp] theorem State.modTh_cars (s : State) (f : Therm → Therm) : (s.modTh f).cars = s.cars := rfl
@[simp] theorem State.modTh_legs (s : State) (f : Therm → Therm) : (s.modTh f).legs = s.legs := rfl
@[simp] theorem State.modTh_groupPend (s : State) (f : Therm → Therm) : (s.modTh f).groupPend = s.groupPend := rfl
@[simp] theorem State.modTh_ctxs (s : State) (f : Therm → Therm) : (s.modTh f).ctxs = s.ctxs := rfl
@[simp] theorem State.modTh_eng (s : State) (f : Therm → Therm) : (s.modTh f).eng = s.eng := rfl
@[simp] theorem State.modTh_met (s : State) (f : Therm → Therm) : (s.modTh f).met = s.met := rfl
@[simp] theorem State.modTh_wf (s : State) (f : Therm → Therm) : (s.modTh f).wf = s.wf := rfl
@[simp] theorem State.modTh_strs (s : State) (f : Therm → Therm) : (s.modTh f).strs = s.strs := rfl
@[simp] theorem State.modTh_dx (s : State) (f : Therm → Therm) : (s.modTh f).dx = s.dx := rfl
@[simp] theorem State.modTh_fc (s : State) (f : Therm → Therm) : (s.modTh f).fc = s.fc := rfl
@[simp] theorem State.modTh_spine (s : State) (f : Therm → Therm) : (s.modTh f).spine = s.spine := rfl
@[simp] theorem State.modTh_recd (s : State) (f : Therm → Therm) : (s.modTh f).recd = s.recd := rfl
@[simp] theorem State.modTh_mram (s : State) (f : Therm → Therm) : (s.modTh f).mram = s.mram := rfl
@[simp] theorem State.modTh_ledger (s : State) (f : Therm → Therm) : (s.modTh f).ledger = s.ledger := rfl
@[simp] theorem State.modTh_saving (s : State) (f : Therm → Therm) : (s.modTh f).saving = s.saving := rfl
@[simp] theorem State.modTh_net (s : State) (f : Therm → Therm) : (s.modTh f).net = s.net := rfl
@[simp] theorem State.modTh_sec (s : State) (f : Therm → Therm) : (s.modTh f).sec = s.sec := rfl
@[simp] theorem State.modTh_store (s : State) (f : Therm → Therm) : (s.modTh f).store = s.store := rfl
@[simp] theorem State.modTh_th (s : State) (f : Therm → Therm) : (s.modTh f).th = f s.th := rfl
@[simp] theorem State.modTs_pending (s : State) (f : Ts → Ts) : (s.modTs f).pending = s.pending := rfl
@[simp] theorem State.modTs_regs (s : State) (f : Ts → Ts) : (s.modTs f).regs = s.regs := rfl
@[simp] theorem State.modTs_freeCount (s : State) (f : Ts → Ts) : (s.modTs f).freeCount = s.freeCount := rfl
@[simp] theorem State.modTs_now (s : State) (f : Ts → Ts) : (s.modTs f).now = s.now := rfl
@[simp] theorem State.modTs_cyc (s : State) (f : Ts → Ts) : (s.modTs f).cyc = s.cyc := rfl
@[simp] theorem State.modTs_pw (s : State) (f : Ts → Ts) : (s.modTs f).pw = s.pw := rfl
@[simp] theorem State.modTs_clk (s : State) (f : Ts → Ts) : (s.modTs f).clk = s.clk := rfl
@[simp] theorem State.modTs_lanes (s : State) (f : Ts → Ts) : (s.modTs f).lanes = s.lanes := rfl
@[simp] theorem State.modTs_prbs (s : State) (f : Ts → Ts) : (s.modTs f).prbs = s.prbs := rfl
@[simp] theorem State.modTs_links (s : State) (f : Ts → Ts) : (s.modTs f).links = s.links := rfl
@[simp] theorem State.modTs_verifyQ (s : State) (f : Ts → Ts) : (s.modTs f).verifyQ = s.verifyQ := rfl
@[simp] theorem State.modTs_gates (s : State) (f : Ts → Ts) : (s.modTs f).gates = s.gates := rfl
@[simp] theorem State.modTs_cells (s : State) (f : Ts → Ts) : (s.modTs f).cells = s.cells := rfl
@[simp] theorem State.modTs_cars (s : State) (f : Ts → Ts) : (s.modTs f).cars = s.cars := rfl
@[simp] theorem State.modTs_legs (s : State) (f : Ts → Ts) : (s.modTs f).legs = s.legs := rfl
@[simp] theorem State.modTs_groupPend (s : State) (f : Ts → Ts) : (s.modTs f).groupPend = s.groupPend := rfl
@[simp] theorem State.modTs_ctxs (s : State) (f : Ts → Ts) : (s.modTs f).ctxs = s.ctxs := rfl
@[simp] theorem State.modTs_eng (s : State) (f : Ts → Ts) : (s.modTs f).eng = s.eng := rfl
@[simp] theorem State.modTs_met (s : State) (f : Ts → Ts) : (s.modTs f).met = s.met := rfl
@[simp] theorem State.modTs_wf (s : State) (f : Ts → Ts) : (s.modTs f).wf = s.wf := rfl
@[simp] theorem State.modTs_strs (s : State) (f : Ts → Ts) : (s.modTs f).strs = s.strs := rfl
@[simp] theorem State.modTs_dx (s : State) (f : Ts → Ts) : (s.modTs f).dx = s.dx := rfl
@[simp] theorem State.modTs_fc (s : State) (f : Ts → Ts) : (s.modTs f).fc = s.fc := rfl
@[simp] theorem State.modTs_spine (s : State) (f : Ts → Ts) : (s.modTs f).spine = s.spine := rfl
@[simp] theorem State.modTs_recd (s : State) (f : Ts → Ts) : (s.modTs f).recd = s.recd := rfl
@[simp] theorem State.modTs_mram (s : State) (f : Ts → Ts) : (s.modTs f).mram = s.mram := rfl
@[simp] theorem State.modTs_ledger (s : State) (f : Ts → Ts) : (s.modTs f).ledger = s.ledger := rfl
@[simp] theorem State.modTs_saving (s : State) (f : Ts → Ts) : (s.modTs f).saving = s.saving := rfl
@[simp] theorem State.modTs_th (s : State) (f : Ts → Ts) : (s.modTs f).th = s.th := rfl
@[simp] theorem State.modTs_net (s : State) (f : Ts → Ts) : (s.modTs f).net = s.net := rfl
@[simp] theorem State.modTs_sec (s : State) (f : Ts → Ts) : (s.modTs f).sec = s.sec := rfl
@[simp] theorem State.modTs_store (s : State) (f : Ts → Ts) : (s.modTs f).store = s.store := rfl
@[simp] theorem State.modTs_ts (s : State) (f : Ts → Ts) : (s.modTs f).ts = f s.ts := rfl
@[simp] theorem State.modSpine_pending (s : State) (f : Spine → Spine) : (s.modSpine f).pending = s.pending := rfl
@[simp] theorem State.modSpine_regs (s : State) (f : Spine → Spine) : (s.modSpine f).regs = s.regs := rfl
@[simp] theorem State.modSpine_freeCount (s : State) (f : Spine → Spine) : (s.modSpine f).freeCount = s.freeCount := rfl
@[simp] theorem State.modSpine_now (s : State) (f : Spine → Spine) : (s.modSpine f).now = s.now := rfl
@[simp] theorem State.modSpine_cyc (s : State) (f : Spine → Spine) : (s.modSpine f).cyc = s.cyc := rfl
@[simp] theorem State.modSpine_pw (s : State) (f : Spine → Spine) : (s.modSpine f).pw = s.pw := rfl
@[simp] theorem State.modSpine_clk (s : State) (f : Spine → Spine) : (s.modSpine f).clk = s.clk := rfl
@[simp] theorem State.modSpine_ts (s : State) (f : Spine → Spine) : (s.modSpine f).ts = s.ts := rfl
@[simp] theorem State.modSpine_lanes (s : State) (f : Spine → Spine) : (s.modSpine f).lanes = s.lanes := rfl
@[simp] theorem State.modSpine_prbs (s : State) (f : Spine → Spine) : (s.modSpine f).prbs = s.prbs := rfl
@[simp] theorem State.modSpine_links (s : State) (f : Spine → Spine) : (s.modSpine f).links = s.links := rfl
@[simp] theorem State.modSpine_verifyQ (s : State) (f : Spine → Spine) : (s.modSpine f).verifyQ = s.verifyQ := rfl
@[simp] theorem State.modSpine_gates (s : State) (f : Spine → Spine) : (s.modSpine f).gates = s.gates := rfl
@[simp] theorem State.modSpine_cells (s : State) (f : Spine → Spine) : (s.modSpine f).cells = s.cells := rfl
@[simp] theorem State.modSpine_cars (s : State) (f : Spine → Spine) : (s.modSpine f).cars = s.cars := rfl
@[simp] theorem State.modSpine_legs (s : State) (f : Spine → Spine) : (s.modSpine f).legs = s.legs := rfl
@[simp] theorem State.modSpine_groupPend (s : State) (f : Spine → Spine) : (s.modSpine f).groupPend = s.groupPend := rfl
@[simp] theorem State.modSpine_ctxs (s : State) (f : Spine → Spine) : (s.modSpine f).ctxs = s.ctxs := rfl
@[simp] theorem State.modSpine_eng (s : State) (f : Spine → Spine) : (s.modSpine f).eng = s.eng := rfl
@[simp] theorem State.modSpine_met (s : State) (f : Spine → Spine) : (s.modSpine f).met = s.met := rfl
@[simp] theorem State.modSpine_wf (s : State) (f : Spine → Spine) : (s.modSpine f).wf = s.wf := rfl
@[simp] theorem State.modSpine_strs (s : State) (f : Spine → Spine) : (s.modSpine f).strs = s.strs := rfl
@[simp] theorem State.modSpine_dx (s : State) (f : Spine → Spine) : (s.modSpine f).dx = s.dx := rfl
@[simp] theorem State.modSpine_fc (s : State) (f : Spine → Spine) : (s.modSpine f).fc = s.fc := rfl
@[simp] theorem State.modSpine_recd (s : State) (f : Spine → Spine) : (s.modSpine f).recd = s.recd := rfl
@[simp] theorem State.modSpine_mram (s : State) (f : Spine → Spine) : (s.modSpine f).mram = s.mram := rfl
@[simp] theorem State.modSpine_ledger (s : State) (f : Spine → Spine) : (s.modSpine f).ledger = s.ledger := rfl
@[simp] theorem State.modSpine_saving (s : State) (f : Spine → Spine) : (s.modSpine f).saving = s.saving := rfl
@[simp] theorem State.modSpine_th (s : State) (f : Spine → Spine) : (s.modSpine f).th = s.th := rfl
@[simp] theorem State.modSpine_net (s : State) (f : Spine → Spine) : (s.modSpine f).net = s.net := rfl
@[simp] theorem State.modSpine_sec (s : State) (f : Spine → Spine) : (s.modSpine f).sec = s.sec := rfl
@[simp] theorem State.modSpine_store (s : State) (f : Spine → Spine) : (s.modSpine f).store = s.store := rfl
@[simp] theorem State.modSpine_spine (s : State) (f : Spine → Spine) : (s.modSpine f).spine = f s.spine := rfl
@[simp] theorem State.modWf_pending (s : State) (f : Wf → Wf) : (s.modWf f).pending = s.pending := rfl
@[simp] theorem State.modWf_regs (s : State) (f : Wf → Wf) : (s.modWf f).regs = s.regs := rfl
@[simp] theorem State.modWf_freeCount (s : State) (f : Wf → Wf) : (s.modWf f).freeCount = s.freeCount := rfl
@[simp] theorem State.modWf_now (s : State) (f : Wf → Wf) : (s.modWf f).now = s.now := rfl
@[simp] theorem State.modWf_cyc (s : State) (f : Wf → Wf) : (s.modWf f).cyc = s.cyc := rfl
@[simp] theorem State.modWf_pw (s : State) (f : Wf → Wf) : (s.modWf f).pw = s.pw := rfl
@[simp] theorem State.modWf_clk (s : State) (f : Wf → Wf) : (s.modWf f).clk = s.clk := rfl
@[simp] theorem State.modWf_ts (s : State) (f : Wf → Wf) : (s.modWf f).ts = s.ts := rfl
@[simp] theorem State.modWf_lanes (s : State) (f : Wf → Wf) : (s.modWf f).lanes = s.lanes := rfl
@[simp] theorem State.modWf_prbs (s : State) (f : Wf → Wf) : (s.modWf f).prbs = s.prbs := rfl
@[simp] theorem State.modWf_links (s : State) (f : Wf → Wf) : (s.modWf f).links = s.links := rfl
@[simp] theorem State.modWf_verifyQ (s : State) (f : Wf → Wf) : (s.modWf f).verifyQ = s.verifyQ := rfl
@[simp] theorem State.modWf_gates (s : State) (f : Wf → Wf) : (s.modWf f).gates = s.gates := rfl
@[simp] theorem State.modWf_cells (s : State) (f : Wf → Wf) : (s.modWf f).cells = s.cells := rfl
@[simp] theorem State.modWf_cars (s : State) (f : Wf → Wf) : (s.modWf f).cars = s.cars := rfl
@[simp] theorem State.modWf_legs (s : State) (f : Wf → Wf) : (s.modWf f).legs = s.legs := rfl
@[simp] theorem State.modWf_groupPend (s : State) (f : Wf → Wf) : (s.modWf f).groupPend = s.groupPend := rfl
@[simp] theorem State.modWf_ctxs (s : State) (f : Wf → Wf) : (s.modWf f).ctxs = s.ctxs := rfl
@[simp] theorem State.modWf_eng (s : State) (f : Wf → Wf) : (s.modWf f).eng = s.eng := rfl
@[simp] theorem State.modWf_met (s : State) (f : Wf → Wf) : (s.modWf f).met = s.met := rfl
@[simp] theorem State.modWf_strs (s : State) (f : Wf → Wf) : (s.modWf f).strs = s.strs := rfl
@[simp] theorem State.modWf_dx (s : State) (f : Wf → Wf) : (s.modWf f).dx = s.dx := rfl
@[simp] theorem State.modWf_fc (s : State) (f : Wf → Wf) : (s.modWf f).fc = s.fc := rfl
@[simp] theorem State.modWf_spine (s : State) (f : Wf → Wf) : (s.modWf f).spine = s.spine := rfl
@[simp] theorem State.modWf_recd (s : State) (f : Wf → Wf) : (s.modWf f).recd = s.recd := rfl
@[simp] theorem State.modWf_mram (s : State) (f : Wf → Wf) : (s.modWf f).mram = s.mram := rfl
@[simp] theorem State.modWf_ledger (s : State) (f : Wf → Wf) : (s.modWf f).ledger = s.ledger := rfl
@[simp] theorem State.modWf_saving (s : State) (f : Wf → Wf) : (s.modWf f).saving = s.saving := rfl
@[simp] theorem State.modWf_th (s : State) (f : Wf → Wf) : (s.modWf f).th = s.th := rfl
@[simp] theorem State.modWf_net (s : State) (f : Wf → Wf) : (s.modWf f).net = s.net := rfl
@[simp] theorem State.modWf_sec (s : State) (f : Wf → Wf) : (s.modWf f).sec = s.sec := rfl
@[simp] theorem State.modWf_store (s : State) (f : Wf → Wf) : (s.modWf f).store = s.store := rfl
@[simp] theorem State.modWf_wf (s : State) (f : Wf → Wf) : (s.modWf f).wf = f s.wf := rfl
@[simp] theorem State.modPrbs_pending (s : State) (n : Nat) (f : Prbs → Prbs) : (s.modPrbs n f).pending = s.pending := rfl
@[simp] theorem State.modPrbs_regs (s : State) (n : Nat) (f : Prbs → Prbs) : (s.modPrbs n f).regs = s.regs := rfl
@[simp] theorem State.modPrbs_freeCount (s : State) (n : Nat) (f : Prbs → Prbs) : (s.modPrbs n f).freeCount = s.freeCount := rfl
@[simp] theorem State.modPrbs_now (s : State) (n : Nat) (f : Prbs → Prbs) : (s.modPrbs n f).now = s.now := rfl
@[simp] theorem State.modPrbs_cyc (s : State) (n : Nat) (f : Prbs → Prbs) : (s.modPrbs n f).cyc = s.cyc := rfl
@[simp] theorem State.modPrbs_pw (s : State) (n : Nat) (f : Prbs → Prbs) : (s.modPrbs n f).pw = s.pw := rfl
@[simp] theorem State.modPrbs_clk (s : State) (n : Nat) (f : Prbs → Prbs) : (s.modPrbs n f).clk = s.clk := rfl
@[simp] theorem State.modPrbs_ts (s : State) (n : Nat) (f : Prbs → Prbs) : (s.modPrbs n f).ts = s.ts := rfl
@[simp] theorem State.modPrbs_lanes (s : State) (n : Nat) (f : Prbs → Prbs) : (s.modPrbs n f).lanes = s.lanes := rfl
@[simp] theorem State.modPrbs_links (s : State) (n : Nat) (f : Prbs → Prbs) : (s.modPrbs n f).links = s.links := rfl
@[simp] theorem State.modPrbs_verifyQ (s : State) (n : Nat) (f : Prbs → Prbs) : (s.modPrbs n f).verifyQ = s.verifyQ := rfl
@[simp] theorem State.modPrbs_gates (s : State) (n : Nat) (f : Prbs → Prbs) : (s.modPrbs n f).gates = s.gates := rfl
@[simp] theorem State.modPrbs_cells (s : State) (n : Nat) (f : Prbs → Prbs) : (s.modPrbs n f).cells = s.cells := rfl
@[simp] theorem State.modPrbs_cars (s : State) (n : Nat) (f : Prbs → Prbs) : (s.modPrbs n f).cars = s.cars := rfl
@[simp] theorem State.modPrbs_legs (s : State) (n : Nat) (f : Prbs → Prbs) : (s.modPrbs n f).legs = s.legs := rfl
@[simp] theorem State.modPrbs_groupPend (s : State) (n : Nat) (f : Prbs → Prbs) : (s.modPrbs n f).groupPend = s.groupPend := rfl
@[simp] theorem State.modPrbs_ctxs (s : State) (n : Nat) (f : Prbs → Prbs) : (s.modPrbs n f).ctxs = s.ctxs := rfl
@[simp] theorem State.modPrbs_eng (s : State) (n : Nat) (f : Prbs → Prbs) : (s.modPrbs n f).eng = s.eng := rfl
@[simp] theorem State.modPrbs_met (s : State) (n : Nat) (f : Prbs → Prbs) : (s.modPrbs n f).met = s.met := rfl
@[simp] theorem State.modPrbs_wf (s : State) (n : Nat) (f : Prbs → Prbs) : (s.modPrbs n f).wf = s.wf := rfl
@[simp] theorem State.modPrbs_strs (s : State) (n : Nat) (f : Prbs → Prbs) : (s.modPrbs n f).strs = s.strs := rfl
@[simp] theorem State.modPrbs_dx (s : State) (n : Nat) (f : Prbs → Prbs) : (s.modPrbs n f).dx = s.dx := rfl
@[simp] theorem State.modPrbs_fc (s : State) (n : Nat) (f : Prbs → Prbs) : (s.modPrbs n f).fc = s.fc := rfl
@[simp] theorem State.modPrbs_spine (s : State) (n : Nat) (f : Prbs → Prbs) : (s.modPrbs n f).spine = s.spine := rfl
@[simp] theorem State.modPrbs_recd (s : State) (n : Nat) (f : Prbs → Prbs) : (s.modPrbs n f).recd = s.recd := rfl
@[simp] theorem State.modPrbs_mram (s : State) (n : Nat) (f : Prbs → Prbs) : (s.modPrbs n f).mram = s.mram := rfl
@[simp] theorem State.modPrbs_ledger (s : State) (n : Nat) (f : Prbs → Prbs) : (s.modPrbs n f).ledger = s.ledger := rfl
@[simp] theorem State.modPrbs_saving (s : State) (n : Nat) (f : Prbs → Prbs) : (s.modPrbs n f).saving = s.saving := rfl
@[simp] theorem State.modPrbs_th (s : State) (n : Nat) (f : Prbs → Prbs) : (s.modPrbs n f).th = s.th := rfl
@[simp] theorem State.modPrbs_net (s : State) (n : Nat) (f : Prbs → Prbs) : (s.modPrbs n f).net = s.net := rfl
@[simp] theorem State.modPrbs_sec (s : State) (n : Nat) (f : Prbs → Prbs) : (s.modPrbs n f).sec = s.sec := rfl
@[simp] theorem State.modPrbs_store (s : State) (n : Nat) (f : Prbs → Prbs) : (s.modPrbs n f).store = s.store := rfl
@[simp] theorem State.modLane_pending (s : State) (n : Nat) (f : LaneSt → LaneSt) : (s.modLane n f).pending = s.pending := rfl
@[simp] theorem State.modLane_regs (s : State) (n : Nat) (f : LaneSt → LaneSt) : (s.modLane n f).regs = s.regs := rfl
@[simp] theorem State.modLane_freeCount (s : State) (n : Nat) (f : LaneSt → LaneSt) : (s.modLane n f).freeCount = s.freeCount := rfl
@[simp] theorem State.modLane_now (s : State) (n : Nat) (f : LaneSt → LaneSt) : (s.modLane n f).now = s.now := rfl
@[simp] theorem State.modLane_cyc (s : State) (n : Nat) (f : LaneSt → LaneSt) : (s.modLane n f).cyc = s.cyc := rfl
@[simp] theorem State.modLane_pw (s : State) (n : Nat) (f : LaneSt → LaneSt) : (s.modLane n f).pw = s.pw := rfl
@[simp] theorem State.modLane_clk (s : State) (n : Nat) (f : LaneSt → LaneSt) : (s.modLane n f).clk = s.clk := rfl
@[simp] theorem State.modLane_ts (s : State) (n : Nat) (f : LaneSt → LaneSt) : (s.modLane n f).ts = s.ts := rfl
@[simp] theorem State.modLane_prbs (s : State) (n : Nat) (f : LaneSt → LaneSt) : (s.modLane n f).prbs = s.prbs := rfl
@[simp] theorem State.modLane_links (s : State) (n : Nat) (f : LaneSt → LaneSt) : (s.modLane n f).links = s.links := rfl
@[simp] theorem State.modLane_verifyQ (s : State) (n : Nat) (f : LaneSt → LaneSt) : (s.modLane n f).verifyQ = s.verifyQ := rfl
@[simp] theorem State.modLane_gates (s : State) (n : Nat) (f : LaneSt → LaneSt) : (s.modLane n f).gates = s.gates := rfl
@[simp] theorem State.modLane_cells (s : State) (n : Nat) (f : LaneSt → LaneSt) : (s.modLane n f).cells = s.cells := rfl
@[simp] theorem State.modLane_cars (s : State) (n : Nat) (f : LaneSt → LaneSt) : (s.modLane n f).cars = s.cars := rfl
@[simp] theorem State.modLane_legs (s : State) (n : Nat) (f : LaneSt → LaneSt) : (s.modLane n f).legs = s.legs := rfl
@[simp] theorem State.modLane_groupPend (s : State) (n : Nat) (f : LaneSt → LaneSt) : (s.modLane n f).groupPend = s.groupPend := rfl
@[simp] theorem State.modLane_ctxs (s : State) (n : Nat) (f : LaneSt → LaneSt) : (s.modLane n f).ctxs = s.ctxs := rfl
@[simp] theorem State.modLane_eng (s : State) (n : Nat) (f : LaneSt → LaneSt) : (s.modLane n f).eng = s.eng := rfl
@[simp] theorem State.modLane_met (s : State) (n : Nat) (f : LaneSt → LaneSt) : (s.modLane n f).met = s.met := rfl
@[simp] theorem State.modLane_wf (s : State) (n : Nat) (f : LaneSt → LaneSt) : (s.modLane n f).wf = s.wf := rfl
@[simp] theorem State.modLane_strs (s : State) (n : Nat) (f : LaneSt → LaneSt) : (s.modLane n f).strs = s.strs := rfl
@[simp] theorem State.modLane_dx (s : State) (n : Nat) (f : LaneSt → LaneSt) : (s.modLane n f).dx = s.dx := rfl
@[simp] theorem State.modLane_fc (s : State) (n : Nat) (f : LaneSt → LaneSt) : (s.modLane n f).fc = s.fc := rfl
@[simp] theorem State.modLane_spine (s : State) (n : Nat) (f : LaneSt → LaneSt) : (s.modLane n f).spine = s.spine := rfl
@[simp] theorem State.modLane_recd (s : State) (n : Nat) (f : LaneSt → LaneSt) : (s.modLane n f).recd = s.recd := rfl
@[simp] theorem State.modLane_mram (s : State) (n : Nat) (f : LaneSt → LaneSt) : (s.modLane n f).mram = s.mram := rfl
@[simp] theorem State.modLane_ledger (s : State) (n : Nat) (f : LaneSt → LaneSt) : (s.modLane n f).ledger = s.ledger := rfl
@[simp] theorem State.modLane_saving (s : State) (n : Nat) (f : LaneSt → LaneSt) : (s.modLane n f).saving = s.saving := rfl
@[simp] theorem State.modLane_th (s : State) (n : Nat) (f : LaneSt → LaneSt) : (s.modLane n f).th = s.th := rfl
@[simp] theorem State.modLane_net (s : State) (n : Nat) (f : LaneSt → LaneSt) : (s.modLane n f).net = s.net := rfl
@[simp] theorem State.modLane_sec (s : State) (n : Nat) (f : LaneSt → LaneSt) : (s.modLane n f).sec = s.sec := rfl
@[simp] theorem State.modLane_store (s : State) (n : Nat) (f : LaneSt → LaneSt) : (s.modLane n f).store = s.store := rfl
@[simp] theorem State.modLink_pending (s : State) (n : Nat) (f : LinkSt → LinkSt) : (s.modLink n f).pending = s.pending := rfl
@[simp] theorem State.modLink_regs (s : State) (n : Nat) (f : LinkSt → LinkSt) : (s.modLink n f).regs = s.regs := rfl
@[simp] theorem State.modLink_freeCount (s : State) (n : Nat) (f : LinkSt → LinkSt) : (s.modLink n f).freeCount = s.freeCount := rfl
@[simp] theorem State.modLink_now (s : State) (n : Nat) (f : LinkSt → LinkSt) : (s.modLink n f).now = s.now := rfl
@[simp] theorem State.modLink_cyc (s : State) (n : Nat) (f : LinkSt → LinkSt) : (s.modLink n f).cyc = s.cyc := rfl
@[simp] theorem State.modLink_pw (s : State) (n : Nat) (f : LinkSt → LinkSt) : (s.modLink n f).pw = s.pw := rfl
@[simp] theorem State.modLink_clk (s : State) (n : Nat) (f : LinkSt → LinkSt) : (s.modLink n f).clk = s.clk := rfl
@[simp] theorem State.modLink_ts (s : State) (n : Nat) (f : LinkSt → LinkSt) : (s.modLink n f).ts = s.ts := rfl
@[simp] theorem State.modLink_lanes (s : State) (n : Nat) (f : LinkSt → LinkSt) : (s.modLink n f).lanes = s.lanes := rfl
@[simp] theorem State.modLink_prbs (s : State) (n : Nat) (f : LinkSt → LinkSt) : (s.modLink n f).prbs = s.prbs := rfl
@[simp] theorem State.modLink_verifyQ (s : State) (n : Nat) (f : LinkSt → LinkSt) : (s.modLink n f).verifyQ = s.verifyQ := rfl
@[simp] theorem State.modLink_gates (s : State) (n : Nat) (f : LinkSt → LinkSt) : (s.modLink n f).gates = s.gates := rfl
@[simp] theorem State.modLink_cells (s : State) (n : Nat) (f : LinkSt → LinkSt) : (s.modLink n f).cells = s.cells := rfl
@[simp] theorem State.modLink_cars (s : State) (n : Nat) (f : LinkSt → LinkSt) : (s.modLink n f).cars = s.cars := rfl
@[simp] theorem State.modLink_legs (s : State) (n : Nat) (f : LinkSt → LinkSt) : (s.modLink n f).legs = s.legs := rfl
@[simp] theorem State.modLink_groupPend (s : State) (n : Nat) (f : LinkSt → LinkSt) : (s.modLink n f).groupPend = s.groupPend := rfl
@[simp] theorem State.modLink_ctxs (s : State) (n : Nat) (f : LinkSt → LinkSt) : (s.modLink n f).ctxs = s.ctxs := rfl
@[simp] theorem State.modLink_eng (s : State) (n : Nat) (f : LinkSt → LinkSt) : (s.modLink n f).eng = s.eng := rfl
@[simp] theorem State.modLink_met (s : State) (n : Nat) (f : LinkSt → LinkSt) : (s.modLink n f).met = s.met := rfl
@[simp] theorem State.modLink_wf (s : State) (n : Nat) (f : LinkSt → LinkSt) : (s.modLink n f).wf = s.wf := rfl
@[simp] theorem State.modLink_strs (s : State) (n : Nat) (f : LinkSt → LinkSt) : (s.modLink n f).strs = s.strs := rfl
@[simp] theorem State.modLink_dx (s : State) (n : Nat) (f : LinkSt → LinkSt) : (s.modLink n f).dx = s.dx := rfl
@[simp] theorem State.modLink_fc (s : State) (n : Nat) (f : LinkSt → LinkSt) : (s.modLink n f).fc = s.fc := rfl
@[simp] theorem State.modLink_spine (s : State) (n : Nat) (f : LinkSt → LinkSt) : (s.modLink n f).spine = s.spine := rfl
@[simp] theorem State.modLink_recd (s : State) (n : Nat) (f : LinkSt → LinkSt) : (s.modLink n f).recd = s.recd := rfl
@[simp] theorem State.modLink_mram (s : State) (n : Nat) (f : LinkSt → LinkSt) : (s.modLink n f).mram = s.mram := rfl
@[simp] theorem State.modLink_ledger (s : State) (n : Nat) (f : LinkSt → LinkSt) : (s.modLink n f).ledger = s.ledger := rfl
@[simp] theorem State.modLink_saving (s : State) (n : Nat) (f : LinkSt → LinkSt) : (s.modLink n f).saving = s.saving := rfl
@[simp] theorem State.modLink_th (s : State) (n : Nat) (f : LinkSt → LinkSt) : (s.modLink n f).th = s.th := rfl
@[simp] theorem State.modLink_net (s : State) (n : Nat) (f : LinkSt → LinkSt) : (s.modLink n f).net = s.net := rfl
@[simp] theorem State.modLink_sec (s : State) (n : Nat) (f : LinkSt → LinkSt) : (s.modLink n f).sec = s.sec := rfl
@[simp] theorem State.modLink_store (s : State) (n : Nat) (f : LinkSt → LinkSt) : (s.modLink n f).store = s.store := rfl
@[simp] theorem State.modGate_pending (s : State) (n : Nat) (f : GateSt → GateSt) : (s.modGate n f).pending = s.pending := rfl
@[simp] theorem State.modGate_regs (s : State) (n : Nat) (f : GateSt → GateSt) : (s.modGate n f).regs = s.regs := rfl
@[simp] theorem State.modGate_freeCount (s : State) (n : Nat) (f : GateSt → GateSt) : (s.modGate n f).freeCount = s.freeCount := rfl
@[simp] theorem State.modGate_now (s : State) (n : Nat) (f : GateSt → GateSt) : (s.modGate n f).now = s.now := rfl
@[simp] theorem State.modGate_cyc (s : State) (n : Nat) (f : GateSt → GateSt) : (s.modGate n f).cyc = s.cyc := rfl
@[simp] theorem State.modGate_pw (s : State) (n : Nat) (f : GateSt → GateSt) : (s.modGate n f).pw = s.pw := rfl
@[simp] theorem State.modGate_clk (s : State) (n : Nat) (f : GateSt → GateSt) : (s.modGate n f).clk = s.clk := rfl
@[simp] theorem State.modGate_ts (s : State) (n : Nat) (f : GateSt → GateSt) : (s.modGate n f).ts = s.ts := rfl
@[simp] theorem State.modGate_lanes (s : State) (n : Nat) (f : GateSt → GateSt) : (s.modGate n f).lanes = s.lanes := rfl
@[simp] theorem State.modGate_prbs (s : State) (n : Nat) (f : GateSt → GateSt) : (s.modGate n f).prbs = s.prbs := rfl
@[simp] theorem State.modGate_links (s : State) (n : Nat) (f : GateSt → GateSt) : (s.modGate n f).links = s.links := rfl
@[simp] theorem State.modGate_verifyQ (s : State) (n : Nat) (f : GateSt → GateSt) : (s.modGate n f).verifyQ = s.verifyQ := rfl
@[simp] theorem State.modGate_cells (s : State) (n : Nat) (f : GateSt → GateSt) : (s.modGate n f).cells = s.cells := rfl
@[simp] theorem State.modGate_cars (s : State) (n : Nat) (f : GateSt → GateSt) : (s.modGate n f).cars = s.cars := rfl
@[simp] theorem State.modGate_legs (s : State) (n : Nat) (f : GateSt → GateSt) : (s.modGate n f).legs = s.legs := rfl
@[simp] theorem State.modGate_groupPend (s : State) (n : Nat) (f : GateSt → GateSt) : (s.modGate n f).groupPend = s.groupPend := rfl
@[simp] theorem State.modGate_ctxs (s : State) (n : Nat) (f : GateSt → GateSt) : (s.modGate n f).ctxs = s.ctxs := rfl
@[simp] theorem State.modGate_eng (s : State) (n : Nat) (f : GateSt → GateSt) : (s.modGate n f).eng = s.eng := rfl
@[simp] theorem State.modGate_met (s : State) (n : Nat) (f : GateSt → GateSt) : (s.modGate n f).met = s.met := rfl
@[simp] theorem State.modGate_wf (s : State) (n : Nat) (f : GateSt → GateSt) : (s.modGate n f).wf = s.wf := rfl
@[simp] theorem State.modGate_strs (s : State) (n : Nat) (f : GateSt → GateSt) : (s.modGate n f).strs = s.strs := rfl
@[simp] theorem State.modGate_dx (s : State) (n : Nat) (f : GateSt → GateSt) : (s.modGate n f).dx = s.dx := rfl
@[simp] theorem State.modGate_fc (s : State) (n : Nat) (f : GateSt → GateSt) : (s.modGate n f).fc = s.fc := rfl
@[simp] theorem State.modGate_spine (s : State) (n : Nat) (f : GateSt → GateSt) : (s.modGate n f).spine = s.spine := rfl
@[simp] theorem State.modGate_recd (s : State) (n : Nat) (f : GateSt → GateSt) : (s.modGate n f).recd = s.recd := rfl
@[simp] theorem State.modGate_mram (s : State) (n : Nat) (f : GateSt → GateSt) : (s.modGate n f).mram = s.mram := rfl
@[simp] theorem State.modGate_ledger (s : State) (n : Nat) (f : GateSt → GateSt) : (s.modGate n f).ledger = s.ledger := rfl
@[simp] theorem State.modGate_saving (s : State) (n : Nat) (f : GateSt → GateSt) : (s.modGate n f).saving = s.saving := rfl
@[simp] theorem State.modGate_th (s : State) (n : Nat) (f : GateSt → GateSt) : (s.modGate n f).th = s.th := rfl
@[simp] theorem State.modGate_net (s : State) (n : Nat) (f : GateSt → GateSt) : (s.modGate n f).net = s.net := rfl
@[simp] theorem State.modGate_sec (s : State) (n : Nat) (f : GateSt → GateSt) : (s.modGate n f).sec = s.sec := rfl
@[simp] theorem State.modGate_store (s : State) (n : Nat) (f : GateSt → GateSt) : (s.modGate n f).store = s.store := rfl
@[simp] theorem State.modCell_pending (s : State) (n : Nat) (f : BalSt → BalSt) : (s.modCell n f).pending = s.pending := rfl
@[simp] theorem State.modCell_regs (s : State) (n : Nat) (f : BalSt → BalSt) : (s.modCell n f).regs = s.regs := rfl
@[simp] theorem State.modCell_freeCount (s : State) (n : Nat) (f : BalSt → BalSt) : (s.modCell n f).freeCount = s.freeCount := rfl
@[simp] theorem State.modCell_now (s : State) (n : Nat) (f : BalSt → BalSt) : (s.modCell n f).now = s.now := rfl
@[simp] theorem State.modCell_cyc (s : State) (n : Nat) (f : BalSt → BalSt) : (s.modCell n f).cyc = s.cyc := rfl
@[simp] theorem State.modCell_pw (s : State) (n : Nat) (f : BalSt → BalSt) : (s.modCell n f).pw = s.pw := rfl
@[simp] theorem State.modCell_clk (s : State) (n : Nat) (f : BalSt → BalSt) : (s.modCell n f).clk = s.clk := rfl
@[simp] theorem State.modCell_ts (s : State) (n : Nat) (f : BalSt → BalSt) : (s.modCell n f).ts = s.ts := rfl
@[simp] theorem State.modCell_lanes (s : State) (n : Nat) (f : BalSt → BalSt) : (s.modCell n f).lanes = s.lanes := rfl
@[simp] theorem State.modCell_prbs (s : State) (n : Nat) (f : BalSt → BalSt) : (s.modCell n f).prbs = s.prbs := rfl
@[simp] theorem State.modCell_links (s : State) (n : Nat) (f : BalSt → BalSt) : (s.modCell n f).links = s.links := rfl
@[simp] theorem State.modCell_verifyQ (s : State) (n : Nat) (f : BalSt → BalSt) : (s.modCell n f).verifyQ = s.verifyQ := rfl
@[simp] theorem State.modCell_gates (s : State) (n : Nat) (f : BalSt → BalSt) : (s.modCell n f).gates = s.gates := rfl
@[simp] theorem State.modCell_cars (s : State) (n : Nat) (f : BalSt → BalSt) : (s.modCell n f).cars = s.cars := rfl
@[simp] theorem State.modCell_legs (s : State) (n : Nat) (f : BalSt → BalSt) : (s.modCell n f).legs = s.legs := rfl
@[simp] theorem State.modCell_groupPend (s : State) (n : Nat) (f : BalSt → BalSt) : (s.modCell n f).groupPend = s.groupPend := rfl
@[simp] theorem State.modCell_ctxs (s : State) (n : Nat) (f : BalSt → BalSt) : (s.modCell n f).ctxs = s.ctxs := rfl
@[simp] theorem State.modCell_eng (s : State) (n : Nat) (f : BalSt → BalSt) : (s.modCell n f).eng = s.eng := rfl
@[simp] theorem State.modCell_met (s : State) (n : Nat) (f : BalSt → BalSt) : (s.modCell n f).met = s.met := rfl
@[simp] theorem State.modCell_wf (s : State) (n : Nat) (f : BalSt → BalSt) : (s.modCell n f).wf = s.wf := rfl
@[simp] theorem State.modCell_strs (s : State) (n : Nat) (f : BalSt → BalSt) : (s.modCell n f).strs = s.strs := rfl
@[simp] theorem State.modCell_dx (s : State) (n : Nat) (f : BalSt → BalSt) : (s.modCell n f).dx = s.dx := rfl
@[simp] theorem State.modCell_fc (s : State) (n : Nat) (f : BalSt → BalSt) : (s.modCell n f).fc = s.fc := rfl
@[simp] theorem State.modCell_spine (s : State) (n : Nat) (f : BalSt → BalSt) : (s.modCell n f).spine = s.spine := rfl
@[simp] theorem State.modCell_recd (s : State) (n : Nat) (f : BalSt → BalSt) : (s.modCell n f).recd = s.recd := rfl
@[simp] theorem State.modCell_mram (s : State) (n : Nat) (f : BalSt → BalSt) : (s.modCell n f).mram = s.mram := rfl
@[simp] theorem State.modCell_ledger (s : State) (n : Nat) (f : BalSt → BalSt) : (s.modCell n f).ledger = s.ledger := rfl
@[simp] theorem State.modCell_saving (s : State) (n : Nat) (f : BalSt → BalSt) : (s.modCell n f).saving = s.saving := rfl
@[simp] theorem State.modCell_th (s : State) (n : Nat) (f : BalSt → BalSt) : (s.modCell n f).th = s.th := rfl
@[simp] theorem State.modCell_net (s : State) (n : Nat) (f : BalSt → BalSt) : (s.modCell n f).net = s.net := rfl
@[simp] theorem State.modCell_sec (s : State) (n : Nat) (f : BalSt → BalSt) : (s.modCell n f).sec = s.sec := rfl
@[simp] theorem State.modCell_store (s : State) (n : Nat) (f : BalSt → BalSt) : (s.modCell n f).store = s.store := rfl
@[simp] theorem State.modStr_pending (s : State) (n : Nat) (f : StrSt → StrSt) : (s.modStr n f).pending = s.pending := rfl
@[simp] theorem State.modStr_regs (s : State) (n : Nat) (f : StrSt → StrSt) : (s.modStr n f).regs = s.regs := rfl
@[simp] theorem State.modStr_freeCount (s : State) (n : Nat) (f : StrSt → StrSt) : (s.modStr n f).freeCount = s.freeCount := rfl
@[simp] theorem State.modStr_now (s : State) (n : Nat) (f : StrSt → StrSt) : (s.modStr n f).now = s.now := rfl
@[simp] theorem State.modStr_cyc (s : State) (n : Nat) (f : StrSt → StrSt) : (s.modStr n f).cyc = s.cyc := rfl
@[simp] theorem State.modStr_pw (s : State) (n : Nat) (f : StrSt → StrSt) : (s.modStr n f).pw = s.pw := rfl
@[simp] theorem State.modStr_clk (s : State) (n : Nat) (f : StrSt → StrSt) : (s.modStr n f).clk = s.clk := rfl
@[simp] theorem State.modStr_ts (s : State) (n : Nat) (f : StrSt → StrSt) : (s.modStr n f).ts = s.ts := rfl
@[simp] theorem State.modStr_lanes (s : State) (n : Nat) (f : StrSt → StrSt) : (s.modStr n f).lanes = s.lanes := rfl
@[simp] theorem State.modStr_prbs (s : State) (n : Nat) (f : StrSt → StrSt) : (s.modStr n f).prbs = s.prbs := rfl
@[simp] theorem State.modStr_links (s : State) (n : Nat) (f : StrSt → StrSt) : (s.modStr n f).links = s.links := rfl
@[simp] theorem State.modStr_verifyQ (s : State) (n : Nat) (f : StrSt → StrSt) : (s.modStr n f).verifyQ = s.verifyQ := rfl
@[simp] theorem State.modStr_gates (s : State) (n : Nat) (f : StrSt → StrSt) : (s.modStr n f).gates = s.gates := rfl
@[simp] theorem State.modStr_cells (s : State) (n : Nat) (f : StrSt → StrSt) : (s.modStr n f).cells = s.cells := rfl
@[simp] theorem State.modStr_cars (s : State) (n : Nat) (f : StrSt → StrSt) : (s.modStr n f).cars = s.cars := rfl
@[simp] theorem State.modStr_legs (s : State) (n : Nat) (f : StrSt → StrSt) : (s.modStr n f).legs = s.legs := rfl
@[simp] theorem State.modStr_groupPend (s : State) (n : Nat) (f : StrSt → StrSt) : (s.modStr n f).groupPend = s.groupPend := rfl
@[simp] theorem State.modStr_ctxs (s : State) (n : Nat) (f : StrSt → StrSt) : (s.modStr n f).ctxs = s.ctxs := rfl
@[simp] theorem State.modStr_eng (s : State) (n : Nat) (f : StrSt → StrSt) : (s.modStr n f).eng = s.eng := rfl
@[simp] theorem State.modStr_met (s : State) (n : Nat) (f : StrSt → StrSt) : (s.modStr n f).met = s.met := rfl
@[simp] theorem State.modStr_wf (s : State) (n : Nat) (f : StrSt → StrSt) : (s.modStr n f).wf = s.wf := rfl
@[simp] theorem State.modStr_dx (s : State) (n : Nat) (f : StrSt → StrSt) : (s.modStr n f).dx = s.dx := rfl
@[simp] theorem State.modStr_fc (s : State) (n : Nat) (f : StrSt → StrSt) : (s.modStr n f).fc = s.fc := rfl
@[simp] theorem State.modStr_spine (s : State) (n : Nat) (f : StrSt → StrSt) : (s.modStr n f).spine = s.spine := rfl
@[simp] theorem State.modStr_recd (s : State) (n : Nat) (f : StrSt → StrSt) : (s.modStr n f).recd = s.recd := rfl
@[simp] theorem State.modStr_mram (s : State) (n : Nat) (f : StrSt → StrSt) : (s.modStr n f).mram = s.mram := rfl
@[simp] theorem State.modStr_ledger (s : State) (n : Nat) (f : StrSt → StrSt) : (s.modStr n f).ledger = s.ledger := rfl
@[simp] theorem State.modStr_saving (s : State) (n : Nat) (f : StrSt → StrSt) : (s.modStr n f).saving = s.saving := rfl
@[simp] theorem State.modStr_th (s : State) (n : Nat) (f : StrSt → StrSt) : (s.modStr n f).th = s.th := rfl
@[simp] theorem State.modStr_net (s : State) (n : Nat) (f : StrSt → StrSt) : (s.modStr n f).net = s.net := rfl
@[simp] theorem State.modStr_sec (s : State) (n : Nat) (f : StrSt → StrSt) : (s.modStr n f).sec = s.sec := rfl
@[simp] theorem State.modStr_store (s : State) (n : Nat) (f : StrSt → StrSt) : (s.modStr n f).store = s.store := rfl
@[simp] theorem State.modLed_pending (s : State) (n : Nat) (f : LedgerSt → LedgerSt) : (s.modLed n f).pending = s.pending := rfl
@[simp] theorem State.modLed_regs (s : State) (n : Nat) (f : LedgerSt → LedgerSt) : (s.modLed n f).regs = s.regs := rfl
@[simp] theorem State.modLed_freeCount (s : State) (n : Nat) (f : LedgerSt → LedgerSt) : (s.modLed n f).freeCount = s.freeCount := rfl
@[simp] theorem State.modLed_now (s : State) (n : Nat) (f : LedgerSt → LedgerSt) : (s.modLed n f).now = s.now := rfl
@[simp] theorem State.modLed_cyc (s : State) (n : Nat) (f : LedgerSt → LedgerSt) : (s.modLed n f).cyc = s.cyc := rfl
@[simp] theorem State.modLed_pw (s : State) (n : Nat) (f : LedgerSt → LedgerSt) : (s.modLed n f).pw = s.pw := rfl
@[simp] theorem State.modLed_clk (s : State) (n : Nat) (f : LedgerSt → LedgerSt) : (s.modLed n f).clk = s.clk := rfl
@[simp] theorem State.modLed_ts (s : State) (n : Nat) (f : LedgerSt → LedgerSt) : (s.modLed n f).ts = s.ts := rfl
@[simp] theorem State.modLed_lanes (s : State) (n : Nat) (f : LedgerSt → LedgerSt) : (s.modLed n f).lanes = s.lanes := rfl
@[simp] theorem State.modLed_prbs (s : State) (n : Nat) (f : LedgerSt → LedgerSt) : (s.modLed n f).prbs = s.prbs := rfl
@[simp] theorem State.modLed_links (s : State) (n : Nat) (f : LedgerSt → LedgerSt) : (s.modLed n f).links = s.links := rfl
@[simp] theorem State.modLed_verifyQ (s : State) (n : Nat) (f : LedgerSt → LedgerSt) : (s.modLed n f).verifyQ = s.verifyQ := rfl
@[simp] theorem State.modLed_gates (s : State) (n : Nat) (f : LedgerSt → LedgerSt) : (s.modLed n f).gates = s.gates := rfl
@[simp] theorem State.modLed_cells (s : State) (n : Nat) (f : LedgerSt → LedgerSt) : (s.modLed n f).cells = s.cells := rfl
@[simp] theorem State.modLed_cars (s : State) (n : Nat) (f : LedgerSt → LedgerSt) : (s.modLed n f).cars = s.cars := rfl
@[simp] theorem State.modLed_legs (s : State) (n : Nat) (f : LedgerSt → LedgerSt) : (s.modLed n f).legs = s.legs := rfl
@[simp] theorem State.modLed_groupPend (s : State) (n : Nat) (f : LedgerSt → LedgerSt) : (s.modLed n f).groupPend = s.groupPend := rfl
@[simp] theorem State.modLed_ctxs (s : State) (n : Nat) (f : LedgerSt → LedgerSt) : (s.modLed n f).ctxs = s.ctxs := rfl
@[simp] theorem State.modLed_eng (s : State) (n : Nat) (f : LedgerSt → LedgerSt) : (s.modLed n f).eng = s.eng := rfl
@[simp] theorem State.modLed_met (s : State) (n : Nat) (f : LedgerSt → LedgerSt) : (s.modLed n f).met = s.met := rfl
@[simp] theorem State.modLed_wf (s : State) (n : Nat) (f : LedgerSt → LedgerSt) : (s.modLed n f).wf = s.wf := rfl
@[simp] theorem State.modLed_strs (s : State) (n : Nat) (f : LedgerSt → LedgerSt) : (s.modLed n f).strs = s.strs := rfl
@[simp] theorem State.modLed_dx (s : State) (n : Nat) (f : LedgerSt → LedgerSt) : (s.modLed n f).dx = s.dx := rfl
@[simp] theorem State.modLed_fc (s : State) (n : Nat) (f : LedgerSt → LedgerSt) : (s.modLed n f).fc = s.fc := rfl
@[simp] theorem State.modLed_spine (s : State) (n : Nat) (f : LedgerSt → LedgerSt) : (s.modLed n f).spine = s.spine := rfl
@[simp] theorem State.modLed_recd (s : State) (n : Nat) (f : LedgerSt → LedgerSt) : (s.modLed n f).recd = s.recd := rfl
@[simp] theorem State.modLed_mram (s : State) (n : Nat) (f : LedgerSt → LedgerSt) : (s.modLed n f).mram = s.mram := rfl
@[simp] theorem State.modLed_saving (s : State) (n : Nat) (f : LedgerSt → LedgerSt) : (s.modLed n f).saving = s.saving := rfl
@[simp] theorem State.modLed_th (s : State) (n : Nat) (f : LedgerSt → LedgerSt) : (s.modLed n f).th = s.th := rfl
@[simp] theorem State.modLed_net (s : State) (n : Nat) (f : LedgerSt → LedgerSt) : (s.modLed n f).net = s.net := rfl
@[simp] theorem State.modLed_sec (s : State) (n : Nat) (f : LedgerSt → LedgerSt) : (s.modLed n f).sec = s.sec := rfl
@[simp] theorem State.modLed_store (s : State) (n : Nat) (f : LedgerSt → LedgerSt) : (s.modLed n f).store = s.store := rfl
@[simp] theorem State.modCar_pending (s : State) (n : Nat) (f : CarSt → CarSt) : (s.modCar n f).pending = s.pending := rfl
@[simp] theorem State.modCar_regs (s : State) (n : Nat) (f : CarSt → CarSt) : (s.modCar n f).regs = s.regs := rfl
@[simp] theorem State.modCar_freeCount (s : State) (n : Nat) (f : CarSt → CarSt) : (s.modCar n f).freeCount = s.freeCount := rfl
@[simp] theorem State.modCar_now (s : State) (n : Nat) (f : CarSt → CarSt) : (s.modCar n f).now = s.now := rfl
@[simp] theorem State.modCar_cyc (s : State) (n : Nat) (f : CarSt → CarSt) : (s.modCar n f).cyc = s.cyc := rfl
@[simp] theorem State.modCar_pw (s : State) (n : Nat) (f : CarSt → CarSt) : (s.modCar n f).pw = s.pw := rfl
@[simp] theorem State.modCar_clk (s : State) (n : Nat) (f : CarSt → CarSt) : (s.modCar n f).clk = s.clk := rfl
@[simp] theorem State.modCar_ts (s : State) (n : Nat) (f : CarSt → CarSt) : (s.modCar n f).ts = s.ts := rfl
@[simp] theorem State.modCar_lanes (s : State) (n : Nat) (f : CarSt → CarSt) : (s.modCar n f).lanes = s.lanes := rfl
@[simp] theorem State.modCar_prbs (s : State) (n : Nat) (f : CarSt → CarSt) : (s.modCar n f).prbs = s.prbs := rfl
@[simp] theorem State.modCar_links (s : State) (n : Nat) (f : CarSt → CarSt) : (s.modCar n f).links = s.links := rfl
@[simp] theorem State.modCar_verifyQ (s : State) (n : Nat) (f : CarSt → CarSt) : (s.modCar n f).verifyQ = s.verifyQ := rfl
@[simp] theorem State.modCar_gates (s : State) (n : Nat) (f : CarSt → CarSt) : (s.modCar n f).gates = s.gates := rfl
@[simp] theorem State.modCar_cells (s : State) (n : Nat) (f : CarSt → CarSt) : (s.modCar n f).cells = s.cells := rfl
@[simp] theorem State.modCar_legs (s : State) (n : Nat) (f : CarSt → CarSt) : (s.modCar n f).legs = s.legs := rfl
@[simp] theorem State.modCar_groupPend (s : State) (n : Nat) (f : CarSt → CarSt) : (s.modCar n f).groupPend = s.groupPend := rfl
@[simp] theorem State.modCar_ctxs (s : State) (n : Nat) (f : CarSt → CarSt) : (s.modCar n f).ctxs = s.ctxs := rfl
@[simp] theorem State.modCar_eng (s : State) (n : Nat) (f : CarSt → CarSt) : (s.modCar n f).eng = s.eng := rfl
@[simp] theorem State.modCar_met (s : State) (n : Nat) (f : CarSt → CarSt) : (s.modCar n f).met = s.met := rfl
@[simp] theorem State.modCar_wf (s : State) (n : Nat) (f : CarSt → CarSt) : (s.modCar n f).wf = s.wf := rfl
@[simp] theorem State.modCar_strs (s : State) (n : Nat) (f : CarSt → CarSt) : (s.modCar n f).strs = s.strs := rfl
@[simp] theorem State.modCar_dx (s : State) (n : Nat) (f : CarSt → CarSt) : (s.modCar n f).dx = s.dx := rfl
@[simp] theorem State.modCar_fc (s : State) (n : Nat) (f : CarSt → CarSt) : (s.modCar n f).fc = s.fc := rfl
@[simp] theorem State.modCar_spine (s : State) (n : Nat) (f : CarSt → CarSt) : (s.modCar n f).spine = s.spine := rfl
@[simp] theorem State.modCar_recd (s : State) (n : Nat) (f : CarSt → CarSt) : (s.modCar n f).recd = s.recd := rfl
@[simp] theorem State.modCar_mram (s : State) (n : Nat) (f : CarSt → CarSt) : (s.modCar n f).mram = s.mram := rfl
@[simp] theorem State.modCar_ledger (s : State) (n : Nat) (f : CarSt → CarSt) : (s.modCar n f).ledger = s.ledger := rfl
@[simp] theorem State.modCar_saving (s : State) (n : Nat) (f : CarSt → CarSt) : (s.modCar n f).saving = s.saving := rfl
@[simp] theorem State.modCar_th (s : State) (n : Nat) (f : CarSt → CarSt) : (s.modCar n f).th = s.th := rfl
@[simp] theorem State.modCar_net (s : State) (n : Nat) (f : CarSt → CarSt) : (s.modCar n f).net = s.net := rfl
@[simp] theorem State.modCar_sec (s : State) (n : Nat) (f : CarSt → CarSt) : (s.modCar n f).sec = s.sec := rfl
@[simp] theorem State.modCar_store (s : State) (n : Nat) (f : CarSt → CarSt) : (s.modCar n f).store = s.store := rfl
@[simp] theorem State.modLeg_pending (s : State) (n : Nat) (f : LegSt → LegSt) : (s.modLeg n f).pending = s.pending := rfl
@[simp] theorem State.modLeg_regs (s : State) (n : Nat) (f : LegSt → LegSt) : (s.modLeg n f).regs = s.regs := rfl
@[simp] theorem State.modLeg_freeCount (s : State) (n : Nat) (f : LegSt → LegSt) : (s.modLeg n f).freeCount = s.freeCount := rfl
@[simp] theorem State.modLeg_now (s : State) (n : Nat) (f : LegSt → LegSt) : (s.modLeg n f).now = s.now := rfl
@[simp] theorem State.modLeg_cyc (s : State) (n : Nat) (f : LegSt → LegSt) : (s.modLeg n f).cyc = s.cyc := rfl
@[simp] theorem State.modLeg_pw (s : State) (n : Nat) (f : LegSt → LegSt) : (s.modLeg n f).pw = s.pw := rfl
@[simp] theorem State.modLeg_clk (s : State) (n : Nat) (f : LegSt → LegSt) : (s.modLeg n f).clk = s.clk := rfl
@[simp] theorem State.modLeg_ts (s : State) (n : Nat) (f : LegSt → LegSt) : (s.modLeg n f).ts = s.ts := rfl
@[simp] theorem State.modLeg_lanes (s : State) (n : Nat) (f : LegSt → LegSt) : (s.modLeg n f).lanes = s.lanes := rfl
@[simp] theorem State.modLeg_prbs (s : State) (n : Nat) (f : LegSt → LegSt) : (s.modLeg n f).prbs = s.prbs := rfl
@[simp] theorem State.modLeg_links (s : State) (n : Nat) (f : LegSt → LegSt) : (s.modLeg n f).links = s.links := rfl
@[simp] theorem State.modLeg_verifyQ (s : State) (n : Nat) (f : LegSt → LegSt) : (s.modLeg n f).verifyQ = s.verifyQ := rfl
@[simp] theorem State.modLeg_gates (s : State) (n : Nat) (f : LegSt → LegSt) : (s.modLeg n f).gates = s.gates := rfl
@[simp] theorem State.modLeg_cells (s : State) (n : Nat) (f : LegSt → LegSt) : (s.modLeg n f).cells = s.cells := rfl
@[simp] theorem State.modLeg_cars (s : State) (n : Nat) (f : LegSt → LegSt) : (s.modLeg n f).cars = s.cars := rfl
@[simp] theorem State.modLeg_groupPend (s : State) (n : Nat) (f : LegSt → LegSt) : (s.modLeg n f).groupPend = s.groupPend := rfl
@[simp] theorem State.modLeg_ctxs (s : State) (n : Nat) (f : LegSt → LegSt) : (s.modLeg n f).ctxs = s.ctxs := rfl
@[simp] theorem State.modLeg_eng (s : State) (n : Nat) (f : LegSt → LegSt) : (s.modLeg n f).eng = s.eng := rfl
@[simp] theorem State.modLeg_met (s : State) (n : Nat) (f : LegSt → LegSt) : (s.modLeg n f).met = s.met := rfl
@[simp] theorem State.modLeg_wf (s : State) (n : Nat) (f : LegSt → LegSt) : (s.modLeg n f).wf = s.wf := rfl
@[simp] theorem State.modLeg_strs (s : State) (n : Nat) (f : LegSt → LegSt) : (s.modLeg n f).strs = s.strs := rfl
@[simp] theorem State.modLeg_dx (s : State) (n : Nat) (f : LegSt → LegSt) : (s.modLeg n f).dx = s.dx := rfl
@[simp] theorem State.modLeg_fc (s : State) (n : Nat) (f : LegSt → LegSt) : (s.modLeg n f).fc = s.fc := rfl
@[simp] theorem State.modLeg_spine (s : State) (n : Nat) (f : LegSt → LegSt) : (s.modLeg n f).spine = s.spine := rfl
@[simp] theorem State.modLeg_recd (s : State) (n : Nat) (f : LegSt → LegSt) : (s.modLeg n f).recd = s.recd := rfl
@[simp] theorem State.modLeg_mram (s : State) (n : Nat) (f : LegSt → LegSt) : (s.modLeg n f).mram = s.mram := rfl
@[simp] theorem State.modLeg_ledger (s : State) (n : Nat) (f : LegSt → LegSt) : (s.modLeg n f).ledger = s.ledger := rfl
@[simp] theorem State.modLeg_saving (s : State) (n : Nat) (f : LegSt → LegSt) : (s.modLeg n f).saving = s.saving := rfl
@[simp] theorem State.modLeg_th (s : State) (n : Nat) (f : LegSt → LegSt) : (s.modLeg n f).th = s.th := rfl
@[simp] theorem State.modLeg_net (s : State) (n : Nat) (f : LegSt → LegSt) : (s.modLeg n f).net = s.net := rfl
@[simp] theorem State.modLeg_sec (s : State) (n : Nat) (f : LegSt → LegSt) : (s.modLeg n f).sec = s.sec := rfl
@[simp] theorem State.modLeg_store (s : State) (n : Nat) (f : LegSt → LegSt) : (s.modLeg n f).store = s.store := rfl
@[simp] theorem State.modCtx_pending (s : State) (n : Nat) (f : CtxSt → CtxSt) : (s.modCtx n f).pending = s.pending := rfl
@[simp] theorem State.modCtx_regs (s : State) (n : Nat) (f : CtxSt → CtxSt) : (s.modCtx n f).regs = s.regs := rfl
@[simp] theorem State.modCtx_freeCount (s : State) (n : Nat) (f : CtxSt → CtxSt) : (s.modCtx n f).freeCount = s.freeCount := rfl
@[simp] theorem State.modCtx_now (s : State) (n : Nat) (f : CtxSt → CtxSt) : (s.modCtx n f).now = s.now := rfl
@[simp] theorem State.modCtx_cyc (s : State) (n : Nat) (f : CtxSt → CtxSt) : (s.modCtx n f).cyc = s.cyc := rfl
@[simp] theorem State.modCtx_pw (s : State) (n : Nat) (f : CtxSt → CtxSt) : (s.modCtx n f).pw = s.pw := rfl
@[simp] theorem State.modCtx_clk (s : State) (n : Nat) (f : CtxSt → CtxSt) : (s.modCtx n f).clk = s.clk := rfl
@[simp] theorem State.modCtx_ts (s : State) (n : Nat) (f : CtxSt → CtxSt) : (s.modCtx n f).ts = s.ts := rfl
@[simp] theorem State.modCtx_lanes (s : State) (n : Nat) (f : CtxSt → CtxSt) : (s.modCtx n f).lanes = s.lanes := rfl
@[simp] theorem State.modCtx_prbs (s : State) (n : Nat) (f : CtxSt → CtxSt) : (s.modCtx n f).prbs = s.prbs := rfl
@[simp] theorem State.modCtx_links (s : State) (n : Nat) (f : CtxSt → CtxSt) : (s.modCtx n f).links = s.links := rfl
@[simp] theorem State.modCtx_verifyQ (s : State) (n : Nat) (f : CtxSt → CtxSt) : (s.modCtx n f).verifyQ = s.verifyQ := rfl
@[simp] theorem State.modCtx_gates (s : State) (n : Nat) (f : CtxSt → CtxSt) : (s.modCtx n f).gates = s.gates := rfl
@[simp] theorem State.modCtx_cells (s : State) (n : Nat) (f : CtxSt → CtxSt) : (s.modCtx n f).cells = s.cells := rfl
@[simp] theorem State.modCtx_cars (s : State) (n : Nat) (f : CtxSt → CtxSt) : (s.modCtx n f).cars = s.cars := rfl
@[simp] theorem State.modCtx_legs (s : State) (n : Nat) (f : CtxSt → CtxSt) : (s.modCtx n f).legs = s.legs := rfl
@[simp] theorem State.modCtx_groupPend (s : State) (n : Nat) (f : CtxSt → CtxSt) : (s.modCtx n f).groupPend = s.groupPend := rfl
@[simp] theorem State.modCtx_eng (s : State) (n : Nat) (f : CtxSt → CtxSt) : (s.modCtx n f).eng = s.eng := rfl
@[simp] theorem State.modCtx_met (s : State) (n : Nat) (f : CtxSt → CtxSt) : (s.modCtx n f).met = s.met := rfl
@[simp] theorem State.modCtx_wf (s : State) (n : Nat) (f : CtxSt → CtxSt) : (s.modCtx n f).wf = s.wf := rfl
@[simp] theorem State.modCtx_strs (s : State) (n : Nat) (f : CtxSt → CtxSt) : (s.modCtx n f).strs = s.strs := rfl
@[simp] theorem State.modCtx_dx (s : State) (n : Nat) (f : CtxSt → CtxSt) : (s.modCtx n f).dx = s.dx := rfl
@[simp] theorem State.modCtx_fc (s : State) (n : Nat) (f : CtxSt → CtxSt) : (s.modCtx n f).fc = s.fc := rfl
@[simp] theorem State.modCtx_spine (s : State) (n : Nat) (f : CtxSt → CtxSt) : (s.modCtx n f).spine = s.spine := rfl
@[simp] theorem State.modCtx_recd (s : State) (n : Nat) (f : CtxSt → CtxSt) : (s.modCtx n f).recd = s.recd := rfl
@[simp] theorem State.modCtx_mram (s : State) (n : Nat) (f : CtxSt → CtxSt) : (s.modCtx n f).mram = s.mram := rfl
@[simp] theorem State.modCtx_ledger (s : State) (n : Nat) (f : CtxSt → CtxSt) : (s.modCtx n f).ledger = s.ledger := rfl
@[simp] theorem State.modCtx_saving (s : State) (n : Nat) (f : CtxSt → CtxSt) : (s.modCtx n f).saving = s.saving := rfl
@[simp] theorem State.modCtx_th (s : State) (n : Nat) (f : CtxSt → CtxSt) : (s.modCtx n f).th = s.th := rfl
@[simp] theorem State.modCtx_net (s : State) (n : Nat) (f : CtxSt → CtxSt) : (s.modCtx n f).net = s.net := rfl
@[simp] theorem State.modCtx_sec (s : State) (n : Nat) (f : CtxSt → CtxSt) : (s.modCtx n f).sec = s.sec := rfl
@[simp] theorem State.modCtx_store (s : State) (n : Nat) (f : CtxSt → CtxSt) : (s.modCtx n f).store = s.store := rfl
@[simp] theorem State.modCyc_get (s : State) (f : CoreCycle → CoreCycle) (g : Fld) : (s.modCyc f).get g = s.get g := rfl
@[simp] theorem State.modCyc_bit (s : State) (f : CoreCycle → CoreCycle) (g : Fld) : (s.modCyc f).bit g = s.bit g := rfl
@[simp] theorem State.modClk_get (s : State) (f : Clk → Clk) (g : Fld) : (s.modClk f).get g = s.get g := rfl
@[simp] theorem State.modClk_bit (s : State) (f : Clk → Clk) (g : Fld) : (s.modClk f).bit g = s.bit g := rfl
@[simp] theorem State.modEng_get (s : State) (f : Engine → Engine) (g : Fld) : (s.modEng f).get g = s.get g := rfl
@[simp] theorem State.modEng_bit (s : State) (f : Engine → Engine) (g : Fld) : (s.modEng f).bit g = s.bit g := rfl
@[simp] theorem State.modMram_get (s : State) (f : Mram → Mram) (g : Fld) : (s.modMram f).get g = s.get g := rfl
@[simp] theorem State.modMram_bit (s : State) (f : Mram → Mram) (g : Fld) : (s.modMram f).bit g = s.bit g := rfl
@[simp] theorem State.modNet_get (s : State) (f : Net → Net) (g : Fld) : (s.modNet f).get g = s.get g := rfl
@[simp] theorem State.modNet_bit (s : State) (f : Net → Net) (g : Fld) : (s.modNet f).bit g = s.bit g := rfl
@[simp] theorem State.modMet_get (s : State) (f : Met → Met) (g : Fld) : (s.modMet f).get g = s.get g := rfl
@[simp] theorem State.modMet_bit (s : State) (f : Met → Met) (g : Fld) : (s.modMet f).bit g = s.bit g := rfl
@[simp] theorem State.modFc_get (s : State) (f : Fc → Fc) (g : Fld) : (s.modFc f).get g = s.get g := rfl
@[simp] theorem State.modFc_bit (s : State) (f : Fc → Fc) (g : Fld) : (s.modFc f).bit g = s.bit g := rfl
@[simp] theorem State.modPw_get (s : State) (f : Power → Power) (g : Fld) : (s.modPw f).get g = s.get g := rfl
@[simp] theorem State.modPw_bit (s : State) (f : Power → Power) (g : Fld) : (s.modPw f).bit g = s.bit g := rfl
@[simp] theorem State.modSec_get (s : State) (f : Sec → Sec) (g : Fld) : (s.modSec f).get g = s.get g := rfl
@[simp] theorem State.modSec_bit (s : State) (f : Sec → Sec) (g : Fld) : (s.modSec f).bit g = s.bit g := rfl
@[simp] theorem State.modTh_get (s : State) (f : Therm → Therm) (g : Fld) : (s.modTh f).get g = s.get g := rfl
@[simp] theorem State.modTh_bit (s : State) (f : Therm → Therm) (g : Fld) : (s.modTh f).bit g = s.bit g := rfl
@[simp] theorem State.modTs_get (s : State) (f : Ts → Ts) (g : Fld) : (s.modTs f).get g = s.get g := rfl
@[simp] theorem State.modTs_bit (s : State) (f : Ts → Ts) (g : Fld) : (s.modTs f).bit g = s.bit g := rfl
@[simp] theorem State.modSpine_get (s : State) (f : Spine → Spine) (g : Fld) : (s.modSpine f).get g = s.get g := rfl
@[simp] theorem State.modSpine_bit (s : State) (f : Spine → Spine) (g : Fld) : (s.modSpine f).bit g = s.bit g := rfl
@[simp] theorem State.modWf_get (s : State) (f : Wf → Wf) (g : Fld) : (s.modWf f).get g = s.get g := rfl
@[simp] theorem State.modWf_bit (s : State) (f : Wf → Wf) (g : Fld) : (s.modWf f).bit g = s.bit g := rfl
@[simp] theorem State.modPrbs_get (s : State) (n : Nat) (f : Prbs → Prbs) (g : Fld) : (s.modPrbs n f).get g = s.get g := rfl
@[simp] theorem State.modPrbs_bit (s : State) (n : Nat) (f : Prbs → Prbs) (g : Fld) : (s.modPrbs n f).bit g = s.bit g := rfl
@[simp] theorem State.modLane_get (s : State) (n : Nat) (f : LaneSt → LaneSt) (g : Fld) : (s.modLane n f).get g = s.get g := rfl
@[simp] theorem State.modLane_bit (s : State) (n : Nat) (f : LaneSt → LaneSt) (g : Fld) : (s.modLane n f).bit g = s.bit g := rfl
@[simp] theorem State.modLink_get (s : State) (n : Nat) (f : LinkSt → LinkSt) (g : Fld) : (s.modLink n f).get g = s.get g := rfl
@[simp] theorem State.modLink_bit (s : State) (n : Nat) (f : LinkSt → LinkSt) (g : Fld) : (s.modLink n f).bit g = s.bit g := rfl
@[simp] theorem State.modGate_get (s : State) (n : Nat) (f : GateSt → GateSt) (g : Fld) : (s.modGate n f).get g = s.get g := rfl
@[simp] theorem State.modGate_bit (s : State) (n : Nat) (f : GateSt → GateSt) (g : Fld) : (s.modGate n f).bit g = s.bit g := rfl
@[simp] theorem State.modCell_get (s : State) (n : Nat) (f : BalSt → BalSt) (g : Fld) : (s.modCell n f).get g = s.get g := rfl
@[simp] theorem State.modCell_bit (s : State) (n : Nat) (f : BalSt → BalSt) (g : Fld) : (s.modCell n f).bit g = s.bit g := rfl
@[simp] theorem State.modStr_get (s : State) (n : Nat) (f : StrSt → StrSt) (g : Fld) : (s.modStr n f).get g = s.get g := rfl
@[simp] theorem State.modStr_bit (s : State) (n : Nat) (f : StrSt → StrSt) (g : Fld) : (s.modStr n f).bit g = s.bit g := rfl
@[simp] theorem State.modLed_get (s : State) (n : Nat) (f : LedgerSt → LedgerSt) (g : Fld) : (s.modLed n f).get g = s.get g := rfl
@[simp] theorem State.modLed_bit (s : State) (n : Nat) (f : LedgerSt → LedgerSt) (g : Fld) : (s.modLed n f).bit g = s.bit g := rfl
@[simp] theorem State.modCar_get (s : State) (n : Nat) (f : CarSt → CarSt) (g : Fld) : (s.modCar n f).get g = s.get g := rfl
@[simp] theorem State.modCar_bit (s : State) (n : Nat) (f : CarSt → CarSt) (g : Fld) : (s.modCar n f).bit g = s.bit g := rfl
@[simp] theorem State.modLeg_get (s : State) (n : Nat) (f : LegSt → LegSt) (g : Fld) : (s.modLeg n f).get g = s.get g := rfl
@[simp] theorem State.modLeg_bit (s : State) (n : Nat) (f : LegSt → LegSt) (g : Fld) : (s.modLeg n f).bit g = s.bit g := rfl
@[simp] theorem State.modCtx_get (s : State) (n : Nat) (f : CtxSt → CtxSt) (g : Fld) : (s.modCtx n f).get g = s.get g := rfl
@[simp] theorem State.modCtx_bit (s : State) (n : Nat) (f : CtxSt → CtxSt) (g : Fld) : (s.modCtx n f).bit g = s.bit g := rfl
@[simp] theorem State.transmit_get (s : State) (d : Nat) (b : List Byte) (g : Fld) : (s.transmit d b).get g = s.get g := rfl
@[simp] theorem State.transmit_bit (s : State) (d : Nat) (b : List Byte) (g : Fld) : (s.transmit d b).bit g = s.bit g := rfl
@[simp] theorem State.modCh_get (s : State) (f : ColdHold → ColdHold) (g : Fld) : (s.modCh f).get g = s.get g := rfl
@[simp] theorem State.modCh_bit (s : State) (f : ColdHold → ColdHold) (g : Fld) : (s.modCh f).bit g = s.bit g := rfl
@[simp] theorem State.modPtp_get (s : State) (f : Ptp → Ptp) (g : Fld) : (s.modPtp f).get g = s.get g := rfl
@[simp] theorem State.modPtp_bit (s : State) (f : Ptp → Ptp) (g : Fld) : (s.modPtp f).bit g = s.bit g := rfl
@[simp] theorem State.modLife_get (s : State) (n : Nat) (f : Life → Life) (g : Fld) : (s.modLife n f).get g = s.get g := rfl
@[simp] theorem State.modLife_bit (s : State) (n : Nat) (f : Life → Life) (g : Fld) : (s.modLife n f).bit g = s.bit g := rfl
@[simp] theorem State.setHist_get (s : State) (i : Nat) (l : Option Life) (g : Fld) : (s.setHist i l).get g = s.get g := rfl
@[simp] theorem State.setHist_bit (s : State) (i : Nat) (l : Option Life) (g : Fld) : (s.setHist i l).bit g = s.bit g := rfl
@[simp] theorem State.setSlot_get (s : State) (i : Nat) (x : RecSlot) (g : Fld) : (s.setSlot i x).get g = s.get g := rfl
@[simp] theorem State.setSlot_bit (s : State) (i : Nat) (x : RecSlot) (g : Fld) : (s.setSlot i x).bit g = s.bit g := rfl
@[simp] theorem State.goto_get (s : State) (d : DevState) (g : Fld) : (s.goto d).get g = s.get g := rfl
@[simp] theorem State.goto_bit (s : State) (d : DevState) (g : Fld) : (s.goto d).bit g = s.bit g := rfl
@[simp] theorem State.setStage_get (s : State) (n : Nat) (g : Fld) : (s.setStage n).get g = s.get g := rfl
@[simp] theorem State.setStage_bit (s : State) (n : Nat) (g : Fld) : (s.setStage n).bit g = s.bit g := rfl
@[simp] theorem State.modSpl_get (s : State) (i : Nat) (f : SpLane → SpLane) (g : Fld) : (s.modSpl i f).get g = s.get g := rfl
@[simp] theorem State.modSpl_bit (s : State) (i : Nat) (f : SpLane → SpLane) (g : Fld) : (s.modSpl i f).bit g = s.bit g := rfl

end Sys2Proof.Machine
end

