-- ==== Sys2Proof/Laws/Kept.lean ====
section
/-!
SUPPORT. Laws/Kept.lean: what every command leaves: the queue, the canonical form of the register table, and the OTP items. `Kept s t` says that `t`
has the queue and the OTP of `s`, and registers in canonical form where `s` has; one lemma per function carries it through that function.
-/
namespace Sys2Proof.Machine

/-- The queue and OTP stand, and the register table keeps its form. -/
structure Kept (s t : State) : Prop where
  pending : t.pending = s.pending
  slots : t.sec.slotState = s.sec.slotState
  counters : t.sec.counters = s.sec.counters
  debug : t.sec.debugOff = s.sec.debugOff
  rising : s.RegsRising → t.RegsRising

theorem Kept.refl (s : State) : Kept s s := ⟨rfl, rfl, rfl, rfl, id⟩

theorem Kept.congr {s0 x y : State} (h : Kept s0 x) (hp : y.pending = x.pending) (hr : y.regs = x.regs)
    (h1 : y.sec.slotState = x.sec.slotState) (h2 : y.sec.counters = x.sec.counters) (h3 : y.sec.debugOff = x.sec.debugOff) :
    Kept s0 y :=
  ⟨hp.trans h.pending, h1.trans h.slots, h2.trans h.counters, h3.trans h.debug, fun k => by
    unfold State.RegsRising; rw [hr]; exact h.rising k⟩

theorem Kept.ite {s0 : State} {c : Prop} [Decidable c] {a b : State} (ha : Kept s0 a) (hb : Kept s0 b) :
    Kept s0 (if c then a else b) := by split <;> assumption

theorem Kept.ite_fst {α : Type} {s0 : State} {c : Prop} [Decidable c] {a b : State × α} (ha : Kept s0 a.1) (hb : Kept s0 b.1) :
    Kept s0 (if c then a else b).1 := by split <;> assumption

theorem Kept.ite_snd {α : Type} {s0 : State} {c : Prop} [Decidable c] {a b : α × State} (ha : Kept s0 a.2) (hb : Kept s0 b.2) :
    Kept s0 (if c then a else b).2 := by split <;> assumption

theorem Kept.each {α : Type} {s0 s : State} {l : List α} {f : α → State → State} (h : Kept s0 s)
    (hf : ∀ i x, Kept s0 x → Kept s0 (f i x)) : Kept s0 (s.each l f) := by
  unfold State.each
  induction l generalizing s with
  | nil => exact h
  | cons a l ih => exact ih (hf a s h)

theorem Kept.foldl {α : Type} {s0 s : State} {l : List α} {f : State → α → State} (h : Kept s0 s)
    (hf : ∀ i x, Kept s0 x → Kept s0 (f x i)) : Kept s0 (l.foldl f s) := by
  induction l generalizing s with
  | nil => exact h
  | cons a l ih => exact ih (hf a s h)

/-- What an outcome keeps: its next state, where it answers one. -/
def KeptO (s0 : State) (o : Host.Outcome State Fault Refusal) : Prop := ∀ t, o = .next t → Kept s0 t

theorem KeptO.next {s0 t : State} (h : Kept s0 t) : KeptO s0 (.next t) := fun _ e => by cases e; exact h

theorem State.set_kept {s0 s : State} {f : Fld} {v : Nat} (h : Kept s0 s) : Kept s0 (s.set f v) :=
  ⟨h.pending, h.slots, h.counters, h.debug, fun k => Tab.rising_set _ _ _ (h.rising k)⟩

theorem State.draw_kept {s0 s : State} (h : Kept s0 s) : Kept s0 s.draw.2 := h.congr rfl rfl rfl rfl rfl

theorem State.modSec_kept {s0 s : State} {f : Sec → Sec} (h : Kept s0 s) (h1 : (f s.sec).slotState = s.sec.slotState)
    (h2 : (f s.sec).counters = s.sec.counters) (h3 : (f s.sec).debugOff = s.sec.debugOff) : Kept s0 (s.modSec f) :=
  h.congr rfl rfl h1 h2 h3

end Sys2Proof.Machine
end

