-- ==== Sys2Proof/Laws/Ops.lean ====
section
/-!
SUPPORT. Laws/Ops.lean: all that a report to the collector can do. `Reported s t` says that `t` is `s` but for the registers, the record of
the core cycle, the urgent sets of the links, the kept commands of the cells, the counts of the strings, the stamps of the collector, the messages of
the spine, the recorder's queues and slots, the emergency queue, the phasor path, the injection, and an entry to Safe; one lemma per operation carries it through `raise`.
-/
namespace Sys2Proof.Machine

/-- The state without what a report can change. -/
def State.quiet (s : State) : State :=
  { s with
    regs := [], cyc := {}, links := [], cells := [], strs := [], recd := {},
    eng := { s.eng with inj := {} },
    pw := { s.pw with state := .off },
    met := { s.met with first := none, last := none, reports := [] },
    fc := { s.fc with lastReport := [], winEnd := [] },
    spine := { s.spine with sent := [], seq := [], waiting := [], notice := none },
    mram := { s.mram with slots := [] },
    net := { s.net with emcy := [], errors := [] } }

/-- What a report can do. -/
structure Reported (s t : State) : Prop where
  quiet : t.quiet = s.quiet
  state : t.pw.state = s.pw.state ∨ t.pw.state = .safe
  rising : s.RegsRising → t.RegsRising

theorem Reported.refl (s : State) : Reported s s := ⟨rfl, .inl rfl, id⟩

theorem Reported.trans {a b c : State} (h : Reported a b) (k : Reported b c) : Reported a c := by
  refine ⟨k.quiet.trans h.quiet, ?_, fun x => k.rising (h.rising x)⟩
  rcases k.state with e | e
  · rw [e]; exact h.state
  · exact .inr e

/-- An update of what a report can change, but for the registers and the device state. -/
theorem Reported.of {s t : State} (hq : t.quiet = s.quiet) (hp : t.pw = s.pw) (hr : t.regs = s.regs) : Reported s t :=
  ⟨hq, .inl (by rw [hp]), fun k => by unfold State.RegsRising; rw [hr]; exact k⟩

theorem State.set_reported (s : State) (f : Fld) (v : Nat) : Reported s (s.set f v) :=
  ⟨rfl, .inl rfl, fun k => Tab.rising_set _ _ _ k⟩

theorem State.setBit_reported (s : State) (f : Fld) (b : Bool) : Reported s (s.setBit f b) := State.set_reported ..
theorem State.modCyc_reported (s : State) (f : CoreCycle → CoreCycle) : Reported s (s.modCyc f) := .of rfl rfl rfl
theorem State.noteSet_reported (s : State) (f : Fld) : Reported s (s.noteSet f) := s.modCyc_reported _
theorem State.inc_reported (s : State) (f : Fld) : Reported s (s.inc f) := (s.set_reported f _).trans (State.modCyc_reported ..)
theorem State.set64_reported (s : State) (lo hi : Fld) (v : Nat) : Reported s (s.set64 lo hi v) :=
  (s.set_reported lo _).trans (State.set_reported ..)

theorem State.each_reported {α : Type} (s : State) (l : List α) (f : α → State → State) (hf : ∀ i x, Reported x (f i x)) :
    Reported s (s.each l f) := by
  unfold State.each
  induction l generalizing s with
  | nil => exact .refl s
  | cons a l ih => exact (hf a s).trans (ih (f a s))

theorem Reported.ite {s a b : State} {c : Prop} [Decidable c] (ha : Reported s a) (hb : Reported s b) : Reported s (if c then a else b) := by
  split <;> assumption

theorem Reported.ite_fst {α : Type} {s : State} {a b : State × α} {c : Prop} [Decidable c] (ha : Reported s a.1) (hb : Reported s b.1) :
    Reported s (if c then a else b).1 := by
  split <;> assumption

/-! ### The parts of a report -/

theorem requestUrgent_reported (n : Nat) (u : Urgent) (s : State) : Reported s (requestUrgent n u s) := by
  unfold requestUrgent; exact .ite (.of rfl rfl rfl) (.refl s)

theorem setLeaf_reported (f : Fld) (r : ReportArg) (s : State) : Reported s (setLeaf f r s).1 := by
  have h := s.noteSet_reported f
  unfold setLeaf
  refine .ite_fst (h.trans (State.set_reported ..)) (.ite_fst ?_ ?_) <;> exact .of rfl rfl rfl

theorem raiseLeaf_reported (r : Src) (s : State) : Reported s (raiseLeaf r s).1 := by
  unfold raiseLeaf
  split
  · exact .refl s
  · exact setLeaf_reported ..

theorem dropMsg_reported (s : State) : Reported s (dropMsg s).1 := (s.inc_reported _).trans (raiseLeaf_reported ..)

theorem sendTo_reported (typ chan dest : Nat) (b : List Byte) (s : State) : Reported s (sendTo typ chan dest b s).1 := by
  simp only [sendTo]
  split
  · exact .of rfl rfl rfl
  · split
    · exact .of rfl rfl rfl
    · refine Reported.trans ?_ (dropMsg_reported _)
      exact .of rfl rfl rfl

theorem enqueue_reported (r : Rec) (s : State) : Reported s (enqueue r s).1 := by
  unfold enqueue
  split
  · exact (s.inc_reported _).trans (raiseLeaf_reported ..)
  · exact .of rfl rfl rfl

theorem flush_reported (f : Bool) (s : State) : Reported s (flush f s).1 := by
  simp only [flush]
  split
  · exact .refl s
  · split
    · split
      · exact (s.set_reported _ _).trans (.of rfl rfl rfl)
      · refine Reported.trans ?_ (enqueue_reported _ _)
        exact (s.set_reported (pendField f) 0).trans (.of rfl rfl rfl)
    · exact .refl s

theorem settle_reported (f : Bool) (s : State) : Reported s (settle f s).1 := by
  simp only [settle]
  split
  · exact .refl s
  · split
    · exact (flush_reported f s).trans (State.set_reported ..)
    · exact (s.set_reported _ _).trans (.of rfl rfl rfl)

theorem post_reported (r : Rec) (s : State) : Reported s (post r s).1 := by
  unfold post
  refine .ite_fst ?_ ?_
  · have h : Reported s (if s.pendKey (faultRegion r) = r.key then (s, []) else settle (faultRegion r) s).1 :=
      .ite_fst (.refl s) (settle_reported _ s)
    revert h
    generalize (if s.pendKey (faultRegion r) = r.key then (s, []) else settle (faultRegion r) s) = p
    intro h
    refine (h.trans (State.inc_reported p.1 (pendField (faultRegion r)))).trans ?_
    exact .of rfl rfl rfl
  · refine Reported.trans ?_ (enqueue_reported _ _)
    exact .ite (.refl s) (.of rfl rfl rfl)

theorem openWin_reported (w c b : Nat) (s : State) : Reported s (openWin w c b s) := by
  unfold openWin
  have h : Reported s (if s.winOpen w then s else s.set (R.FC_WIN.CONSEQ w) 0) := .ite (.refl s) (State.set_reported _ _ _)
  generalize (if s.winOpen w then s else s.set (R.FC_WIN.CONSEQ w) 0) = x at h
  refine h.trans ((x.set_reported (R.FC_WIN.OPEN w) 1).trans ((State.set_reported _ (R.FC_WIN.CLASS w) c).trans
    ((State.set_reported _ (R.FC_WIN.FIRST_BLOCK w) (b - 1)).trans ?_)))
  exact .of rfl rfl rfl

theorem postEmcy_reported (origin b i inst info tsc : Nat) (s : State) : Reported s (postEmcy origin b i inst info tsc s).1 := by
  simp only [postEmcy]
  split
  · exact raiseLeaf_reported ..
  · exact .of rfl rfl rfl

theorem groupFirst_reported (loc : Bool) (origin source gt : Nat) (s : State) : Reported s (groupFirst loc origin source gt s) := by
  unfold groupFirst
  refine .ite ?_ (.refl s)
  refine Reported.trans ?_ (State.set64_reported _ _ _ _)
  refine Reported.trans ?_ (State.set_reported _ _ _)
  refine Reported.trans ?_ (State.set_reported _ _ _)
  refine Reported.trans ?_ (State.setBit_reported _ _ _)
  refine Reported.trans ?_ (State.set_reported _ _ _)
  exact .ite ((s.noteSet_reported _).trans (State.set_reported _ _ _)) (s.noteSet_reported _)

theorem parkCells_reported (s : State) : Reported s (parkCells s) := by
  unfold parkCells
  refine (s.each_reported (List.range 8) (fun t s => s.modStr t (fun x => { x with short := false, low := false }))
    fun t x => .of rfl rfl rfl).trans ?_
  exact State.each_reported _ _ _ fun n x => .ite ((x.set_reported (R.BC_STAT.STATE n) 1).trans (.of rfl rfl rfl)) (.refl x)

theorem phasorStart_reported (s : State) : Reported s (phasorStart s) := (s.set_reported _ _).trans (.of rfl rfl rfl)

theorem stopInjection_reported (s : State) : Reported s (stopInjection s).1 := by
  unfold stopInjection
  refine .ite_fst ?_ (.refl s)
  refine Reported.trans ?_ (raiseLeaf_reported _ _)
  exact .of rfl rfl rfl

theorem enterSafe_reported (s : State) : Reported s (enterSafe s).1 := by
  unfold enterSafe
  refine Reported.trans ?_ (stopInjection_reported _)
  refine Reported.trans ?_ (phasorStart_reported _)
  refine Reported.trans ?_ (parkCells_reported _)
  refine Reported.trans ?_ (State.set_reported _ _ _)
  exact ⟨rfl, .inr rfl, id⟩

theorem blackActions_reported (s : State) : Reported s (blackActions s).1 := by
  have h : ∀ p : State × List ReportArg, Reported s p.1 → Reported s
      (((((p.1.each lanes64 fun n s => requestUrgent n .black s).set R.FC_NFAULT.DRIVE 1).set R.FC_NFAULT.PULSE 1).set R.FC_NFAULT.PENDING_REL 0).modCyc
        fun c => { c with black := true }) := fun p hp => by
    refine Reported.trans ?_ (State.modCyc_reported _ _)
    refine Reported.trans ?_ (State.set_reported _ _ _)
    refine Reported.trans ?_ (State.set_reported _ _ _)
    refine Reported.trans ?_ (State.set_reported _ _ _)
    exact hp.trans (State.each_reported _ _ _ fun n x => requestUrgent_reported n .black x)
  unfold blackActions
  refine h _ ?_
  split
  · exact enterSafe_reported s
  · dsimp only; exact parkCells_reported s

theorem fileRecord_reported (r : ReportArg) (c : Nat) (obs inj : Bool) (s : State) : Reported s (fileRecord r c obs inj s) := by
  unfold fileRecord
  refine Reported.trans ?_ (State.set64_reported _ _ _ _)
  refine Reported.trans ?_ (State.set_reported _ _ _)
  refine Reported.trans ?_ (State.setBit_reported _ _ _)
  refine Reported.trans ?_ (State.setBit_reported _ _ _)
  refine Reported.trans ?_ (State.set_reported _ _ _)
  refine Reported.trans ?_ (State.set_reported _ _ _)
  refine Reported.trans ?_ (State.set_reported _ _ _)
  refine Reported.trans ?_ (State.set_reported _ _ _)
  exact State.set_reported _ _ _

theorem tellGroup_reported (r : ReportArg) (c : Nat) (obs : Bool) (s : State) : Reported s (tellGroup r c obs s) := by
  unfold tellGroup
  refine .ite ?_ (.refl s)
  refine (groupFirst_reported true s.pos (sourceNo r) s.groupTime s).trans ?_
  exact .of rfl rfl rfl

theorem capture_reported (r : ReportArg) (c : Nat) (obs inj : Bool) (s : State) : Reported s (capture r c obs inj s).1 := by
  unfold capture
  refine Reported.trans (((fileRecord_reported r c obs inj s).trans (tellGroup_reported r c obs _)).trans
    (State.modCyc_reported _ fun x => { x with captured := r.block :: x.captured })) ?_
  generalize (tellGroup r c obs (fileRecord r c obs inj s)).modCyc (fun x => { x with captured := r.block :: x.captured }) = x
  refine .ite_fst (.ite_fst ?_ ?_) ?_
  · exact (post_reported _ x).trans (postEmcy_reported ..)
  · exact post_reported _ x
  · exact (post_reported _ x).trans (sendTo_reported ..)

/-! ### Reports -/

theorem reheld_reported (b : Nat) (s : State) : Reported s (reheld b s) := by
  unfold reheld
  refine Reported.trans ?_ (State.modCyc_reported _ _)
  refine Reported.trans ?_ (State.set_reported _ _ _)
  exact .ite (.of rfl rfl rfl) (.refl s)

theorem keepReport_reported (r : ReportArg) (c : Nat) (s : State) : Reported s (keepReport r c s).1 := by
  have h : Reported s ((if s.cyc.released.contains r.block then reheld r.block s else s).modCyc
      (fun x => { x with held := r.block :: x.held })) :=
    Reported.trans (.ite (reheld_reported ..) (.refl s)) (State.modCyc_reported _ _)
  simp only [keepReport]
  refine h.trans (.ite_fst (capture_reported ..) ?_)
  refine Reported.trans ?_ (State.inc_reported _ _)
  exact (State.noteSet_reported _ _).trans (State.set_reported ..)

theorem judgeReport_reported (r : ReportArg) (c w : Nat) (s : State) : Reported s (judgeReport r c w s).1 := by
  simp only [judgeReport]
  refine Reported.trans ?_ (.ite (openWin_reported _ _ _ _) (.refl _))
  exact (keepReport_reported r c s).trans (.ite (openWin_reported _ _ _ _) (.refl _))

theorem joinReport_reported (r : ReportArg) (s : State) : Reported s (joinReport r s) := by
  unfold joinReport
  have h : Reported s (if r.injected then s.set (R.FC_FIRST.INJECTED (r.block - 1)) 1 else s) := .ite (s.set_reported _ _) (.refl s)
  exact .ite (h.trans (.ite (State.set_reported ..) (.refl _))) (.refl s)

/-- All that one report can do (R440 to R452). -/
theorem takeOne_reported (r : ReportArg) (s : State) : Reported s (takeOne r s).1 := by
  unfold takeOne
  have h : Reported s { s with fc := { s.fc with lastReport := Tab.set 0 s.fc.lastReport r.block s.ts.tsc } } := .of rfl rfl rfl
  generalize { s with fc := { s.fc with lastReport := Tab.set 0 s.fc.lastReport r.block s.ts.tsc } } = x at h
  dsimp only
  have k : Reported s (if x.joins r then (joinReport r x, [])
      else if x.winHolds (s.scope r) (s.classOf r.block r.src r.inst) || x.winHolds 8 (s.classOf r.block r.src r.inst) then
        (x.inc (R.FC_WIN.CONSEQ (if x.winHolds (s.scope r) (s.classOf r.block r.src r.inst) then s.scope r else 8)), [])
      else judgeReport r (s.classOf r.block r.src r.inst) (s.scope r) x).1 :=
    .ite_fst (h.trans (joinReport_reported r x)) (.ite_fst (h.trans (x.inc_reported _)) (h.trans (judgeReport_reported r _ _ x)))
  revert k
  generalize (if x.joins r then (joinReport r x, [])
      else if x.winHolds (s.scope r) (s.classOf r.block r.src r.inst) || x.winHolds 8 (s.classOf r.block r.src r.inst) then
        (x.inc (R.FC_WIN.CONSEQ (if x.winHolds (s.scope r) (s.classOf r.block r.src r.inst) then s.scope r else 8)), [])
      else judgeReport r (s.classOf r.block r.src r.inst) (s.scope r) x) = p
  intro k
  have m := k.trans (p.1.modCyc_reported fun x => { x with taken := r :: x.taken })
  exact .ite_fst (m.trans (blackActions_reported _)) m

theorem takeAll_reported (k : Nat) (l : List ReportArg) (s : State) : Reported s (takeAll k l s) := by
  induction k generalizing l s with
  | zero => exact .refl s
  | succ k ih =>
    cases l with
    | nil => exact .refl s
    | cons r rs => exact (takeOne_reported r s).trans (ih ..)

theorem report_reported (l : List ReportArg) (s : State) : Reported s (report l s) := takeAll_reported ..

theorem raiseLeaves_reported (l : List Src) (s : State) : Reported s (raiseLeaves l s).1 := by
  induction l generalizing s with
  | nil => exact .refl s
  | cons r l ih => exact (raiseLeaf_reported r s).trans (ih _)

/-- All that events of one core cycle can do (R434). -/
theorem raiseAll_reported (l : List Src) (s : State) : Reported s (raiseAll l s) := (raiseLeaves_reported l s).trans (report_reported ..)
theorem raise_reported (r : Src) (s : State) : Reported s (raise r s) := raiseAll_reported ..
theorem refuse_reported (r : Src) (s : State) : Reported s (refuse r s) := raise_reported r s
theorem postRec_reported (r : Rec) (s : State) : Reported s (postRec r s) := (post_reported ..).trans (report_reported ..)

/-- Fields that a report leaves. -/
theorem Reported.field {α : Type} {s t : State} (h : Reported s t) (g : State → α) (hg : ∀ x : State, g x.quiet = g x) : g t = g s := by
  rw [← hg t, h.quiet, hg]

/-- A report leaves the queue of commands, the OTP and the form of the registers. -/
theorem Reported.kept {s t : State} (h : Reported s t) : Kept s t :=
  ⟨h.field State.pending fun _ => rfl, h.field (fun x => x.sec.slotState) fun _ => rfl, h.field (fun x => x.sec.counters) fun _ => rfl,
    h.field (fun x => x.sec.debugOff) fun _ => rfl, h.rising⟩

/-- A report leaves the timescale, the clocks, the lanes, the gates, the contexts, the engine but for its injection, the duplex pair, the security state and the
messages on the bus. -/
theorem Reported.ts {s t : State} (h : Reported s t) : t.ts = s.ts := h.field State.ts fun _ => rfl
theorem Reported.clk {s t : State} (h : Reported s t) : t.clk = s.clk := h.field State.clk fun _ => rfl
theorem Reported.lanes {s t : State} (h : Reported s t) : t.lanes = s.lanes := h.field State.lanes fun _ => rfl
theorem Reported.gates {s t : State} (h : Reported s t) : t.gates = s.gates := h.field State.gates fun _ => rfl
theorem Reported.ctxs {s t : State} (h : Reported s t) : t.ctxs = s.ctxs := h.field State.ctxs fun _ => rfl
theorem Reported.eng {s t : State} (h : Reported s t) : { t.eng with inj := {} } = { s.eng with inj := {} } :=
  h.field (fun x => { x.eng with inj := {} }) fun _ => rfl
theorem Reported.dx {s t : State} (h : Reported s t) : t.dx = s.dx := h.field State.dx fun _ => rfl
theorem Reported.sec {s t : State} (h : Reported s t) : t.sec = s.sec := h.field State.sec fun _ => rfl
theorem Reported.sent {s t : State} (h : Reported s t) : t.net.sent = s.net.sent := h.field (fun x => x.net.sent) fun _ => rfl

end Sys2Proof.Machine
end

