-- ==== Sys2Proof/Machine/Pins.lean ====
section
/-!
DEFINITION. Machine/Pins.lean: what the device drives on its pins (02_package_signals.md, R43, R44 and R46; the Transmit columns of R162 and R413; R113,
R115, R364 and R389), as functions of State. nIRQ is `State.nirqLow`, nFAULT `State.nfaultLow`, PWREN `Power.pwren`.
-/
namespace Sys2Proof.Machine

/-! ### Digital outputs -/

/-- The state of an output: a clock is high and low for so many cycles of its source; `signal` is data of its interface. -/
inductive Drive where
  | unpowered | highZ | low | high
  | clock (hi lo : Nat)
  | signal
  /-- What the boundary cell holds (R520); the cells are described in the package data file. -/
  | boundary
  /-- TDO: high-impedance outside the shift states. -/
  | shiftOnly
  deriving DecidableEq, Repr

/-- VIO and the core rails are off. -/
def State.dark (s : State) : Bool := s.inState [.off, .standby]

/-- A signal of banks 1 to 4 passes its boundary cell, which EXTEST, CLAMP and HIGHZ take from the device in every state (R520). -/
def State.cell1149 (s : State) (d : Drive) : Drive :=
  if s.dark then .unpowered
  else
    match s.pw.tap with
    | some .extest | some .clamp => .boundary
    | some .highz => .highZ
    | _ => d

/-- The states in which R43 does not hold the clock outputs low. -/
def State.clocksOut (s : State) : Bool := s.inState [.boot, .configure, .armed, .run, .safe]

/-- SDCK0 to SDCK3: the core clock ÷ 20 at 50 % while CKEN says so (R364). -/
def State.sdck (s : State) (k : Nat) : Drive :=
  s.cell1149 (if s.clocksOut && bitAt (s.get R.SDCK_CFG.CKEN) k then .clock 10 10 else .low)

/-- WFCK: the core clock ÷ 5 (R389), low in a unit that does not run and for the first 2 µs of an alignment (R391, R465); high and low are counted in
half cycles. -/
def State.wfck (s : State) : Drive :=
  s.cell1149 (if s.wfAble && s.get R.WF_STAT.STATE ≥ 1 && s.ts.tsc ≥ s.wf.alignAt + 2048 then .clock 5 5 else .low)

/-- CKOUT: the source in use divided by DIV_EFF (R113, R115), low while EN is 0, while load is shed (R465), and while no clock passes (R107). -/
def State.ckout (s : State) : Drive :=
  let d := if s.get R.CLK_CKOUT.DIV_EFF = 0 then 4096 else s.get R.CLK_CKOUT.DIV_EFF
  s.cell1149
    (if !s.clocksOut || !s.bit R.CLK_CKOUT.EN || s.bit R.TH_STAT.SHEDDING || s.bit R.CLK_STAT.CKOUT_BUSY || !s.runs (sourcePll s.clk.ckCur) then .low
    else if d = 1 then .signal
    else .clock ((d + 1) / 2) (d / 2))

/-- nIRQ and nFAULT are open-drain. -/
def State.nirq (s : State) : Drive := s.cell1149 (if s.nirqLow then .low else .highZ)
def State.nfault (s : State) : Drive := if s.nfaultLow then .low else .highZ

/-- TXD: CANopen FD on the Root, recessive elsewhere and while the controller is held in reset (R43, R110, R111, R528). -/
def State.txd (s : State) : Drive := s.cell1149 (if s.cored && s.onBus then .signal else .high)

/-- QSCK, QIO0 to QIO3 and nQCS: high-impedance in Cold hold. -/
def State.qspi (s : State) : Drive := s.cell1149 (if s.pw.state = .coldHold then .highZ else .signal)

def State.tdo (s : State) : Drive := if s.dark then .unpowered else .shiftOnly
def State.pwrenPin (s : State) : Drive := if s.pw.pwren then .high else .low

/-! ### Cell transmit pairs -/

/-- A lane's native serializer is under check (R44, R501): in the self-test of Boot, for at most 400 µs. -/
def State.underCheck (s : State) (n : Nat) : Bool :=
  let t := s.pw.bootAt + Config.checkStart n s.pw.bootAt
  s.pw.state == .boot && s.pw.selfTest && t ≤ s.now && decide (s.now < t + min 409600 (Config.checkLength n s.pw.bootAt))

/-- What a cell lane transmits: electrical idle; one set without end; the slot of a frame, urgent sets apart; or bits of a test. -/
inductive CellTx where
  | unpowered | idle
  | sets (l : List Sym)
  | slot (l : List Sym)
  | test (l : List Bool)
  deriving DecidableEq, Repr

def urgentSet (l : List Byte) : List Sym := .k28_1 :: l.map .data
def blackSet : List Sym := urgentSet (urgentChars .black)

/-- The slot of the frame in progress (R188, R192, R204): its content and the fill that urgent sets leave it; a cut frame ends in K28.3. -/
def State.slotChars (s : State) (n : Nat) : List Sym :=
  let l := s.link n
  let used := if l.urgSlot = s.frame then l.urgChars else l.urgEnd - 320 * s.frame
  let body := .k28_5 :: l.down.map .data
  if l.cut ∧ l.urgSlot = s.frame then
    let b := body.take l.cutAt
    b ++ (.k28_3 :: List.replicate 320 .k27_7).take (320 - used - b.length)
  else body ++ (if body.length = 316 then List.replicate (4 - used) .k27_7 else [])

/-- What a lane's transmit pair carries (R43, R44, R162, R178). -/
def State.cellTx (s : State) (n : Nat) : CellTx :=
  if s.dark then .unpowered
  else if s.pw.state = .coldHold || s.underCheck n then .idle
  else
    match s.laneState n with
    | 0 | 9 => .idle
    | 2 | 3 => .sets (.k28_5 :: (s.tsdSet n).map .data)
    | 4 => .slot (s.slotChars n)
    | 7 => if s.loop n = 1 ∨ s.loop n = 2 then .idle else .test (s.prbsOf n).tx
    | _ => .sets blackSet

/-- The code groups of characters at a lane's transmit pins, from a running disparity on (R155); TX_INV inverts the pair (R183). -/
def State.linePins (s : State) (n : Nat) (rd : Bool) (l : List Sym) : List Nat :=
  (groupsOf rd l).map (fun g => if s.bit (R.LN_CTRL.TX_INV n) then swapGroup g else g)

/-! ### Spine transmit pairs -/

/-- What a spine lane transmits (R413): idle, PRBS13, training blocks one in every 16 with Idle blocks between them, blocks of its link, or test data. -/
inductive SpineTx where
  | unpowered | idle | prbs13
  | training (b : Block)
  | blocks
  | test (l : List Bool)
  deriving DecidableEq, Repr

/-- An Idle block (R412). -/
def idleBlock : Block := .control 0x1E (List.replicate 7 0)

/-- The training block that a lane sends (R412, R414): ADAPTED stands from EXCHANGE on. -/
def State.trainingTx (s : State) (i : Nat) : Block :=
  .control 0x2D (leBytes 7 (2 ^ 54 * (i % 4) + 2 ^ 48 * s.pos + 2 ^ 47 * s.grp + 2 ^ 46 * b2n (s.spl i).rxReady + 2 ^ 45 * s.get (R.SL_CTRL.PRECODE_REQ i)
    + 2 ^ 44 + 2 ^ 40))

def State.spineTx (s : State) (i : Nat) : SpineTx :=
  if s.dark then .unpowered
  else if !s.cored then .idle
  else
    match s.slState i with
    | 2 => .prbs13
    | 3 | 8 => .training (s.trainingTx i)
    | 4 => .blocks
    | 7 => .test (s.prbsOf (64 + i)).tx
    | _ => .idle

/-- The data and Terminate blocks of the bytes of a message after its first 7 (R412). -/
def endBlocks : List Byte → List Block
  | a :: b :: c :: d :: e :: f :: g :: h :: r => .data [a, b, c, d, e, f, g, h] :: endBlocks r
  | l => [.control (blockTypes.getD (6 + l.length) 0) (l ++ List.replicate (7 - l.length) 0)]

/-- The blocks of a message (R412, R419). -/
def messageBlocks (m : List Byte) : List Block := .control 0x78 (m.take 7) :: endBlocks (m.drop 7)

/-- An alignment marker (R412, R416). -/
def markerBlock (count : Nat) : Block := .control 0x33 (leBytes 7 (2 ^ 48 * (count % 256)))

/-- The lanes of a link (0 east, 1 west) in UP, and its blocks striped over them round-robin from the `k`-th block on, by lane code (R416). -/
def State.upLanes (s : State) (dir : Nat) : List Nat := [2 * dir, 2 * dir + 1].filter s.spineUp
def State.stripe (s : State) (dir k : Nat) (bs : List Block) : List (Nat × Block) :=
  let l := s.upLanes dir
  if l = [] then [] else bs.zipIdx.map (fun x => (l.getD ((k + x.2) % l.length) 0, x.1))

/-- The levels of a block at a lane's transmit pins (R411, R414): precoded where precoding is in use, inverted where TX_INV says so. -/
def State.spinePins (s : State) (i prev scr : Nat) (b : Block) : List Nat :=
  blockLevels (s.bit (R.SL_STAT.PRECODE_TX i)) (s.bit (R.SL_CTRL.TX_INV i)) prev scr b

/-! ### Egress -/

/-- The egress pair is in electrical idle in Cold hold and Slate (R43), while its clock is gated (R117), and under spread (R25). -/
def State.egressIdle (s : State) : Bool := !s.clocksOut || s.bit R.CLK_STAT.SPREAD_ACT

end Sys2Proof.Machine
end

