-- ==== Sys2Proof/Tests/Slice0.lean ====
section
/-!
SUPPORT. Tests/Slice0.lean: ill-formed commands that WellFormed refuses, worked values of the spec, and a witness for the hypotheses of
each clause of each statement.
-/
namespace Sys2Proof.Tests
set_option Elab.async false
open Sys2Proof.Machine

/-- A state of the device with a ring position and the listed register fields; everything else is as reset leaves it. -/
def stAt (d : DevState) (p : Nat) (l : List (Fld × Nat)) : State :=
  l.foldl (fun s x => s.set x.1 x.2) { pw := { state := d, straps := p } }

/-- The same at position 0, the Root. -/
def st (d : DevState) (l : List (Fld × Nat)) : State := stAt d 0 l

/-- Cold hold that runs, with what it has done so far. -/
def hold (c : ColdHold) : State := { pw := { state := .coldHold, coldHold := true, ch := c } }

/-- An upstream frame with a good check and the given STAT_A. -/
def upFrame (a : Nat) : List Byte := (leBytes 1 a ++ List.replicate 197 0) ++ leBytes 4 (crc32 (leBytes 1 a ++ List.replicate 197 0))

/-- The same with TEMP0 invalid. -/
def coldFrame (a : Nat) : List Byte :=
  let b := leBytes 1 a ++ List.replicate 56 0 ++ leBytes 2 0x8000 ++ List.replicate 139 0
  b ++ leBytes 4 (crc32 b)

/-- No cell lane is enabled. -/
def lanesOff : List (Fld × Nat) := (List.range 64).flatMap (fun n => [(R.LN_CTRL.EN n, 0), (R.LN_STAT.STATE n, 0)])

/-- The first `k` legs are on carrier 1, not on carrier 0. -/
def legsAway (k : Nat) : List (Fld × Nat) := (List.range k).map (fun l => (R.LEG_CFG.CARRIER l, 1))

/-- One carrier, one leg and the time, behind given registers. -/
def modSt (s : State) (c : CarSt) (l : LegSt) (tsc : Nat) : State := { s with cars := Tab.set {} [] 0 c, legs := Tab.set {} [] 0 l, ts := { tsc := tsc } }

/-- A heartbeat of position 1 with a good check. -/
def hbBytes : List Byte :=
  (leBytes 1 0x48 ++ leBytes 1 0 ++ leBytes 1 1 ++ leBytes 1 5 ++ List.replicate 60 0)
    ++ leBytes 4 (crc32 (leBytes 1 0x48 ++ leBytes 1 0 ++ leBytes 1 1 ++ leBytes 1 5 ++ List.replicate 60 0))

/-- Context `k` runs a sample, with one word of program at its pc. -/
def running (k w : Nat) (q : Sample) (l : List (Fld × Nat)) : State :=
  { regs := (st .run l).regs, pw := { state := .run }, ctxs := Tab.set {} [] k { run := some q }, eng := { prog := [(q.pc, w)] } }

/-- Context `k` with what is behind its registers. -/
def withCtx (k : Nat) (c : CtxSt) (d : DevState) (l : List (Fld × Nat)) : State :=
  { regs := (st d l).regs, pw := { state := d }, ctxs := Tab.set {} [] k c }

/-- The duplex bargain, the time and one cell behind given registers. -/
def withDx (x : Duplex) (tsc : Nat) (c : BalSt) (s : State) : State := { s with dx := x, ts := { tsc := tsc }, cells := Tab.set {} [] 0 c }

/-- A program image whose header is sound and whose signature cannot be: no owner key is active. -/
def imageBytes : List Byte :=
  leBytes 4 0x434D4750 ++ leBytes 2 1 ++ leBytes 2 128 ++ leBytes 4 7363 ++ List.replicate 12 0 ++ leBytes 4 1 ++ leBytes 2 1
    ++ List.replicate 7333 0

/-- A C37.118.2 command frame of IDCODE 7 with code `c`, as the lane receives it. -/
def cmdBytes (c : Nat) : List Byte :=
  List.replicate 12 1 ++ (beBytes 2 0xAA42 ++ beBytes 2 18 ++ beBytes 2 7 ++ List.replicate 8 0 ++ beBytes 2 c)
    ++ beBytes 2 (crcCcitt (beBytes 2 0xAA42 ++ beBytes 2 18 ++ beBytes 2 7 ++ List.replicate 8 0 ++ beBytes 2 c))

/-- The egress lane with its link up and an address. -/
def egress (m : Met) (l : List (Fld × Nat)) : State :=
  { st .run ([(R.EG_STAT.LINK_UP, 1), (O.SRC_IP, 0x0A000001), (O.IDCODE, 7)] ++ l) with met := m }

/-- The wavefront unit behind its registers; set 0 enabled. -/
def wave (w : Wf) (l : List (Fld × Nat)) : State := { st .run ([(R.WF_CTRL.EN, 1), (R.WF_CTRL.SET0_EN, 1)] ++ l) with wf := w }

/-- A report that awaits its send time. -/
def rep0 : Report := { soc := 1, frac := 2, instant := 3, stat := 0, body := [], dig := none }

/-- A Member at position 1, in a device state, with spine state and a time. -/
def member (d : DevState) (x : Spine) (t : Ts) (l : List (Fld × Nat)) : State := { stAt d 1 l with spine := x, ts := t }

/-- The spine and the time behind given registers of the Root. -/
def rootSp (d : DevState) (x : Spine) (t : Ts) (l : List (Fld × Nat)) : State := { st d l with spine := x, ts := t }

/-- A training block of position 1, spine lane 2, with RX_READY (R414). -/
def trainBlock : List Byte := leBytes 7 (2 ^ 40 + 2 ^ 46 + 2 ^ 48 + 2 * 2 ^ 54)

/-- A PTP master of domain 254. -/
def master0 : Announce := ⟨254, 1, 128, 6, 0x20, 0, 128, 1, 0, true, 0, 37, false, false⟩

/-- A ledger, a save and non-volatile memory behind given registers. -/
def ledger0 (l : LedgerSt) (sv : Option (Nat × Nat × Life)) (m : Mram) (r : List (Fld × Nat)) : State :=
  { st .run r with ledger := Tab.set {} [] 0 l, saving := sv, mram := m }

/-- An entry of the fault region. -/
def faultRec : Rec := { typ := 1, cls := 2, plane := 0, block := 8, src := 6 }

/-- A token of AUTHENTICATED_CLEAR with a sound header. -/
def tokBytes : List Byte := leBytes 4 0x424D4B54 ++ leBytes 2 1 ++ leBytes 2 0 ++ leBytes 1 1 ++ List.replicate 7338 0

/-- A device with four clients that await answers. -/
def busy4 : State := { st .run [] with sec := { tokens := [⟨1, [], some 1⟩, ⟨5, [], some 2⟩, ⟨2, [], some 3⟩, ⟨4, [], some 4⟩] } }

/-- A device with one client, 9. -/
def busy1 : State := { st .run [] with sec := { checkFor := some 9 } }
/-- The code groups of a TSU set with an echo and a port byte (R158). -/
def tsu (ty l port : Nat) : List Nat :=
  groupsOf false (.k28_5 :: (leBytes 1 ty ++ leBytes 1 l ++ leBytes 1 port ++ leBytes 1 0 ++ List.replicate 11 0xB5).map .data)

/-- A steady 50 Hz signal at the inputs. -/
def appl0 : Applied := { signal := .steady, phasors := [], freq := 0x42480000, rocof := 0 }

/-! ### Ill-formed commands are refused -/

theorem test_wf_refuses_wide_values :
    (Instr.enterColdHold 16).wf = false ∧ (Instr.pllLockDeclared .a 65536 0).wf = false ∧ (Instr.muxSelectWrite .can 16).wf = false
      ∧ (Instr.ppsEdge 128).wf = false ∧ (Instr.ppsLabelWrite (2 ^ 64)).wf = false ∧ (Instr.temperatureTableClear 256).wf = false
      ∧ (Instr.adoptGroupEpoch 256).wf = false ∧ (Instr.quadMapModeWrite 0 4).wf = false ∧ (Instr.spareSelWrite 0 8).wf = false
      ∧ (Instr.paramWrite 0 0 65536).wf = false ∧ (Instr.groupCommitWrite 65536).wf = false ∧ (Instr.histogramShiftWrite 0 256).wf = false
      ∧ (Instr.wfRecordSelect (2 ^ 32)).wf = false ∧ (Instr.heldClear 65536).wf = false ∧ (Instr.lostClear 65536).wf = false
      ∧ (Instr.recordSelect (2 ^ 32)).wf = false ∧ (Instr.tryNewFirmware 256).wf = false ∧ (Instr.advanceCounter 256).wf = false
      ∧ (Instr.storeParameters (2 ^ 32)).wf = false ∧ (Instr.restoreDefaults (2 ^ 32)).wf = false ∧ (Instr.errorFieldClear 256).wf = false := by
  decide +kernel

theorem test_wf_refuses_wrong_lengths :
    (Instr.delayExchangeBlock 0 []).wf = false ∧ (Instr.scarletSetRx 0 ⟨false, []⟩).wf = false ∧ (Instr.trainingBlockRx 0 []).wf = false
      ∧ (Instr.urgentNoticeRx 0 []).wf = false ∧ (Instr.thermalSample []).wf = false ∧ (Instr.wavefrontCrossing 0 0 []).wf = false
      ∧ (Instr.upstreamFrameRx 0 true 0 false (List.replicate 204 0)).wf = false ∧ (Instr.trainingSetRx 0 0 false (List.replicate 6 0)).wf = false
      ∧ (Instr.codeError (.spine 0 0 0 [])).wf = false
      ∧ (Instr.rpdoRx 0 (List.replicate 65 0)).wf = false := by decide +kernel

theorem test_wf_refuses_long_messages :
    (Instr.heartbeatRx (List.replicate 1025 0)).wf = false
      ∧ (Instr.groupTimeMessage 0 (List.replicate 1037 0)).wf = false ∧ (Instr.phasorBlockRx 0 (List.replicate 1037 0)).wf = false
      ∧ (Instr.enumerationRx 0 (List.replicate 1037 0)).wf = false ∧ (Instr.ringMapRx 0 (List.replicate 1037 0)).wf = false
      ∧ (Instr.forwardedRequestRx 0 (List.replicate 1037 0)).wf = false ∧ (Instr.forwardedResponseRx 0 (List.replicate 1037 0)).wf = false
      ∧ (Instr.hostRecordRx 0 (List.replicate 1037 0)).wf = false := by decide +kernel

theorem test_wf_refuses_ranges :
    (Instr.faultReport ⟨0, 0, 0, true, false⟩).wf = false ∧ (Instr.faultReport ⟨17, 0, 0, true, false⟩).wf = false
      ∧ (Instr.faultReport ⟨1, 16, 0, true, false⟩).wf = false ∧ (Instr.registerWrite true 2 0).wf = false
      ∧ (Instr.trainingSetRx 0 0 false (List.replicate 16 1024)).wf = false ∧ (Instr.codeError (.cell 0 false 1024 0)).wf = false
      ∧ (Instr.prbsLock ⟨0, 0, [2]⟩).wf = false ∧ (Instr.prbsLoss 64 0 [4]).wf = false ∧ (Instr.prbsBitsLoRead 0 true 0 [2]).wf = false
      ∧ (Instr.phasorReport { signal := .steady, phasors := [], freq := 0x7F800000, rocof := 0 }).wf = false
      ∧ (Instr.bistComplete ⟨0, 0, 0, 0, [⟨100, none, none⟩]⟩).wf = false
      ∧ (Instr.registerWrite true 0x110000 0).wf = false ∧ (Instr.usdoRequest ⟨0, 1, 1, 0x1000, 0, none⟩).wf = false := by decide +kernel

/-- No row of the table gives bits. -/
theorem test_no_word_decodes : decodeTableWord 8 0 = none ∧ decodeTableWord 64 (2 ^ 64 - 1) = none := ⟨rfl, rfl⟩

/-! ### Worked values of the spec -/

/-- The two encodings of the example after R342: `STM [p2] leg 0 + 6 × trunc(v9) := v10`, and `COMMIT group 0` with the end bit. -/
theorem test_instruction_words :
    (iOp 0x9D20292000020000 = 0x27 ∧ iPE 0x9D20292000020000 = true ∧ iPN 0x9D20292000020000 = false ∧ iPP 0x9D20292000020000 = 2
      ∧ iA 0x9D20292000020000 = 10 ∧ iB 0x9D20292000020000 = 9 ∧ iRB 0x9D20292000020000 = true ∧ iE 0x9D20292000020000 = false)
    ∧ (iOp 0xA200000000000001 = 0x28 ∧ iE 0xA200000000000001 = true ∧ bits 0xA200000000000001 15 0 = 1) := by decide +kernel

/-- The example after R82: three failed starts with causes 0x0A, 0x01 and 0x09. -/
theorem test_three_failed_starts :
    let t := failedStart 9 (failedStart 1 (failedStart 10 (st .boot [])))
    t.get R.FAIL_CAUSES = 0x000A0109 ∧ t.bit R.START_STAT.SLATE = true ∧ t.get R.START_STAT.SLATE_REASON = 1
      ∧ t.get R.START_STAT.FAILED_CONSEC = 3 := by decide +kernel

/-- A Root at `sec` seconds of TSC, coasting since TSC 0, behind a timescale state. -/
def coasting (stt sec : Nat) (src : RefSource) : State :=
  { st .run [(R.TS_STAT.STATE, stt)] with ts := { tsc := sec * ticksPerSec, running := true, taiValid := true, source := src, holdSince := some 0, lockedAt := some 0 } }

/-- The example after R141: the quality byte at the first edge, during the slew and after it. -/
theorem test_quality_bytes :
    (coasting 4 1200 .pps).tq = 0xEB
    ∧ ({ st .run [(R.TS_STAT.STATE, 2), (R.TS_STAT.SLEWING, 1)] with ts := { running := true, taiValid := true, source := .pps, slewLeft := -24166 } } : State).tq = 0xDB
    ∧ ({ st .run [(R.TS_STAT.STATE, 2)] with ts := { running := true, taiValid := true, source := .pps } } : State).tq = 0x98 := by
  decide +kernel

/-- The example after R380: PTP lost for 600 s; the byte, bits 31:24 of FRACSEC and STAT. -/
theorem test_report_time_bits :
    (coasting 3 600 .ptp).tq = 0xE6 ∧ (coasting 3 600 .ptp).fracHigh = 0x05 ∧ (coasting 3 600 .ptp).statTime = 0x00E0
      ∧ 750000 = 0x0B71B0 := by decide +kernel

/-- The line of the example after R402 with its three onsets. -/
def line148 : State :=
  st .run [(R.WF_LINE, round32 148000), (R.WF_V1, round32 293), (R.WF_V0, round32 265)]
def event148 : WfEvent :=
  { num := 1, at80 := 0, t1 := 214236, ofs := 0, tai := 0, tq := 0, opsec := 0, onsets := [(0, [⟨236873, 256, 0⟩]), (1, [⟨214236, 256, 0⟩, ⟨642708, 256, 0⟩, ⟨820248, 256, 1⟩])] }

/-- The example after R402: W is 1,054,965 ticks, Δt 428,472 ticks, x 61,299.9 m, x_alt 86,700.1 m, and x stands. -/
theorem test_fault_location :
    (setWindow line148).get R.WF_WINDOW = 1054965
    ∧ (match (line148.locate event148).x with
       | some (x, y, dt) => decide (dt = 428472 ∧ absRat (x - 612999 / 10) < 1 / 10 ∧ absRat (y - 867001 / 10) < 1 / 10)
       | none => false) = true
    ∧ (line148.locate event148).valid = true := by decide +kernel

/-- R156 and R159: the groups of K28.5 at either disparity, and D21.5 with its pair swapped reads as D10.2. -/
theorem test_code_groups :
    groupOf false .k28_5 = 0b0011111010 ∧ groupOf true .k28_5 = 0b1100000101
      ∧ readGroups false ((groupsOf false [.data 0xB5, .data 0xB5]).map swapGroup) = [some (.data 0x4A), some (.data 0x4A)]
      ∧ symOf false 0 = none := by decide +kernel

/-- The aperture entry of the example after R541: 0x5805:13 reaches the register word of block 1 at 0x0A48. -/
theorem test_aperture_entry : apertureAddr 0x5805 0x13 = 0x10A48 := by decide +kernel

/-! ### Every operation code is fetched -/

/-- Each instruction statement is about some state: context 127 runs a word with that operation code. -/
theorem witness_instruction_codes :
    ∀ op : Fin 64, ∃ s w q, State.instrAt s 127 = some (w, q) ∧ iOp w = op := fun op =>
  ⟨running 127 (op * 2 ^ 58) { pc := 0 } [], op * 2 ^ 58, { pc := 0 }, by revert op; decide +kernel⟩

/-! ### What the hypotheses of the statements are met by -/

/-- Each clause of WakeEventsInStandby has states and operands that meet its hypotheses. -/
theorem witness_WakeEventsInStandby :
    (∃ (s : State), s.pw.state = .off)
    ∧ (∃ (s : State), s.pw.state = .standby ∧ s.bit R.START_STAT.SLATE = false)
    ∧ (∃ (s : State), s.pw.state = .standby ∧ s.bit R.START_STAT.SLATE = true ∧ s.pw.cycled = 2)
    ∧ (∃ (s : State), s.pw.state = .standby ∧ s.bit R.START_STAT.SLATE = true ∧ s.pw.cycled = 1)
    ∧ (∃ (s : State), s.pw.state = .standby)
    ∧ (∃ (s : State), s.pw.state = .standby ∧ (s.get R.RST_CAUSE.CAUSE = 3 ∨ s.get R.RST_CAUSE.CAUSE = 4 ∨ s.get R.RST_CAUSE.CAUSE = 0xC ∨ ((s.get R.RST_CAUSE.CAUSE = 1 ∨ s.get R.RST_CAUSE.CAUSE = 2) ∧ s.bit O.AUTO_RESTART = true)))
    ∧ (∃ (s : State), s.pw.state = .standby)
    ∧ (∃ (s : State), s.pw.state = .standby ∧ s.pw.pwren = false ∧ s.pw.prsnt = true ∧ s.pw.nReset = true ∧ (s.pw.wakeInsertion = true ∨ s.pw.wakeReset = true ∨ s.pw.wakeRestart = true))
    ∧ (∃ (s : State), s.pw.state = .standby) :=
  ⟨⟨st .off [], by decide +kernel⟩,
    ⟨st .standby [], by decide +kernel⟩,
    ⟨{ st .standby [(R.START_STAT.SLATE, 1)] with pw := { state := .standby, cycled := 2 } }, by decide +kernel⟩,
    ⟨{ st .standby [(R.START_STAT.SLATE, 1)] with pw := { state := .standby, cycled := 1 } }, by decide +kernel⟩,
    ⟨st .standby [], by decide +kernel⟩,
    ⟨st .standby [(R.RST_CAUSE.CAUSE, 1), (O.AUTO_RESTART, 1)], by decide +kernel⟩,
    ⟨st .standby [], by decide +kernel⟩,
    ⟨{ st .standby [] with pw := { state := .standby, prsnt := true, wakeReset := true } }, by decide +kernel⟩,
    ⟨{ st .standby [] with pw := { state := .standby, prsnt := true, wakeReset := true } }, by decide +kernel⟩⟩

/-- Each clause of HandshakeAndPinResets has states and operands that meet its hypotheses. -/
theorem witness_HandshakeAndPinResets :
    (∃ (s : State), s.pw.state = .standby ∧ s.pw.railGood = true ∧ s.noReset = true ∧ s.pw.ejecting = false)
    ∧ (∃ (s : State), s.pw.state = .standby ∧ s.pw.railGood = true ∧ s.pw.pwrenRose = true)
    ∧ (∃ (s : State), s.inState [.boot, .slate, .configure] = true ∧ s.noReset = true ∧ s.pw.pgoodLoss = false ∧ s.pw.ejecting = false)
    ∧ (∃ (s : State), s.inState [.boot, .slate, .configure, .armed, .run, .safe] = true ∧ s.freshCycle = true) :=
  ⟨⟨{ st .standby [] with pw := { state := .standby, railGood := true } }, by decide +kernel⟩,
    ⟨{ st .standby [] with pw := { state := .standby, railGood := true, pwrenRose := true } }, by decide +kernel⟩,
    ⟨st .slate [], by decide +kernel⟩,
    ⟨st .safe [], by decide +kernel⟩⟩

/-- Each clause of LatchedResetsAreTaken has states and operands that meet its hypotheses. -/
theorem witness_LatchedResetsAreTaken :
    (∃ (s : State), ∃ (low : Fin 16), s.inState [.coldHold, .boot, .slate, .configure, .armed, .run, .safe] = true ∧ s.pw.pgoodLoss = false ∧ s.noReset = true ∧ bitAt low.val 1 = true)
    ∧ (∃ (s : State), ∃ (low : Fin 16), s.inState [.boot, .slate, .configure, .armed, .run, .safe] = true ∧ s.pw.pgoodLoss = false ∧ s.noReset = true ∧ bitAt low.val 1 = false ∧ s.bit R.CLK_STAT.LOCK_C = true)
    ∧ (∃ (s : State), ∃ (c : ResetCause), s.pw.pgoodLoss = true ∧ s.pw.cause = some c)
    ∧ (∃ (s : State), ∃ (c : ResetCause), s.pw.nResetBlack = true ∧ s.pw.cause = some c ∧ c.code = 8 ∧ s.pw.pgoodLoss = false ∧ s.pw.ejecting = false)
    ∧ (∃ (s : State), s.inState [.boot, .slate, .configure, .armed, .run, .safe] = true ∧ s.pw.ejecting = false ∧ s.noReset = true ∧ s.dx.current = true)
    ∧ (∃ (s : State), ∃ (d : ResetCause), s.inState [.boot, .slate, .configure, .armed, .run, .safe] = true ∧ s.pw.ejecting = false ∧ s.pw.cause = some d ∧ d.cyc ≠ s.cmCycle ∧ s.dx.current = true)
    ∧ (∃ (s : State), ∃ (c : ResetCause), s.pw.ejecting = true ∧ s.pw.cause = some c ∧ c.code = 0xD)
    ∧ (∃ (s : State), ∃ (c : ResetCause), s.pw.ejecting = false ∧ s.pw.nResetBlack = false ∧ s.pw.pgoodLoss = false ∧ s.pw.cause = some c) :=
  ⟨⟨st .coldHold [], 2, by decide +kernel⟩,
    ⟨st .run [(R.LN_CTRL.EN 63, 1)], 1, by decide +kernel⟩,
    ⟨{ st .run [] with pw := { state := .run, pgoodLoss := true, cause := some ⟨1, 5, true, 1, 0⟩ } }, ⟨1, 5, true, 1, 0⟩, by decide +kernel⟩,
    ⟨{ st .run [] with pw := { state := .run, nResetBlack := true, cause := some ⟨8, 5, true, 0, 0⟩ } }, ⟨8, 5, true, 0, 0⟩, by decide +kernel⟩,
    ⟨{ st .run [] with dx := { current := true } }, by decide +kernel⟩,
    ⟨{ st .run [(R.LKN_STAT.OWNER_TX 0, 1)] with dx := { current := true }, pw := { state := .run, cause := some ⟨9, 5, true, 0, 77⟩ } }, ⟨9, 5, true, 0, 77⟩, by decide +kernel⟩,
    ⟨{ st .run [] with pw := { state := .run, ejecting := true, cause := some ⟨0xD, 5, true, 0, 0⟩ } }, ⟨0xD, 5, true, 0, 0⟩, by decide +kernel⟩,
    ⟨{ st .run [] with pw := { state := .run, cause := some ⟨5, 5, true, 0, 0⟩ } }, ⟨5, 5, true, 0, 0⟩, by decide +kernel⟩⟩

/-- Each clause of StartPolicyAndHostResets has states and operands that meet its hypotheses. -/
theorem witness_StartPolicyAndHostResets :
    (∃ (s : State), s.pw.state = .boot ∧ s.pw.selfTest = true ∧ s.noReset = true ∧ s.pw.pgoodLoss = false ∧ s.pw.ejecting = false)
    ∧ (∃ (s : State), s.pw.state = .boot ∧ s.pw.slateStart = true ∧ (s.pw.romOnly = true ∨ s.pw.fwRuns = true))
    ∧ (∃ (s : State), s.pw.state = .safe ∧ s.noReset = true)
    ∧ (∃ (s : State), s.inState [.boot, .slate, .configure] = true ∧ s.noReset = true ∧ s.pw.pgoodLoss = false ∧ s.pw.ejecting = false)
    ∧ (∃ (s : State), s.pw.state = .run)
    ∧ (∃ (s : State), s.inState [.boot, .slate, .configure] = true ∧ s.noReset = true) :=
  ⟨⟨{ st .boot [] with pw := { state := .boot, selfTest := true } }, by decide +kernel⟩,
    ⟨{ st .boot [] with pw := { state := .boot, slateStart := true, fwRuns := true } }, by decide +kernel⟩,
    ⟨st .safe [(R.LN_STAT.STATE 5, 4)], by decide +kernel⟩,
    ⟨st .configure [], by decide +kernel⟩,
    ⟨st .run [], by decide +kernel⟩,
    ⟨st .configure [], by decide +kernel⟩⟩

/-- Each clause of ColdHoldSequence has states and operands that meet its hypotheses. -/
theorem witness_ColdHoldSequence :
    (∃ (s : State), s.inHold = true)
    ∧ (∃ (s : State), s.inHold = true ∧ s.pw.ch.rcReady = true ∧ s.pw.ch.refPassed = false)
    ∧ (∃ (s : State), s.inHold = true ∧ s.pw.ch.rcReady = true ∧ s.pw.ch.refPassed = false ∧ s.noReset = true)
    ∧ (∃ (s : State), s.inHold = true)
    ∧ (∃ (s : State), s.inHold = true ∧ s.pw.ch.pllA = true ∧ s.pw.ch.locks = 0)
    ∧ (∃ (s : State), s.inHold = true ∧ s.pw.ch.refPassed = true ∧ s.pw.ch.locks < 7)
    ∧ (∃ (s : State), s.inHold = true ∧ s.pw.ch.refPassed = true ∧ s.pw.ch.locks = 13 ∧ s.pw.ch.deferred = false ∧ 500 ≤ s.pw.ch.qualUs ∧ s.pw.ch.qualUs ≤ 5000 ∧ bitAt s.pw.vio 3 = false)
    ∧ (∃ (s : State), s.inHold = true ∧ s.noReset = true ∧ s.pw.pgoodLoss = false ∧ s.pw.ejecting = false) :=
  ⟨⟨hold {}, by decide +kernel⟩,
    ⟨hold { rcReady := true }, by decide +kernel⟩,
    ⟨hold { rcReady := true }, by decide +kernel⟩,
    ⟨hold {}, by decide +kernel⟩,
    ⟨hold { pllA := true }, by decide +kernel⟩,
    ⟨hold { pllA := true, refPassed := true, locks := 6 }, by decide +kernel⟩,
    ⟨hold { pllA := true, refPassed := true, locks := 13, qualUs := 500 }, by decide +kernel⟩,
    ⟨hold {}, by decide +kernel⟩⟩

/-- Each clause of ClockLosses has states and operands that meet its hypotheses. -/
theorem witness_ClockLosses :
    (∃ (s : State), s.pw.state = .coldHold ∧ s.pw.coldHold = true ∧ s.pw.ch.rcReady = false)
    ∧ (∃ (s : State), s.inState [.boot, .slate, .configure] = true ∧ s.clk.monIgnored = false ∧ s.noReset = true)
    ∧ (∃ (s : State), s.active = true ∧ s.clk.monIgnored = false ∧ s.noReset = true ∧ s.bit R.CLK_STAT.LOCK_C = true)
    ∧ (∃ (s : State), s.cored = true ∧ s.noReset = true)
    ∧ (∃ (s : State), s.cored = true ∧ s.bit R.CLK_STAT.LOCK_C = true ∧ s.bit R.CLK_MUX_CAN.CURRENT = false ∧ s.dx.current = false ∧ s.inState [.armed, .run] = false)
    ∧ (∃ (s : State), s.cored = true ∧ s.bit R.CLK_STAT.LOCK_C = true ∧ s.dx.current = false ∧ s.inState [.armed, .run] = true ∧ s.acts Src.CLK_PLLC_LOST_ALONE = true)
    ∧ (∃ (s : State), s.cored = true ∧ s.bit R.CLK_STAT.LOCK_C = true)
    ∧ (∃ (s : State), s.cored = true ∧ s.bit R.CLK_STAT.LOCK_S = true)
    ∧ (∃ (s : State), s.cored = true ∧ s.bit R.CLK_STAT.LOCK_T = true)
    ∧ (∃ (s : State), s.cored = true ∧ s.bit R.CLK_STAT.LOCK_C = false)
    ∧ (∃ (s : State), s.clk.tReturn = true ∧ s.bit R.CLK_STAT.LOCK_T = true)
    ∧ (∃ (s : State), s.cored = true) :=
  ⟨⟨{ st .coldHold [] with pw := { state := .coldHold, coldHold := true } }, by decide +kernel⟩,
    ⟨st .boot [], by decide +kernel⟩,
    ⟨st .run [(R.LN_STAT.STATE 5, 4)], by decide +kernel⟩,
    ⟨st .run [(R.LN_CTRL.EN 3, 1)], by decide +kernel⟩,
    ⟨st .configure [], by decide +kernel⟩,
    ⟨st .run [], by decide +kernel⟩,
    ⟨st .run [], by decide +kernel⟩,
    ⟨st .run [], by decide +kernel⟩,
    ⟨st .run [], by decide +kernel⟩,
    ⟨st .run [(R.CLK_STAT.LOCK_C, 0), (R.CLK_DITHER.DITHER_C, 1)], by decide +kernel⟩,
    ⟨{ st .run [] with clk := { tReturn := true } }, by decide +kernel⟩,
    ⟨st .run [], by decide +kernel⟩⟩

/-- Each clause of ClockMultiplexers has states and operands that meet its hypotheses. -/
theorem witness_ClockMultiplexers :
    (∃ (s : State), s.bit R.CLK_STAT.SPREAD_ACT = false ∧ s.bit R.CLK_MUX_CAN.BUSY = false)
    ∧ (∃ (s : State), s.bit R.CLK_STAT.SPREAD_ACT = true)
    ∧ (∃ (s : State), s.bit R.CLK_MUX_CAN.BUSY = true ∧ s.canRuns (s.get R.CLK_MUX_CAN.CURRENT) = true ∧ s.canRuns (s.get R.CLK_MUX_CAN.SEL) = true)
    ∧ (∃ (s : State), s.bit R.CLK_MUX_CAN.BUSY = true)
    ∧ (∃ (s : State), s.bit R.CLK_STAT.CKOUT_BUSY = true)
    ∧ (∃ (s : State), s.bit R.CLK_MUX_CAN.CONSUMER_IDLE = true)
    ∧ (∃ (s : State), s.bit R.CLK_MUX_CAN.CONSUMER_IDLE = false)
    ∧ (∃ (s : State), s.bit R.CLK_MUX_CAN.CONSUMER_IDLE = true)
    ∧ (∃ (s : State), ∃ (v : Word), s.pw.state = .configure ∧ bitAt v.toNat 3 = false)
    ∧ (∃ (s : State), ∃ (v : Word), s.pw.state = .configure ∧ bitAt v.toNat 3 = true ∧ bitAt v.toNat 2 = false ∧ s.get R.MET_STAT.PH_STATE = 0 ∧ s.bit R.WF_CTRL.EN = false ∧ s.bit R.CLK_MUX_CAN.CURRENT = true)
    ∧ (∃ (s : State), ∃ (v : Word), s.pw.state = .configure ∧ bitAt v.toNat 3 = true ∧ s.bit R.CLK_MUX_CAN.CURRENT = false)
    ∧ (∃ (s : State), s.clk.ramp = true) :=
  ⟨⟨st .run [], by decide +kernel⟩,
    ⟨st .run [(R.CLK_STAT.SPREAD_ACT, 1)], by decide +kernel⟩,
    ⟨st .run [(R.CLK_MUX_CAN.BUSY, 1)], by decide +kernel⟩,
    ⟨st .run [(R.CLK_MUX_CAN.BUSY, 1)], by decide +kernel⟩,
    ⟨st .run [(R.CLK_STAT.CKOUT_BUSY, 1)], by decide +kernel⟩,
    ⟨st .run [(R.CLK_MUX_CAN.CONSUMER_IDLE, 1)], by decide +kernel⟩,
    ⟨st .run [], by decide +kernel⟩,
    ⟨st .run [(R.CLK_MUX_CAN.CONSUMER_IDLE, 1)], by decide +kernel⟩,
    ⟨st .configure [], 3, by decide +kernel⟩,
    ⟨st .configure [(R.MET_STAT.PH_STATE, 0), (R.CLK_MUX_CAN.CURRENT, 1), (R.EG_STAT.LINK_UP, 1)], 10, by decide +kernel⟩,
    ⟨st .configure [], 8, by decide +kernel⟩,
    ⟨{ st .run [] with clk := { ramp := true } }, by decide +kernel⟩⟩

/-- Each clause of ThermalMonitor has states and operands that meet its hypotheses. -/
theorem witness_ThermalMonitor :
    (∃ (s : State), s.th.shutting = true ∧ s.noReset = true)
    ∧ (∃ (s : State), ∃ (x : Int), s.inState [.configure, .armed, .run, .safe] = true ∧ s.goodSensors = List.range 12 ∧ 0 ≤ x ∧ 16 * x < 16 * s.get R.TH_LIMITS.WARN - 80 ∧ 16 * x < 16 * s.get R.TH_LIMITS.THROT - 80 ∧ 16 * x < 16 * s.get R.TH_LIMITS.SHUT - 80 ∧ x ≤ 150 ∧ s.bit R.TH_STAT.WARN_ACT = false ∧ s.bit R.TH_STAT.THROT_ACT = false ∧ s.th.shut = false ∧ s.get R.TH_CTRL.RATE = 0 ∧ s.bit R.TH_STAT.SHEDDING = false) :=
  ⟨⟨{ st .run [] with th := { shutting := true } }, by decide +kernel⟩,
    ⟨st .run [(R.TH_CTRL.RATE, 0)], 0, by decide +kernel⟩⟩

/-- Each clause of LaneBringUpSteps has states and operands that meet its hypotheses. -/
theorem witness_LaneBringUpSteps :
    (∃ (s : State), ∃ (n : Fin 64), s.pw.state = .configure ∧ s.bit (R.LN_CTRL.EN n) = false ∧ s.sec.deadLanes = 0 ∧ s.bit R.CLK_STAT.LOCK_C = true ∧ s.up n = false)
    ∧ (∃ (s : State), ∃ (n : Fin 64), (s.laneState n = 2 ∨ s.laneState n = 8))
    ∧ (∃ (s : State), ∃ (n : Fin 64), (s.laneState n = 2 ∨ s.laneState n = 8) ∧ s.bit (R.LN_STAT.SIGNAL n) = true)
    ∧ (∃ (s : State), ∃ (p : Fin 64), ∃ (n : Nat), ∃ (g : Nat), n = s.laneOfPad p ∧ (s.laneState n = 2 ∨ s.laneState n = 8) ∧ s.bit (R.LN_STAT.SIGNAL n) = true ∧ s.bit (R.LN_STAT.CDR_LOCK n) = true ∧ s.bit (R.LN_STAT.ALIGNED n) = false ∧ (s.lane n).commas = 3 ∧ isComma g = true)
    ∧ (∃ (s : State), ∃ (p : Fin 64), ∃ (k : Fin 10), ∃ (rd : Bool), ∃ (gs : List Nat), ∃ (l : Nat), ∃ (ty : Nat), ∃ (port : Nat), k.val = (s.lane p).commaPlace ∧ s.map (p.val / 4) = 0 ∧ s.laneState p = 2 ∧ s.bit (R.LN_STAT.SIGNAL p) = true ∧ s.bit (R.LN_STAT.CDR_LOCK p) = true ∧ s.bit (R.LN_STAT.ALIGNED p) = true ∧ (s.lane p).tsuRun = 0 ∧ (l = p.val ∨ l = mirror p) ∧ (ty = 0x11 ∨ ty = 0x12) ∧ port < 256 ∧ s.readLane p rd gs = (Sym.k28_5 :: (leBytes 1 ty ++ leBytes 1 l ++ leBytes 1 port ++ leBytes 1 0 ++ List.replicate 11 0xB5).map Sym.data).map some)
    ∧ (∃ (s : State), ∃ (p : Fin 64), ∃ (n : Nat), ∃ (k : Fin 10), ∃ (rd : Bool), ∃ (gs : List Nat), ∃ (ty : Nat), ∃ (port : Nat), n = s.laneOfPad p ∧ k.val = (s.lane n).commaPlace ∧ (s.map (p.val / 4) = 1 ∨ s.map (p.val / 4) = 2) ∧ s.laneState n = 2 ∧ s.bit (R.LN_STAT.SIGNAL n) = true ∧ s.bit (R.LN_STAT.CDR_LOCK n) = true ∧ s.bit (R.LN_STAT.ALIGNED n) = true ∧ (s.lane n).tsuRun = 7 ∧ (s.lane n).echo = some n ∧ (ty = 0x11 ∨ ty = 0x12) ∧ port < 256 ∧ s.readLane n rd gs = (Sym.k28_5 :: (leBytes 1 ty ++ leBytes 1 n ++ leBytes 1 port ++ leBytes 1 0 ++ List.replicate 11 0xB5).map Sym.data).map some)
    ∧ (∃ (s : State), ∃ (p : Fin 64), ∃ (n : Nat), ∃ (k : Fin 10), ∃ (rd : Bool), ∃ (gs : List Nat), ∃ (port : Nat), n = s.laneOfPad p ∧ k.val = (s.lane n).commaPlace ∧ (s.map (p.val / 4) = 1 ∨ s.map (p.val / 4) = 2) ∧ s.laneState n = 3 ∧ s.bit (R.LN_STAT.SIGNAL n) = true ∧ s.bit (R.LN_STAT.CDR_LOCK n) = true ∧ s.bit (R.LN_STAT.ALIGNED n) = true ∧ (s.lane n).tsu2Run = 7 ∧ (s.lane n).wasLost = false ∧ (s.lane n).absent = false ∧ s.get (R.LN_STAT.PORT n) = s.pos % 2 ∧ 16 ≤ s.tsd2Sent n ∧ port < 256 ∧ s.readLane n rd gs = (Sym.k28_5 :: (leBytes 1 0x12 ++ leBytes 1 n ++ leBytes 1 port ++ leBytes 1 0 ++ List.replicate 11 0xB5).map Sym.data).map some)
    ∧ (∃ (s : State), ∃ (p : Fin 64), ∃ (n : Nat), ∃ (k : Fin 10), n = s.laneOfPad p ∧ s.inAttempt n = true ∧ s.bit (R.LN_STAT.SIGNAL n) = true ∧ s.bit (R.LN_STAT.CDR_LOCK n) = true ∧ s.bit (R.LN_STAT.ALIGNED n) = true ∧ k.val ≠ (s.lane n).commaPlace) :=
  ⟨⟨st .configure [(R.LN_CTRL.EN 63, 0)], 63, by decide +kernel⟩,
    ⟨st .configure [(R.LN_STAT.STATE 0, 2)], 0, by decide +kernel⟩,
    ⟨st .configure [(R.LN_STAT.STATE 0, 2), (R.LN_STAT.SIGNAL 0, 1)], 0, by decide +kernel⟩,
    ⟨(st .configure [(R.QUAD_CFG.MAP 15, 2), (R.LN_STAT.STATE 60, 2), (R.LN_STAT.SIGNAL 60, 1), (R.LN_STAT.CDR_LOCK 60, 1)]).modLane 60 (fun _ => { commas := 3, commaPlace := 9 }), 63, 60, 0b1100000101, by decide +kernel⟩,
    ⟨(st .configure [(R.LN_STAT.STATE 5, 2), (R.LN_STAT.SIGNAL 5, 1), (R.LN_STAT.CDR_LOCK 5, 1), (R.LN_STAT.ALIGNED 5, 1)]).modLane 5 (fun _ => { commas := 4 }), 5, 0, false, tsu 0x12 6 255, 6, 0x12, 255, by decide +kernel⟩,
    ⟨(st .configure [(R.QUAD_CFG.MAP 1, 2), (R.LN_STAT.STATE 5, 2), (R.LN_STAT.SIGNAL 5, 1), (R.LN_STAT.CDR_LOCK 5, 1), (R.LN_STAT.ALIGNED 5, 1)]).modLane 5 (fun _ => { commas := 4, tsuRun := 7, echo := some 5 }), 6, 5, 0, false, tsu 0x12 5 255, 0x12, 255, by decide +kernel⟩,
    ⟨{ (st .configure [(R.QUAD_CFG.MAP 1, 1), (R.LN_STAT.STATE 5, 3), (R.LN_STAT.SIGNAL 5, 1), (R.LN_STAT.CDR_LOCK 5, 1), (R.LN_STAT.ALIGNED 5, 1)]).modLane 5 (fun _ => { commas := 4, tsu2Run := 7, readyAt := 1000 }) with ts := { tsc := 1844 } }, 5, 5, 0, false, tsu 0x12 5 0, 0, by decide +kernel⟩,
    ⟨(st .configure [(R.QUAD_CFG.MAP 15, 2), (R.LN_STAT.STATE 60, 3), (R.LN_STAT.SIGNAL 60, 1), (R.LN_STAT.CDR_LOCK 60, 1), (R.LN_STAT.ALIGNED 60, 1)]).modLane 60 (fun _ => { commas := 4, tsu2Run := 7 }), 63, 60, 9, by decide +kernel⟩⟩

/-- Each clause of LaneAttemptsAndLoss has states and operands that meet its hypotheses. -/
theorem witness_LaneAttemptsAndLoss :
    (∃ (s : State), ∃ (n : Fin 64), s.pw.state = .configure ∧ s.laneEn n = true ∧ s.up n = false ∧ (Tab.get {} s.ledger n).life = none)
    ∧ (∃ (s : State), ∃ (n : Fin 64), s.inAttempt n = true ∧ s.get (R.LN_STAT.ATTEMPT n) < 16)
    ∧ (∃ (s : State), ∃ (n : Fin 64), s.inAttempt n = true ∧ s.get (R.LN_STAT.ATTEMPT n) = 16)
    ∧ (∃ (s : State), ∃ (n : Fin 64), s.laneState n = 5 ∧ s.get (R.LN_STAT.ATTEMPT n) < 16)
    ∧ (∃ (s : State), ∃ (n : Fin 64), s.laneState n = 6)
    ∧ (∃ (s : State), ∃ (n : Fin 64), (s.laneState n = 5 ∨ s.laneState n = 6))
    ∧ (∃ (s : State), ∃ (n : Fin 64), s.up n = true) :=
  ⟨⟨st .configure [(R.LN_CTRL.EN 7, 1), (R.LN_STAT.STATE 7, 2)], 7, by decide +kernel⟩,
    ⟨st .configure [(R.LN_CTRL.EN 7, 1), (R.LN_STAT.STATE 7, 2), (R.LN_STAT.ATTEMPT 7, 15)], 7, by decide +kernel⟩,
    ⟨(st .configure [(R.LN_CTRL.EN 7, 1), (R.LN_STAT.STATE 7, 3), (R.LN_STAT.ATTEMPT 7, 16)]).modLane 7 (fun _ => { retry := true }), 7, by decide +kernel⟩,
    ⟨st .configure [(R.LN_STAT.STATE 0, 5), (R.LN_STAT.ATTEMPT 0, 15)], 0, by decide +kernel⟩,
    ⟨st .configure [(R.LN_STAT.STATE 0, 6), (R.LN_STAT.ATTEMPT 0, 16)], 0, by decide +kernel⟩,
    ⟨st .configure [(R.LN_STAT.STATE 0, 5)], 0, by decide +kernel⟩,
    ⟨st .run [(R.LN_STAT.STATE 0, 4)], 0, by decide +kernel⟩⟩

/-- Each clause of QuadsSparesAndTests has states and operands that meet its hypotheses. -/
theorem witness_QuadsSparesAndTests :
    (∃ (s : State), ∃ (q : Fin 16), s.pw.state = .configure ∧ orientation (s.get (R.QUAD_CFG.MAP_MODE q)) = 0 ∧ (∀ n, n < 64 → s.bit (R.LN_CTRL.EN n) = false))
    ∧ (∃ (s : State), ∃ (q : Fin 16), ∃ (v : Nat), s.pw.state = .configure ∧ v < 4 ∧ orientation v = orientation (s.get (R.QUAD_CFG.MAP_MODE q)))
    ∧ (∃ (v : Nat), 5 ≤ v)
    ∧ (∃ (s : State), ∃ (q : Fin 16), s.bit (R.QUAD_CFG.SPARE_LOCK q) = true)
    ∧ (∃ (s : State), ∃ (q : Fin 16), ∃ (v : Nat), v ≤ 4 ∧ s.bit (R.QUAD_CFG.SPARE_LOCK q) = false ∧ (∀ n, n < 64 → s.laneState n = 0) ∧ (∀ n, n < 64 → s.bit (R.LN_CTRL.EN n) = false))
    ∧ (∃ (s : State), ∃ (q : Fin 16), s.bit (R.QUAD_CFG.SPARE_BUSY q) = true ∧ (∀ n, n < 64 → s.laneState n ≠ 9))
    ∧ (∃ (s : State), ∃ (n : Fin 64), ∃ (v : Word), s.pw.state = .configure ∧ s.up n = false ∧ s.laneEn n = true ∧ 2 ^ 26 ≤ v.toNat)
    ∧ (∃ (s : State), ∃ (n : Fin 64), ∃ (v : Word), s.pw.state = .configure ∧ s.laneEn n = false ∧ 2 ^ 26 ≤ v.toNat)
    ∧ (∃ (s : State), ∃ (n : Fin 64), s.laneState n = 7 ∧ s.pw.state = .configure ∧ s.laneEn n = true ∧ s.bit R.CLK_STAT.LOCK_C = true) :=
  ⟨⟨st .configure lanesOff, 15, by decide +kernel⟩,
    ⟨st .configure [], 0, 3, by decide +kernel⟩,
    ⟨5, by decide +kernel⟩,
    ⟨st .configure [(R.QUAD_CFG.SPARE_LOCK 0, 1)], 0, by decide +kernel⟩,
    ⟨st .configure lanesOff, 15, 4, by decide +kernel⟩,
    ⟨st .configure [(R.QUAD_CFG.SPARE_BUSY 3, 1)], 3, by decide +kernel⟩,
    ⟨st .configure [(R.LN_CTRL.EN 63, 1)], 63, 0x84000000, by decide +kernel⟩,
    ⟨st .configure [(R.LN_CTRL.EN 63, 0)], 63, 0x04000000, by decide +kernel⟩,
    ⟨st .configure [(R.LN_CTRL.EN 0, 1), (R.LN_STAT.STATE 0, 7)], 0, by decide +kernel⟩⟩

/-- Each clause of LinkFramesBothWays has states and operands that meet its hypotheses. -/
theorem witness_LinkFramesBothWays :
    (∃ (s : State), ∃ (n : Fin 64), s.up n = true ∧ (s.cell n).ownNext = none ∧ (s.gate n).tripClear = none ∧ (s.gate n).clearPhase ≠ 1)
    ∧ (∃ (s : State), ∃ (n : Fin 64), ∃ (rd : Bool), ∃ (gs : List Nat), ∃ (bs : List Byte), s.rxOnly n = true ∧ s.readLane n rd gs = (Sym.k28_5 :: bs.map Sym.data).map some ∧ upGood bs = true ∧ bitAt (upStatA bs) 1 = false ∧ bitAt (upStatA bs) 3 = false ∧ bitAt (upStatA bs) 5 = false ∧ upFault bs = 0 ∧ (s.gate n).oc = none ∧ (s.gate n).capOv = none ∧ upTemp0 bs = none ∧ s.admitted n = false ∧ s.monitor n = true ∧ 0 < s.get (R.GSC_CFG.DEB n) ∧ (s.gate n).warnOff = 0 ∧ (s.gate n).warnOn = 0 ∧ (s.gate n).tripOn = 0 ∧ (s.gate n).tripOff = 0 ∧ (s.gate n).clearHold = false)
    ∧ (∃ (s : State), ∃ (n : Fin 64), ∃ (rd : Bool), ∃ (gs : List Nat), s.up n = true ∧ (s.link n).invalidRun < 3 ∧ (s.link n).rtCount < 64 ∧ codeErrorsIn (s.readLane n rd gs) = 0 ∧ (dataAfter .k28_5 (s.readLane n rd gs)).all (fun bs => !upGood bs) = true)
    ∧ (∃ (s : State), ∃ (n : Fin 64), s.up n = true ∧ (s.link n).invalidRun < 3)
    ∧ (∃ (s : State), ∃ (n : Fin 64), ∃ (c : Nat), (s.link n).rtCount = c ∧ 0 < c ∧ (s.link n).desc ≠ [] ∧ (s.link n).descReq = false ∧ c * descTTurn (s.link n).desc ≤ (s.link n).rtSum + c ∧ (s.link n).rtSum + c < c * descTTurn (s.link n).desc + 2 * c * 513)
    ∧ (∃ (s : State), ∃ (n : Fin 64), ∃ (d : Nat), (s.link n).dPending = some d ∧ d ≤ 512 ∧ s.get (R.LKN_STAT.ADMIT n) = 3)
    ∧ (∃ (s : State), ∃ (n : Fin 64), ∃ (u : Urgent), ∃ (rest : List Urgent), (s.link n).urgQ = u :: rest ∧ s.up n = true ∧ s.urgBefore n = 0)
    ∧ (∃ (s : State), ∃ (n : Fin 64), ∃ (u : Urgent), ∃ (rest : List Urgent), (s.link n).urgQ = u :: rest ∧ s.up n = true ∧ 0 < s.urgBefore n ∧ s.urgCut n = false ∧ s.urgAt n % 320 < 316 + s.urgBefore n) :=
  ⟨⟨st .run [(R.LN_STAT.STATE 0, 4)], 0, by decide +kernel⟩,
    ⟨st .configure [(R.LN_STAT.STATE 9, 8), (R.LN_STAT.SIGNAL 9, 1), (R.LN_STAT.CDR_LOCK 9, 1), (R.LN_STAT.ALIGNED 9, 1), (R.GSC_CFG.DEB 9, 8)], 9, false, groupsOf false (.k28_5 :: (coldFrame 0x94).map .data), coldFrame 0x94, by decide +kernel⟩,
    ⟨(st .run [(R.LN_STAT.STATE 0, 4)]).modLink 0 (fun _ => { invalidRun := 2, rtCount := 63 }), 0, true, groupsOf true [.k28_5, .data 7], by decide +kernel⟩,
    ⟨(st .run [(R.LN_STAT.STATE 0, 4)]).modLink 0 (fun _ => { invalidRun := 2 }), 0, by decide +kernel⟩,
    ⟨(st .run []).modLink 63 (fun _ => { rtCount := 64, rtSum := 65599, desc := List.replicate 64 0 }), 63, 64, by decide +kernel⟩,
    ⟨(st .run [(R.LKN_STAT.ADMIT 1, 3)]).modLink 1 (fun _ => { dPending := some 512 }), 1, 512, by decide +kernel⟩,
    ⟨(st .run [(R.LN_STAT.STATE 1, 4)]).modLink 1 (fun _ => { urgQ := [.black] }), 1, .black, [], by decide +kernel⟩,
    ⟨(st .run [(R.LN_STAT.STATE 1, 4)]).modLink 1 (fun _ => { urgQ := [.targeted 3 false], urgEnd := 319, urgChars := 4 }), 1, .targeted 3 false, [], by decide +kernel⟩⟩

/-- Each clause of HeadParametersAndIdentity has states and operands that meet its hypotheses. -/
theorem witness_HeadParametersAndIdentity :
    (∃ (s : State), ∃ (n : Fin 64), s.owns n = true)
    ∧ (∃ (s : State), ∃ (n : Fin 64), s.owns n = false)
    ∧ (∃ (s : State), ∃ (n : Fin 64), s.get (R.LKN_PARAM.STATUS n) = 1)
    ∧ (∃ (s : State), ∃ (n : Fin 64), (s.get (R.LKN_STAT.ADMIT n) = 1 ∨ s.get (R.LKN_STAT.ADMIT n) = 3))
    ∧ (∃ (s : State), ∃ (n : Fin 64), s.get (R.LKN_STAT.ADMIT n) = 2)
    ∧ (∃ (s : State), ∃ (n : Fin 64), ∃ (r : Nat), s.sec.engine = some (.verify n true) ∧ ((s.link n).admitted = [] ∨ (s.link n).admitted = digestOf ((s.link n).desc.take 2720)) ∧ r = verifyResult (s.link n).desc (Config.waisinKey :: s.sec.makerKeys.filter (· != 0)) (s.bit (R.LKN_CTRL.ID_POLICY n)) ∧ s.get (R.LKN_STAT.ADMIT n) = 1 ∧ s.get (R.LN_STAT.PORT n) = s.pos % 2 ∧ (s.link n).dFormed = false)
    ∧ (∃ (s : State), ∃ (n : Fin 64), (s.link n).descReq = true ∧ (s.get (R.LKN_STAT.ADMIT n) = 1 ∨ s.get (R.LKN_STAT.ADMIT n) = 2)) :=
  ⟨⟨st .run [(R.LKN_STAT.OWNER_TX 0, 1)], 0, by decide +kernel⟩,
    ⟨st .run [], 63, by decide +kernel⟩,
    ⟨st .run [(R.LKN_PARAM.STATUS 0, 1)], 0, by decide +kernel⟩,
    ⟨{ st .run [(R.LKN_STAT.ADMIT 0, 1)] with verifyQ := [0, 2], sec := { engine := some (.verify 0 true) } }, 0, by decide +kernel⟩,
    ⟨st .run [(R.LKN_STAT.ADMIT 0, 2)], 0, by decide +kernel⟩,
    ⟨{ st .run [(R.LKN_STAT.ADMIT 0, 1)] with verifyQ := [0, 2], sec := { engine := some (.verify 0 true) } }, 0, 5, by decide +kernel⟩,
    ⟨(st .run [(R.LKN_STAT.ADMIT 63, 2)]).modLink 63 (fun _ => { descReq := true }), 63, by decide +kernel⟩⟩

/-- Each clause of CarriersOpenPeriods has states and operands that meet its hypotheses. -/
theorem witness_CarriersOpenPeriods :
    (∃ (s : State), ∃ (k : Fin 64), (s.car k).cur = none ∧ (s.car k).next = none ∧ 0 < s.get (R.CAR_PER.PER k))
    ∧ (∃ (s : State), ∃ (k : Fin 64), ∃ (p : Period), (s.car k).next = some p ∧ s.get (R.CAR_CTRL.COMMIT_SRC k) = 0 ∧ s.get (R.CAR_TRIG.TRIG_SRC k) = 0 ∧ s.groupPend = [] ∧ s.legsOf k = [])
    ∧ (∃ (s : State), ∃ (k : Fin 64), ∃ (p : Period), ∃ (w : Nat), (s.car k).cur = some p ∧ s.get (R.CAR_CTRL.COMMIT_SRC k) = 2 ∧ s.get (R.CAR_TRIG.TRIG_SRC k) = 0 ∧ s.bit (R.CAR_CTRL.GROUPED k) = false ∧ (s.car k).stamp = some w ∧ w < s.ts.tsc ∧ w + s.get R.MOD_CTRL.MIN_COMMIT ≤ s.ts.tsc ∧ s.groupPend = [] ∧ s.legsOf k = [])
    ∧ (∃ (s : State), ∃ (k : Fin 64), ∃ (z : Nat), (s.car k).first = some z ∧ s.bit (R.CAR_CTRL.EN k) = true ∧ (s.car k).next = none ∧ (s.car k).shift = 0 ∧ s.legsOf k = [])
    ∧ (∃ (s : State), ∃ (k : Fin 64), ∃ (z : Nat), ∃ (l : Nat), (s.car k).first = some z ∧ s.bit (R.CAR_CTRL.EN k) = true ∧ (s.car k).next = none ∧ (s.car k).shift = 0 ∧ s.legsOf k = [l] ∧ s.leg l = { mode := 2, lastMode := 2 } ∧ s.inState [.run] = false) :=
  ⟨⟨st .run [(R.CAR_PER.PER 63, 1)], 63, by decide +kernel⟩,
    ⟨modSt (st .run ([(R.CAR_CTRL.COMMIT_SRC 0, 0), (R.CAR_TRIG.TRIG_SRC 0, 0)] ++ legsAway 6)) { next := some ⟨3072, 1024, 1024, 5⟩ } {} 0, 0, ⟨3072, 1024, 1024, 5⟩, by decide +kernel⟩,
    ⟨modSt (st .run ([(R.CAR_CTRL.COMMIT_SRC 0, 2), (R.CAR_TRIG.TRIG_SRC 0, 0)] ++ legsAway 6)) { cur := some ⟨3072, 1024, 1024, 5⟩, stamp := some 10 } {} 5000, 0, ⟨3072, 1024, 1024, 5⟩, 10, by decide +kernel⟩,
    ⟨modSt (st .run ((R.CAR_CTRL.EN 0, 1) :: legsAway 6)) { first := some 3072 } {} 0, 0, 3072, by decide +kernel⟩,
    ⟨modSt (st .safe ((R.CAR_CTRL.EN 0, 1) :: (R.LEG_CFG.CARRIER 0, 0) :: (legsAway 6).drop 1)) { first := some 3072 } { mode := 2, lastMode := 2 } 0, 0, 3072, 0, by decide +kernel⟩⟩

/-- Each clause of CommitsEdgesAndTrips has states and operands that meet its hypotheses. -/
theorem witness_CommitsEdgesAndTrips :
    (∃ (s : State), ∃ (n : Fin 64), ∃ (a : Nat), ∃ (b : Nat), ∃ (w : Nat), s.driven n = true ∧ (s.link n).driven = true ∧ s.get (R.GSC_STAT.STATE n) = 0 ∧ s.tickInFrame ≤ 896 ∧ w = (s.frame + 2) * 1024 ∧ w ≤ a ∧ a < b ∧ b < w + 1024 ∧ (s.leg (6 * n.val)).hi = [(a, b)] ∧ (s.leg (6 * n.val)).lo = [] ∧ (∀ i, i < 6 → 0 < i → (s.leg (6 * n.val + i)).hi = [] ∧ (s.leg (6 * n.val + i)).lo = []) ∧ bitAt (s.fitted n) 0 = true ∧ s.get (R.GSC_STAT.OFF_GATES n) = 0 ∧ s.tripHolds n = false ∧ (s.leg (6 * n.val)).abort = false ∧ (s.link n).levels = 0)
    ∧ (∃ (s : State), ∃ (i : Fin 8), s.inState [.boot, .configure, .armed, .run, .safe] = true ∧ s.bit (R.TRIP_CFG.EN i) = true ∧ s.bit (R.TRIP_STAT.TRIPACT i) = false)
    ∧ (∃ (s : State), ∃ (i : Fin 8), s.bit (R.TRIP_STAT.TRIPACT i) = false)
    ∧ (∃ (s : State), ∃ (i : Fin 8), s.bit (R.TRIP_STAT.TRIPACT i) = false)
    ∧ (∃ (s : State), ∃ (i : Fin 8), s.bit (R.TRIP_STAT.TRIPACT i) = true)
    ∧ (∃ (s : State), ∃ (i : Fin 8), s.bit (R.TRIP_STAT.CLR_PENDING i) = true ∧ s.bit (R.TRIP_STAT.TRIPACT i) = false ∧ s.fc.trips = [] ∧ s.tripCells i = []) :=
  ⟨⟨{ st .run [(R.LKN_STAT.ADMIT 0, 2), (R.BC_STAT.STATE 0, 3)] with legs := [(0, { hi := [(2048, 3071)] })], links := [(0, { driven := true })] }, 0, 2048, 3071, 2048, by decide +kernel⟩,
    ⟨st .run [(R.TRIP_CFG.EN 7, 1), (R.TRIP_CFG.STRINGS 7, 1), (R.STR_MEM_LO 0, 3)], 7, by decide +kernel⟩,
    ⟨st .run [(R.TRIP_STAT.CNT 7, 3)], 7, by decide +kernel⟩,
    ⟨st .run [], 0, by decide +kernel⟩,
    ⟨st .run [(R.TRIP_STAT.TRIPACT 7, 1)], 7, by decide +kernel⟩,
    ⟨st .run [(R.TRIP_STAT.CLR_PENDING 0, 1), (R.TRIP_STAT.LATCHED 0, 1)], 0, by decide +kernel⟩⟩

/-- Each clause of GateSupervisionOfACell has states and operands that meet its hypotheses. -/
theorem witness_GateSupervisionOfACell :
    (∃ (s : State), ∃ (n : Fin 64), ∃ (rd : Bool), ∃ (gs : List Nat), (s.up n = true ∨ s.rxOnly n = true) ∧ (dataAfter .k28_1 (s.readLane n rd gs)).bind scarletOf = none)
    ∧ (∃ (s : State), ∃ (n : Fin 64), ∃ (rd : Bool), ∃ (gs : List Nat), ∃ (g : Nat), s.up n = true ∧ (dataAfter .k28_1 (s.readLane n rd gs)).bind scarletOf = some (1, g) ∧ g < 12 ∧ bitAt (s.fitted n) g = true ∧ s.get (R.GSC_STAT.STATE n) = 0 ∧ s.get (R.GSC_CFG.PARTNER_DELAY n) ≠ 0)
    ∧ (∃ (s : State), ∃ (n : Fin 64), ∃ (rd : Bool), ∃ (gs : List Nat), ∃ (c : Nat), ∃ (g : Nat), s.up n = true ∧ (dataAfter .k28_1 (s.readLane n rd gs)).bind scarletOf = some (c, g) ∧ (c = 2 ∨ c = 3))
    ∧ (∃ (s : State), ∃ (n : Fin 64), (s.gate n).timer = true)
    ∧ (∃ (s : State), ∃ (n : Fin 64), s.clearable n = true)
    ∧ (∃ (s : State), ∃ (n : Fin 64), s.clearable n = false)
    ∧ (∃ (s : State), ∃ (n : Fin 64), s.get (R.GSC_STAT.STATE n) = 3) :=
  ⟨⟨st .run [(R.LN_STAT.STATE 0, 4)], 0, false, groupsOf false [.k28_1, .data 0x5C, .data 1, .data 1], by decide +kernel⟩,
    ⟨st .run [(R.LN_STAT.STATE 0, 4), (R.GSC_CFG.PARTNER_DELAY 0, 1)], 0, true, groupsOf true [.k28_1, .data 0x5C, .data 0x1B, .data 0xE4], 11, by decide +kernel⟩,
    ⟨st .run [(R.LN_STAT.STATE 0, 4)], 0, false, groupsOf false [.k28_1, .data 0x5C, .data 0x20, .data 0xDF], 2, 0, by decide +kernel⟩,
    ⟨(st .run []).modGate 63 (fun _ => { timer := true }), 63, by decide +kernel⟩,
    ⟨st .run [(R.GSC_STAT.STATE 0, 2)], 0, by decide +kernel⟩,
    ⟨st .run [], 0, by decide +kernel⟩,
    ⟨st .run [(R.GSC_STAT.STATE 0, 3)], 0, by decide +kernel⟩⟩

/-- Each clause of ComplementaryLegsKeepDeadTime has states and operands that meet its hypotheses. -/
theorem witness_ComplementaryLegsKeepDeadTime :
    ∃ (cmp : Nat), ∃ (t : Nat), cmp ≤ t :=
  ⟨1000, 1000, by decide +kernel⟩

/-- Each clause of StringsAndSorts has states and operands that meet its hypotheses. -/
theorem witness_StringsAndSorts :
    (∃ (s : State), ∃ (g : Fin 8), ∃ (n : Nat), s.pw.state = .run ∧ s.standby = false ∧ s.strEn g = true ∧ s.bit (R.STR_CFG.RESERVE_MODE g) = true ∧ s.wantedCount g < s.get (R.STR_CFG.N_REQ g) ∧ s.reserveCell g = some n)
    ∧ (∃ (s : State), ∃ (n : Fin 64), s.balState n = 2 ∧ (s.cell n).since + descBypassTime (s.link n).desc + 12 ≤ s.frame)
    ∧ (∃ (s : State), ∃ (n : Fin 64), s.insertable n = true)
    ∧ (∃ (s : State), ∃ (n : Fin 64), s.insertable n = false)
    ∧ (∃ (s : State), ∃ (n : Fin 64), s.pw.state = .armed ∧ s.balState n = 3 ∧ s.standby = false)
    ∧ (∃ (s : State), ∃ (n : Fin 64), s.parkable n = false)
    ∧ (∃ (s : State), ∃ (g : Fin 8), ∃ (r : SortReq), ∃ (rest : List SortReq), (s.str g).sortPending = r :: rest ∧ r.bad = [] ∧ (r.ranked.map (·.1)).Nodup ∧ (∀ x ∈ r.ranked, x.1 < 64 ∧ x.2 < 65536)) :=
  ⟨⟨st .run [(R.STR_MEM_LO 7, 1), (R.STR_CFG.EN 7, 1), (R.STR_CFG.RESERVE_MODE 7, 1), (R.STR_CFG.N_REQ 7, 1), (R.LKN_STAT.ADMIT 0, 2), (R.BC_STAT.STATE 0, 1)], 7, 0, by decide +kernel⟩,
    ⟨withDx {} 12288 {} (st .run [(R.BC_STAT.STATE 0, 2)]), 0, by decide +kernel⟩,
    ⟨st .run [(R.STR_MEM_LO 7, 1), (R.LKN_STAT.ADMIT 0, 2), (R.BC_STAT.STATE 0, 1)], 0, by decide +kernel⟩,
    ⟨st .run [], 0, by decide +kernel⟩,
    ⟨st .armed [(R.BC_STAT.STATE 63, 3)], 63, by decide +kernel⟩,
    ⟨st .run [(R.BC_STAT.STATE 63, 4)], 63, by decide +kernel⟩,
    ⟨{ strs := [(7, { sortPending := [⟨2, [(5, 65535), (3, 7)], []⟩] })] }, 7, ⟨2, [(5, 65535), (3, 7)], []⟩, [], by decide +kernel⟩⟩

/-- Each clause of DuplexHeartbeatsAndHandback has states and operands that meet its hypotheses. -/
theorem witness_DuplexHeartbeatsAndHandback :
    (∃ (s : State), s.pw.state = .armed ∧ s.direct = true ∧ s.dx.releaseNext = 0)
    ∧ (∃ (s : State), ∃ (bs : List Byte), (heartbeatGood bs && (heartbeatOf bs).pos == s.partner && (heartbeatOf bs).frame == s.frame % 2 ^ 32) = false)
    ∧ (∃ (s : State), ∃ (bs : List Byte), heartbeatGood bs = true ∧ (heartbeatOf bs).pos = s.partner ∧ (heartbeatOf bs).frame = s.frame % 2 ^ 32 ∧ s.pw.state = .configure ∧ s.dx.decided = false ∧ s.dx.config = [] ∧ s.dx.hbRun < 1000000)
    ∧ (∃ (s : State), s.settled = true ∧ s.pw.state = .run ∧ s.dx.inWindow = true)
    ∧ (∃ (s : State), s.pw.state = .run ∧ s.dx.inWindow = false ∧ s.dx.current = true ∧ s.get R.BAL_STAT.MISSES = 2 ∧ s.dx.decided = true ∧ s.role = 2)
    ∧ (∃ (s : State), s.pw.state = .armed ∧ 64 ≤ s.dx.alone ∧ s.dx.decided = false ∧ s.duplicated = false)
    ∧ (∃ (s : State), ∃ (n : Fin 64), ∃ (f : Nat), s.owns n = true ∧ (s.cell n).split = true ∧ (s.cell n).partnerSince = some f ∧ f + 64 ≤ s.frame)
    ∧ (∃ (s : State), ∃ (f : Nat), s.standby = true ∧ s.bit R.BAL_CTRL.PREFER = true ∧ s.get R.BAL_CTRL.HANDBACK = 1 ∧ s.dx.cleanFrom = some f ∧ f + s.get R.BAL_CTRL.HB_QUAL * 1000000 ≤ s.frame)
    ∧ (∃ (s : State), s.get R.BAL_CTRL.HANDBACK = 2 ∧ s.role = 1 ∧ s.mayRelease = true)
    ∧ (∃ (s : State), s.get R.BAL_CTRL.HANDBACK = 2 ∧ s.role = 1 ∧ s.mayRelease = false)
    ∧ (∃ (s : State), s.role ≠ 1)
    ∧ (∃ (s : State), s.settled = true ∧ s.pw.state = .armed) :=
  ⟨⟨st .armed [(R.SL_STAT.STATE 0, 4), (R.SL_STAT.NB_POS 0, 1)], by decide +kernel⟩,
    ⟨st .run [], [], by decide +kernel⟩,
    ⟨st .configure [], hbBytes, by decide +kernel⟩,
    ⟨withDx { inWindow := true } 0 {} (st .run []), by decide +kernel⟩,
    ⟨withDx { current := true, decided := true } 0 {} (st .run [(R.BAL_STAT.MISSES, 2), (R.BAL_STAT.ROLE, 2), (R.LKN_STAT.ADMIT 3, 2)]), by decide +kernel⟩,
    ⟨withDx { alone := 64 } 0 {} (st .armed [(R.LKN_STAT.ADMIT 3, 2)]), by decide +kernel⟩,
    ⟨withDx {} 65536 { split := true, partnerSince := some 0 } (st .run [(R.LKN_STAT.OWNER_TX 0, 1)]), 0, 0, by decide +kernel⟩,
    ⟨withDx { decided := true, cleanFrom := some 0 } 1024000000 {} (st .run [(R.BAL_STAT.ROLE, 2), (R.BAL_CTRL.PREFER, 1), (R.BAL_CTRL.HANDBACK, 1), (R.BAL_CTRL.HB_QUAL, 1)]), 0, by decide +kernel⟩,
    ⟨withDx { last := some { flags := 4, state := 7 } } 0 {} (st .run [(R.BAL_STAT.ROLE, 1), (R.BAL_CTRL.HANDBACK, 2)]), by decide +kernel⟩,
    ⟨withDx { last := some { flags := 4, state := 6 } } 0 {} (st .run [(R.BAL_STAT.ROLE, 1), (R.BAL_CTRL.HANDBACK, 2)]), by decide +kernel⟩,
    ⟨st .run [(R.BAL_STAT.ROLE, 2)], by decide +kernel⟩,
    ⟨st .armed [], by decide +kernel⟩⟩

/-- Each clause of ContextsAndSamples has states and operands that meet its hypotheses. -/
theorem witness_ContextsAndSamples :
    (∃ (s : State), ∃ (k : Fin 128), (s.get (R.CX_TRIG.SRC k) = 1 ∨ s.get (R.CX_TRIG.SRC k) = 3) ∧ 0 < (s.ctx k).due ∧ s.ctxState k = 1 ∧ (s.ctx k).run = none ∧ s.pw.state = .run ∧ (s.ctx k).lastTrig = none ∧ s.eng.inj.on = false ∧ s.get (R.CX_CFG.STRINGS k) = 0 ∧ s.bit (R.CX_STAT.SWAP_PENDING k) = false ∧ s.cyc.oldSps = [] ∧ s.cyc.oldSwaps = [])
    ∧ (∃ (s : State), ∃ (k : Fin 128), ∃ (u : Nat), s.get (R.CX_TRIG.SRC k) = 2 ∧ s.periodDue k = some u)
    ∧ (∃ (s : State), ∃ (k : Fin 128), ∃ (u : Nat), s.ctxActive k = true ∧ s.pw.state = .run ∧ (s.ctx k).lastTrig = some u ∧ s.ts.tsc < u + 5120)
    ∧ (∃ (s : State), ∃ (k : Fin 128), s.ctxState k = 2 ∧ s.pw.state = .run ∧ (s.ctx k).lastTrig = none ∧ (s.ctx k).run.all (fun q => !q.ended) = true ∧ s.bit (R.CX_CFG.POLICY k) = false)
    ∧ (∃ (s : State), ∃ (k : Fin 128), ∃ (q : Sample), (s.ctx k).run = some q ∧ q.ended = true ∧ q.legs = [] ∧ q.outRange = false ∧ q.evts = [] ∧ q.states = [] ∧ q.commits = 0 ∧ s.bit R.CAP_STAT.BUSY = false)
    ∧ (∃ (s : State), ∃ (k : Fin 128), ∃ (q : Sample), ∃ (l : Nat), ∃ (v : Nat), (s.ctx k).run = some q ∧ q.ended = true ∧ q.legs = [⟨l, 0, v⟩] ∧ q.evts = [] ∧ s.bit R.CAP_STAT.BUSY = false ∧ l < 384 ∧ l ∈ s.outLegs k ∧ s.bit (R.LEG_CFG.RATIO l) = false ∧ finite32 v = true ∧ neg32 v = false)
    ∧ (∃ (s : State), ∃ (k : Fin 128), ∃ (q : Sample), ∃ (a : Nat), ∃ (x : Nat), (s.ctx k).run = some q ∧ q.ended = true ∧ q.states = [(a, x)] ∧ s.bit R.CAP_STAT.BUSY = false)
    ∧ (∃ (s : State), ∃ (k : Fin 128), s.ctxState k = 3 ∧ bitAt s.eng.tileErr (k.val / 4) = false)
    ∧ (∃ (s : State), ∃ (k : Fin 128), s.ctxState k ≠ 3)
    ∧ (∃ (s : State), ∃ (k : Fin 128), s.pw.state = .configure ∧ s.enableRefused k = false ∧ s.ctxState k = 0)
    ∧ (∃ (s : State), ∃ (k : Fin 128), s.pw.state = .configure ∧ s.enableRefused k = true)
    ∧ (∃ (s : State), ∃ (k : Fin 128), s.pw.state = .configure ∧ s.ctxState k ≠ 3 ∧ (s.ctx k).run = none ∧ s.eng.inj.on = false)
    ∧ (∃ (s : State), ∃ (k : Fin 128), s.pw.state = .configure ∧ s.ctxState k = 3) :=
  ⟨⟨withCtx 127 { due := 1 } .run [(R.CX_TRIG.SRC 127, 3), (R.CX_STAT.STATE 127, 1)], 127, by decide +kernel⟩,
    ⟨{ withCtx 0 {} .run [(R.CX_TRIG.SRC 0, 2), (R.CX_STAT.STATE 0, 1), (R.CX_PER.PER 0, 20480)] with ts := { tsc := 20481 } }, 0, 20480, by decide +kernel⟩,
    ⟨withCtx 0 { lastTrig := some 0 } .run [(R.CX_STAT.STATE 0, 1)], 0, 0, by decide +kernel⟩,
    ⟨withCtx 0 {} .run [(R.CX_STAT.STATE 0, 2)], 0, by decide +kernel⟩,
    ⟨withCtx 0 { run := some { pc := 3, ended := true, issues := 5 } } .run [(R.CX_STAT.STATE 0, 2)], 0, { pc := 3, ended := true, issues := 5 }, by decide +kernel⟩,
    ⟨withCtx 0 { run := some { pc := 3, ended := true, issues := 5, legs := [⟨383, 0, 0x42C80000⟩] } } .run [(R.CX_STAT.STATE 0, 2), (R.CX_OUT.OUT_BASE 0, 383), (R.CX_OUT.OUT_COUNT 0, 1)], 0, { pc := 3, ended := true, issues := 5, legs := [⟨383, 0, 0x42C80000⟩] }, 383, 0x42C80000, by decide +kernel⟩,
    ⟨withCtx 0 { run := some { pc := 3, ended := true, issues := 5, states := [(9, 77)] } } .run [(R.CX_STAT.STATE 0, 2)], 0, { pc := 3, ended := true, issues := 5, states := [(9, 77)] }, 9, 77, by decide +kernel⟩,
    ⟨withCtx 127 { v := [(3, 5)], p := 3 } .run [(R.CX_STAT.STATE 127, 3)], 127, by decide +kernel⟩,
    ⟨st .run [], 127, by decide +kernel⟩,
    ⟨{ st .configure [] with eng := { entries := [(0, 5)] } }, 127, by decide +kernel⟩,
    ⟨st .configure [], 0, by decide +kernel⟩,
    ⟨st .configure [(R.CX_CFG.EN 0, 1)], 0, by decide +kernel⟩,
    ⟨st .configure [(R.CX_CFG.EN 0, 1), (R.CX_STAT.STATE 0, 3)], 0, by decide +kernel⟩⟩

/-- Each clause of BanksCountsAndMemories has states and operands that meet its hypotheses. -/
theorem witness_BanksCountsAndMemories :
    (∃ (s : State), ∃ (k : Fin 128), ∃ (ws : List Word), ws.length = s.get (R.CX_COEF.COEF_LEN k) ∧ s.get (R.CX_COEF.COEF_BASE k) + ws.length ≤ 16384 ∧ s.inState [.slate] = false)
    ∧ (∃ (s : State), s.get R.CE_MADDR.MEM = 1 ∧ s.inState [.slate] = false) :=
  ⟨⟨st .run [(R.CX_COEF.COEF_LEN 127, 2), (R.CX_COEF.COEF_BASE 127, 16382)], 127, [1, 2], by decide +kernel⟩,
    ⟨st .run [(R.CE_MADDR.MEM, 1), (R.CE_MADDR.WORD, 16383)], by decide +kernel⟩⟩

/-- Each clause of InjectionCaptureAndImages has states and operands that meet its hypotheses. -/
theorem witness_InjectionCaptureAndImages :
    (∃ (s : State), ∃ (k : Fin 128), s.bit (R.CX_CFG.SP_FREEZE k) = false)
    ∧ (∃ (s : State), s.pw.state = .armed ∧ s.ctxActive (s.get R.INJ_CFG.INJ_CTX) = true)
    ∧ (∃ (s : State), s.eng.inj.on = true)
    ∧ (∃ (s : State), (∀ k, k < 128 → s.bit (R.CX_CFG.EN k) = false))
    ∧ (∃ (s : State), ∃ (p : Fin 36), s.logicalOf p = none)
    ∧ (∃ (s : State), s.pw.state = .configure)
    ∧ (∃ (s : State), ∃ (bs : List Byte), s.pw.state = .configure ∧ 2 ≤ s.imageCode bs) :=
  ⟨⟨st .run [], 0, by decide +kernel⟩,
    ⟨st .armed [(R.CX_STAT.STATE 0, 1)], by decide +kernel⟩,
    ⟨{ st .run [] with eng := { inj := { on := true } } }, by decide +kernel⟩,
    ⟨st .run [], by decide +kernel⟩,
    ⟨st .run [], 35, by decide +kernel⟩,
    ⟨st .configure [], by decide +kernel⟩,
    ⟨st .configure [], imageBytes, by decide +kernel⟩⟩

/-- Each clause of FunctionsAndComparisons has states and operands that meet its hypotheses. -/
theorem witness_FunctionsAndComparisons :
    (∃ (s : State), ∃ (k : Fin 128), ∃ (w : Nat), ∃ (q : Sample), s.instrAt k = some (w, q) ∧ iOp w = 0x15 ∧ q.allowed w = true ∧ iE w = true ∧ finite32 (q.a w) = true)
    ∧ (∃ (s : State), ∃ (k : Fin 128), ∃ (w : Nat), ∃ (q : Sample), s.instrAt k = some (w, q) ∧ iOp w = 0x18 ∧ q.allowed w = true ∧ iE w = true) :=
  ⟨⟨running 127 0x5600000000000000 { pc := 0 } [], 127, 0x5600000000000000, { pc := 0 }, by decide +kernel⟩,
    ⟨running 127 0x6200000000000000 { pc := 0 } [], 127, 0x6200000000000000, { pc := 0 }, by decide +kernel⟩⟩

/-- Each clause of ProgramMemoryAccesses has states and operands that meet its hypotheses. -/
theorem witness_ProgramMemoryAccesses :
    (∃ (s : State), ∃ (k : Fin 128), ∃ (w : Nat), ∃ (q : Sample), ∃ (i : Nat), s.instrAt k = some (w, q) ∧ iOp w = 0x20 ∧ q.allowed w = true ∧ q.place w (bits w 14 0) 1 (s.get (R.CX_COEF.COEF_LEN k)) = some i)
    ∧ (∃ (s : State), ∃ (k : Fin 128), ∃ (w : Nat), ∃ (q : Sample), s.instrAt k = some (w, q) ∧ iOp w = 0x20 ∧ q.allowed w = true ∧ q.place w (bits w 14 0) 1 (s.get (R.CX_COEF.COEF_LEN k)) = none)
    ∧ (∃ (s : State), ∃ (k : Fin 128), ∃ (w : Nat), ∃ (q : Sample), ∃ (i : Nat), s.instrAt k = some (w, q) ∧ iOp w = 0x21 ∧ q.allowed w = true ∧ q.place w (bits w 14 0) 1 (s.get (R.CX_STATE.STATE_LEN k)) = some i)
    ∧ (∃ (s : State), ∃ (k : Fin 128), ∃ (w : Nat), ∃ (q : Sample), ∃ (i : Nat), s.instrAt k = some (w, q) ∧ iOp w = 0x22 ∧ q.allowed w = true ∧ q.place w (bits w 14 0) 1 (s.get (R.CX_STATE.STATE_LEN k)) = some i)
    ∧ (∃ (s : State), ∃ (k : Fin 128), ∃ (w : Nat), ∃ (q : Sample), s.instrAt k = some (w, q) ∧ iOp w = 0x22 ∧ q.allowed w = true ∧ q.place w (bits w 14 0) 1 (s.get (R.CX_STATE.STATE_LEN k)) = none)
    ∧ (∃ (s : State), ∃ (k : Fin 128), ∃ (w : Nat), ∃ (q : Sample), ∃ (i : Nat), s.instrAt k = some (w, q) ∧ iOp w = 0x23 ∧ q.allowed w = true ∧ ((bits w 31 28 = 0 ∧ bits w 27 24 ≤ 5) ∨ bits w 31 28 = 1 ∨ bits w 31 28 = 2 ∨ bits w 31 28 = 3) ∧ q.place w (bits w 11 0) 1 (inputCount (bits w 31 28) (bits w 27 24)) = some i)
    ∧ (∃ (s : State), ∃ (k : Fin 128), ∃ (w : Nat), ∃ (q : Sample), ∃ (l : Nat), s.instrAt k = some (w, q) ∧ q.allowed w = true ∧ q.place w (bits w 8 0) 6 1000 = some l)
    ∧ (∃ (s : State), ∃ (k : Fin 128), ∃ (w : Nat), ∃ (q : Sample), s.instrAt k = some (w, q) ∧ iOp w = 0x14 ∧ q.allowed w = true ∧ nan32 (q.a w) = true)
    ∧ (∃ (s : State), ∃ (k : Fin 128), ∃ (w : Nat), ∃ (q : Sample), s.instrAt k = some (w, q) ∧ iOp w = 0x14 ∧ q.allowed w = true ∧ nan32 (q.a w) = false) :=
  ⟨⟨running 127 0x8000000000000000 { pc := 7 } [(R.CX_COEF.COEF_LEN 127, 1)], 127, 0x8000000000000000, { pc := 7 }, 0, by decide +kernel⟩,
    ⟨running 127 0x8000000000000001 { pc := 7 } [(R.CX_COEF.COEF_LEN 127, 1)], 127, 0x8000000000000001, { pc := 7 }, by decide +kernel⟩,
    ⟨running 127 0x8400000000000000 { pc := 7 } [(R.CX_STATE.STATE_LEN 127, 1)], 127, 0x8400000000000000, { pc := 7 }, 0, by decide +kernel⟩,
    ⟨running 127 0x8800000000000000 { pc := 7 } [(R.CX_STATE.STATE_LEN 127, 1)], 127, 0x8800000000000000, { pc := 7 }, 0, by decide +kernel⟩,
    ⟨running 127 0x8800000000000001 { pc := 7 } [(R.CX_STATE.STATE_LEN 127, 1)], 127, 0x8800000000000001, { pc := 7 }, by decide +kernel⟩,
    ⟨running 127 0x8C00000030000000 { pc := 7 } [], 127, 0x8C00000030000000, { pc := 7 }, 0, by decide +kernel⟩,
    ⟨running 127 0x940000000000017F { pc := 7 } [], 127, 0x940000000000017F, { pc := 7 }, 383, by decide +kernel⟩,
    ⟨running 127 0x5000000000000000 { pc := 7, v := [(0, 0x7FC00000)] } [], 127, 0x5000000000000000, { pc := 7, v := [(0, 0x7FC00000)] }, by decide +kernel⟩,
    ⟨running 127 0x5000000000000000 { pc := 7 } [], 127, 0x5000000000000000, { pc := 7 }, by decide +kernel⟩⟩

/-- Each clause of SortsAndLoops has states and operands that meet its hypotheses. -/
theorem witness_SortsAndLoops :
    (∃ (s : State), ∃ (k : Fin 128), ∃ (w : Nat), ∃ (q : Sample), s.instrAt k = some (w, q) ∧ iOp w = 0x24 ∧ s.sortWaits k w q = true)
    ∧ (∃ (s : State), ∃ (k : Fin 128), ∃ (w : Nat), ∃ (q : Sample), s.instrAt k = some (w, q) ∧ iOp w = 0x24 ∧ s.sortWaits k w q = false ∧ q.allowed w = true ∧ bits w 31 28 = 0)
    ∧ (∃ (s : State), ∃ (k : Fin 128), ∃ (w : Nat), ∃ (q : Sample), s.instrAt k = some (w, q) ∧ iOp w = 0x30 ∧ iE w = false)
    ∧ (∃ (w : Nat), iE w = true)
    ∧ (∃ (q : Sample), ∃ (w : Nat), iE w = false ∧ (∀ x ∈ q.loops, x.last ≠ q.pc))
    ∧ (∃ (q : Sample), ∃ (w : Nat), ∃ (x : LoopSt), ∃ (rest : List LoopSt), iE w = false ∧ q.loops = x :: rest ∧ x.last = q.pc ∧ x.idx + 1 < x.count)
    ∧ (∃ (q : Sample), ∃ (w : Nat), ∃ (x : LoopSt), iE w = false ∧ q.loops = [x] ∧ x.last = q.pc ∧ x.count ≤ x.idx + 1) :=
  ⟨⟨running 0 0x9000000000000000 { pc := 7 } [(R.CX_CFG.STRINGS 0, 1)], 0, 0x9000000000000000, { pc := 7 }, by decide +kernel⟩,
    ⟨running 0 0x9000000000000000 { pc := 7 } [], 0, 0x9000000000000000, { pc := 7 }, by decide +kernel⟩,
    ⟨running 0 0xC000000000020003 { pc := 7 } [], 0, 0xC000000000020003, { pc := 7 }, by decide +kernel⟩,
    ⟨0x0200000000000000, by decide +kernel⟩,
    ⟨{ pc := 7 }, 0, by decide +kernel⟩,
    ⟨{ pc := 7, loops := [⟨5, 7, 0, 2⟩] }, 0, ⟨5, 7, 0, 2⟩, [], by decide +kernel⟩,
    ⟨{ pc := 7, loops := [⟨5, 7, 1, 2⟩] }, 0, ⟨5, 7, 1, 2⟩, by decide +kernel⟩⟩

/-- Each clause of FloatingPointRules has states and operands that meet its hypotheses. -/
theorem witness_FloatingPointRules :
    (∃ (a : Nat), ∃ (b : Nat), (nan32 a = true ∨ nan32 b = true))
    ∧ (∃ (a : Nat), ∃ (b : Nat), nan32 a = true ∧ nan32 b = false)
    ∧ (∃ (a : Nat), finite32 a = true ∧ zero32 a = false)
    ∧ (∃ (q : Sample), ∃ (r : Nat), ∃ (x : Nat), fExp 8 23 (Tab.get 0 (q.put r x).v r) = 0) :=
  ⟨⟨0x7F800001, 0, by decide +kernel⟩,
    ⟨0xFFC00000, 0x7F800000, by decide +kernel⟩,
    ⟨1, by decide +kernel⟩,
    ⟨{ pc := 0 }, 31, 1, by decide +kernel⟩⟩

/-- Each clause of SamplesAndReports has states and operands that meet its hypotheses. -/
theorem witness_SamplesAndReports :
    (∃ (s : State), ∃ (c : Fin 24), ∃ (v : BitVec 64), ∃ (h : Nat), ∃ (x : Rat), s.inState [.boot, .configure, .armed, .run, .safe] = true ∧ s.bit (R.SD_CFG.EN c) = true ∧ s.bit (R.SD_CFG.INV c) = false ∧ 126 ≤ (s.sd c).n ∧ h = ((s.sd c).hist * 2 ^ 64 + v.toNat) % 2 ^ 190 ∧ x = mkRat (sincCode h) 131072 - 1 ∧ (runThrough v.toNat (s.sd c).last (s.sd c).run).2.2 = false ∧ absRat x < mkRat (s.get R.SDCK_CFG.OVR_LIM) 256 ∧ s.bit (R.SD_STAT.STUCK c) = false ∧ s.bit (R.SD_STAT.OVR c) = false)
    ∧ (∃ (s : State), ∃ (c : Fin 24), s.phRuns = true ∧ s.channelNan c = true)
    ∧ (∃ (s : State), ∃ (c : Fin 24), s.phRuns = true ∧ s.channelNan c = false)
    ∧ (∃ (s : State), ∃ (f : Nat), s.phRuns = true ∧ bitAt s.tq 7 = true ∧ s.met.first = some f ∧ f + (s.windowTicks / 2 + tauUs (s.bit R.PMU_CFG.CLASS) * 1024) ≤ s.groupTime ∧ s.met.last = none ∧ s.psNan (s.get R.PMU_CFG.FREQ_SET) = true)
    ∧ (∃ (m : Bool), ∃ (f0 : Nat), ∃ (fs : Nat), ∃ (a : Applied), ∃ (g : Rat × Rat × Rat), figures m f0 fs a.signal = some g)
    ∧ (∃ (s : State), ∃ (r : Report), ∃ (rest : List Report), s.isRoot = true ∧ s.met.reports = r :: rest ∧ s.egressAble = true ∧ s.bit R.EG_STAT.TX_ON = true ∧ s.met.built ≠ [] ∧ (s.dataFrame r).2 = false)
    ∧ (∃ (s : State), ∃ (r : Report), ∃ (rest : List Report), s.isRoot = true ∧ s.met.reports = r :: rest ∧ s.bit R.EG_STAT.TX_ON = false)
    ∧ (∃ (s : State), ∃ (b : List Byte), s.cored = true ∧ s.isRoot = true ∧ msgGood 0x44 b = true ∧ leAt (msgPayload b) 0 1 ≠ 0) :=
  ⟨⟨{ st .run [(R.SD_CFG.EN 0, 1)] with met := { sd := [(0, { hist := 0x2AAAAAAAAAAAAAAAAAAAAAAAAAAAAAAAAAAAAAAAAAAAAAAA, n := 126 })] } }, 0, 0xAAAAAAAAAAAAAAAA, (0x2AAAAAAAAAAAAAAAAAAAAAAAAAAAAAAAAAAAAAAAAAAAAAAA * 2 ^ 64 + 0xAAAAAAAAAAAAAAAA) % 2 ^ 190, mkRat (sincCode ((0x2AAAAAAAAAAAAAAAAAAAAAAAAAAAAAAAAAAAAAAAAAAAAAAA * 2 ^ 64 + 0xAAAAAAAAAAAAAAAA) % 2 ^ 190)) 131072 - 1, by decide +kernel⟩,
    ⟨st .run [(R.MET_STAT.PH_STATE, 1)], 23, by decide +kernel⟩,
    ⟨st .run [(R.MET_STAT.PH_STATE, 2), (R.SD_CFG.EN 23, 1)], 23, by decide +kernel⟩,
    ⟨{ st .run [(R.MET_STAT.PH_STATE, 1)] with met := { first := some 0 }, ts := { tsc := 1024000000, taiValid := true } }, 0, by decide +kernel⟩,
    ⟨true, 50, 10, appl0, (mkRat 5 10000, mkRat 4 10000, mkRat 6 1000), by decide +kernel⟩,
    ⟨egress { reports := [rep0], built := [(0, [])] } [(R.EG_STAT.TX_ON, 1)], rep0, [], by decide +kernel⟩,
    ⟨egress { reports := [rep0] } [], rep0, [], by decide +kernel⟩,
    ⟨st .run [], message 0x44 1 0 5 0 0 (leBytes 1 1 ++ List.replicate 16 0), by decide +kernel⟩⟩

/-- Each clause of EgressCommands has states and operands that meet its hypotheses. -/
theorem witness_EgressCommands :
    (∃ (s : State), ∃ (bs : List Byte), s.egressAble = true ∧ commandGood bs s = true ∧ commandCode bs = 1)
    ∧ (∃ (s : State), ∃ (bs : List Byte), s.egressAble = true ∧ commandGood bs s = true ∧ commandCode bs = 2)
    ∧ (∃ (s : State), ∃ (bs : List Byte), s.egressAble = true ∧ commandGood bs s = true ∧ commandCode bs = 3)
    ∧ (∃ (s : State), ∃ (bs : List Byte), s.egressAble = true ∧ commandGood bs s = true ∧ commandCode bs = 4)
    ∧ (∃ (s : State), ∃ (bs : List Byte), s.egressAble = true ∧ commandGood bs s = true ∧ commandCode bs = 5)
    ∧ (∃ (s : State), ∃ (bs : List Byte), s.egressAble = true ∧ commandGood bs s = false)
    ∧ (∃ (s : State), ∃ (mac : Nat), ∃ (ip : Nat), s.egressAble = true ∧ mac < 2 ^ 48 ∧ ip < 2 ^ 32 ∧ s.get O.SRC_IP < 2 ^ 32)
    ∧ (∃ (s : State), s.inState [.boot, .configure, .armed, .run, .safe] = true ∧ s.bit R.CLK_STAT.SPREAD_ACT = false)
    ∧ (∃ (s : State), s.bit R.EG_STAT.LINK_UP = true) :=
  ⟨⟨egress {} [], cmdBytes 1, by decide +kernel⟩,
    ⟨egress {} [], cmdBytes 2, by decide +kernel⟩,
    ⟨egress {} [], cmdBytes 3, by decide +kernel⟩,
    ⟨egress {} [], cmdBytes 4, by decide +kernel⟩,
    ⟨egress {} [], cmdBytes 5, by decide +kernel⟩,
    ⟨egress {} [], [], by decide +kernel⟩,
    ⟨egress {} [], 2 ^ 48 - 1, 2 ^ 32 - 1, by decide +kernel⟩,
    ⟨st .run [], by decide +kernel⟩,
    ⟨egress {} [], by decide +kernel⟩⟩

/-- Each clause of WavefrontEventsAndRecords has states and operands that meet its hypotheses. -/
theorem witness_WavefrontEventsAndRecords :
    (∃ (s : State), s.wfAble = true ∧ s.setEn 0 = true)
    ∧ (∃ (s : State), ∃ (c : Fin 6), s.get R.WF_STAT.STATE = 1 ∧ s.wf.aligning = 2 ^ c.val ∧ s.wf.ev = none)
    ∧ (∃ (s : State), ∃ (d : Fin 6), ∃ (a : Nat), ∃ (w : List (Int × Int × Int)), ∃ (x : Int), s.detects d = true ∧ s.wf.ev = none ∧ val32 (s.get (R.WF_THR d)) ≤ absRat (s.yAt d w 0) ∧ w.all (fun c => !overCode c.1 && !overCode c.2.1 && !overCode c.2.2) = true ∧ x = (if Config.delayAdds then (s.sampleAt a).1 + 5 * sext 16 (s.get (R.WF_CAL.DELAY (d / 3))) else (s.sampleAt a).1 - 5 * sext 16 (s.get (R.WF_CAL.DELAY (d / 3)))) ∧ s.blanking (x / 80 + s.ts.groupOffset) = 0)
    ∧ (∃ (s : State), ∃ (e : WfEvent), s.wf.ev = some e ∧ s.get R.WF_STAT.STATE = 3)
    ∧ (∃ (s : State), ∃ (e : WfEvent), ∃ (rest : List WfEvent), s.wf.closed = e :: rest)
    ∧ (∃ (s : State), ∃ (v : Nat), ∃ (r : Nat × Nat × List Byte), s.wf.records.find? (fun r => r.1 == v) = some r ∧ v < 2 ^ 32)
    ∧ (∃ (s : State), ∃ (v : Nat), s.wf.records.find? (fun r => r.1 == v) = none)
    ∧ (∃ (s : State), s.captureLost = true)
    ∧ (∃ (s : State), s.captureLost = false ∧ bitAt s.pw.vio 3 = false)
    ∧ (∃ (s : State), s.bit R.WF_CAPSTAT.BUSY = true ∧ s.wf.capTrig = none)
    ∧ (∃ (s : State), ∃ (x : Int), s.bit R.WF_CAPSTAT.BUSY = true ∧ s.wf.capTrig = some x) :=
  ⟨⟨wave {} [], by decide +kernel⟩,
    ⟨wave { aligning := 32 } [(R.WF_STAT.STATE, 1)], 5, by decide +kernel⟩,
    ⟨wave {} [(R.WF_STAT.STATE, 2), (R.WF_STAT.ALIGNED, 7), (R.WF_THR 0, 0x00800000)], 0, 0, List.replicate 15 (0, 0, 0) ++ [(100, 0, 0)], -1024 * (R.WF_CTRL.LAT).reset, (by refine ⟨by decide +kernel, by decide +kernel, by decide +kernel, by decide +kernel, ?_, by decide +kernel⟩; unfold State.sampleAt; cases Config.delayAdds <;> cases Config.phaseAdds <;> decide +kernel)⟩,
    ⟨wave { ev := some ⟨1, 0, 0, 0, 0, 0, 0, [], []⟩ } [(R.WF_STAT.STATE, 3)], ⟨1, 0, 0, 0, 0, 0, 0, [], []⟩, by decide +kernel⟩,
    ⟨wave { closed := [⟨1, 0, 0, 0, 0, 0, 0, [], []⟩] } [], ⟨1, 0, 0, 0, 0, 0, 0, [], []⟩, [], by decide +kernel⟩,
    ⟨wave { records := [(7, 3, [1])] } [], 7, (7, 3, [1]), by decide +kernel⟩,
    ⟨wave { records := [(7, 3, [1])] } [], 8, by decide +kernel⟩,
    ⟨{ st .run [] with sec := { map := { lost := 2 ^ 32 } } }, by decide +kernel⟩,
    ⟨st .run [], by decide +kernel⟩,
    ⟨st .run [(R.WF_CAPSTAT.BUSY, 1)], by decide +kernel⟩,
    ⟨wave { capTrig := some 9 } [(R.WF_CAPSTAT.BUSY, 1)], 9, by decide +kernel⟩⟩

/-- Each clause of ClockAndReferences has states and operands that meet its hypotheses. -/
theorem witness_ClockAndReferences :
    (∃ (s : State), s.cored = true ∧ s.ts.saving = none)
    ∧ (∃ (s : State), ∃ (d : Nat), ∃ (src : Nat), s.isRoot = true ∧ s.bit R.CLK_STAT.SPREAD_ACT = false ∧ s.fromMaster d src = true)
    ∧ (∃ (s : State), ∃ (d : Nat), ∃ (src : Nat), s.isRoot = true ∧ s.bit R.CLK_STAT.SPREAD_ACT = false ∧ s.fromMaster d src = true ∧ s.get O.SOURCE_SEL = 1 ∧ s.tsState = 0)
    ∧ (∃ (s : State), s.isRoot = true ∧ s.ts.running = true ∧ s.bit R.CLK_STAT.SPREAD_ACT = false)
    ∧ (∃ (s : State), ∃ (u : Nat), s.isRoot = true ∧ s.inState [.boot, .configure, .armed, .run, .safe] = true ∧ s.ts.ppsLast = some u ∧ s.ts.tsc < u + 512000000)
    ∧ (∃ (s : State), s.isRoot = true ∧ s.inState [.boot, .configure, .armed, .run, .safe] = true ∧ s.ts.ppsLast = none ∧ s.ts.ppsLabel = none ∧ s.ts.ppsWas.all (fun w => w.1 != s.now) = true)
    ∧ (∃ (s : State), ∃ (l : Nat), s.isRoot = true ∧ s.inState [.boot, .configure, .armed, .run, .safe] = true ∧ s.ts.ppsLast = none ∧ s.ts.ppsLabel = some l ∧ s.ts.ppsWas.all (fun w => w.1 != s.now) = true ∧ s.get O.SOURCE_SEL = 1)
    ∧ (∃ (s : State), ∃ (v : Nat), s.isRoot = true ∧ v < 2 ^ 48)
    ∧ (∃ (s : State), s.isRoot = true ∧ s.tsState = 2 ∧ s.bit R.TS_STAT.SLEWING = false ∧ s.ts.holdSince = none)
    ∧ (∃ (s : State), s.pending = [])
    ∧ (∃ (s : State), s.pending = [] ∧ s.ts.running = true ∧ s.bit R.CLK_STAT.TS_FALLBACK = true)
    ∧ (∃ (s : State), s.pending = [] ∧ s.ts.running = true ∧ s.bit R.CLK_STAT.LOCK_T = true ∧ s.refCycle = false ∧ 10 ^ 10 ≤ s.ts.stepAcc + 128 * s.ts.freq)
    ∧ (∃ (s : State), s.pending = [] ∧ s.ts.running = true ∧ s.bit R.CLK_STAT.LOCK_T = true ∧ s.refCycle = false ∧ s.ts.stepAcc + 128 * s.ts.freq ≤ -10 ^ 10)
    ∧ (∃ (s : State), s.pending = [] ∧ s.ts.running = false ∧ s.bit R.CLK_STAT.LOCK_T = true ∧ s.refCycle = true ∧ 0 < sext 16 (s.get R.CLK_PHASE_T.PENDING))
    ∧ (∃ (s : State), s.pending = [] ∧ s.ts.running = false ∧ s.bit R.CLK_STAT.LOCK_T = true ∧ s.refCycle = true ∧ sext 16 (s.get R.CLK_PHASE_T.PENDING) < 0)
    ∧ (∃ (s : State), ∃ (p : Nat), s.pending = [] ∧ p < 4 ∧ s.refCycle = true ∧ s.bit (ditherBit p) = true)
    ∧ (∃ (s : State), ∃ (v : Nat), ∃ (u : Nat), s.pending = [] ∧ s.ts.saving = some (v, u) ∧ u + 2048 ≤ s.now) :=
  ⟨⟨st .run [], by decide +kernel⟩,
    ⟨{ st .run [] with ts := { ptp := { master := some master0 } } }, 254, 1, by decide +kernel⟩,
    ⟨{ st .run [(O.SOURCE_SEL, 1), (R.TS_STAT.STATE, 0)] with ts := { ptp := { master := some master0 } } }, 254, 1, by decide +kernel⟩,
    ⟨{ st .run [] with ts := { running := true } }, by decide +kernel⟩,
    ⟨{ st .run [] with ts := { ppsLast := some 1, tsc := 512000000 } }, 1, by decide +kernel⟩,
    ⟨st .run [], by decide +kernel⟩,
    ⟨{ st .run [(O.SOURCE_SEL, 1)] with ts := { ppsLabel := some 5 } }, 5, by decide +kernel⟩,
    ⟨st .run [], 2 ^ 48 - 1, by decide +kernel⟩,
    ⟨st .run [(R.TS_STAT.STATE, 2)], by decide +kernel⟩,
    ⟨{ st .run [] with ts := { tsc := 2 ^ 64 - 1, running := true } }, by decide +kernel⟩,
    ⟨{ st .run [(R.CLK_STAT.TS_FALLBACK, 1)] with ts := { tsc := 2 ^ 64 - 1, running := true }, now := 63 }, by decide +kernel⟩,
    ⟨{ st .run [(R.CLK_STAT.LOCK_T, 1), (R.CLK_PHASE_T.PENDING, 0x7FFF)] with ts := { running := true, freq := 10 ^ 8 } }, by decide +kernel⟩,
    ⟨{ st .run [(R.CLK_STAT.LOCK_T, 1), (R.CLK_PHASE_T.PENDING, 0x8000)] with ts := { running := true, freq := -10 ^ 8 } }, by decide +kernel⟩,
    ⟨{ st .run [(R.CLK_STAT.LOCK_T, 1), (R.CLK_PHASE_T.PENDING, 1), (R.CLK_PHASE_T.PHASE, 127)] with now := 1023 }, by decide +kernel⟩,
    ⟨{ st .run [(R.CLK_STAT.LOCK_T, 1), (R.CLK_PHASE_T.PENDING, 0xFFFF), (R.CLK_PHASE_T.PHASE, 0)] with now := 1023 }, by decide +kernel⟩,
    ⟨{ st .run [(R.CLK_DITHER.DITHER_T, 1)] with now := 1023, clk := { lfsr := [(3, 2 ^ 23 - 1)] } }, 3, by decide +kernel⟩,
    ⟨{ st .run [] with now := 2048, ts := { saving := some (5, 0) } }, 5, 0, by decide +kernel⟩⟩

/-- Each clause of OffsetsAndHoldover has states and operands that meet its hypotheses. -/
theorem witness_OffsetsAndHoldover :
    (∃ (s : State), ∃ (o : Nat), s.ts.pendingTai = some (.acquire o))
    ∧ (∃ (s : State), ∃ (d : Int), s.ts.pendingTai = some (.step d))
    ∧ (∃ (s : State), ∃ (o : Nat), s.ts.pendingTai = some (.follow o))
    ∧ (∃ (s : State), ∃ (d : Int), s.ts.pendingTai = some (.slew d) ∧ d ≠ 0)
    ∧ (∃ (s : State), s.bit R.TS_STAT.SLEWING = true ∧ 1 < s.ts.slewLeft)
    ∧ (∃ (s : State), s.bit R.TS_STAT.SLEWING = true ∧ s.ts.slewLeft = 1)
    ∧ (∃ (s : State), 0 < s.ts.tN ∧ s.tsState ≠ 2 ∧ s.ts.holdSince = none)
    ∧ (∃ (s : State), ∃ (g : Int), s.ts.pendingGroup = some g)
    ∧ (∃ (s : State), ∃ (e : Nat), ∃ (o : Int), s.isRoot = false ∧ s.inState [.run] = false ∧ s.ts.pendingEpoch = some (e, o))
    ∧ (∃ (s : State), s.isRoot = false ∧ s.tsState = 6 ∧ s.ts.holdSince = none) :=
  ⟨⟨{ st .run [] with ts := { pendingTai := some (.acquire 5) } }, 5, by decide +kernel⟩,
    ⟨{ st .run [] with ts := { pendingTai := some (.step (-5)) } }, -5, by decide +kernel⟩,
    ⟨{ st .run [] with ts := { pendingTai := some (.follow 5) } }, 5, by decide +kernel⟩,
    ⟨{ st .run [] with ts := { pendingTai := some (.slew (-5)) } }, -5, by decide +kernel⟩,
    ⟨{ st .run [(R.TS_STAT.SLEWING, 1)] with ts := { slewLeft := 2, taiOffset := 2 ^ 64 - 1 } }, by decide +kernel⟩,
    ⟨{ st .run [(R.TS_STAT.SLEWING, 1)] with ts := { slewLeft := 1, taiOffset := 2 ^ 64 - 1 } }, by decide +kernel⟩,
    ⟨{ st .run [] with ts := { tN := 3, tSum := 7 } }, by decide +kernel⟩,
    ⟨{ st .run [] with ts := { pendingGroup := some (-5) } }, -5, by decide +kernel⟩,
    ⟨member .armed {} { pendingEpoch := some (7, -300) } [], 7, -300, by decide +kernel⟩,
    ⟨member .run {} { tsc := 9 } [(R.TS_STAT.STATE, 6)], by decide +kernel⟩⟩

/-- Each clause of GroupTimeMessages has states and operands that meet its hypotheses. -/
theorem witness_GroupTimeMessages :
    (∃ (s : State), s.isRoot = true ∧ s.ts.running = true)
    ∧ (∃ (s : State), ∃ (i : Fin 4), ∃ (b : List Byte), ∃ (d : Nat), s.isRoot = false ∧ s.spineUp i = true ∧ msgGood 0x47 b = true ∧ msgLen b = 36 ∧ s.hopDelay i = some d ∧ s.ts.groupEpoch = none)
    ∧ (∃ (s : State), ∃ (i : Fin 4), s.spineUp i = true)
    ∧ (∃ (s : State), ∃ (i : Fin 4), ∃ (b : List Byte), s.spineUp i = true ∧ bitAt (leAt b 0 7) 55 = false)
    ∧ (∃ (s : State), ∃ (i : Fin 4), ∃ (b : List Byte), ∃ (t1 : Nat), s.spineUp i = true ∧ bitAt (leAt b 0 7) 55 = true ∧ (s.spl i).dlyAt = some t1 ∧ bits (leAt b 0 7) 54 48 = (s.spl i).dlySeq)
    ∧ (∃ (s : State), ∃ (i : Fin 4), ∃ (q : Nat), ∃ (u : Nat), s.spineUp i = true ∧ (s.spl i).dlyReq = some (q, u) ∧ u + 64 ≤ s.ts.tsc) :=
  ⟨⟨{ st .run [(R.SL_STAT.STATE 0, 4)] with ts := { running := true } }, by decide +kernel⟩,
    ⟨member .armed {} {} [(R.SL_STAT.STATE 3, 4), (R.SL_DELAY.DELAY 3, 0xFFFFE)], 3, message 0x47 1 0 0 0xFF 0 (List.replicate 36 1), 0xFFFFE, by decide +kernel⟩,
    ⟨st .run [(R.SL_STAT.STATE 3, 4)], 3, by decide +kernel⟩,
    ⟨st .run [(R.SL_STAT.STATE 3, 4)], 3, leBytes 7 (2 ^ 48), by decide +kernel⟩,
    ⟨rootSp .run { lanes := [(3, { dlyAt := some 5, dlySeq := 1 })] } { tsc := 20 } [(R.SL_STAT.STATE 3, 4)], 3, leBytes 7 (2 ^ 55 + 2 ^ 48), 5, by decide +kernel⟩,
    ⟨rootSp .run { lanes := [(3, { dlyReq := some (7, 5) })] } { tsc := 69 } [(R.SL_STAT.STATE 3, 4)], 3, 7, 5, by decide +kernel⟩⟩

/-- Each clause of SpineBringUpSteps has states and operands that meet its hypotheses. -/
theorem witness_SpineBringUpSteps :
    (∃ (prev : Nat), ∃ (b : Block), prev < 4 ∧ b.wf = true)
    ∧ (∃ (s : State), ∃ (i : Fin 4), s.pw.state = .configure ∧ s.bit (R.SL_CTRL.EN i) = false ∧ bitAt s.sec.deadSpine i = false ∧ bitAt s.sec.badSpine i = false ∧ s.bit R.CLK_STAT.LOCK_S = true ∧ s.noRingYet)
    ∧ (∃ (s : State), ∃ (i : Fin 4), s.pw.state = .configure ∧ s.bit (R.SL_CTRL.EN i) = true ∧ s.noRingYet)
    ∧ (∃ (s : State), ∃ (i : Fin 4), s.slState i = 2)
    ∧ (∃ (s : State), ∃ (i : Fin 4), s.slState i = 2 ∧ s.bit (R.SL_STAT.SIGNAL i) = true)
    ∧ (∃ (s : State), ∃ (i : Fin 4), s.slState i = 3)
    ∧ (∃ (s : State), ∃ (i : Fin 4), ∃ (b : List Byte), s.slState i = 3 ∧ s.bit (R.SL_STAT.BLOCK_LOCK i) = true ∧ trainingGood b = true ∧ (s.spl i).train < 7)
    ∧ (∃ (s : State), ∃ (i : Fin 4), ∃ (b : List Byte), s.slState i = 3 ∧ s.bit (R.SL_STAT.BLOCK_LOCK i) = true ∧ trainingGood b = false)
    ∧ (∃ (s : State), ∃ (i : Fin 4), ∃ (b : List Byte), s.slState i = 3 ∧ s.bit (R.SL_STAT.BLOCK_LOCK i) = true ∧ trainingGood b = true ∧ 7 ≤ (s.spl i).train ∧ bits (leAt b 0 7) 47 47 = s.grp ∧ bits (leAt b 0 7) 53 48 ≠ s.pos ∧ bits (leAt b 0 7) 55 54 / 2 ≠ i.val / 2 ∧ (s.spl i).rxReady = true ∧ bitAt (leAt b 0 7) 46 = true ∧ (s.spl i).ready = 15 ∧ (s.spl i).wasLost = false ∧ (s.spl i).absent = false ∧ s.orderOk i (bits (leAt b 0 7) 53 48) = true) :=
  ⟨⟨3, Block.control 0x66 (List.replicate 7 0xA5), by decide +kernel⟩,
    ⟨stAt .configure 1 [(R.SL_CTRL.EN 0, 0)], 0, by decide +kernel⟩,
    ⟨stAt .configure 1 [(R.SL_CTRL.EN 3, 1), (R.SL_STAT.STATE 3, 4)], 3, by decide +kernel⟩,
    ⟨st .configure [(R.SL_STAT.STATE 3, 2)], 3, by decide +kernel⟩,
    ⟨st .configure [(R.SL_STAT.STATE 3, 2), (R.SL_STAT.SIGNAL 3, 1)], 3, by decide +kernel⟩,
    ⟨st .configure [(R.SL_STAT.STATE 3, 3)], 3, by decide +kernel⟩,
    ⟨rootSp .configure { lanes := [(0, { train := 6 })] } {} [(R.SL_STAT.STATE 0, 3), (R.SL_STAT.BLOCK_LOCK 0, 1)], 0, trainBlock, by decide +kernel⟩,
    ⟨rootSp .configure { lanes := [(0, { train := 6 })] } {} [(R.SL_STAT.STATE 0, 3), (R.SL_STAT.BLOCK_LOCK 0, 1)], 0, [], by decide +kernel⟩,
    ⟨rootSp .configure { lanes := [(0, { train := 7, rxReady := true, ready := 15 })] } {} [(R.SL_STAT.STATE 0, 3), (R.SL_STAT.BLOCK_LOCK 0, 1)], 0, trainBlock, by decide +kernel⟩⟩

/-- Each clause of SpineAttemptsAndLoss has states and operands that meet its hypotheses. -/
theorem witness_SpineAttemptsAndLoss :
    (∃ (s : State), ∃ (i : Fin 4), s.slAttempt i = true ∧ s.get (R.SL_STAT.ATTEMPT i) < 16)
    ∧ (∃ (s : State), ∃ (i : Fin 4), s.slAttempt i = true ∧ s.get (R.SL_STAT.ATTEMPT i) = 16)
    ∧ (∃ (s : State), ∃ (i : Fin 4), s.slState i = 5 ∧ s.get (R.SL_STAT.ATTEMPT i) < 16)
    ∧ (∃ (s : State), ∃ (i : Fin 4), bitAt s.sec.badSpine i = false ∧ s.slState i = 6)
    ∧ (∃ (s : State), ∃ (i : Fin 4), bitAt s.sec.badSpine i = false ∧ (s.slState i = 5 ∨ s.slState i = 6))
    ∧ (∃ (s : State), ∃ (i : Fin 4), s.spineUp i = true ∧ s.noRingYet)
    ∧ (∃ (s : State), ∃ (i : Fin 4), ∃ (k : Nat), s.spineUp i = true ∧ 16 < k ∧ s.noRingYet)
    ∧ (∃ (k : Nat), k ≤ 16)
    ∧ (∃ (s : State), ∃ (n : Fin 68), n.val < 64 ∧ s.inAttempt n = true ∧ (s.lane n).sigSeen = true ∧ s.get (R.LN_STAT.ATTEMPT n) < 16)
    ∧ (∃ (s : State), ∃ (n : Fin 68), 64 ≤ n.val ∧ s.slAttempt (n.val - 64) = true ∧ s.bit (R.SL_STAT.SIGNAL (n.val - 64)) = true ∧ s.get (R.SL_STAT.ATTEMPT (n.val - 64)) < 16) :=
  ⟨⟨st .configure [(R.SL_STAT.STATE 3, 2), (R.SL_STAT.ATTEMPT 3, 15)], 3, by decide +kernel⟩,
    ⟨rootSp .configure { lanes := [(3, { retry := true })] } {} [(R.SL_STAT.STATE 3, 3), (R.SL_STAT.ATTEMPT 3, 16)], 3, by decide +kernel⟩,
    ⟨st .configure [(R.SL_STAT.STATE 3, 5), (R.SL_STAT.ATTEMPT 3, 15)], 3, by decide +kernel⟩,
    ⟨st .configure [(R.SL_STAT.STATE 3, 6), (R.SL_STAT.ATTEMPT 3, 16)], 3, by decide +kernel⟩,
    ⟨st .configure [(R.SL_STAT.STATE 3, 6), (R.SL_STAT.ATTEMPT 3, 16)], 3, by decide +kernel⟩,
    ⟨st .run [(R.SL_STAT.STATE 3, 4)], 3, by decide +kernel⟩,
    ⟨st .run [(R.SL_STAT.STATE 3, 4)], 3, 17, by decide +kernel⟩,
    ⟨16, by decide +kernel⟩,
    ⟨(st .configure [(R.LN_STAT.STATE 63, 2)]).modLane 63 (fun _ => { sigSeen := true }), 63, by decide +kernel⟩,
    ⟨st .configure [(R.SL_STAT.STATE 3, 2), (R.SL_STAT.SIGNAL 3, 1)], 67, by decide +kernel⟩⟩

/-- Each clause of TestsAndCountersOfAnyLane has states and operands that meet its hypotheses. -/
theorem witness_TestsAndCountersOfAnyLane :
    (∃ (s : State), ∃ (i : Fin 4), ∃ (v : Word), s.pw.state = .configure ∧ s.slEn i = true ∧ 2 ^ 28 ≤ v.toNat ∧ s.noRingYet)
    ∧ (∃ (s : State), ∃ (i : Fin 4), s.slState i = 7 ∧ s.pw.state = .configure ∧ s.slEn i = true ∧ bitAt s.sec.badSpine i = false ∧ s.bit R.CLK_STAT.LOCK_S = true)
    ∧ (∃ (s : State), ∃ (n : Fin 68), s.bit (testRegs n).gen = true ∧ s.bit R.TH_STAT.SHEDDING = false)
    ∧ (∃ (s : State), ∃ (n : Fin 68), ∃ (l : List Nat), ∃ (k : Nat), s.checksRx n = true ∧ s.bit (testRegs n).lock = false ∧ (taps (s.get (testRegs n).pattern)).1 ≤ (s.prbsOf n).seeded ∧ (s.prbsOf n).run + k = 64 ∧ 0 < k ∧ s.rxBits n l = follows (s.get (testRegs n).pattern) (s.prbsOf n).hist k)
    ∧ (∃ (s : State), ∃ (n : Fin 68), ∃ (l : List Nat), ∃ (rest : List Bool), s.checksRx n = true ∧ s.bit (testRegs n).lock = true ∧ 63 ≤ ((s.prbsOf n).errs.filter (fun i => (s.prbsOf n).checked < i + 1024)).length ∧ s.rxBits n l = (!nextBit (s.get (testRegs n).pattern) (s.prbsOf n).hist) :: rest ∧ rest.length ≤ 1)
    ∧ (∃ (s : State), ∃ (n : Fin 68), ∃ (l : List Nat), ∃ (k : Nat), s.checksRx n = true ∧ s.bit (testRegs n).lock = true ∧ (s.prbsOf n).errs.length < 64 ∧ s.rxBits n l = follows (s.get (testRegs n).pattern) (s.prbsOf n).hist k)
    ∧ (∃ (s : State), ∃ (n : Fin 68), ∃ (l : List Nat), ∃ (k : Nat), s.checksRx n = true ∧ s.bit (testRegs n).lock = true ∧ (s.prbsOf n).errs.length < 64 ∧ s.rxBits n l = follows (s.get (testRegs n).pattern) (s.prbsOf n).hist k)
    ∧ (∃ (n : Fin 68), n.val < 64)
    ∧ (∃ (n : Fin 68), 64 ≤ n.val)
    ∧ (∃ (s : State), ∃ (n : Fin 64), ∃ (rd : Bool), ∃ (g : Nat), ∃ (k : Fin 10), s.up n = true ∧ (s.lane n).codeErrFrame ≠ s.frame ∧ ((k.val != (s.lane n).commaPlace && isComma g) || (s.readLane n rd [g]).any (fun c => c.isNone)) = true)
    ∧ (∃ (s : State), ∃ (n : Fin 64), ∃ (rd : Bool), ∃ (g : Nat), ∃ (k : Fin 10), k.val = (s.lane n).commaPlace ∧ (s.readLane n rd [g]).all (fun c => c.isSome) = true)
    ∧ (∃ (s : State), ∃ (i : Fin 4), ∃ (prev : Nat), ∃ (scr : Nat), ∃ (l : List Nat), s.spineUp i = true ∧ (s.spl i).codeErrFrame ≠ s.frame ∧ (readBlock (s.bit (R.SL_STAT.PRECODE_RX i)) (s.bit (R.SL_STAT.RX_INV i)) prev scr l).isNone = true) :=
  ⟨⟨st .configure [(R.SL_CTRL.EN 3, 1)], 3, 0x90000000, by decide +kernel⟩,
    ⟨st .configure [(R.SL_STAT.STATE 3, 7), (R.SL_CTRL.EN 3, 1)], 3, by decide +kernel⟩,
    ⟨st .run [(R.SL_TEST.PRBS_GEN 3, 1)], 67, by decide +kernel⟩,
    ⟨(st .run [(R.LN_STAT.STATE 63, 7), (R.LN_TEST.PRBS_CHK 63, 1)]).modPrbs 63 (fun _ => { seeded := 7, run := 62, hist := 1 }), 63, [0, 0], 2, by decide +kernel⟩,
    ⟨(st .run [(R.LN_STAT.STATE 63, 7), (R.LN_TEST.PRBS_CHK 63, 1), (R.LN_TEST.PRBS_LOCK 63, 1)]).modPrbs 63 (fun _ => { errs := List.replicate 63 0, checked := 1023, hist := 1 }), 63, [1], [], by decide +kernel⟩,
    ⟨(st .run [(R.LN_STAT.STATE 63, 7), (R.LN_TEST.PRBS_CHK 63, 1), (R.LN_TEST.PRBS_LOCK 63, 1), (R.LN_PRBS_BITS_LO 63, 2 ^ 32 - 1)]).modPrbs 63 (fun _ => { hist := 1, hi := 65535 }), 63, [0, 0], 2, by decide +kernel⟩,
    ⟨(st .run [(R.SL_STAT.STATE 0, 7), (R.SL_TEST.PRBS_CHK 0, 1), (R.SL_TEST.PRBS_LOCK 0, 1), (R.SL_PRBS_BITS_LO 0, 2 ^ 32 - 1)]).modPrbs 64 (fun _ => { hist := 1 }), 64, [0], 2, by decide +kernel⟩,
    ⟨63, by decide +kernel⟩,
    ⟨64, by decide +kernel⟩,
    ⟨{ st .run [(R.LN_STAT.STATE 63, 4)] with ts := { tsc := 1024 } }, 63, false, 0, 9, by decide +kernel⟩,
    ⟨st .run [], 63, false, 0b0011111010, 0, by decide +kernel⟩,
    ⟨{ st .run [(R.SL_STAT.STATE 3, 4)] with ts := { tsc := 1024 } }, 3, 0, 0, List.replicate 33 0, by decide +kernel⟩⟩

/-- Each clause of RingMessagesAndNotices has states and operands that meet its hypotheses. -/
theorem witness_RingMessagesAndNotices :
    (∃ (s : State), s.isRoot = true ∧ s.pw.state = .configure ∧ s.linkUp 0 = true ∧ s.linkUp 1 = true ∧ s.spine.enumOpen = false)
    ∧ (∃ (s : State), ∃ (i : Fin 4), ∃ (b : List Byte), s.isRoot = false ∧ s.spineUp i = true ∧ msgGood 0x45 b = true ∧ 2 ≤ msgLen b ∧ bitAt (leAt (msgPayload b) 0 1) 1 = false ∧ s.linkUp (onward i) = true ∧ msgHops b < 63)
    ∧ (∃ (s : State), ∃ (i : Fin 4), ∃ (b : List Byte), s.isRoot = false ∧ s.spineUp i = true ∧ msgGood 0x45 b = true ∧ 2 ≤ msgLen b ∧ bitAt (leAt (msgPayload b) 0 1) 1 = false ∧ s.linkUp (onward i) = false)
    ∧ (∃ (s : State), ∃ (i : Fin 4), ∃ (b : List Byte), s.isRoot = true ∧ 2 ≤ i.val ∧ s.spineUp i = true ∧ msgGood 0x45 b = true ∧ 2 ≤ msgLen b ∧ leAt (msgPayload b) 0 1 = 0 ∧ s.spine.enumOpen = true ∧ leAt (msgPayload b) 1 1 = s.spine.enumNum)
    ∧ (∃ (s : State), ∃ (i : Fin 4), ∃ (b : List Byte), s.isRoot = false ∧ s.spineUp i = true ∧ msgGood 0x4D b = true ∧ msgLen b = 19 ∧ msgSrc b ≠ s.pos ∧ s.spine.mapSeq ≠ some (msgSeq b) ∧ bitAt (mapOf (msgPayload b)).dup s.pos = false ∧ (mapOf (msgPayload b)).closed = true ∧ s.linkUp (onward i) = true ∧ msgHops b < 63)
    ∧ (∃ (s : State), ∃ (i : Fin 4), ∃ (b : List Byte), s.spineUp i = true ∧ msgGood 0x4D b = true ∧ msgLen b = 19 ∧ msgSrc b = s.pos)
    ∧ (∃ (s : State), ∃ (n : Notice), s.spine.notice = some n)
    ∧ (∃ (s : State), ∃ (i : Fin 4), ∃ (b : List Byte), s.spineUp i = true ∧ b.length = 14 ∧ b.take 7 ≠ b.drop 7)
    ∧ (∃ (s : State), ∃ (i : Fin 4), ∃ (b : List Byte), ∃ (o : Nat), ∃ (src : Nat), ∃ (st : Nat), ∃ (h : Nat), s.spineUp i = true ∧ b.length = 14 ∧ b.take 7 = b.drop 7 ∧ leAt b 0 7 = 2 ^ 52 + 2 ^ 46 * o + 2 ^ 40 * h + 2 ^ 32 * src + st ∧ o < 64 ∧ h < 63 ∧ src < 256 ∧ st < 2 ^ 32 ∧ o ≠ s.pos ∧ s.spine.notices.find? (fun x => x.1 == o && x.2.1 == st) = none)
    ∧ (∃ (s : State), ∃ (i : Fin 4), ∃ (b : List Byte), s.spineUp i = true ∧ b.length = 14 ∧ b.take 7 = b.drop 7 ∧ bits (leAt b 0 7) 55 52 = 1 ∧ (s.spine.notices.find? (fun x => x.1 == bits (leAt b 0 7) 51 46 && x.2.1 == bits (leAt b 0 7) 31 0)).isSome = true) :=
  ⟨⟨rootSp .configure { enumNum := 255 } {} [(R.SL_STAT.STATE 0, 4), (R.SL_STAT.STATE 3, 4)], by decide +kernel⟩,
    ⟨stAt .run 1 [(R.SL_STAT.STATE 0, 4), (R.SL_STAT.STATE 3, 4)], 0, message 0x45 2 62 0 0xFF 0 (enumPayload 0 false 1 []), by decide +kernel⟩,
    ⟨stAt .run 1 [(R.SL_STAT.STATE 0, 4)], 0, message 0x45 2 62 0 0xFF 0 (enumPayload 0 false 1 []), by decide +kernel⟩,
    ⟨rootSp .configure { enumNum := 1, enumOpen := true } {} [(R.SL_STAT.STATE 3, 4)], 3, message 0x45 2 62 0 0xFF 0 (enumPayload 0 false 1 [1, 63]), by decide +kernel⟩,
    ⟨stAt .run 1 [(R.SL_STAT.STATE 0, 4), (R.SL_STAT.STATE 3, 4)], 0, message 0x4D 2 62 0 0xFF 0 (mapPayload ⟨3, 0, true, true, 1⟩), by decide +kernel⟩,
    ⟨st .run [(R.SL_STAT.STATE 0, 4)], 0, message 0x4D 2 62 0 0xFF 0 (mapPayload ⟨3, 0, true, true, 1⟩), by decide +kernel⟩,
    ⟨rootSp .run { notice := some ⟨0, 5, 6, 0⟩ } {} [(R.SL_STAT.STATE 0, 4), (R.SL_STAT.STATE 3, 4)], ⟨0, 5, 6, 0⟩, by decide +kernel⟩,
    ⟨st .run [(R.SL_STAT.STATE 0, 4)], 0, List.replicate 13 0 ++ [1], by decide +kernel⟩,
    ⟨st .run [(R.SL_STAT.STATE 0, 4), (R.SL_STAT.STATE 3, 4)], 0, (noticeBlock ⟨63, 255, 7, 62⟩).drop 1 ++ (noticeBlock ⟨63, 255, 7, 62⟩).drop 1, 63, 255, 7, 62, by decide +kernel⟩,
    ⟨rootSp .run { notices := [(63, 7, 1)] } {} [(R.SL_STAT.STATE 0, 4)], 0, (noticeBlock ⟨63, 255, 7, 62⟩).drop 1 ++ (noticeBlock ⟨63, 255, 7, 62⟩).drop 1, by decide +kernel⟩⟩

/-- Each clause of RecordsAreWritten has states and operands that meet its hypotheses. -/
theorem witness_RecordsAreWritten :
    (∃ (s : State), ∃ (p : Nat), ∃ (r : Rec), ∃ (q : List Rec), s.recd.writing = none ∧ s.recd.scanned = true ∧ s.abandoned = false ∧ s.oldestQueue = some p ∧ s.queue p = r :: q ∧ s.get (pendField (faultRegion r)) = 0)
    ∧ (∃ (s : State), ∃ (i : Nat), ∃ (r : Rec), s.recd.writing = some (i, r) ∧ s.abandoned = false ∧ i < 2 ^ (newestField (faultRegion r)).width ∧ s.get (pendField (faultRegion r)) = 0)
    ∧ (∃ (s : State), s.abandoned = true)
    ∧ (∃ (s : State), ∃ (r : Rec), s.get R.REC_PEND.PEND_G = 0 ∧ s.get R.REC_PEND.PEND_F ≠ 0 ∧ (s.slot (s.newest true)).mark = true ∧ (s.slot (s.newest true)).r = some r ∧ r.key = s.recd.pendKeyF ∧ s.waits true s.recd.pendKeyF = false ∧ r.rep + s.get R.REC_PEND.PEND_F ≤ 65535)
    ∧ (∃ (s : State), s.get R.REC_CTRL.HIST_EN = 2 ∧ (s.queue 2).length < 32)
    ∧ (∃ (s : State), s.pw.state = .boot ∧ s.recd.scanned = false ∧ s.mram.slots = [] ∧ s.mram.copyA = [] ∧ s.mram.copyB = [] ∧ s.get R.REC_PEND.PEND_F = 0)
    ∧ (∃ (s : State), ∃ (v : Nat), ∃ (i : Nat), 0 < v ∧ v < 2 ^ 32 ∧ s.slotOfSeq v = some i)
    ∧ (∃ (s : State), ∃ (v : Nat), 0 < v ∧ v < 2 ^ 32 ∧ s.slotOfSeq v = none) :=
  ⟨⟨{ st .run [] with recd := { scanned := true, queues := [(2, [faultRec])] } }, 2, faultRec, [], by decide +kernel⟩,
    ⟨{ st .run [] with recd := { scanned := true, writing := some (1023, faultRec) } }, 1023, faultRec, by decide +kernel⟩,
    ⟨{ st .run [] with pw := { (st .run []).pw with cause := some { code := 5, tsc := 0, tscValid := false, low := 0, cyc := 0 } } }, by decide +kernel⟩,
    ⟨{ st .run [(R.REC_PEND.PEND_F, 65535), (R.REC_FPOS.NEWEST, 5)] with recd := { scanned := true, pendKeyF := faultRec.key, pendTscF := 7 }, mram := { slots := [(5, { mark := true, seq := 1, r := some faultRec })] } }, faultRec, by decide +kernel⟩,
    ⟨st .run [(R.REC_CTRL.HIST_EN, 2)], by decide +kernel⟩,
    ⟨st .boot [], by decide +kernel⟩,
    ⟨{ st .run [] with mram := { slots := [(5, { mark := true, seq := 2 ^ 32 - 1, r := some faultRec })] } }, 2 ^ 32 - 1, 5, by decide +kernel⟩,
    ⟨st .run [], 1, by decide +kernel⟩⟩

/-- Each clause of LedgerAndHistory has states and operands that meet its hypotheses. -/
theorem witness_LedgerAndHistory :
    (∃ (s : State), ∃ (n : Fin 64), ∃ (l : Life), ∃ (v : Nat), ∃ (x : Int), s.admitted n = true ∧ (s.led n).life = some l ∧ s.fresh n = true ∧ upVcap (s.link n).up = some v ∧ upTemp0 (s.link n).up = some x)
    ∧ (∃ (s : State), ∃ (n : Fin 64), ∃ (l : Life), s.admitted n = true ∧ (s.led n).life = some l ∧ (∀ m, m < 64 → m ≠ n.val → (s.led m).life = none) ∧ s.get (R.BC_STAT.STATE n) = 3)
    ∧ (∃ (s : State), ∃ (n : Fin 64), ∃ (l : Life), (s.led n).life = some l ∧ (s.led n).dirty = true ∧ s.saving = none ∧ (Tab.get {} s.mram.copyA n).mark = false)
    ∧ (∃ (s : State), ∃ (n : Nat), ∃ (k : Nat), ∃ (l : Life), s.saving = some (n, k, l) ∧ (s.led n).life.isSome = true ∧ k + 1 < 10)
    ∧ (∃ (s : State), ∃ (n : Nat), ∃ (l : Life), s.saving = some (n, 9, l) ∧ (s.led n).life.isSome = true ∧ (Tab.get {} s.mram.copyA n).mark = false ∧ (Tab.get {} s.mram.copyA n).seq = l.seq)
    ∧ (∃ (s : State), ∃ (b : List Byte), s.pw.state = .configure ∧ b.length = 1280 ∧ leAt b 0 4 = 0xA5C35A3C ∧ (∀ n, n < 64 → (s.led n).life = none) ∧ s.histOf (lifeOf b).digest = none)
    ∧ (∃ (s : State), ∃ (b : List Byte), s.pw.state = .configure ∧ b.length = 1280 ∧ leAt b 0 4 ≠ 0xA5C35A3C) :=
  ⟨⟨(ledger0 { life := some {} } none {} [(R.LKN_STAT.ADMIT 0, 2)]).modLink 0 (fun _ => { up := upFrame 0 }), 0, {}, 0, 0, by decide +kernel⟩,
    ⟨ledger0 { life := some {} } none {} [(R.LKN_STAT.ADMIT 0, 2), (R.BC_STAT.STATE 0, 3)], 0, {}, by decide +kernel⟩,
    ⟨ledger0 { life := some { seq := 4 }, dirty := true } none {} [], 0, { seq := 4 }, by decide +kernel⟩,
    ⟨ledger0 { life := some {} } (some (0, 8, {})) {} [], 0, 8, {}, by decide +kernel⟩,
    ⟨ledger0 { life := some {} } (some (0, 9, { seq := 5 })) { copyA := [(0, { seq := 5 })] } [], 0, { seq := 5 }, by decide +kernel⟩,
    ⟨st .configure [], leBytes 4 0xA5C35A3C ++ List.replicate 1276 1, by decide +kernel⟩,
    ⟨st .configure [], List.replicate 1280 1, by decide +kernel⟩⟩

/-- Each clause of ReportsWindowsAndRecords has states and operands that meet its hypotheses. -/
theorem witness_ReportsWindowsAndRecords :
    (∃ (s : State), ∃ (b : Nat), ∃ (i : Nat), ∃ (n : Nat), ∃ (f : Fld), s.cored = true ∧ leafFor ⟨b, i, n, true, false⟩ = some f ∧ s.bit f = false)
    ∧ (∃ (s : State), ∃ (b : Nat), ∃ (i : Nat), ∃ (n : Nat), ∃ (f : Fld), leafFor ⟨b, i, n, true, false⟩ = some f ∧ s.bit f = true ∧ f.key ∉ s.cyc.forced)
    ∧ (∃ (s : State), ∃ (b : Nat), ∃ (i : Nat), ∃ (n : Nat), ∃ (f : Fld), s.cored = true ∧ leafFor ⟨b, i, n, true, false⟩ = some f ∧ s.bit f = true ∧ f.key ∈ s.cyc.forced)
    ∧ (∃ (s : State), s.cored = false)
    ∧ (∃ (s : State), ∃ (r : ReportArg), 0 < r.block ∧ r.block ≤ 16 ∧ r.src < 16 ∧ s.cyc.released.contains r.block = true ∧ s.joins r = false ∧ s.classOf r.block r.src r.inst < 3 ∧ s.winHolds (s.scope r) (s.classOf r.block r.src r.inst) = false ∧ s.winHolds 8 (s.classOf r.block r.src r.inst) = false)
    ∧ (∃ (s : State), ∃ (w : Fin 9), s.winOpen w = true ∧ Tab.get 0 s.fc.winEnd w ≤ s.ts.tsc ∧ s.get (R.FC_WIN.CONSEQ w) = 0)
    ∧ (∃ (s : State), ∃ (w : Fin 9), s.winOpen w = true ∧ Tab.get 0 s.fc.winEnd w ≤ s.ts.tsc ∧ s.get (R.FC_WIN.CONSEQ w) ≠ 0)
    ∧ (∃ (s : State), ∃ (n : Fin 16), s.isRoot = false ∧ s.bit (R.FC_STAT.HELD n) = true ∧ s.cyc.held.contains (n.val + 1) = false)
    ∧ (∃ (s : State), ∃ (n : Fin 16), s.cyc.held.contains (n.val + 1) = true)
    ∧ (∃ (s : State), ∃ (n : Fin 16), s.isRoot = true ∧ s.bit (R.FC_STAT.HELD n) = true ∧ s.cyc.held.contains (n.val + 1) = false ∧ (∀ m, m < 16 → m ≠ n.val → s.bit (R.FC_STAT.HELD m) = false) ∧ s.net.emcy.length < 16)
    ∧ (∃ (s : State), ∃ (n : Fin 16), (R.FC_LOST.LOST n).key ∉ s.cyc.sets)
    ∧ (∃ (s : State), R.FC_GRP_INFO.VALID.key ∉ s.cyc.sets) :=
  ⟨⟨st .run [], 14, 4, 0, R.FC_CAUSE.ECC_CORR, by decide +kernel⟩,
    ⟨st .run [(R.FC_CAUSE.ECC_CORR, 1)], 14, 4, 0, R.FC_CAUSE.ECC_CORR, by decide +kernel⟩,
    ⟨(st .run [(R.FC_CAUSE.ECC_CORR, 1)]).modCyc (fun c => { c with forced := [R.FC_CAUSE.ECC_CORR.key] }), 14, 4, 0, R.FC_CAUSE.ECC_CORR, by decide +kernel⟩,
    ⟨st .coldHold [], by decide +kernel⟩,
    ⟨(st .run [(R.FC_LOSTCNT 14, 255)]).modCyc (fun c => { c with released := [14] }), ⟨14, 4, 0, true, false⟩, by decide +kernel⟩,
    ⟨st .run [(R.FC_WIN.OPEN 8, 1)], 8, by decide +kernel⟩,
    ⟨st .run [(R.FC_WIN.OPEN 8, 1), (R.FC_WIN.CONSEQ 8, 65535)], 8, by decide +kernel⟩,
    ⟨stAt .run 1 [(R.FC_STAT.HELD 15, 1)], 15, by decide +kernel⟩,
    ⟨(st .run []).modCyc (fun c => { c with held := [16] }), 15, by decide +kernel⟩,
    ⟨st .run [(R.FC_STAT.HELD 15, 1)], 15, by decide +kernel⟩,
    ⟨st .run [], 15, by decide +kernel⟩,
    ⟨st .run [], by decide +kernel⟩⟩

/-- Each clause of NfaultAndRecovery has states and operands that meet its hypotheses. -/
theorem witness_NfaultAndRecovery :
    (∃ (s : State), s.cyc.black = false ∧ s.bit R.FC_NFAULT.PULSE = true)
    ∧ (∃ (s : State), s.cyc.black = true)
    ∧ (∃ (s : State), s.cyc.black = false ∧ s.bit R.FC_NFAULT.PULSE = false)
    ∧ (∃ (s : State), s.bit R.FC_NFAULT.PULSE = true ∧ s.bit R.FC_NFAULT.PENDING_REL = false)
    ∧ (∃ (s : State), s.bit R.FC_NFAULT.PULSE = true ∧ s.bit R.FC_NFAULT.PENDING_REL = true)
    ∧ (∃ (s : State), ∃ (b : Fin 16), ∃ (f : Fld), s.isRoot = false ∧ s.recovers (b.val + 1) = true ∧ s.get (R.FC_FIRST.CLASS b) = 1 ∧ leafOf (s.heldSrc (b.val + 1)) = some f ∧ f.key ∉ s.cyc.sets ∧ s.cyc.held.contains (b.val + 1) = false ∧ (s.recoveries 1).length + 1 < s.get R.FC_RECOV.K)
    ∧ (∃ (s : State), ∃ (b : Fin 16), s.recovers (b.val + 1) = false) :=
  ⟨⟨st .run [(R.FC_NFAULT.PULSE, 1), (R.FC_NFAULT.DRIVE, 1)], by decide +kernel⟩,
    ⟨(st .run []).modCyc (fun c => { c with black := true }), by decide +kernel⟩,
    ⟨st .run [], by decide +kernel⟩,
    ⟨st .run [(R.FC_NFAULT.PULSE, 1)], by decide +kernel⟩,
    ⟨st .run [(R.FC_NFAULT.PULSE, 1), (R.FC_NFAULT.PENDING_REL, 1)], by decide +kernel⟩,
    ⟨{ stAt .run 1 [(R.FC_STAT.HELD 13, 1), (R.FC_FIRST.CLASS 13, 1), (R.FC_FIRST.SRC 13, 4), (R.FC_FIRST.OBSERVED 13, 1), (R.FC_RECOV.AUTO_EN, 1), (R.FC_CAUSE.ECC_CORR, 1), (R.FC_RECOV.K, 15)] with ts := { tsc := 1024000000 } }, 13, R.FC_CAUSE.ECC_CORR, by decide +kernel⟩,
    ⟨st .run [], 0, by decide +kernel⟩⟩

/-- Each clause of InjectedFaults has states and operands that meet its hypotheses. -/
theorem witness_InjectedFaults :
    (∃ (s : State), ∃ (v : Word), ∃ (f : Fld), s.cored = true ∧ s.pw.state ≠ .slate ∧ (leafOf ⟨bits v.toNat 26 23 + 1, bits v.toNat 22 19, 0⟩).isSome = true ∧ leafFor ⟨bits v.toNat 26 23 + 1, bits v.toNat 22 19, bits v.toNat 18 12, false, true⟩ = some f)
    ∧ (∃ (s : State), s.pw.state = .slate)
    ∧ (∃ (v : Word), bits v.toNat 28 26 ≤ 4 ∧ bitAt v.toNat 31 = true ∧ (popCount 7 v.toNat = 1 ∨ popCount 7 v.toNat = 2))
    ∧ (∃ (v : Word), bitAt v.toNat 31 = true ∧ 2 < popCount 7 v.toNat)
    ∧ (∃ (s : State), ∃ (m : Fin 5), ∃ (a : Nat), ∃ (y : BitVec 7), s.cored = true ∧ s.bit R.FC_CBI.ARMED = true ∧ s.fc.cbiStored = true ∧ s.get R.FC_CBI.MEM = m.val ∧ s.get R.FC_CBI_ADDR = a ∧ y.toNat = s.get R.FC_CBI.MASK)
    ∧ (∃ (s : State), s.cored = true ∧ s.bit R.FC_CBI.ARMED = false)
    ∧ (∃ (s : State), s.bit R.FC_CBI.ARMED = true ∧ s.fc.cbiStored = true) :=
  ⟨⟨st .run [], 0x06A00000, R.FC_CAUSE.ECC_CORR, by decide +kernel⟩,
    ⟨st .slate [], by decide +kernel⟩,
    ⟨0x90000041, by decide +kernel⟩,
    ⟨0x80000007, by decide +kernel⟩,
    ⟨{ st .run [(R.FC_CBI.ARMED, 1), (R.FC_CBI.MEM, 4), (R.FC_CBI.MASK, 3), (R.FC_CBI_ADDR, 9)] with fc := { cbiStored := true } }, 4, 9, 3, by decide +kernel⟩,
    ⟨st .run [], by decide +kernel⟩,
    ⟨{ st .run [(R.FC_CBI.ARMED, 1)] with fc := { cbiStored := true } }, by decide +kernel⟩⟩

/-- Each clause of BootStages has states and operands that meet its hypotheses. -/
theorem witness_BootStages :
    (∃ (s : State), s.pw.state = .boot ∧ s.pw.stage = 2)
    ∧ (∃ (s : State), ∃ (f : BistFindings), s.pw.state = .boot ∧ s.pw.stage = 3 ∧ s.sec.found = some f)
    ∧ (∃ (s : State), s.pw.state = .boot ∧ s.pw.stage = 4 ∧ s.pw.romOnly = false ∧ s.sec.tried = 0 ∧ s.mram.trial = false ∧ Tab.find? s.sec.banks s.mram.bootSel = none ∧ bitAt s.mram.fwInvalid s.mram.bootSel = false ∧ s.mram.bootSel ≤ 1) :=
  ⟨⟨{ st .boot [] with pw := { state := .boot, stage := 2 } }, by decide +kernel⟩,
    ⟨{ st .boot [] with pw := { state := .boot, stage := 3 }, sec := { found := some ⟨1, 0, 0, 8, []⟩ } }, ⟨1, 0, 0, 8, []⟩, by decide +kernel⟩,
    ⟨{ st .boot [] with pw := { state := .boot, stage := 4 } }, by decide +kernel⟩⟩

/-- Each clause of SignedTokens has states and operands that meet its hypotheses. -/
theorem witness_SignedTokens :
    (∃ (s : State), s.cored = true ∧ s.sec.tokens = [])
    ∧ (∃ (s : State), s.pw.state = .configure ∧ s.sec.tokens = [])
    ∧ (∃ (s : State), s.pw.state = .configure ∧ s.sec.tokens = [])
    ∧ (∃ (s : State), s.pw.state = .configure ∧ s.sec.tokens = [])
    ∧ (∃ (s : State), s.cored = true ∧ s.sec.tokens = [])
    ∧ (∃ (s : State), ∃ (b : List Byte), ∃ (c : List Byte), s.cored = true ∧ s.sec.tokens = [⟨1, c, none⟩] ∧ tokCmd c = tokCmd b ∧ tokHeaderOk [1] b = true)
    ∧ (∃ (s : State), ∃ (b : List Byte), ∃ (rest : List TokenJob), s.sec.engine = some .token ∧ s.sec.tokens = ⟨2, b, none⟩ :: rest ∧ tokCmd b = 2)
    ∧ (∃ (s : State), ∃ (b : List Byte), ∃ (rest : List TokenJob), s.sec.engine = some .token ∧ s.sec.tokens = ⟨3, b, none⟩ :: rest ∧ tokCmd b = 3)
    ∧ (∃ (s : State), ∃ (b : List Byte), ∃ (rest : List TokenJob), s.sec.engine = some .token ∧ s.sec.tokens = ⟨1, b, none⟩ :: rest ∧ tokCmd b = 1)
    ∧ (∃ (s : State), s.sec.engine ≠ some .token)
    ∧ (∃ (s : State), s.sec.clearing = true ∧ s.pw.state = .run ∧ s.noReset = true)
    ∧ (∃ (s : State), s.sec.clearing = true ∧ s.pw.state = .slate ∧ s.noReset = true ∧ s.pw.pgoodLoss = false ∧ s.pw.ejecting = false) :=
  ⟨⟨st .safe [], by decide +kernel⟩,
    ⟨st .configure [], by decide +kernel⟩,
    ⟨st .configure [], by decide +kernel⟩,
    ⟨st .configure [], by decide +kernel⟩,
    ⟨st .slate [], by decide +kernel⟩,
    ⟨{ st .run [] with sec := { tokens := [⟨1, List.replicate 8 0 ++ [1], none⟩] } }, tokBytes, List.replicate 8 0 ++ [1], by decide +kernel⟩,
    ⟨{ st .configure [] with sec := { engine := some .token, tokens := [⟨2, List.replicate 8 0 ++ [2], none⟩] } }, List.replicate 8 0 ++ [2], [], by decide +kernel⟩,
    ⟨{ st .configure [] with sec := { engine := some .token, tokens := [⟨3, List.replicate 8 0 ++ [3], none⟩] } }, List.replicate 8 0 ++ [3], [], by decide +kernel⟩,
    ⟨{ st .configure [] with sec := { engine := some .token, tokens := [⟨1, List.replicate 8 0 ++ [1], none⟩] } }, List.replicate 8 0 ++ [1], [], by decide +kernel⟩,
    ⟨st .run [], by decide +kernel⟩,
    ⟨{ st .run [] with sec := { clearing := true } }, by decide +kernel⟩,
    ⟨{ st .slate [] with sec := { clearing := true } }, by decide +kernel⟩⟩

/-- Each clause of FirmwareCountersAndReports has states and operands that meet its hypotheses. -/
theorem witness_FirmwareCountersAndReports :
    (∃ (s : State), s.pw.state = .configure)
    ∧ (∃ (s : State), ∃ (c : Nat), s.sec.checking = true ∧ s.sec.engine = some .firmware ∧ s.sec.checkFor = none ∧ c = s.fwCode (Tab.get [] s.sec.banks (1 - s.get R.SEC_BOOT.BANK)))
    ∧ (∃ (s : State), s.get R.SEC_BOOT.FW_RESULT = 0)
    ∧ (∃ (s : State), s.get R.SEC_BOOT.FW_RESULT ≠ 0)
    ∧ (∃ (s : State), ∃ (i : Nat), ∃ (v : Nat), i ≤ 63 ∧ s.versionOf i = some v ∧ s.bit R.START_STAT.PENDING = false ∧ s.mram.trial = false)
    ∧ (∃ (s : State), ∃ (i : Nat), i ≤ 63 ∧ s.versionOf i = none)
    ∧ (∃ (s : State), ∃ (i : Nat), ∃ (v : Nat), ∃ (rest : List (Nat × Nat)), s.sec.counting = (i, v) :: rest)
    ∧ (∃ (b : List Byte), b.length = 32)
    ∧ (∃ (s : State), ∃ (n : List Byte), s.sec.engine = some .report ∧ s.sec.nonce = some n) :=
  ⟨⟨st .configure [], by decide +kernel⟩,
    ⟨{ st .configure [] with sec := { checking := true, engine := some .firmware } }, 1, by decide +kernel⟩,
    ⟨st .configure [(R.SEC_BOOT.FW_RESULT, 0)], by decide +kernel⟩,
    ⟨st .configure [], by decide +kernel⟩,
    ⟨{ st .run [(R.START_STAT.PENDING, 0)] with pw := { state := .run, fwRuns := true } }, 0, 0, by decide +kernel⟩,
    ⟨st .run [], 63, by decide +kernel⟩,
    ⟨{ st .run [] with sec := { counting := [(63, 255)] } }, 63, 255, [], by decide +kernel⟩,
    ⟨List.replicate 32 7, by decide +kernel⟩,
    ⟨{ st .run [] with sec := { nonce := some [1], engine := some .report } }, [1], by decide +kernel⟩⟩

/-- Each clause of RegisterWordsAreWritten has states and operands that meet its hypotheses. -/
theorem witness_RegisterWordsAreWritten :
    (∃ (s : State), ∃ (h : Bool), s.cored = true ∧ (h = true → s.pw.state ≠ .slate))
    ∧ (∃ (s : State), ∃ (h : Bool), s.cored = true ∧ (h = true → s.pw.state ≠ .slate))
    ∧ (∃ (s : State), s.pw.state ≠ .configure)
    ∧ (∃ (s : State), ∃ (v : Word), s.pw.state = .configure ∧ 5 ≤ v.toNat % 512 ∧ v.toNat % 512 ≤ 500)
    ∧ (∃ (s : State), ∃ (v : Word), s.pw.state = .configure ∧ (v.toNat % 512 < 5 ∨ 500 < v.toNat % 512))
    ∧ (∃ (s : State), ∃ (h : Bool), s.cored = true ∧ (h = true → s.pw.state ≠ .slate) ∧ R.FC_CAUSE.ECC_CORR.key ∉ s.cyc.sets)
    ∧ (∃ (a : Nat), 0x100F00 ≤ a ∧ a ≤ 0x100FFF)
    ∧ (∃ (s : State), s.pw.state = .slate)
    ∧ (∃ (s : State), s.cored = false)
    ∧ (∃ (s : State), ∃ (v : Word), s.pw.state = .boot ∧ bitAt v.toNat 0 = true) :=
  ⟨⟨st .boot [], true, by decide +kernel⟩,
    ⟨st .slate [], false, by decide +kernel⟩,
    ⟨st .run [], by decide +kernel⟩,
    ⟨st .configure [], 0x800001F4, by decide +kernel⟩,
    ⟨st .configure [], 0x1F5, by decide +kernel⟩,
    ⟨st .run [(R.FC_CAUSE.ECC_CORR, 1)], true, by decide +kernel⟩,
    ⟨0x100FFF, by decide +kernel⟩,
    ⟨st .slate [], by decide +kernel⟩,
    ⟨st .coldHold [], by decide +kernel⟩,
    ⟨st .boot [], 1, by decide +kernel⟩⟩

/-- Each clause of IrqPendFollowsTheLeaves has states and operands that meet its hypotheses. -/
theorem witness_IrqPendFollowsTheLeaves :
    ∃ (n : Nat), n < 16 :=
  ⟨15, by decide +kernel⟩

/-- Each clause of DeviceStatesFollowCommands has states and operands that meet its hypotheses. -/
theorem witness_DeviceStatesFollowCommands :
    (∃ (s : State), s.onBus = true ∧ s.pw.state = .configure ∧ s.startBarred = false ∧ s.dx.alone < 64 ∧ s.dx.hbRun < 16)
    ∧ (∃ (s : State), s.onBus = true ∧ s.pw.state = .configure ∧ s.startBarred = true)
    ∧ (∃ (s : State), s.onBus = true ∧ s.pw.state = .armed)
    ∧ (∃ (s : State), s.onBus = true ∧ s.pw.state = .armed)
    ∧ (∃ (s : State), s.onBus = true ∧ s.pw.state = .armed ∧ s.noReset = true)
    ∧ (∃ (s : State), s.onBus = true ∧ s.pw.state = .run)
    ∧ (∃ (s : State), s.onBus = true ∧ s.pw.state = .run ∧ s.store.copies = [])
    ∧ (∃ (s : State), s.served = true ∧ s.pw.state ≠ .run)
    ∧ (∃ (s : State), s.pw.state = .run ∧ s.dx.alone < 64 ∧ s.dx.hbRun < 16)
    ∧ (∃ (s : State), s.pw.state = .armed ∧ s.bit O.RUN_REQUEST = true ∧ s.runBlockers = 0 ∧ s.duplicated = false)
    ∧ (∃ (s : State), s.runBlockers ≠ 0)
    ∧ (∃ (s : State), s.pw.state = .boot ∧ s.pw.fwRuns = true ∧ s.pw.slateStart = false ∧ s.recd.scanned = true ∧ s.store.copies = [] ∧ s.sec.images = [])
    ∧ (∃ (s : State), s.duplicated = true) :=
  ⟨⟨st .configure [], by decide +kernel⟩,
    ⟨st .configure [(R.SEC_STAT.DEBUG, 1)], by decide +kernel⟩,
    ⟨st .armed [(O.RUN_REQUEST, 1)], by decide +kernel⟩,
    ⟨st .armed [(O.RUN_REQUEST, 1)], by decide +kernel⟩,
    ⟨st .armed [], by decide +kernel⟩,
    ⟨st .run [], by decide +kernel⟩,
    ⟨st .run [], by decide +kernel⟩,
    ⟨st .slate [], by decide +kernel⟩,
    ⟨st .run [(O.RUN_REQUEST, 1)], by decide +kernel⟩,
    ⟨{ st .armed [(O.RUN_REQUEST, 1)] with dx := { decided := true } }, by decide +kernel⟩,
    ⟨st .armed [], by decide +kernel⟩,
    ⟨{ st .boot [] with pw := { state := .boot, fwRuns := true, selfTestDone := true }, recd := { scanned := true } }, by decide +kernel⟩,
    ⟨{ st .armed [] with spine := { map := some { present := 3, dup := 1, complete := true, closed := true, num := 1 } } }, by decide +kernel⟩⟩

/-- Each clause of DictionaryIsServed has states and operands that meet its hypotheses. -/
theorem witness_DictionaryIsServed :
    (∃ (s : State), ∃ (c : Nat), s.onBus = true ∧ s.served = true ∧ s.clients.contains c = true)
    ∧ (∃ (s : State), ∃ (c : Nat), s.onBus = true ∧ s.served = true ∧ s.clients.contains c = true)
    ∧ (∃ (s : State), ∃ (c : Nat), s.onBus = true ∧ s.served = true ∧ s.clients.contains c = true)
    ∧ (∃ (s : State), ∃ (c : Nat), s.onBus = true ∧ s.served = true ∧ s.clients.contains c = true)
    ∧ (∃ (s : State), ∃ (c : Nat), s.onBus = true ∧ s.served = true ∧ s.clients.contains c = false ∧ 4 ≤ s.clients.length)
    ∧ (∃ (s : State), s.pw.state = .configure)
    ∧ (∃ (v : Nat), v ≠ 0x65766173)
    ∧ (∃ (s : State), s.pw.state = .configure)
    ∧ (∃ (s : State), s.pw.state = .configure) :=
  ⟨⟨busy1, 9, by decide +kernel⟩,
    ⟨busy1, 9, by decide +kernel⟩,
    ⟨busy1, 9, by decide +kernel⟩,
    ⟨busy1, 9, by decide +kernel⟩,
    ⟨busy4, 9, by decide +kernel⟩,
    ⟨st .configure [], by decide +kernel⟩,
    ⟨0, by decide +kernel⟩,
    ⟨{ st .configure [] with store := { newer := 1 } }, by decide +kernel⟩,
    ⟨st .configure [], by decide +kernel⟩⟩

/-- Each clause of NodeTraffic has states and operands that meet its hypotheses. -/
theorem witness_NodeTraffic :
    (∃ (s : State), s.operational = true ∧ s.onBus = true ∧ (∀ j, j < 4 → Tab.get none s.net.rpdo j = none) ∧ s.get (O.TPDO_TYPE 0) = 3 ∧ Tab.get 0 s.net.syncs 0 = 0 ∧ s.get (O.TPDO_TYPE 1) = 255 ∧ s.get (O.TPDO_TYPE 2) = 255 ∧ s.get (O.TPDO_TYPE 3) = 255)
    ∧ (∃ (s : State), ∃ (i : Fin 4), ∃ (b : List Byte), s.operational = true ∧ s.onBus = true ∧ validCob (s.get (O.RPDO_COB i)) = true ∧ s.rpdoMap i ≠ [] ∧ ((s.rpdoMap i).map (fun e => e.2.2)).sum ≤ b.length ∧ s.get (O.RPDO_TYPE i) ≤ 240)
    ∧ (∃ (s : State), s.operational = false)
    ∧ (∃ (s : State), ∃ (i : Fin 4), 254 ≤ s.get (O.TPDO_TYPE i) ∧ s.get (O.TPDO_TIME i) ≠ 0 ∧ s.operational = true ∧ s.canHeld = false ∧ validCob (s.get (O.TPDO_COB i)) = true ∧ s.tpdoMap i = [(0x1001, 0, 1)])
    ∧ (∃ (s : State), s.isRoot = true ∧ s.canHeld = false ∧ s.served = true ∧ s.get O.HB_PRODUCER ≠ 0)
    ∧ (∃ (s : State), ∃ (n : Fin 128), ∃ (i : Nat), s.consumer n = some i ∧ bitAt s.net.monitored i = true)
    ∧ (∃ (s : State), ∃ (n : Fin 128), ∃ (i : Nat), s.consumer n = some i ∧ s.onBus = true ∧ s.served = true)
    ∧ (∃ (s : State), ∃ (e : Emcy), ∃ (l : List Emcy), s.net.emcy = e :: l ∧ s.net.emcySending = false ∧ s.onBus = true)
    ∧ (∃ (s : State), ∃ (e : Emcy), ∃ (l : List Emcy), s.net.emcy = e :: l ∧ s.net.emcySending = true)
    ∧ (∃ (s : State), s.onBus = true ∧ s.cored = true)
    ∧ (∃ (s : State), s.isRoot = true ∧ s.canHeld = false ∧ s.get R.FN_STAT.BUS = 2)
    ∧ (∃ (s : State), ∃ (tec : Nat), s.onBus = true ∧ s.cored = true ∧ s.get R.FN_STAT.BUS = 0 ∧ 128 ≤ tec)
    ∧ (∃ (s : State), ∃ (tec : Nat), ∃ (rcv : Nat), s.onBus = true ∧ s.cored = true ∧ s.get R.FN_STAT.BUS = 1 ∧ tec < 128 ∧ rcv < 128) :=
  ⟨⟨st .run [(O.TPDO_TYPE 0, 3)], by decide +kernel⟩,
    ⟨st .run [(O.RPDO_COUNT 3, 1), (O.RPDO_MAP 3 1, 0x20010208), (O.RPDO_TYPE 3, 240), (O.RPDO_COB 3, 0x201)], 3, [1], by decide +kernel⟩,
    ⟨st .safe [], by decide +kernel⟩,
    ⟨st .run [(O.TPDO_COUNT 3, 1), (O.TPDO_MAP 3 1, 0x10010008), (O.TPDO_TYPE 3, 254), (O.TPDO_COB 3, 0x181), (O.TPDO_TIME 3, 1)], 3, by decide +kernel⟩,
    ⟨st .slate [], by decide +kernel⟩,
    ⟨{ st .run [(O.HB_CONSUMER 3, 0x7F0001)] with net := { monitored := 8 } }, 127, 3, by decide +kernel⟩,
    ⟨st .run [(O.HB_CONSUMER 3, 0x7F0001)], 127, 3, by decide +kernel⟩,
    ⟨{ st .run [] with net := { emcy := [⟨0, []⟩] } }, ⟨0, []⟩, [], by decide +kernel⟩,
    ⟨{ st .run [] with net := { emcy := [⟨0, []⟩], emcySending := true } }, ⟨0, []⟩, [], by decide +kernel⟩,
    ⟨st .boot [(R.FN_STAT.BUS, 0)], by decide +kernel⟩,
    ⟨st .run [(R.FN_STAT.BUS, 2)], by decide +kernel⟩,
    ⟨st .run [(R.FN_STAT.BUS, 0)], 128, by decide +kernel⟩,
    ⟨st .run [(R.FN_STAT.BUS, 1)], 127, 127, by decide +kernel⟩⟩

/-- Each clause of ForwardingOverTheSpine has states and operands that meet its hypotheses. -/
theorem witness_ForwardingOverTheSpine :
    (∃ (s : State), ∃ (i : Fin 4), ∃ (m : List Byte), s.spineUp i = true ∧ msgGood 0x4F m = true ∧ 8 ≤ msgLen m ∧ msgDest m ≠ s.pos)
    ∧ (∃ (s : State), ∃ (i : Fin 4), ∃ (m : List Byte), s.spineUp i = true ∧ msgGood 0x4F m = true ∧ 8 ≤ msgLen m ∧ msgDest m = s.pos ∧ leAt (msgPayload m) 7 1 = 2 ∧ s.served = true ∧ s.spine.fwdIn = [])
    ∧ (∃ (s : State), ∃ (i : Fin 4), ∃ (m : List Byte), s.spineUp i = true ∧ msgGood 0x50 m = true ∧ 9 ≤ msgLen m ∧ msgDest m ≠ s.pos)
    ∧ (∃ (s : State), ∃ (i : Fin 4), ∃ (m : List Byte), ∃ (r : UsdoRequest), s.isRoot = true ∧ s.canHeld = false ∧ s.spineUp i = true ∧ msgGood 0x50 m = true ∧ 9 ≤ msgLen m ∧ msgDest m = s.pos ∧ leAt (msgPayload m) 8 1 = 1 ∧ s.spine.fwdIn = [] ∧ s.fwdOut (msgSrc m) = [(leAt (msgPayload m) 0 4, r)] ∧ s.fwdQueue (msgSrc m) = [])
    ∧ (∃ (s : State), ∃ (p : Fin 64), ∃ (n : Nat), ∃ (r : UsdoRequest), s.isRoot = true ∧ s.canHeld = false ∧ s.fwdOut p = [(n, r)] ∧ s.fwdQueue p = [] ∧ Tab.find? s.spine.fwdDone n = none)
    ∧ (∃ (s : State), ∃ (i : Fin 4), ∃ (m : List Byte), s.spineUp i = true ∧ msgGood 0x52 m = true ∧ msgLen m = 128 ∧ msgDest m ≠ s.pos)
    ∧ (∃ (s : State), ∃ (i : Fin 4), ∃ (m : List Byte), s.isRoot = true ∧ s.spineUp i = true ∧ msgGood 0x52 m = true ∧ msgLen m = 128 ∧ msgDest m = s.pos ∧ leAt (msgPayload m) 8 1 = 1 ∧ s.get O.EMCY_CLASS ≤ leAt (msgPayload m) 9 1 % 4 ∧ s.net.emcy.length < 16) :=
  ⟨⟨st .run [(R.SL_STAT.STATE 0, 4)], 0, message 0x4F 2 0 1 5 0 (List.replicate 8 0), by decide +kernel⟩,
    ⟨stAt .run 1 [(R.SL_STAT.STATE 0, 4)], 0, message 0x4F 2 0 0 1 0 (leBytes 4 7 ++ leBytes 2 0x1018 ++ leBytes 1 1 ++ leBytes 1 2), by decide +kernel⟩,
    ⟨st .run [(R.SL_STAT.STATE 0, 4)], 0, message 0x50 2 0 1 5 0 (List.replicate 9 0), by decide +kernel⟩,
    ⟨{ st .run [(R.SL_STAT.STATE 0, 4)] with spine := { fwdSent := [(5, [(7, ⟨3, 0, 6, 0x1018, 1, none⟩)])] } }, 0, message 0x50 2 0 5 0 0 (leBytes 4 7 ++ leBytes 4 0 ++ leBytes 1 1 ++ [9]), ⟨3, 0, 6, 0x1018, 1, none⟩, by decide +kernel⟩,
    ⟨{ st .run [] with spine := { fwdSent := [(63, [(7, ⟨3, 0, 6, 0x1018, 1, none⟩)])] } }, 63, 7, ⟨3, 0, 6, 0x1018, 1, none⟩, by decide +kernel⟩,
    ⟨st .run [(R.SL_STAT.STATE 0, 4)], 0, message 0x52 2 0 1 5 0 (List.replicate 128 0), by decide +kernel⟩,
    ⟨st .run [(R.SL_STAT.STATE 0, 4)], 0, message 0x52 2 0 1 0 0 (List.replicate 8 0 ++ [1, 3, 14, 4] ++ List.replicate 116 0), by decide +kernel⟩⟩

/-- Each clause of MinMaxAndClamp has states and operands that meet its hypotheses. -/
theorem witness_MinMaxAndClamp :
    (∃ (a : Nat), ∃ (b : Nat), nan32 a = true ∧ nan32 b = false)
    ∧ (∃ (a : Nat), ∃ (c : Nat), nan32 a = true ∧ nan32 c = false)
    ∧ (∃ (b : Nat), ∃ (c : Nat), lt32 c b = true) :=
  ⟨⟨0xFFC00000, 0x7F800000, by decide +kernel⟩,
    ⟨0xFFC00000, 0, by decide +kernel⟩,
    ⟨0x40000000, 0x3F800000, by decide +kernel⟩⟩

/-- Each clause of FirstCauseIsKept has states and operands that meet its hypotheses. -/
theorem witness_FirstCauseIsKept :
    (∃ (s : State), ∃ (r : ReportArg), 1 ≤ r.block ∧ r.block ≤ 16 ∧ r.src < 16 ∧ r.inst < 128 ∧ s.ts.tsc < 2 ^ 64 ∧ s.cyc.released.contains r.block = false ∧ s.joins r = false ∧ s.bit (R.FC_STAT.HELD (r.block - 1)) = false ∧ s.winHolds (s.scope r) (s.classOf r.block r.src r.inst) = false ∧ s.winHolds 8 (s.classOf r.block r.src r.inst) = false)
    ∧ (∃ (s : State), ∃ (r : ReportArg), 1 ≤ r.block ∧ r.block ≤ 16 ∧ s.cyc.released.contains r.block = false ∧ s.joins r = false ∧ s.eng.inj.on = false ∧ s.bit (R.FC_STAT.HELD (r.block - 1)) = true ∧ s.bit (R.FC_FIRST.OBSERVED (r.block - 1)) = true ∧ s.winHolds (s.scope r) (s.classOf r.block r.src r.inst) = false ∧ s.winHolds 8 (s.classOf r.block r.src r.inst) = false)
    ∧ (∃ (s : State), ∃ (r : ReportArg), s.joins r = false ∧ s.eng.inj.on = false ∧ s.winHolds (s.scope r) (s.classOf r.block r.src r.inst) = true) :=
  ⟨⟨st .run [], ⟨16, 15, 127, true, false⟩, by decide +kernel⟩,
    ⟨st .run [(R.FC_STAT.HELD 15, 1), (R.FC_FIRST.OBSERVED 15, 1)], ⟨16, 15, 127, true, false⟩, by decide +kernel⟩,
    ⟨st .run [(R.FC_WIN.OPEN 8, 1), (R.FC_WIN.CLASS 8, 3)], ⟨16, 15, 127, true, false⟩, by decide +kernel⟩⟩

/-- Each clause of BlackReportEntersSafe has states and operands that meet its hypotheses. -/
theorem witness_BlackReportEntersSafe :
    ∃ (s : State), ∃ (r : ReportArg), ∃ (f : Fld), (s.pw.state = .armed ∨ s.pw.state = .run) ∧ leafFor r = some f ∧ s.bit f = false ∧ r.observed = true ∧ s.classOf r.block r.src r.inst = 3 :=
  ⟨st .armed [], ⟨8, 6, 0, true, false⟩, (leafFor ⟨8, 6, 0, true, false⟩).getD R.FC_CAUSE.ECC_CORR, by decide +kernel⟩

/-- Each clause of StepTakesTheFrontCommand has states and operands that meet its hypotheses. -/
theorem witness_StepTakesTheFrontCommand :
    ∃ (s : State), s.pending = [] :=
  ⟨st .run [], by decide +kernel⟩

/-- Each clause of EveryStepKeepsTheRegisterForm has states and operands that meet its hypotheses. -/
theorem witness_EveryStepKeepsTheRegisterForm :
    ∃ (s : State), ∃ (t : State), s.RegsRising ∧ step s = .next t :=
  ⟨State.reset, tick State.reset, ⟨List.Pairwise.nil, rfl⟩⟩

/-- Each clause of EveryStepKeepsTheQueue has states and operands that meet its hypotheses. -/
theorem witness_EveryStepKeepsTheQueue :
    ∃ (s : State), ∃ (t : State), step s = .next t :=
  ⟨State.reset, tick State.reset, rfl⟩

/-- Each clause of EveryStepMovesOtpOneWay has states and operands that meet its hypotheses. -/
theorem witness_EveryStepMovesOtpOneWay :
    ∃ (s : State), ∃ (t : State), step s = .next t :=
  ⟨State.reset, tick State.reset, rfl⟩

end Sys2Proof.Tests
end

section
/-!
PROOFS. Writes of register words (00_scope.md, R11 to R16, R540) and the state of reset: what a write by access code gives a field, which writes a word takes
at all, and the two statements of 00_scope.md.
-/
namespace Sys2Proof.Machine

/-! ### Frames of register writes -/

theorem OnlySets.refl (s : State) (l : List Fld) : OnlySets s s l := ⟨rfl, fun _ _ => rfl⟩

/-- A write of a listed field keeps the frame. -/
theorem OnlySets.set {s t : State} {l : List Fld} {f : Fld} (h : OnlySets s t l) (v : Nat) (hf : f ∈ l) : OnlySets s (t.set f v) l := by
  obtain ⟨hstate, hregs⟩ := h
  refine ⟨?_, fun g hg => ?_⟩
  · have : t.set f v = { t with regs := (t.set f v).regs } := rfl
    rw [this, hstate]
  · have hne : f.key ≠ g.key := fun e => hg (e ▸ List.mem_map_of_mem hf)
    rw [State.get_set_of_ne t v hne, hregs g hg]

@[simp] theorem State.each_nil {α : Type} (s : State) (f : α → State → State) : s.each [] f = s := rfl
@[simp] theorem State.each_cons {α : Type} (s : State) (a : α) (l : List α) (f : α → State → State) :
    s.each (a :: l) f = (f a s).each l f := rfl

/-- Effects that each leave the state leave it together. -/
theorem State.each_eq_self {α : Type} {s : State} {l : List α} {f : α → State → State} (h : ∀ a ∈ l, f a s = s) : s.each l f = s := by
  induction l with
  | nil => rfl
  | cons a l ih => rw [State.each_cons, h a List.mem_cons_self, ih fun b hb => h b (List.mem_cons_of_mem a hb)]

/-! ### One field of a word, by its access code (R12, R14) -/

theorem State.cfg_iff (s : State) : s.cfg = true ↔ s.pw.state = .configure := by simp [State.cfg, State.inState]

theorem writeField_rw {f : Fld} (h : f.acc = .rw) (w : Nat) (s : State) : writeField w f s = s.set f (part w f) := by
  simp [writeField, State.takes, h]

theorem writeField_rwc_configure {f : Fld} (h : f.acc = .rwc) (w : Nat) {s : State} (hs : s.cfg = true) :
    writeField w f s = s.set f (part w f) := by
  simp [writeField, State.takes, h, hs]

theorem writeField_rwc_elsewhere {f : Fld} (h : f.acc = .rwc) (w : Nat) {s : State} (hs : s.cfg = false) : writeField w f s = s := by
  simp [writeField, State.takes, h, hs]

theorem writeField_w1c_zero {f : Fld} (h : f.acc = .w1c) {w : Nat} (hw : part w f = 0) (s : State) : writeField w f s = s := by
  simp [writeField, State.takes, h, hw]

/-- Hardware that sets the bit in the same core cycle prevails (R13). -/
theorem writeField_w1c_one {f : Fld} (h : f.acc = .w1c) {w : Nat} (hw : part w f = 1) {s : State} (hs : f.key ∉ s.cyc.sets) :
    writeField w f s = s.set f 0 := by
  simp [writeField, State.takes, clearBit, h, hw, hs]

/-- Outside Configure a word of RWC fields keeps its value. -/
theorem plain_rwc_elsewhere {a : Nat} (h : ∀ f ∈ fieldsAt a, f.acc = .rwc) (w : Nat) {s : State} (hs : s.cfg = false) : plain a w s = s :=
  State.each_eq_self fun f hf => writeField_rwc_elsewhere (h f hf) w hs

theorem each_writeField_rwc_configure {l : List Fld} (h : ∀ f ∈ l, f.acc = .rwc) (w : Nat) {s : State} (hs : s.cfg = true) :
    s.each l (writeField w) = s.each l (fun f t => t.set f (part w f)) := by
  induction l generalizing s with
  | nil => rfl
  | cons f l ih =>
    rw [State.each_cons, State.each_cons, writeField_rwc_configure (h f List.mem_cons_self) w hs]
    exact ih (fun g hg => h g (List.mem_cons_of_mem f hg)) hs

/-- In Configure each field of a word of RWC fields takes its part. -/
theorem plain_rwc_configure {a : Nat} (h : ∀ f ∈ fieldsAt a, f.acc = .rwc) (w : Nat) {s : State} (hs : s.cfg = true) :
    plain a w s = s.each (fieldsAt a) (fun f t => t.set f (part w f)) := each_writeField_rwc_configure h w hs

theorem guarded_good {bad : Bool} (h : bad = false) (r : Src) (a w : Nat) (s : State) : guarded bad r a w s = plain a w s := by
  simp [guarded, h]

theorem guarded_bad {bad : Bool} (h : bad = true) (r : Src) (a w : Nat) (s : State) : guarded bad r a w s = raise r s := by
  simp [guarded, refuse, h]

/-! ### Which writes reach the word (R540) -/

theorem writeWord_not_cored (host : Bool) (a w : Nat) {s : State} (h : s.cored = false) : writeWord host a w s = s := by
  simp [writeWord, h]

theorem writeWord_host_slate (a w : Nat) {s : State} (h : s.pw.state = .slate) : writeWord true a w s = s := by
  simp [writeWord, State.inState, h]

theorem writeWord_host_firmware_words {a : Nat} (w : Nat) (s : State) (h : 0x100F00 ≤ a) (h' : a ≤ 0x100FFF) : writeWord true a w s = s := by
  simp [writeWord, h, h']

/-- Register words are offered while the core domains run, to a host in Slate not (R540). -/
def State.offers (s : State) (host : Bool) : Prop := s.cored = true ∧ (host = true → s.pw.state ≠ .slate)

theorem State.offers_configure {s : State} (h : s.pw.state = .configure) (host : Bool) : s.offers host := by
  simp [State.offers, State.cored, State.inState, h]

/-- A write that is offered, away from the words kept for firmware, is not dropped. -/
theorem not_dropped {s : State} {host : Bool} {a : Nat} (h : s.offers host) (ha : a < 0x100F00) :
    (!s.cored || (host && (s.inState [.slate] || (0x100F00 ≤ a && a ≤ 0x100FFF)))) = false := by
  obtain ⟨hcored, hslate⟩ := h
  cases host <;> simp_all [State.inState]

theorem writeWord_collector {s : State} {host : Bool} {a : Nat} (h : s.offers host) (ha : a / 65536 = 0xE) (w : Nat) :
    writeWord host a w s = writeCollector a w s := by
  simp [writeWord, not_dropped h (show a < 0x100F00 by omega), ha]

theorem writeWord_interrupts {s : State} {host : Bool} {a : Nat} (h : s.offers host) (ha : a / 65536 = 0) (w : Nat) :
    writeWord host a w s = plain a w s := by
  simp [writeWord, not_dropped h (show a < 0x100F00 by omega), ha]

theorem writeWord_firmware_system {s : State} (h : s.cored = true) {a : Nat} (ha : a / 65536 = 0x10) (w : Nat) :
    writeWord false a w s = writeSystem a w s := by
  simp [writeWord, h, ha]

/-- A collector write without effect has none through the aperture either, offered or not. -/
theorem writeWord_collector_eq_self {s : State} {a w : Nat} (ha : a / 65536 = 0xE) (h : writeCollector a w s = s) (host : Bool) :
    writeWord host a w s = s := by
  unfold writeWord
  split
  · rfl
  · simp [ha, h]

/-! ### The words of the statements -/

theorem fieldsAt_irqEn : fieldsAt 8 = [R.IRQ_EN.EN] := by decide +kernel
theorem fieldsAt_cbiAddr : fieldsAt 0xE0024 = [R.FC_CBI_ADDR] := by decide +kernel
theorem fieldsAt_fcCtrl : fieldsAt 0xE0000 = [R.FC_CTRL.GREY_IRQ, R.FC_CTRL.INJ_ACT, R.FC_CTRL.SAFE_BYPASS, R.FC_CTRL.COAL_WIN] := by decide +kernel
theorem fieldsAt_fcCause : fieldsAt 0xE000C =
    [R.FC_CAUSE.SAFE_EXIT_REFUSED, R.FC_CAUSE.ECC_UNCORR, R.FC_CAUSE.ECC_CORR, R.FC_CAUSE.RING_BLACK, R.FC_CAUSE.INJ_MISS,
      R.FC_CAUSE.RECOV_LATCH, R.FC_CAUSE.SETTING_REFUSED] := by decide +kernel

theorem exec_registerWrite (host : Bool) (a : Nat) (v : Word) (s : State) :
    exec (.registerWrite host a v) s = .next (writeWord host a v.toNat s) := rfl

/-- What a write gives a field stays within the field's width. -/
@[simp] theorem part_mod (w : Nat) (f : Fld) : part w f % 2 ^ f.width = part w f := Nat.mod_mod _ _

/-- A word whose one field is RW: the field takes its part of the word, and no other changes. -/
theorem plain_rw_alone {a : Nat} {f : Fld} (hword : fieldsAt a = [f]) (hacc : f.acc = .rw) (w : Nat) (s : State) :
    (plain a w s).get f = part w f ∧ OnlySets s (plain a w s) [f] := by
  have hplain : plain a w s = s.set f (part w f) := by simp [plain, hword, writeField_rw hacc]
  rw [hplain]
  exact ⟨by simp, (OnlySets.refl s _).set _ (by simp)⟩

theorem writeCollector_fcCtrl (w : Nat) (s : State) :
    writeCollector 0xE0000 w s
      = guarded (s.cfg && (bits w 8 0 < 5 || 500 < bits w 8 0)) Src.FC_SETTING_REFUSED 0xE0000 w s := rfl

theorem writeCollector_cbiAddr (w : Nat) (s : State) : writeCollector 0xE0024 w s = plain 0xE0024 w s := rfl
theorem writeCollector_fcCause (w : Nat) (s : State) : writeCollector 0xE000C w s = plain 0xE000C w s := rfl

theorem fcCtrl_fields_rwc : ∀ f ∈ fieldsAt 0xE0000, f.acc = .rwc := by rw [fieldsAt_fcCtrl]; decide

/-- Outside Configure nothing of FC_CTRL is written, in range or not. -/
theorem writeCollector_fcCtrl_elsewhere (w : Nat) {s : State} (hs : s.cfg = false) : writeCollector 0xE0000 w s = s := by
  rw [writeCollector_fcCtrl, guarded_good (by simp [hs])]
  exact plain_rwc_elsewhere fcCtrl_fields_rwc w hs

/-- FC_CTRL with every field written. -/
def fcCtrlWritten (w : Nat) (s : State) : State :=
  (((s.set R.FC_CTRL.GREY_IRQ (part w R.FC_CTRL.GREY_IRQ)).set R.FC_CTRL.INJ_ACT (part w R.FC_CTRL.INJ_ACT)).set
    R.FC_CTRL.SAFE_BYPASS (part w R.FC_CTRL.SAFE_BYPASS)).set R.FC_CTRL.COAL_WIN (part w R.FC_CTRL.COAL_WIN)

theorem plain_fcCtrl_configure (w : Nat) {s : State} (hs : s.cfg = true) : plain 0xE0000 w s = fcCtrlWritten w s := by
  rw [plain_rwc_configure fcCtrl_fields_rwc w hs, fieldsAt_fcCtrl]
  rfl

theorem fcCtrlWritten_coalWin (w : Nat) (s : State) : (fcCtrlWritten w s).get R.FC_CTRL.COAL_WIN = w % 512 := by
  simp [fcCtrlWritten, part, R.FC_CTRL.COAL_WIN]

theorem fcCtrlWritten_greyIrq (w : Nat) (s : State) : (fcCtrlWritten w s).get R.FC_CTRL.GREY_IRQ = w / 2 ^ 31 % 2 := by
  unfold fcCtrlWritten
  rw [State.get_set_of_ne _ _ (by decide), State.get_set_of_ne _ _ (by decide), State.get_set_of_ne _ _ (by decide), State.get_set_self]
  simp [part, R.FC_CTRL.GREY_IRQ]

theorem fcCtrlWritten_onlySets (w : Nat) (s : State) :
    OnlySets s (fcCtrlWritten w s) [R.FC_CTRL.COAL_WIN, R.FC_CTRL.GREY_IRQ, R.FC_CTRL.INJ_ACT, R.FC_CTRL.SAFE_BYPASS] :=
  ((((OnlySets.refl s _).set _ (by simp)).set _ (by simp)).set _ (by simp)).set _ (by simp)

/-- COAL_WIN within 5 to 500, in units of 0.1 µs (R456). -/
theorem writeCollector_fcCtrl_in_range {w : Nat} {s : State} (hs : s.cfg = true) (h : 5 ≤ w % 512) (h' : w % 512 ≤ 500) :
    writeCollector 0xE0000 w s = fcCtrlWritten w s := by
  rw [writeCollector_fcCtrl, guarded_good (by simp [bits, h, h']), plain_fcCtrl_configure w hs]

theorem writeCollector_fcCtrl_out_of_range {w : Nat} {s : State} (hs : s.cfg = true) (h : w % 512 < 5 ∨ 500 < w % 512) :
    writeCollector 0xE0000 w s = raise Src.FC_SETTING_REFUSED s := by
  rw [writeCollector_fcCtrl, guarded_bad (by simpa [bits, hs] using h)]

/-- A 1 in the place of ECC_CORR alone clears that bit of FC_CAUSE and leaves the six others. -/
theorem plain_fcCause_eccCorr {s : State} (h : R.FC_CAUSE.ECC_CORR.key ∉ s.cyc.sets) :
    plain 0xE000C 0x10 s = s.set R.FC_CAUSE.ECC_CORR 0 := by
  have hbefore : writeField 0x10 R.FC_CAUSE.ECC_UNCORR (writeField 0x10 R.FC_CAUSE.SAFE_EXIT_REFUSED s) = s := by
    rw [writeField_w1c_zero rfl rfl, writeField_w1c_zero rfl rfl]
  simp only [plain, fieldsAt_fcCause, State.each_cons, State.each_nil, hbefore, writeField_w1c_one (w := 0x10) rfl rfl h]
  repeat rw [writeField_w1c_zero rfl rfl]

/-- Firmware reports the end of its self-test through START_CTRL, in Boot alone (R71). -/
theorem writeSystem_selfTestDone {w : Nat} {s : State} (hs : s.pw.state = .boot) (hw : bitAt w 0 = true) :
    writeSystem 0x100F14 w s = { s with pw := { s.pw with selfTestDone := true } } := by
  simp [writeSystem, onBit, hw, hs, State.modPw]

/-- Settles O47: an offered write reaches its word, and the access codes of the word's fields say what it does there. -/
theorem registerWordsAreWritten : Obligations.RegisterWordsAreWritten := by
  unfold Obligations.RegisterWordsAreWritten
  simp only [exec_registerWrite]
  refine ⟨?cbiAddr, ?irqEn, ?elsewhere, ?inRange, ?outOfRange, ?eccCorr, ?firmwareWords, ?slate, ?notCored, ?selfTest⟩
  case cbiAddr =>
    intro s host v hcored hslate
    rw [writeWord_collector ⟨hcored, hslate⟩ rfl, writeCollector_cbiAddr]
    obtain ⟨hget, honly⟩ := plain_rw_alone fieldsAt_cbiAddr rfl v.toNat s
    exact ⟨_, rfl, by simpa [part, R.FC_CBI_ADDR] using hget, honly⟩
  case irqEn =>
    intro s host v hcored hslate
    rw [writeWord_interrupts ⟨hcored, hslate⟩ rfl]
    obtain ⟨hget, honly⟩ := plain_rw_alone fieldsAt_irqEn rfl v.toNat s
    exact ⟨_, rfl, by simpa [part, R.IRQ_EN.EN] using hget, honly⟩
  case elsewhere =>
    intro s host v hstate
    have hcfg : s.cfg = false := by simpa [← s.cfg_iff] using hstate
    rw [writeWord_collector_eq_self rfl (writeCollector_fcCtrl_elsewhere v.toNat hcfg)]
  case inRange =>
    intro s host v hstate hlow hhigh
    rw [writeWord_collector (s.offers_configure hstate host) rfl, writeCollector_fcCtrl_in_range (s.cfg_iff.2 hstate) hlow hhigh]
    have hgrey : v.toNat / 2 ^ 31 % 2 = v.toNat / 2 ^ 31 := by have := v.isLt; omega
    exact ⟨_, rfl, fcCtrlWritten_coalWin _ s, (fcCtrlWritten_greyIrq _ s).trans hgrey, fcCtrlWritten_onlySets _ s⟩
  case outOfRange =>
    intro s host v hstate hrange
    rw [writeWord_collector (s.offers_configure hstate host) rfl, writeCollector_fcCtrl_out_of_range (s.cfg_iff.2 hstate) hrange]
  case eccCorr =>
    intro s host hcored hslate hsets
    have hword : (0x10 : Word).toNat = 0x10 := rfl
    rw [writeWord_collector ⟨hcored, hslate⟩ rfl, writeCollector_fcCause, hword, plain_fcCause_eccCorr hsets]
    exact ⟨_, rfl, by simp, (OnlySets.refl s _).set _ (by simp)⟩
  case firmwareWords =>
    intro s a v hlow hhigh
    rw [writeWord_host_firmware_words _ s hlow hhigh]
  case slate =>
    intro s a v hstate
    rw [writeWord_host_slate _ _ hstate]
  case notCored =>
    intro s host a v hcored
    rw [writeWord_not_cored _ _ _ hcored]
  case selfTest =>
    intro s host v hstate hbit
    cases host with
    | true => rw [writeWord_host_firmware_words _ s (by decide) (by decide)]; rfl
    | false =>
      have hcored : s.cored = true := by simp [State.cored, State.inState, hstate]
      rw [writeWord_firmware_system hcored rfl, writeSystem_selfTestDone hstate hbit]
      rfl

/-! ### The state of reset (R12, R15) -/

/-- No field is written at reset, so each reads its reset value. -/
theorem State.reset_get (f : Fld) : State.reset.get f = f.reset % 2 ^ f.width := rfl

theorem State.reset_regsRising : State.reset.RegsRising := List.Pairwise.nil

/-- Settles O57: reset is the state of no data, whose register table is empty. -/
theorem resetState : Obligations.ResetState := by
  unfold Obligations.ResetState
  have hoff : State.reset.pw.state = .off := rfl
  have hstill : State.reset.ts.running = false := rfl
  refine ⟨rfl, State.reset_get, hoff, hstill, rfl, rfl, State.reset_regsRising, ?_⟩
  simp only [State.reset_get]
  decide

end Sys2Proof.Machine
end

section
/-!
PROOFS. Resets (03_power_reset_insertion.md): what the record of a reset writes (R63), what a reset clears (R15), what the saves before it leave (R64),
how a cause is latched (R62), and what lanes send meanwhile (R55, R64). `ResetEnded` says once what every reset that is taken leaves.
-/
namespace Sys2Proof.Machine

/-! ### Effects on each of a list -/

/-- What every effect keeps, the effects together keep. -/
theorem State.each_keeps {α : Type} {P : State → Prop} {s : State} {l : List α} {f : α → State → State} (hs : P s)
    (hf : ∀ a ∈ l, ∀ x, P x → P (f a x)) : P (s.each l f) := by
  induction l generalizing s with
  | nil => exact hs
  | cons a l ih => exact ih (hf a List.mem_cons_self s hs) fun b hb => hf b (List.mem_cons_of_mem a hb)

/-- What the effect on `n` brings about while `P` holds, and no later effect undoes, holds after all. -/
theorem State.each_reaches {α : Type} {P Q : State → Prop} {s : State} {l : List α} {f : α → State → State} {n : α} (hn : n ∈ l) (hs : P s)
    (hP : ∀ a x, P x → P (f a x)) (hPQ : ∀ x, P x → Q (f n x)) (hQ : ∀ a x, Q x → Q (f a x)) : Q (s.each l f) := by
  induction l generalizing s with
  | nil => cases hn
  | cons a l ih =>
    rcases List.mem_cons.1 hn with rfl | hn
    · show Q ((f n s).each l f)
      exact State.each_keeps (hPQ s hs) fun a _ => hQ a
    · exact ih hn (hP a s hs)

/-! ### Registers after a filter, and frames -/

theorem State.get_of_regs {s t : State} (h : t.regs = s.regs) (f : Fld) : t.get f = s.get f := by simp [State.get, h]

theorem Tab.find?_filter {α : Type} (t : Tab α) (p : Nat → Bool) (k : Nat) :
    Tab.find? (t.filter fun e => p e.1) k = if p k then Tab.find? t k else none := by
  induction t with
  | nil => simp [Tab.find?]
  | cons e t ih =>
    obtain ⟨i, v⟩ := e
    by_cases hi : p i <;> by_cases hk : i = k <;> simp_all [Tab.find?]

/-- Where a reset filters the register table, a field it keeps reads as before, and any other as its reset value. -/
theorem State.get_of_filter {s t : State} {p : Nat → Bool} (h : t.regs = s.regs.filter fun e => p e.1) (f : Fld) :
    t.get f = if p f.key then s.get f else f.reset % 2 ^ f.width := by
  simp only [State.get, h, Tab.get, Tab.find?_filter]
  split <;> rfl

theorem OnlyRegs.of_regs {s t : State} (h : t.regs = s.regs) (l : List Fld) : OnlyRegs s t l := fun f _ => State.get_of_regs h f

/-- A write of a listed field keeps the frame. -/
theorem OnlyRegs.set {s t : State} {l : List Fld} {f : Fld} (h : OnlyRegs s t l) (v : Nat) (hf : f ∈ l) : OnlyRegs s (t.set f v) l :=
  fun g hg => (State.get_set_of_ne t v fun e => hg (e ▸ List.mem_map_of_mem hf)).trans (h g hg)

theorem OnlyRegs.inc {s t : State} {l : List Fld} {f : Fld} (h : OnlyRegs s t l) (hf : f ∈ l) : OnlyRegs s (t.inc f) l := h.set _ hf

theorem OnlyRegs.trans {s t u : State} {k l : List Fld} (h : OnlyRegs s t k) (h' : OnlyRegs t u l) : OnlyRegs s u (k ++ l) := by
  intro f hf
  rw [List.map_append, List.mem_append, not_or] at hf
  exact (h' f hf.2).trans (h f hf.1)

/-! ### The record of a reset, R63 and R72 to R81 -/

/-- The fields that leaving Slate clears (R81). -/
def slateFields : List Fld := [R.START_STAT.SLATE, R.START_STAT.SLATE_REASON, R.START_STAT.FAILED_CONSEC]

theorem leaveSlate_clears (s : State) :
    (leaveSlate s).get R.START_STAT.SLATE = 0 ∧ (leaveSlate s).get R.START_STAT.SLATE_REASON = 0
      ∧ (leaveSlate s).get R.START_STAT.FAILED_CONSEC = 0 := by
  unfold leaveSlate
  refine ⟨?_, ?_, ?_⟩ <;> simp (disch := decide) [State.get_set_of_ne]

theorem leaveSlate_onlyRegs (s : State) : OnlyRegs s (leaveSlate s) slateFields :=
  (((OnlyRegs.of_regs rfl _).set 0 (by simp [slateFields])).set 0 (by simp [slateFields])).set 0 (by simp [slateFields])

/-- A cause without a valid TSC writes RST_CAUSE alone (R63, R69). -/
def causeWord : List Fld := [R.RST_CAUSE.CAUSE, R.RST_CAUSE.PREV_CAUSE, R.RST_CAUSE.PGOOD_LOW, R.RST_CAUSE.STAGE, R.RST_CAUSE.TSC_VALID]

theorem writeCause_onlyRegs {c : ResetCause} (h : c.tscValid = false) (s : State) : OnlyRegs s (writeCause c s) causeWord := by
  unfold writeCause
  simp only [h, Bool.false_eq_true, if_false]
  exact (((((OnlyRegs.of_regs rfl _).set _ (by simp [causeWord])).set _ (by simp [causeWord])).set _ (by simp [causeWord])).set _
    (by simp [causeWord])).set _ (by simp [causeWord])

theorem writeCause_pw (c : ResetCause) (s : State) : (writeCause c s).pw = s.pw := by
  unfold writeCause; dsimp only; split <;> rfl

theorem writeCause_cause (c : ResetCause) (s : State) : (writeCause c s).get R.RST_CAUSE.CAUSE = c.code % 256 := by
  unfold writeCause State.setBit State.set64
  dsimp only
  split <;> simp (disch := decide) [State.get_set_of_ne] <;> rfl

theorem writeCause_prevCause (c : ResetCause) (s : State) : (writeCause c s).get R.RST_CAUSE.PREV_CAUSE = s.get R.RST_CAUSE.CAUSE := by
  unfold writeCause State.setBit State.set64
  dsimp only
  split <;> simp (disch := decide) [State.get_set_of_ne] <;> exact Nat.mod_eq_of_lt (s.get_lt R.RST_CAUSE.CAUSE)

theorem writeCause_tscValid (c : ResetCause) (s : State) : (writeCause c s).get R.RST_CAUSE.TSC_VALID = b2n c.tscValid := by
  unfold writeCause State.setBit State.set64
  dsimp only
  split <;> simp (disch := decide) [State.get_set_of_ne, *] <;> rfl

/-- The fields of the start counters (R76, R77). -/
def startFields : List Fld :=
  [R.START_STAT.FAILED_TOTAL, R.START_STAT.SLATE_REASON, R.START_STAT.SLATE, R.START_STAT.PENDING, R.START_STAT.FAILED_CONSEC, R.FAIL_CAUSES]

theorem failedStart_onlyRegs (c : Nat) (s : State) : OnlyRegs s (failedStart c s) startFields := by
  unfold failedStart
  extract_lets n a b
  have ha : OnlyRegs s a startFields := ((OnlyRegs.of_regs rfl _).set _ (by simp [startFields])).inc (by simp [startFields])
  have hb : OnlyRegs s b startFields := ha.set _ (by simp [startFields])
  split
  · exact (hb.set _ (by simp [startFields])).set _ (by simp [startFields])
  · exact hb

/-- After the cause, a record writes the start counters alone. -/
theorem recordCause_onlyRegs (c : ResetCause) (s : State) : OnlyRegs (writeCause c s) (recordCause c s) startFields := by
  unfold recordCause
  generalize writeCause c s = x
  dsimp only
  split
  · exact ((((OnlyRegs.of_regs rfl _).set 0 (by simp [startFields])).set 0 (by simp [startFields])).set 0 (by simp [startFields])).set 0
      (by simp [startFields])
  · split
    · exact .of_regs rfl _
    · split
      · split
        · exact .of_regs rfl _
        · exact failedStart_onlyRegs _ _
      · exact (OnlyRegs.of_regs rfl _).set 0 (by simp [startFields])

theorem recordCause_cause (c : ResetCause) (s : State) : (recordCause c s).get R.RST_CAUSE.CAUSE = c.code % 256 :=
  (recordCause_onlyRegs c s _ (by decide)).trans (writeCause_cause c s)

theorem recordCause_prevCause (c : ResetCause) (s : State) : (recordCause c s).get R.RST_CAUSE.PREV_CAUSE = s.get R.RST_CAUSE.CAUSE :=
  (recordCause_onlyRegs c s _ (by decide)).trans (writeCause_prevCause c s)

/-- The state without what the record of a reset writes: registers, their counts, and the stage of a failed start (R75). -/
def State.unrecorded (s : State) : State := { s with regs := [], cyc := {}, pw := { s.pw with failStage := 0 } }

@[simp] theorem State.set_unrecorded (s : State) (f : Fld) (v : Nat) : (s.set f v).unrecorded = s.unrecorded := rfl
@[simp] theorem State.inc_unrecorded (s : State) (f : Fld) : (s.inc f).unrecorded = s.unrecorded := rfl
@[simp] theorem leaveSlate_unrecorded (s : State) : (leaveSlate s).unrecorded = s.unrecorded := rfl
@[simp] theorem State.failStage_unrecorded (s : State) (f : Power → Nat) :
    (s.modPw fun p => { p with failStage := f p }).unrecorded = s.unrecorded := rfl

@[simp] theorem writeCause_unrecorded (c : ResetCause) (s : State) : (writeCause c s).unrecorded = s.unrecorded := by
  unfold writeCause; dsimp only; split <;> rfl

@[simp] theorem failedStart_unrecorded (c : Nat) (s : State) : (failedStart c s).unrecorded = s.unrecorded := by
  unfold failedStart; dsimp only; split <;> simp

theorem recordCause_unrecorded (c : ResetCause) (s : State) : (recordCause c s).unrecorded = s.unrecorded := by
  unfold recordCause; dsimp only; split_ifs <;> simp

/-- A field that a record leaves. -/
theorem recordCause_field {α : Type} (g : State → α) (hg : ∀ x : State, g x.unrecorded = g x) (c : ResetCause) (s : State) :
    g (recordCause c s) = g s := by
  rw [← hg, recordCause_unrecorded, hg]

theorem recordCause_pw (c : ResetCause) (s : State) : ∃ k, (recordCause c s).pw = { s.pw with failStage := k } :=
  ⟨(recordCause c s).pw.failStage, congrArg (fun p : Power => { p with failStage := (recordCause c s).pw.failStage })
    (recordCause_field (fun x => { x.pw with failStage := 0 }) (fun _ => rfl) c s)⟩

/-! ### What a reset clears, R15 -/

/-- Counters whose programming is broken off take values between; nothing else moves but the count of free values. -/
theorem breakCounters_eq (s : State) :
    ∃ k t, breakCounters s = { s with freeCount := k, sec := { s.sec with counters := t } } := by
  unfold breakCounters
  generalize s.sec.counting = l
  induction l generalizing s with
  | nil => exact ⟨_, _, rfl⟩
  | cons c l ih =>
    rw [State.each_cons]
    obtain ⟨k, t, h⟩ := ih _
    exact ⟨k, t, h⟩

theorem clearState_regs (s : State) : (clearState s).regs = s.regs.filter fun e => keepsKey e.1 := by
  obtain ⟨k, t, h⟩ := breakCounters_eq s
  simp only [clearState, h]

theorem clearState_get {f : Fld} (h : keepsKey f.key = true) (s : State) : (clearState s).get f = s.get f := by
  rw [State.get_of_filter (clearState_regs s), if_pos h]

/-- What is left of the power chapter: pins, straps, PWREN, the device state, and what outlives a start. -/
theorem clearState_pw (s : State) :
    (clearState s).pw =
      { state := s.pw.state, vka := s.pw.vka, prsnt := s.pw.prsnt, nEject := s.pw.nEject, nReset := s.pw.nReset, pwren := s.pw.pwren,
        straps := s.pw.straps, vio := s.pw.vio, taken := s.pw.taken, pwrenRose := s.pw.pwrenRose, cycled := s.pw.cycled,
        failStage := s.pw.failStage, tap := s.pw.tap } := by
  obtain ⟨k, t, h⟩ := breakCounters_eq s
  simp only [clearState, h]

@[simp] theorem clearState_lanes (s : State) : (clearState s).lanes = [] := rfl
@[simp] theorem clearState_ts (s : State) : (clearState s).ts = {} := rfl

@[simp] theorem clearState_pending (s : State) : (clearState s).pending = s.pending := by
  obtain ⟨k, t, h⟩ := breakCounters_eq s
  simp only [clearState, h]

@[simp] theorem clearState_mram (s : State) : (clearState s).mram = s.mram := by
  obtain ⟨k, t, h⟩ := breakCounters_eq s
  simp only [clearState, h]

@[simp] theorem clearState_store (s : State) : (clearState s).store = s.store := by
  obtain ⟨k, t, h⟩ := breakCounters_eq s
  simp only [clearState, h]

@[simp] theorem clearState_slotState (s : State) : (clearState s).sec.slotState = s.sec.slotState := by
  obtain ⟨k, t, h⟩ := breakCounters_eq s
  simp only [clearState, h, Sec.kept]

/-! ### Standby and Cold hold -/

@[simp] theorem enterColdHold_regs (s : State) : (enterColdHold s).regs = s.regs := by unfold enterColdHold; dsimp only; split <;> rfl
@[simp] theorem enterColdHold_lanes (s : State) : (enterColdHold s).lanes = s.lanes := by unfold enterColdHold; dsimp only; split <;> rfl
@[simp] theorem enterColdHold_ts (s : State) : (enterColdHold s).ts = s.ts := by unfold enterColdHold; dsimp only; split <;> rfl
@[simp] theorem enterColdHold_pending (s : State) : (enterColdHold s).pending = s.pending := by
  unfold enterColdHold; dsimp only; split <;> rfl
@[simp] theorem enterColdHold_pw (s : State) :
    (enterColdHold s).pw =
      { s.pw with state := .coldHold, pwrenRose := false, railGood := false, coldHold := s.pw.nReset, ch := {}, stage := 1 } := by
  unfold enterColdHold; dsimp only; split <;> rfl

/-- Where PWREN has risen, Cold hold counts a power cycle (R127). -/
theorem enterColdHold_of_rose {s : State} (h : s.pw.pwrenRose = true) :
    enterColdHold s =
      { s with
        mram := { s.mram with pwrCycles := min 0xFFFFFFFF (s.mram.pwrCycles + 1) }
        pw := { s.pw with state := .coldHold, pwrenRose := false, railGood := false, coldHold := s.pw.nReset, ch := {}, stage := 1 } } := by
  have hsat : satAdd 0xFFFFFFFF s.mram.pwrCycles 1 = min 0xFFFFFFFF (s.mram.pwrCycles + 1) := by
    unfold satAdd; split <;> omega
  simp only [enterColdHold, h, if_true, hsat]
  rfl

/-! ### The saves before a reset -/

/-- A report leaves the power chapter but for the device state. -/
theorem Reported.pw {s t : State} (h : Reported s t) : t.pw = { s.pw with state := t.pw.state } :=
  congrArg (fun p : Power => { p with state := t.pw.state }) (h.field (fun x => { x.pw with state := .off }) fun _ => rfl)

theorem endRecord_reported (s : State) : Reported s (endRecord s) := by
  unfold endRecord
  split
  · exact .refl s
  · rename_i i r _
    dsimp only
    refine Reported.trans ?_ (report_reported _ _)
    refine Reported.trans ?_ (flush_reported _ _)
    have hslot : ∀ x, Reported s (s.setSlot i x) := fun _ => .of rfl rfl rfl
    exact ((hslot _).trans (State.set_reported _ _ _)).trans (.of rfl rfl rfl)

theorem flushAll_reported (s : State) : Reported s (flushAll s) :=
  ((flush_reported true s).trans (flush_reported false _)).trans (report_reported _ _)

theorem saveOpsec_pw (s : State) : (saveOpsec s).pw = s.pw := by unfold saveOpsec; dsimp only; split <;> rfl
theorem saveOpsec_pending (s : State) : (saveOpsec s).pending = s.pending := by unfold saveOpsec; dsimp only; split <;> rfl

theorem startSave_pw (n : Nat) (s : State) : (startSave n s).pw = s.pw := by
  unfold startSave; split <;> [split; skip] <;> rfl
theorem startSave_pending (n : Nat) (s : State) : (startSave n s).pending = s.pending := by
  unfold startSave; split <;> [split; skip] <;> rfl

/-- A save round that is ended or begun leaves the power chapter and the queue. -/
theorem saveAll_pw_pending (s : State) : (saveAll s).pw = s.pw ∧ (saveAll s).pending = s.pending := by
  refine State.each_keeps (P := fun x => x.pw = s.pw ∧ x.pending = s.pending) ⟨rfl, rfl⟩ fun n _ x h => ?_
  have hend : ∀ y : State, y.pw = s.pw ∧ y.pending = s.pending →
      (match y.saving with | some (m, _, l) => endSave m l y | none => y).pw = s.pw
        ∧ (match y.saving with | some (m, _, l) => endSave m l y | none => y).pending = s.pending := by
    intro y hy
    split <;> exact hy
  refine hend _ ⟨?_, ?_⟩
  · rw [startSave_pw]; exact (hend x h).1
  · rw [startSave_pending]; exact (hend x h).2

/-- The saves before a reset leave the queue, and the power chapter but for the device state, which a report may change. -/
theorem saveBefore_pw (c : Nat) (s : State) :
    (∃ d, (saveBefore c s).pw = { s.pw with state := d }) ∧ (saveBefore c s).pending = s.pending := by
  unfold saveBefore
  extract_lets e a b
  have ha : Reported s a := .ite (endRecord_reported s) (.refl s)
  have hb : Reported s b := .ite (ha.trans (flushAll_reported a)) ha
  split
  · obtain ⟨hpw, hpending⟩ := saveAll_pw_pending (saveOpsec b)
    exact ⟨⟨_, (hpw.trans (saveOpsec_pw b)).trans hb.pw⟩, (hpending.trans (saveOpsec_pending b)).trans hb.kept.pending⟩
  · exact ⟨⟨_, hb.pw⟩, hb.kept.pending⟩

/-- A cause that completes no record and makes no save (R64), without an ejection under way. -/
theorem saveBefore_eq_self {c : Nat} {s : State} (hc : c = 2 ∨ c = 8) (h : s.pw.ejecting = false) : saveBefore c s = s := by
  rcases hc with rfl | rfl <;> simp [saveBefore, completesRecord, h]

/-! ### The reset that is taken, R61 -/

/-- A reset for a cause drops PWREN (R61, R86). -/
def State.dropsFor (s : State) (code : Nat) : Bool := dropsPwren code || s.pw.pgoodLoss || s.pw.ejecting

theorem State.dropsFor_eq {s : State} (hloss : s.pw.pgoodLoss = false) (heject : s.pw.ejecting = false) (code : Nat) :
    s.dropsFor code = dropsPwren code := by simp [State.dropsFor, hloss, heject]

/-- The end of a reset for cause `c`: the record, then the cleared state in Standby or Cold hold. -/
def endReset (c : ResetCause) (drop : Bool) (s : State) : State :=
  let x := (clearState (recordCause c s)).modPw fun p =>
    { p with taken := some ⟨c, causeFields.map s.get, s.pw.stage, s.pw.failStage, s.pw.slateStart⟩ }
  if drop then enterStandby x else enterColdHold x

theorem takeReset_of_cause {s : State} {c : ResetCause} (h : s.pw.cause = some c) :
    takeReset s = endReset c (s.dropsFor c.code) (saveBefore c.code s) := by
  simp only [takeReset, h]; rfl

/-- What the end of a reset leaves of the power chapter, and what it clears. -/
structure ResetEnded (s : State) (code : Nat) (drop : Bool) (t : State) : Prop where
  state : t.pw.state = if drop then .standby else .coldHold
  pwren : t.pw.pwren = (!drop && s.pw.pwren)
  prsnt : t.pw.prsnt = s.pw.prsnt
  nReset : t.pw.nReset = s.pw.nReset
  cause : t.pw.cause = none
  ejecting : t.pw.ejecting = false
  lanes : t.lanes = []
  ts : t.ts = {}
  pending : t.pending = s.pending
  code : t.get R.RST_CAUSE.CAUSE = code % 256

theorem endReset_ended (c : ResetCause) (drop : Bool) (s : State) : ResetEnded s c.code drop (endReset c drop s) := by
  have hget : ∀ t : State, t.regs = (clearState (recordCause c s)).regs → t.get R.RST_CAUSE.CAUSE = c.code % 256 := fun t ht => by
    rw [State.get_of_regs ht, clearState_get (by decide), recordCause_cause]
  have hpending := recordCause_field State.pending (fun _ => rfl) c s
  obtain ⟨k, hpw⟩ := recordCause_pw c s
  cases drop
  · constructor <;> simp [endReset, clearState_pw, hpw, hpending, hget]
  · constructor <;> simp [endReset, enterStandby, clearState_pw, hpw, hpending, hget]

theorem takeReset_ended {s : State} {c : ResetCause} (h : s.pw.cause = some c) :
    ResetEnded s c.code (s.dropsFor c.code) (takeReset s) := by
  rw [takeReset_of_cause h]
  obtain ⟨⟨d, hpw⟩, hpending⟩ := saveBefore_pw c.code s
  have hend := endReset_ended c (s.dropsFor c.code) (saveBefore c.code s)
  exact { hend with
    pwren := by rw [hend.pwren, hpw]
    prsnt := by rw [hend.prsnt, hpw]
    nReset := by rw [hend.nReset, hpw]
    pending := by rw [hend.pending, hpending] }

/-! ### Causes that are latched, R62 -/

/-- The cause that a core cycle latches. -/
def State.causeOf (s : State) (code low : Nat) : ResetCause := ⟨code, s.ts.tsc, s.tscValid code, low, s.cmCycle⟩

/-- Cause `c` is latched. -/
def withCause (c : ResetCause) (s : State) : State := s.modPw fun p => { p with cause := some c }

@[simp] theorem withCause_pw (c : ResetCause) (s : State) : (withCause c s).pw = { s.pw with cause := some c } := rfl

/-- Where no cause waits and no reset was taken in this clock-monitor cycle, the cause is latched. -/
theorem latch_fresh {s : State} (hc : s.pw.cause = none) (hf : s.freshCycle = true) (code low : Nat) :
    latch code low s = withCause (s.causeOf code low) s := by
  unfold latch
  rw [hc]
  cases ht : s.pw.taken with
  | none => rfl
  | some t =>
    have : t.cause.cyc ≠ s.cmCycle := by simpa [State.freshCycle, ht] using hf
    simp [this, withCause, State.causeOf]

theorem latch_noReset {s : State} (h : s.noReset = true) (code low : Nat) : latch code low s = withCause (s.causeOf code low) s := by
  obtain ⟨hc, hf⟩ : s.pw.cause = none ∧ s.freshCycle = true := by simpa [State.noReset] using h
  exact latch_fresh hc hf code low

/-- A reset whose cause is latched and taken at once. -/
theorem takeReset_latch {s : State} (h : s.noReset = true) (code low : Nat) :
    ResetEnded s code (s.dropsFor code) (takeReset (latch code low s)) := by
  rw [latch_noReset h]
  have hend := takeReset_ended (s := withCause (s.causeOf code low) s) (c := s.causeOf code low) rfl
  exact { hend with pwren := hend.pwren, prsnt := hend.prsnt, nReset := hend.nReset, pending := hend.pending }

/-- A reset of cause 2 or 8 makes no save: the cause before it moves into PREV_CAUSE (R63), and MRAM stands where PWREN drops. -/
theorem takeReset_latch_unsaved {s : State} (h : s.noReset = true) {code : Nat} (hc : code = 2 ∨ code = 8) (he : s.pw.ejecting = false)
    (low : Nat) :
    (takeReset (latch code low s)).get R.RST_CAUSE.PREV_CAUSE = s.get R.RST_CAUSE.CAUSE % 256
      ∧ (s.dropsFor code = true → (takeReset (latch code low s)).mram = s.mram) := by
  let c := s.causeOf code low
  let x := withCause c s
  have hprev : ∀ t : State, t.regs = (clearState (recordCause c x)).regs → t.get R.RST_CAUSE.PREV_CAUSE = s.get R.RST_CAUSE.CAUSE % 256 := by
    intro t ht
    rw [State.get_of_regs ht, clearState_get (by decide), recordCause_prevCause]
    exact (Nat.mod_eq_of_lt (s.get_lt R.RST_CAUSE.CAUSE)).symm
  have hmram := recordCause_field State.mram (fun _ => rfl) c x
  have heq : takeReset (latch code low s) = endReset c (s.dropsFor code) x := by
    rw [latch_noReset h, takeReset_of_cause (s := x) (c := c) rfl]
    exact congrArg (endReset c (s.dropsFor code)) (saveBefore_eq_self hc he)
  rw [heq]
  cases hd : s.dropsFor code
  · exact ⟨hprev _ (enterColdHold_regs _), nofun⟩
  · exact ⟨hprev _ rfl, fun _ => (clearState_mram _).trans hmram⟩

/-- A cause that comes after one of an earlier clock-monitor cycle sets SECOND. -/
theorem latch_second {s : State} {d : ResetCause} (hc : s.pw.cause = some d) (hd : d.cyc ≠ s.cmCycle) (code low : Nat) :
    latch code low s = second s := by
  unfold latch
  rw [hc]
  have : ¬ d.cyc = (second s).cmCycle := hd
  simp [this]

/-- Outside a cycle in which a reset was taken, a cause waits after a latch. -/
theorem latch_waits {s : State} (hf : s.freshCycle = true) (code low : Nat) : ∃ c, (latch code low s).pw.cause = some c := by
  cases hc : s.pw.cause with
  | none => rw [latch_fresh hc hf]; exact ⟨_, rfl⟩
  | some d =>
    unfold latch
    rw [hc]
    dsimp only
    split
    · exact ⟨_, rfl⟩
    · exact ⟨d, hc⟩

/-! ### Lanes at a reset, R55 and R64 -/

theorem safeGenerator_pw (s : State) : (safeGenerator s).pw = s.pw := by
  unfold safeGenerator
  split
  · refine State.each_keeps (P := fun x => x.pw = s.pw) rfl fun n _ x h => ?_
    split <;> exact h
  · rfl

/-- STATE of no lane says whether a lane is enabled. -/
theorem State.laneEn_set_state (s : State) (m v n : Nat) : (s.set (R.LN_STAT.STATE m) v).laneEn n = s.laneEn n := by
  have hen : (R.LN_STAT.STATE m).key ≠ (R.LN_CTRL.EN n).key := by simp only [Fld.key, R.LN_STAT.STATE, R.LN_CTRL.EN]; omega
  have hpad : (R.LN_STAT.STATE m).key ≠ (R.LN_STAT.RX_PAD n).key := by simp only [Fld.key, R.LN_STAT.STATE, R.LN_STAT.RX_PAD]; omega
  simp only [State.laneEn, State.bit_set_of_ne s v hen, State.get_set_of_ne s v hpad, State.set_sec]

theorem State.link_modLink (s : State) (m n : Nat) (f : LinkSt → LinkSt) :
    (s.modLink m f).link n = if m = n then f (s.link m) else s.link n := Tab.get_modify ..

/-- Lane `n` sends Black sets from the safe-state generator, and no urgent set waits (R55). -/
def State.onSafeGenerator (s : State) (n : Nat) : Prop := s.get (R.LN_STAT.STATE n) = 1 ∧ (s.link n).urgQ = []

/-- One lane is switched to the safe-state generator. -/
def toSafeGenerator (n : Nat) (s : State) : State := (s.set (R.LN_STAT.STATE n) 1).modLink n (fun l => { l with urgQ := [], edges := [] })

theorem toSafeGenerator_lane (n : Nat) (s : State) : (toSafeGenerator n s).onSafeGenerator n :=
  ⟨State.get_set_self s (R.LN_STAT.STATE n) 1, by simp [toSafeGenerator, State.link_modLink]⟩

theorem toSafeGenerator_other {m n : Nat} (hm : m ≠ n) {s : State} (h : s.onSafeGenerator n) : (toSafeGenerator m s).onSafeGenerator n := by
  obtain ⟨hstate, hq⟩ := h
  have hkey : (R.LN_STAT.STATE m).key ≠ (R.LN_STAT.STATE n).key := by simp only [Fld.key, R.LN_STAT.STATE]; omega
  refine ⟨(s.get_set_of_ne 1 hkey).trans hstate, ?_⟩
  rw [toSafeGenerator, State.link_modLink, if_neg hm]
  exact hq

theorem safeGenerator_of_locked {s : State} (hlock : s.bit R.CLK_STAT.LOCK_C = true)
    (hstate : s.inState [.boot, .slate, .configure, .armed, .run, .safe] = true) :
    safeGenerator s = s.each lanes64 (fun n x => if x.laneEn n then toSafeGenerator n x else x) := if_pos ⟨hlock, hstate⟩

theorem safeGenerator_lane {s : State} {n : Nat} (hlock : s.bit R.CLK_STAT.LOCK_C = true)
    (hstate : s.inState [.boot, .slate, .configure, .armed, .run, .safe] = true) (hn : n < 64) (hen : s.laneEn n = true) :
    (safeGenerator s).onSafeGenerator n := by
  rw [safeGenerator_of_locked hlock hstate]
  refine State.each_reaches (P := fun x => x.laneEn n = true) (Q := fun x => x.onSafeGenerator n) (n := n) (List.mem_range.2 hn) hen
    ?stays ?taken ?kept
  case stays =>
    intro m x hx
    split
    · exact (x.laneEn_set_state m 1 n).trans hx
    · exact hx
  case taken =>
    intro x hx
    rw [if_pos hx]
    exact toSafeGenerator_lane n x
  case kept =>
    intro m x hx
    split
    · by_cases hm : m = n
      · exact hm ▸ toSafeGenerator_lane m x
      · exact toSafeGenerator_other hm hx
    · exact hx

theorem requestUrgent_regs_pw (n : Nat) (u : Urgent) (s : State) :
    (requestUrgent n u s).regs = s.regs ∧ (requestUrgent n u s).pw = s.pw := by
  unfold requestUrgent
  split <;> exact ⟨rfl, rfl⟩

theorem blackLanes_regs_pw (s : State) : (blackLanes s).regs = s.regs ∧ (blackLanes s).pw = s.pw := by
  unfold blackLanes
  split
  · refine State.each_keeps (P := fun x => x.regs = s.regs ∧ x.pw = s.pw) ⟨rfl, rfl⟩ fun n _ x ⟨hr, hp⟩ => ?_
    obtain ⟨hr', hp'⟩ := requestUrgent_regs_pw n .black x
    exact ⟨hr'.trans hr, hp'.trans hp⟩
  · exact ⟨rfl, rfl⟩

/-- A lane in UP is left with the one Black set (R64; log 76). -/
theorem blackLanes_urgQ {s : State} {n : Nat} (hlock : s.bit R.CLK_STAT.LOCK_C = true) (hn : n < 64) (hup : s.up n = true) :
    ((blackLanes s).link n).urgQ = [.black] := by
  unfold blackLanes
  rw [if_pos hlock]
  refine State.each_reaches (P := fun x => x.up n = true) (Q := fun x => (x.link n).urgQ = [.black]) (n := n) (List.mem_range.2 hn) hup
    ?stays ?asked ?kept
  case stays =>
    intro m x hx
    simpa [State.up, State.get_of_regs (requestUrgent_regs_pw m .black x).1] using hx
  case asked =>
    intro x hx
    simp [requestUrgent, hx, State.link_modLink]
  case kept =>
    intro m x hx
    unfold requestUrgent
    split
    · rw [State.link_modLink]
      split
      · rfl
      · exact hx
    · exact hx

end Sys2Proof.Machine
end

section
/-!
PROOFS. The keep-alive registers and the device state while lanes come up: what a report to the collector leaves of them outside Armed and Run.
-/
namespace Sys2Proof.Machine

/-! ### The keep-alive registers and the power chapter -/

/-- A field of a word below the keep-alive registers of R67, which begin at 0x100F00. -/
abbrev Fld.Low (f : Fld) : Prop := f.key < 0x100F00 * 32

theorem vkaKey_of_low {f : Fld} (h : f.Low) : vkaKey f.key = false := by
  simp only [Fld.Low] at h
  simp only [vkaKey, Bool.or_eq_false_iff, Bool.and_eq_false_iff, decide_eq_false_iff_not]
  omega

/-- `t` has the power chapter of `s` and the registers of its keep-alive domain (R57). -/
structure PowerKept (s t : State) : Prop where
  pw : t.pw = s.pw
  keepAlive : ∀ f : Fld, vkaKey f.key = true → t.get f = s.get f

theorem PowerKept.refl (s : State) : PowerKept s s := ⟨rfl, fun _ _ => rfl⟩

section
variable {s0 s t : State}

/-- An update beside the power chapter and the registers. -/
theorem PowerKept.congr (h : PowerKept s0 s) (hp : t.pw = s.pw) (hr : t.regs = s.regs) : PowerKept s0 t :=
  ⟨hp.trans h.pw, fun f hf => (State.get_of_regs hr f).trans (h.keepAlive f hf)⟩

theorem PowerKept.set {f : Fld} (h : PowerKept s0 s) (hf : f.Low) (v : Nat) : PowerKept s0 (s.set f v) := by
  refine ⟨h.pw, fun g hg => ?_⟩
  have hne : f.key ≠ g.key := fun e => by simp [← e, vkaKey_of_low hf] at hg
  rw [State.get_set_of_ne s v hne, h.keepAlive g hg]

theorem PowerKept.inc {f : Fld} (h : PowerKept s0 s) (hf : f.Low) : PowerKept s0 (s.inc f) := (h.set hf _).congr rfl rfl

theorem PowerKept.set64 {lo hi : Fld} (h : PowerKept s0 s) (hlo : lo.Low) (hhi : hi.Low) (v : Nat) : PowerKept s0 (s.set64 lo hi v) :=
  (h.set hlo v).set hhi _

theorem PowerKept.ite {c : Prop} [Decidable c] (ha : PowerKept s0 s) (hb : PowerKept s0 t) : PowerKept s0 (if c then s else t) := by
  split <;> assumption

theorem PowerKept.modCyc (h : PowerKept s0 s) (f : CoreCycle → CoreCycle) : PowerKept s0 (s.modCyc f) := h.congr rfl rfl
theorem PowerKept.noteSet (h : PowerKept s0 s) (f : Fld) : PowerKept s0 (s.noteSet f) := h.modCyc _

theorem PowerKept.each {α : Type} {l : List α} {f : α → State → State} (h : PowerKept s0 s)
    (hf : ∀ a ∈ l, ∀ x, PowerKept s0 x → PowerKept s0 (f a x)) : PowerKept s0 (s.each l f) := State.each_keeps h hf

/-- A state with reports that are still to be taken, each of a block of R434. -/
structure ReportsKept (s0 : State) (p : State × List ReportArg) : Prop where
  kept : PowerKept s0 p.1
  blocks : ∀ r ∈ p.2, r.block ≤ 16

theorem ReportsKept.none (h : PowerKept s0 s) : ReportsKept s0 (s, []) := ⟨h, nofun⟩

theorem ReportsKept.one {r : ReportArg} (h : PowerKept s0 s) (hr : r.block ≤ 16) : ReportsKept s0 (s, [r]) :=
  ⟨h, fun _ hx => List.mem_singleton.1 hx ▸ hr⟩

theorem ReportsKept.ite {c : Prop} [Decidable c] {p q : State × List ReportArg} (hp : ReportsKept s0 p) (hq : ReportsKept s0 q) :
    ReportsKept s0 (if c then p else q) := by split <;> assumption

theorem ReportsKept.append {p : State × List ReportArg} {l : List ReportArg} (h : ReportsKept s0 p) (hl : ∀ r ∈ l, r.block ≤ 16) :
    ReportsKept s0 (p.1, l ++ p.2) :=
  ⟨h.kept, fun r hr => (List.mem_append.1 hr).elim (hl r) (h.blocks r)⟩

/-! ### Leaves, messages and records -/

/-- A source of a block of R434 whose leaf lies below the keep-alive registers. -/
structure Src.Low (r : Src) : Prop where
  block : r.block ≤ 16
  leaf : ∀ f, leafOf r = some f → f.Low

theorem Src.Low.of_leaf {r : Src} {f : Fld} (hb : r.block ≤ 16) (h : leafOf r = some f) (hf : f.Low) : r.Low :=
  ⟨hb, fun _ hg => Option.some.inj (h.symm.trans hg) ▸ hf⟩

theorem setLeaf_kept {f : Fld} {r : ReportArg} (h : PowerKept s0 s) (hf : f.Low) (hr : r.block ≤ 16) : ReportsKept s0 (setLeaf f r s) := by
  have hnote : PowerKept s0 (s.noteSet f) := h.congr rfl rfl
  unfold setLeaf
  dsimp only
  split
  · exact .one (hnote.set hf 1) hr
  · split
    · exact .one (hnote.congr rfl rfl) hr
    · exact .none (hnote.congr rfl rfl)

theorem raiseLeaf_kept {r : Src} (h : PowerKept s0 s) (hr : r.Low) : ReportsKept s0 (raiseLeaf r s) := by
  unfold raiseLeaf
  split
  · exact .one h hr.block
  · exact setLeaf_kept h (hr.leaf _ ‹_›) hr.block

theorem dropMsg_kept (h : PowerKept s0 s) : ReportsKept s0 (dropMsg s) :=
  raiseLeaf_kept (h.inc (by decide)) (.of_leaf (by decide) rfl (by decide))

theorem sendTo_kept (h : PowerKept s0 s) (typ chan dest : Nat) (b : List Byte) : ReportsKept s0 (sendTo typ chan dest b s) := by
  simp only [sendTo]
  split
  · exact .none (h.congr rfl rfl)
  · split
    · exact .none (h.congr rfl rfl)
    · exact dropMsg_kept (h.congr rfl rfl)

theorem lostField_low (p : Nat) : (lostField p).Low := by unfold lostField; split_ifs <;> decide
theorem pendField_low (f : Bool) : (pendField f).Low := by cases f <;> decide

theorem enqueue_kept (h : PowerKept s0 s) (r : Rec) : ReportsKept s0 (enqueue r s) := by
  unfold enqueue
  split
  · exact raiseLeaf_kept (h.inc (lostField_low _)) (.of_leaf (by show 15 ≤ 16; decide) rfl (by decide))
  · exact .none (h.congr rfl rfl)

theorem flush_kept (h : PowerKept s0 s) (f : Bool) : ReportsKept s0 (flush f s) := by
  simp only [flush]
  split
  · exact .none h
  · split
    · have hset := h.set (pendField_low f) 0
      split
      · exact .none (hset.congr rfl rfl)
      · refine enqueue_kept ?_ _
        exact hset.congr rfl rfl
    · exact .none h

theorem settle_kept (h : PowerKept s0 s) (f : Bool) : ReportsKept s0 (settle f s) := by
  simp only [settle]
  split
  · exact .none h
  · split
    · have hflush := flush_kept h f
      exact ⟨hflush.kept.set (pendField_low f) 0, hflush.blocks⟩
    · exact .none ((h.set (pendField_low f) 0).congr rfl rfl)

theorem post_kept (h : PowerKept s0 s) (r : Rec) : ReportsKept s0 (post r s) := by
  unfold post
  dsimp only
  split
  · have hsettle : ReportsKept s0 (if s.pendKey (faultRegion r) = r.key then (s, []) else settle (faultRegion r) s) := by
      split
      · exact .none h
      · exact settle_kept h _
    exact ⟨(hsettle.kept.inc (pendField_low _)).congr rfl rfl, hsettle.blocks⟩
  · refine enqueue_kept ?_ r
    exact .ite h (h.congr rfl rfl)

theorem postEmcy_kept (h : PowerKept s0 s) (origin b i inst info tsc : Nat) : ReportsKept s0 (postEmcy origin b i inst info tsc s) := by
  unfold postEmcy
  dsimp only
  split
  · exact raiseLeaf_kept h (.of_leaf (by decide) rfl (by decide))
  · exact .none (h.congr rfl rfl)

/-! ### First causes and windows -/

theorem groupFirst_kept (h : PowerKept s0 s) (loc : Bool) (origin source gt : Nat) : PowerKept s0 (groupFirst loc origin source gt s) := by
  have hearlier : (R.FC_FIRST.EARLIER_REMOTE (s.get R.FC_GRP_INFO.SOURCE / 16)).Low := by
    have : s.get R.FC_GRP_INFO.SOURCE < 256 := s.get_lt R.FC_GRP_INFO.SOURCE
    simp only [Fld.Low, Fld.key, R.FC_FIRST.EARLIER_REMOTE]
    omega
  have hnote : PowerKept s0 (s.noteSet R.FC_GRP_INFO.VALID) := h.congr rfl rfl
  unfold groupFirst
  refine .ite ?_ h
  have hinfo := PowerKept.ite (c := !(!s.bit R.FC_GRP_INFO.VALID) && !loc && (s.noteSet R.FC_GRP_INFO.VALID).bit R.FC_GRP_INFO.LOCAL)
    (hnote.set hearlier 1) hnote
  exact ((((hinfo.set (by decide) _).set (by decide) _).set (by decide) _).set (by decide) _).set64 (by decide) (by decide) _

theorem window_low {w : Nat} (hw : w ≤ 8) :
    (R.FC_WIN.OPEN w).Low ∧ (R.FC_WIN.CLASS w).Low ∧ (R.FC_WIN.FIRST_BLOCK w).Low ∧ (R.FC_WIN.CONSEQ w).Low := by
  simp only [Fld.Low, Fld.key, R.FC_WIN.OPEN, R.FC_WIN.CLASS, R.FC_WIN.FIRST_BLOCK, R.FC_WIN.CONSEQ]
  omega

theorem openWin_kept {w : Nat} (h : PowerKept s0 s) (hw : w ≤ 8) (c b : Nat) : PowerKept s0 (openWin w c b s) := by
  obtain ⟨hopen, hclass, hblock, hconseq⟩ := window_low hw
  have hx : PowerKept s0 (if s.winOpen w then s else s.set (R.FC_WIN.CONSEQ w) 0) := .ite h (h.set hconseq 0)
  exact (((hx.set hopen 1).set hclass c).set hblock (b - 1)).congr rfl rfl

theorem State.scope_le (s : State) (r : ReportArg) : s.scope r ≤ 8 := by
  have hstring : (s.stringOf r.inst).getD 8 ≤ 8 := by
    cases ht : s.stringOf r.inst with
    | none => exact le_refl 8
    | some t => exact (List.mem_range.1 (List.mem_of_find?_eq_some ht)).le
  unfold State.scope
  split_ifs <;> omega

/-- The register words of the first cause of block `n + 1` (R440, R442, R458). -/
theorem firstCause_low {n : Nat} (hn : n < 16) :
    (R.FC_STAT.HELD n).Low ∧ (R.FC_LOST.LOST n).Low ∧ (R.FC_FIRST.SRC n).Low ∧ (R.FC_FIRST.INSTANCE n).Low ∧ (R.FC_FIRST.CLASS n).Low
      ∧ (R.FC_FIRST.SCOPE n).Low ∧ (R.FC_FIRST.OBSERVED n).Low ∧ (R.FC_FIRST.INJECTED n).Low ∧ (R.FC_FIRST.EARLIER_REMOTE n).Low
      ∧ (R.FC_FIRST_TSC_LO n).Low ∧ (R.FC_FIRST_TSC_HI n).Low := by
  simp only [Fld.Low, Fld.key, R.FC_STAT.HELD, R.FC_LOST.LOST, R.FC_FIRST.SRC, R.FC_FIRST.INSTANCE, R.FC_FIRST.CLASS, R.FC_FIRST.SCOPE,
    R.FC_FIRST.OBSERVED, R.FC_FIRST.INJECTED, R.FC_FIRST.EARLIER_REMOTE, R.FC_FIRST_TSC_LO, R.FC_FIRST_TSC_HI]
  omega

theorem fileRecord_kept {r : ReportArg} (h : PowerKept s0 s) (hr : r.block ≤ 16) (c : Nat) (obs inj : Bool) :
    PowerKept s0 (fileRecord r c obs inj s) := by
  obtain ⟨hheld, -, hsrc, hinst, hclass, hscope, hobs, hinj, hremote, hlo, hhi⟩ := firstCause_low (n := r.block - 1) (by omega)
  exact ((((((((h.set hheld 1).set hsrc _).set hinst _).set hclass c).set hscope _).set hobs _).set hinj _).set hremote 0).set64 hlo hhi _

theorem tellGroup_kept (h : PowerKept s0 s) (r : ReportArg) (c : Nat) (obs : Bool) : PowerKept s0 (tellGroup r c obs s) := by
  unfold tellGroup
  split
  · exact (groupFirst_kept h _ _ _ _).congr rfl rfl
  · exact h

theorem capture_kept {r : ReportArg} (h : PowerKept s0 s) (hr : r.block ≤ 16) (c : Nat) (obs inj : Bool) :
    ReportsKept s0 (capture r c obs inj s) := by
  have hx : PowerKept s0 ((tellGroup r c obs (fileRecord r c obs inj s)).modCyc fun x => { x with captured := r.block :: x.captured }) :=
    (tellGroup_kept (fileRecord_kept h hr c obs inj) r c obs).congr rfl rfl
  unfold capture
  generalize (tellGroup r c obs (fileRecord r c obs inj s)).modCyc (fun x => { x with captured := r.block :: x.captured }) = x at hx
  dsimp only
  have hpost := post_kept hx
  split
  · split
    · exact (postEmcy_kept (hpost _).kept ..).append (hpost _).blocks
    · exact hpost _
  · exact (sendTo_kept (hpost _).kept ..).append (hpost _).blocks

theorem reheld_kept {b : Nat} (h : PowerKept s0 s) (hb : b ≤ 16) : PowerKept s0 (reheld b s) := by
  obtain ⟨hheld, -⟩ := firstCause_low (n := b - 1) (by omega)
  have hx : PowerKept s0 (if s.cyc.errReset then { s with net := { s.net with emcy := s.net.emcy.dropLast } } else s) :=
    .ite (h.congr rfl rfl) h
  exact (hx.set hheld 1).congr rfl rfl

theorem lostCount_low {b : Nat} (hb : b ≤ 16) : (R.FC_LOSTCNT b).Low := by
  simp only [Fld.Low, Fld.key, R.FC_LOSTCNT]
  omega

theorem keepReport_kept {r : ReportArg} (h : PowerKept s0 s) (hr : r.block ≤ 16) (c : Nat) : ReportsKept s0 (keepReport r c s) := by
  obtain ⟨-, hlost, -⟩ := firstCause_low (n := r.block - 1) (by omega)
  unfold keepReport
  extract_lets n freed x held replace
  have hx : PowerKept s0 x := (PowerKept.ite (reheld_kept h hr) h).modCyc _
  exact .ite (capture_kept hx hr _ _ _) (.none (((hx.noteSet _).set hlost 1).inc (lostCount_low hr)))

theorem judgeReport_kept {r : ReportArg} {w : Nat} (h : PowerKept s0 s) (hr : r.block ≤ 16) (hw : w ≤ 8) (c : Nat) :
    ReportsKept s0 (judgeReport r c w s) := by
  have hkeep := keepReport_kept h hr c
  unfold judgeReport
  dsimp only
  have hopen : ∀ (q : Bool), PowerKept s0 (if q then openWin w c r.block (keepReport r c s).1 else (keepReport r c s).1) := fun _ =>
    .ite (openWin_kept hkeep.kept hw c _) hkeep.kept
  exact ⟨.ite (openWin_kept (hopen _) (le_refl 8) c _) (hopen _), hkeep.blocks⟩

theorem joinReport_kept {r : ReportArg} (h : PowerKept s0 s) (hr : r.block ≤ 16) : PowerKept s0 (joinReport r s) := by
  obtain ⟨-, -, -, -, -, -, hobs, hinj, -⟩ := firstCause_low (n := r.block - 1) (by omega)
  have hx : PowerKept s0 (if r.injected then s.set (R.FC_FIRST.INJECTED (r.block - 1)) 1 else s) := .ite (h.set hinj 1) h
  unfold joinReport
  exact .ite (.ite (hx.set hobs 1) hx) h

/-! ### Reports outside Armed and Run -/

theorem lane_lt {n : Nat} (h : n ∈ lanes64) : n < 64 := List.mem_range.1 h

theorem parkCells_kept (h : PowerKept s0 s) : PowerKept s0 (parkCells s) := by
  have hx := h.each (l := List.range 8) (f := fun t s => s.modStr t (fun x => { x with short := false, low := false }))
    fun t _ x hx => hx.congr rfl rfl
  refine hx.each fun n hn x hx => ?_
  have hlow : (R.BC_STAT.STATE n).Low := by
    have := lane_lt hn
    simp only [Fld.Low, Fld.key, R.BC_STAT.STATE]
    omega
  exact .ite ((hx.set hlow 1).congr rfl rfl) hx

/-- A Black report enters Safe from Armed and Run alone (R447); elsewhere the power chapter stands. -/
theorem blackActions_kept (hs : s0.inState [.armed, .run] = false) (h : PowerKept s0 s) : ReportsKept s0 (blackActions s) := by
  have hs' : s.inState [.armed, .run] = false := by rw [← hs, State.inState, State.inState, h.pw]
  have hblack : PowerKept s0 ((parkCells s).each lanes64 fun n s => requestUrgent n .black s) := by
    refine (parkCells_kept h).each fun n _ x hx => ?_
    obtain ⟨hregs, hpw⟩ := requestUrgent_regs_pw n .black x
    exact hx.congr hpw hregs
  unfold blackActions
  simp only [hs', Bool.false_eq_true, if_false]
  exact .none ((((hblack.set (by decide) 1).set (by decide) 1).set (by decide) 0).modCyc _)

theorem takeOne_kept {r : ReportArg} (hs : s0.inState [.armed, .run] = false) (h : PowerKept s0 s) (hr : r.block ≤ 16) :
    ReportsKept s0 (takeOne r s) := by
  have hw := s.scope_le r
  unfold takeOne
  extract_lets c w fc x consW
  have hx : PowerKept s0 x := h.congr rfl rfl
  obtain ⟨-, -, -, hconseq⟩ := window_low (w := if consW then w else 8) (by split <;> omega)
  generalize hq : (if x.joins r then (joinReport r x, [])
      else if consW || x.winHolds 8 c then (x.inc (R.FC_WIN.CONSEQ (if consW then w else 8)), []) else judgeReport r c w x) = p
  have hp : ReportsKept s0 p :=
    hq ▸ .ite (.none (joinReport_kept hx hr)) (.ite (.none (hx.inc hconseq)) (judgeReport_kept hx hr hw c))
  obtain ⟨y, l⟩ := p
  have htaken := hp.kept.modCyc fun z => { z with taken := r :: z.taken }
  dsimp only
  split
  · exact (blackActions_kept hs htaken).append hp.blocks
  · exact ⟨htaken, hp.blocks⟩

theorem takeAll_kept (hs : s0.inState [.armed, .run] = false) (k : Nat) {l : List ReportArg} (hl : ∀ r ∈ l, r.block ≤ 16)
    (h : PowerKept s0 s) : PowerKept s0 (takeAll k l s) := by
  induction k generalizing l s with
  | zero => exact h
  | succ k ih =>
    cases l with
    | nil => exact h
    | cons r rs =>
      have hone := takeOne_kept hs h (hl r List.mem_cons_self)
      refine ih (fun x hx => ?_) hone.kept
      rcases List.mem_append.1 hx with hx | hx
      · exact hl x (List.mem_cons_of_mem r hx)
      · exact hone.blocks x hx

theorem mem_insertReport {r x : ReportArg} {l : List ReportArg} (h : x ∈ insertReport s r l) : x = r ∨ x ∈ l := by
  induction l with
  | nil => exact .inl (List.mem_singleton.1 h)
  | cons y l ih =>
    rw [insertReport] at h
    split at h
    · exact List.mem_cons.1 h
    · rcases List.mem_cons.1 h with rfl | h
      · exact .inr List.mem_cons_self
      · exact (ih h).imp_right (List.mem_cons_of_mem y)

theorem mem_of_mem_foldr_insertReport {l : List ReportArg} {x : ReportArg} (h : x ∈ l.foldr (insertReport s) []) : x ∈ l := by
  induction l with
  | nil => exact h
  | cons r l ih =>
    rcases mem_insertReport h with rfl | h
    · exact List.mem_cons_self
    · exact List.mem_cons_of_mem r (ih h)

theorem report_kept (hs : s0.inState [.armed, .run] = false) {p : State × List ReportArg} (h : ReportsKept s0 p) :
    PowerKept s0 (report p.2 p.1) :=
  takeAll_kept hs _ (fun _ hx => h.blocks _ (mem_of_mem_foldr_insertReport hx)) h.kept

theorem raiseLeaves_kept {l : List Src} (h : PowerKept s0 s) (hl : ∀ r ∈ l, r.Low) : ReportsKept s0 (raiseLeaves l s) := by
  induction l generalizing s with
  | nil => exact .none h
  | cons r l ih =>
    have hone := raiseLeaf_kept h (hl r List.mem_cons_self)
    exact (ih hone.kept fun x hx => hl x (List.mem_cons_of_mem r hx)).append hone.blocks

/-- Outside Armed and Run the events of a core cycle leave the power chapter and the keep-alive registers. -/
theorem raiseAll_kept (hs : s0.inState [.armed, .run] = false) {l : List Src} (h : PowerKept s0 s) (hl : ∀ r ∈ l, r.Low) :
    PowerKept s0 (raiseAll l s) := report_kept hs (raiseLeaves_kept h hl)

theorem raise_kept (hs : s0.inState [.armed, .run] = false) {r : Src} (h : PowerKept s0 s) (hr : r.Low) : PowerKept s0 (raise r s) :=
  raiseAll_kept hs h fun _ hx => List.mem_singleton.1 hx ▸ hr

/-! ### Lanes that come up or go down -/

theorem checkStrings_kept (hs : s0.inState [.armed, .run] = false) (h : PowerKept s0 s) : PowerKept s0 (checkStrings s) := by
  refine h.each fun t ht x hx => ?_
  have ht8 : t < 8 := List.mem_range.1 ht
  refine raiseAll_kept hs (hx.congr rfl rfl) fun r hr => ?_
  have hshort : (Src.STR_STRING_SHORT t).Low :=
    .of_leaf (f := R.STR_CAUSE.STRING_SHORT t) (by show 8 ≤ 16; decide) rfl (by simp only [Fld.Low, Fld.key, R.STR_CAUSE.STRING_SHORT]; omega)
  have hlow : (Src.STR_RESERVE_LOW t).Low :=
    .of_leaf (f := R.STR_CAUSE.RESERVE_LOW t) (by show 8 ≤ 16; decide) rfl (by simp only [Fld.Low, Fld.key, R.STR_CAUSE.RESERVE_LOW]; omega)
  rcases List.mem_append.1 hr with hr | hr
  · split at hr
    · exact List.mem_singleton.1 hr ▸ hshort
    · cases hr
  · split at hr
    · exact List.mem_singleton.1 hr ▸ hlow
    · cases hr

/-- The register words of lane `n` that a lane which leaves UP or starts an attempt writes. -/
theorem lane_low {n : Nat} (hn : n < 64) :
    ((R.LN_STAT.STATE n).Low ∧ (R.LN_STAT.ATTEMPT n).Low ∧ (R.LN_STAT.RX_INV n).Low ∧ (R.LN_STAT.SIGNAL n).Low ∧ (R.LN_STAT.CDR_LOCK n).Low
      ∧ (R.LN_STAT.ALIGNED n).Low) ∧ (R.LKN_STAT.ADMIT n).Low ∧ (R.LKN_STAT.ID_RESULT n).Low ∧ (R.LKN_DELAY.D n).Low
      ∧ (R.LKN_STAT.OWNER_TX n).Low ∧ (R.LKN_PARAM.STATUS n).Low ∧ (R.LKN_CAUSE.PARAM_FAIL n).Low ∧ (R.BC_STAT.STATE n).Low
      ∧ (R.BC_STAT.HELD_OUT n).Low := by
  simp only [Fld.Low, Fld.key, R.LN_STAT.STATE, R.LN_STAT.ATTEMPT, R.LN_STAT.RX_INV, R.LN_STAT.SIGNAL, R.LN_STAT.CDR_LOCK, R.LN_STAT.ALIGNED,
    R.LKN_STAT.ADMIT, R.LKN_STAT.ID_RESULT, R.LKN_DELAY.D, R.LKN_STAT.OWNER_TX, R.LKN_PARAM.STATUS, R.LKN_CAUSE.PARAM_FAIL, R.BC_STAT.STATE,
    R.BC_STAT.HELD_OUT]
  omega

theorem linkDown_kept (hs : s0.inState [.armed, .run] = false) {n : Nat} (hn : n < 64) (h : PowerKept s0 s) : PowerKept s0 (linkDown n s) := by
  obtain ⟨-, hadmit, hid, hdelay, howner, hstatus, hfail, hbal, hheld⟩ := lane_low hn
  have hdrop : ∀ x, PowerKept s0 x → PowerKept s0 (dropVerify n x) := fun x hx => by
    unfold dropVerify; dsimp only; split <;> exact hx.congr rfl rfl
  unfold linkDown
  extract_lets a b c d e g
  have hd : PowerKept s0 d := (hdrop b ((((h.set hadmit 0).set hid 0).set hdelay 0).set howner 0)).congr rfl rfl
  have he : PowerKept s0 e := .ite (raise_kept hs (hd.set hstatus 3) (.of_leaf (by show 2 ≤ 16; decide) rfl hfail)) hd
  have hg : PowerKept s0 g := he.congr rfl rfl
  have hbal : PowerKept s0 (setBal n 0 g) := (hg.set hbal 0).congr rfl rfl
  exact checkStrings_kept hs (hbal.set hheld 0)

theorem freshReceive_kept {n : Nat} (hn : n < 64) (h : PowerKept s0 s) : PowerKept s0 (freshReceive n s) := by
  obtain ⟨⟨-, -, hinv, hsignal, hcdr, haligned⟩, -⟩ := lane_low hn
  exact ((((h.set hinv _).set hsignal 0).set hcdr 0).set haligned 0).congr rfl rfl

theorem startAttempt_kept {n : Nat} (hn : n < 64) (h : PowerKept s0 s) (k : Nat) : PowerKept s0 (startAttempt n k s) := by
  obtain ⟨⟨hstate, hattempt, -⟩, -⟩ := lane_low hn
  unfold startAttempt
  extract_lets a b
  have ha : PowerKept s0 a := (h.set hstate 2).set hattempt k
  have hb : PowerKept s0 b := .ite (freshReceive_kept (by unfold mirror; omega) ha) ha
  exact (freshReceive_kept hn hb).congr rfl rfl

theorem bringUp_kept (hs : s0.inState [.armed, .run] = false) {n : Nat} (hn : n < 64) (h : PowerKept s0 s) : PowerKept s0 (bringUp n s) := by
  obtain ⟨⟨hstate, -⟩, -⟩ := lane_low hn
  unfold bringUp
  extract_lets x
  have hx : PowerKept s0 x := .ite (linkDown_kept hs hn h) h
  refine .ite ((hx.set hstate 0).congr rfl rfl) (.ite (hx.set hstate 0) (.ite ?_ (.ite ?_ (hx.set hstate 1))))
  · exact (startAttempt_kept hn hx 0).set hstate 8
  · exact startAttempt_kept hn hx 1

theorem spine_lt : ∀ i ∈ spine4, i < 4 := by decide

/-- The register words that a spine lane writes as it comes up. -/
theorem spine_low {i : Nat} (hi : i < 4) :
    (R.SL_STAT.STATE i).Low ∧ (R.SL_STAT.FAIL_STAGE i).Low ∧ (R.SL_STAT.ATTEMPT i).Low ∧ (R.SL_CAUSE.ABSENT i).Low ∧ (R.SL_STAT.RX_INV i).Low
      ∧ (R.SL_STAT.SIGNAL i).Low ∧ (R.SL_STAT.CDR_LOCK i).Low ∧ (R.SL_STAT.BLOCK_LOCK i).Low ∧ (R.SL_STAT.PRECODE_TX i).Low
      ∧ (R.SL_STAT.PRECODE_RX i).Low ∧ (R.SL_STAT.CROSSED i).Low ∧ (R.SL_DELAY.DELAY i).Low := by
  simp only [Fld.Low, Fld.key, R.SL_STAT.STATE, R.SL_STAT.FAIL_STAGE, R.SL_STAT.ATTEMPT, R.SL_CAUSE.ABSENT, R.SL_STAT.RX_INV, R.SL_STAT.SIGNAL,
    R.SL_STAT.CDR_LOCK, R.SL_STAT.BLOCK_LOCK, R.SL_STAT.PRECODE_TX, R.SL_STAT.PRECODE_RX, R.SL_STAT.CROSSED, R.SL_DELAY.DELAY]
  omega

theorem clearSpine_kept {i : Nat} (hi : i < 4) (h : PowerKept s0 s) : PowerKept s0 (clearSpine i s) := by
  obtain ⟨-, -, -, -, hinv, hsignal, hcdr, hlock, htx, hrx, hcrossed, hdelay⟩ := spine_low hi
  unfold clearSpine
  extract_lets a b c
  have hb : PowerKept s0 b := (((h.set hinv _).set hsignal 0).set hcdr 0).set hlock 0
  have hc : PowerKept s0 c := ((hb.set htx 0).set hrx 0).set hcrossed 0
  exact (hc.set hdelay 0xFFFFF).congr rfl rfl

theorem spineBringUp_kept (hs : s0.inState [.armed, .run] = false) {i : Nat} (hi : i < 4) (h : PowerKept s0 s) :
    PowerKept s0 (spineBringUp i s) := by
  obtain ⟨hstate, hstage, hattempt, habsent, -⟩ := spine_low hi
  unfold spineBringUp
  extract_lets x
  have hx : PowerKept s0 x := clearSpine_kept hi h
  refine .ite ((hx.set hstate 0).congr rfl rfl) (.ite (hx.set hstate 1) (.ite ?_ ?_))
  · exact raise_kept hs ((hx.set hstate 6).set hstage 2) (.of_leaf (by show 3 ≤ 16; decide) rfl habsent)
  · exact ((clearSpine_kept hi hx).set hstate 2).set hattempt 1

theorem canSend_kept (h : PowerKept s0 s) (m : CanOut) : PowerKept s0 (canSend m s) := .ite (h.congr rfl rfl) h

end

end Sys2Proof.Machine
end

section
/-!
PROOFS. The commands of 03_power_reset_insertion.md: wake events, the power handshake, the resets of pins and rails, and the start policy.
-/
namespace Sys2Proof.Machine

/-! ### Standby and its wake events, R57 to R59 and R81 -/

/-- The state in Standby of a board that is seated (R59). -/
def State.seated (s : State) : State := { s with pw := { s.pw with prsnt := true, cycled := 0, wakeInsertion := true } }

theorem inserted_standby {s : State} (h : s.pw.state = .standby) :
    inserted s = if s.bit R.START_STAT.SLATE ∧ (s.pw.cycled = 1 ∨ s.pw.cycled = 2) then
      leaveSlate (if s.pw.cycled = 1 then writeCause ⟨0xE, s.ts.tsc, false, 0, s.cmCycle⟩ s.seated else s.seated) else s.seated := by
  simp only [inserted, State.modPw_pw, h, if_true]
  rfl

/-- The first application of VKA (R57). -/
theorem vkaRises_off {s : State} (h : s.pw.state = .off) :
    vkaRises s = enterStandby { s with regs := s.regs.filter (fun e => !vkaKey e.1), pw := { s.pw with vka := true, cycled := 0, failStage := 0 } } := by
  simp only [vkaRises, h, if_true]
  rfl

/-- A loss of VKA (R57, R568): what a reset leaves beside the keep-alive domain, which is lost. -/
theorem vkaFalls_get (s : State) (f : Fld) :
    (vkaFalls s).get f = if !vkaKey f.key then (clearState s).get f else f.reset % 2 ^ f.width :=
  State.get_of_filter (s := clearState s) (t := vkaFalls s) (p := fun k => !vkaKey k) rfl f

/-- Settles O1: each wake event is kept with its pin, and PWREN rises where the pins allow it. -/
theorem wakeEventsInStandby : Obligations.WakeEventsInStandby := by
  unfold Obligations.WakeEventsInStandby
  refine ⟨?firstApplied, ?insertion, ?slateRemoved, ?slateCycled, ?nresetRelease, ?automaticRestart, ?prsntLow, ?leave, ?ejected⟩
  case firstApplied =>
    intro s h
    have hget : ∀ f : Fld, (vkaRises s).get f = if !vkaKey f.key then s.get f else f.reset % 2 ^ f.width := by
      rw [vkaRises_off h]
      exact State.get_of_filter (s := s) (p := fun k => !vkaKey k) rfl
    refine ⟨vkaRises s, rfl, ?_, ?_, ?_, fun f hf => by simp [hget, hf], fun f hf => by simp [hget, hf], ?_⟩ <;>
      rw [vkaRises_off h] <;> rfl
  case insertion =>
    intro s h hslate
    show Host.Outcome.next (inserted s) = _
    rw [inserted_standby h, if_neg (by simp [hslate])]
    rfl
  case slateRemoved =>
    intro s h hslate hcycled
    refine ⟨leaveSlate s.seated, ?_, ?_⟩
    · show Host.Outcome.next (inserted s) = _
      rw [inserted_standby h, if_pos ⟨hslate, .inr hcycled⟩, if_neg (by omega)]
    · obtain ⟨hslate, hreason, hconsec⟩ := leaveSlate_clears s.seated
      exact ⟨hslate, hreason, hconsec, rfl, leaveSlate_onlyRegs s.seated⟩
  case slateCycled =>
    intro s h hslate hcycled
    let c : ResetCause := ⟨0xE, s.ts.tsc, false, 0, s.cmCycle⟩
    refine ⟨leaveSlate (writeCause c s.seated), ?_, ?_⟩
    · show Host.Outcome.next (inserted s) = _
      rw [inserted_standby h, if_pos ⟨hslate, .inl hcycled⟩, if_pos hcycled]
    · obtain ⟨hslate, hreason, hconsec⟩ := leaveSlate_clears (writeCause c s.seated)
      have hrest := leaveSlate_onlyRegs (writeCause c s.seated)
      refine ⟨hslate, hreason, hconsec, ?_, ?_, ?_, ?_, ?_⟩
      · exact (hrest _ (by decide)).trans (writeCause_cause c s.seated)
      · exact (hrest _ (by decide)).trans (writeCause_prevCause c s.seated)
      · exact (hrest _ (by decide)).trans (writeCause_tscValid c s.seated)
      · exact writeCause_pw c s.seated
      · have hframe := (writeCause_onlyRegs (c := c) rfl s.seated).trans hrest
        intro f hf
        refine hframe f fun hmem => hf ?_
        revert hmem
        simp only [causeWord, slateFields, List.map_append, List.map_cons, List.map_nil, List.mem_append, List.mem_cons]
        tauto
  case nresetRelease =>
    intro s h
    show Host.Outcome.next (nresetRises s) = _
    simp [nresetRises, h, State.modPw]
  case automaticRestart =>
    intro s h hcause
    have hrestarts : s.restarts = true := by simpa [State.restarts, or_assoc] using hcause
    exact congrArg Host.Outcome.next (if_pos ⟨h, hrestarts⟩)
  case prsntLow =>
    intro s h
    exact congrArg Host.Outcome.next (if_pos h)
  case leave =>
    intro s h hpwren hprsnt hreset hwake
    show Host.Outcome.next (leaveStandby true s) = _
    simp [leaveStandby, h, hpwren, hprsnt, hreset, hwake, State.modPw]
  case ejected =>
    intro s h
    show Host.Outcome.next (leaveStandby false s) = _
    simp [leaveStandby, h, State.modPw]

/-! ### The handshake and the pins, R54, R64 and R83 -/

theorem enterColdHold_handshake {s : State} (h : s.pw.state = .standby) (hgood : s.pw.railGood = true) (vio : Nat) :
    exec (.enterColdHold vio) s = .next (enterColdHold (s.modPw fun p => { p with vio := vio % 16 })) :=
  congrArg Host.Outcome.next (if_pos ⟨h, hgood⟩)

/-- The level of nRESET, and that its filter has taken the pulse (R46). -/
def State.nResetLow (s : State) : State := s.modPw fun p => { p with nReset := false, nResetTaken := true }

/-- Before Armed nRESET is taken at once, and Cold hold waits for its release (R64, R65; log 44). -/
theorem nresetFalls_start {s : State} (h : s.inState [.boot, .slate, .configure] = true) (hc : s.pw.cause = none) :
    nresetFalls s = (takeReset (latch 8 0 s.nResetLow)).modPw (fun p => { p with coldHold := false }) := by
  obtain hst | hst | hst : s.pw.state = .boot ∨ s.pw.state = .slate ∨ s.pw.state = .configure := by simpa [State.inState] using h
  all_goals
    have hlow : s.modPw (fun p => { p with nReset := false, nResetTaken := !(p.state == .off || p.state == .standby) }) = s.nResetLow := by
      simp only [State.nResetLow, State.modPw, hst]; rfl
    have hst' : s.nResetLow.pw.state = s.pw.state := rfl
    have hc' : s.nResetLow.pw.cause = none := hc
    rw [nresetFalls, hlow]
    simp [hst', hst, hc', State.inState]

/-- Neither Off nor Standby. -/
theorem State.powered_of_inState {s : State} {l : List DevState} (h : s.inState l = true) (hl : .off ∉ l ∧ .standby ∉ l) :
    s.inState [.off, .standby] = false := by
  have hmem : s.pw.state ∈ l := by simpa [State.inState] using h
  obtain ⟨hoff, hstandby⟩ := hl
  have h1 : s.pw.state ≠ .off := fun e => hoff (e ▸ hmem)
  have h2 : s.pw.state ≠ .standby := fun e => hstandby (e ▸ hmem)
  simp [State.inState, h1, h2]

/-- The state of a board that is removed, when its reset is taken (R83). -/
def State.removing (s : State) : State :=
  (safeGenerator (latch 0xE 0 s)).modPw fun p => { p with prsnt := false, cycled := if s.pw.state == .slate then 2 else 3, pgoodLoss := true }

/-- The removal of the board outside Standby drops PWREN as the loss of a rail does (R83). -/
theorem boardRemoved_powered {s : State} (h : s.inState [.off, .standby] = false) (hf : s.freshCycle = true) :
    boardRemoved s = takeReset s.removing ∧ ∃ c, s.removing.pw.cause = some c := by
  obtain ⟨c, hc⟩ := latch_waits hf 0xE 0
  have hgen : (safeGenerator (latch 0xE 0 s)).pw.cause = some c := by rw [safeGenerator_pw, hc]
  refine ⟨?_, c, hgen⟩
  unfold boardRemoved
  rw [if_neg (by simp [h])]
  exact if_neg (by simp [hgen])

/-- Settles O2: the handshake that fails, Cold hold, and the resets that pins take, by what `takeReset` leaves (`takeReset_ended`). -/
theorem handshakeAndPinResets : Obligations.HandshakeAndPinResets := by
  unfold Obligations.HandshakeAndPinResets
  refine ⟨?railGood, ?coldHold, ?nreset, ?removed, ?vkaLost⟩
  case railGood =>
    intro s h hgood hfresh heject
    have hexec : exec .railGoodTimeout s = .next (takeReset (latch 2 0 s)) := congrArg Host.Outcome.next (if_pos ⟨h, hgood⟩)
    have hend := takeReset_latch hfresh 2 0
    obtain ⟨hprev, hmram⟩ := takeReset_latch_unsaved hfresh (.inl rfl) heject 0
    exact ⟨_, hexec, hend.state, hend.pwren, hend.code, hprev, hmram rfl, hend.pending⟩
  case coldHold =>
    intro s vio h hgood hrose
    exact (enterColdHold_handshake h hgood vio).trans (congrArg Host.Outcome.next (enterColdHold_of_rose hrose))
  case nreset =>
    intro s h hfresh hloss heject
    have hcause : s.pw.cause = none := by simp_all [State.noReset]
    have hend := takeReset_latch (s := s.nResetLow) hfresh 8 0
    rw [State.dropsFor_eq (s := s.nResetLow) hloss heject] at hend
    obtain ⟨hprev, -⟩ := takeReset_latch_unsaved (s := s.nResetLow) hfresh (.inr rfl) heject 0
    exact ⟨_, congrArg Host.Outcome.next (nresetFalls_start h hcause), hend.state, rfl, hend.nReset, hend.pwren, hend.code, hprev, hend.pending⟩
  case removed =>
    intro s h hfresh
    have hpowered := State.powered_of_inState h (by decide)
    obtain ⟨hreset, c, hc⟩ := boardRemoved_powered hpowered hfresh
    have hend := takeReset_ended hc
    have hdrop : s.removing.dropsFor c.code = true := by simp [State.dropsFor, State.removing]
    rw [hdrop] at hend
    exact ⟨_, congrArg Host.Outcome.next hreset, hend.state, hend.pwren, hend.prsnt, hend.lanes, hend.ts⟩
  case vkaLost =>
    intro s
    refine ⟨vkaFalls s, rfl, rfl, rfl, rfl, ?_, clearState_mram s, clearState_store s, clearState_slotState s, clearState_pending s⟩
    intro f hf
    simp [vkaFalls_get, hf]

/-! ### Lost rails and ejections, R55, R62 and R85 -/

/-- The TSC at a cause counts where it runs, but for the causes of R69 without it. -/
theorem State.causeOf_running {code : Nat} (h : code ∉ [0, 2, 4, 6]) (s : State) (low : Nat) :
    s.causeOf code low = ⟨code, s.ts.tsc, s.ts.running, low, s.cmCycle⟩ := by
  simp_all [State.causeOf, State.tscValid]

theorem railLost_fresh {s : State} (hp : s.inState [.off, .standby] = false) (hloss : s.pw.pgoodLoss = false) (hfresh : s.noReset = true)
    (low : Nat) :
    railLost low s = (if bitAt low 1 then withCause (s.causeOf 1 low) s else safeGenerator (withCause (s.causeOf 1 low) s)).modPw
      (fun p => { p with pgoodLoss := true }) := by
  unfold railLost
  rw [if_neg (by simp [hp, hloss]), latch_noReset hfresh]
  exact if_neg (by split <;> simp [safeGenerator_pw])

/-- SECOND says of no cell who owns it. -/
theorem second_ownedMask (s : State) : (second s).ownedMask = s.ownedMask := by
  refine congrArg maskOf (funext fun n => ?_)
  have hkey : R.RST_CAUSE.SECOND.key ≠ (R.LKN_STAT.OWNER_TX n).key := by
    simp only [Fld.key, R.RST_CAUSE.SECOND, R.LKN_STAT.OWNER_TX]; omega
  exact s.bit_set_of_ne 1 hkey

/-- An ejection with a partner that is there: the latched cause, and the release of the cells that are owned (R85). -/
theorem eject_with_partner {s x : State} (hx : latch 0xD 0 s = x) (hmask : x.ownedMask = s.ownedMask) (hdx : x.dx = s.dx)
    (hstate : s.inState [.boot, .slate, .configure, .armed, .run, .safe] = true) (heject : s.pw.ejecting = false)
    (hcurrent : s.dx.current = true) :
    (eject s).pw = { x.pw with nEject := false, ejecting := true } ∧ (eject s).regs = x.regs
      ∧ (s.ownedMask ≠ 0 → (eject s).dx.releaseNext = s.ownedMask) := by
  have hlatched : eject s = if s.ownedMask = 0 then x.modPw (fun p => { p with nEject := false, ejecting := true })
      else { x.modPw (fun p => { p with nEject := false, ejecting := true }) with dx := { s.dx with releaseNext := s.ownedMask } } := by
    have hmask' : (x.modPw fun p => { p with nEject := false, ejecting := true }).ownedMask = s.ownedMask := hmask
    have hdx' : (x.modPw fun p => { p with nEject := false, ejecting := true }).dx = s.dx := hdx
    unfold eject
    rw [if_pos (by simp [hstate, heject]), hx]
    simp only [hmask', hdx', hcurrent, if_true]
  rw [hlatched]
  split
  · exact ⟨rfl, rfl, fun hne => absurd ‹_› hne⟩
  · exact ⟨rfl, rfl, fun _ => rfl⟩

/-- Settles O3: causes are latched by `latch_noReset` and `latch_second`, and the resets that wait end as `takeReset_ended` says. -/
theorem latchedResetsAreTaken : Obligations.LatchedResetsAreTaken := by
  unfold Obligations.LatchedResetsAreTaken
  refine ⟨?coreLost, ?railLost, ?pwrenDrop, ?blackSetEnd, ?ejection, ?ejectionSecond, ?ejectionEnd, ?internal⟩
  case coreLost =>
    intro s low h hloss hfresh hbit
    refine (congrArg Host.Outcome.next (railLost_fresh (State.powered_of_inState h (by decide)) hloss hfresh low.val)).trans ?_
    rw [if_pos hbit, State.causeOf_running (by decide)]
    rfl
  case railLost =>
    intro s low h hloss hfresh hbit hlock
    let x := withCause (s.causeOf 1 low.val) s
    have hrail := railLost_fresh (State.powered_of_inState h (by decide)) hloss hfresh low.val
    rw [if_neg (by simp [hbit])] at hrail
    refine ⟨_, congrArg Host.Outcome.next hrail, ?_, rfl, fun n hn hen => safeGenerator_lane (s := x) hlock h hn hen⟩
    rw [State.modPw_pw, safeGenerator_pw, State.causeOf_running (by decide)]
    rfl
  case pwrenDrop =>
    intro s c hloss hc
    have hend := takeReset_ended hc
    rw [show s.dropsFor c.code = true by simp [State.dropsFor, hloss]] at hend
    exact ⟨takeReset s, congrArg Host.Outcome.next (if_pos hloss), hend.state, hend.pwren, hend.cause, hend.lanes⟩
  case blackSetEnd =>
    intro s c hblack hc hcode hloss heject
    have hend := takeReset_ended hc
    rw [State.dropsFor_eq hloss heject, hcode] at hend
    exact ⟨takeReset s, congrArg Host.Outcome.next (if_pos hblack), hend.state, hend.pwren, hend.cause, hend.code⟩
  case ejection =>
    intro s h heject hfresh hcurrent
    obtain ⟨hpw, hregs, hrelease⟩ := eject_with_partner (latch_noReset hfresh 0xD 0) rfl rfl h heject hcurrent
    refine ⟨eject s, rfl, ?_, ?_, hrelease, hregs, ?_⟩
    · rw [hpw]
    · rw [hpw, State.causeOf_running (by decide)]; rfl
    · rw [hpw]; rfl
  case ejectionSecond =>
    intro s d h heject hc hd hcurrent
    obtain ⟨hpw, hregs, hrelease⟩ := eject_with_partner (latch_second hc hd 0xD 0) (second_ownedMask s) rfl h heject hcurrent
    refine ⟨eject s, rfl, ?_, ?_, ?_, hrelease, ?_, ?_⟩
    · rw [hpw]
    · rw [hpw]; exact hc
    · rw [State.get_of_regs hregs]; exact State.get_set_self s R.RST_CAUSE.SECOND 1
    · intro f hf
      exact (State.get_of_regs hregs f).trans ((OnlyRegs.of_regs rfl _).set 1 (List.mem_singleton_self _) f hf)
    · rw [hpw]; rfl
  case ejectionEnd =>
    intro s c heject hc hcode
    have hend := takeReset_ended hc
    rw [show s.dropsFor c.code = true by simp [State.dropsFor, heject]] at hend
    exact ⟨takeReset s, congrArg Host.Outcome.next (if_pos heject), hend.state, hend.pwren, hend.ejecting⟩
  case internal =>
    intro s c heject hblack hloss hc
    have hend := takeReset_ended hc
    rw [State.dropsFor_eq hloss heject] at hend
    refine ⟨takeReset s, congrArg Host.Outcome.next (if_neg (by simp [heject, hblack, hloss])), hend.cause, hend.lanes, ?_⟩
    rw [hend.state]
    simp [dropsPwren]

/-! ### The start policy, R70 to R88 -/

/-- Before Armed a reset that the device asks for is taken at once (log 44). -/
theorem requestReset_start {s : State} (h : s.inState [.armed, .run, .safe] = false) (hfresh : s.noReset = true) (code : Nat) :
    requestReset code s = takeReset (latch code 0 s) := by
  have hc : s.pw.cause = none := by simp_all [State.noReset]
  unfold requestReset
  rw [latch_noReset hfresh, if_neg (by simp [hc]), if_neg (by simp [h])]

/-- In Safe the cause is latched while Black sets go out (R64). -/
theorem requestReset_safe {s : State} (h : s.pw.state = .safe) (hfresh : s.noReset = true) (code : Nat) :
    requestReset code s = blackLanes (withCause (s.causeOf code 0) s) := by
  have hc : s.pw.cause = none := by simp_all [State.noReset]
  unfold requestReset
  rw [latch_noReset hfresh, if_neg (by simp [hc]), if_pos (by simp [State.inState, h])]

/-- What a host may ask for before Armed (R88). -/
theorem hostReset_start {s : State} (h : s.inState [.boot, .slate, .configure] = true) (hfresh : s.noReset = true) (code : Nat) :
    hostReset code s = takeReset (latch code 0 s) := by
  obtain hst | hst | hst : s.pw.state = .boot ∨ s.pw.state = .slate ∨ s.pw.state = .configure := by simpa [State.inState] using h
  all_goals
    unfold hostReset
    rw [if_pos (by simp [State.inState, hst])]
    exact requestReset_start (by simp [State.inState, hst]) hfresh code

/-- In Run a host's reset is refused (R88). -/
theorem hostReset_run {s : State} (h : s.pw.state = .run) (code : Nat) : hostReset code s = s := if_neg (by simp [State.inState, h])

/-- A held Slate start (R80): what the lanes and the spine do as they come up leaves the state, the timers and PENDING. -/
theorem holdSlate_holds (s : State) :
    (holdSlate s).pw.state = .slate ∧ (holdSlate s).pw.selfTest = false ∧ (holdSlate s).get R.START_STAT.PENDING = 0 := by
  unfold holdSlate
  extract_lets a b c
  have hs : b.inState [.armed, .run] = false := rfl
  have hspine : PowerKept b (b.each spine4 spineBringUp) := (PowerKept.refl b).each fun i hi x hx =>
    spineBringUp_kept hs (spine_lt i hi) hx
  have hc : PowerKept b c := canSend_kept hspine .bootUp
  have hlanes : PowerKept b (if c.pw.romOnly then c.each lanes64 (fun n s => s.set (R.LN_STAT.STATE n) (b2n (s.laneEn n)))
      else c.each lanes64 bringUp) := by
    refine .ite (hc.each fun n hn x hx => ?_) (hc.each fun n hn x hx => bringUp_kept hs (lane_lt hn) hx)
    obtain ⟨⟨hstate, -⟩, -⟩ := lane_low (lane_lt hn)
    exact hx.set hstate _
  refine ⟨?_, ?_, (hlanes.keepAlive _ (by decide)).trans (State.get_set_self _ R.START_STAT.PENDING 0)⟩
  · rw [hlanes.pw]; rfl
  · rw [hlanes.pw]; rfl

/-- Settles O4: a host's reset is latched (`requestReset_safe`), taken (`hostReset_start`) or refused, and a Slate start that is held stands. -/
theorem startPolicyAndHostResets : Obligations.StartPolicyAndHostResets := by
  unfold Obligations.StartPolicyAndHostResets
  refine ⟨?selftestDone, ?selfTestTimeout, ?slateHold, ?safe, ?start, ?run, ?powerCycle⟩
  case selftestDone => exact fun s => rfl
  case selfTestTimeout =>
    intro s h htest hfresh hloss heject
    have hend := takeReset_latch hfresh 9 0
    rw [State.dropsFor_eq hloss heject] at hend
    have hreset : exec .selfTestTimeout s = .next (takeReset (latch 9 0 s)) :=
      (congrArg Host.Outcome.next (if_pos htest)).trans
        (congrArg Host.Outcome.next (requestReset_start (by simp [State.inState, h]) hfresh 9))
    exact ⟨_, hreset, hend.state, hend.pwren, hend.lanes⟩
  case slateHold =>
    intro s h hslate hrom
    exact ⟨holdSlate s, congrArg Host.Outcome.next (if_pos ⟨h, hslate, hrom⟩), holdSlate_holds s⟩
  case safe =>
    intro s h hfresh
    let x := withCause (s.causeOf 0xB 0) s
    have hreset : hostReset 0xB s = blackLanes x :=
      (if_pos (by simp [State.inState, h])).trans (requestReset_safe h hfresh 0xB)
    obtain ⟨hregs, hpw⟩ := blackLanes_regs_pw x
    refine ⟨blackLanes x, congrArg Host.Outcome.next hreset, ?_, hregs, fun n hn hlock hup => blackLanes_urgQ (s := x) hlock hn hup⟩
    rw [hpw, withCause_pw, State.causeOf_running (by decide)]
  case start =>
    intro s h hfresh hloss heject
    have hend := takeReset_latch hfresh 0xB 0
    rw [State.dropsFor_eq hloss heject] at hend
    exact ⟨_, congrArg Host.Outcome.next (hostReset_start h hfresh 0xB), hend.state, hend.pwren⟩
  case run =>
    intro s h
    exact ⟨congrArg Host.Outcome.next (hostReset_run h 0xB), congrArg Host.Outcome.next (hostReset_run h 0xC)⟩
  case powerCycle =>
    intro s h hfresh
    have hend := takeReset_latch hfresh 0xC 0
    exact ⟨_, congrArg Host.Outcome.next (hostReset_start h hfresh 0xC), hend.state, hend.pwren⟩

end Sys2Proof.Machine
end

section
/-!
PROOFS. Register fields that reports to the collector, links that go down and lanes that come up leave as they are, in every device state: one equation per
function, for a field away from the words that the function writes.
-/
namespace Sys2Proof.Machine

/-! ### Fields that a report leaves, R434 to R449 -/

/-- The place of a field in a word that a report may write beside the leaf of its source: the counts, leaves and records of the reports that follow it, the
collector's words but for the classes of R437, and what an entry to Safe writes. -/
abbrev ReportKey (k : Nat) : Prop :=
  k / 32 ∈ [0x30008, 0x3001C, 0x50004, 0x90004, 0xA0000, O.RUN_REQUEST.addr] ∨ (0x80404 ≤ k / 32 ∧ k / 32 < 0x80804)
    ∨ (0xE0000 ≤ k / 32 ∧ k / 32 < 0xE0040) ∨ (0xE0080 ≤ k / 32 ∧ k / 32 < 0xE0400) ∨ (0xF0000 ≤ k / 32 ∧ k / 32 < 0xF0100)

/-- A write within a set of places leaves the fields outside it. -/
theorem State.get_set_outside {W : Nat → Prop} {f g : Fld} (hf : ¬ W f.key) (hg : W g.key) (s : State) (v : Nat) : (s.set g v).get f = s.get f :=
  State.get_set_of_ne s v fun e => hf (e ▸ hg)

/-- What each effect leaves of a field, the effects together leave. -/
theorem State.each_get {α : Type} {f : Fld} {l : List α} {e : α → State → State} (he : ∀ a ∈ l, ∀ x, (e a x).get f = x.get f) (s : State) :
    (s.each l e).get f = s.get f :=
  State.each_keeps (P := fun x => x.get f = s.get f) rfl fun a ha x hx => (he a ha x).trans hx

/-- A source of a block of R434 whose leaf is not the field. -/
structure Src.Off (r : Src) (f : Fld) : Prop where
  block : r.block ≤ 16
  leaf : ∀ g, leafOf r = some g → g.key ≠ f.key

theorem Src.Off.of_leaf {r : Src} {f g : Fld} (hb : r.block ≤ 16) (h : leafOf r = some g) (hne : g.key ≠ f.key) : r.Off f :=
  ⟨hb, fun _ hg => Option.some.inj (h.symm.trans hg) ▸ hne⟩

theorem Src.Off.of_report {r : Src} {f g : Fld} (hf : ¬ ReportKey f.key) (hb : r.block ≤ 16) (h : leafOf r = some g) (hg : ReportKey g.key) : r.Off f :=
  .of_leaf hb h fun e => hf (e ▸ hg)

theorem raiseLeaf_get {f : Fld} {r : Src} (hr : r.Off f) (s : State) : (raiseLeaf r s).1.get f = s.get f := by
  unfold raiseLeaf
  split
  · rfl
  · unfold setLeaf
    dsimp only
    split
    · exact State.get_set_of_ne _ _ (hr.leaf _ ‹_›)
    · split <;> rfl

theorem raiseLeaves_get {f : Fld} {l : List Src} (hl : ∀ r ∈ l, r.Off f) (s : State) : (raiseLeaves l s).1.get f = s.get f := by
  induction l generalizing s with
  | nil => rfl
  | cons r l ih => exact (ih (fun x hx => hl x (List.mem_cons_of_mem r hx)) _).trans (raiseLeaf_get (hl r List.mem_cons_self) s)

section
variable {f : Fld} (hf : ¬ ReportKey f.key)
include hf

theorem get_set_reportKey {g : Fld} (hg : ReportKey g.key) (s : State) (v : Nat) : (s.set g v).get f = s.get f := State.get_set_outside hf hg s v
theorem get_inc_reportKey {g : Fld} (hg : ReportKey g.key) (s : State) : (s.inc g).get f = s.get f := get_set_reportKey hf hg s _
theorem get_set64_reportKey {lo hi : Fld} (hlo : ReportKey lo.key) (hhi : ReportKey hi.key) (s : State) (v : Nat) : (s.set64 lo hi v).get f = s.get f :=
  (get_set_reportKey hf hhi _ _).trans (get_set_reportKey hf hlo s v)

/-! Messages and records -/

theorem dropMsg_get (s : State) : (dropMsg s).1.get f = s.get f :=
  (raiseLeaf_get (.of_report hf (by decide) rfl (by decide)) _).trans (get_inc_reportKey hf (by decide) s)

theorem sendTo_get (typ chan dest : Nat) (b : List Byte) (s : State) : (sendTo typ chan dest b s).1.get f = s.get f := by
  simp only [sendTo]
  split
  · rfl
  · split
    · rfl
    · exact dropMsg_get hf _

theorem enqueue_get (r : Rec) (s : State) : (enqueue r s).1.get f = s.get f := by
  have hlost : ReportKey (lostField r.plane).key := by unfold lostField; split_ifs <;> decide
  unfold enqueue
  split
  · exact (raiseLeaf_get (.of_report hf (by show 15 ≤ 16; decide) rfl (by decide)) _).trans (get_inc_reportKey hf hlost s)
  · rfl

theorem pendField_get (b : Bool) (s : State) (v : Nat) : (s.set (pendField b) v).get f = s.get f :=
  get_set_reportKey hf (by cases b <;> decide) s v

theorem flush_get (b : Bool) (s : State) : (flush b s).1.get f = s.get f := by
  simp only [flush]
  split
  · rfl
  · split
    · split
      · exact pendField_get hf b s 0
      · exact (enqueue_get hf _ _).trans (pendField_get hf b s 0)
    · rfl

theorem settle_get (b : Bool) (s : State) : (settle b s).1.get f = s.get f := by
  simp only [settle]
  split
  · rfl
  · split
    · exact (pendField_get hf b _ 0).trans (flush_get hf b s)
    · exact pendField_get hf b s 0

theorem post_get (r : Rec) (s : State) : (post r s).1.get f = s.get f := by
  unfold post
  dsimp only
  split
  · refine (pendField_get hf _ _ _).trans ?_
    split
    · rfl
    · exact settle_get hf _ s
  · refine (enqueue_get hf r _).trans ?_
    split <;> rfl

theorem postEmcy_get (origin b i inst info tsc : Nat) (s : State) : (postEmcy origin b i inst info tsc s).1.get f = s.get f := by
  unfold postEmcy
  split
  · exact raiseLeaf_get (.of_report hf (by decide) rfl (by decide)) s
  · rfl

/-! First causes and windows -/

theorem groupFirst_get (loc : Bool) (origin source gt : Nat) (s : State) : (groupFirst loc origin source gt s).get f = s.get f := by
  have hearlier : ReportKey (R.FC_FIRST.EARLIER_REMOTE (s.get R.FC_GRP_INFO.SOURCE / 16)).key := by
    have : s.get R.FC_GRP_INFO.SOURCE < 256 := s.get_lt R.FC_GRP_INFO.SOURCE
    simp only [ReportKey, Fld.key, R.FC_FIRST.EARLIER_REMOTE]
    omega
  unfold groupFirst
  extract_lets old empty earlier a b c
  have hb : b.get f = s.get f := by
    unfold b
    split
    · exact get_set_reportKey hf hearlier _ _
    · rfl
  split
  · refine (get_set64_reportKey hf (by decide) (by decide) _ _).trans ?_
    refine (get_set_reportKey hf (by decide) _ _).trans ((get_set_reportKey hf (by decide) _ _).trans ?_)
    exact (get_set_reportKey hf (by decide) _ _).trans ((get_set_reportKey hf (by decide) _ _).trans hb)
  · rfl

theorem openWin_get {w : Nat} (hw : w ≤ 8) (c b : Nat) (s : State) : (openWin w c b s).get f = s.get f := by
  have hkey : ReportKey (R.FC_WIN.OPEN w).key ∧ ReportKey (R.FC_WIN.CLASS w).key ∧ ReportKey (R.FC_WIN.FIRST_BLOCK w).key
      ∧ ReportKey (R.FC_WIN.CONSEQ w).key := by
    simp only [ReportKey, Fld.key, R.FC_WIN.OPEN, R.FC_WIN.CLASS, R.FC_WIN.FIRST_BLOCK, R.FC_WIN.CONSEQ]
    omega
  obtain ⟨hopen, hclass, hblock, hconseq⟩ := hkey
  unfold openWin
  extract_lets a
  have ha : a.get f = s.get f := by
    unfold a
    split
    · rfl
    · exact get_set_reportKey hf hconseq s 0
  exact (get_set_reportKey hf hblock _ _).trans ((get_set_reportKey hf hclass _ _).trans ((get_set_reportKey hf hopen _ _).trans ha))

omit hf in
/-- The words of the first cause of block `n + 1` (R440, R442, R458). -/
theorem reportKey_firstCause {n : Nat} (hn : n < 16) :
    ReportKey (R.FC_STAT.HELD n).key ∧ ReportKey (R.FC_LOST.LOST n).key ∧ ReportKey (R.FC_FIRST.SRC n).key ∧ ReportKey (R.FC_FIRST.INSTANCE n).key
      ∧ ReportKey (R.FC_FIRST.CLASS n).key ∧ ReportKey (R.FC_FIRST.SCOPE n).key ∧ ReportKey (R.FC_FIRST.OBSERVED n).key
      ∧ ReportKey (R.FC_FIRST.INJECTED n).key ∧ ReportKey (R.FC_FIRST.EARLIER_REMOTE n).key ∧ ReportKey (R.FC_FIRST_TSC_LO n).key
      ∧ ReportKey (R.FC_FIRST_TSC_HI n).key := by
  simp only [ReportKey, Fld.key, R.FC_STAT.HELD, R.FC_LOST.LOST, R.FC_FIRST.SRC, R.FC_FIRST.INSTANCE, R.FC_FIRST.CLASS, R.FC_FIRST.SCOPE,
    R.FC_FIRST.OBSERVED, R.FC_FIRST.INJECTED, R.FC_FIRST.EARLIER_REMOTE, R.FC_FIRST_TSC_LO, R.FC_FIRST_TSC_HI]
  omega

theorem fileRecord_get {r : ReportArg} (hr : r.block ≤ 16) (c : Nat) (obs inj : Bool) (s : State) : (fileRecord r c obs inj s).get f = s.get f := by
  obtain ⟨hheld, -, hsrc, hinst, hclass, hscope, hobs, hinj, hremote, hlo, hhi⟩ := reportKey_firstCause (n := r.block - 1) (by omega)
  refine (get_set64_reportKey hf hlo hhi _ _).trans ((get_set_reportKey hf hremote _ _).trans ((get_set_reportKey hf hinj _ _).trans ?_))
  refine (get_set_reportKey hf hobs _ _).trans ((get_set_reportKey hf hscope _ _).trans ((get_set_reportKey hf hclass _ _).trans ?_))
  exact (get_set_reportKey hf hinst _ _).trans ((get_set_reportKey hf hsrc _ _).trans (get_set_reportKey hf hheld s 1))

theorem tellGroup_get (r : ReportArg) (c : Nat) (obs : Bool) (s : State) : (tellGroup r c obs s).get f = s.get f := by
  unfold tellGroup
  split
  · exact groupFirst_get hf _ _ _ _ s
  · rfl

theorem capture_get {r : ReportArg} (hr : r.block ≤ 16) (c : Nat) (obs inj : Bool) (s : State) : (capture r c obs inj s).1.get f = s.get f := by
  unfold capture
  extract_lets x info rc
  have hx : x.get f = s.get f := (tellGroup_get hf r c obs _).trans (fileRecord_get hf hr c obs inj s)
  have hpost : (post rc x).1.get f = s.get f := (post_get hf rc x).trans hx
  dsimp only
  split
  · split
    · exact (postEmcy_get hf ..).trans hpost
    · exact hpost
  · exact (sendTo_get hf ..).trans hpost

theorem reheld_get {b : Nat} (hb : b ≤ 16) (s : State) : (reheld b s).get f = s.get f := by
  obtain ⟨hheld, -⟩ := reportKey_firstCause (n := b - 1) (by omega)
  unfold reheld
  extract_lets net x
  have hx : x.get f = s.get f := by unfold x; split <;> rfl
  exact (get_set_reportKey hf hheld x 1).trans hx

theorem keepReport_get {r : ReportArg} (hr : r.block ≤ 16) (c : Nat) (s : State) : (keepReport r c s).1.get f = s.get f := by
  obtain ⟨-, hlost, -⟩ := reportKey_firstCause (n := r.block - 1) (by omega)
  have hcount : ReportKey (R.FC_LOSTCNT r.block).key := by
    simp only [ReportKey, Fld.key, R.FC_LOSTCNT]
    omega
  unfold keepReport
  extract_lets n freed x held replace
  have hx : x.get f = s.get f := by
    show (if freed then reheld r.block s else s).get f = s.get f
    split
    · exact reheld_get hf hr s
    · rfl
  split
  · exact (capture_get hf hr _ _ _ x).trans hx
  · exact (get_inc_reportKey hf hcount _).trans ((get_set_reportKey hf hlost _ _).trans hx)

theorem judgeReport_get {r : ReportArg} {w : Nat} (hr : r.block ≤ 16) (hw : w ≤ 8) (c : Nat) (s : State) :
    (judgeReport r c w s).1.get f = s.get f := by
  have hopen : ∀ (q : Bool) (v : Nat) (x : State), v ≤ 8 → (if q then openWin v c r.block x else x).get f = x.get f := by
    intro q v x hv
    split
    · exact openWin_get hf hv c _ x
    · rfl
  unfold judgeReport
  dsimp only
  exact (hopen _ 8 _ (le_refl 8)).trans ((hopen _ w _ hw).trans (keepReport_get hf hr c s))

theorem joinReport_get {r : ReportArg} (hr : r.block ≤ 16) (s : State) : (joinReport r s).get f = s.get f := by
  obtain ⟨-, -, -, -, -, -, hobs, hinj, -⟩ := reportKey_firstCause (n := r.block - 1) (by omega)
  have hx : (if r.injected then s.set (R.FC_FIRST.INJECTED (r.block - 1)) 1 else s).get f = s.get f := by
    split
    · exact get_set_reportKey hf hinj s 1
    · rfl
  unfold joinReport
  extract_lets n x
  split
  · split
    · exact (get_set_reportKey hf hobs _ 1).trans hx
    · exact hx
  · rfl

/-! What a Black report does -/

theorem parkCells_get (s : State) : (parkCells s).get f = s.get f := by
  unfold parkCells
  extract_lets x
  have hx : x.get f = s.get f := State.each_get (fun t _ y => State.modStr_get y t _ f) s
  refine (State.each_get (fun n hn y => ?_) x).trans hx
  have hkey : ReportKey (R.BC_STAT.STATE n).key := by
    have := lane_lt hn
    simp only [ReportKey, Fld.key, R.BC_STAT.STATE]
    omega
  dsimp only
  split
  · exact get_set_reportKey hf hkey y 1
  · rfl

theorem stopInjection_get (s : State) : (stopInjection s).1.get f = s.get f := by
  unfold stopInjection
  split
  · exact raiseLeaf_get (.of_report hf (by decide) rfl (by decide)) _
  · rfl

theorem enterSafe_get (s : State) : (enterSafe s).1.get f = s.get f := by
  have hrequest : ({ s with pw := { s.pw with state := .safe } }.set O.RUN_REQUEST 0).get f = s.get f := get_set_reportKey hf (by decide) _ 0
  have hphasor : ∀ x, (phasorStart x).get f = x.get f := fun x => get_set_reportKey hf (g := R.MET_STAT.PH_STATE) (by decide) x _
  unfold enterSafe
  rw [stopInjection_get hf, hphasor, parkCells_get hf, hrequest]

theorem blackActions_get (s : State) : (blackActions s).1.get f = s.get f := by
  have henter : (if s.inState [.armed, .run] then enterSafe s else (parkCells s, [])).1.get f = s.get f := by
    split
    · exact enterSafe_get hf s
    · dsimp only
      exact parkCells_get hf s
  have hurgent : ∀ n ∈ lanes64, ∀ x : State, (requestUrgent n .black x).get f = x.get f := fun n _ x =>
    State.get_of_regs (requestUrgent_regs_pw n .black x).1 f
  unfold blackActions
  generalize (if s.inState [.armed, .run] then enterSafe s else (parkCells s, [])) = p at henter
  dsimp only
  rw [State.modCyc_get, get_set_reportKey hf (by decide), get_set_reportKey hf (by decide), get_set_reportKey hf (by decide), State.each_get hurgent]
  exact henter

omit hf in
theorem raiseLeaf_blocks {r : Src} (hr : r.block ≤ 16) (s : State) : ∀ x ∈ (raiseLeaf r s).2, x.block ≤ 16 := by
  have hone : ∀ x ∈ [(⟨r.block, r.src, r.inst, true, false⟩ : ReportArg)], x.block ≤ 16 := fun x hx => List.mem_singleton.1 hx ▸ hr
  unfold raiseLeaf
  split
  · exact hone
  · unfold setLeaf
    dsimp only
    split
    · exact hone
    · split
      · exact hone
      · nofun

omit hf in
theorem enterSafe_blocks (s : State) : ∀ x ∈ (enterSafe s).2, x.block ≤ 16 := by
  unfold enterSafe stopInjection
  split
  · exact raiseLeaf_blocks (by decide) _
  · nofun

omit hf in
theorem blackActions_blocks (s : State) : ∀ x ∈ (blackActions s).2, x.block ≤ 16 := by
  unfold blackActions
  dsimp only
  split
  · exact enterSafe_blocks s
  · nofun

/-! Reports -/

/-- One report leaves the field, and the reports that it causes are of the blocks of R434. -/
theorem takeOne_get_blocks {r : ReportArg} (hr : r.block ≤ 16) (s : State) :
    (takeOne r s).1.get f = s.get f ∧ ∀ x ∈ (takeOne r s).2, x.block ≤ 16 := by
  have hw := s.scope_le r
  unfold takeOne
  extract_lets c w fc x consW
  have hconseq : ReportKey (R.FC_WIN.CONSEQ (if consW then w else 8)).key := by
    have : (if consW then w else 8) ≤ 8 := by split <;> omega
    simp only [ReportKey, Fld.key, R.FC_WIN.CONSEQ]
    omega
  generalize hq : (if x.joins r then (joinReport r x, [])
      else if consW || x.winHolds 8 c then (x.inc (R.FC_WIN.CONSEQ (if consW then w else 8)), []) else judgeReport r c w x) = p
  have hp : p.1.get f = s.get f ∧ ∀ z ∈ p.2, z.block ≤ 16 := by
    rw [← hq]
    split
    · exact ⟨joinReport_get hf hr x, nofun⟩
    · split
      · exact ⟨get_inc_reportKey hf hconseq x, nofun⟩
      · exact ⟨judgeReport_get hf hr hw c x, (judgeReport_kept (PowerKept.refl x) hr hw c).blocks⟩
  obtain ⟨y, l⟩ := p
  obtain ⟨hget, hblocks⟩ := hp
  dsimp only
  split
  · exact ⟨(blackActions_get hf _).trans hget, fun z hz => (List.mem_append.1 hz).elim (hblocks z) (blackActions_blocks _ z)⟩
  · exact ⟨hget, hblocks⟩

theorem takeAll_get (k : Nat) {l : List ReportArg} (hl : ∀ r ∈ l, r.block ≤ 16) (s : State) : (takeAll k l s).get f = s.get f := by
  induction k generalizing l s with
  | zero => rfl
  | succ k ih =>
    cases l with
    | nil => rfl
    | cons r rs =>
      obtain ⟨hget, hblocks⟩ := takeOne_get_blocks hf (hl r List.mem_cons_self) s
      refine (ih (fun x hx => ?_) _).trans hget
      exact (List.mem_append.1 hx).elim (fun h => hl x (List.mem_cons_of_mem r h)) (hblocks x)

theorem report_get {l : List ReportArg} (hl : ∀ r ∈ l, r.block ≤ 16) (s : State) : (report l s).get f = s.get f :=
  takeAll_get hf _ (fun x hx => hl x (mem_of_mem_foldr_insertReport hx)) s

omit hf in
theorem raiseLeaves_blocks {l : List Src} (hl : ∀ r ∈ l, r.block ≤ 16) (s : State) : ∀ x ∈ (raiseLeaves l s).2, x.block ≤ 16 := by
  induction l generalizing s with
  | nil => nofun
  | cons r l ih =>
    intro x hx
    rcases List.mem_append.1 hx with hx | hx
    · exact raiseLeaf_blocks (hl r List.mem_cons_self) s x hx
    · exact ih (fun y hy => hl y (List.mem_cons_of_mem r hy)) _ x hx

/-- The events of a core cycle leave a field away from the collector's words that is the leaf of none of them. -/
theorem raiseAll_get {l : List Src} (hl : ∀ r ∈ l, r.Off f) (s : State) : (raiseAll l s).get f = s.get f := by
  exact (report_get hf (raiseLeaves_blocks (fun r hr => (hl r hr).block) s) _).trans (raiseLeaves_get hl s)

theorem raise_get {r : Src} (hr : r.Off f) (s : State) : (raise r s).get f = s.get f :=
  raiseAll_get hf (fun _ hx => List.mem_singleton.1 hx ▸ hr) s

omit hf in
theorem toSafe_eq (s : State) : toSafe s = report (enterSafe s).2 (enterSafe s).1 := by unfold toSafe; dsimp only

theorem toSafe_get (s : State) : (toSafe s).get f = s.get f := by
  rw [toSafe_eq, report_get hf (enterSafe_blocks s), enterSafe_get hf]

end

/-! ### Fields that a link which goes down leaves, R219 and R286 -/

/-- The place of a field in a word that a link which goes down may write: those of the links and of the strings' leaves, and those of reports. -/
abbrev LinkKey (k : Nat) : Prop := ReportKey k ∨ (0x20100 ≤ k / 32 ∧ k / 32 < 0x21100) ∨ (0x80110 ≤ k / 32 ∧ k / 32 < 0x80210)

/-- The place of a field in a word that a lane which comes up or goes down may write. -/
abbrev LaneKey (k : Nat) : Prop := LinkKey k ∨ (0x10100 ≤ k / 32 ∧ k / 32 < 0x11100)

theorem checkStrings_get {f : Fld} (hf : ¬ LinkKey f.key) (s : State) : (checkStrings s).get f = s.get f := by
  unfold checkStrings
  refine State.each_get (fun t ht x => ?_) s
  extract_lets act u r short low old y l
  have ht8 : t < 8 := List.mem_range.1 ht
  have hkey : LinkKey (R.STR_CAUSE.STRING_SHORT t).key ∧ LinkKey (R.STR_CAUSE.RESERVE_LOW t).key := by
    simp only [LinkKey, ReportKey, Fld.key, R.STR_CAUSE.STRING_SHORT, R.STR_CAUSE.RESERVE_LOW]
    omega
  obtain ⟨hshort, hlow⟩ := hkey
  have hl : ∀ r ∈ l, r.Off f := by
    intro r hr
    rcases List.mem_append.1 hr with hr | hr
    · split at hr
      · exact List.mem_singleton.1 hr ▸ .of_leaf (by show 8 ≤ 16; decide) rfl fun e => hf (e ▸ hshort)
      · cases hr
    · split at hr
      · exact List.mem_singleton.1 hr ▸ .of_leaf (by show 8 ≤ 16; decide) rfl fun e => hf (e ▸ hlow)
      · cases hr
  exact raiseAll_get (fun h => hf (.inl h)) hl y

@[simp] theorem dropVerify_get (n : Nat) (s : State) (f : Fld) : (dropVerify n s).get f = s.get f := by
  unfold dropVerify; dsimp only; split <;> rfl

theorem linkDown_get {f : Fld} (hf : ¬ LinkKey f.key) {n : Nat} (hn : n < 64) (s : State) : (linkDown n s).get f = s.get f := by
  have hkey : LinkKey (R.LKN_STAT.ADMIT n).key ∧ LinkKey (R.LKN_STAT.ID_RESULT n).key ∧ LinkKey (R.LKN_DELAY.D n).key
      ∧ LinkKey (R.LKN_STAT.OWNER_TX n).key ∧ LinkKey (R.LKN_PARAM.STATUS n).key ∧ LinkKey (R.LKN_CAUSE.PARAM_FAIL n).key
      ∧ LinkKey (R.BC_STAT.STATE n).key ∧ LinkKey (R.BC_STAT.HELD_OUT n).key := by
    simp only [LinkKey, ReportKey, Fld.key, R.LKN_STAT.ADMIT, R.LKN_STAT.ID_RESULT, R.LKN_DELAY.D, R.LKN_STAT.OWNER_TX, R.LKN_PARAM.STATUS,
      R.LKN_CAUSE.PARAM_FAIL, R.BC_STAT.STATE, R.BC_STAT.HELD_OUT]
    omega
  obtain ⟨hadmit, hid, hdelay, howner, hstatus, hfail, hbal, hheld⟩ := hkey
  have hoff : (Src.LKN_PARAM_FAIL n).Off f := .of_leaf (by show 2 ≤ 16; decide) rfl fun e => hf (e ▸ hfail)
  unfold linkDown
  extract_lets a b c d e g
  have hd : d.get f = s.get f := by
    simp only [d, c, b, a, disown, State.modLink_get, dropVerify_get, State.get_set_outside hf hadmit, State.get_set_outside hf hid,
      State.get_set_outside hf hdelay, State.get_set_outside hf howner]
  have he : e.get f = s.get f := by
    unfold e
    split
    · rw [raise_get (fun h => hf (.inl h)) hoff, State.get_set_outside hf hstatus, hd]
    · exact hd
  unfold excludeCell setBal
  rw [checkStrings_get hf, State.get_set_outside hf hheld, State.modCell_get, State.get_set_outside hf hbal]
  exact he

theorem leaveUp_get {f : Fld} (hf : ¬ LinkKey f.key) {n : Nat} (hn : n < 64) (s : State) : (leaveUp n s).get f = s.get f := by
  unfold leaveUp
  split
  · exact linkDown_get hf hn s
  · rfl

/-! ### Fields that a lane which comes up leaves, R162 and R163 -/

section
variable {f : Fld} (hf : ¬ LaneKey f.key)
include hf

theorem get_set_laneKey {g : Fld} (hg : 0x10100 ≤ g.key / 32 ∧ g.key / 32 < 0x11100) (s : State) (v : Nat) : (s.set g v).get f = s.get f :=
  State.get_set_outside hf (.inr hg) s v

theorem freshReceive_get {n : Nat} (hn : n < 64) (s : State) : (freshReceive n s).get f = s.get f := by
  unfold freshReceive dropReceive State.setBit
  rw [State.modLane_get, get_set_laneKey hf, get_set_laneKey hf, get_set_laneKey hf, get_set_laneKey hf]
  all_goals
    simp only [Fld.key, R.LN_STAT.RX_INV, R.LN_STAT.SIGNAL, R.LN_STAT.CDR_LOCK, R.LN_STAT.ALIGNED]
    omega

theorem get_set_laneState {n : Nat} (hn : n < 64) (s : State) (v : Nat) : (s.set (R.LN_STAT.STATE n) v).get f = s.get f :=
  get_set_laneKey hf (by simp only [Fld.key, R.LN_STAT.STATE]; omega) s v

theorem startAttempt_get {n : Nat} (hn : n < 64) (k : Nat) (s : State) : (startAttempt n k s).get f = s.get f := by
  unfold startAttempt
  extract_lets a b
  have ha : a.get f = s.get f := by
    have hattempt := get_set_laneKey hf (g := R.LN_STAT.ATTEMPT n) (by simp only [Fld.key, R.LN_STAT.ATTEMPT]; omega)
    exact (hattempt _ k).trans (get_set_laneState hf hn s 2)
  have hb : b.get f = s.get f := by
    unfold b
    split
    · exact (freshReceive_get hf (by unfold mirror; omega) a).trans ha
    · exact ha
  rw [State.modLane_get, freshReceive_get hf hn, hb]

theorem bringUp_get {n : Nat} (hn : n < 64) (s : State) : (bringUp n s).get f = s.get f := by
  have hup : (leaveUp n s).get f = s.get f := leaveUp_get (fun h => hf (.inl h)) hn s
  unfold bringUp
  extract_lets x
  split_ifs
  · rw [State.modLane_get, get_set_laneState hf hn, hup]
  · rw [get_set_laneState hf hn, hup]
  · rw [get_set_laneState hf hn, startAttempt_get hf hn, hup]
  · rw [startAttempt_get hf hn, hup]
  · rw [get_set_laneState hf hn, hup]

end

/-! ### The timescale and the device state while lanes come up or go down -/

theorem checkStrings_reported (s : State) : Reported s (checkStrings s) := by
  refine State.each_reported s _ _ fun t x => ?_
  dsimp only
  refine Reported.trans ?_ (raiseAll_reported _ _)
  exact .of rfl rfl rfl

theorem setBal_reported (n st : Nat) (s : State) : Reported s (setBal n st s) := (State.set_reported s _ st).trans (.of rfl rfl rfl)

theorem excludeCell_reported (n : Nat) (s : State) : Reported s (excludeCell n s) :=
  ((setBal_reported n 0 s).trans (State.set_reported _ _ 0)).trans (checkStrings_reported _)

/-- The timescale stands, and the device state but for an entry to Safe. -/
structure TimeKept (s t : State) : Prop where
  ts : t.ts = s.ts
  state : t.pw.state = s.pw.state ∨ t.pw.state = .safe

theorem TimeKept.of {s t : State} (hts : t.ts = s.ts) (hpw : t.pw = s.pw) : TimeKept s t := ⟨hts, .inl (by rw [hpw])⟩
theorem TimeKept.refl (s : State) : TimeKept s s := .of rfl rfl

theorem TimeKept.trans {a b c : State} (h : TimeKept a b) (k : TimeKept b c) : TimeKept a c := by
  refine ⟨k.ts.trans h.ts, ?_⟩
  rcases k.state with e | e
  · rw [e]; exact h.state
  · exact .inr e

theorem Reported.timeKept {s t : State} (h : Reported s t) : TimeKept s t := ⟨h.ts, h.state⟩

/-- A link that goes down enters Safe where a report of it is Black, and leaves the timescale. -/
theorem linkDown_timeKept (n : Nat) (s : State) : TimeKept s (linkDown n s) := by
  have hverify : ∀ x, TimeKept x (dropVerify n x) := by
    intro x
    unfold dropVerify
    dsimp only
    split <;> exact .of rfl rfl
  have hfields : TimeKept s (disown n (((s.set (R.LKN_STAT.ADMIT n) 0).set (R.LKN_STAT.ID_RESULT n) 0).set (R.LKN_DELAY.D n) 0)) := .of rfl rfl
  unfold linkDown
  extract_lets a b c d e g
  have hd : TimeKept c d := .of rfl rfl
  have he : Reported d e := .ite ((State.set_reported d _ 3).trans (raise_reported ..)) (.refl d)
  have hg : TimeKept e g := .of rfl rfl
  exact ((((hfields.trans (hverify b)).trans hd).trans he.timeKept).trans hg).trans (excludeCell_reported n g).timeKept

theorem leaveUp_timeKept (n : Nat) (s : State) : TimeKept s (leaveUp n s) := by
  unfold leaveUp
  split
  · exact linkDown_timeKept n s
  · exact .refl s

theorem startAttempt_ts (n k : Nat) (s : State) : (startAttempt n k s).ts = s.ts := by
  unfold startAttempt freshReceive dropReceive
  simp only [State.modLane_ts, State.set_ts, State.setBit_ts]
  split
  · simp only [State.modLane_ts, State.set_ts, State.setBit_ts]
  · simp only [State.set_ts]

theorem bringUp_ts (n : Nat) (s : State) : (bringUp n s).ts = s.ts := by
  have hup := (leaveUp_timeKept n s).ts
  unfold bringUp
  extract_lets x
  split_ifs
  · rw [State.modLane_ts, State.set_ts, hup]
  · rw [State.set_ts, hup]
  · rw [State.set_ts, startAttempt_ts, hup]
  · rw [startAttempt_ts, hup]
  · rw [State.set_ts, hup]

/-- An entry to Safe that no Black report makes (R116, R531). -/
theorem toSafe_state (s : State) : (toSafe s).pw.state = .safe := by
  have henter : Reported ({ s with pw := { s.pw with state := .safe } }.set O.RUN_REQUEST 0) (enterSafe s).1 := by
    unfold enterSafe
    exact ((parkCells_reported _).trans (phasorStart_reported _)).trans (stopInjection_reported _)
  rw [toSafe_eq]
  exact (henter.trans (report_reported _ _)).state.elim id id

end Sys2Proof.Machine
end

section
/-!
PROOFS. The commands of 04_clocks_plls.md, part 1: the sequence of Cold hold and the release of the core clock (R47, R70, R99, R105, R125).
-/
namespace Sys2Proof.Machine

/-! ### The core clock is released, R70 -/

/-- The power chapter at the start of Boot, with the straps sampled (R47, R70). -/
def State.bootPower (s : State) (straps : Nat) : Power :=
  { s.pw with
    state := .boot, straps := straps, coldHold := false, selfTest := true, selfTestDone := false, slateStart := s.bit R.START_STAT.SLATE,
    romOnly := false, fwRuns := false, stage := 2, bootAt := s.now }

/-- Boot before the lanes take their states: the reset values of the position, the LFSRs, the timescale's saves and the qualification time of PLL-A. -/
def releaseCore (straps : Nat) (s : State) : State :=
  let a := (positionResets ({ s with pw := s.bootPower straps }.set R.START_STAT.PENDING 1)).each [0, 1, 2, 3] loadDither
  let b := a.draw.2.modTs fun t => { t with opsecBase := a.mram.opsec, bins := a.mram.bins, epoch := a.draw.1 % 2 ^ 32 }
  (b.draw.2.modSec fun x => { x with challenge := b.draw.1 % 2 ^ 256 }).set R.CLK_PLLLK.QUAL_US (min 65535 s.pw.ch.qualUs)

/-- Lanes take their states, and what Boot finds is reported in one core cycle (R106, R129). -/
theorem enterBoot_eq (straps : Nat) (s : State) :
    ∃ l, (∀ r ∈ l, r ∈ [Src.TS_OPSEC_TORN, Src.CLK_REF_DEFERRED, Src.CLK_LOCK_FILTER, Src.WF_BANK_LEVEL])
      ∧ enterBoot straps s = raiseAll l (foundTorn ((releaseCore straps s).each lanes64 bringUp)) := by
  refine ⟨_, ?_, rfl⟩
  intro r hr
  simp only [List.mem_append] at hr
  rcases hr with ((hr | hr) | hr) | hr
  all_goals
    split at hr
    · simp [List.mem_singleton.1 hr]
    · cases hr

/-- `t` has the power chapter, the MRAM and PENDING of `s`. -/
structure BootKept (s t : State) : Prop where
  pw : t.pw = s.pw
  mram : t.mram = s.mram
  pending : t.get R.START_STAT.PENDING = s.get R.START_STAT.PENDING

theorem BootKept.refl (s : State) : BootKept s s := ⟨rfl, rfl, rfl⟩

theorem BootKept.set {s t : State} {f : Fld} (h : BootKept s t) (hf : f.key ≠ R.START_STAT.PENDING.key) (v : Nat) : BootKept s (t.set f v) :=
  ⟨h.pw, h.mram, (State.get_set_of_ne t v hf).trans h.pending⟩

theorem BootKept.each {α : Type} {s t : State} {l : List α} {e : α → State → State} (h : BootKept s t)
    (he : ∀ a ∈ l, ∀ x, BootKept s x → BootKept s (e a x)) : BootKept s (t.each l e) := State.each_keeps h he

/-- The fields of the CAN controller that a restart writes (R110). -/
def canFields : List Fld := [R.FN_COUNTS.TEC, R.FN_COUNTS.REC, R.FN_STAT.BUS]

theorem canRestart_onlyRegs (s : State) : OnlyRegs s (canRestart s) canFields :=
  (((OnlyRegs.of_regs rfl _).set 0 (by simp [canFields])).set 0 (by simp [canFields])).set (f := R.FN_STAT.BUS) _ (by simp [canFields])

theorem canRestart_bootKept (s : State) : BootKept s (canRestart s) := ⟨rfl, rfl, canRestart_onlyRegs s _ (by decide)⟩

theorem positionResets_bootKept (s : State) : BootKept s (positionResets s) := by
  unfold positionResets cobResets
  extract_lets n a b c d
  have ha : BootKept s a := (canRestart_bootKept s).set (by decide) _
  have hb : BootKept s b := ha.each fun j _ x hx => by
    refine (hx.set ?_ _).set ?_ _ <;> simp only [Fld.key, O.RPDO_COB, O.TPDO_COB, obj, R.START_STAT.PENDING] <;> omega
  have hc : BootKept s c := hb.each fun p _ x hx => hx.set (by simp only [Fld.key, R.CLK_SEED.SEED, R.START_STAT.PENDING]; omega) _
  have hd : BootKept s d := hc.set (by decide) _
  exact ((hd.set (by decide) _).set (by decide) _).set (by decide) _

theorem loadDither_bootKept (p : Nat) (s : State) : BootKept s (loadDither p s) := by
  unfold loadDither
  split
  · exact ⟨rfl, rfl, rfl⟩
  · exact .refl s

theorem BootKept.trans {s t u : State} (h : BootKept s t) (k : BootKept t u) : BootKept s u :=
  ⟨k.pw.trans h.pw, k.mram.trans h.mram, k.pending.trans h.pending⟩

/-- What the release of the core clock leaves before the lanes come up. -/
theorem releaseCore_holds (straps : Nat) (s : State) :
    (releaseCore straps s).pw = s.bootPower straps ∧ (releaseCore straps s).get R.START_STAT.PENDING = 1
      ∧ (releaseCore straps s).get R.CLK_PLLLK.QUAL_US = min 65535 s.pw.ch.qualUs ∧ (releaseCore straps s).ts.opsecBase = s.mram.opsec := by
  unfold releaseCore
  extract_lets a b
  have ha : BootKept ({ s with pw := s.bootPower straps }.set R.START_STAT.PENDING 1) a :=
    (positionResets_bootKept _).each fun p _ x hx => hx.trans (loadDither_bootKept p x)
  clear_value a
  refine ⟨ha.pw, ?_, ?_, congrArg Mram.opsec ha.mram⟩
  · rw [State.get_set_of_ne _ _ (by decide)]
    exact ha.pending.trans (State.get_set_self _ R.START_STAT.PENDING 1)
  · rw [State.get_set_self]
    exact Nat.mod_eq_of_lt (by show _ < 65536; omega)

/-- The start of Boot: the lanes and what is found leave the power chapter, PENDING, the qualification time and the operating seconds. -/
theorem enterBoot_holds (straps : Nat) (s : State) :
    (enterBoot straps s).pw = s.bootPower straps ∧ (enterBoot straps s).get R.START_STAT.PENDING = 1
      ∧ (enterBoot straps s).get R.CLK_PLLLK.QUAL_US = min 65535 s.pw.ch.qualUs ∧ (enterBoot straps s).ts.opsecBase = s.mram.opsec := by
  obtain ⟨hpw, hpending, hqual, hopsec⟩ := releaseCore_holds straps s
  obtain ⟨l, hl, heq⟩ := enterBoot_eq straps s
  rw [heq]
  generalize releaseCore straps s = x at *
  have hlow : ∀ r ∈ l, r.Low := fun r hr => by
    have := hl r hr
    simp only [List.mem_cons, List.not_mem_nil, or_false] at this
    rcases this with rfl | rfl | rfl | rfl <;> exact .of_leaf (by decide) rfl (by decide)
  have hoff : ∀ r ∈ l, r.Off R.CLK_PLLLK.QUAL_US := fun r hr => by
    have := hl r hr
    simp only [List.mem_cons, List.not_mem_nil, or_false] at this
    rcases this with rfl | rfl | rfl | rfl <;> exact .of_leaf (by decide) rfl (by decide)
  have hboot : x.inState [.armed, .run] = false := by rw [State.inState, hpw]; rfl
  have hlanes : PowerKept x (x.each lanes64 bringUp) := (PowerKept.refl x).each fun n hn y hy => bringUp_kept hboot (lane_lt hn) hy
  have hqual' : (x.each lanes64 bringUp).get R.CLK_PLLLK.QUAL_US = min 65535 s.pw.ch.qualUs :=
    (State.each_get (fun n hn y => bringUp_get (by decide) (lane_lt hn) y) x).trans hqual
  have hts : (x.each lanes64 bringUp).ts = x.ts :=
    State.each_keeps (P := fun y => y.ts = x.ts) rfl fun n _ y hy => (bringUp_ts n y).trans hy
  generalize x.each lanes64 bringUp = y at *
  have hkept := raiseAll_kept hboot (hlanes.congr rfl rfl : PowerKept x (foundTorn y)) hlow
  refine ⟨hkept.pw.trans hpw, (hkept.keepAlive _ (by decide)).trans hpending, ?_, ?_⟩
  · rw [raiseAll_get (by decide) hoff]
    exact hqual'
  · rw [(raiseAll_reported l _).ts]
    exact (congrArg Ts.opsecBase hts).trans hopsec

/-! ### The sequence of Cold hold, R105 -/

theorem windowDone_due {s : State} (h : s.inHold = true) (hready : s.pw.ch.rcReady = true) (hpassed : s.pw.ch.refPassed = false) (pass : Bool) :
    windowDone pass s = if pass then s.modCh (fun c => { c with refPassed := true }) else takeReset (latch 4 0 s) :=
  if_pos ⟨h, hready, by simp [hpassed]⟩

/-- The state after a lock that PLL-A, or a later PLL, declares in Cold hold (R99, R105, R125). -/
def State.locked (s : State) (p : Pll) (qualUs : Nat) : State :=
  let x := s.modCh fun c => { c with locks := setBitAt c.locks (pllNum p) true, qualUs := if p = .a then qualUs else c.qualUs }
  if p = .t then x.modTs (fun t => { t with tsc := 0, running := true }) else x

/-- A PLL may declare lock in Cold hold: PLL-A from its start, the others from the passed window of CKREF on (R105). -/
def State.mayLock (s : State) : Pll → Bool
  | .a => s.pw.ch.pllA
  | _ => s.pw.ch.refPassed

/-- The core clock waits for all four locks (R105 step 6). -/
theorem lockDeclared_hold {s : State} {p : Pll} (h : s.inHold = true) (hable : s.mayLock p = true)
    (hnew : bitAt s.pw.ch.locks (pllNum p) = false) (qualUs straps : Nat) :
    lockDeclared p qualUs straps s =
      if (s.locked p qualUs).pw.ch.locks = 15 then enterBoot straps (s.locked p qualUs) else s.locked p qualUs := by
  unfold lockDeclared
  rw [if_pos h]
  exact if_pos ⟨hable, by simp [hnew]⟩

/-- A reset that ends in Cold hold starts its sequence afresh (R105). -/
theorem takeReset_ch {s : State} {c : ResetCause} (h : s.pw.cause = some c) (hdrop : s.dropsFor c.code = false) : (takeReset s).pw.ch = {} := by
  rw [takeReset_of_cause h, hdrop]
  simp [endReset]

/-- Settles O5: each step of Cold hold waits for the one before, a failed window and the timer are resets (`takeReset_latch`), and the last lock enters
Boot (`enterBoot_holds`). -/
theorem coldHoldSequence : Obligations.ColdHoldSequence := by
  unfold Obligations.ColdHoldSequence
  refine ⟨?rcReady, ?windowGood, ?windowBad, ?pllA, ?lockA, ?lockT, ?lockLast, ?timeout⟩
  case rcReady => exact fun s h => congrArg Host.Outcome.next (if_pos h)
  case windowGood => exact fun s h hready hpassed => congrArg Host.Outcome.next (windowDone_due h hready hpassed true)
  case windowBad =>
    intro s h hready hpassed hfresh
    have hend := takeReset_latch hfresh 4 0
    exact ⟨_, congrArg Host.Outcome.next (windowDone_due h hready hpassed false), hend.state, hend.pwren, hend.code⟩
  case pllA => exact fun s h => congrArg Host.Outcome.next (if_pos h)
  case lockA =>
    intro s q st h hpll hlocks
    have hnew : bitAt s.pw.ch.locks (pllNum .a) = false := by rw [hlocks]; rfl
    have hlocks' : (s.locked .a q).pw.ch.locks = 1 := by
      show setBitAt s.pw.ch.locks 0 true = 1
      rw [hlocks]
      rfl
    refine congrArg Host.Outcome.next ((lockDeclared_hold (p := .a) h hpll hnew q st.val).trans ?_)
    rw [if_neg (by omega), ← hlocks']
    rfl
  case lockT =>
    intro s q st h hpassed hlocks
    have hnew : bitAt s.pw.ch.locks 3 = false := decide_eq_false (by omega)
    have hlocks' : (s.locked .t q).pw.ch.locks = s.pw.ch.locks + 8 := by
      show setBitAt s.pw.ch.locks 3 true = _
      simp [setBitAt, hnew]
    refine congrArg Host.Outcome.next ((lockDeclared_hold (p := .t) h hpassed hnew q st.val).trans ?_)
    rw [if_neg (by omega), ← hlocks']
    rfl
  case lockLast =>
    intro s q st h hpassed hlocks _ hmin hmax _
    have hnew : bitAt s.pw.ch.locks (pllNum .c) = false := by rw [hlocks]; rfl
    have hlocks' : (s.locked .c q).pw.ch.locks = 15 := by
      show setBitAt s.pw.ch.locks 1 true = 15
      rw [hlocks]
      rfl
    have hboot := (lockDeclared_hold (p := .c) h hpassed hnew q st.val).trans (if_pos hlocks')
    obtain ⟨hpw, hpending, hqual, hopsec⟩ := enterBoot_holds st.val (s.locked .c q)
    refine ⟨_, congrArg Host.Outcome.next hboot, ?_, ?_, ?_, ?_, ?_, hpending, ?_, hopsec⟩
    iterate 5 rw [hpw]; rfl
    rw [hqual]
    show min 65535 s.pw.ch.qualUs = s.pw.ch.qualUs
    omega
  case timeout =>
    intro s h hfresh hloss heject
    have hend := takeReset_latch hfresh 6 0
    rw [State.dropsFor_eq hloss heject] at hend
    have hch : (takeReset (latch 6 0 s)).pw.ch = {} := by
      rw [latch_noReset hfresh]
      exact takeReset_ch rfl (State.dropsFor_eq hloss heject 6)
    exact ⟨_, congrArg Host.Outcome.next (if_pos h), hend.state, hend.pwren, hch, hend.code⟩

end Sys2Proof.Machine
end

section
/-!
PROOFS. The commands of 04_clocks_plls.md, part 2: CKREF trips, the losses of the synthesizers, and their relock (R102, R106, R112, R116 to R118).
-/
namespace Sys2Proof.Machine

/-- What the effect on `n` brings about, and no other effect undoes, holds after all. -/
theorem State.each_sets {α : Type} {Q : State → Prop} {s : State} {l : List α} {f : α → State → State} {n : α} (hn : n ∈ l)
    (hset : ∀ x, Q (f n x)) (hQ : ∀ a ∈ l, ∀ x, Q x → Q (f a x)) : Q (s.each l f) := by
  induction l generalizing s with
  | nil => cases hn
  | cons a l ih =>
    have hrest := fun b hb => hQ b (List.mem_cons_of_mem a hb)
    rcases List.mem_cons.1 hn with rfl | hn
    · exact State.each_keeps (s := f n s) (hset s) hrest
    · exact ih hn hrest

/-! ### CKREF trips, R102 -/

/-- The state in which cause 0x03 is latched while running: CKREF_OK is 0. -/
def State.ckrefLost (s : State) : State := withCause (s.causeOf 3 0) (s.set R.CLK_STAT.CKREF_OK 0)

theorem State.inState_mono {s : State} {k l : List DevState} (h : s.inState k = true) (hkl : ∀ d ∈ k, d ∈ l) : s.inState l = true :=
  List.contains_iff_mem.2 (hkl _ (List.contains_iff_mem.1 h))

theorem State.inState_disjoint {s : State} {k l : List DevState} (h : s.inState k = true) (hkl : ∀ d ∈ k, d ∉ l) : s.inState l = false :=
  Bool.eq_false_iff.2 fun hl => hkl _ (List.contains_iff_mem.1 h) (List.contains_iff_mem.1 hl)

theorem State.not_coldHold_of_cored {s : State} (h : s.cored = true) : s.pw.state ≠ .coldHold := by
  intro e
  simp [State.cored, State.inState, e] at h

theorem ckrefTrip_running {s : State} (h : s.cored = true) (hmon : s.clk.monIgnored = false) (hfresh : s.noReset = true) :
    ckrefTrip s = if s.active then blackLanes s.ckrefLost else s.ckrefLost := by
  have hnone : s.pw.cause.isNone = true := by simp_all [State.noReset]
  have hlatch : latch 3 0 (s.set R.CLK_STAT.CKREF_OK 0) = s.ckrefLost := latch_noReset (s := s.set R.CLK_STAT.CKREF_OK 0) hfresh 3 0
  unfold ckrefTrip
  rw [if_neg (State.not_coldHold_of_cored h), if_pos ⟨h, by simp [hmon]⟩, hlatch]
  simp only [hnone, true_and]
  rfl

theorem State.ckrefLost_pw (s : State) : s.ckrefLost.pw = { s.pw with cause := some ⟨3, s.ts.tsc, s.ts.running, 0, s.cmCycle⟩ } := by
  rw [State.ckrefLost, State.causeOf_running (by decide)]
  rfl

theorem State.ckrefLost_ok (s : State) : s.ckrefLost.get R.CLK_STAT.CKREF_OK = 0 := State.get_set_self s R.CLK_STAT.CKREF_OK 0

theorem State.ckrefLost_onlyRegs (s : State) : OnlyRegs s s.ckrefLost [R.CLK_STAT.CKREF_OK] :=
  (OnlyRegs.of_regs rfl _).set 0 (List.mem_singleton_self _)

theorem State.ckrefLost_up (s : State) (n : Nat) : s.ckrefLost.up n = s.up n := by
  have hkey : R.CLK_STAT.CKREF_OK.key ≠ (R.LN_STAT.STATE n).key := by
    simp only [Fld.key, R.CLK_STAT.CKREF_OK, R.LN_STAT.STATE]
    omega
  exact congrArg (· == 4) (s.get_set_of_ne 0 hkey)

/-! ### The loss of PLL-A, R117 -/

theorem safeGenerator_keeps (s : State) :
    (∀ n, (safeGenerator s).laneEn n = s.laneEn n) ∧ (safeGenerator s).mram = s.mram ∧ (safeGenerator s).pending = s.pending := by
  unfold safeGenerator
  split
  · refine State.each_keeps (P := fun x => (∀ n, x.laneEn n = s.laneEn n) ∧ x.mram = s.mram ∧ x.pending = s.pending) ⟨fun _ => rfl, rfl, rfl⟩
      fun m _ x ⟨hen, hmram, hpending⟩ => ?_
    split
    · exact ⟨fun n => (x.laneEn_set_state m 1 n).trans (hen n), hmram, hpending⟩
    · exact ⟨hen, hmram, hpending⟩
  · exact ⟨fun _ => rfl, rfl, rfl⟩

/-- The safe-state generator takes every enabled lane where PLL-C is locked. -/
theorem safeGenerator_state {s : State} (h : s.cored = true) {n : Nat} (hn : n < 64) (hen : s.laneEn n = true) :
    (safeGenerator s).get (R.LN_STAT.STATE n) = if s.bit R.CLK_STAT.LOCK_C then 1 else s.get (R.LN_STAT.STATE n) := by
  split
  · exact (safeGenerator_lane ‹_› h hn hen).1
  · rw [safeGenerator, if_neg fun hc => ‹¬ _› hc.1]

/-- The cleared state of the gated domains, with the states of the enabled lanes (log 75). -/
theorem gateCore_holds (s : State) :
    (gateCore s).pw = { s.pw with state := .gated, selfTest := false } ∧ (gateCore s).mram = s.mram ∧ (gateCore s).pending = s.pending
      ∧ ∀ n, n < 64 → s.laneEn n = true → (gateCore s).get (R.LN_STAT.STATE n) = (safeGenerator s).get (R.LN_STAT.STATE n) := by
  obtain ⟨hen, hmram, hpending⟩ := safeGenerator_keeps s
  unfold gateCore
  extract_lets g c t
  have ht : t.mram = g.mram ∧ t.pending = g.pending := by
    refine State.each_keeps (P := fun x => x.mram = g.mram ∧ x.pending = g.pending) ⟨clearState_mram g, clearState_pending g⟩ fun n _ x hx => ?_
    split <;> exact hx
  have hstates : ∀ n, n < 64 → s.laneEn n = true → t.get (R.LN_STAT.STATE n) = g.get (R.LN_STAT.STATE n) := by
    intro n hn hlane
    have hset : ∀ x : State, (x.set (R.LN_STAT.STATE n) (g.get (R.LN_STAT.STATE n))).get (R.LN_STAT.STATE n) = g.get (R.LN_STAT.STATE n) := fun x =>
      (x.get_set_self _ _).trans (Nat.mod_eq_of_lt (g.get_lt _))
    refine State.each_sets (Q := fun x => x.get (R.LN_STAT.STATE n) = g.get (R.LN_STAT.STATE n)) (List.mem_range.2 hn) (fun x => ?_)
      (fun m _ x hx => ?_)
    · rw [if_pos ((hen n).trans hlane)]
      exact hset x
    · split
      · by_cases hm : m = n
        · exact hm ▸ hset x
        · refine (State.get_set_of_ne x _ ?_).trans hx
          simp only [Fld.key, R.LN_STAT.STATE]
          omega
      · exact hx
  have hpw : g.pw = s.pw := safeGenerator_pw s
  clear_value t c
  exact ⟨congrArg (fun p : Power => { p with state := .gated, selfTest := false }) hpw, ht.1.trans hmram, ht.2.trans hpending, hstates⟩

/-- LOCK_A and the comparators of PLL-A, after the loss (R98, R117). -/
def coreGated (pin : Bool) (hi : Nat) (s : State) : State :=
  ((s.set R.CLK_STAT.LOCK_A 0).setBit R.CLK_PLLLK.LO pin).set R.CLK_PLLLK.HI (if pin then 0 else hi)

theorem coreGated_rest (pin : Bool) (hi : Nat) (s : State) :
    (coreGated pin hi s).pw = s.pw ∧ (coreGated pin hi s).mram = s.mram ∧ (coreGated pin hi s).pending = s.pending := ⟨rfl, rfl, rfl⟩

theorem coreGated_get (pin : Bool) (hi : Nat) (s : State) :
    (coreGated pin hi s).get R.CLK_STAT.LOCK_A = 0 ∧ (coreGated pin hi s).get R.CLK_PLLLK.LO = b2n pin
      ∧ ∀ n, n < 64 → (coreGated pin hi s).get (R.LN_STAT.STATE n) = s.get (R.LN_STAT.STATE n) := by
  unfold coreGated State.setBit
  refine ⟨?_, ?_, fun n hn => ?_⟩
  · rw [State.get_set_of_ne _ _ (by decide), State.get_set_of_ne _ _ (by decide)]
    exact State.get_set_self s R.CLK_STAT.LOCK_A 0
  · rw [State.get_set_of_ne _ _ (by decide), State.get_set_self]
    cases pin <;> rfl
  · have hkey : ∀ f : Fld, 0xD0000 ≤ f.addr → f.key ≠ (R.LN_STAT.STATE n).key := by
      intro f hf
      simp only [Fld.key, R.LN_STAT.STATE]
      omega
    rw [State.get_set_of_ne _ _ (hkey _ (by decide)), State.get_set_of_ne _ _ (hkey _ (by decide)), State.get_set_of_ne _ _ (hkey _ (by decide))]

/-- Cause 0x05 is latched, and the core domains are gated until the reset. -/
theorem pllALost_running {s : State} (h : s.cored = true) (hfresh : s.noReset = true) (pin : Bool) :
    pllALost pin s = coreGated pin (s.get R.CLK_PLLLK.HI) (gateCore (withCause (s.causeOf 5 0) s)) := by
  unfold pllALost
  rw [if_pos h, latch_noReset hfresh]
  rfl

/-! ### The loss of PLL-C, R112 and R116 -/

/-- PLL-C is out, and the CAN clock has left it (R112). -/
def dropPllC (s : State) : State :=
  let x := leavePllC ((s.set R.CLK_STAT.LOCK_C 0).inc R.CLK_LOSSCNT.LOSS_C)
  if s.bit R.CLK_MUX_CAN.CURRENT ∧ !x.clk.canHeld then canRestart x else x

/-- With a current partner the device releases its cells and becomes standby. -/
def givePartner (s : State) : State :=
  let x := { s with dx := { s.dx with releaseNext := s.ownedMask } }
  raise Src.CLK_PLLC_LOST_PARTNER (if x.dx.decided then x.set R.BAL_STAT.ROLE 2 else x)

/-- Alone the device reports the loss, and enters Safe where the class of the source says so (R439). -/
def loseAlone (s : State) : State :=
  let x := raise Src.CLK_PLLC_LOST_ALONE s
  if x.inState [.armed, .run] ∧ x.acts Src.CLK_PLLC_LOST_ALONE then toSafe x else x

theorem pllCLost_locked {s : State} (h : s.cored = true) (hlock : s.bit R.CLK_STAT.LOCK_C = true) :
    pllCLost s = stopLanes (if (dropPllC s).dx.current then givePartner (dropPllC s) else loseAlone (dropPllC s)) := by
  unfold pllCLost
  rw [if_pos ⟨h, hlock⟩]
  exact (apply_ite stopLanes _ _ _).symm

/-- The fields of the CAN clock multiplexer that the forced path writes (R112). -/
def canMuxFields : List Fld := [R.CLK_MUX_CAN.CURRENT, R.CLK_MUX_CAN.SEL, R.CLK_MUX_CAN.BUSY, R.CLK_STAT.CAN_BUSY]

theorem leavePllC_onlyRegs (s : State) : OnlyRegs s (leavePllC s) canMuxFields := by
  unfold leavePllC
  split
  · exact ((((OnlyRegs.of_regs rfl _).set 0 (by simp [canMuxFields])).set 0 (by simp [canMuxFields])).set 0 (by simp [canMuxFields])).set
      (f := R.CLK_STAT.CAN_BUSY) 0 (by simp [canMuxFields])
  · exact .of_regs rfl _

theorem leavePllC_pw_dx (s : State) : (leavePllC s).pw = s.pw ∧ (leavePllC s).dx = s.dx := by
  unfold leavePllC
  split <;> exact ⟨rfl, rfl⟩

theorem dropPllC_pw_dx (s : State) : (dropPllC s).pw = s.pw ∧ (dropPllC s).dx = s.dx := by
  unfold dropPllC
  extract_lets x
  have hx : x.pw = s.pw ∧ x.dx = s.dx := leavePllC_pw_dx _
  clear_value x
  split <;> exact hx

/-- Away from the CAN controller and its multiplexer the registers are those of the lost lock. -/
theorem dropPllC_get {f : Fld} (hmux : f.key ∉ canMuxFields.map Fld.key) (hcan : f.key ∉ canFields.map Fld.key) (s : State) :
    (dropPllC s).get f = ((s.set R.CLK_STAT.LOCK_C 0).inc R.CLK_LOSSCNT.LOSS_C).get f := by
  unfold dropPllC
  extract_lets x
  have hx : x.get f = ((s.set R.CLK_STAT.LOCK_C 0).inc R.CLK_LOSSCNT.LOSS_C).get f := leavePllC_onlyRegs _ f hmux
  split
  · rw [canRestart_onlyRegs x f hcan, hx]
  · exact hx

theorem dropPllC_lock (s : State) : (dropPllC s).get R.CLK_STAT.LOCK_C = 0 := by
  rw [dropPllC_get (by decide) (by decide), State.get_inc_of_ne _ (by decide)]
  exact State.get_set_self s R.CLK_STAT.LOCK_C 0

/-- Where the CAN clock is not divided from PLL-C, the lock is lost and counted, and no more. -/
theorem dropPllC_apart {s : State} (h : s.bit R.CLK_MUX_CAN.CURRENT = false) :
    dropPllC s = (s.set R.CLK_STAT.LOCK_C 0).inc R.CLK_LOSSCNT.LOSS_C := by
  have hcurrent : ((s.set R.CLK_STAT.LOCK_C 0).inc R.CLK_LOSSCNT.LOSS_C).bit R.CLK_MUX_CAN.CURRENT = false := by
    rw [State.bit, State.get_inc_of_ne _ (by decide)]
    exact (s.bit_set_of_ne 0 (by decide)).trans h
  unfold dropPllC
  dsimp only
  rw [if_neg (by simp [h]), leavePllC, if_neg (by simp [hcurrent])]

theorem raise_alone_get {f : Fld} (hf : ¬ ReportKey f.key) (hne : R.CLK_CAUSE.PLLC_LOST_ALONE.key ≠ f.key) (s : State) :
    (raise Src.CLK_PLLC_LOST_ALONE s).get f = s.get f := raise_get hf (.of_leaf (by decide) rfl hne) s

theorem loseAlone_get {f : Fld} (hf : ¬ ReportKey f.key) (hne : R.CLK_CAUSE.PLLC_LOST_ALONE.key ≠ f.key) (s : State) :
    (loseAlone s).get f = s.get f := by
  unfold loseAlone
  extract_lets x
  have hx : x.get f = s.get f := raise_alone_get hf hne s
  split
  · rw [toSafe_get hf, hx]
  · exact hx

/-- Outside Armed and Run the loss is reported, and no more. -/
theorem loseAlone_idle {s : State} (h : s.inState [.armed, .run] = false) : loseAlone s = raise Src.CLK_PLLC_LOST_ALONE s := by
  have hstate : (raise Src.CLK_PLLC_LOST_ALONE s).inState [.armed, .run] = false := by
    rcases (raise_reported Src.CLK_PLLC_LOST_ALONE s).state with e | e
    · rw [State.inState, e]; exact h
    · rw [State.inState, e]; rfl
  exact if_neg (by simp [hstate])

/-- Whether the loss acts depends on its class in FC_SEV alone (R439). -/
theorem State.acts_lostAlone {s t : State} (h : t.get (R.FC_SEV 13 2) = s.get (R.FC_SEV 13 2)) :
    t.acts Src.CLK_PLLC_LOST_ALONE = s.acts Src.CLK_PLLC_LOST_ALONE := congrArg (fun c => decide (c ≥ 2)) h

/-- In Armed and Run a loss whose class acts ends in Safe (R116). -/
theorem loseAlone_safe {s : State} (h : s.inState [.armed, .run] = true) (hacts : s.acts Src.CLK_PLLC_LOST_ALONE = true) :
    (loseAlone s).pw.state = .safe := by
  have hacts' : (raise Src.CLK_PLLC_LOST_ALONE s).acts Src.CLK_PLLC_LOST_ALONE = true :=
    (State.acts_lostAlone (raise_alone_get (by decide) (by decide) s)).trans hacts
  unfold loseAlone
  extract_lets x
  rcases (raise_reported Src.CLK_PLLC_LOST_ALONE s).state with e | e
  · have hstate : x.inState [.armed, .run] = true := by rw [State.inState, e]; exact h
    rw [if_pos ⟨hstate, hacts'⟩]
    exact toSafe_state x
  · have hstate : x.inState [.armed, .run] = false := by rw [State.inState, e]; rfl
    rw [if_neg (by simp [hstate])]
    exact e

/-! ### Lanes that stop, R116 and R172 -/

theorem stopLanes_state (s : State) {n : Nat} (hn : n < 64) : (stopLanes s).get (R.LN_STAT.STATE n) = 0 := by
  have hkey : ¬ LinkKey (R.LN_STAT.STATE n).key := by
    simp only [LinkKey, ReportKey, Fld.key, R.LN_STAT.STATE, O.RUN_REQUEST, obj, List.mem_cons, List.not_mem_nil, or_false]
    omega
  refine State.each_sets (Q := fun x => x.get (R.LN_STAT.STATE n) = 0) (List.mem_range.2 hn)
    (fun x => State.get_set_self _ (R.LN_STAT.STATE n) 0) (fun m hm x hx => ?_)
  by_cases hmn : m = n
  · exact hmn ▸ State.get_set_self _ (R.LN_STAT.STATE m) 0
  · have hne : (R.LN_STAT.STATE m).key ≠ (R.LN_STAT.STATE n).key := by
      simp only [Fld.key, R.LN_STAT.STATE]
      omega
    rw [State.get_set_of_ne _ _ hne, leaveUp_get hkey (lane_lt hm), hx]

theorem stopLanes_get {f : Fld} (hf : ¬ LaneKey f.key) (s : State) : (stopLanes s).get f = s.get f := by
  unfold stopLanes
  refine State.each_get (fun n hn x => ?_) s
  rw [get_set_laneState hf (lane_lt hn), leaveUp_get (fun h => hf (.inl h)) (lane_lt hn)]

theorem stopLanes_safe {s : State} (h : s.pw.state = .safe) : (stopLanes s).pw.state = .safe :=
  State.each_keeps (P := fun x => x.pw.state = .safe) h fun n _ x hx => (leaveUp_timeKept n x).state.elim (fun e => e.trans hx) id

/-! ### Relock, R92 and R116 -/

theorem loadDither_clk (p : Nat) (s : State) :
    loadDither p s = { s with clk := (loadDither p s).clk } ∧ (loadDither p s).clk.attempt = s.clk.attempt
      ∧ (s.bit (ditherBit p) = true → Tab.get 0 (loadDither p s).clk.lfsr p = max 1 (s.get (R.CLK_SEED.SEED p))) := by
  unfold loadDither
  split
  · exact ⟨rfl, rfl, fun _ => by simp⟩
  · exact ⟨rfl, rfl, fun h => absurd h ‹_›⟩

/-- An attempt that has just begun stops the dividers of its PLL. -/
theorem State.pllStopped_of_attempt {s : State} {k : Nat} (h : Tab.get 0 s.clk.attempt k = s.now + 1) : s.pllStopped k = true := by
  simp [State.pllStopped, h]

/-- Settles O6: a CKREF trip latches its cause (`ckrefTrip_running`), PLL-A gates the core (`gateCore_holds`), PLL-C stops the lanes (`pllCLost_locked`,
`stopLanes_state`) and may end in Safe (`loseAlone_safe`). -/
theorem clockLosses : Obligations.ClockLosses := by
  unfold Obligations.ClockLosses
  refine ⟨?deferred, ?start, ?running, ?lossA, ?lossC, ?lossCSafe, ?lanesStop, ?lossS, ?lossT, ?relock, ?relockA, ?tReturn, ?monitor⟩
  case deferred =>
    intro s h hhold hready
    exact congrArg Host.Outcome.next ((if_pos h).trans ((if_neg (by simp [hhold])).trans (if_pos (by simp [hready]))))
  case start =>
    intro s h hmon hfresh
    have hcored : s.cored = true := State.inState_mono h (by decide)
    have hactive : s.active = false := State.inState_disjoint h (by decide)
    refine ⟨s.ckrefLost, congrArg Host.Outcome.next ((ckrefTrip_running hcored hmon hfresh).trans (if_neg (by simp [hactive]))), s.ckrefLost_ok,
      s.ckrefLost_onlyRegs, ?_⟩
    rw [← s.ckrefLost_pw]
    rfl
  case running =>
    intro s h hmon hfresh hlock
    have hcored : s.cored = true := State.inState_mono h (by decide)
    obtain ⟨hregs, hpw⟩ := blackLanes_regs_pw s.ckrefLost
    have hlock' : s.ckrefLost.bit R.CLK_STAT.LOCK_C = true := (s.bit_set_of_ne (f := R.CLK_STAT.CKREF_OK) 0 (by decide)).trans hlock
    refine ⟨blackLanes s.ckrefLost, congrArg Host.Outcome.next ((ckrefTrip_running hcored hmon hfresh).trans (if_pos h)), ?_,
      hpw.trans s.ckrefLost_pw, fun n hn hup => blackLanes_urgQ hlock' hn ((s.ckrefLost_up n).trans hup), fun f hf => ?_⟩
    · rw [State.get_of_regs hregs, s.ckrefLost_ok]
    · rw [State.get_of_regs hregs, s.ckrefLost_onlyRegs f hf]
  case lossA =>
    intro s pin h hfresh
    let x := withCause (s.causeOf 5 0) s
    obtain ⟨hpw, hmram, hpending, hlanes⟩ := gateCore_holds x
    obtain ⟨hpw', hmram', hpending'⟩ := coreGated_rest pin (s.get R.CLK_PLLLK.HI) (gateCore x)
    obtain ⟨hlock, hlo, hstates⟩ := coreGated_get pin (s.get R.CLK_PLLLK.HI) (gateCore x)
    refine ⟨_, congrArg Host.Outcome.next (pllALost_running h hfresh pin), hlock, hlo, (hpw'.trans hpw).trans ?_, fun n hn hen => ?_, hmram'.trans hmram,
      hpending'.trans hpending⟩
    · rw [withCause_pw, State.causeOf_running (by decide)]
    · rw [hstates n hn, hlanes n hn hen]
      exact safeGenerator_state (s := x) h hn hen
  case lossC =>
    intro s h hlock hmux hdx hidle
    have hx := dropPllC_apart hmux
    have hloss := pllCLost_locked h hlock
    rw [hx] at hloss
    refine congrArg Host.Outcome.next (hloss.trans ?_)
    rw [if_neg (by simpa using hdx), loseAlone_idle (s := (s.set R.CLK_STAT.LOCK_C 0).inc R.CLK_LOSSCNT.LOSS_C) hidle]
  case lossCSafe =>
    intro s h hlock hdx hstate hacts
    obtain ⟨hpw, hdx'⟩ := dropPllC_pw_dx s
    have hloss := pllCLost_locked h hlock
    rw [hdx', if_neg (by simp [hdx])] at hloss
    have hstate' : (dropPllC s).inState [.armed, .run] = true := by rw [State.inState, hpw]; exact hstate
    have hsev : (dropPllC s).get (R.FC_SEV 13 2) = s.get (R.FC_SEV 13 2) := by
      rw [dropPllC_get (by decide) (by decide), State.get_inc_of_ne _ (by decide), State.get_set_of_ne _ _ (by decide)]
    have hacts' : (dropPllC s).acts Src.CLK_PLLC_LOST_ALONE = true := (State.acts_lostAlone hsev).trans hacts
    refine ⟨_, congrArg Host.Outcome.next hloss, stopLanes_safe (loseAlone_safe hstate' hacts'), ?_⟩
    rw [stopLanes_get (by decide), loseAlone_get (by decide) (by decide), dropPllC_lock]
  case lanesStop =>
    intro s h hlock
    exact ⟨_, congrArg Host.Outcome.next (pllCLost_locked h hlock), fun n hn => stopLanes_state _ hn⟩
  case lossS => exact fun s h hlock => congrArg Host.Outcome.next (if_pos ⟨h, hlock⟩)
  case lossT => exact fun s h hlock => congrArg Host.Outcome.next (if_pos ⟨h, hlock⟩)
  case relock =>
    intro s h hlock
    let x := s.modClk fun c => { c with attempt := Tab.set 0 c.attempt 1 (s.now + 1) }
    have hstart : relockAttempt .c s = loadDither 1 x := if_pos ⟨h, by simp [hlock]⟩
    obtain ⟨hframe, hattempt, hlfsr⟩ := loadDither_clk 1 x
    have hbegun : Tab.get 0 (loadDither 1 x).clk.attempt 1 = s.now + 1 := by
      rw [hattempt]
      exact Tab.get_set_self 0 s.clk.attempt 1 (s.now + 1)
    refine ⟨_, congrArg Host.Outcome.next hstart, State.pllStopped_of_attempt ?_, hbegun, hlfsr, hframe⟩
    rw [hframe]
    exact hbegun
  case relockA => exact fun s => congrArg Host.Outcome.next (if_neg (by simp))
  case tReturn =>
    intro s hreturn hlock
    refine ⟨_, congrArg Host.Outcome.next (if_pos ⟨hreturn, hlock⟩), State.get_set_self s R.CLK_STAT.TS_FALLBACK 0,
      (OnlyRegs.of_regs (s := s) rfl _).set 0 (List.mem_singleton_self _), rfl⟩
  case monitor => exact fun s h => congrArg Host.Outcome.next (if_pos h)

end Sys2Proof.Machine
end

section
/-!
PROOFS. The commands of 04_clocks_plls.md, part 3: the clock multiplexers (R107 to R110) and spread (R94, R112).
-/
namespace Sys2Proof.Machine

/-- A field of one bit reads as the truth value written. -/
theorem State.bit_setBit_self {f : Fld} (hw : f.width = 1) (s : State) (b : Bool) : (s.setBit f b).bit f = b := by
  rw [State.bit, State.setBit, State.get_set_self, hw]
  cases b <;> rfl

/-! ### The CAN multiplexer, R107 to R110 -/

/-- The CAN multiplexer with a source selected. -/
def State.canSelected (s : State) (sel : Nat) (busy : Bool) : State :=
  ((s.set R.CLK_MUX_CAN.SEL sel).setBit R.CLK_MUX_CAN.BUSY busy).setBit R.CLK_STAT.CAN_BUSY busy

theorem State.canSelected_holds (s : State) (sel : Nat) (busy : Bool) :
    (s.canSelected sel busy).get R.CLK_MUX_CAN.SEL = sel % 2 ∧ (s.canSelected sel busy).bit R.CLK_MUX_CAN.BUSY = busy
      ∧ (s.canSelected sel busy).bit R.CLK_STAT.CAN_BUSY = busy
      ∧ OnlyRegs s (s.canSelected sel busy) [R.CLK_MUX_CAN.SEL, R.CLK_MUX_CAN.BUSY, R.CLK_STAT.CAN_BUSY] := by
  refine ⟨?_, ?_, State.bit_setBit_self rfl _ busy, ?_⟩
  · exact (State.get_set_of_ne _ _ (by decide)).trans
      ((State.get_set_of_ne _ _ (by decide)).trans (State.get_set_self s R.CLK_MUX_CAN.SEL sel))
  · exact (State.bit_set_of_ne _ _ (by decide)).trans (State.bit_setBit_self rfl _ busy)
  · exact (((OnlyRegs.of_regs rfl _).set sel (by simp)).set (b2n busy) (by simp)).set (f := R.CLK_STAT.CAN_BUSY) (b2n busy) (by simp)

/-- A select that finds the multiplexer free is busy where it names the other source (R107). -/
theorem selectMux_free {s : State} {sel : Nat} (hspread : s.bit R.CLK_STAT.SPREAD_ACT = false) (hfree : s.bit R.CLK_MUX_CAN.BUSY = false) :
    selectMux .can sel s =
      if sel % 2 ≠ s.get R.CLK_MUX_CAN.CURRENT then frameLost (s.canSelected sel true) else s.canSelected sel false := by
  have hcurrent : (s.set R.CLK_MUX_CAN.SEL sel).get R.CLK_MUX_CAN.CURRENT = s.get R.CLK_MUX_CAN.CURRENT := s.get_set_of_ne sel (by decide)
  have hbusy : (s.set R.CLK_MUX_CAN.SEL sel).bit R.CLK_MUX_CAN.BUSY = false := (s.bit_set_of_ne sel (by decide)).trans hfree
  unfold selectMux
  dsimp only
  rw [if_neg (by simp [hspread]), hcurrent, hbusy]
  by_cases h : sel % 2 = s.get R.CLK_MUX_CAN.CURRENT
  · simp [h, State.canSelected]
  · simp [h, bne_iff_ne.2 h, State.canSelected]

theorem takeSource_can_holds (s : State) :
    (takeSource .can s).get R.CLK_MUX_CAN.CURRENT = s.get R.CLK_MUX_CAN.SEL % 2 ∧ (takeSource .can s).get R.CLK_MUX_CAN.BUSY = 0
      ∧ (takeSource .can s).get R.CLK_STAT.CAN_BUSY = 0
      ∧ OnlySets s (takeSource .can s) [R.CLK_MUX_CAN.CURRENT, R.CLK_MUX_CAN.BUSY, R.CLK_STAT.CAN_BUSY] := by
  unfold takeSource
  dsimp only
  refine ⟨?_, ?_, State.get_set_self _ R.CLK_STAT.CAN_BUSY 0, ?_⟩
  · rw [State.get_set_of_ne _ _ (by decide), State.get_set_of_ne _ _ (by decide)]
    exact State.get_set_self s R.CLK_MUX_CAN.CURRENT _
  · rw [State.get_set_of_ne _ _ (by decide)]
    exact State.get_set_self _ R.CLK_MUX_CAN.BUSY 0
  · exact (((OnlySets.refl s _).set _ (by simp)).set _ (by simp)).set _ (by simp)

/-- A CAN controller that restarts is error active on the Root, and not on the bus of a Member (R110, R528). -/
theorem canRestart_holds (s : State) :
    (canRestart s).get R.FN_COUNTS.TEC = 0 ∧ (canRestart s).get R.FN_COUNTS.REC = 0
      ∧ (canRestart s).get R.FN_STAT.BUS = if s.isRoot then 0 else 3 := by
  unfold canRestart frameLost
  simp only [State.modNet_get]
  refine ⟨?_, ?_, ?_⟩
  · rw [State.get_set_of_ne _ _ (by decide), State.get_set_of_ne _ _ (by decide)]
    exact State.get_set_self s R.FN_COUNTS.TEC 0
  · rw [State.get_set_of_ne _ _ (by decide)]
    exact State.get_set_self _ R.FN_COUNTS.REC 0
  · rw [State.get_set_self]
    split <;> rfl

/-! ### Spread, R94 -/

/-- CLK_SPREAD written, with SPREAD_ACT after EN. -/
def spreadWritten (v : Nat) (s : State) : State :=
  (((s.setBit R.CLK_SPREAD.EN (bitAt v 3)).set R.CLK_SPREAD.MODE (bits v 2 2)).set R.CLK_SPREAD.DEPTH (v % 4)).setBit R.CLK_STAT.SPREAD_ACT
    (bitAt v 3)

theorem spreadWritten_holds (v : Nat) (s : State) :
    (spreadWritten v s).get R.CLK_SPREAD.EN = b2n (bitAt v 3) ∧ (spreadWritten v s).get R.CLK_STAT.SPREAD_ACT = b2n (bitAt v 3)
      ∧ (spreadWritten v s).get R.CLK_SPREAD.DEPTH = v % 4
      ∧ OnlySets s (spreadWritten v s) [R.CLK_SPREAD.EN, R.CLK_SPREAD.MODE, R.CLK_SPREAD.DEPTH, R.CLK_STAT.SPREAD_ACT] := by
  have hbit : b2n (bitAt v 3) % 2 = b2n (bitAt v 3) := by cases bitAt v 3 <;> rfl
  unfold spreadWritten State.setBit
  refine ⟨?_, ?_, ?_, ?_⟩
  · rw [State.get_set_of_ne _ _ (by decide), State.get_set_of_ne _ _ (by decide), State.get_set_of_ne _ _ (by decide), State.get_set_self]
    exact hbit
  · rw [State.get_set_self]
    exact hbit
  · rw [State.get_set_of_ne _ _ (by decide), State.get_set_self]
    exact Nat.mod_mod v 4
  · exact ((((OnlySets.refl s _).set _ (by simp)).set _ (by simp)).set _ (by simp)).set _ (by simp)

theorem State.inConfigure {s : State} (h : s.pw.state = .configure) : s.inState [.configure] = true := by simp [State.inState, h]

theorem writeSpread_off {s : State} {v : Nat} (h : s.pw.state = .configure) (hen : bitAt v 3 = false) : writeSpread v s = spreadWritten v s := by
  unfold writeSpread spreadWritten
  simp [State.inConfigure h, hen]

/-- Under the conditions of R94, with MODE 0, spread is accepted and the egress lane is held down (R25). -/
theorem writeSpread_on {s : State} {v : Nat} (h : s.pw.state = .configure) (hen : bitAt v 3 = true) (hmode : bitAt v 2 = false)
    (hphasor : s.get R.MET_STAT.PH_STATE = 0) (hwf : s.bit R.WF_CTRL.EN = false) (hcan : s.bit R.CLK_MUX_CAN.CURRENT = true) :
    writeSpread v s = egressDown (spreadWritten v s) := by
  unfold writeSpread spreadWritten
  simp [State.inConfigure h, hen, hmode, hphasor, hwf, hcan]

/-- Spread is refused while the CAN clock is not divided from PLL-C (R94). -/
theorem writeSpread_refused {s : State} {v : Nat} (h : s.pw.state = .configure) (hen : bitAt v 3 = true)
    (hcan : s.bit R.CLK_MUX_CAN.CURRENT = false) : writeSpread v s = raise Src.CLK_SETTING_REFUSED s := by
  unfold writeSpread refuse
  simp [State.inConfigure h, hen, hcan]

/-- After its fall the egress link is down, up before or not. -/
theorem egressDown_linkUp (s : State) : (egressDown s).get R.EG_STAT.LINK_UP = 0 := by
  unfold egressDown
  split
  · rw [raise_get (by decide) (.of_leaf (by decide) rfl (by decide)), State.get_set_of_ne _ _ (by decide)]
    exact State.get_set_self s R.EG_STAT.LINK_UP 0
  next h =>
    rw [State.get_set_of_ne _ _ (by decide)]
    simpa [State.bit] using h

/-- The fall of the egress link leaves the fields that are neither its own nor a word of reports. -/
theorem egressDown_get {f : Fld} (hf : ¬ ReportKey f.key)
    (hne : f.key ∉ [R.EG_STAT.LINK_UP, R.EG_STAT.AN_DONE, R.EG_CAUSE.LINK_DOWN].map Fld.key) (s : State) : (egressDown s).get f = s.get f := by
  simp only [List.map_cons, List.map_nil, List.mem_cons, List.not_mem_nil, or_false, not_or] at hne
  obtain ⟨hup, hdone, hleaf⟩ := hne
  unfold egressDown
  split
  · rw [raise_get hf (.of_leaf (by decide) rfl (Ne.symm hleaf)), State.get_set_of_ne _ _ (Ne.symm hdone), State.get_set_of_ne _ _ (Ne.symm hup)]
  · exact State.get_set_of_ne _ _ (Ne.symm hdone)

/-- Settles O7: a select, its switch and its hang (`selectMux_free`, `takeSource_can_holds`), the forced switch, the restart of the CAN controller
(`canRestart_holds`), and the conditions of spread (`writeSpread_on`, `writeSpread_refused`). -/
theorem clockMultiplexers : Obligations.ClockMultiplexers := by
  unfold Obligations.ClockMultiplexers
  refine ⟨?select, ?selectRefused, ?complete, ?hangCan, ?hangCkout, ?force, ?forceRefused, ?idle, ?spreadOff, ?spreadOn, ?spreadRefused, ?ramp⟩
  case select =>
    intro s sel hspread hfree
    have hselect := selectMux_free (sel := sel) hspread hfree
    by_cases h : sel % 2 = s.get R.CLK_MUX_CAN.CURRENT
    · obtain ⟨hsel, hbusy, hcan, honly⟩ := s.canSelected_holds sel false
      rw [if_neg (by simp [h])] at hselect
      exact ⟨_, congrArg Host.Outcome.next hselect, hsel, by simp [hbusy, h], by simp [hcan, h], honly, rfl, fun _ => rfl⟩
    · obtain ⟨hsel, hbusy, hcan, honly⟩ := s.canSelected_holds sel true
      rw [if_pos h] at hselect
      exact ⟨_, congrArg Host.Outcome.next hselect, hsel, hbusy.trans (by simp [h]), hcan.trans (by simp [h]), honly, rfl, fun e => absurd e h⟩
  case selectRefused => exact fun s h => congrArg Host.Outcome.next (if_pos ⟨h, rfl⟩)
  case complete =>
    intro s hbusy hcurrent hsel
    exact ⟨takeSource .can s, congrArg Host.Outcome.next (if_pos ⟨hbusy, hcurrent, hsel⟩), takeSource_can_holds s⟩
  case hangCan => exact fun s h => congrArg Host.Outcome.next (if_pos h)
  case hangCkout => exact fun s h => congrArg Host.Outcome.next (if_pos h)
  case force =>
    intro s h
    obtain ⟨hcurrent, hbusy, -⟩ := takeSource_can_holds s
    exact ⟨takeSource .can s, congrArg Host.Outcome.next (if_pos h), hcurrent, hbusy⟩
  case forceRefused => exact fun s h => congrArg Host.Outcome.next (if_neg (by simp [h]))
  case idle =>
    intro s h
    let x := s.setBit R.CLK_MUX_CAN.CONSUMER_IDLE false
    obtain ⟨htec, hrec, hbus⟩ := canRestart_holds x
    have hrestart : consumerIdle false s = canRestart x := if_pos h
    have hidle : x.get R.CLK_MUX_CAN.CONSUMER_IDLE = 0 := State.get_set_self s R.CLK_MUX_CAN.CONSUMER_IDLE 0
    have honly : OnlyRegs s x [R.CLK_MUX_CAN.CONSUMER_IDLE] := (OnlyRegs.of_regs (s := s) rfl _).set 0 (List.mem_singleton_self _)
    exact ⟨_, congrArg Host.Outcome.next hrestart, (canRestart_onlyRegs x _ (by decide)).trans hidle, htec, hrec, hbus, rfl,
      honly.trans (canRestart_onlyRegs x)⟩
  case spreadOff =>
    intro s v h hen
    obtain ⟨hen', hact, hdepth, honly⟩ := spreadWritten_holds v.toNat s
    exact ⟨_, congrArg Host.Outcome.next (writeSpread_off h hen), by rw [hen', hen]; rfl, by rw [hact, hen]; rfl, hdepth, honly⟩
  case spreadOn =>
    intro s v h hen hmode hphasor hwf hcan
    obtain ⟨hen', hact, hdepth, -⟩ := spreadWritten_holds v.toNat s
    rw [hen] at hen' hact
    refine ⟨_, congrArg Host.Outcome.next (writeSpread_on h hen hmode hphasor hwf hcan), ?_, ?_, ?_, egressDown_linkUp _⟩
    · exact (egressDown_get (by decide) (by decide) _).trans hen'
    · exact (egressDown_get (by decide) (by decide) _).trans hact
    · exact (egressDown_get (by decide) (by decide) _).trans hdepth
  case spreadRefused => exact fun s v h hen hcan => congrArg Host.Outcome.next (writeSpread_refused h hen hcan)
  case ramp =>
    intro s h
    let x := ((s.set R.CLK_STAT.SPREAD_ACT 0).set R.CLK_SPREAD.EN 0).modClk fun c => { c with ramp := false, canHeld := false }
    obtain ⟨htec, hrec, -⟩ := canRestart_holds x
    have hact : x.get R.CLK_STAT.SPREAD_ACT = 0 :=
      (State.get_set_of_ne (f := R.CLK_SPREAD.EN) _ 0 (by decide)).trans (State.get_set_self s R.CLK_STAT.SPREAD_ACT 0)
    have hen : x.get R.CLK_SPREAD.EN = 0 := State.get_set_self _ R.CLK_SPREAD.EN 0
    exact ⟨canRestart x, congrArg Host.Outcome.next (if_pos h), (canRestart_onlyRegs x _ (by decide)).trans hact,
      (canRestart_onlyRegs x _ (by decide)).trans hen, htec, hrec, rfl⟩

end Sys2Proof.Machine
end

section
/-!
PROOFS. A step (Machine/Step.lean) and a tick of time (Machine/Tick.lean): the count of TSC (R22, R118), the phase steps of the tick clock (R95, R96), the
dither (R92) and the end of a save of the operating seconds (R128), as the parts in which a tick passes; and that every command completes.
-/
namespace Sys2Proof.Machine

/-! ### Phase counts: two's complement of 16 bits -/

theorem sext16_bounds (x : Nat) : -32768 ≤ sext 16 x ∧ sext 16 x ≤ 32767 := by
  unfold sext
  split <;> omega

theorem sext16_ofInt {x : Int} (hlo : -32768 ≤ x) (hhi : x ≤ 32767) : sext 16 (ofInt 16 x % 2 ^ 16) = x := by
  unfold sext ofInt
  split <;> omega

/-! ### The parts of a tick -/

/-- The frequency correction has gathered its steps, where the tick clock runs locked (R136). -/
def State.gathered (s : State) : State := if s.ts.running ∧ s.bit R.CLK_STAT.LOCK_T then gatherSteps s else s

/-- TSC has counted the tick. -/
def State.tscCounted (s : State) : State := countTsc s.gathered

/-- In a cycle of the reference the dither LFSRs have stepped (R92). -/
def State.ditherStepped (s : State) : State := if s.refCycle then s.tscCounted.each [0, 1, 2, 3] stepDither else s.tscCounted

/-- All that a tick does to the clocks before the next core cycle begins. -/
def State.clocked (s : State) : State := if s.refCycle then applyStep s.ditherStepped else s.ditherStepped

/-- The next core cycle begins. -/
def newCycle (s : State) : State := { dropReady s with now := s.now + 1, cyc := { sentFrom := s.spine.sent.length } }

/-- What the clocks can change in a tick. -/
structure Clocked (s t : State) : Prop where
  frame : t = { s with ts := t.ts, regs := t.regs, clk := t.clk }
  regs : OnlyRegs s t [R.CLK_PHASE_T.PENDING, R.CLK_PHASE_T.PHASE]

theorem Clocked.of_regs {s t : State} (h : t = { s with ts := t.ts, regs := t.regs, clk := t.clk }) (hr : t.regs = s.regs) : Clocked s t :=
  ⟨h, .of_regs hr _⟩

theorem Clocked.refl (s : State) : Clocked s s := .of_regs rfl rfl

theorem Clocked.trans {s t u : State} (h : Clocked s t) (k : Clocked t u) : Clocked s u :=
  ⟨k.frame.trans (congrArg (fun x : State => { x with ts := u.ts, regs := u.regs, clk := u.clk }) h.frame),
    fun f hf => (k.regs f hf).trans (h.regs f hf)⟩

theorem Clocked.ite {s t u : State} {c : Prop} [Decidable c] (ht : Clocked s t) (hu : Clocked s u) : Clocked s (if c then t else u) := by
  split <;> assumption

theorem Clocked.now {s t : State} (h : Clocked s t) : t.now = s.now := by rw [h.frame]
theorem Clocked.mram {s t : State} (h : Clocked s t) : t.mram = s.mram := by rw [h.frame]
theorem Clocked.spine {s t : State} (h : Clocked s t) : t.spine = s.spine := by rw [h.frame]
theorem Clocked.bit {s t : State} (h : Clocked s t) {f : Fld} (hf : f.key ∉ [R.CLK_PHASE_T.PENDING, R.CLK_PHASE_T.PHASE].map Fld.key) :
    t.bit f = s.bit f := by rw [State.bit, State.bit, h.regs f hf]

/-! ### Phase steps, R95 and R96 -/

theorem requestSteps_pending (d : Int) (s : State) :
    sext 16 ((requestSteps d s).get R.CLK_PHASE_T.PENDING) = clampInt (-32768) 32767 (sext 16 (s.get R.CLK_PHASE_T.PENDING) + d) := by
  have hclamp : ∀ x, -32768 ≤ clampInt (-32768) 32767 x ∧ clampInt (-32768) 32767 x ≤ 32767 := fun x => by unfold clampInt; split_ifs <;> omega
  rw [requestSteps, State.get_set_self]
  exact sext16_ofInt (hclamp _).1 (hclamp _).2

theorem requestSteps_onlyRegs (d : Int) (s : State) : OnlyRegs s (requestSteps d s) [R.CLK_PHASE_T.PENDING] :=
  (OnlyRegs.of_regs rfl _).set _ (List.mem_singleton_self _)

/-- The gathered part of a step becomes `a`. -/
def withStepAcc (a : Int) (s : State) : State := s.modTs fun t => { t with stepAcc := a }

/-- The step that the correction has gathered with a tick. -/
def State.stepDue (s : State) : Int :=
  if 10 ^ 10 ≤ s.ts.stepAcc + 128 * s.ts.freq then 1 else if s.ts.stepAcc + 128 * s.ts.freq ≤ -10 ^ 10 then -1 else 0

theorem gatherSteps_of_due {s : State} (h : s.stepDue ≠ 0) :
    gatherSteps s = requestSteps s.stepDue (withStepAcc (s.ts.stepAcc + 128 * s.ts.freq - s.stepDue * 10 ^ 10) s) := if_neg h

theorem State.stepDue_up {s : State} (h : 10 ^ 10 ≤ s.ts.stepAcc + 128 * s.ts.freq) : s.stepDue = 1 := if_pos h

theorem State.stepDue_down {s : State} (h : s.ts.stepAcc + 128 * s.ts.freq ≤ -10 ^ 10) : s.stepDue = -1 :=
  (if_neg (by omega)).trans (if_pos h)

theorem gatherSteps_clocked (s : State) : Clocked s (gatherSteps s) := by
  unfold gatherSteps
  extract_lets a n x
  split
  · exact .of_regs rfl rfl
  · exact ⟨rfl, (OnlyRegs.of_regs rfl _).set _ (by simp)⟩

/-- The gathering of steps leaves the rest of the timescale. -/
theorem gatherSteps_ts (s : State) : (gatherSteps s).ts = { s.ts with stepAcc := (gatherSteps s).ts.stepAcc } := by
  unfold gatherSteps
  extract_lets a n x
  split <;> rfl

/-- The interpolator moves by a step `d`, which leaves the pending count. -/
def movePhase (d : Int) (s : State) : State :=
  (s.set R.CLK_PHASE_T.PENDING (ofInt 16 (sext 16 (s.get R.CLK_PHASE_T.PENDING) - d))).set R.CLK_PHASE_T.PHASE
    (ofInt 7 ((s.get R.CLK_PHASE_T.PHASE : Int) + d))

theorem movePhase_onlyRegs (d : Int) (s : State) : OnlyRegs s (movePhase d s) [R.CLK_PHASE_T.PENDING, R.CLK_PHASE_T.PHASE] :=
  ((OnlyRegs.of_regs rfl _).set _ (by simp)).set _ (by simp)

theorem movePhase_pending (d : Int) (s : State) :
    (movePhase d s).get R.CLK_PHASE_T.PENDING = ofInt 16 (sext 16 (s.get R.CLK_PHASE_T.PENDING) - d) % 2 ^ 16 := by
  rw [movePhase, State.get_set_of_ne _ _ (by decide), State.get_set_self]
  rfl

theorem movePhase_phase (d : Int) (s : State) :
    ((movePhase d s).get R.CLK_PHASE_T.PHASE : Int) = ((s.get R.CLK_PHASE_T.PHASE : Int) + d) % 128 := by
  rw [movePhase, State.get_set_self, ofInt]
  show (((((s.get R.CLK_PHASE_T.PHASE : Int) + d) % 128).toNat % 128 : Nat) : Int) = _
  omega

/-- The step that leads a pending count toward 0. -/
def State.phaseStep (s : State) : Int := if sext 16 (s.get R.CLK_PHASE_T.PENDING) < 0 then -1 else 1

theorem applyStep_moves {s : State} (hlock : s.bit R.CLK_STAT.LOCK_T = true) (h : sext 16 (s.get R.CLK_PHASE_T.PENDING) ≠ 0) :
    applyStep s = movePhase s.phaseStep s := if_neg (by simp [hlock, h])

theorem applyStep_clocked (s : State) : Clocked s (applyStep s) := by
  unfold applyStep
  extract_lets p d
  split
  · exact .refl s
  · exact ⟨rfl, movePhase_onlyRegs d s⟩

theorem applyStep_ts_clk (s : State) : (applyStep s).ts = s.ts ∧ (applyStep s).clk = s.clk := by
  unfold applyStep
  extract_lets p d
  split <;> exact ⟨rfl, rfl⟩

/-! ### TSC, R22 and R118 -/

theorem countTsc_frame (s : State) : countTsc s = { s with ts := { s.ts with tsc := (countTsc s).ts.tsc } } := by
  unfold countTsc
  split <;> rfl

theorem countTsc_clocked (s : State) : Clocked s (countTsc s) := by
  rw [countTsc_frame]
  exact .of_regs rfl rfl

theorem countTsc_stopped {s : State} (h : s.ts.running = false) : countTsc s = s := by simp [countTsc, h]

theorem countTsc_tick {s : State} (h : s.ts.running = true) (hf : s.bit R.CLK_STAT.TS_FALLBACK = false) :
    (countTsc s).ts.tsc = (s.ts.tsc + 1) % 2 ^ 64 := by simp [countTsc, h, hf]

theorem countTsc_fallback {s : State} (h : s.ts.running = true) (hf : s.bit R.CLK_STAT.TS_FALLBACK = true) :
    (countTsc s).ts.tsc = (s.ts.tsc + ((s.now + 1) * 25 / 64 * 64 / 25 - s.now * 25 / 64 * 64 / 25)) % 2 ^ 64 := by
  simp [countTsc, h, hf]

theorem State.gathered_clocked (s : State) : Clocked s s.gathered := .ite (gatherSteps_clocked s) (.refl s)

theorem State.gathered_ts (s : State) : s.gathered.ts = { s.ts with stepAcc := s.gathered.ts.stepAcc } := by
  unfold State.gathered
  split
  · exact gatherSteps_ts s
  · rfl

theorem State.gathered_of_locked {s : State} (h : s.ts.running = true) (hlock : s.bit R.CLK_STAT.LOCK_T = true) : s.gathered = gatherSteps s :=
  if_pos ⟨h, hlock⟩

theorem State.gathered_of_stopped {s : State} (h : s.ts.running = false) : s.gathered = s := if_neg (by simp [h])

/-- The gathering of steps does not enter the count. -/
theorem State.tscCounted_tsc (s : State) : s.tscCounted.ts.tsc = (countTsc s).ts.tsc := by
  have hts := s.gathered_ts
  have hrun : s.gathered.ts.running = s.ts.running := by rw [hts]
  have htsc : s.gathered.ts.tsc = s.ts.tsc := by rw [hts]
  have hfall := s.gathered_clocked.bit (f := R.CLK_STAT.TS_FALLBACK) (by decide)
  have hnow := s.gathered_clocked.now
  simp only [State.tscCounted, countTsc, hrun, hfall, hnow, htsc]
  split <;> simp only [htsc]

theorem State.tscCounted_stopped {s : State} (h : s.ts.running = false) : s.tscCounted = s := by
  rw [State.tscCounted, s.gathered_of_stopped h, countTsc_stopped h]

theorem State.tscCounted_clk (s : State) : s.tscCounted.clk = s.clk := by
  have hgather : (gatherSteps s).clk = s.clk := by
    unfold gatherSteps
    extract_lets a n x
    split <;> rfl
  rw [State.tscCounted, countTsc_frame, State.gathered]
  split
  · exact hgather
  · rfl

/-! ### Dither, R92 -/

theorem stepDither_frame (p : Nat) (s : State) : stepDither p s = { s with clk := (stepDither p s).clk } := by
  unfold stepDither
  split <;> rfl

@[simp] theorem stepDither_bit (p : Nat) (s : State) (f : Fld) : (stepDither p s).bit f = s.bit f := by
  rw [stepDither_frame]; rfl

theorem stepDither_lfsr (q p : Nat) (s : State) :
    Tab.get 0 (stepDither q s).clk.lfsr p =
      if q = p ∧ s.bit (ditherBit q) = true then ditherNext (Tab.get 0 s.clk.lfsr p) else Tab.get 0 s.clk.lfsr p := by
  unfold stepDither
  by_cases hbit : s.bit (ditherBit q) = true
  · simp only [hbit, if_true, and_true]
    exact (Tab.get_modify ..).trans (by split <;> simp_all)
  · simp [hbit]

theorem stepDithers_frame (l : List Nat) (s : State) : s.each l stepDither = { s with clk := (s.each l stepDither).clk } :=
  State.each_keeps (P := fun x => x = { s with clk := x.clk }) rfl fun p _ x hx => by
    rw [stepDither_frame p x]; exact congrArg (fun y : State => { y with clk := (stepDither p x).clk }) hx

theorem stepDithers_lfsr {p : Nat} (hp : p < 4) {s : State} (hbit : s.bit (ditherBit p) = true) :
    Tab.get 0 (s.each [0, 1, 2, 3] stepDither).clk.lfsr p = ditherNext (Tab.get 0 s.clk.lfsr p) := by
  simp only [State.each_cons, State.each_nil]
  interval_cases p <;> simp [stepDither_lfsr, hbit]

/-! ### The clocks together -/

theorem State.tscCounted_clocked (s : State) : Clocked s s.tscCounted := s.gathered_clocked.trans (countTsc_clocked _)

theorem State.ditherStepped_frame (s : State) : s.ditherStepped = { s.tscCounted with clk := s.ditherStepped.clk } := by
  unfold State.ditherStepped
  split
  · exact stepDithers_frame _ _
  · rfl

theorem State.ditherStepped_regs (s : State) : s.ditherStepped.regs = s.tscCounted.regs := by rw [s.ditherStepped_frame]

theorem State.ditherStepped_clocked (s : State) : Clocked s s.ditherStepped := by
  refine s.tscCounted_clocked.trans ?_
  rw [s.ditherStepped_frame]
  exact .of_regs rfl rfl

theorem State.clocked_clocked (s : State) : Clocked s s.clocked :=
  .ite (s.ditherStepped_clocked.trans (applyStep_clocked _)) s.ditherStepped_clocked

theorem State.clocked_ts (s : State) : s.clocked.ts = s.tscCounted.ts := by
  have hdither : s.ditherStepped.ts = s.tscCounted.ts := by rw [s.ditherStepped_frame]
  unfold State.clocked
  split
  · exact (applyStep_ts_clk _).1.trans hdither
  · exact hdither

theorem State.clocked_stepAcc (s : State) : s.clocked.ts.stepAcc = s.gathered.ts.stepAcc := by
  rw [s.clocked_ts, State.tscCounted, countTsc_frame]

theorem State.clocked_saving (s : State) : s.clocked.ts.saving = s.ts.saving := by
  rw [s.clocked_ts, State.tscCounted, countTsc_frame, s.gathered_ts]

theorem State.clocked_clk {s : State} (h : s.refCycle = true) : s.clocked.clk = (s.tscCounted.each [0, 1, 2, 3] stepDither).clk := by
  rw [State.clocked, if_pos h, (applyStep_ts_clk _).2, State.ditherStepped, if_pos h]

/-- Between cycles of the reference the registers are left as the frequency correction leaves them. -/
theorem State.clocked_regs_between {s : State} (h : s.refCycle = false) : s.clocked.regs = s.gathered.regs := by
  rw [State.clocked, if_neg (by simp [h]), s.ditherStepped_regs, State.tscCounted, countTsc_frame]

/-! ### The end of a tick -/

theorem endOpsecSave_due {s : State} {v t : Nat} (h : s.ts.saving = some (v, t)) (hdue : t + 2048 ≤ s.now) : endOpsecSave s = endOpsec v s := by
  simp [endOpsecSave, h, hdue]

theorem newCycle_frame (s : State) :
    newCycle s = { s with now := s.now + 1, cyc := { sentFrom := s.spine.sent.length }, dx := { s.dx with ready := (newCycle s).dx.ready } } := by
  unfold newCycle dropReady
  split <;> rfl

/-- A save that ends changes the memory, and no save is under way. -/
theorem endOpsecSave_frame (s : State) :
    endOpsecSave s = { s with ts := { s.ts with saving := (endOpsecSave s).ts.saving }, mram := (endOpsecSave s).mram } := by
  unfold endOpsecSave
  split
  · split <;> rfl
  · rfl

theorem tick_eq (s : State) : tick s = endOpsecSave (newCycle s.clocked) := rfl

/-- After the clocks, a tick changes the core cycle, READY and the save under way. -/
theorem tick_frame (s : State) :
    tick s = { s.clocked with
      now := s.clocked.now + 1, cyc := { sentFrom := s.clocked.spine.sent.length }, dx := { s.clocked.dx with ready := (tick s).dx.ready },
      ts := { s.clocked.ts with saving := (tick s).ts.saving }, mram := (tick s).mram } := by
  have hready : (tick s).dx.ready = (newCycle s.clocked).dx.ready := by rw [tick_eq, endOpsecSave_frame]
  rw [hready]
  refine (endOpsecSave_frame (newCycle s.clocked)).trans ?_
  exact congrArg (fun x : State => { x with ts := { x.ts with saving := (tick s).ts.saving }, mram := (tick s).mram }) (newCycle_frame s.clocked)

theorem tick_regs (s : State) : (tick s).regs = s.clocked.regs := by rw [tick_frame]
theorem tick_clk (s : State) : (tick s).clk = s.clocked.clk := by rw [tick_frame]
theorem tick_tsc (s : State) : (tick s).ts.tsc = (countTsc s).ts.tsc := by rw [tick_frame, ← s.tscCounted_tsc, s.clocked_ts]
theorem tick_stepAcc (s : State) : (tick s).ts.stepAcc = s.gathered.ts.stepAcc := by rw [tick_frame, ← s.clocked_stepAcc]

/-- Each LFSR in use has stepped with a cycle of the reference. -/
theorem tick_lfsr {p : Nat} (hp : p < 4) {s : State} (href : s.refCycle = true) (hbit : s.bit (ditherBit p) = true) :
    Tab.get 0 (tick s).clk.lfsr p = ditherNext (Tab.get 0 s.clk.lfsr p) := by
  have hplace : (ditherBit p).key ∉ [R.CLK_PHASE_T.PENDING, R.CLK_PHASE_T.PHASE].map Fld.key := by interval_cases p <;> decide
  rw [tick_clk, s.clocked_clk href, stepDithers_lfsr hp ((s.tscCounted_clocked.bit hplace).trans hbit), s.tscCounted_clk]

theorem tick_onlyRegs (s : State) : OnlyRegs s (tick s) [R.CLK_PHASE_T.PENDING, R.CLK_PHASE_T.PHASE] := fun f hf =>
  (State.get_of_regs (tick_regs s) f).trans (s.clocked_clocked.regs f hf)

/-! ### Steps -/

theorem step_of_idle {s : State} (h : s.pending = []) : step s = .next (tick s) := by simp only [step, h]

/-- Every command completes. SORT and LOOP ask first whether an instruction is there to run (R346, R358). -/
theorem exec_completes (c : Instr) (s : State) : ∃ t, exec c s = .next t := by
  cases c
  case sort k =>
    show ∃ t, execSort k s = .next t
    unfold execSort
    split <;> exact ⟨_, rfl⟩
  case loop k =>
    show ∃ t, execLoop k s = .next t
    unfold execLoop
    split <;> exact ⟨_, rfl⟩
  all_goals exact ⟨_, rfl⟩

/-- Settles O56: a step runs the front command (by definition), which completes (`exec_completes`), and an idle step is a tick (`tick_frame`). -/
theorem stepTakesTheFrontCommand : Obligations.StepTakesTheFrontCommand := by
  unfold Obligations.StepTakesTheFrontCommand
  refine ⟨fun c s l => rfl, exec_completes, fun s h => ⟨tick s, step_of_idle h, ?now, ?cyc, ?frame, tick_onlyRegs s⟩⟩
  case now => rw [tick_frame, s.clocked_clocked.now]
  case cyc => rw [tick_frame, s.clocked_clocked.spine]
  case frame =>
    refine (tick_frame s).trans ?_
    rw [tick_frame s]
    exact congrArg (fun x : State => { x with
      now := s.clocked.now + 1, cyc := { sentFrom := s.clocked.spine.sent.length }, dx := { x.dx with ready := (tick s).dx.ready },
      ts := { s.clocked.ts with saving := (tick s).ts.saving }, mram := (tick s).mram }) s.clocked_clocked.frame

end Sys2Proof.Machine
end

section
/-!
PROOFS. The clock and the references of the Root (05_timescale.md): the discipline's states and its servo (R136, R137), samples of PTP and PPS (R132 to R134), and
what one tick does to TSC, the phase steps, the dither and a save.
-/
namespace Sys2Proof.Machine

/-! ### Discipline states, R137 and R139 -/

theorem setTsState_tsState (st : Nat) (s : State) : (setTsState st s).tsState = st % 8 := State.get_set_self _ R.TS_STAT.STATE st

theorem setTsState_onlyRegs (st : Nat) (s : State) : OnlyRegs s (setTsState st s) [R.TS_STAT.STATE] := by
  unfold setTsState
  extract_lets was x
  have hx : OnlyRegs s x [R.TS_STAT.STATE] := by unfold x; split <;> exact .of_regs rfl _
  exact hx.set st (List.mem_singleton_self _)

/-- A change of state leaves the timescale but for the instant at which LOCKED or FOLLOW ends. -/
theorem setTsState_ts (st : Nat) (s : State) : (setTsState st s).ts = { s.ts with lockedAt := (setTsState st s).ts.lockedAt } := by
  unfold setTsState
  extract_lets was x
  show x.ts = { s.ts with lockedAt := x.ts.lockedAt }
  unfold x
  split <;> rfl

theorem setTsState_leaves_lock {st : Nat} {s : State} (h : s.tsState = 2 ∨ s.tsState = 6) (hne : st ≠ s.tsState) :
    setTsState st s = (s.modTs fun t => { t with lockedAt := some t.tsc }).set R.TS_STAT.STATE st := by
  simp only [setTsState, if_pos (show (s.tsState = 2 ∨ s.tsState = 6) ∧ st ≠ s.tsState from ⟨h, hne⟩)]

theorem startHold_starts {s : State} (h : s.ts.holdSince = none) :
    startHold s = s.modTs fun t => { t with holdSince := some t.tsc, holdPassed := false, fLast := t.freq, tLast := t.tMean } := by
  simp [startHold, h]

theorem endSlew_idle {s : State} (h : s.bit R.TS_STAT.SLEWING = false) : endSlew s = s := by simp [endSlew, h]

/-! ### The servo, R136 -/

theorem clampInt_natAbs (x : Int) : (clampInt (-500000) 500000 x).natAbs ≤ 500000 := by
  unfold clampInt
  split_ifs <;> omega

/-- Where the servo reports that the correction is at its limit, the report leaves what it set (R136). -/
theorem refRange_ite {c : Prop} [Decidable c] (s : State) :
    (if c then raise Src.TS_REF_RANGE s else s).ts = s.ts ∧ (if c then raise Src.TS_REF_RANGE s else s).tsState = s.tsState := by
  split
  · exact ⟨(raise_reported ..).ts, raise_get (by decide) (.of_leaf (by decide) rfl (by decide)) s⟩
  · exact ⟨rfl, rfl⟩

theorem servo_tsState (x : Int) (s : State) : (servo x s).tsState = s.tsState := (refRange_ite _).2

theorem servo_freq (x : Int) (s : State) : (servo x s).ts.freq.natAbs ≤ 500000 := by
  rw [show (servo x s).ts = _ from (refRange_ite _).1]
  exact clampInt_natAbs _

/-- The servo sets the correction, its integral part, the residue and the time of the sample. -/
theorem servo_ts (x : Int) (s : State) :
    (servo x s).ts =
      { s.ts with freq := (servo x s).ts.freq, integ := (servo x s).ts.integ, resid := (servo x s).ts.resid, servoAt := (servo x s).ts.servoAt } := by
  rw [show (servo x s).ts = _ from (refRange_ite _).1]
  rfl

/-- TAI_OFFSET is to be set, and the run of samples is empty (R137). -/
theorem acquire_holds (x : Int) (s : State) :
    (acquire x s).tsState = s.tsState
      ∧ (acquire x s).ts = { s.ts with pendingTai := some (.acquire (s.taiPlus (roundEvenInt ((x : Rat) / 128)))), agree := [] } :=
  ⟨State.get_set_of_ne _ _ (by decide), rfl⟩

/-- The first sample starts acquisition, and the servo takes what the whole ticks leave (R137). -/
theorem refSample_free {s : State} (h : s.tsState = 0) (x : Int) :
    refSample x s = servo (x - 128 * roundEvenInt ((x : Rat) / 128))
      (acquire x (setTsState 1 (s.modTs fun t => { t with lastX := x, servoAt := none }))) := by
  have hfree : (s.modTs fun t => { t with lastX := x }).tsState = 0 := h
  simp only [refSample, hfree]
  rfl

theorem refSample_free_holds {s : State} (h : s.tsState = 0) (x : Int) :
    (refSample x s).tsState = 1 ∧ (refSample x s).ts.source = s.ts.source ∧ (∃ o, (refSample x s).ts.pendingTai = some (.acquire o))
      ∧ (refSample x s).ts.agree = [] ∧ (refSample x s).ts.freq.natAbs ≤ 500000 := by
  rw [refSample_free h]
  obtain ⟨hstate, hts⟩ := acquire_holds x (setTsState 1 (s.modTs fun t => { t with lastX := x, servoAt := none }))
  refine ⟨?_, ?_, ?_, ?_, servo_freq _ _⟩
  · rw [servo_tsState, hstate, setTsState_tsState]
  · rw [servo_ts, hts, setTsState_ts]; rfl
  · rw [servo_ts, hts]; exact ⟨_, rfl⟩
  · rw [servo_ts, hts]

/-! ### The loss of the reference, R137 and R139 -/

theorem clearAgree_holds (s : State) : (clearAgree s).tsState = s.tsState ∧ (clearAgree s).ts = { s.ts with agree := [] } :=
  ⟨State.get_set_of_ne _ _ (by decide), rfl⟩

/-- LOCKED is left for HOLDOVER, which starts with what LOCKED had. -/
theorem loseLock_holds {s : State} (h : s.tsState = 2) (hhold : s.ts.holdSince = none) :
    (loseLock s).tsState = 3 ∧ (loseLock s).ts.holdSince = some s.ts.tsc ∧ (loseLock s).ts.fLast = s.ts.freq
      ∧ (loseLock s).ts.lockedAt = some s.ts.tsc ∧ (loseLock s).ts.agree = [] := by
  let a := s.modTs fun t => { t with jumps := 0 }
  let b := (a.modTs fun t => { t with lockedAt := some t.tsc }).set R.TS_STAT.STATE 3
  let c := b.modTs fun t => { t with holdSince := some t.tsc, holdPassed := false, fLast := t.freq, tLast := t.tMean }
  have ha : a.tsState = 2 := h
  have hb : setTsState 3 a = b := setTsState_leaves_lock (.inl ha) (by rw [ha]; decide)
  have hc : startHold b = c := startHold_starts hhold
  have hlose : loseLock s = raise Src.TS_REF_LOST (clearAgree c) := by rw [← hc, ← hb]; rfl
  obtain ⟨hstate, hts⟩ := clearAgree_holds c
  have hts' : (loseLock s).ts = { c.ts with agree := [] } := by rw [hlose, (raise_reported ..).ts, hts]
  refine ⟨?_, by rw [hts']; rfl, by rw [hts']; rfl, by rw [hts']; rfl, by rw [hts']⟩
  rw [hlose]
  exact (raise_get (by decide) (.of_leaf (by decide) rfl (by decide)) _).trans (hstate.trans (State.get_set_self _ R.TS_STAT.STATE 3))

/-- The Root's reference in LOCKED goes missing (R137). -/
theorem refMissing_locked {s : State} (hroot : s.isRoot = true) (h : s.tsState = 2) (hslew : s.bit R.TS_STAT.SLEWING = false) :
    ∃ b, refMissing s = loseLock (s.modTs fun t => { t with ptpMissing := b }) := by
  have hlost : ∀ x : State, x.tsState = 2 → x.bit R.TS_STAT.SLEWING = false → refLost x = loseLock x := fun x hx hs => by
    simp [refLost, hx, endSlew_idle hs]
  unfold refMissing
  rw [if_pos hroot]
  by_cases hpps : s.ts.source = .pps
  · exact ⟨s.ts.ptpMissing, by rw [if_pos hpps]; exact hlost s h hslew⟩
  · exact ⟨true, by rw [if_neg hpps]; exact hlost _ h hslew⟩

/-! ### PTP and PPS, R132 to R135 -/

/-- A Sync of the selected master reaches the Root (R132). -/
theorem takePtp_sync {s : State} {d src : Nat} (hroot : s.isRoot = true) (hspread : s.bit R.CLK_STAT.SPREAD_ACT = false)
    (hmaster : s.fromMaster d src = true) (q : Nat) (twoStep : Bool) (rx sec ns : Nat) (c : Int) :
    takePtp (.sync d src q twoStep rx sec ns c) s =
      if twoStep then s.modPtp (fun p => { p with sync := some (src, q, rx, c) }) else syncSample rx (ptp128 sec ns c) s :=
  (if_neg (by simp [hroot, hspread])).trans (if_pos hmaster)

/-- Under selection 1 a PTP sample is the source's (R135). -/
theorem ptpSample_selected {s : State} (h : s.get O.SOURCE_SEL = 1) (x : Int) :
    ptpSample x s = refSample x (s.modTs fun t => { t with source := .ptp, ptpMissing := false, ptpAgree := [] }) := by
  simp [ptpSample, h]

theorem sendPdelay_sends {s : State} (hroot : s.isRoot = true) (hrun : s.ts.running = true) (hspread : s.bit R.CLK_STAT.SPREAD_ACT = false) :
    sendPdelay s = s.modPtp fun p =>
      { p with
        pdelaySeq := (s.ts.ptp.pdelaySeq + 1) % 65536, pdelayT1 := some s.ts.tsc, pdelayResp := none,
        sent := p.sent ++ [.pdelayReq ((s.ts.ptp.pdelaySeq + 1) % 65536) (s.get O.PTP_VLAN) (s.get O.PTP_PRIO)] } := by
  simp [sendPdelay, hroot, hrun, hspread]

theorem ppsEdge_stray {s : State} {u : Nat} (hroot : s.isRoot = true) (hstate : s.inState [.boot, .configure, .armed, .run, .safe] = true)
    (hlast : s.ts.ppsLast = some u) (h : s.ts.tsc < u + 512000000) (frac : Nat) : ppsEdge frac s = raise Src.TS_PPS_STRAY s := by
  simp [ppsEdge, hroot, hstate, hlast, h]

/-- The label written in this core cycle is for the following edge: the one before it, where there is one (R134). -/
def State.labelBefore (s : State) : Option (Option Nat) :=
  match s.ts.ppsWas with | some (n, l) => if n = s.now then some l else none | none => none

theorem State.labelBefore_none {s : State} (h : s.ts.ppsWas.all (fun w => w.1 != s.now) = true) : s.labelBefore = none := by
  unfold State.labelBefore
  split
  next n l hwas => exact if_neg (by simpa [hwas] using h)
  · rfl

section
variable {s : State} (hroot : s.isRoot = true) (hstate : s.inState [.boot, .configure, .armed, .run, .safe] = true)
  (hlast : s.ts.ppsLast = none) (hbefore : s.labelBefore = none)
include hroot hstate hlast hbefore

theorem ppsEdge_unlabelled (hlabel : s.ts.ppsLabel = none) (frac : Nat) :
    ppsEdge frac s = raise Src.TS_TOS_MISSING (s.modTs fun t => { t with ppsLast := some t.tsc }) := by
  unfold ppsEdge
  rw [if_neg (by simp [hroot, hstate]), if_neg (by simp [hlast])]
  extract_lets x fresh
  have hfresh : fresh = none := hbefore
  have hnone : x.ts.ppsLabel = none := hlabel
  simp only [hfresh, Option.getD_none, hnone]
  rfl

theorem ppsEdge_labelled {l : Nat} (hlabel : s.ts.ppsLabel = some l) (frac : Nat) :
    ∃ x, ppsEdge frac s = ppsSample x (s.modTs fun t => { t with ppsLast := some t.tsc, ppsLabel := some (l + 1), ppsNew := false }) := by
  unfold ppsEdge
  rw [if_neg (by simp [hroot, hstate]), if_neg (by simp [hlast])]
  extract_lets x fresh
  have hfresh : fresh = none := hbefore
  have hsome : x.ts.ppsLabel = some l := hlabel
  simp only [hfresh, Option.getD_none, hsome]
  exact ⟨_, rfl⟩

end

theorem ppsSample_unselected {s : State} (h : s.get O.SOURCE_SEL = 1) (x : Int) : ppsSample x s = s := by simp [ppsSample, h]

theorem writeLabel_root {s : State} {v : Nat} (hroot : s.isRoot = true) (hv : v < 2 ^ 48) :
    writeLabel v s = (s.set O.PPS_LABEL v).modTs fun t => { t with ppsLabel := some v, ppsNew := true, ppsWas := some (s.now, t.ppsLabel) } :=
  (if_pos hv).trans (if_pos hroot)

/-! ### Saves of the operating seconds, R128 -/

theorem startOpsec_starts {s : State} (hcored : s.cored = true) (h : s.ts.saving = none) :
    startOpsec s = { s with ts := { s.ts with saving := some (s.opsec, s.now) }, mram := s.mram.putOpsec none } := by
  simp [startOpsec, hcored, h, State.modTs]

/-- The slot that is written next takes the value, and the other stays. -/
theorem Mram.putOpsec_slots (m : Mram) (v : Option Nat) :
    if m.opsecNext then (m.putOpsec v).opsecB = v ∧ (m.putOpsec v).opsecA = m.opsecA
    else (m.putOpsec v).opsecA = v ∧ (m.putOpsec v).opsecB = m.opsecB := by
  unfold Mram.putOpsec
  split <;> simp_all

/-- A save that is due ends with the tick. -/
theorem tick_ends_save {s : State} {v u : Nat} (h : s.ts.saving = some (v, u)) (hdue : u + 2048 ≤ s.now) :
    tick s = endOpsec v (newCycle s.clocked) := by
  have hframe := newCycle_frame s.clocked
  rw [tick_eq]
  refine endOpsecSave_due (t := u) ?_ ?_
  · rw [hframe]; exact s.clocked_saving.trans h
  · rw [hframe]; show u + 2048 ≤ s.clocked.now + 1; rw [s.clocked_clocked.now]; omega

/-- A core cycle of 400 MHz is 2.56 ticks: TSC counts 2 or 3 where one ends (R118). -/
theorem coreCycle_ticks {n : Nat} (h : n * 25 / 64 ≠ (n + 1) * 25 / 64) :
    (n + 1) * 25 / 64 * 64 / 25 - n * 25 / 64 * 64 / 25 = 2 ∨ (n + 1) * 25 / 64 * 64 / 25 - n * 25 / 64 * 64 / 25 = 3 := by
  omega

/-! ### What a tick does to the phase steps -/

/-- Between cycles of the reference a tick does what the frequency correction asks for. -/
theorem tick_get_between {s : State} (hrun : s.ts.running = true) (hlock : s.bit R.CLK_STAT.LOCK_T = true) (h : s.refCycle = false) (f : Fld) :
    (tick s).get f = (gatherSteps s).get f := by
  rw [State.get_of_regs (tick_regs s), State.get_of_regs (s.clocked_regs_between h), s.gathered_of_locked hrun hlock]

/-- A tick that gathers a whole step asks for it (R96). -/
theorem tick_requests {s : State} (hrun : s.ts.running = true) (hlock : s.bit R.CLK_STAT.LOCK_T = true) (h : s.refCycle = false)
    (hdue : s.stepDue ≠ 0) :
    sext 16 ((tick s).get R.CLK_PHASE_T.PENDING) = clampInt (-32768) 32767 (sext 16 (s.get R.CLK_PHASE_T.PENDING) + s.stepDue)
      ∧ (tick s).ts.stepAcc = s.ts.stepAcc + 128 * s.ts.freq - s.stepDue * 10 ^ 10 ∧ OnlyRegs s (tick s) [R.CLK_PHASE_T.PENDING] := by
  have hget := tick_get_between hrun hlock h
  refine ⟨?_, ?_, fun f hf => ?_⟩
  · rw [hget, gatherSteps_of_due hdue, requestSteps_pending]; rfl
  · rw [tick_stepAcc, s.gathered_of_locked hrun hlock, gatherSteps_of_due hdue]; rfl
  · rw [hget, gatherSteps_of_due hdue]; exact requestSteps_onlyRegs _ (withStepAcc _ s) f hf

/-- In a cycle of the reference, with nothing gathered, a tick moves the interpolator (R95). -/
theorem tick_moves {s : State} (hrun : s.ts.running = false) (hlock : s.bit R.CLK_STAT.LOCK_T = true) (h : s.refCycle = true)
    (hp : sext 16 (s.get R.CLK_PHASE_T.PENDING) ≠ 0) :
    sext 16 ((tick s).get R.CLK_PHASE_T.PENDING) = sext 16 (s.get R.CLK_PHASE_T.PENDING) - s.phaseStep
      ∧ ((tick s).get R.CLK_PHASE_T.PHASE : Int) = ((s.get R.CLK_PHASE_T.PHASE : Int) + s.phaseStep) % 128 := by
  let x := s.ditherStepped
  have hx : ∀ f, x.get f = s.get f := State.get_of_regs (by rw [s.ditherStepped_regs, s.tscCounted_stopped hrun])
  have hstep : x.phaseStep = s.phaseStep := by unfold State.phaseStep; rw [hx]
  have hget : ∀ f, (tick s).get f = (movePhase s.phaseStep x).get f := fun f => by
    rw [State.get_of_regs (tick_regs s), State.clocked, if_pos h, ← hstep, ← applyStep_moves]
    · rw [State.bit, hx]; exact hlock
    · rwa [hx]
  rw [hget, hget, movePhase_pending, movePhase_phase, hx, hx]
  refine ⟨sext16_ofInt ?_ ?_, rfl⟩ <;>
  · have hbounds := sext16_bounds (s.get R.CLK_PHASE_T.PENDING)
    unfold State.phaseStep
    split <;> omega

/-- Settles O31: the commands by the lemma for what each does, and a tick by its parts: the count (`tick_tsc`), the steps gathered and taken
(`tick_requests`, `tick_moves`), the dither (`tick_lfsr`) and the save that ends (`tick_ends_save`). -/
theorem clockAndReferences : Obligations.ClockAndReferences := by
  unfold Obligations.ClockAndReferences
  refine ⟨fun s => rfl, ?latch, ?save, fun s => rfl, ?twoStep, ?firstSample, ?pdelay, ?stray, ?unlabelled, ?labelled, ?label, ?missing, ?tsc,
    ?fallback, ?up, ?down, ?forward, ?back, ?dither, ?saved⟩
  case latch =>
    intro s
    exact ⟨_, rfl, (State.get_set_self s R.TS_TSC_HI _).trans (Nat.mod_mod _ _), (OnlySets.refl s _).set _ (List.mem_singleton_self _)⟩
  case save =>
    intro s hcored hsaving
    have hslots := s.mram.putOpsec_slots none
    refine ⟨_, congrArg Host.Outcome.next (startOpsec_starts hcored hsaving), rfl, fun h => ?_, fun h => ?_, rfl, rfl⟩
    · simpa [h] using hslots
    · simpa [h] using hslots
  case twoStep => exact fun s d src q rx sec ns c hroot hspread hmaster => congrArg Host.Outcome.next (takePtp_sync hroot hspread hmaster q true rx sec ns c)
  case firstSample =>
    intro s d src q rx sec ns c hroot hspread hmaster hsel hfree
    have hsync := (takePtp_sync hroot hspread hmaster q false rx sec ns c).trans (ptpSample_selected hsel _)
    let a := s.modTs fun t => { t with source := .ptp, ptpMissing := false, ptpAgree := [] }
    have ha : a.tsState = 0 := hfree
    exact ⟨_, congrArg Host.Outcome.next hsync, refSample_free_holds ha _⟩
  case pdelay =>
    intro s hroot hrun hspread
    exact ⟨_, congrArg Host.Outcome.next (sendPdelay_sends hroot hrun hspread), rfl, rfl, rfl, rfl⟩
  case stray => exact fun s f u hroot hstate hlast h => congrArg Host.Outcome.next (ppsEdge_stray hroot hstate hlast h f)
  case unlabelled =>
    intro s f hroot hstate hlast hlabel hwas
    exact congrArg Host.Outcome.next (ppsEdge_unlabelled hroot hstate hlast (s.labelBefore_none hwas) hlabel f)
  case labelled =>
    intro s f l hroot hstate hlast hlabel hwas hsel
    obtain ⟨x, hedge⟩ := ppsEdge_labelled hroot hstate hlast (s.labelBefore_none hwas) hlabel f
    exact congrArg Host.Outcome.next (hedge.trans (ppsSample_unselected (s := s.modTs _) hsel x))
  case label =>
    intro s v hroot hv
    exact ⟨_, congrArg Host.Outcome.next (writeLabel_root hroot hv), rfl,
      (State.get_set_self s O.PPS_LABEL v).trans (Nat.mod_eq_of_lt (hv.trans (by decide))),
      (OnlyRegs.of_regs (s := s) rfl _).set v (List.mem_singleton_self _)⟩
  case missing =>
    intro s hroot hlocked hslew hhold
    obtain ⟨b, hmissing⟩ := refMissing_locked hroot hlocked hslew
    exact ⟨_, congrArg Host.Outcome.next hmissing, loseLock_holds hlocked hhold⟩
  case tsc =>
    intro s h
    refine ⟨tick s, step_of_idle h, fun hrun => ?_, fun hrun hfall => ?_⟩
    · rw [tick_tsc, countTsc_stopped hrun]
    · rw [tick_tsc, countTsc_tick hrun hfall]
  case fallback =>
    intro s h hrun hfall
    refine ⟨tick s, step_of_idle h, ?_⟩
    rw [tick_tsc, countTsc_fallback hrun hfall]
    exact ⟨fun heq => by rw [heq, Nat.sub_self, Nat.add_zero], fun hne => by
      rcases coreCycle_ticks hne with hd | hd <;> simp [hd]⟩
  case up =>
    intro s h hrun hlock href hdue
    have hone := s.stepDue_up hdue
    obtain ⟨hpending, hacc, honly⟩ := tick_requests hrun hlock href (by rw [hone]; decide)
    rw [hone] at hpending hacc
    refine ⟨tick s, step_of_idle h, hpending.trans ?_, by rw [hacc, one_mul], honly⟩
    have hbounds := sext16_bounds (s.get R.CLK_PHASE_T.PENDING)
    unfold clampInt
    split_ifs <;> omega
  case down =>
    intro s h hrun hlock href hdue
    have hone := s.stepDue_down hdue
    obtain ⟨hpending, hacc, honly⟩ := tick_requests hrun hlock href (by rw [hone]; decide)
    rw [hone] at hpending hacc
    refine ⟨tick s, step_of_idle h, hpending.trans ?_, by rw [hacc]; omega, honly⟩
    have hbounds := sext16_bounds (s.get R.CLK_PHASE_T.PENDING)
    unfold clampInt
    split_ifs <;> omega
  case forward =>
    intro s h hrun hlock href hpos
    have hone : s.phaseStep = 1 := if_neg (by omega)
    obtain ⟨hpending, hphase⟩ := tick_moves hrun hlock href (by omega)
    rw [hone] at hpending hphase
    exact ⟨tick s, step_of_idle h, hpending, by omega, tick_onlyRegs s⟩
  case back =>
    intro s h hrun hlock href hneg
    have hone : s.phaseStep = -1 := if_pos hneg
    obtain ⟨hpending, hphase⟩ := tick_moves hrun hlock href (by omega)
    rw [hone] at hpending hphase
    exact ⟨tick s, step_of_idle h, hpending.trans (by omega), by omega, tick_onlyRegs s⟩
  case dither => exact fun s p h hp href hbit => ⟨tick s, step_of_idle h, tick_lfsr hp href hbit⟩
  case saved =>
    intro s v u h hsaving hdue
    have hmram : (newCycle s.clocked).mram = s.mram := by rw [newCycle_frame, s.clocked_clocked.mram]
    have hslots := s.mram.putOpsec_slots (some v)
    refine ⟨tick s, step_of_idle h, ?_⟩
    rw [tick_ends_save hsaving hdue]
    unfold endOpsec
    rw [hmram]
    exact ⟨rfl, hslots, rfl⟩

end Sys2Proof.Machine
end

section
/-!
PROOFS. Offsets and holdover (05_timescale.md): the changes of TAI_OFFSET (R131) and their records, slews (R141), the 1 s mean of holdover (R138), and the
group time that a Member adopts or loses (R147, R148).
-/
namespace Sys2Proof.Machine

/-! ### TAI_OFFSET, R131 -/

theorem taiEvent_reported (old new : Nat) (s : State) : Reported s (taiEvent old new s) := postRec_reported ..

theorem taiEvent_ts (old new : Nat) (s : State) : (taiEvent old new s).ts = s.ts := (taiEvent_reported old new s).ts

/-- A record leaves the fields that no report writes. -/
theorem postRec_get {f : Fld} (hf : ¬ ReportKey f.key) (r : Rec) (s : State) : (postRec r s).get f = s.get f :=
  (report_get hf (post_kept (.refl s) (s.stamp r)).blocks _).trans (post_get hf _ s)

theorem taiEvent_slewing (old new : Nat) (s : State) : (taiEvent old new s).bit R.TS_STAT.SLEWING = s.bit R.TS_STAT.SLEWING := by
  rw [State.bit, State.bit, show taiEvent old new s = postRec _ s from rfl, postRec_get (by decide)]

/-- TAI_OFFSET becomes `o`, and no change is pending. -/
def withTai (o : Nat) (s : State) : State := s.modTs fun t => { t with pendingTai := none, taiOffset := o }

theorem applyTai_acquire {s : State} {o : Nat} (h : s.ts.pendingTai = some (.acquire o)) :
    applyTai s = taiEvent s.ts.taiOffset o (withTai o s) := by simp only [applyTai, h]; rfl

/-- On a Member a change by one tick has no record (log 80). -/
theorem applyTai_follow {s : State} {o : Nat} (h : s.ts.pendingTai = some (.follow o)) :
    applyTai s = if ((o : Int) - s.ts.taiOffset).natAbs ≤ 1 then withTai o s else taiEvent s.ts.taiOffset o (withTai o s) := by
  simp only [applyTai, h]; rfl

theorem applyTai_step {s : State} {d : Int} (h : s.ts.pendingTai = some (.step d)) :
    applyTai s = raise Src.TS_STEPPED (taiEvent s.ts.taiOffset (s.taiPlus d) (withTai (s.taiPlus d) s)) := by simp only [applyTai, h]; rfl

/-- A slew of `d` ticks has begun (R141). -/
def slewBegun (d : Int) (s : State) : State :=
  (s.modTs fun t => { t with pendingTai := none, slewLeft := d, slewFrom := s.ts.taiOffset }).set R.TS_STAT.SLEWING 1

theorem applyTai_slew {s : State} {d : Int} (h : s.ts.pendingTai = some (.slew d)) (hd : d ≠ 0) :
    applyTai s = taiEvent s.ts.taiOffset (s.taiPlus d) (slewBegun d s) := by
  simp only [applyTai, h, if_neg hd]; rfl

/-! ### Slews, R141 -/

/-- TAI_OFFSET moves one tick up. -/
def slewedUp (s : State) : State := s.modTs fun t => { t with taiOffset := s.taiPlus 1, slewLeft := t.slewLeft - 1 }

/-- While ticks are left above the target, a slew moves up, and ends with the last. -/
theorem slewStep_up {s : State} (hslew : s.bit R.TS_STAT.SLEWING = true) (h : 0 < s.ts.slewLeft) :
    slewStep s = if s.ts.slewLeft - 1 = 0 then endSlew (slewedUp s) else slewedUp s := by
  unfold slewStep
  rw [if_pos hslew]
  extract_lets d x
  have hd : d = 1 := if_neg (by omega)
  have hx : x = slewedUp s := by unfold x; rw [hd]; rfl
  rw [hx]
  rfl

/-- A slew that ends leaves TAI_OFFSET where it stands. -/
theorem endSlew_holds {s : State} (h : s.bit R.TS_STAT.SLEWING = true) :
    (endSlew s).bit R.TS_STAT.SLEWING = false ∧ (endSlew s).ts = { s.ts with slewLeft := 0 } := by
  unfold endSlew
  rw [if_pos h]
  refine ⟨?_, taiEvent_ts ..⟩
  rw [taiEvent_slewing, State.bit, State.get_set_self]
  rfl

/-! ### Holdover, R138 -/

theorem learn_unlocked {s : State} (h : s.tsState ≠ 2) (t : Rat) : learn t s = s := if_neg fun hlock => h hlock.1

theorem checkHold_none {s : State} (h : s.ts.holdSince = none) : checkHold s = s := by simp [checkHold, h]

/-- Outside LOCKED and holdover the second takes the mean alone. -/
theorem holdoverSecond_mean {s : State} (hn : 0 < s.ts.tN) (hlock : s.tsState ≠ 2) (hhold : s.ts.holdSince = none) :
    holdoverSecond s = s.modTs fun t => { t with tMean := some ((s.ts.tSum : Rat) / (s.ts.tN : Nat)), tSum := 0, tN := 0 } := by
  let a := s.modTs fun t => { t with tMean := some ((s.ts.tSum : Rat) / (s.ts.tN : Nat)), tSum := 0, tN := 0 }
  have hlearn : learn ((s.ts.tSum : Rat) / (s.ts.tN : Nat)) a = a := learn_unlocked (s := a) hlock _
  have hnone : a.ts.holdSince = none := hhold
  unfold holdoverSecond
  rw [if_neg (by omega)]
  show checkHold (if (learn _ a).ts.holdSince.isSome then holdCorrection (learn _ a) else learn _ a) = a
  rw [hlearn, hnone, if_neg (by decide), checkHold_none hnone]

/-! ### Group time on a Member, R147 and R148 -/

theorem setGroupOffset_pending {s : State} {g : Int} (h : s.ts.pendingGroup = some g) :
    setGroupOffset s = s.modTs fun t => { t with groupOffset := g, pendingGroup := none } := by simp only [setGroupOffset, h]

/-- A Member adopts a group time: JOIN, with GROUP_OFFSET due at the next frame boundary. -/
theorem joinGroup_holds (epoch : Nat) (off : Int) (s : State) :
    (joinGroup epoch off s).ts.groupEpoch = some epoch ∧ (joinGroup epoch off s).tsState = 5
      ∧ (joinGroup epoch off s).ts.pendingGroup = some (roundEvenInt ((off : Rat) / 128)) ∧ (joinGroup epoch off s).ts.pendingEpoch = none
      ∧ (joinGroup epoch off s).get R.TS_STAT.EPOCH_MISMATCH = 0
      ∧ OnlyRegs s (joinGroup epoch off s) [R.TS_STAT.STATE, R.TS_STAT.EPOCH_MISMATCH] := by
  unfold joinGroup
  generalize hx : s.modTs _ = x
  have hregs : x.regs = s.regs := by rw [← hx]; rfl
  have hts := setTsState_ts 5 x
  have hstate : ((endHold (setTsState 5 x)).set R.TS_STAT.EPOCH_MISMATCH 0).tsState = 5 :=
    (State.get_set_of_ne _ _ (by decide)).trans (setTsState_tsState 5 x)
  refine ⟨?_, hstate, ?_, ?_, State.get_set_self _ R.TS_STAT.EPOCH_MISMATCH 0, ?_⟩
  · show (setTsState 5 x).ts.groupEpoch = _
    rw [hts, ← hx]; rfl
  · show (setTsState 5 x).ts.pendingGroup = _
    rw [hts, ← hx]; rfl
  · show (setTsState 5 x).ts.pendingEpoch = _
    rw [hts, ← hx]; rfl
  · have hjoin : OnlyRegs s (setTsState 5 x) [R.TS_STAT.STATE] := fun f hf => (setTsState_onlyRegs 5 x f hf).trans (State.get_of_regs hregs f)
    exact hjoin.trans ((OnlyRegs.of_regs rfl _).set 0 (List.mem_singleton_self R.TS_STAT.EPOCH_MISMATCH))

theorem adoptEpoch_pending {s : State} {e : Nat} {o : Int} (hroot : s.isRoot = false) (hrun : s.inState [.run] = false)
    (h : s.ts.pendingEpoch = some (e, o)) : adoptEpoch s = joinGroup e o s := by
  simp [adoptEpoch, hroot, hrun, h]

/-- FOLLOW is left for GROUP_COAST, which starts (R147). -/
theorem groupLost_follow {s : State} (hroot : s.isRoot = false) (h : s.tsState = 6) (hhold : s.ts.holdSince = none) :
    (groupLost s).tsState = 7 ∧ (groupLost s).ts.holdSince = some s.ts.tsc ∧ (groupLost s).ts.lockedAt = some s.ts.tsc := by
  let b := (s.modTs fun t => { t with lockedAt := some t.tsc }).set R.TS_STAT.STATE 7
  let c := b.modTs fun t => { t with holdSince := some t.tsc, holdPassed := false, fLast := t.freq, tLast := t.tMean }
  have hb : setTsState 7 s = b := setTsState_leaves_lock (.inr h) (by rw [h]; decide)
  have hc : startHold b = c := startHold_starts hhold
  have hlost : groupLost s = raise Src.TS_GROUP_LOST c := by
    rw [← hc, ← hb]
    exact if_pos (by simp [hroot, h])
  have hts : (groupLost s).ts = c.ts := by rw [hlost, (raise_reported ..).ts]
  refine ⟨?_, by rw [hts]; rfl, by rw [hts]; rfl⟩
  rw [hlost]
  exact (raise_get (by decide) (.of_leaf (by decide) rfl (by decide)) _).trans (State.get_set_self _ R.TS_STAT.STATE 7)

/-- Settles O32: each change of TAI_OFFSET by its kind, a slew by whether its last tick is due (`slewStep_up`), the mean of a second, and a Member's
group time adopted (`joinGroup_holds`) or lost (`groupLost_follow`). -/
theorem offsetsAndHoldover : Obligations.OffsetsAndHoldover := by
  unfold Obligations.OffsetsAndHoldover
  refine ⟨?acquire, ?step, ?follow, ?slew, ?slewOn, ?slewEnd, ?mean, fun s => rfl, ?groupOffset, ?adopt, ?lost⟩
  case acquire =>
    intro s o h
    exact ⟨_, congrArg Host.Outcome.next (applyTai_acquire h), taiEvent_ts ..⟩
  case step =>
    intro s d h
    exact ⟨_, congrArg Host.Outcome.next (applyTai_step h), (raise_reported ..).ts.trans (taiEvent_ts ..)⟩
  case follow =>
    intro s o h
    refine ⟨_, congrArg Host.Outcome.next (applyTai_follow h), ?_⟩
    split
    · rfl
    · exact taiEvent_ts ..
  case slew =>
    intro s d h hd
    have hts : (taiEvent s.ts.taiOffset (s.taiPlus d) (slewBegun d s)).ts = (slewBegun d s).ts := taiEvent_ts ..
    have hbit : (slewBegun d s).bit R.TS_STAT.SLEWING = true := by rw [slewBegun, State.bit, State.get_set_self]; rfl
    exact ⟨_, congrArg Host.Outcome.next (applyTai_slew h hd), by rw [hts]; rfl, by rw [hts]; rfl, by rw [hts]; rfl,
      (taiEvent_slewing ..).trans hbit⟩
  case slewOn =>
    intro s hslew h
    exact congrArg Host.Outcome.next ((slewStep_up hslew (by omega)).trans (if_neg (by omega)))
  case slewEnd =>
    intro s hslew h
    obtain ⟨hbit, hts⟩ := endSlew_holds (s := slewedUp s) hslew
    exact ⟨_, congrArg Host.Outcome.next ((slewStep_up hslew (by omega)).trans (if_pos (by omega))), hbit, by rw [hts], by rw [hts]; rfl⟩
  case mean => exact fun s hn hlock hhold => congrArg Host.Outcome.next (holdoverSecond_mean hn hlock hhold)
  case groupOffset => exact fun s g h => congrArg Host.Outcome.next (setGroupOffset_pending h)
  case adopt =>
    intro s e o hroot hrun h
    exact ⟨_, congrArg Host.Outcome.next (adoptEpoch_pending hroot hrun h), joinGroup_holds e o s⟩
  case lost =>
    intro s hroot h hhold
    exact ⟨_, rfl, groupLost_follow hroot h hhold⟩

end Sys2Proof.Machine
end

section
/-!
PROOFS. Cell lanes (06_cell_lanes.md), the shared steps of Machine/Lanes.lean: what a lane's fields read after writes, what an attempt begins with (R163), how
it ends (R165, R166), and which fields a lane that is lost leaves (R170).
-/
namespace Sys2Proof.Machine

/-! ### Fields at different bits -/

/-- Two fields begin at different bits, so they are different fields whatever words they lie in. -/
def Fld.apart (f g : Fld) : Bool := f.lo < 32 && g.lo < 32 && f.lo != g.lo

theorem Fld.key_ne_of_apart {f g : Fld} (h : f.apart g = true) : f.key ≠ g.key := by
  simp only [Fld.apart, Bool.and_eq_true, decide_eq_true_eq, bne_iff_ne] at h
  unfold Fld.key
  omega

theorem State.get_set_apart (s : State) {f g : Fld} (v : Nat) (h : f.apart g = true) : (s.set f v).get g = s.get g :=
  State.get_set_of_ne s v (Fld.key_ne_of_apart h)

theorem State.get_setBit_apart (s : State) {f g : Fld} (b : Bool) (h : f.apart g = true) : (s.setBit f b).get g = s.get g :=
  State.get_set_apart s _ h

theorem State.get_inc_apart (s : State) {f g : Fld} (h : f.apart g = true) : (s.inc f).get g = s.get g := State.get_set_apart s _ h

/-- A one-bit field that is clear reads 0. -/
theorem State.get_of_bit_false {s : State} {f : Fld} (h : s.bit f = false) : s.get f = 0 := by simpa [State.bit] using h

/-- Every field of `l` being a field of `m`, a frame around the one holds around the other. -/
theorem OnlyRegs.mono {s t : State} {l m : List Fld} (h : OnlyRegs s t l) (hlm : ∀ f ∈ l, f ∈ m) : OnlyRegs s t m := by
  refine fun f hf => h f fun hl => hf ?_
  obtain ⟨g, hg, e⟩ := List.mem_map.1 hl
  exact e ▸ List.mem_map_of_mem (hlm g hg)

theorem OnlyRegs.get_apart {s t : State} {l : List Fld} {f : Fld} (h : OnlyRegs s t l) (hf : l.all (fun g => g.apart f) = true) : t.get f = s.get f := by
  refine h f fun hmem => ?_
  obtain ⟨g, hg, e⟩ := List.mem_map.1 hmem
  exact Fld.key_ne_of_apart (List.all_eq_true.1 hf g hg) e

/-! ### Lanes of a quad, R153 -/

theorem mirror_ne (n : Nat) : mirror n ≠ n := by unfold mirror; omega
@[simp] theorem mirror_mirror (n : Nat) : mirror (mirror n) = n := by unfold mirror; omega
theorem mirror_lt {n : Nat} (h : n < 64) : mirror n < 64 := by unfold mirror; omega
theorem mirror_quad (n : Nat) : mirror n / 4 = n / 4 := by unfold mirror; omega

theorem mem_quadLanes {n q : Nat} : n ∈ quadLanes q ↔ n / 4 = q := by
  simp only [quadLanes, List.mem_cons, List.not_mem_nil, or_false]
  omega

/-! ### Records behind the registers -/

theorem State.lane_modLane (s : State) (m n : Nat) (f : LaneSt → LaneSt) :
    (s.modLane m f).lane n = if m = n then f (s.lane m) else s.lane n := Tab.get_modify ..

@[simp] theorem State.lane_modLane_self (s : State) (n : Nat) (f : LaneSt → LaneSt) : (s.modLane n f).lane n = f (s.lane n) := by
  simp [State.lane_modLane]

theorem State.lane_modLane_of_ne (s : State) {m n : Nat} (h : m ≠ n) (f : LaneSt → LaneSt) : (s.modLane m f).lane n = s.lane n := by
  simp [State.lane_modLane, h]

@[simp] theorem State.lane_set (s : State) (f : Fld) (v n : Nat) : (s.set f v).lane n = s.lane n := rfl

/-- What enables a lane (R162, R173). -/
theorem State.laneEn_congr {s t : State} {n : Nat} (hen : t.get (R.LN_CTRL.EN n) = s.get (R.LN_CTRL.EN n))
    (hpad : t.get (R.LN_STAT.RX_PAD n) = s.get (R.LN_STAT.RX_PAD n)) (hsec : t.sec = s.sec) : t.laneEn n = s.laneEn n := by
  simp only [State.laneEn, State.bit, hen, hpad, hsec]

theorem State.laneEn_of_en_false {s : State} {n : Nat} (h : s.bit (R.LN_CTRL.EN n) = false) : s.laneEn n = false := by simp [State.laneEn, h]

/-- Without lanes disabled for want of repair, EN alone enables a lane. -/
theorem State.laneEn_of_sound {s : State} {n : Nat} (hdead : s.sec.deadLanes = 0) : s.laneEn n = s.bit (R.LN_CTRL.EN n) := by
  simp [State.laneEn, hdead, bitAt]

/-- `t` differs from `s` in the lanes' records and in the register fields of the list alone. -/
structure Trains (s t : State) (l : List Fld) : Prop where
  frame : t = { s with regs := t.regs, lanes := t.lanes }
  regs : OnlyRegs s t l

theorem Trains.refl (s : State) (l : List Fld) : Trains s s l := ⟨rfl, .of_regs rfl l⟩

theorem Trains.of {s x t : State} {l m : List Fld} (h : Trains s x l) (hframe : t = { x with regs := t.regs, lanes := t.lanes })
    (hregs : OnlyRegs x t m) (hm : ∀ f ∈ m, f ∈ l) : Trains s t l := by
  obtain ⟨hx, hr⟩ := h
  refine ⟨?_, fun f hf => (hregs.mono hm f hf).trans (hr f hf)⟩
  rw [hx] at hframe
  exact hframe

theorem Trains.set {s t : State} {l : List Fld} {f : Fld} (h : Trains s t l) (v : Nat) (hf : f ∈ l) : Trains s (t.set f v) l :=
  h.of (m := l) rfl ((OnlyRegs.of_regs rfl l).set v hf) fun _ => id

theorem Trains.modLane {s t : State} {l : List Fld} (h : Trains s t l) (n : Nat) (f : LaneSt → LaneSt) : Trains s (t.modLane n f) l :=
  h.of (m := l) rfl (.of_regs rfl l) fun _ => id

theorem Trains.ite {s t u : State} {l : List Fld} {c : Prop} [Decidable c] (ht : Trains s t l) (hu : Trains s u l) :
    Trains s (if c then t else u) l := by split <;> assumption

/-! ### An attempt begins, R159 and R163 -/

/-- A lane's record as the receive steps begin. -/
def LaneSt.afresh (l : LaneSt) : LaneSt :=
  { l with sigSeen := false, commas := 0, invRun := 0, inverted := false, tsuRun := 0, echo := none, tsu2Run := 0 }

theorem dropReceive_onlyRegs (n : Nat) (s : State) :
    OnlyRegs s (dropReceive n s) [R.LN_STAT.SIGNAL n, R.LN_STAT.CDR_LOCK n, R.LN_STAT.ALIGNED n] :=
  (((OnlyRegs.of_regs rfl _).set 0 (by simp)).set 0 (by simp)).set 0 (by simp)

theorem freshReceive_trains (n : Nat) {s t : State} {l : List Fld} (h : Trains s t l) (hl : ∀ f ∈ receiveRegs n, f ∈ l) :
    Trains s (freshReceive n t) l := by
  refine h.of (m := receiveRegs n) rfl ?_ hl
  have hinv : OnlyRegs t (t.setBit (R.LN_STAT.RX_INV n) (t.get (R.LN_CTRL.RX_POL n) == 2)) (receiveRegs n) :=
    (OnlyRegs.of_regs rfl _).set _ (by simp [receiveRegs])
  exact fun f hf => (((dropReceive_onlyRegs n _).mono (by simp [receiveRegs])) f hf).trans (hinv f hf)

theorem freshReceive_lane_self (n : Nat) (s : State) : (freshReceive n s).lane n = (s.lane n).afresh := State.lane_modLane_self ..

theorem freshReceive_lane_of_ne {m n : Nat} (h : m ≠ n) (s : State) : (freshReceive m s).lane n = s.lane n := State.lane_modLane_of_ne _ h _

/-- A field that begins at another bit than the receive flags stands. -/
theorem freshReceive_get_apart {f : Fld} {n : Nat} (hf : (receiveRegs n).all (fun g => g.apart f) = true) (s : State) :
    (freshReceive n s).get f = s.get f := (freshReceive_trains n (.refl s (receiveRegs n)) fun _ => id).regs.get_apart hf

theorem freshReceive_aligned (n : Nat) (s : State) : (freshReceive n s).get (R.LN_STAT.ALIGNED n) = 0 := State.get_set_self _ (R.LN_STAT.ALIGNED n) 0

theorem freshReceive_rxInv (n : Nat) (s : State) :
    (freshReceive n s).get (R.LN_STAT.RX_INV n) = b2n (s.get (R.LN_CTRL.RX_POL n) == 2) := by
  unfold freshReceive dropReceive State.setBit
  rw [State.modLane_get, State.get_set_apart _ _ rfl, State.get_set_apart _ _ rfl, State.get_set_apart _ _ rfl, State.get_set_self]
  cases s.get (R.LN_CTRL.RX_POL n) == 2 <;> rfl

/-- An attempt that starts leaves the fields of every other word than the statuses of the lane and of its mirrored pad pair. -/
theorem Trains.get_of_addr {s t : State} {n : Nat} {f : Fld} (h : Trains s t (attemptRegs n)) (hlo : f.lo < 32)
    (haddr : f.addr ≠ 0x10104 + 0x40 * n) (hmirror : f.addr ≠ 0x10104 + 0x40 * mirror n) : t.get f = s.get f := by
  refine h.regs f ?_
  simp only [attemptRegs, receiveRegs, List.map_append, List.map_cons, List.map_nil, List.mem_append, List.mem_cons, List.not_mem_nil, or_false,
    Fld.key, R.LN_STAT.STATE, R.LN_STAT.ATTEMPT, R.LN_STAT.SIGNAL, R.LN_STAT.CDR_LOCK, R.LN_STAT.ALIGNED, R.LN_STAT.RX_INV]
  omega

/-- Attempt `k` has been entered, and where a mirrored pad pair trains for the lane too, its receive steps have begun (R161). -/
def attemptEntered (n k : Nat) (s : State) : State :=
  let s := (s.set (R.LN_STAT.STATE n) 2).set (R.LN_STAT.ATTEMPT n) k
  if s.map (n / 4) = 0 ∧ !s.inAttempt (mirror n) then freshReceive (mirror n) s else s

theorem startAttempt_eq (n k : Nat) (s : State) :
    startAttempt n k s
      = (freshReceive n (attemptEntered n k s)).modLane n (fun l => { l with retry := false, startAt := (attemptEntered n k s).ts.tsc }) := rfl

theorem attemptEntered_holds {k : Nat} (hk : k < 32) (n : Nat) (s : State) :
    (attemptEntered n k s).get (R.LN_STAT.STATE n) = 2 ∧ (attemptEntered n k s).get (R.LN_STAT.ATTEMPT n) = k
      ∧ (attemptEntered n k s).lane n = s.lane n ∧ Trains s (attemptEntered n k s) (attemptRegs n) := by
  have hset : Trains s ((s.set (R.LN_STAT.STATE n) 2).set (R.LN_STAT.ATTEMPT n) k) (attemptRegs n) :=
    ((Trains.refl s _).set 2 (by simp [attemptRegs])).set k (by simp [attemptRegs])
  have hstate : ((s.set (R.LN_STAT.STATE n) 2).set (R.LN_STAT.ATTEMPT n) k).get (R.LN_STAT.STATE n) = 2 :=
    (State.get_set_apart _ k rfl).trans (State.get_set_self s (R.LN_STAT.STATE n) 2)
  have hattempt : ((s.set (R.LN_STAT.STATE n) 2).set (R.LN_STAT.ATTEMPT n) k).get (R.LN_STAT.ATTEMPT n) = k :=
    (State.get_set_self _ _ k).trans (Nat.mod_eq_of_lt hk)
  unfold attemptEntered
  dsimp only
  split
  · exact ⟨(freshReceive_get_apart rfl _).trans hstate, (freshReceive_get_apart rfl _).trans hattempt,
      freshReceive_lane_of_ne (mirror_ne n) _, freshReceive_trains _ hset fun f hf => by simp [attemptRegs, hf]⟩
  · exact ⟨hstate, hattempt, rfl, hset⟩

/-- What the start of attempt `k` of a lane leaves (R163; log 87). -/
structure AttemptStarted (n k : Nat) (s t : State) : Prop where
  state : t.get (R.LN_STAT.STATE n) = 2
  attempt : t.get (R.LN_STAT.ATTEMPT n) = k
  aligned : t.get (R.LN_STAT.ALIGNED n) = 0
  polarity : t.get (R.LN_STAT.RX_INV n) = b2n (s.get (R.LN_CTRL.RX_POL n) == 2)
  lane : t.lane n = { (s.lane n).afresh with retry := false, startAt := s.ts.tsc }
  trains : Trains s t (attemptRegs n)

theorem startAttempt_started {k : Nat} (hk : k < 32) (n : Nat) (s : State) : AttemptStarted n k s (startAttempt n k s) := by
  obtain ⟨hstate, hattempt, hlane, htrains⟩ := attemptEntered_holds hk n s
  have hts : (attemptEntered n k s).ts = s.ts := by rw [htrains.frame]
  have hpol : (attemptEntered n k s).get (R.LN_CTRL.RX_POL n) = s.get (R.LN_CTRL.RX_POL n) := by
    exact htrains.get_of_addr (by show 0 < 32; decide) (by simp only [R.LN_CTRL.RX_POL]; omega)
      (by simp only [R.LN_CTRL.RX_POL, mirror]; omega)
  rw [startAttempt_eq]
  refine ⟨?_, ?_, ?_, ?_, ?_, (freshReceive_trains n htrains fun f hf => by simp [attemptRegs, hf]).modLane n _⟩
  · rw [State.modLane_get, freshReceive_get_apart rfl, hstate]
  · rw [State.modLane_get, freshReceive_get_apart rfl, hattempt]
  · rw [State.modLane_get, freshReceive_aligned]
  · rw [State.modLane_get, freshReceive_rxInv, hpol]
  · rw [State.lane_modLane_self, freshReceive_lane_self, hlane, hts]

theorem leaveUp_of_not_up {s : State} {n : Nat} (h : s.up n = false) : leaveUp n s = s := if_neg (by simp [h])

/-- A disabled lane is OFF (R162). -/
theorem bringUp_disabled {s : State} {n : Nat} (hup : s.up n = false) (hen : s.laneEn n = false) :
    bringUp n s = (s.set (R.LN_STAT.STATE n) 0).modLane n (fun l => { l with absent := false, wasLost := false, retry := false }) := by
  simp [bringUp, leaveUp_of_not_up hup, hen]

/-- An enabled lane starts attempt 1 in Configure, once PLL-C is locked (R162, R172). -/
theorem bringUp_configure {s : State} {n : Nat} (hup : s.up n = false) (hen : s.laneEn n = true) (hlock : s.bit R.CLK_STAT.LOCK_C = true)
    (hstate : s.pw.state = .configure) : bringUp n s = startAttempt n 1 s := by
  simp [bringUp, leaveUp_of_not_up hup, hen, hlock, State.inState, hstate]

end Sys2Proof.Machine
end

section
/-!
PROOFS. The commands of 06_cell_lanes.md that end attempts and lose lanes (R162 to R170).
-/
namespace Sys2Proof.Machine

/-! ### An attempt fails, R163 and R165 -/

/-- The failed step has been recorded and counted, and nothing is seen on the receive side (log 87). -/
def attemptFailed (n stage : Nat) (s : State) : State :=
  dropReceive n ((s.set (R.LN_STAT.FAIL_STAGE n) stage).inc (R.LN_COUNTS.FAILED_ATTEMPTS n))

theorem attemptFailed_attempt (n stage : Nat) (s : State) :
    (attemptFailed n stage s).get (R.LN_STAT.ATTEMPT n) = s.get (R.LN_STAT.ATTEMPT n) := by
  have hcount : (R.LN_COUNTS.FAILED_ATTEMPTS n).key ≠ (R.LN_STAT.ATTEMPT n).key := by
    simp only [Fld.key, R.LN_COUNTS.FAILED_ATTEMPTS, R.LN_STAT.ATTEMPT]; omega
  unfold attemptFailed dropReceive
  rw [State.get_set_apart _ _ rfl, State.get_set_apart _ _ rfl, State.get_set_apart _ _ rfl, State.get_inc_of_ne _ hcount,
    State.get_set_apart _ _ rfl]

theorem attemptFailed_failStage (n : Nat) {stage : Nat} (h : stage < 8) (s : State) :
    (attemptFailed n stage s).get (R.LN_STAT.FAIL_STAGE n) = stage := by
  unfold attemptFailed dropReceive
  rw [State.get_set_apart _ _ rfl, State.get_set_apart _ _ rfl, State.get_set_apart _ _ rfl, State.get_inc_apart _ rfl, State.get_set_self]
  exact Nat.mod_eq_of_lt h

theorem attemptFailed_count (n stage : Nat) (s : State) :
    (attemptFailed n stage s).get (R.LN_COUNTS.FAILED_ATTEMPTS n) = min (2 ^ 16 - 1) (s.get (R.LN_COUNTS.FAILED_ATTEMPTS n) + 1) := by
  unfold attemptFailed dropReceive
  rw [State.get_set_apart _ _ rfl, State.get_set_apart _ _ rfl, State.get_set_apart _ _ rfl, State.get_inc_self, State.get_set_apart _ _ rfl]
  rfl

theorem attemptFailed_aligned (n stage : Nat) (s : State) : (attemptFailed n stage s).get (R.LN_STAT.ALIGNED n) = 0 :=
  State.get_set_self _ (R.LN_STAT.ALIGNED n) 0

theorem attemptFailed_onlyRegs (n stage : Nat) (s : State) :
    OnlyRegs s (attemptFailed n stage s) [R.LN_STAT.FAIL_STAGE n, R.LN_COUNTS.FAILED_ATTEMPTS n, R.LN_STAT.SIGNAL n, R.LN_STAT.CDR_LOCK n,
      R.LN_STAT.ALIGNED n] :=
  OnlyRegs.trans (((OnlyRegs.of_regs rfl [R.LN_STAT.FAIL_STAGE n, R.LN_COUNTS.FAILED_ATTEMPTS n]).set _ (by simp)).inc (by simp))
    (dropReceive_onlyRegs n _)

theorem attemptFailed_frame (n stage : Nat) (s : State) :
    attemptFailed n stage s = { s with regs := (attemptFailed n stage s).regs, cyc := (attemptFailed n stage s).cyc } := by
  have hcount : ∀ x : State, (x.set (R.LN_STAT.FAIL_STAGE n) stage).inc (R.LN_COUNTS.FAILED_ATTEMPTS n)
      = { x with
          regs := ((x.set (R.LN_STAT.FAIL_STAGE n) stage).inc (R.LN_COUNTS.FAILED_ATTEMPTS n)).regs
          cyc := ((x.set (R.LN_STAT.FAIL_STAGE n) stage).inc (R.LN_COUNTS.FAILED_ATTEMPTS n)).cyc } := fun _ => rfl
  have hdrop : ∀ x : State, dropReceive n x = { x with regs := (dropReceive n x).regs } := fun _ => rfl
  exact (hdrop _).trans (congrArg (fun x : State => { x with regs := (attemptFailed n stage s).regs }) (hcount s))

/-- An attempt before the 16th is followed by BACKOFF (R165). -/
theorem failAttempt_backoff {s : State} {n : Nat} (h : s.get (R.LN_STAT.ATTEMPT n) < 16) (stage : Nat) :
    failAttempt n stage s = (attemptFailed n stage s).set (R.LN_STAT.STATE n) 5 :=
  if_pos (by rw [← attemptFailed_attempt n stage] at h; exact h)

/-- ABSENT has been entered (R166). -/
def absentEntered (n stage : Nat) (s : State) : State :=
  ((attemptFailed n stage s).set (R.LN_STAT.STATE n) 6).modLane n (fun l => { l with absent := true, retry := false })

theorem failAttempt_absent {s : State} {n : Nat} (h : ¬ s.get (R.LN_STAT.ATTEMPT n) < 16) (stage : Nat) :
    failAttempt n stage s
      = if (s.lane n).retry then absentEntered n stage s else raise (Src.LN_ABSENT n) (absentEntered n stage s) :=
  if_neg (by rw [← attemptFailed_attempt n stage] at h; exact h)

/-- A lane's status is no field that reports write. -/
theorem lnStat_not_reportKey {f : Fld} {n : Nat} (hn : n < 64) (haddr : f.addr = 0x10104 + 0x40 * n) (hlo : f.lo < 32) : ¬ ReportKey f.key := by
  simp only [ReportKey, Fld.key, haddr, List.mem_cons, List.not_mem_nil, or_false, O.RUN_REQUEST, obj]
  omega

/-- The entry to ABSENT may be reported (log 88): no report touches the lane's status or its record. -/
theorem failAttempt_absent_get {s : State} {f : Fld} {n : Nat} (hn : n < 64) (haddr : f.addr = 0x10104 + 0x40 * n) (hlo : f.lo < 32)
    (h : ¬ s.get (R.LN_STAT.ATTEMPT n) < 16) (stage : Nat) : (failAttempt n stage s).get f = (absentEntered n stage s).get f := by
  have hleaf : (R.LN_CAUSE.ABSENT n).key ≠ f.key := by simp only [Fld.key, haddr, R.LN_CAUSE.ABSENT]; omega
  rw [failAttempt_absent h]
  split
  · rfl
  · exact raise_get (lnStat_not_reportKey hn haddr hlo) (.of_leaf (by show 1 ≤ 16; decide) rfl hleaf) _

theorem Reported.lane {s t : State} (h : Reported s t) (n : Nat) : t.lane n = s.lane n := by simp only [State.lane, h.lanes]

theorem failAttempt_absent_lane {s : State} {n : Nat} (h : ¬ s.get (R.LN_STAT.ATTEMPT n) < 16) (stage : Nat) :
    (failAttempt n stage s).lane n = (absentEntered n stage s).lane n := by
  rw [failAttempt_absent h]
  split
  · rfl
  · exact (raise_reported ..).lane n

theorem absentEntered_holds (n : Nat) {stage : Nat} (h : stage < 8) (s : State) :
    (absentEntered n stage s).get (R.LN_STAT.STATE n) = 6 ∧ (absentEntered n stage s).get (R.LN_STAT.FAIL_STAGE n) = stage
      ∧ ((absentEntered n stage s).lane n).absent = true := by
  unfold absentEntered
  refine ⟨?_, ?_, ?_⟩
  · rw [State.modLane_get, State.get_set_self]; rfl
  · rw [State.modLane_get, State.get_set_apart _ _ rfl, attemptFailed_failStage n h]
  · rw [State.lane_modLane_self]

theorem State.stageOf_lt (s : State) (n : Nat) : s.stageOf n < 8 := by
  unfold State.stageOf
  split_ifs <;> decide

/-! ### A lane in UP is lost, R170 and R219 -/

/-- The strings' leaves aside, the check of the strings leaves what reports leave. -/
theorem checkStrings_get_off {f : Fld} (hf : ¬ ReportKey f.key) (hshort : ∀ t, (R.STR_CAUSE.STRING_SHORT t).key ≠ f.key)
    (hlow : ∀ t, (R.STR_CAUSE.RESERVE_LOW t).key ≠ f.key) (s : State) : (checkStrings s).get f = s.get f := by
  unfold checkStrings
  refine State.each_get (fun t _ x => ?_) s
  extract_lets act u r short low old y l
  have hl : ∀ r ∈ l, r.Off f := by
    intro r hr
    have hsrc : r = Src.STR_STRING_SHORT t ∨ r = Src.STR_RESERVE_LOW t := by
      simp only [l, List.mem_append, List.mem_ite_nil_right, List.mem_singleton] at hr
      exact hr.imp And.right And.right
    rcases hsrc with rfl | rfl
    · exact .of_leaf (by show 8 ≤ 16; decide) rfl (hshort t)
    · exact .of_leaf (by show 8 ≤ 16; decide) rfl (hlow t)
  exact raiseAll_get hf hl y

theorem lknAdmit_not_reportKey {n : Nat} (hn : n < 64) : ¬ ReportKey (R.LKN_STAT.ADMIT n).key := by
  simp only [ReportKey, Fld.key, R.LKN_STAT.ADMIT, List.mem_cons, List.not_mem_nil, or_false, O.RUN_REQUEST, obj]
  omega

/-- The link of a lane that leaves UP is DOWN (R219). -/
theorem linkDown_admit {n : Nat} (hn : n < 64) (s : State) : (linkDown n s).get (R.LKN_STAT.ADMIT n) = 0 := by
  have hreport := lknAdmit_not_reportKey hn
  have hoff : (Src.LKN_PARAM_FAIL n).Off (R.LKN_STAT.ADMIT n) := .of_leaf (by show 2 ≤ 16; decide) rfl (Fld.key_ne_of_apart rfl)
  unfold linkDown
  extract_lets a b c d e g
  have ha : a.get (R.LKN_STAT.ADMIT n) = 0 := by
    rw [State.get_set_apart _ _ rfl, State.get_set_apart _ _ rfl, State.get_set_self]
    rfl
  have hd : d.get (R.LKN_STAT.ADMIT n) = 0 := by
    simp only [d, c, b, disown, State.modLink_get, dropVerify_get]
    rw [State.get_set_apart _ _ rfl, ha]
  have he : e.get (R.LKN_STAT.ADMIT n) = 0 := by
    unfold e
    split
    · rw [raise_get hreport hoff, State.get_set_apart _ _ rfl, hd]
    · exact hd
  unfold excludeCell setBal
  rw [checkStrings_get_off hreport (fun _ => Fld.key_ne_of_apart rfl) (fun _ => Fld.key_ne_of_apart rfl), State.get_set_apart _ _ rfl,
    State.modCell_get, State.get_set_apart _ _ rfl]
  exact he

/-- The loss has been counted and reported, and the link is down. -/
def lossTaken (n : Nat) (s : State) : State := linkDown n (raise (Src.LN_LOST n) (s.inc (R.LN_COUNTS.LOSSES n)))

theorem loseLane_of_up {s : State} {n : Nat} (h : s.up n = true) :
    loseLane n s = (startAttempt n 1 (lossTaken n s)).modLane n (fun l => { l with wasLost := true }) := if_pos h

theorem lnCounts_not_linkKey {n : Nat} (hn : n < 64) : ¬ LinkKey (R.LN_COUNTS.LOSSES n).key := by
  simp only [LinkKey, ReportKey, Fld.key, R.LN_COUNTS.LOSSES, List.mem_cons, List.not_mem_nil, or_false, O.RUN_REQUEST, obj]
  omega

theorem lossTaken_losses {n : Nat} (hn : n < 64) (s : State) :
    (lossTaken n s).get (R.LN_COUNTS.LOSSES n) = min (2 ^ 16 - 1) (s.get (R.LN_COUNTS.LOSSES n) + 1) := by
  have hkey := lnCounts_not_linkKey hn
  unfold lossTaken
  rw [linkDown_get hkey hn, raise_get (fun h => hkey (.inl h)) (.of_leaf (by show 1 ≤ 16; decide) rfl (Fld.key_ne_of_apart rfl)),
    State.get_inc_self]
  rfl

/-! ### Commands -/

theorem ledgerRemove_empty {s : State} {n : Nat} (h : (s.led n).life = none) : ledgerRemove n s = s := by
  simp [ledgerRemove, h]

theorem State.inState_configure (s : State) (h : s.pw.state = .configure) : s.inState [.configure] = true := by simp [State.inState, h]

theorem exec_laneDisable (n : Fin 64) (s : State) :
    exec (.laneDisable n) s
      = .next (if s.inState [.configure] && s.laneEn n then ledgerRemove n (bringUp n (s.set (R.LN_CTRL.EN n) 0)) else s) := rfl
theorem exec_attemptTimeout (n : Fin 64) (s : State) :
    exec (.attemptTimeout n) s = .next (if s.inAttempt n then failAttempt n (s.stageOf n) s else s) := rfl
theorem exec_backoffEnd (n : Fin 64) (s : State) :
    exec (.backoffEnd n) s = .next (if s.laneState n = 5 then startAttempt n (s.get (R.LN_STAT.ATTEMPT n) + 1) s else s) := rfl
theorem exec_absentRetry (n : Fin 64) (s : State) :
    exec (.absentRetry n) s
      = .next (if s.laneState n = 6 then (startAttempt n 16 s).modLane n (fun l => { l with retry := true }) else s) := rfl
theorem exec_retrain (n : Fin 64) (s : State) :
    exec (.retrain n) s = .next (if s.laneState n = 5 ∨ s.laneState n = 6 then startAttempt n 1 s else s) := rfl
theorem exec_laneLost (n : Fin 64) (s : State) : exec (.laneLost n) s = .next (loseLane n s) := rfl

/-- A lane with EN cleared. -/
theorem bringUp_en_cleared {s : State} {n : Nat} (hup : s.up n = false) :
    bringUp n (s.set (R.LN_CTRL.EN n) 0) = ((s.set (R.LN_CTRL.EN n) 0).set (R.LN_STAT.STATE n) 0).modLane n
      (fun l => { l with absent := false, wasLost := false, retry := false }) := by
  refine bringUp_disabled ?_ (State.laneEn_of_en_false ?_)
  · rw [State.up, State.get_set_apart _ _ rfl]; exact hup
  · rw [State.bit, State.get_set_self]; rfl

/-- Settles O10: an attempt ends by `failAttempt_backoff` or `failAttempt_absent`, every next one starts as `AttemptStarted` says, and a loss is taken
(`lossTaken`) before attempt 1 starts. -/
theorem laneAttemptsAndLoss : Obligations.LaneAttemptsAndLoss := by
  unfold Obligations.LaneAttemptsAndLoss
  refine ⟨?disable, ?timeout, ?absent, ?backoff, ?retry, ?retrain, ?lost⟩
  case disable =>
    intro s n hstate hen hup hlife
    rw [exec_laneDisable, if_pos (by simp [s.inState_configure hstate, hen]), bringUp_en_cleared hup,
      ledgerRemove_empty (s := ((s.set _ 0).set _ 0).modLane n _) hlife]
    refine ⟨_, rfl, ?_, ?_, ?_⟩
    · rw [State.modLane_get, State.get_set_apart _ _ rfl, State.get_set_self]; rfl
    · rw [State.modLane_get, State.get_set_self]; rfl
    · rw [State.lane_modLane_self]
  case timeout =>
    intro s n htry hlt
    rw [exec_attemptTimeout, if_pos htry, failAttempt_backoff hlt]
    refine ⟨_, rfl, ?_, ?_, ?_, ?_, ?_, ?_⟩
    · rw [State.get_set_self]; rfl
    · rw [State.get_set_apart _ _ rfl, attemptFailed_failStage _ (s.stageOf_lt n)]
    · rw [State.get_set_apart _ _ rfl, attemptFailed_count]
    · rw [State.get_set_apart _ _ rfl, attemptFailed_aligned]
    · exact ((attemptFailed_onlyRegs n _ s).mono (by simp)).set 5 (by simp)
    · exact congrArg (fun x : State => { x with regs := ((attemptFailed n (s.stageOf n) s).set (R.LN_STAT.STATE n) 5).regs })
        (attemptFailed_frame n _ s)
  case absent =>
    intro s n htry hlast
    have hnot : ¬ s.get (R.LN_STAT.ATTEMPT n) < 16 := by omega
    obtain ⟨hstate, hstage, habsent⟩ := absentEntered_holds n (s.stageOf_lt n) s
    rw [exec_attemptTimeout, if_pos htry]
    refine ⟨_, rfl, ?_, ?_, ?_⟩
    · rw [failAttempt_absent_get n.isLt rfl (by show 28 < 32; decide) hnot, hstate]
    · rw [failAttempt_absent_lane hnot, habsent]
    · rw [failAttempt_absent_get n.isLt rfl (by show 25 < 32; decide) hnot, hstage]
  case backoff =>
    intro s n hstate hlt
    have hstart := startAttempt_started (k := s.get (R.LN_STAT.ATTEMPT n) + 1) (by omega) n s
    rw [exec_backoffEnd, if_pos hstate]
    exact ⟨_, rfl, hstart.state, hstart.attempt, by rw [hstart.lane]; rfl, hstart.trains.regs, hstart.trains.frame⟩
  case retry =>
    intro s n hstate
    have hstart := startAttempt_started (k := 16) (by decide) n s
    have hretry := hstart.trains.modLane n (fun l => { l with retry := true })
    rw [exec_absentRetry, if_pos hstate]
    refine ⟨_, rfl, ?_, ?_, ?_, hretry.regs, hretry.frame⟩
    · rw [State.modLane_get, hstart.state]
    · rw [State.modLane_get, hstart.attempt]
    · rw [State.lane_modLane_self]
  case retrain =>
    intro s n hstate
    have hstart := startAttempt_started (k := 1) (by decide) n s
    rw [exec_retrain, if_pos hstate]
    exact ⟨_, rfl, hstart.state, hstart.attempt, hstart.trains.regs, hstart.trains.frame⟩
  case lost =>
    intro s n hup
    have hstart := startAttempt_started (k := 1) (by decide) n (lossTaken n s)
    rw [exec_laneLost, loseLane_of_up hup]
    refine ⟨_, rfl, ?_, ?_, ?_, ?_, ?_⟩
    · rw [State.modLane_get, hstart.state]
    · rw [State.modLane_get, hstart.attempt]
    · rw [State.lane_modLane_self]
    · rw [State.modLane_get]
      have hadmit : (startAttempt n 1 (lossTaken n s)).get (R.LKN_STAT.ADMIT n) = (lossTaken n s).get (R.LKN_STAT.ADMIT n) :=
        hstart.trains.get_of_addr (by show 30 < 32; decide) (by simp only [R.LKN_STAT.ADMIT]; omega)
          (by simp only [R.LKN_STAT.ADMIT, mirror]; omega)
      exact hadmit.trans (linkDown_admit n.isLt _)
    · rw [State.modLane_get]
      have hlosses : (startAttempt n 1 (lossTaken n s)).get (R.LN_COUNTS.LOSSES n) = (lossTaken n s).get (R.LN_COUNTS.LOSSES n) :=
        hstart.trains.get_of_addr (by show 16 < 32; decide) (by simp only [R.LN_COUNTS.LOSSES]; omega)
          (by simp only [R.LN_COUNTS.LOSSES, mirror]; omega)
      exact hlosses.trans (lossTaken_losses n.isLt s)

end Sys2Proof.Machine
end

section
/-!
PROOFS. The characters of a cell lane (R155, R156) and the training sets they spell (R158): what is written in the 8b/10b code is read back.
-/
namespace Sys2Proof.Machine

/-! ### 8b/10b, R155 -/

/-- No two characters share a code group at one running disparity. -/
theorem symOf_groupOf_data : ∀ (rd : Bool) (b : Byte), symOf rd (groupOf rd (.data b)) = some (.data b) := by decide +kernel

theorem symOf_groupOf (rd : Bool) (c : Sym) : symOf rd (groupOf rd c) = some c := by
  cases c with
  | data b => exact symOf_groupOf_data rd b
  | k28_5 => cases rd <;> rfl
  | k28_1 => cases rd <;> rfl
  | k28_3 => cases rd <;> rfl
  | k27_7 => cases rd <;> rfl

theorem readGroups_groupsOf (rd : Bool) (l : List Sym) : readGroups rd (groupsOf rd l) = l.map some := by
  induction l generalizing rd with
  | nil => rfl
  | cons c l ih => rw [groupsOf, readGroups, symOf_groupOf, ih, List.map_cons]

/-! ### Training sets, R158 -/

theorem allData_data (bs : List Byte) : allData ((bs.map Sym.data).map some) = some bs := by
  induction bs with
  | nil => rfl
  | cons b bs ih => simp only [List.map_cons, allData, ih, Option.map_some]

/-- The characters after K28.5 of a training set: its type, an echo, the port byte, a zero, and eleven D21.5. -/
def tsuBytes (ty l port : Nat) : List Byte := leBytes 1 ty ++ leBytes 1 l ++ leBytes 1 port ++ leBytes 1 0 ++ List.replicate 11 0xB5

/-- The set as a receiver reads it. -/
def tsuRead (ty l port : Nat) : List (Option Sym) := (Sym.k28_5 :: (tsuBytes ty l port).map Sym.data).map some

theorem tsuBytes_type (ty l port : Nat) : leAt (tsuBytes ty l port) 0 1 = ty % 256 := by
  simp [tsuBytes, leAt, leBytes, leVal]
theorem tsuBytes_echo (ty l port : Nat) : leAt (tsuBytes ty l port) 1 1 = l % 256 := by
  simp [tsuBytes, leAt, leBytes, leVal]
theorem tsuBytes_port (ty l port : Nat) : leAt (tsuBytes ty l port) 2 1 = port % 256 := by
  simp [tsuBytes, leAt, leBytes, leVal]

theorem validTsu_tsuRead {ty : Nat} (h : ty = 0x11 ∨ ty = 0x12) (l port : Nat) : validTsu (tsuRead ty l port) = some (tsuBytes ty l port) := by
  have hdata : dataAfter .k28_5 (tsuRead ty l port) = some (tsuBytes ty l port) := by
    simp only [tsuRead, List.map_cons, dataAfter, if_true, allData_data]
  have htype : leAt (tsuBytes ty l port) 0 1 = ty := (tsuBytes_type ty l port).trans (by omega)
  rw [validTsu, hdata]
  exact if_pos ⟨rfl, by rw [htype]; exact h, rfl⟩

/-- A set that is not inverted does not read as D10.2 (R159). -/
theorem readsInverted_tsuRead (ty l port : Nat) : readsInverted (tsuRead ty l port) = false := rfl

end Sys2Proof.Machine
end

section
/-!
PROOFS. The bring-up of a cell lane step by step (R160 to R163): alignment, the map of the quad, TRAIN, READY and UP.
-/
namespace Sys2Proof.Machine

/-! ### Frames -/

theorem State.lanesFrame_trans {s x t : State} (hx : x = { s with regs := x.regs, lanes := x.lanes })
    (ht : t = { x with regs := t.regs, lanes := t.lanes }) : t = { s with regs := t.regs, lanes := t.lanes } :=
  ht.trans (congrArg (fun y : State => { y with regs := t.regs, lanes := t.lanes }) hx)

theorem State.regsFrame_set {s x : State} (hx : x = { s with regs := x.regs }) (f : Fld) (v : Nat) :
    x.set f v = { s with regs := (x.set f v).regs } :=
  congrArg (fun y : State => { y with regs := (x.set f v).regs }) hx

theorem State.regsFrame_trans {s x t : State} (hx : x = { s with regs := x.regs }) (ht : t = { x with regs := t.regs }) :
    t = { s with regs := t.regs } := ht.trans (congrArg (fun y : State => { y with regs := t.regs }) hx)

theorem OnlyRegs.modLane {s t : State} {l : List Fld} (h : OnlyRegs s t l) (n : Nat) (f : LaneSt → LaneSt) : OnlyRegs s (t.modLane n f) l := h

theorem OnlyRegs.modLink {s t : State} {l : List Fld} (h : OnlyRegs s t l) (n : Nat) (f : LinkSt → LinkSt) : OnlyRegs s (t.modLink n f) l := h

/-! ### Which step a training set takes, R163 -/

theorem State.inAttempt_of_state {s : State} {n : Nat} (h : s.laneState n = 2 ∨ s.laneState n = 3) : s.inAttempt n = true := by
  simpa [State.inAttempt] using h

theorem codeError_training {s : State} {n : Nat} (h : s.inAttempt n = true) : codeError n s = s := by
  have hstate : s.laneState n = 2 ∨ s.laneState n = 3 := by simpa [State.inAttempt] using h
  exact if_neg (by omega)

/-- A set that does not read inverted restarts the count of those that do (R159). -/
def readUpright (n : Nat) (s : State) : State := s.modLane n (fun l => { l with invRun := 0 })

theorem readUpright_tsuRun (n m : Nat) (s : State) : ((readUpright n s).lane m).tsuRun = (s.lane m).tsuRun := by
  rw [readUpright, State.lane_modLane]
  split
  · subst m; rfl
  · rfl

theorem readUpright_echo (n m : Nat) (s : State) : ((readUpright n s).lane m).echo = (s.lane m).echo := by
  rw [readUpright, State.lane_modLane]
  split
  · subst m; rfl
  · rfl

theorem polarity_upright {cs : List (Option Sym)} (h : readsInverted cs = false) (n : Nat) (s : State) : polarity n cs s = readUpright n s := by
  simp [polarity, h, readUpright]

theorem padTrains_of_state {s : State} {pad : Nat} (h : s.inAttempt (s.laneOfPad pad) = true ∨ s.laneState (s.laneOfPad pad) = 8) :
    s.padTrains pad = true := by
  rcases h with h | h <;> simp [State.padTrains, h]

section
variable {s : State} {pad place : Nat} {rd : Bool} {gs : List Nat}
  (htrains : s.padTrains pad = true) (hsig : s.bit (R.LN_STAT.SIGNAL (s.laneOfPad pad)) = true)
  (hcdr : s.bit (R.LN_STAT.CDR_LOCK (s.laneOfPad pad)) = true)
include htrains hsig hcdr

theorem trainingSet_unaligned (h : s.bit (R.LN_STAT.ALIGNED (s.laneOfPad pad)) = false) :
    trainingSet pad place rd gs s = countComma (s.laneOfPad pad) place ((gs.take 1).any isComma) s := by
  simp [trainingSet, htrains, hsig, hcdr, h]

variable (haligned : s.bit (R.LN_STAT.ALIGNED (s.laneOfPad pad)) = true)
include haligned

/-- A set off the aligned position is a code error, and none counts before UP (log 86). -/
theorem trainingSet_off (htry : s.inAttempt (s.laneOfPad pad) = true) (h : place ≠ (s.lane (s.laneOfPad pad)).commaPlace) :
    trainingSet pad place rd gs s = s.modLane (s.laneOfPad pad) (fun l => { l with invRun := 0, tsuRun := 0, tsu2Run := 0 }) := by
  have hcode : trainingSet pad place rd gs s = codeError (s.laneOfPad pad)
      (s.modLane (s.laneOfPad pad) (fun l => { l with invRun := 0, tsuRun := 0, tsu2Run := 0 })) := by
    simp [trainingSet, htrains, hsig, hcdr, haligned, h]
  exact hcode.trans (codeError_training htry)

variable (hplace : place = (s.lane (s.laneOfPad pad)).commaPlace) {ty l port : Nat} (hty : ty = 0x11 ∨ ty = 0x12)
  (hread : s.readLane (s.laneOfPad pad) rd gs = tsuRead ty l port)
include hplace hty hread

theorem trainingSet_ready (hstate : s.laneState (s.laneOfPad pad) = 3) (hl : l < 64) (hecho : s.echoConflicts pad l = false) :
    trainingSet pad place rd gs s = countTsu2 (s.laneOfPad pad) (tsuBytes ty l port) s := by
  have hl' : leAt (tsuBytes ty l port) 1 1 = l := (tsuBytes_echo ty l port).trans (Nat.mod_eq_of_lt (by omega))
  simp [trainingSet, htrains, hsig, hcdr, haligned, ← hplace, hstate, hread, validTsu_tsuRead hty, hl', hecho]

theorem trainingSet_train (hstate : s.laneState (s.laneOfPad pad) = 2) :
    trainingSet pad place rd gs s = countTsu pad (tsuBytes ty l port) (readUpright (s.laneOfPad pad) s) := by
  have hpol : polarity (s.laneOfPad pad) (tsuRead ty l port) s = readUpright (s.laneOfPad pad) s := polarity_upright (readsInverted_tsuRead ..) ..
  have hstate' : (readUpright (s.laneOfPad pad) s).laneState (s.laneOfPad pad) = 2 := hstate
  have haligned' : (readUpright (s.laneOfPad pad) s).bit (R.LN_STAT.ALIGNED (s.laneOfPad pad)) = true := haligned
  simp [trainingSet, htrains, hsig, hcdr, haligned, ← hplace, hstate, hread, hpol, hstate', haligned', validTsu_tsuRead hty]

end

/-! ### Echoes and the map of a quad, R160 and R161 -/

theorem echoKind_self {pad : Nat} (h : pad < 64) : echoKind pad pad = 1 := by simp [echoKind, h]

theorem echoKind_mirror {pad : Nat} (h : pad < 64) : echoKind pad (mirror pad) = 2 := by
  have hmod : mirror pad % 4 = 3 - pad % 4 := by unfold mirror; omega
  have hne : 3 - pad % 4 ≠ pad % 4 := by omega
  simp [echoKind, mirror_quad, mirror_lt h, hmod, hne]

/-- The echo of a pad pair's own lane agrees with the map that has been decided. -/
theorem echoConflicts_own {s : State} {pad : Nat} (h : pad < 64) (hmap : s.map (pad / 4) = 1 ∨ s.map (pad / 4) = 2) :
    s.echoConflicts pad (s.laneOfPad pad) = false := by
  rcases hmap with hmap | hmap
  · simp [State.echoConflicts, State.laneOfPad, hmap, echoKind_self h]
  · simp [State.echoConflicts, State.laneOfPad, hmap, echoKind_mirror h]

theorem State.laneOfPad_lt (s : State) {pad : Nat} (h : pad < 64) : s.laneOfPad pad < 64 := by
  unfold State.laneOfPad
  split
  · exact mirror_lt h
  · exact h

/-- The first echo has decided the map of a quad (R160). -/
def mapDecided (q kind : Nat) (s : State) : State :=
  if kind = 2 then swapReceive q (s.set (R.QUAD_CFG.MAP q) kind) else s.set (R.QUAD_CFG.MAP q) kind

/-- A set with echo `l` is counted for lane `n`; the eighth with one echo enters READY (R163 step 5). -/
def countEcho (n l port : Nat) (s : State) : State :=
  let run := if (s.lane n).echo = some l then (s.lane n).tsuRun + 1 else 1
  let s := s.modLane n (fun x => { x with tsuRun := run, echo := some l })
  let s := if s.inAttempt n then s.set (R.LN_STAT.PORT n) (bits port 1 1) else s
  if run ≥ 8 ∧ s.laneState n = 2 then (s.set (R.LN_STAT.STATE n) 3).modLane n (fun x => { x with tsu2Run := 0, readyAt := s.ts.tsc }) else s

theorem countTsu_agreeing {s : State} {pad l port : Nat} (ty : Nat) (hl : l < 64) (hport : port < 256) (hecho : s.echoConflicts pad l = false) :
    countTsu pad (tsuBytes ty l port) s
      = if s.map (pad / 4) = 0 then
          countEcho ((mapDecided (pad / 4) (echoKind pad l) s).laneOfPad pad) l port (mapDecided (pad / 4) (echoKind pad l) s)
        else countEcho (s.laneOfPad pad) l port s := by
  have hl' : leAt (tsuBytes ty l port) 1 1 = l := (tsuBytes_echo ty l port).trans (Nat.mod_eq_of_lt (by omega))
  have hport' : leAt (tsuBytes ty l port) 2 1 = port := (tsuBytes_port ty l port).trans (Nat.mod_eq_of_lt hport)
  have hff : l ≠ 0xFF := by omega
  simp only [countTsu, hl', hport', hff, if_false, hecho, Bool.false_eq_true]
  split <;> rfl

/-- The first set with an echo is counted. -/
theorem countEcho_first {s : State} {n : Nat} (h : (s.lane n).tsuRun = 0) (l port : Nat) :
    ((countEcho n l port s).lane n).tsuRun = 1 ∧ ((countEcho n l port s).lane n).echo = some l
      ∧ Trains s (countEcho n l port s) [R.LN_STAT.PORT n] := by
  have hrun : (if (s.lane n).echo = some l then (s.lane n).tsuRun + 1 else 1) = 1 := by rw [h]; exact ite_self 1
  have heq : countEcho n l port s
      = if s.inAttempt n then (s.modLane n (fun x => { x with tsuRun := 1, echo := some l })).set (R.LN_STAT.PORT n) (bits port 1 1)
        else s.modLane n (fun x => { x with tsuRun := 1, echo := some l }) := by
    unfold countEcho
    rw [hrun]
    exact if_neg (by omega)
  have htrains := (Trains.refl s [R.LN_STAT.PORT n]).modLane n (fun x => { x with tsuRun := 1, echo := some l })
  rw [heq]
  refine ⟨?_, ?_, .ite (htrains.set _ (by simp)) htrains⟩
  · split
    · rw [State.lane_set, State.lane_modLane_self]
    · rw [State.lane_modLane_self]
  · split
    · rw [State.lane_set, State.lane_modLane_self]
    · rw [State.lane_modLane_self]

/-- A lane in TRAIN has entered READY, with the port of the set (R163 steps 5 and 6). -/
def readyEntered (n l port : Nat) (s : State) : State :=
  (((s.modLane n (fun x => { x with tsuRun := 8, echo := some l })).set (R.LN_STAT.PORT n) (bits port 1 1)).set (R.LN_STAT.STATE n) 3).modLane n
    (fun x => { x with tsu2Run := 0, readyAt := s.ts.tsc })

theorem countEcho_eighth {s : State} {n l : Nat} (hstate : s.laneState n = 2) (hecho : (s.lane n).echo = some l) (hrun : (s.lane n).tsuRun = 7)
    (port : Nat) : countEcho n l port s = readyEntered n l port s := by
  have htry : s.inAttempt n = true := State.inAttempt_of_state (.inl hstate)
  have hstate' : ((s.modLane n (fun x => { x with tsuRun := 8, echo := some l })).set (R.LN_STAT.PORT n) (bits port 1 1)).laneState n = 2 := by
    rw [State.laneState, State.get_set_apart _ _ rfl]; exact hstate
  have htry' : (s.modLane n (fun x => { x with tsuRun := 8, echo := some l })).inAttempt n = true := htry
  simp only [countEcho, hecho, hrun, if_true, htry', hstate']
  rfl

theorem readyEntered_holds (n l port : Nat) (s : State) :
    (readyEntered n l port s).laneState n = 3 ∧ (readyEntered n l port s).get (R.LN_STAT.PORT n) = port / 2 % 2
      ∧ ((readyEntered n l port s).lane n).tsu2Run = 0 ∧ ((readyEntered n l port s).lane n).readyAt = s.ts.tsc
      ∧ Trains s (readyEntered n l port s) [R.LN_STAT.STATE n, R.LN_STAT.PORT n] := by
  unfold readyEntered
  refine ⟨?_, ?_, ?_, ?_, ((((Trains.refl s _).modLane n _).set _ (by simp)).set 3 (by simp)).modLane n _⟩
  · rw [State.laneState, State.modLane_get, State.get_set_self]; rfl
  · rw [State.modLane_get, State.get_set_apart _ _ rfl, State.get_set_self]
    exact Nat.mod_mod _ 2
  · rw [State.lane_modLane_self]
  · rw [State.lane_modLane_self]

/-! ### The quad turns out reversed, R160 -/

/-- One lane takes over the receive side that its mirrored pad pair has in `old`. -/
def swapLane (old : State) (n : Nat) (s : State) : State :=
  let m := mirror n
  let s := ((s.set (R.LN_STAT.SIGNAL n) (old.get (R.LN_STAT.SIGNAL m))).set (R.LN_STAT.CDR_LOCK n)
    (old.get (R.LN_STAT.CDR_LOCK m))).set (R.LN_STAT.ALIGNED n) (old.get (R.LN_STAT.ALIGNED m))
  let s := (s.set (R.LN_STAT.RX_INV n) (old.get (R.LN_STAT.RX_INV m))).set (R.LN_STAT.RX_PAD n) m
  let r := old.lane m
  s.modLane n (fun l => { l with sigSeen := r.sigSeen, commas := r.commas, commaPlace := r.commaPlace, invRun := r.invRun, inverted := r.inverted, tsuRun := r.tsuRun, echo := r.echo, tsu2Run := r.tsu2Run })

theorem swapReceive_eq (q : Nat) (s : State) : swapReceive q s = showSpare q (s.each (quadLanes q) (swapLane s)) := rfl

theorem swapLane_trains (old s : State) (n : Nat) : Trains s (swapLane old n s) (R.LN_STAT.RX_PAD n :: receiveRegs n) :=
  ((((((Trains.refl s _).set _ (by simp [receiveRegs])).set _ (by simp [receiveRegs])).set _ (by simp [receiveRegs])).set _
    (by simp [receiveRegs])).set (f := R.LN_STAT.RX_PAD n) (mirror n) (by simp)).modLane n _

theorem swapLane_get_rxPad (old s : State) (n m : Nat) :
    (swapLane old n s).get (R.LN_STAT.RX_PAD m) = if n = m then mirror n % 64 else s.get (R.LN_STAT.RX_PAD m) := by
  unfold swapLane
  dsimp only
  rw [State.modLane_get]
  split
  · subst n; exact State.get_set_self ..
  · have hkey : (R.LN_STAT.RX_PAD n).key ≠ (R.LN_STAT.RX_PAD m).key := by simp only [Fld.key, R.LN_STAT.RX_PAD]; omega
    rw [State.get_set_of_ne _ _ hkey, State.get_set_apart _ _ rfl, State.get_set_apart _ _ rfl, State.get_set_apart _ _ rfl,
      State.get_set_apart _ _ rfl]

theorem swapLane_tsuRun (old s : State) (n m : Nat) :
    ((swapLane old n s).lane m).tsuRun = if n = m then (old.lane (mirror n)).tsuRun else (s.lane m).tsuRun := by
  unfold swapLane
  dsimp only
  rw [State.lane_modLane]
  split <;> rfl

theorem swapLane_get_map (old s : State) (n q : Nat) : (swapLane old n s).get (R.QUAD_CFG.MAP q) = s.get (R.QUAD_CFG.MAP q) :=
  (swapLane_trains old s n).regs.get_apart rfl

theorem showSpare_frame (q : Nat) (s : State) : showSpare q s = { s with regs := (showSpare q s).regs } := by
  unfold showSpare
  split
  · rfl
  · exact State.each_keeps (P := fun x => x = { s with regs := x.regs }) rfl fun n _ x hx =>
      State.regsFrame_set hx (R.LN_STAT.ON_SPARE n) _

/-- ON_SPARE aside, no field changes. -/
theorem showSpare_get_apart {f : Fld} (hf : ∀ n, (R.LN_STAT.ON_SPARE n).apart f = true) (q : Nat) (s : State) : (showSpare q s).get f = s.get f := by
  unfold showSpare
  split
  · rfl
  · exact State.each_get (fun n _ x => State.get_setBit_apart x _ (hf n)) s

theorem showSpare_lane (q : Nat) (s : State) (n : Nat) : (showSpare q s).lane n = s.lane n := by rw [showSpare_frame]; rfl

theorem swapReceive_rxPad {n : Nat} (hn : n < 64) (s : State) : (swapReceive (n / 4) s).get (R.LN_STAT.RX_PAD n) = mirror n := by
  have hm := mirror_lt hn
  rw [swapReceive_eq, showSpare_get_apart (fun _ => rfl)]
  refine State.each_sets (Q := fun x => x.get (R.LN_STAT.RX_PAD n) = mirror n) (n := n) (mem_quadLanes.2 rfl) (fun x => ?_) fun m _ x hx => ?_
  · rw [swapLane_get_rxPad, if_pos rfl]; omega
  · rw [swapLane_get_rxPad]
    split
    · subst n; omega
    · exact hx

theorem swapReceive_tsuRun (n : Nat) (s : State) : ((swapReceive (n / 4) s).lane n).tsuRun = (s.lane (mirror n)).tsuRun := by
  rw [swapReceive_eq, showSpare_lane]
  refine State.each_sets (Q := fun x => (x.lane n).tsuRun = (s.lane (mirror n)).tsuRun) (n := n) (mem_quadLanes.2 rfl) (fun x => ?_) fun m _ x hx => ?_
  · rw [swapLane_tsuRun, if_pos rfl]
  · rw [swapLane_tsuRun]
    split
    · subst n; rfl
    · exact hx

theorem swapReceive_map (q k : Nat) (s : State) : (swapReceive q s).map k = s.map k := by
  unfold State.map
  rw [swapReceive_eq, showSpare_get_apart (fun _ => rfl)]
  exact State.each_get (fun n _ x => swapLane_get_map s x n k) s

theorem swapReceive_frame (q : Nat) (s : State) :
    swapReceive q s = { s with regs := (swapReceive q s).regs, lanes := (swapReceive q s).lanes } := by
  have hswap : s.each (quadLanes q) (swapLane s)
      = { s with regs := (s.each (quadLanes q) (swapLane s)).regs, lanes := (s.each (quadLanes q) (swapLane s)).lanes } :=
    State.each_keeps (P := fun x => x = { s with regs := x.regs, lanes := x.lanes }) rfl fun n _ x hx =>
      State.lanesFrame_trans hx (swapLane_trains s x n).frame
  have hshow := showSpare_frame q (s.each (quadLanes q) (swapLane s))
  refine State.lanesFrame_trans hswap (hshow.trans ?_)
  rw [swapReceive_eq, hshow]

/-- The map that the first echo decides: straight, or reversed with the receive side of the mirrored pad pair taken over. -/
theorem mapDecided_holds {s : State} {pad l : Nat} (hpad : pad < 64) (hl : l = pad ∨ l = mirror pad) (hrun : (s.lane pad).tsuRun = 0) :
    (mapDecided (pad / 4) (echoKind pad l) s).map (pad / 4) = (if l = pad then 1 else 2)
      ∧ (mapDecided (pad / 4) (echoKind pad l) s).get (R.LN_STAT.RX_PAD l) = (if l = pad then s.get (R.LN_STAT.RX_PAD l) else pad)
      ∧ ((mapDecided (pad / 4) (echoKind pad l) s).lane l).tsuRun = 0
      ∧ mapDecided (pad / 4) (echoKind pad l) s
        = { s with regs := (mapDecided (pad / 4) (echoKind pad l) s).regs, lanes := (mapDecided (pad / 4) (echoKind pad l) s).lanes } := by
  rcases hl with rfl | rfl
  · rw [echoKind_self hpad]
    simp only [if_true]
    exact ⟨State.get_set_self s (R.QUAD_CFG.MAP (l / 4)) 1, State.get_set_apart s _ rfl, hrun, rfl⟩
  · have hset : (s.set (R.QUAD_CFG.MAP (pad / 4)) 2).map (pad / 4) = 2 := State.get_set_self s (R.QUAD_CFG.MAP (pad / 4)) 2
    have hdecided : mapDecided (pad / 4) 2 s = swapReceive (mirror pad / 4) (s.set (R.QUAD_CFG.MAP (pad / 4)) 2) := by
      rw [mirror_quad]; rfl
    rw [echoKind_mirror hpad, if_neg (mirror_ne pad), if_neg (mirror_ne pad), hdecided]
    refine ⟨(swapReceive_map ..).trans hset, (swapReceive_rxPad (mirror_lt hpad) _).trans (mirror_mirror pad), ?_, ?_⟩
    · rw [swapReceive_tsuRun, mirror_mirror]; exact hrun
    · exact State.lanesFrame_trans rfl (swapReceive_frame _ _)

/-- The first set received while the map is undecided decides it (R160), and counts. -/
theorem countTsu_first {s : State} {pad l port : Nat} (hpad : pad < 64) (hmap : s.map (pad / 4) = 0) (hl : l = pad ∨ l = mirror pad)
    (hrun : (s.lane pad).tsuRun = 0) (ty : Nat) (hport : port < 256) :
    (countTsu pad (tsuBytes ty l port) s).map (pad / 4) = (if l = pad then 1 else 2)
      ∧ (countTsu pad (tsuBytes ty l port) s).get (R.LN_STAT.RX_PAD l) = (if l = pad then s.get (R.LN_STAT.RX_PAD l) else pad)
      ∧ ((countTsu pad (tsuBytes ty l port) s).lane l).tsuRun = 1 ∧ ((countTsu pad (tsuBytes ty l port) s).lane l).echo = some l
      ∧ countTsu pad (tsuBytes ty l port) s
        = { s with regs := (countTsu pad (tsuBytes ty l port) s).regs, lanes := (countTsu pad (tsuBytes ty l port) s).lanes } := by
  obtain ⟨hdecided, hrxPad, hcount, hframe⟩ := mapDecided_holds hpad hl hrun
  have hl64 : l < 64 := by
    rcases hl with rfl | rfl
    · exact hpad
    · exact mirror_lt hpad
  have hecho : s.echoConflicts pad l = false := by
    rcases hl with rfl | rfl
    · simp [State.echoConflicts, hmap, echoKind_self hpad]
    · simp [State.echoConflicts, hmap, echoKind_mirror hpad]
  have hlane : (mapDecided (pad / 4) (echoKind pad l) s).laneOfPad pad = l := by
    rw [State.laneOfPad, hdecided]
    rcases hl with rfl | rfl
    · simp
    · simp [mirror_ne]
  rw [countTsu_agreeing ty hl64 hport hecho, if_pos hmap, hlane]
  obtain ⟨hone, hfirst, htrains⟩ := countEcho_first hcount l port
  refine ⟨?_, ?_, hone, hfirst, State.lanesFrame_trans hframe htrains.frame⟩
  · rw [State.map, htrains.regs.get_apart rfl, ← State.map, hdecided]
  · rw [htrains.regs.get_apart rfl, hrxPad]

/-! ### READY and UP, R163 steps 5 and 6 -/

/-- The eighth set in a row with a lane's own echo enters READY. -/
theorem countTsu_eighth {s : State} {pad : Nat} (hpad : pad < 64) (hmap : s.map (pad / 4) = 1 ∨ s.map (pad / 4) = 2)
    (hstate : s.laneState (s.laneOfPad pad) = 2) (hecho : (s.lane (s.laneOfPad pad)).echo = some (s.laneOfPad pad))
    (hrun : (s.lane (s.laneOfPad pad)).tsuRun = 7) (ty : Nat) {port : Nat} (hport : port < 256) :
    countTsu pad (tsuBytes ty (s.laneOfPad pad) port) s = readyEntered (s.laneOfPad pad) (s.laneOfPad pad) port s := by
  rw [countTsu_agreeing ty (s.laneOfPad_lt hpad) hport (echoConflicts_own hpad hmap), if_neg (by omega), countEcho_eighth hstate hecho hrun]

/-- The lane has entered UP, and its link identification (R219). -/
def upEntered (n : Nat) (s : State) : State :=
  ((((s.set (R.LN_STAT.STATE n) 4).modLane n (fun l => { l with wasLost := false, absent := false, retry := false, codeErrs := 0 })).set
    (R.LKN_STAT.ADMIT n) 1).set (R.LKN_STAT.ID_RESULT n) 0).modLink n
      (fun l => { l with descReq := true, segs := [], fetchAt := s.frame, desc := [], refetch := false })

/-- A lane that comes up for the first time, at the right port, reports nothing. -/
theorem laneUp_first {s : State} {n : Nat} (hlost : (s.lane n).wasLost = false) (habsent : (s.lane n).absent = false)
    (hport : s.get (R.LN_STAT.PORT n) = s.pos % 2) : laneUp n s = upEntered n s := by
  have hport' : (upEntered n s).get (R.LN_STAT.PORT n) = (upEntered n s).pos % 2 := by
    refine Eq.trans ?_ hport
    unfold upEntered
    rw [State.modLink_get, State.get_set_apart _ _ rfl, State.get_set_apart _ _ rfl, State.modLane_get, State.get_set_apart _ _ rfl]
  have hright : ((upEntered n s).get (R.LN_STAT.PORT n) != (upEntered n s).pos % 2) = false := by simp [hport']
  have hlaneUp : laneUp n s = raiseAll ((if (s.lane n).wasLost || (s.lane n).absent then [Src.LN_RETRAINED n] else [])
      ++ (if (upEntered n s).get (R.LN_STAT.PORT n) != (upEntered n s).pos % 2 then [Src.LKN_PORT_WRONG n] else []))
      (if (upEntered n s).get (R.LN_STAT.PORT n) != (upEntered n s).pos % 2 then (upEntered n s).set (R.LKN_STAT.ADMIT n) 3 else upEntered n s) := rfl
  rw [hlaneUp, hright, hlost, habsent]
  rfl

theorem upEntered_holds (n : Nat) (s : State) :
    (upEntered n s).up n = true ∧ (upEntered n s).get (R.LKN_STAT.ADMIT n) = 1 ∧ (upEntered n s).get (R.LKN_STAT.ID_RESULT n) = 0
      ∧ ((upEntered n s).link n).descReq = true ∧ ((upEntered n s).link n).fetchAt = s.frame
      ∧ OnlyRegs s (upEntered n s) [R.LN_STAT.STATE n, R.LKN_STAT.ADMIT n, R.LKN_STAT.ID_RESULT n]
      ∧ upEntered n s = { s with regs := (upEntered n s).regs, lanes := (upEntered n s).lanes, links := (upEntered n s).links } := by
  have htrains : Trains s ((((s.set (R.LN_STAT.STATE n) 4).modLane n
      (fun l => { l with wasLost := false, absent := false, retry := false, codeErrs := 0 })).set (R.LKN_STAT.ADMIT n) 1).set (R.LKN_STAT.ID_RESULT n) 0)
      [R.LN_STAT.STATE n, R.LKN_STAT.ADMIT n, R.LKN_STAT.ID_RESULT n] :=
    ((((Trains.refl s _).set 4 (by simp)).modLane n _).set 1 (by simp)).set 0 (by simp)
  have hstate : (upEntered n s).get (R.LN_STAT.STATE n) = 4 := by
    unfold upEntered
    rw [State.modLink_get, State.get_set_apart _ _ rfl, State.get_set_apart _ _ rfl, State.modLane_get, State.get_set_self]
    rfl
  have hadmit : (upEntered n s).get (R.LKN_STAT.ADMIT n) = 1 := by
    unfold upEntered
    rw [State.modLink_get, State.get_set_apart _ _ rfl, State.get_set_self]
    rfl
  have hid : (upEntered n s).get (R.LKN_STAT.ID_RESULT n) = 0 := by
    unfold upEntered
    rw [State.modLink_get, State.get_set_self]
    rfl
  refine ⟨by simp [State.up, hstate], hadmit, hid, ?_, ?_, ?_, ?_⟩
  · rw [upEntered, State.link_modLink, if_pos rfl]
  · rw [upEntered, State.link_modLink, if_pos rfl]
  · exact (htrains.regs).modLink n _
  · exact congrArg (fun y : State => { y with links := (upEntered n s).links }) htrains.frame

/-- The eighth TSU2 set in a row has been counted. -/
def setCounted (n : Nat) (s : State) : State := s.modLane n (fun l => { l with tsu2Run := 8 })

/-- The eighth TSU2 set in a row, with 16 TSD2 sets sent, enters UP. -/
theorem countTsu2_eighth {s : State} {n : Nat} (hrun : (s.lane n).tsu2Run = 7) (hsent : 16 ≤ s.tsd2Sent n) (hlost : (s.lane n).wasLost = false)
    (habsent : (s.lane n).absent = false) (hport : s.get (R.LN_STAT.PORT n) = s.pos % 2) (l port : Nat) :
    countTsu2 n (tsuBytes 0x12 l port) s = upEntered n (setCounted n s) := by
  have hty : leAt (tsuBytes 0x12 l port) 0 1 = 0x12 := tsuBytes_type ..
  have hlane : (setCounted n s).lane n = { s.lane n with tsu2Run := 8 } := State.lane_modLane_self ..
  have hsent' : 16 ≤ (setCounted n s).tsd2Sent n := by
    rw [State.tsd2Sent, State.setsAt, hlane]
    exact hsent
  have hup : countTsu2 n (tsuBytes 0x12 l port) s = laneUp n (setCounted n s) := by
    rw [setCounted] at hsent'
    simp [countTsu2, hty, hrun, hsent', setCounted]
  exact hup.trans (laneUp_first (by rw [hlane]; exact hlost) (by rw [hlane]; exact habsent) hport)

/-! ### Commands -/

theorem exec_laneEnable (n : Fin 64) (s : State) :
    exec (.laneEnable n) s = .next (if s.inState [.configure] && !s.laneEn n then bringUp n (s.set (R.LN_CTRL.EN n) 1) else s) := rfl
theorem exec_laneSignalDetect (n : Fin 64) (s : State) :
    exec (.laneSignalDetect n) s = .next (if s.laneState n = 2 ∨ s.laneState n = 8 ∨ (s.map (n.val / 4) = 0 ∧ s.laneState (mirror n) = 2) then
      (s.set (R.LN_STAT.SIGNAL n) 1).modLane n (fun l => { l with sigSeen := true }) else s) := rfl
theorem exec_laneCdrLock (n : Fin 64) (s : State) :
    exec (.laneCdrLock n) s
      = .next (if (s.laneState n = 2 ∨ s.laneState n = 8 ∨ (s.map (n.val / 4) = 0 ∧ s.laneState (mirror n) = 2)) ∧ s.bit (R.LN_STAT.SIGNAL n) then
          s.set (R.LN_STAT.CDR_LOCK n) 1 else s) := rfl
theorem exec_trainingSetRx (pad : Fin 64) (place : Fin 10) (rd : Bool) (gs : List Nat) (s : State) :
    exec (.trainingSetRx pad place rd gs) s = .next (trainingSet pad place rd gs s) := rfl

/-- A lane that is enabled in Configure starts attempt 1 (R162). -/
theorem bringUp_en_set {s : State} {n : Nat} (hstate : s.pw.state = .configure) (hdead : s.sec.deadLanes = 0)
    (hlock : s.bit R.CLK_STAT.LOCK_C = true) (hup : s.up n = false) :
    bringUp n (s.set (R.LN_CTRL.EN n) 1) = startAttempt n 1 (s.set (R.LN_CTRL.EN n) 1) := by
  refine bringUp_configure ?_ ?_ ?_ hstate
  · rw [State.up, State.get_set_apart _ _ rfl]; exact hup
  · rw [State.laneEn_of_sound (s := s.set (R.LN_CTRL.EN n) 1) hdead, State.bit, State.get_set_self]; rfl
  · rw [State.bit, State.get_set_apart _ _ rfl]; exact hlock

/-- The fourth comma at one bit position aligns the receiver (R163 steps 3 and 4). -/
theorem countComma_fourth {s : State} {n : Nat} (hcommas : (s.lane n).commas = 3) (haligned : s.get (R.LN_STAT.ALIGNED n) = 0) (place : Nat) :
    (countComma n place true s).get (R.LN_STAT.ALIGNED n) = b2n ((s.lane n).commaPlace == place)
      ∧ ((countComma n place true s).lane n).commas = (if (s.lane n).commaPlace = place then 4 else 1)
      ∧ ((countComma n place true s).lane n).commaPlace = place
      ∧ Trains s (countComma n place true s) [R.LN_STAT.ALIGNED n] := by
  have htrains := (Trains.refl s [R.LN_STAT.ALIGNED n]).modLane n
  by_cases hplace : (s.lane n).commaPlace = place
  · have heq : countComma n place true s = (s.modLane n (fun l => { l with commas := 4, commaPlace := place })).set (R.LN_STAT.ALIGNED n) 1 := by
      simp [countComma, hplace, hcommas]
    rw [heq]
    refine ⟨?_, ?_, ?_, (htrains _).set 1 (by simp)⟩
    · rw [State.get_set_self, hplace, beq_self_eq_true]; rfl
    · rw [State.lane_set, State.lane_modLane_self, if_pos hplace]
    · rw [State.lane_set, State.lane_modLane_self]
  · have heq : countComma n place true s = s.modLane n (fun l => { l with commas := 1, commaPlace := place }) := by
      simp [countComma, hplace]
    rw [heq]
    refine ⟨?_, ?_, ?_, htrains _⟩
    · rw [State.modLane_get, haligned, beq_false_of_ne hplace]; rfl
    · rw [State.lane_modLane_self, if_neg hplace]
    · rw [State.lane_modLane_self]

/-- Settles O9: the code by `readGroups_groupsOf`, and each step of R163 by what a training set does in it: alignment (`countComma_fourth`), the map
(`countTsu_first`), READY (`countTsu_eighth`), UP (`countTsu2_eighth`), and a set off the aligned position (`trainingSet_off`). -/
theorem laneBringUpSteps : Obligations.LaneBringUpSteps := by
  unfold Obligations.LaneBringUpSteps
  refine ⟨readGroups_groupsOf, ?enable, ?signal, ?cdr, ?comma, ?firstEcho, ?ready, ?up, ?off⟩
  case enable =>
    intro s n hstate hen hdead hlock hup
    have hdis : s.laneEn n = false := State.laneEn_of_en_false hen
    rw [exec_laneEnable, if_pos (by simp [s.inState_configure hstate, hdis]), bringUp_en_set hstate hdead hlock hup]
    have hstart := startAttempt_started (k := 1) (by decide) n (s.set (R.LN_CTRL.EN n) 1)
    have hset : OnlyRegs s (s.set (R.LN_CTRL.EN n) 1) [R.LN_CTRL.EN n] := (OnlyRegs.of_regs rfl _).set 1 (by simp)
    refine ⟨_, rfl, ?_, hstart.state, hstart.attempt, hstart.aligned, ?_, ?_, ?_, hset.trans hstart.trains.regs,
      State.lanesFrame_trans rfl hstart.trains.frame⟩
    · have hkept : (startAttempt n 1 (s.set (R.LN_CTRL.EN n) 1)).get (R.LN_CTRL.EN n) = (s.set (R.LN_CTRL.EN n) 1).get (R.LN_CTRL.EN n) :=
        hstart.trains.get_of_addr (by show 31 < 32; decide) (by simp only [R.LN_CTRL.EN]; omega) (by simp only [R.LN_CTRL.EN, mirror]; omega)
      rw [hkept, State.get_set_self]; rfl
    · rw [hstart.polarity, State.get_set_apart _ _ rfl]
    · rw [hstart.lane]; rfl
    · rw [hstart.lane]; rfl
  case signal =>
    intro s n hstate
    rw [exec_laneSignalDetect, if_pos (by tauto)]
    have htrains := ((Trains.refl s [R.LN_STAT.SIGNAL n]).set (f := R.LN_STAT.SIGNAL n) 1 (by simp)).modLane n (fun l => { l with sigSeen := true })
    refine ⟨_, rfl, ?_, ?_, htrains.regs, htrains.frame⟩
    · rw [State.modLane_get, State.get_set_self]; rfl
    · rw [State.lane_modLane_self]
  case cdr =>
    intro s n hstate hsig
    rw [exec_laneCdrLock, if_pos (by tauto)]
    exact ⟨_, rfl, State.get_set_self s (R.LN_STAT.CDR_LOCK n) 1, (OnlySets.refl s _).set 1 (by simp)⟩
  case comma =>
    rintro s p n k rd g gs rfl hstate hsig hcdr haligned hcommas hcomma
    have htry : s.inAttempt (s.laneOfPad p) = true ∨ s.laneState (s.laneOfPad p) = 8 := hstate.imp_left fun h => State.inAttempt_of_state (.inl h)
    have hany : ((g :: gs).take 1).any isComma = true := by simp [hcomma]
    rw [exec_trainingSetRx, trainingSet_unaligned (padTrains_of_state htry) hsig hcdr haligned, hany]
    obtain ⟨hbit, hcount, hplace, htrains⟩ := countComma_fourth hcommas (State.get_of_bit_false haligned) k.val
    exact ⟨_, rfl, hbit, hcount, hplace, htrains.regs, htrains.frame⟩
  case firstEcho =>
    intro s p k rd gs l ty port hplace hmap hstate hsig hcdr haligned hrun hl hty hport hread
    have hpad : s.laneOfPad p = p := if_neg (by omega)
    have htry : s.inAttempt (s.laneOfPad p) = true := State.inAttempt_of_state (.inl (by rw [hpad]; exact hstate))
    have hcount : trainingSet p k rd gs s = countTsu p (tsuBytes ty l port) (readUpright p s) := by
      have hset := @trainingSet_train s p k rd gs (padTrains_of_state (.inl htry))
      rw [hpad] at hset
      exact hset hsig hcdr haligned hplace hty hread hstate
    rw [exec_trainingSetRx, hcount]
    obtain ⟨hdecided, hrxPad, hone, hecho, hframe⟩ :=
      countTsu_first (s := readUpright p s) p.isLt hmap hl ((readUpright_tsuRun ..).trans hrun) ty hport
    exact ⟨_, rfl, hdecided, hrxPad, hone, hecho, State.lanesFrame_trans rfl hframe⟩
  case ready =>
    rintro s p n k rd gs ty port rfl hplace hmap hstate hsig hcdr haligned hrun hecho hty hport hread
    have htry : s.inAttempt (s.laneOfPad p) = true := State.inAttempt_of_state (.inl hstate)
    have hcount : countTsu p (tsuBytes ty (s.laneOfPad p) port) (readUpright (s.laneOfPad p) s)
        = readyEntered (s.laneOfPad p) (s.laneOfPad p) port (readUpright (s.laneOfPad p) s) :=
      countTsu_eighth (s := readUpright (s.laneOfPad p) s) p.isLt hmap hstate ((readUpright_echo ..).trans hecho)
        ((readUpright_tsuRun ..).trans hrun) ty hport
    rw [exec_trainingSetRx, trainingSet_train (padTrains_of_state (.inl htry)) hsig hcdr haligned hplace hty hread hstate, hcount]
    obtain ⟨hready, hportBit, htsu2, hat, htrains⟩ :=
      readyEntered_holds (s.laneOfPad p) (s.laneOfPad p) port (readUpright (s.laneOfPad p) s)
    exact ⟨_, rfl, hready, hportBit, htsu2, hat, htrains.regs, State.lanesFrame_trans rfl htrains.frame⟩
  case up =>
    rintro s p n k rd gs port rfl hplace hmap hstate hsig hcdr haligned hrun hlost habsent hpos hsent hport hread
    have htry : s.inAttempt (s.laneOfPad p) = true := State.inAttempt_of_state (.inr hstate)
    rw [exec_trainingSetRx, trainingSet_ready (padTrains_of_state (.inl htry)) hsig hcdr haligned hplace (.inr rfl) hread hstate
      (s.laneOfPad_lt p.isLt) (echoConflicts_own p.isLt hmap), countTsu2_eighth hrun hsent hlost habsent hpos]
    obtain ⟨hup, hadmit, hid, hreq, hfetch, hregs, hframe⟩ := upEntered_holds (s.laneOfPad p) (setCounted (s.laneOfPad p) s)
    exact ⟨_, rfl, hup, hadmit, hid, hreq, hfetch, hregs, hframe⟩
  case off =>
    rintro s p n k rd gs rfl htry hsig hcdr haligned hplace
    rw [exec_trainingSetRx, trainingSet_off (padTrains_of_state (.inl htry)) hsig hcdr haligned htry hplace]

end Sys2Proof.Machine
end

section
/-!
PROOFS. The map mode of a quad, its spare, and the test modes of a lane (R161, R173 to R179).
-/
namespace Sys2Proof.Machine

/-! ### The map mode, R161 -/

/-- The receive pad pair of each lane of a quad, by the orientation (R161). -/
def padsMapped (q mode : Nat) (s : State) : State :=
  s.each (quadLanes q) (fun n s => s.set (R.LN_STAT.RX_PAD n) (if orientation mode = 2 then mirror n else n))

theorem padsMapped_reversed {n : Nat} (hn : n < 64) (s : State) : (padsMapped (n / 4) 2 s).get (R.LN_STAT.RX_PAD n) = mirror n := by
  have hm := mirror_lt hn
  refine State.each_sets (Q := fun x => x.get (R.LN_STAT.RX_PAD n) = mirror n) (n := n) (mem_quadLanes.2 rfl) (fun x => ?_) fun m _ x hx => ?_
  · rw [State.get_set_self]
    exact Nat.mod_eq_of_lt hm
  · by_cases h : m = n
    · subst m
      rw [State.get_set_self]
      exact Nat.mod_eq_of_lt hm
    · have hkey : (R.LN_STAT.RX_PAD m).key ≠ (R.LN_STAT.RX_PAD n).key := by simp only [Fld.key, R.LN_STAT.RX_PAD]; omega
      rw [State.get_set_of_ne _ _ hkey, hx]

theorem padsMapped_get_apart {f : Fld} (hf : ∀ n, (R.LN_STAT.RX_PAD n).apart f = true) (q mode : Nat) (s : State) :
    (padsMapped q mode s).get f = s.get f := State.each_get (fun n _ x => State.get_set_apart x _ (hf n)) s

theorem padsMapped_frame (q mode : Nat) (s : State) : padsMapped q mode s = { s with regs := (padsMapped q mode s).regs } :=
  State.each_keeps (P := fun x => x = { s with regs := x.regs }) rfl fun n _ _ hx => State.regsFrame_set hx (R.LN_STAT.RX_PAD n) _

theorem writeMapMode_same {s : State} {q v : Nat} (hstate : s.pw.state = .configure)
    (h : orientation (v % 4) = orientation (s.get (R.QUAD_CFG.MAP_MODE q))) : writeMapMode q v s = s.set (R.QUAD_CFG.MAP_MODE q) v := by
  simp [writeMapMode, s.inState_configure hstate, h]

/-- A new orientation of a quad without an enabled lane sets the map and the pad pairs, and no lane trains. -/
theorem writeMapMode_idle {s : State} {q : Nat} (hstate : s.pw.state = .configure) (h : orientation (s.get (R.QUAD_CFG.MAP_MODE q)) = 0)
    (hq : q < 16) (hen : ∀ n, n < 64 → s.bit (R.LN_CTRL.EN n) = false) :
    writeMapMode q 2 s = showSpare q (padsMapped q 2 ((s.set (R.QUAD_CFG.MAP_MODE q) 2).set (R.QUAD_CFG.MAP q) 2)) := by
  let x := padsMapped q 2 ((s.set (R.QUAD_CFG.MAP_MODE q) 2).set (R.QUAD_CFG.MAP q) 2)
  have hwrite : writeMapMode q 2 s = showSpare q (x.each (quadLanes q) (fun n s => if s.laneEn n then bringUp n s else s)) := by
    have hnew : orientation 2 ≠ orientation (s.get (R.QUAD_CFG.MAP_MODE q)) := by rw [h]; decide
    unfold writeMapMode
    rw [if_pos (s.inState_configure hstate)]
    exact if_neg hnew
  have hidle : x.each (quadLanes q) (fun n s => if s.laneEn n then bringUp n s else s) = x := by
    refine State.each_eq_self fun n hn => if_neg ?_
    have hquad := mem_quadLanes.1 hn
    have hoff : x.bit (R.LN_CTRL.EN n) = false := by
      rw [State.bit, padsMapped_get_apart fun _ => rfl, State.get_set_apart _ _ rfl, State.get_set_apart _ _ rfl]
      exact hen n (by omega)
    rw [State.laneEn_of_en_false hoff]
    exact Bool.false_ne_true
  rw [hwrite, hidle]

/-! ### The spare, R173 and R174 -/

theorem mem_padLanes {s : State} {q sel n : Nat} (h : n ∈ s.padLanes q sel) : n / 4 = q := by
  unfold State.padLanes at h
  split at h
  · cases h
  · exact mem_quadLanes.1 (List.mem_filter.1 h).1

theorem writeSpare_refused {s : State} {q v : Nat} (h : 5 ≤ v ∨ s.bit (R.QUAD_CFG.SPARE_LOCK q) = true) :
    writeSpare q v s = raise Src.LA_SETTING_REFUSED s := by
  rcases h with h | h <;> simp [writeSpare, refuse, h]

/-- The spare of a quad whose lanes are all disabled calibrates. -/
theorem writeSpare_idle {s : State} {q v : Nat} (hq : q < 16) (hv : v ≤ 4) (hlock : s.bit (R.QUAD_CFG.SPARE_LOCK q) = false)
    (hoff : ∀ n, n < 64 → s.laneState n = 0) (hen : ∀ n, n < 64 → s.bit (R.LN_CTRL.EN n) = false) :
    writeSpare q v s = (s.set (R.QUAD_CFG.SPARE_SEL q) v).set (R.QUAD_CFG.SPARE_BUSY q) 1 := by
  have hlane : ∀ n ∈ s.padLanes q (s.get (R.QUAD_CFG.SPARE_SEL q)) ++ s.padLanes q v, n < 64 := by
    intro n hn
    have hquad : n / 4 = q := (List.mem_append.1 hn).elim mem_padLanes mem_padLanes
    omega
  have hfree : (s.padLanes q (s.get (R.QUAD_CFG.SPARE_SEL q)) ++ s.padLanes q v).any (fun n => s.laneState n == 4 || s.laneState n == 7) = false := by
    rw [List.any_eq_false]
    intro n hn
    simp [hoff n (hlane n hn)]
  have hv' : decide (v ≥ 5) = false := by simpa using by omega
  unfold writeSpare
  extract_lets hit x
  rw [hv', hlock, hfree]
  refine State.each_eq_self fun n hn => if_neg ?_
  have hdis : x.bit (R.LN_CTRL.EN n) = false := by
    rw [State.bit, State.get_set_apart _ _ rfl, State.get_set_apart _ _ rfl]
    exact hen n (hlane n hn)
  rw [State.laneEn_of_en_false hdis]
  exact Bool.false_ne_true

/-- What decides which lanes the spare of quad `q` serves reads in `x` as in `s`. -/
def SpareKept (q : Nat) (s x : State) : Prop :=
  (∀ n, x.get (R.LN_STAT.RX_PAD n) = s.get (R.LN_STAT.RX_PAD n)) ∧ x.get (R.QUAD_CFG.SPARE_SEL q) = s.get (R.QUAD_CFG.SPARE_SEL q)

theorem SpareKept.setBit_onSpare {q : Nat} {s x : State} (h : SpareKept q s x) (n : Nat) (b : Bool) :
    SpareKept q s (x.setBit (R.LN_STAT.ON_SPARE n) b) := by
  obtain ⟨hpads, hsel⟩ := h
  exact ⟨fun m => (State.get_setBit_apart x b rfl).trans (hpads m), (State.get_setBit_apart x b rfl).trans hsel⟩

theorem SpareKept.padLanes {q : Nat} {s x : State} (h : SpareKept q s x) :
    x.padLanes q (x.get (R.QUAD_CFG.SPARE_SEL q)) = s.padLanes q (s.get (R.QUAD_CFG.SPARE_SEL q)) := by
  obtain ⟨hpads, hsel⟩ := h
  rw [hsel]
  simp only [State.padLanes, hpads]

/-- ON_SPARE of a lane shows whether the calibrated spare of its quad serves it. -/
theorem showSpare_onSpare {s : State} {q n : Nat} (hbusy : s.bit (R.QUAD_CFG.SPARE_BUSY q) = false) (hn : n / 4 = q) :
    (showSpare q s).bit (R.LN_STAT.ON_SPARE n) = (s.padLanes q (s.get (R.QUAD_CFG.SPARE_SEL q))).contains n := by
  have hshow : showSpare q s = s.each (quadLanes q) (fun n s =>
      s.setBit (R.LN_STAT.ON_SPARE n) ((s.padLanes q (s.get (R.QUAD_CFG.SPARE_SEL q))).contains n)) := if_neg (by simp [hbusy])
  rw [hshow]
  refine (State.each_reaches (P := SpareKept q s) (n := n)
    (Q := fun x => SpareKept q s x ∧ x.bit (R.LN_STAT.ON_SPARE n) = (s.padLanes q (s.get (R.QUAD_CFG.SPARE_SEL q))).contains n)
    (mem_quadLanes.2 hn) ⟨fun _ => rfl, rfl⟩ ?stays ?shown ?kept).2
  case stays => exact fun m x hx => hx.setBit_onSpare m _
  case shown =>
    intro x hx
    exact ⟨hx.setBit_onSpare n _, by rw [State.bit_setBit_self rfl, hx.padLanes]⟩
  case kept =>
    rintro m x ⟨hx, hbit⟩
    refine ⟨hx.setBit_onSpare m _, ?_⟩
    by_cases h : m = n
    · subst m
      rw [State.bit_setBit_self rfl, hx.padLanes]
    · have hkey : (R.LN_STAT.ON_SPARE m).key ≠ (R.LN_STAT.ON_SPARE n).key := by simp only [Fld.key, R.LN_STAT.ON_SPARE]; omega
      rw [State.setBit, State.bit_set_of_ne _ _ hkey, hbit]

theorem spareDone_idle {s : State} {q : Nat} (hq : q < 16) (hbusy : s.bit (R.QUAD_CFG.SPARE_BUSY q) = true) (h : ∀ n, n < 64 → s.laneState n ≠ 9) :
    spareDone q s = showSpare q (s.set (R.QUAD_CFG.SPARE_BUSY q) 0) := by
  have hdone : spareDone q s = (showSpare q (s.set (R.QUAD_CFG.SPARE_BUSY q) 0)).each (quadLanes q)
      (fun n s => if s.laneState n = 9 then bringUp n s else s) := if_pos hbusy
  rw [hdone]
  refine State.each_eq_self fun n hn => if_neg ?_
  have hquad := mem_quadLanes.1 hn
  rw [State.laneState, showSpare_get_apart fun _ => rfl, State.get_set_apart _ _ rfl]
  exact h n (by omega)

/-! ### Test modes, R175 to R179 -/

/-- The fields of LN_TEST that writing or clearing a test can change. -/
def testWord (n : Nat) : List Fld :=
  [R.LN_TEST.LOOP n, R.LN_TEST.PRBS_GEN n, R.LN_TEST.PRBS_CHK n, R.LN_TEST.PATTERN n, R.LN_TEST.PRBS_LOCK n]

/-- Fields of other words than LN_TEST stand. -/
theorem OnlyRegs.get_outside_test {s t : State} {n : Nat} (h : OnlyRegs s t (testWord n)) {f : Fld} (hlo : f.lo < 32)
    (haddr : f.addr ≠ 0x10114 + 0x40 * n) : t.get f = s.get f := by
  refine h f ?_
  simp only [testWord, List.map_cons, List.map_nil, List.mem_cons, List.not_mem_nil, or_false, Fld.key, R.LN_TEST.PRBS_GEN, R.LN_TEST.PRBS_CHK,
    R.LN_TEST.PATTERN, R.LN_TEST.LOOP, R.LN_TEST.PRBS_LOCK]
  omega

/-- What enables a lane lies outside LN_TEST. -/
theorem OnlyRegs.laneEn_outside_test {s t : State} {n : Nat} (h : OnlyRegs s t (testWord n)) (hsec : t.sec = s.sec) : t.laneEn n = s.laneEn n :=
  State.laneEn_congr (h.get_outside_test (by show 31 < 32; decide) (by simp only [R.LN_CTRL.EN]; omega)) (h.get_apart rfl) hsec

/-- STATE of the lane lies outside LN_TEST. -/
theorem OnlyRegs.laneState_outside_test {s t : State} {n : Nat} (h : OnlyRegs s t (testWord n)) : t.laneState n = s.laneState n :=
  h.get_outside_test (by show 28 < 32; decide) (by simp only [R.LN_STAT.STATE]; omega)

/-- A lane's test fields (R185) as a write gives them. -/
def testWritten (n v : Nat) (s : State) : State :=
  (((s.set (R.LN_TEST.PRBS_GEN n) (bits v 31 31)).set (R.LN_TEST.PRBS_CHK n) (bits v 30 30)).set (R.LN_TEST.PATTERN n) (bits v 29 28)).set
    (R.LN_TEST.LOOP n) (bits v 27 26)

theorem testWritten_onlySets (n v : Nat) (s : State) :
    OnlySets s (testWritten n v s) [R.LN_TEST.PRBS_GEN n, R.LN_TEST.PRBS_CHK n, R.LN_TEST.PATTERN n, R.LN_TEST.LOOP n] :=
  ((((OnlySets.refl s _).set _ (by simp)).set _ (by simp)).set _ (by simp)).set _ (by simp)

theorem testWritten_gen {v : Nat} (hv : v < 2 ^ 32) (n : Nat) (s : State) : (testWritten n v s).get (R.LN_TEST.PRBS_GEN n) = v / 2 ^ 31 := by
  unfold testWritten
  rw [State.get_set_apart _ _ rfl, State.get_set_apart _ _ rfl, State.get_set_apart _ _ rfl, State.get_set_self]
  simp only [bits, R.LN_TEST.PRBS_GEN]
  omega

theorem testWritten_loop (n v : Nat) (s : State) : (testWritten n v s).get (R.LN_TEST.LOOP n) = v / 2 ^ 26 % 4 := by
  unfold testWritten
  rw [State.get_set_self]
  exact Nat.mod_mod _ 4

theorem testWritten_outside (n v : Nat) (s : State) : OnlyRegs s (testWritten n v s) (testWord n) :=
  (testWritten_onlySets n v s).2.mono (by simp [testWord])

theorem testWritten_laneEn (n v : Nat) (s : State) : (testWritten n v s).laneEn n = s.laneEn n := (testWritten_outside n v s).laneEn_outside_test rfl

/-- `t` differs from `s` in the pattern generators and checkers, the draws they make (log 6), and PRBS_LOCK of one lane. -/
structure PatternsKept (n : Nat) (s t : State) : Prop where
  frame : t = { s with regs := t.regs, prbs := t.prbs, freeCount := t.freeCount }
  regs : OnlyRegs s t [R.LN_TEST.PRBS_LOCK n]

theorem PatternsKept.refl (n : Nat) (s : State) : PatternsKept n s s := ⟨rfl, .of_regs rfl _⟩

theorem PatternsKept.trans {n : Nat} {s x t : State} (h : PatternsKept n s x) (k : PatternsKept n x t) : PatternsKept n s t :=
  ⟨k.frame.trans (congrArg (fun y : State => { y with regs := t.regs, prbs := t.prbs, freeCount := t.freeCount }) h.frame),
    fun f hf => (k.regs f hf).trans (h.regs f hf)⟩

theorem PatternsKept.ite {n : Nat} {s t u : State} {c : Prop} [Decidable c] (ht : PatternsKept n s t) (hu : PatternsKept n s u) :
    PatternsKept n s (if c then t else u) := by split <;> assumption

theorem set_lock_patternsKept {n : Nat} (hn : n < 64) (v : Nat) (s : State) : PatternsKept n s (s.set (testRegs n).lock v) := by
  have hlock : (testRegs n).lock = R.LN_TEST.PRBS_LOCK n := by rw [testRegs, if_pos hn]
  rw [hlock]
  exact ⟨rfl, (OnlyRegs.of_regs rfl _).set v (by simp)⟩

/-- The generator and the checker take up what has been written (R175, R176). -/
theorem patternWritten_patternsKept {n : Nat} (hn : n < 64) (old s : State) : PatternsKept n s (patternWritten n old s) := by
  have hgen : PatternsKept n s (startGen n s) := ⟨rfl, .of_regs rfl _⟩
  have hseed : ∀ x : State, PatternsKept n x (x.modPrbs n reseed) := fun x => ⟨rfl, .of_regs rfl _⟩
  unfold patternWritten
  extract_lets r other x
  have hx : PatternsKept n s x := .ite hgen (.refl n s)
  have hlock := hx.trans (set_lock_patternsKept hn 0 x)
  exact .ite (hlock.trans (hseed _)) (.ite hlock hx)

/-- A write of test fields puts an enabled lane in TEST (R179). -/
def testEntered (n v : Nat) (s : State) : State := patternWritten n s ((testWritten n v s).set (R.LN_STAT.STATE n) 7)

theorem testEntered_holds {n v : Nat} (hn : n < 64) (hv : v < 2 ^ 32) (s : State) :
    (testEntered n v s).get (R.LN_STAT.STATE n) = 7 ∧ (testEntered n v s).get (R.LN_TEST.PRBS_GEN n) = v / 2 ^ 31
      ∧ (testEntered n v s).get (R.LN_TEST.LOOP n) = v / 2 ^ 26 % 4
      ∧ OnlyRegs s (testEntered n v s) [R.LN_STAT.STATE n, R.LN_TEST.PRBS_GEN n, R.LN_TEST.PRBS_CHK n, R.LN_TEST.PATTERN n, R.LN_TEST.LOOP n,
        R.LN_TEST.PRBS_LOCK n]
      ∧ testEntered n v s
        = { s with regs := (testEntered n v s).regs, prbs := (testEntered n v s).prbs, freeCount := (testEntered n v s).freeCount } := by
  obtain ⟨hframe, hregs⟩ := patternWritten_patternsKept hn s ((testWritten n v s).set (R.LN_STAT.STATE n) 7)
  obtain ⟨hwritten, hfields⟩ := testWritten_onlySets n v s
  unfold testEntered
  refine ⟨?_, ?_, ?_, ?_, ?_⟩
  · rw [hregs.get_apart rfl, State.get_set_self]; rfl
  · rw [hregs.get_apart rfl, State.get_set_apart _ _ rfl, testWritten_gen hv]
  · rw [hregs.get_apart rfl, State.get_set_apart _ _ rfl, testWritten_loop]
  · have hset : OnlyRegs s ((testWritten n v s).set (R.LN_STAT.STATE n) 7)
        [R.LN_STAT.STATE n, R.LN_TEST.PRBS_GEN n, R.LN_TEST.PRBS_CHK n, R.LN_TEST.PATTERN n, R.LN_TEST.LOOP n] :=
      (hfields.mono (by simp)).set 7 (by simp)
    exact hset.trans hregs
  · exact hframe.trans (congrArg (fun y : State => { y with
      regs := (testEntered n v s).regs, prbs := (testEntered n v s).prbs, freeCount := (testEntered n v s).freeCount })
      (State.regsFrame_set hwritten (R.LN_STAT.STATE n) 7))

theorem testFields_ne_zero {v : Nat} (h : 2 ^ 26 ≤ v) (hv : v < 2 ^ 32) : testFields v ≠ 0 := by
  simp only [testFields, bits]
  omega

theorem writeTest_enabled {s : State} {n v : Nat} (hstate : s.pw.state = .configure) (hv : testFields v ≠ 0) (hup : s.up n = false)
    (hen : s.laneEn n = true) : writeTest n v s = testEntered n v s := by
  have hen' : (testWritten n v s).laneEn n = true := (testWritten_laneEn n v s).trans hen
  have hup' : (testWritten n v s).up n = false := by
    rw [State.up, ← State.laneState, (testWritten_outside n v s).laneState_outside_test]; exact hup
  have hleave : leaveUp n (testWritten n v s) = testWritten n v s := leaveUp_of_not_up hup'
  unfold writeTest
  rw [if_pos (s.inState_configure hstate)]
  refine (if_pos hv).trans ((if_pos hen').trans ?_)
  rw [testEntered, ← hleave]
  rfl

/-- The test fields of a disabled lane are written, and it stays OFF (R162). -/
theorem writeTest_disabled {s : State} {n v : Nat} (hstate : s.pw.state = .configure) (hv : testFields v ≠ 0) (hen : s.laneEn n = false) :
    writeTest n v s = testWritten n v s := by
  have hen' : (testWritten n v s).laneEn n = false := (testWritten_laneEn n v s).trans hen
  unfold writeTest
  rw [if_pos (s.inState_configure hstate)]
  exact (if_pos hv).trans (if_neg (ne_true_of_eq_false hen'))

/-- The test fields of a lane have been cleared. -/
def testEnded (n : Nat) (s : State) : State := endPattern n (s.set (R.LN_TEST.LOOP n) 0)

theorem testEnded_eq {n : Nat} (hn : n < 64) (s : State) :
    testEnded n s = (((((s.set (R.LN_TEST.LOOP n) 0).set (R.LN_TEST.PRBS_GEN n) 0).set (R.LN_TEST.PRBS_CHK n) 0).set (R.LN_TEST.PATTERN n) 0).set
      (R.LN_TEST.PRBS_LOCK n) 0).modPrbs n (fun p => { reseed p with one := 0, late := false, tx := [] }) := by
  unfold testEnded endPattern testRegs
  rw [if_pos hn]

theorem testEnded_holds {n : Nat} (hn : n < 64) (s : State) :
    (testEnded n s).get (R.LN_TEST.PRBS_GEN n) = 0 ∧ (testEnded n s).get (R.LN_TEST.LOOP n) = 0
      ∧ (testEnded n s).get (R.LN_TEST.PRBS_LOCK n) = 0 := by
  rw [testEnded_eq hn]
  refine ⟨?_, ?_, ?_⟩
  · rw [State.modPrbs_get, State.get_set_apart _ _ rfl, State.get_set_apart _ _ rfl, State.get_set_apart _ _ rfl, State.get_set_self, Nat.zero_mod]
  · rw [State.modPrbs_get, State.get_set_apart _ _ rfl, State.get_set_apart _ _ rfl, State.get_set_apart _ _ rfl, State.get_set_apart _ _ rfl,
      State.get_set_self, Nat.zero_mod]
  · rw [State.modPrbs_get, State.get_set_self, Nat.zero_mod]

theorem testEnded_onlyRegs {n : Nat} (hn : n < 64) (s : State) : OnlyRegs s (testEnded n s) (testWord n) := by
  have hsets : OnlyRegs s (((((s.set (R.LN_TEST.LOOP n) 0).set (R.LN_TEST.PRBS_GEN n) 0).set (R.LN_TEST.PRBS_CHK n) 0).set
      (R.LN_TEST.PATTERN n) 0).set (R.LN_TEST.PRBS_LOCK n) 0) (testWord n) :=
    (((((OnlyRegs.of_regs rfl _).set 0 (by simp [testWord])).set 0 (by simp [testWord])).set 0 (by simp [testWord])).set 0
      (by simp [testWord])).set 0 (by simp [testWord])
  rw [testEnded_eq hn]
  exact hsets

theorem testEnded_pw_sec {n : Nat} (hn : n < 64) (s : State) : (testEnded n s).pw = s.pw ∧ (testEnded n s).sec = s.sec := by
  rw [testEnded_eq hn]
  exact ⟨rfl, rfl⟩

/-- An enabled lane leaves TEST into attempt 1 (R179). -/
theorem stopTest_enabled {s : State} {n : Nat} (hn : n < 64) (htest : s.laneState n = 7) (hstate : s.pw.state = .configure)
    (hen : s.laneEn n = true) (hlock : s.bit R.CLK_STAT.LOCK_C = true) : stopTest n s = startAttempt n 1 (testEnded n s) := by
  obtain ⟨hpw, hsec⟩ := testEnded_pw_sec hn s
  have hregs := testEnded_onlyRegs hn s
  have hstop : stopTest n s = bringUp n (testEnded n s) := if_pos htest
  rw [hstop]
  refine bringUp_configure ?_ ?_ ?_ (by rw [hpw, hstate])
  · rw [State.up, ← State.laneState, hregs.laneState_outside_test, htest]; rfl
  · rw [hregs.laneEn_outside_test hsec, hen]
  · rw [State.bit, hregs.get_apart rfl]; exact hlock

/-! ### Commands -/

theorem exec_quadMapModeWrite (q : Fin 16) (v : Nat) (s : State) : exec (.quadMapModeWrite q v) s = .next (writeMapMode q v s) := rfl
theorem exec_spareSelWrite (q : Fin 16) (v : Nat) (s : State) : exec (.spareSelWrite q v) s = .next (writeSpare q v s) := rfl
theorem exec_spareCalibrated (q : Fin 16) (s : State) : exec (.spareCalibrated q) s = .next (spareDone q s) := rfl
theorem exec_laneTestStart (n : Fin 64) (v : Word) (s : State) : exec (.laneTestStart n v) s = .next (writeTest n v.toNat s) := rfl
theorem exec_laneTestStop (n : Fin 64) (s : State) : exec (.laneTestStop n) s = .next (stopTest n s) := rfl

/-- Settles O11: without an enabled lane a new map mode and a spare select come down to their own fields (`writeMapMode_idle`, `writeSpare_idle`), the
calibrated spare shows the lanes it serves (`showSpare_onSpare`), and a lane enters TEST (`testEntered_holds`) and leaves it into attempt 1
(`stopTest_enabled`). -/
theorem quadsSparesAndTests : Obligations.QuadsSparesAndTests := by
  unfold Obligations.QuadsSparesAndTests
  refine ⟨?mapMode, ?sameMap, ?range, ?locked, ?spare, ?calibrated, ?test, ?disabled, ?stop⟩
  case mapMode =>
    intro s q hstate hmode hen
    rw [exec_quadMapModeWrite, writeMapMode_idle hstate hmode q.isLt hen]
    refine ⟨_, rfl, ?_, ?_, ?_, ?_⟩
    · rw [showSpare_get_apart fun _ => rfl, padsMapped_get_apart fun _ => rfl, State.get_set_apart _ _ rfl, State.get_set_self]; rfl
    · rw [showSpare_get_apart fun _ => rfl, padsMapped_get_apart fun _ => rfl, State.get_set_self]; rfl
    · intro k hk
      have hq : (4 * q.val + k) / 4 = q.val := by omega
      have hpad := padsMapped_reversed (n := 4 * q.val + k) (by omega) ((s.set (R.QUAD_CFG.MAP_MODE q) 2).set (R.QUAD_CFG.MAP q) 2)
      rw [hq] at hpad
      rw [showSpare_get_apart fun _ => rfl, hpad, mirror]
      omega
    · exact State.regsFrame_trans (State.regsFrame_trans (State.regsFrame_set rfl _ _) (padsMapped_frame q 2 _)) (showSpare_frame q _)
  case sameMap =>
    intro s q v hstate hv horient
    rw [exec_quadMapModeWrite, writeMapMode_same hstate (by rw [Nat.mod_eq_of_lt hv]; exact horient)]
    exact ⟨_, rfl, (State.get_set_self ..).trans (Nat.mod_eq_of_lt hv), (OnlySets.refl s _).set v (by simp)⟩
  case range => exact fun s q v hv => congrArg Host.Outcome.next (writeSpare_refused (.inl hv))
  case locked => exact fun s q v hlock => congrArg Host.Outcome.next (writeSpare_refused (.inr hlock))
  case spare =>
    intro s q v hv hlock hoff hen
    rw [exec_spareSelWrite, writeSpare_idle q.isLt hv hlock hoff hen]
    refine ⟨_, rfl, ?_, State.get_set_self _ (R.QUAD_CFG.SPARE_BUSY q) 1, ((OnlySets.refl s _).set v (by simp)).set 1 (by simp)⟩
    rw [State.get_set_apart _ _ rfl, State.get_set_self]
    exact Nat.mod_eq_of_lt (by show v < 8; omega)
  case calibrated =>
    intro s q hbusy hidle
    have hcleared : (s.set (R.QUAD_CFG.SPARE_BUSY q) 0).bit (R.QUAD_CFG.SPARE_BUSY q) = false := by rw [State.bit, State.get_set_self]; rfl
    have hkept : SpareKept q s (s.set (R.QUAD_CFG.SPARE_BUSY q) 0) := ⟨fun _ => State.get_set_apart s 0 rfl, State.get_set_apart s 0 rfl⟩
    rw [exec_spareCalibrated, spareDone_idle q.isLt hbusy hidle]
    refine ⟨_, rfl, ?_, fun k hk => ?_, ?_⟩
    · rw [showSpare_get_apart fun _ => rfl, State.get_set_self]; rfl
    · rw [showSpare_onSpare hcleared (by omega), hkept.padLanes]
    · exact State.regsFrame_trans (State.regsFrame_set rfl _ _) (showSpare_frame q _)
  case test =>
    intro s n v hstate hup hen hv
    rw [exec_laneTestStart, writeTest_enabled hstate (testFields_ne_zero hv v.isLt) hup hen]
    exact ⟨_, rfl, testEntered_holds n.isLt v.isLt s⟩
  case disabled =>
    intro s n v hstate hen hv
    rw [exec_laneTestStart, writeTest_disabled hstate (testFields_ne_zero hv v.isLt) hen]
    exact ⟨_, rfl, testWritten_onlySets n _ s⟩
  case stop =>
    intro s n htest hstate hen hlock
    rw [exec_laneTestStop, stopTest_enabled n.isLt htest hstate hen hlock]
    obtain ⟨hgen, hloop, hprbs⟩ := testEnded_holds n.isLt s
    have hstart := startAttempt_started (k := 1) (by decide) n (testEnded n s)
    have hget : ∀ f : Fld, f.lo < 32 → f.addr = 0x10114 + 0x40 * n.val → (startAttempt n 1 (testEnded n s)).get f = (testEnded n s).get f :=
      fun f hlo haddr => hstart.trains.get_of_addr hlo (by omega) (by rw [haddr, mirror]; omega)
    refine ⟨_, rfl, hstart.state, hstart.attempt, ?_, ?_, ?_⟩
    · rw [hget _ (by show 31 < 32; decide) rfl, hgen]
    · rw [hget _ (by show 26 < 32; decide) rfl, hloop]
    · rw [hget _ (by show 25 < 32; decide) rfl, hprbs]

end Sys2Proof.Machine
end

section
/-!
PROOFS. The frames of the Limisk link (07_limisk_link.md): what a downstream frame carries and how it is completed, what an upstream frame leaves, how D is
formed and applied, and how an urgent set goes out.
-/
namespace Sys2Proof.Machine

/-! ### Records behind the registers -/

@[simp] theorem State.link_modLink_self (s : State) (n : Nat) (f : LinkSt → LinkSt) : (s.modLink n f).link n = f (s.link n) := by
  simp [State.link_modLink]

theorem State.link_modLink_of_ne (s : State) {m n : Nat} (h : m ≠ n) (f : LinkSt → LinkSt) : (s.modLink m f).link n = s.link n := by
  simp [State.link_modLink, h]

theorem State.gate_modGate (s : State) (m n : Nat) (f : GateSt → GateSt) :
    (s.modGate m f).gate n = if m = n then f (s.gate m) else s.gate n := Tab.get_modify ..

@[simp] theorem State.gate_modGate_self (s : State) (n : Nat) (f : GateSt → GateSt) : (s.modGate n f).gate n = f (s.gate n) := by
  simp [State.gate_modGate]

/-- What the effect on `n` brings about while `P` holds, and the effects on others leave, holds after all. -/
theorem State.each_once {α : Type} {P Q : State → Prop} {s : State} {l : List α} {f : α → State → State} {n : α} (hn : n ∈ l) (hl : l.Nodup)
    (hs : P s) (hP : ∀ a x, a ≠ n → P x → P (f a x)) (hPQ : ∀ x, P x → Q (f n x)) (hQ : ∀ a x, a ≠ n → Q x → Q (f a x)) :
    Q (s.each l f) := by
  induction l generalizing s with
  | nil => cases hn
  | cons a l ih =>
    obtain ⟨ha, hl⟩ := List.nodup_cons.1 hl
    rcases List.mem_cons.1 hn with rfl | hn
    · exact State.each_keeps (s := f n s) (hPQ s hs) fun b hb x => hQ b x (ne_of_mem_of_not_mem hb ha)
    · exact ih hn hl (hP a s (ne_of_mem_of_not_mem hn ha).symm hs)

theorem State.link_of_links {s t : State} (h : t.links = s.links) (n : Nat) : t.link n = s.link n := by rw [State.link, State.link, h]
theorem State.gate_of_gates {s t : State} (h : t.gates = s.gates) (n : Nat) : t.gate n = s.gate n := by rw [State.gate, State.gate, h]
theorem State.frame_of_ts {s t : State} (h : t.ts = s.ts) : t.frame = s.frame := by
  rw [State.frame, State.frame, State.groupTime, State.groupTime, h]

/-! ### Downstream frames, R192 and R195 -/

theorem length_leBytes (k x : Nat) : (leBytes k x).length = k := by
  induction k generalizing x with
  | zero => rfl
  | succ k ih => simp [leBytes, ih]

theorem length_flatMap_leBytes (k : Nat) (l : List Nat) : (l.flatMap (leBytes k)).length = k * l.length := by
  induction l with
  | nil => rfl
  | cons x l ih => rw [List.flatMap_cons, List.length_append, ih, length_leBytes, List.length_cons]; ring

theorem downHead_length (s : State) (n : Nat) : (s.downHead n).length = 287 := by
  simp only [State.downHead, List.length_append, length_leBytes, List.length_replicate]

theorem downHead_control (s : State) (n : Nat) :
    (s.downHead n).take 5
      = leBytes 1 (s.ctrlField n) ++ leBytes 1 (s.frame % 256) ++ leBytes 1 n ++ leBytes 1 s.pos ++ leBytes 1 (s.bypassField n) := rfl

/-- Where no ownership, trip or clear is due, the frame that starts changes its own record alone. -/
theorem sendFrame_plain {s : State} {n : Nat} (hup : s.up n = true) (hown : (s.cell n).ownNext = none) (htrip : (s.gate n).tripClear = none)
    (hphase : (s.gate n).clearPhase ≠ 1) :
    sendFrame n s = s.modLink n (fun l => { l with down := s.downHead n, driven := s.driven n }) := by
  have happly : applyOwner n s = s := by simp [applyOwner, hown]
  unfold sendFrame
  rw [if_pos hup, happly]
  extract_lets x h a b
  have hgate : a.gate n = s.gate n := rfl
  have hb : b = a := by simp only [b, hgate, htrip]
  exact (if_neg (by rw [hb]; exact hphase)).trans hb

/-- The edges that the cut-off of a lane takes for its frame (R195). -/
def cutoffEdges (l : LinkSt) : List Edge := if l.driven then (sortEdges l.edges).take 12 else []

/-- The edges that go out: none in a frame with ENABLE = 0 (R210). -/
def edgesSent (l : LinkSt) : List Edge := if bitAt (leAt l.down 0 1) 6 then cutoffEdges l else []

/-- The twelve edge words of a frame, at lane delay `d` (R193, R195). -/
def cutoffWords (d : Nat) (l : LinkSt) : List Nat := (edgesSent l).map (edgeWord d) ++ List.replicate (12 - (edgesSent l).length) 0xF000

/-- Characters 1 to 311 of the frame: what it began with and its edge words. -/
def cutoffBody (d : Nat) (l : LinkSt) : List Byte := l.down.take 287 ++ (cutoffWords d l).flatMap (leBytes 2)

/-- The record of a lane in UP after the cut-off, at lane delay `d` in frame `f`. -/
def cutoffLink (d f : Nat) (l : LinkSt) : LinkSt :=
  { l with
    down := if l.cut ∧ l.urgSlot = f then l.down else cutoffBody d l ++ leBytes 4 (crc32 (cutoffBody d l))
    levels := if l.driven then levelsAfter l.levels l.muted (cutoffEdges l) else 0
    edges := []
    muted := 0 }

theorem edgesSent_length (l : LinkSt) : (edgesSent l).length ≤ 12 := by
  have htake : (cutoffEdges l).length ≤ 12 := by
    unfold cutoffEdges
    split
    · exact List.length_take_le ..
    · exact Nat.zero_le _
  unfold edgesSent
  split
  · exact htake
  · exact Nat.zero_le _

theorem cutoffWords_length (d : Nat) (l : LinkSt) : (cutoffWords d l).length = 12 := by
  have h := edgesSent_length l
  simp only [cutoffWords, List.length_append, List.length_map, List.length_replicate]
  omega

/-- A frame that is not cut is completed to its 315 characters (R192, R195). -/
theorem cutoffLink_down {d f : Nat} {l : LinkSt} (hcut : l.cut = false ∨ l.urgSlot ≠ f) (hlen : l.down.length = 287) :
    (cutoffLink d f l).down.length = 315 ∧ (cutoffLink d f l).down.take 287 = l.down := by
  have hnot : ¬ (l.cut = true ∧ l.urgSlot = f) := by
    rcases hcut with h | h
    · simp [h]
    · exact fun h' => h h'.2
  have hbody : cutoffBody d l = l.down ++ (cutoffWords d l).flatMap (leBytes 2) := by
    rw [cutoffBody, List.take_of_length_le hlen.le]
  have hdown : (cutoffLink d f l).down = l.down ++ ((cutoffWords d l).flatMap (leBytes 2) ++ leBytes 4 (crc32 (cutoffBody d l))) := by
    rw [← List.append_assoc, ← hbody]
    exact if_neg hnot
  rw [hdown]
  constructor
  · rw [List.length_append, List.length_append, length_flatMap_leBytes, length_leBytes, cutoffWords_length, hlen]
  · exact List.take_left' hlen

theorem cutoffLane_of_up {s : State} {n : Nat} (h : s.up n = true) :
    cutoffLane n s = s.modLink n (cutoffLink (s.get (R.LKN_DELAY.D n)) s.frame) := if_pos h

theorem cutoffLane_of_not_up {s : State} {n : Nat} (h : s.up n = false) : cutoffLane n s = s := if_neg (by simp [h])

theorem cutoffLane_frame (n : Nat) (s : State) : cutoffLane n s = { s with links := (cutoffLane n s).links } := by
  cases h : s.up n with
  | true => rw [cutoffLane_of_up h]; rfl
  | false => rw [cutoffLane_of_not_up h]

theorem cutoffLane_link_of_ne {m n : Nat} (h : m ≠ n) (s : State) : (cutoffLane m s).link n = s.link n := by
  cases hup : s.up m with
  | true => rw [cutoffLane_of_up hup, State.link_modLink_of_ne _ h]
  | false => rw [cutoffLane_of_not_up hup]

theorem cutoffLane_link_self (n : Nat) (s : State) :
    (cutoffLane n s).link n = if s.up n then cutoffLink (s.get (R.LKN_DELAY.D n)) s.frame (s.link n) else s.link n := by
  cases hup : s.up n with
  | true => rw [cutoffLane_of_up hup, State.link_modLink_self]; rfl
  | false => rw [cutoffLane_of_not_up hup]; rfl

theorem State.linksFrame_trans {s x t : State} (hx : x = { s with links := x.links }) (ht : t = { x with links := t.links }) :
    t = { s with links := t.links } := ht.trans (congrArg (fun y : State => { y with links := t.links }) hx)

/-- The cut-off treats each lane by what that lane held (R29). -/
theorem cutoff_frame (s : State) : s.each lanes64 cutoffLane = { s with links := (s.each lanes64 cutoffLane).links } :=
  State.each_keeps (P := fun x => x = { s with links := x.links }) rfl fun n _ x hx => State.linksFrame_trans hx (cutoffLane_frame n x)

theorem cutoff_link {n : Nat} (hn : n < 64) (s : State) : (s.each lanes64 cutoffLane).link n = (cutoffLane n s).link n := by
  refine State.each_once (P := fun x => x = { s with links := x.links } ∧ x.link n = s.link n) (Q := fun x => x.link n = (cutoffLane n s).link n)
    (List.mem_range.2 hn) List.nodup_range ⟨rfl, rfl⟩ ?others ?own ?rest
  case others =>
    rintro m x hm ⟨hframe, hlink⟩
    exact ⟨State.linksFrame_trans hframe (cutoffLane_frame m x), (cutoffLane_link_of_ne hm x).trans hlink⟩
  case own =>
    rintro x ⟨hframe, hlink⟩
    rw [cutoffLane_link_self, cutoffLane_link_self, hlink, hframe]
    rfl
  case rest => exact fun m x hm hx => (cutoffLane_link_of_ne hm x).trans hx

/-! ### Upstream frames, R198 to R202 -/

/-- An invalid or missing frame has been counted (R202). -/
def badCounted (n : Nat) (s : State) : State := (s.inc (R.LKN_COUNTS.BAD_UP n)).modLink n (fun l => { l with invalidRun := l.invalidRun + 1 })

/-- The first invalid frames in a row are counted and do no more. -/
theorem badFrame_early {s : State} {n : Nat} (hup : s.up n = true) (h : (s.link n).invalidRun < 3) : badFrame n s = badCounted n s := by
  have hlink : (s.inc (R.LKN_COUNTS.BAD_UP n)).link n = s.link n := rfl
  have hmin : min ((s.link n).invalidRun + 1) 5 = (s.link n).invalidRun + 1 := by omega
  have hbad : badFrame n s
      = (s.inc (R.LKN_COUNTS.BAD_UP n)).modLink n (fun l => { l with invalidRun := min ((s.link n).invalidRun + 1) 5 }) := by
    unfold badFrame
    rw [if_pos hup]
    exact if_neg (by rw [hlink]; omega)
  rw [hbad, hmin]
  rfl

theorem badCounted_link (n : Nat) (s : State) : (badCounted n s).link n = { s.link n with invalidRun := (s.link n).invalidRun + 1 } := by
  rw [badCounted, State.link_modLink_self, State.link_of_links (State.inc_links ..)]

theorem badCounted_count (n : Nat) (s : State) :
    (badCounted n s).get (R.LKN_COUNTS.BAD_UP n) = min (2 ^ (R.LKN_COUNTS.BAD_UP n).width - 1) (s.get (R.LKN_COUNTS.BAD_UP n) + 1) := by
  rw [badCounted, State.modLink_get, State.get_inc_self]

theorem badCounted_onlyRegs (n : Nat) (s : State) : OnlyRegs s (badCounted n s) [R.LKN_COUNTS.BAD_UP n] :=
  ((OnlyRegs.of_regs rfl _).inc (by simp)).modLink n _

theorem badCounted_frame (n : Nat) (s : State) :
    badCounted n s = { s with regs := (badCounted n s).regs, cyc := (badCounted n s).cyc, links := (badCounted n s).links } := rfl

/-- A K28.5 on the slot boundary adds a round trip to the mean in the making (R201). -/
def tripMeasured (n rt : Nat) (s : State) : State := s.modLink n (fun l => { l with rtSum := l.rtSum + rt, rtCount := l.rtCount + 1 })

theorem tripMeasured_frame (n rt : Nat) (s : State) : tripMeasured n rt s = { s with links := (tripMeasured n rt s).links } := rfl

theorem tripMeasured_link (n rt : Nat) (s : State) :
    (tripMeasured n rt s).link n = { s.link n with rtSum := (s.link n).rtSum + rt, rtCount := (s.link n).rtCount + 1 } :=
  State.link_modLink_self ..

theorem tripMeasured_get (n rt : Nat) (s : State) (f : Fld) : (tripMeasured n rt s).get f = s.get f := State.modLink_get ..

theorem badCounted_tripMeasured_frame (n rt : Nat) (s : State) :
    badCounted n (tripMeasured n rt s)
      = { s with
          regs := (badCounted n (tripMeasured n rt s)).regs
          cyc := (badCounted n (tripMeasured n rt s)).cyc
          links := (badCounted n (tripMeasured n rt s)).links } :=
  (badCounted_frame n _).trans (congrArg (fun x : State => { x with
    regs := (badCounted n (tripMeasured n rt s)).regs
    cyc := (badCounted n (tripMeasured n rt s)).cyc
    links := (badCounted n (tripMeasured n rt s)).links }) (tripMeasured_frame n rt s))

theorem upstreamFrame_bad {s : State} {n : Nat} {rd : Bool} {gs : List Nat} (hup : s.up n = true)
    (herr : codeErrorsIn (s.readLane n rd gs) = 0) (hbad : (dataAfter .k28_5 (s.readLane n rd gs)).all (fun bs => !upGood bs) = true) :
    upstreamFrame n rd gs s = badFrame n s := by
  unfold upstreamFrame
  rw [if_pos (by simp [hup])]
  simp only [herr, List.range_zero, State.each_nil]
  cases hdata : dataAfter .k28_5 (s.readLane n rd gs) with
  | none => rfl
  | some bs =>
    have hgood : upGood bs = false := by simpa [hdata] using hbad
    simp [hgood]

/-- Without code errors and with a good check, the characters are taken as a frame (R201). -/
theorem upstreamFrame_good {s : State} {n : Nat} {rd : Bool} {gs : List Nat} {bs : List Byte} (hrx : s.rxOnly n = true)
    (hread : s.readLane n rd gs = (Sym.k28_5 :: bs.map Sym.data).map some) (hgood : upGood bs = true) :
    upstreamFrame n rd gs s = goodFrame n bs s := by
  have herr : codeErrorsIn (s.readLane n rd gs) = 0 := by simp [hread, codeErrorsIn]
  have hdata : dataAfter .k28_5 (s.readLane n rd gs) = some bs := by
    simp only [hread, List.map_cons, dataAfter, if_true, allData_data]
  unfold upstreamFrame
  rw [if_pos (by simp [hrx])]
  simp only [herr, hdata, hgood, List.range_zero, State.each_nil, if_true]

/-- The record of a valid frame: its characters, and the stamps of its arrival and of its samples (R191, R198). -/
def frameHeld (n : Nat) (bs : List Byte) (s : State) : State :=
  (s.modLink n (fun l => { l with up := bs, upAt := s.ts.tsc, invalidRun := 0 })).modLink n (fun l =>
    { l with
      upStamp := 1024 * (s.modLink n (fun l => { l with up := bs, upAt := s.ts.tsc, invalidRun := 0 })).upSlot n
        + s.get (R.LKN_DELAY.D n) + descSampleOfs l.desc })

/-- LKN_STAT as the frame held shows it (R223). -/
def statusShown (n : Nat) (s : State) : State :=
  let a := upStatA (s.link n).up
  ((((((s.setBit (R.LKN_STAT.OWNER_ACK n) (bitAt a 7)).setBit (R.LKN_STAT.OTHER_OWNER n) (bitAt a 6)).setBit (R.LKN_STAT.FAULT n)
    (bitAt a 5)).setBit (R.LKN_STAT.HOLD n) (bitAt a 4)).setBit (R.LKN_STAT.BYPASS_CLOSED n) (bitAt a 3)).setBit (R.LKN_STAT.ENABLED n)
    (bitAt a 2)).set (R.LKN_STAT.NO_OWNER n) (upStatB (s.link n).up % 16)

/-- A frame that shows no fault, no closed bypass and no level mismatch raises nothing. -/
theorem copyStatus_quiet {s : State} {n : Nat} (hlvl : bitAt (upStatA (s.link n).up) 1 = false) (hclosed : bitAt (upStatA (s.link n).up) 3 = false)
    (hfault : bitAt (upStatA (s.link n).up) 5 = false) : copyStatus n s = statusShown n s := by
  unfold copyStatus statusShown
  simp only [hlvl, hclosed, hfault, Bool.false_and, Bool.false_eq_true, if_false, List.append_nil]
  rfl

/-! ### Supervision of a frame without evidence, R258 to R277 -/

/-- No over-current, no over-voltage, and no thresholds known: the frame is no evidence (R266). -/
theorem evidence_none {s : State} {n : Nat} (hfault : upFault (s.link n).up = 0) (hoc : (s.gate n).oc = none) (hcap : (s.gate n).capOv = none) :
    evidence n s = s := by
  have hbit : ∀ i, bitAt 0 i = false := fun i => by simp [bitAt]
  unfold evidence
  split
  · rfl
  · simp [hfault, hoc, hcap, hbit]

/-- The debounce counts of a frame without TEMP0 start again (R272). -/
def tempUnread (n : Nat) (s : State) : State := s.modGate n (fun g => { g with warnOn := 0, warnOff := 0, tripOn := 0, tripOff := 0 })

theorem superviseTemp_unread {s : State} {n : Nat} (htemp : upTemp0 (s.link n).up = none) (hdeb : 0 < s.get (R.GSC_CFG.DEB n)) :
    superviseTemp n s = tempUnread n s := by
  unfold superviseTemp
  extract_lets t w p deb above under count x g y z
  have habove : ∀ l, above l = false := fun l => by simp only [above, t, htemp]
  have hunder : ∀ l, under l = false := fun l => by simp only [under, t, htemp]
  have hx : x = tempUnread n s := by simp only [x, habove, hunder, count, Bool.false_eq_true, if_false]; rfl
  have hg : g = { s.gate n with warnOn := 0, warnOff := 0, tripOn := 0, tripOff := 0 } := by
    simp only [g, hx]
    exact State.gate_modGate_self ..
  have hnever : ∀ (b : Bool) (k : Nat), k = 0 → ¬ (b && decide (k ≥ deb)) = true := by
    rintro b k rfl
    simpa [deb] using fun _ => Nat.ne_of_gt hdeb
  have hy : y = x := (if_neg (hnever _ _ (by rw [hg]))).trans (if_neg (hnever _ _ (by rw [hg])))
  exact (if_neg (hnever _ _ (by rw [hg]))).trans ((if_neg (hnever _ _ (by rw [hg]))).trans (hy.trans hx))

/-- In MONITOR, with no hold that waits for its end, no clear goes on (R277). -/
theorem clearProgress_monitor {s : State} {n : Nat} (hmonitor : s.monitor n = true) (hhold : (s.gate n).clearHold = false) :
    clearProgress n s = s := by
  have hstate : s.get (R.GSC_STAT.STATE n) = 0 := by simpa [State.monitor] using hmonitor
  unfold clearProgress
  simp [hhold, hstate]

/-- The supervisor has nothing to do in a frame of a cell that is not admitted but to start its debounce counts again. -/
theorem superviseFrame_quiet {s : State} {n : Nat} (hfault : upFault (s.link n).up = 0) (hoc : (s.gate n).oc = none)
    (hcap : (s.gate n).capOv = none) (htemp : upTemp0 (s.link n).up = none) (hadmit : s.admitted n = false)
    (hdeb : 0 < s.get (R.GSC_CFG.DEB n)) (hmonitor : s.monitor n = true) (hhold : (s.gate n).clearHold = false) :
    superviseFrame n s = tempUnread n s := by
  have hhold' : ((tempUnread n s).gate n).clearHold = false := by
    rw [tempUnread, State.gate_modGate_self]
    exact hhold
  unfold superviseFrame
  simp only [evidence_none hfault hoc hcap, hadmit, Bool.false_eq_true, if_false]
  rw [superviseTemp_unread htemp hdeb, clearProgress_monitor (s := tempUnread n s) hmonitor hhold']

theorem tempUnread_gate {s : State} {n : Nat} (hwon : (s.gate n).warnOn = 0) (hwoff : (s.gate n).warnOff = 0) (hton : (s.gate n).tripOn = 0)
    (htoff : (s.gate n).tripOff = 0) (m : Nat) : (tempUnread n s).gate m = s.gate m := by
  rw [tempUnread, State.gate_modGate]
  split
  · subst m
    generalize s.gate n = g at hwon hwoff hton htoff ⊢
    cases g
    simp_all
  · rfl

/-! ### A valid frame on a lane in RX_ONLY, R169 and R258 -/

theorem frameHeld_link (n : Nat) (bs : List Byte) (s : State) :
    (frameHeld n bs s).link n
      = { s.link n with
          up := bs, upAt := s.ts.tsc, invalidRun := 0
          upStamp := 1024 * (frameHeld n bs s).upSlot n + s.get (R.LKN_DELAY.D n) + descSampleOfs (s.link n).desc } := by
  simp [frameHeld, State.upSlot, State.frame, State.groupTime]

/-- The fields of LKN_STAT that a frame shows (R223). -/
def statusFields (n : Nat) : List Fld :=
  [R.LKN_STAT.OWNER_ACK n, R.LKN_STAT.OTHER_OWNER n, R.LKN_STAT.FAULT n, R.LKN_STAT.HOLD n, R.LKN_STAT.BYPASS_CLOSED n, R.LKN_STAT.ENABLED n,
    R.LKN_STAT.NO_OWNER n]

theorem statusShown_onlySets (n : Nat) (s : State) : OnlySets s (statusShown n s) (statusFields n) :=
  (((((((OnlySets.refl s _).set _ (by simp [statusFields])).set _ (by simp [statusFields])).set _ (by simp [statusFields])).set _
    (by simp [statusFields])).set _ (by simp [statusFields])).set _ (by simp [statusFields])).set _ (by simp [statusFields])

theorem statusShown_holds (n : Nat) (s : State) :
    (statusShown n s).bit (R.LKN_STAT.OWNER_ACK n) = bitAt (upStatA (s.link n).up) 7
      ∧ (statusShown n s).bit (R.LKN_STAT.OTHER_OWNER n) = bitAt (upStatA (s.link n).up) 6
      ∧ (statusShown n s).bit (R.LKN_STAT.HOLD n) = bitAt (upStatA (s.link n).up) 4
      ∧ (statusShown n s).bit (R.LKN_STAT.ENABLED n) = bitAt (upStatA (s.link n).up) 2
      ∧ (statusShown n s).get (R.LKN_STAT.NO_OWNER n) = upStatB (s.link n).up % 16 := by
  have hapart : ∀ {f g : Fld} (x : State) (v : Nat), f.apart g = true → (x.set f v).bit g = x.bit g :=
    fun x v h => x.bit_set_of_ne v (Fld.key_ne_of_apart h)
  unfold statusShown
  refine ⟨?_, ?_, ?_, ?_, ?_⟩
  · rw [hapart _ _ rfl, State.setBit, hapart _ _ rfl, State.setBit, hapart _ _ rfl, State.setBit, hapart _ _ rfl, State.setBit, hapart _ _ rfl,
      State.setBit, hapart _ _ rfl, State.bit_setBit_self rfl]
  · rw [hapart _ _ rfl, State.setBit, hapart _ _ rfl, State.setBit, hapart _ _ rfl, State.setBit, hapart _ _ rfl, State.setBit, hapart _ _ rfl,
      State.bit_setBit_self rfl]
  · rw [hapart _ _ rfl, State.setBit, hapart _ _ rfl, State.setBit, hapart _ _ rfl, State.bit_setBit_self rfl]
  · rw [hapart _ _ rfl, State.bit_setBit_self rfl]
  · rw [State.get_set_self]
    exact Nat.mod_mod _ 16

/-- LKN_STAT with a frame's fields stays apart from the supervisor's configuration of the cell. -/
theorem statusShown_deb {n : Nat} (hn : n < 64) (s : State) : (statusShown n s).get (R.GSC_CFG.DEB n) = s.get (R.GSC_CFG.DEB n) := by
  refine (statusShown_onlySets n s).2 _ ?_
  simp only [statusFields, List.map_cons, List.map_nil, List.mem_cons, List.not_mem_nil, or_false, Fld.key, R.GSC_CFG.DEB, R.LKN_STAT.OWNER_ACK,
    R.LKN_STAT.OTHER_OWNER, R.LKN_STAT.FAULT, R.LKN_STAT.HOLD, R.LKN_STAT.BYPASS_CLOSED, R.LKN_STAT.ENABLED, R.LKN_STAT.NO_OWNER]
  omega

theorem statusShown_links (n : Nat) (s : State) : (statusShown n s).links = s.links := by
  simp only [statusShown, State.set_links, State.setBit_links]
theorem statusShown_link (n m : Nat) (s : State) : (statusShown n s).link m = s.link m := State.link_of_links (statusShown_links n s) m
theorem statusShown_gate (n m : Nat) (s : State) : (statusShown n s).gate m = s.gate m :=
  State.gate_of_gates (by simp only [statusShown, State.set_gates, State.setBit_gates]) m
theorem statusShown_ts (n : Nat) (s : State) : (statusShown n s).ts = s.ts := by simp only [statusShown, State.set_ts, State.setBit_ts]
theorem tempUnread_link (n m : Nat) (s : State) : (tempUnread n s).link m = s.link m :=
  State.link_of_links (State.modGate_links ..) m
theorem tempUnread_get (n : Nat) (s : State) (f : Fld) : (tempUnread n s).get f = s.get f := rfl
theorem tempUnread_bit (n : Nat) (s : State) (f : Fld) : (tempUnread n s).bit f = s.bit f := rfl
theorem frameHeld_gate (n m : Nat) (bs : List Byte) (s : State) : (frameHeld n bs s).gate m = s.gate m :=
  State.gate_of_gates (by simp only [frameHeld, State.modLink_gates]) m

/-- A frame that is quiet has been held and shown. -/
def frameShown (n : Nat) (bs : List Byte) (s : State) : State := tempUnread n (statusShown n (frameHeld n bs s))

theorem frameShown_upSlot (n : Nat) (bs : List Byte) (s : State) : (frameShown n bs s).upSlot n = (frameHeld n bs s).upSlot n := by
  have hframe : (frameShown n bs s).frame = (frameHeld n bs s).frame :=
    State.frame_of_ts (by rw [frameShown, tempUnread, State.modGate_ts, statusShown_ts])
  rw [State.upSlot, State.upSlot, hframe, frameShown, tempUnread_link, statusShown_link]

theorem frameShown_link (n : Nat) (bs : List Byte) (s : State) :
    (frameShown n bs s).link n
      = { s.link n with
          up := bs, upAt := s.ts.tsc, invalidRun := 0
          upStamp := 1024 * (frameShown n bs s).upSlot n + s.get (R.LKN_DELAY.D n) + descSampleOfs (s.link n).desc } := by
  rw [frameShown_upSlot, frameShown, tempUnread_link, statusShown_link, frameHeld_link]

theorem OnlySets.tempUnread_frame {s t : State} {l : List Fld} (h : OnlySets s t l) (n : Nat) :
    tempUnread n t = { s with regs := t.regs, gates := (tempUnread n t).gates } :=
  congrArg (fun x : State => { x with gates := (tempUnread n t).gates }) h.1

theorem frameHeld_frame (n : Nat) (bs : List Byte) (s : State) : frameHeld n bs s = { s with links := (frameHeld n bs s).links } := rfl

theorem frameShown_frame (n : Nat) (bs : List Byte) (s : State) :
    frameShown n bs s = { s with regs := (frameShown n bs s).regs, links := (frameShown n bs s).links, gates := (frameShown n bs s).gates } := by
  have hregs : (frameShown n bs s).regs = (statusShown n (frameHeld n bs s)).regs := by rw [frameShown, tempUnread, State.modGate_regs]
  have hlinks : (frameShown n bs s).links = (frameHeld n bs s).links := by rw [frameShown, tempUnread, State.modGate_links, statusShown_links]
  rw [hregs, hlinks]
  exact ((statusShown_onlySets n (frameHeld n bs s)).tempUnread_frame n).trans (congrArg (fun x : State =>
    { x with regs := (statusShown n (frameHeld n bs s)).regs, gates := (frameShown n bs s).gates }) (frameHeld_frame n bs s))

theorem frameShown_upStamp (n : Nat) (bs : List Byte) (s : State) :
    ((frameShown n bs s).link n).upStamp
      = 1024 * (frameShown n bs s).upSlot n + s.get (R.LKN_DELAY.D n) + descSampleOfs (s.link n).desc := by rw [frameShown_link]

theorem State.rxOnly_state {s : State} {n : Nat} (h : s.rxOnly n = true) : s.get (R.LN_STAT.STATE n) = 8 := by
  simp only [State.rxOnly, Bool.and_eq_true, beq_iff_eq] at h
  obtain ⟨⟨⟨hstate, -⟩, -⟩, -⟩ := h
  exact hstate

theorem goodFrame_rxOnly {s : State} {n : Nat} {bs : List Byte} (hrx : s.rxOnly n = true) (hlvl : bitAt (upStatA bs) 1 = false)
    (hclosed : bitAt (upStatA bs) 3 = false) (hfault : bitAt (upStatA bs) 5 = false) :
    goodFrame n bs s = superviseFrame n (statusShown n (frameHeld n bs s)) := by
  have hheld : ((frameHeld n bs s).link n).up = bs := by rw [frameHeld_link]
  have hcopy : copyStatus n (frameHeld n bs s) = statusShown n (frameHeld n bs s) :=
    copyStatus_quiet (by rw [hheld, hlvl]) (by rw [hheld, hclosed]) (by rw [hheld, hfault])
  have hstate : (statusShown n (frameHeld n bs s)).get (R.LN_STAT.STATE n) = 8 :=
    ((statusShown_onlySets n _).2.get_apart rfl).trans (State.rxOnly_state hrx)
  have hup : ¬ (statusShown n (frameHeld n bs s)).up n = true := by simp [State.up, hstate]
  have hgood : goodFrame n bs s = (if (copyStatus n (frameHeld n bs s)).up n then _ else
      if (copyStatus n (frameHeld n bs s)).get (R.LN_STAT.STATE n) = 8 then superviseFrame n (copyStatus n (frameHeld n bs s))
      else copyStatus n (frameHeld n bs s)) := rfl
  rw [hgood, hcopy, if_neg hup, if_pos hstate]

/-! ### Lane delay, R190 -/

/-- The mean round trip is shown, and a new mean begins. -/
def tripShown (n : Nat) (s : State) : State :=
  (s.set (R.LKN_DELAY.RTT n) (min 65535 ((s.link n).rtSum / (s.link n).rtCount))).modLink n (fun l => { l with rtSum := 0, rtCount := 0 })

/-- Half of the mean round trip beyond the head's turnaround, rounded, is the D to come where it lies in range (R190). -/
theorem delayUpdate_in_range {s : State} {n c : Nat} (hc : (s.link n).rtCount = c) (hpos : 0 < c) (hdesc : (s.link n).desc ≠ [])
    (hreq : (s.link n).descReq = false) (hlow : c * descTTurn (s.link n).desc ≤ (s.link n).rtSum + c)
    (hhigh : (s.link n).rtSum + c < c * descTTurn (s.link n).desc + 2 * c * 513) :
    delayUpdate n s = (tripShown n s).modLink n (fun l =>
      { l with dPending := some (((s.link n).rtSum + c - c * descTTurn (s.link n).desc) / (2 * c)), dBad := false }) := by
  obtain ⟨d, hd⟩ : ∃ d, d = ((s.link n).rtSum + c - c * descTTurn (s.link n).desc) / (2 * c) := ⟨_, rfl⟩
  have hle : d < 513 := by
    rw [hd]
    exact Nat.div_lt_of_lt_mul (by omega)
  have hx : ((s.link n).rtSum - (s.link n).rtCount * descTTurn (s.link n).desc + (s.link n).rtCount : Int) / (2 * (s.link n).rtCount) = d := by
    rw [hc, hd]
    push_cast [Nat.cast_sub hlow]
    congr 1
    ring
  have hmin : min 1023 ((d : Int).toNat) = d := by omega
  unfold delayUpdate
  rw [if_pos (by omega)]
  simp only [hdesc, hreq, hx, hmin, Bool.false_eq_true, or_self, if_false]
  rw [if_neg (by omega), ← hd]
  rfl

/-- Only a cell in IDENTIFY is admitted (R219). -/
theorem tryAdmit_of_not_identify {s : State} {n : Nat} (h : s.get (R.LKN_STAT.ADMIT n) ≠ 1) : tryAdmit n s = s := if_neg fun h' => h h'.1

/-- The new D of a lane has been taken. -/
def delayApplied (n d : Nat) (s : State) : State :=
  (s.set (R.LKN_DELAY.D n) d).modLink n (fun l => { l with dPending := none, dFormed := true })

/-- A new D applies; it does not admit a refused cell. -/
theorem delayApply_refused {s : State} {n d : Nat} (hd : (s.link n).dPending = some d) (hadmit : s.get (R.LKN_STAT.ADMIT n) = 3) :
    delayApply n s = delayApplied n d s := by
  have hadmit' : (delayApplied n d s).get (R.LKN_STAT.ADMIT n) = 3 := by
    rw [delayApplied, State.modLink_get, State.get_set_apart _ _ rfl, hadmit]
  have hnot : (delayApplied n d s).admitted n = false := by simp [State.admitted, hadmit']
  have happly : delayApply n s = tryAdmit n (if (delayApplied n d s).admitted n ∧ (d > ((delayApplied n d s).link n).dAdmit + 2
      ∨ ((delayApplied n d s).link n).dAdmit > d + 2) then raise (Src.LKN_DELAY_SHIFT n) (delayApplied n d s) else delayApplied n d s) := by
    unfold delayApply
    rw [hd]
    rfl
  rw [happly, if_neg (by simp [hnot]), tryAdmit_of_not_identify (by omega)]

/-! ### Urgent sets, R204 -/

/-- The record of a lane whose set `u` goes out; `cut` says whether its frame is cut by it. -/
def urgentSent (n : Nat) (u : Urgent) (rest : List Urgent) (cut : Bool) (s x : State) : State :=
  (x.modLink n (fun l =>
    { l with
      urgQ := rest
      lastUrgent := urgentChars u
      urgEnd := s.urgAt n + 4
      urgSlot := s.urgAt n / 320
      urgChars := s.urgBefore n + min 4 (320 - s.urgAt n % 320)
      cut := s.urgCut n || cut
      cutAt := if cut then s.urgAt n % 320 - s.urgBefore n else l.cutAt })).modGate n (fun g => { g with lvlQuiet := (s.urgAt n + 3) / 320 + 4 })

section
variable {s : State} {n : Nat} {u : Urgent} {rest : List Urgent} (hq : (s.link n).urgQ = u :: rest) (hup : s.up n = true)
include hq hup

/-- A set that finds no other in its slot cuts nothing. -/
theorem sendUrgent_alone (h : s.urgBefore n = 0) : sendUrgent n s = urgentSent n u rest false s s := by
  unfold sendUrgent
  simp [hq, hup, h, urgentSent]

/-- A set after others in its slot, with content still to send, cuts the frame. -/
theorem sendUrgent_cuts (hbefore : 0 < s.urgBefore n) (hcut : s.urgCut n = false) (hroom : s.urgAt n % 320 < 316 + s.urgBefore n) :
    sendUrgent n s = urgentSent n u rest true s (s.inc (R.LKN_COUNTS.CUT n)) := by
  have hne : s.urgBefore n ≠ 0 := by omega
  unfold sendUrgent
  simp [hq, hup, hne, hcut, hroom, urgentSent]

end

theorem urgentSent_link (n : Nat) (u : Urgent) (rest : List Urgent) (cut : Bool) (s x : State) :
    ((urgentSent n u rest cut s x).link n).urgQ = rest ∧ ((urgentSent n u rest cut s x).link n).lastUrgent = urgentChars u
      ∧ ((urgentSent n u rest cut s x).link n).urgEnd = s.urgAt n + 4 ∧ ((urgentSent n u rest cut s x).link n).cut = (s.urgCut n || cut) := by
  have hlink : ∀ y : State, ∀ f, (y.modGate n f).link n = y.link n := fun _ _ => rfl
  simp [urgentSent, hlink]

theorem urgentSent_lvlQuiet (n : Nat) (u : Urgent) (rest : List Urgent) (cut : Bool) (s x : State) :
    ((urgentSent n u rest cut s x).gate n).lvlQuiet = (s.urgAt n + 3) / 320 + 4 := by
  rw [urgentSent, State.gate_modGate_self]

theorem urgentSent_get (n : Nat) (u : Urgent) (rest : List Urgent) (cut : Bool) (s x : State) (f : Fld) :
    (urgentSent n u rest cut s x).get f = x.get f := rfl

/-! ### Commands -/

theorem exec_downstreamFrameSend (n : Fin 64) (s : State) : exec (.downstreamFrameSend n) s = .next (sendFrame n s) := rfl
theorem exec_edgeCutoff (s : State) : exec .edgeCutoff s = .next (s.each lanes64 cutoffLane) := rfl
theorem exec_upstreamFrameMissing (n : Fin 64) (s : State) : exec (.upstreamFrameMissing n) s = .next (badFrame n s) := rfl
theorem exec_laneDelayUpdate (n : Fin 64) (s : State) : exec (.laneDelayUpdate n) s = .next (delayUpdate n s) := rfl
theorem exec_laneDelayApply (n : Fin 64) (s : State) : exec (.laneDelayApply n) s = .next (delayApply n s) := rfl
theorem exec_urgentSetSend (n : Fin 64) (s : State) : exec (.urgentSetSend n) s = .next (sendUrgent n s) := rfl

theorem exec_upstreamFrameRx_off_slot (n : Fin 64) (rt : Nat) (rd : Bool) (gs : List Nat) (s : State) :
    exec (.upstreamFrameRx n false rt rd gs) s = .next (upstreamFrame n rd gs s) := rfl

theorem exec_upstreamFrameRx_on_slot {n : Fin 64} {s : State} (hup : s.up n = true) (hcount : (s.link n).rtCount < 64) (rt : Nat) (rd : Bool)
    (gs : List Nat) : exec (.upstreamFrameRx n true rt rd gs) s = .next (upstreamFrame n rd gs (tripMeasured n rt s)) := by
  have hmod : s.modLink n (fun l => if l.rtCount < 64 then { l with rtSum := l.rtSum + rt, rtCount := l.rtCount + 1 } else l) = tripMeasured n rt s := by
    show { s with links := Tab.set {} s.links n (if (s.link n).rtCount < 64 then _ else _) } = _
    rw [if_pos hcount]
    rfl
  show Host.Outcome.next (upstreamFrame n rd gs (if true && s.up n then _ else s)) = _
  rw [if_pos (by simp [hup]), hmod]

/-- Settles O12: a frame carries `downHead` and is completed by the cut-off (`cutoffLink_down`), a valid frame on a lane in RX_ONLY is held and shown
(`goodFrame_rxOnly`), an invalid or missing one is counted (`badFrame_early`), D is formed and applied (`delayUpdate_in_range`, `delayApply_refused`), and an
urgent set goes out alone or cuts the frame (`sendUrgent_alone`, `sendUrgent_cuts`). -/
theorem linkFramesBothWays : Obligations.LinkFramesBothWays := by
  unfold Obligations.LinkFramesBothWays
  refine ⟨?send, ?cutoff, ?valid, ?invalid, ?missing, ?update, ?apply, ?urgent, ?cut⟩
  case send =>
    intro s n hup hown htrip hphase
    rw [exec_downstreamFrameSend, sendFrame_plain hup hown htrip hphase]
    refine ⟨_, rfl, ?_, ?_, ?_, ?_, rfl⟩
    · rw [State.link_modLink_self]; exact downHead_length s n
    · rw [State.link_modLink_self]
    · rw [State.link_modLink_self]; exact downHead_control s n
    · rw [State.link_modLink_self]
  case cutoff =>
    intro s
    refine ⟨_, exec_edgeCutoff s, cutoff_frame s, fun n hn => ⟨fun hup => ?_, fun hup => ?_⟩⟩
    · rw [cutoff_link hn, cutoffLane_of_not_up hup]
    · rw [cutoff_link hn, cutoffLane_of_up hup, State.link_modLink_self]
      exact ⟨rfl, rfl, fun hdriven => if_neg (by simp [hdriven]), cutoffLink_down⟩
  case valid =>
    intro s n rt rd gs bs hrx hread hgood hlvl hclosed hrose hfault hoc hcap htemp hadmit hmonitor hdeb hwoff hwon hton htoff hhold
    obtain ⟨hack, hother, hshold, hena, hno⟩ := statusShown_holds n (frameHeld n bs s)
    have hstatus := statusShown_onlySets n (frameHeld n bs s)
    have hup : ((frameHeld n bs s).link n).up = bs := by rw [frameHeld_link]
    have hquiet : superviseFrame n (statusShown n (frameHeld n bs s)) = frameShown n bs s := by
      refine superviseFrame_quiet ?_ ?_ ?_ ?_ ?_ ?_ ?_ ?_
      · rw [statusShown_link, hup, hfault]
      · rw [statusShown_gate, frameHeld_gate, hoc]
      · rw [statusShown_gate, frameHeld_gate, hcap]
      · rw [statusShown_link, hup, htemp]
      · rw [State.admitted, hstatus.2.get_apart rfl]; exact hadmit
      · rw [statusShown_deb n.isLt]; exact hdeb
      · rw [State.monitor, hstatus.2.get_apart rfl]; exact hmonitor
      · rw [statusShown_gate, frameHeld_gate, hhold]
    rw [exec_upstreamFrameRx_off_slot, upstreamFrame_good hrx hread hgood, goodFrame_rxOnly hrx hlvl hclosed hrose, hquiet]
    rw [hup] at hack hother hshold hena hno
    have hgate := statusShown_gate n n (frameHeld n bs s)
    rw [frameHeld_gate] at hgate
    refine ⟨_, rfl, ?_, ?_, frameShown_upStamp n bs s, ?_, ?_, ?_, ?_, ?_, ?_, fun m _ => ?_, frameShown_frame n bs s⟩
    · rw [frameShown_link]
    · rw [frameShown_link]
    · rw [frameShown_link]
    · rw [frameShown, tempUnread_bit, hack]
    · rw [frameShown, tempUnread_bit, hother]
    · rw [frameShown, tempUnread_bit, hshold]
    · rw [frameShown, tempUnread_bit, hena]
    · rw [frameShown, tempUnread_get, hno]
    · rw [frameShown, tempUnread_gate (by rw [hgate, hwon]) (by rw [hgate, hwoff]) (by rw [hgate, hton]) (by rw [hgate, htoff]),
        statusShown_gate, frameHeld_gate]
  case invalid =>
    intro s n rt rd gs hup hrun hcount herr hbad
    have hrun' : ((tripMeasured n rt s).link n).invalidRun < 3 := by rw [tripMeasured_link]; exact hrun
    rw [exec_upstreamFrameRx_on_slot hup hcount, upstreamFrame_bad (s := tripMeasured n rt s) hup herr hbad,
      badFrame_early (s := tripMeasured n rt s) hup hrun']
    refine ⟨_, rfl, ?_, ?_, ?_, ?_, ?_, ?_, badCounted_tripMeasured_frame n rt s⟩
    · rw [badCounted_link, tripMeasured_link]
    · rw [badCounted_link, tripMeasured_link]
    · rw [badCounted_link, tripMeasured_link]
    · rw [badCounted_link, tripMeasured_link]
    · rw [badCounted_count, tripMeasured_get]
    · exact fun f hf => (badCounted_onlyRegs n (tripMeasured n rt s) f hf).trans (tripMeasured_get ..)
  case missing =>
    intro s n hup hrun
    rw [exec_upstreamFrameMissing, badFrame_early hup hrun]
    exact ⟨_, rfl, by rw [badCounted_link], badCounted_count n s, badCounted_onlyRegs n s, badCounted_frame n s⟩
  case update =>
    intro s n c hc hpos hdesc hreq hlow hhigh
    rw [exec_laneDelayUpdate, delayUpdate_in_range hc hpos hdesc hreq hlow hhigh]
    refine ⟨_, rfl, ?_, ?_, ?_, ?_, ?_, rfl⟩
    · rw [tripShown, State.modLink_get, State.modLink_get, State.get_set_self, hc]
      exact Nat.mod_eq_of_lt (by show _ < 65536; omega)
    · rw [State.link_modLink_self]
    · rw [State.link_modLink_self, tripShown, State.link_modLink_self]
    · rw [State.link_modLink_self, tripShown, State.link_modLink_self]
    · exact (((OnlyRegs.of_regs rfl _).set _ (by simp)).modLink n _).modLink n _
  case apply =>
    intro s n d hd hle hadmit
    rw [exec_laneDelayApply, delayApply_refused hd hadmit, delayApplied]
    refine ⟨_, rfl, ?_, ?_, ?_, ?_, rfl⟩
    · rw [State.modLink_get, State.get_set_self]
      exact Nat.mod_eq_of_lt (by show d < 1024; omega)
    · rw [State.link_modLink_self]
    · rw [State.link_modLink_self]
    · exact ((OnlyRegs.of_regs rfl _).set d (by simp)).modLink n _
  case urgent =>
    intro s n u rest hq hup hbefore
    obtain ⟨hrest, hlast, hend, hcut⟩ := urgentSent_link n u rest false s s
    rw [exec_urgentSetSend, sendUrgent_alone hq hup hbefore]
    exact ⟨_, rfl, hrest, hlast, hend, by rw [hcut, Bool.or_false], urgentSent_lvlQuiet .., rfl⟩
  case cut =>
    intro s n u rest hq hup hbefore hcut hroom
    obtain ⟨hrest, -, hend, hcut'⟩ := urgentSent_link n u rest true s (s.inc (R.LKN_COUNTS.CUT n))
    rw [exec_urgentSetSend, sendUrgent_cuts hq hup hbefore hcut hroom]
    refine ⟨_, rfl, by rw [hcut', Bool.or_true], hrest, hend, ?_, ?_, rfl⟩
    · rw [urgentSent_get, State.get_inc_self]
    · have hregs : OnlyRegs s (s.inc (R.LKN_COUNTS.CUT n)) [R.LKN_COUNTS.CUT n] := (OnlyRegs.of_regs rfl _).inc (by simp)
      exact fun f hf => (urgentSent_get ..).trans (hregs f hf)

end Sys2Proof.Machine
end

section
/-!
PROOFS. The verification of a descriptor (R217, R219, R511), and what HeadParametersAndIdentity says of it. The clause for a good identity says that the
engine then holds no verification of the lane, and says so of every state: also of one whose engine queue holds a further verification of that lane, which the
engine takes up next. So the statement entails that `Config.mldsa`, which is opaque, accepts no signature of a well-formed descriptor.
-/
namespace Sys2Proof.Machine

theorem verifyResult_pos (d : List Byte) (keys : List (BitVec 512)) (policy : Bool) : 1 ≤ verifyResult d keys policy := by
  have hite : ∀ (c : Bool) {a b : Nat}, 1 ≤ a → 1 ≤ b → 1 ≤ if c then a else b := fun c _ _ ha hb => by split <;> assumption
  exact hite _ (by decide) (hite _ (by decide) (hite _ (by decide) (hite _ (by decide) (by decide))))

/-- Where no descriptor waits, the engine takes up the oldest of the other operations (R511; log 98). -/
theorem engineEnds_takes_queued {s : State} {o : EngineOp} {rest : List EngineOp} (hverify : s.verifyQ = []) (hq : s.sec.engineQ = o :: rest) :
    engineEnds s = { s with sec := { s.sec with engine := some o, engineQ := rest } } := by
  simp [engineEnds, engineNext, hverify, hq]

/-- A cell whose identity is good but whose delay is not yet known waits in IDENTIFY (R219). -/
theorem tryAdmit_waits {s : State} {n : Nat} (hpolicy : s.bit (R.LKN_CTRL.ID_POLICY n) = true) (hport : s.get (R.LN_STAT.PORT n) = s.pos % 2)
    (hformed : (s.link n).dFormed = false) : tryAdmit n s = s := by
  simp [tryAdmit, hpolicy, hport, hformed]

/-- The identity of the descriptor held is shown (R217). -/
def identityShown (n : Nat) (s : State) : State :=
  ((s.modLink n (fun l => { l with digest := digestOf ((s.link n).desc.take 2720), refetch := false })).set (R.LKN_ID_LO n)
    (leAt (digestOf ((s.link n).desc.take 2720)) 0 4)).set (R.LKN_ID_HI n) (leAt (digestOf ((s.link n).desc.take 2720)) 4 4)

theorem identityShown_get_apart {f : Fld} (n : Nat) (hlo : (R.LKN_ID_LO n).apart f = true) (hhi : (R.LKN_ID_HI n).apart f = true) (s : State) :
    (identityShown n s).get f = s.get f := by
  rw [identityShown, State.get_set_apart _ _ hhi, State.get_set_apart _ _ hlo, State.modLink_get]

theorem identityShown_link (n : Nat) (s : State) :
    (identityShown n s).link n = { s.link n with digest := digestOf ((s.link n).desc.take 2720), refetch := false } := by
  rw [identityShown, State.link_of_links (State.set_links ..), State.link_of_links (State.set_links ..), State.link_modLink_self]

/-- The result of the verification of the descriptor held, under a policy (R217). -/
def State.identityResult (s : State) (n : Nat) (policy : Bool) : Nat :=
  verifyResult (s.link n).desc (Config.waisinKey :: s.sec.makerKeys.filter (· != 0)) policy

/-- A good identity of a cell not admitted before is shown, and the cell is admitted where it can be (R219). -/
theorem descVerified_good {s x : State} {n : Nat} (hengine : s.sec.engine = some (.verify n true))
    (hends : engineEnds { s with verifyQ := s.verifyQ.filter (· != n) } = x) (hadmitted : (x.link n).admitted = [])
    (hpolicy : x.bit (R.LKN_CTRL.ID_POLICY n) = true) (hgood : x.identityResult n true ≤ 2) :
    descVerified n s = tryAdmit n ((identityShown n x).set (R.LKN_STAT.ID_RESULT n) (x.identityResult n true)) := by
  have hpos : 1 ≤ x.identityResult n true := verifyResult_pos ..
  have hshown : (identityShown n x).bit (R.LKN_CTRL.ID_POLICY n) = true := by
    rw [State.bit, identityShown_get_apart n rfl rfl]; exact hpolicy
  have hverified : descVerified n s
      = if (x.link n).admitted ≠ [] ∧ digestOf ((x.link n).desc.take 2720) ≠ (x.link n).admitted then failIdentity n 6 (identityShown n x)
        else if x.identityResult n ((identityShown n x).bit (R.LKN_CTRL.ID_POLICY n)) = 1
            ∨ x.identityResult n ((identityShown n x).bit (R.LKN_CTRL.ID_POLICY n)) = 2 then
          tryAdmit n ((identityShown n x).set (R.LKN_STAT.ID_RESULT n) (x.identityResult n ((identityShown n x).bit (R.LKN_CTRL.ID_POLICY n))))
        else failIdentity n (x.identityResult n ((identityShown n x).bit (R.LKN_CTRL.ID_POLICY n))) (identityShown n x) := by
    rw [descVerified, hengine]
    refine (if_neg (by simp)).trans ((if_pos rfl).trans ?_)
    rw [← hends]
    rfl
  rw [hverified, if_neg (by simp [hadmitted]), hshown, if_pos (by omega)]

/-- Descriptor `d` of lane 0 is verified, under a policy that takes every maker, and the engine queue holds a further verification of that lane. -/
def verifyTwice (d : List Byte) : State :=
  (({ State.reset with sec := { engine := some (.verify 0 true), engineQ := [.verify 0 true] } }.set (R.LKN_STAT.ADMIT 0) 1).set
    (R.LKN_CTRL.ID_POLICY 0) 1).modLink 0 (fun _ => { desc := d })

theorem verifyTwice_link (d : List Byte) : (verifyTwice d).link 0 = { desc := d } := by rw [verifyTwice, State.link_modLink_self]
theorem verifyTwice_policy (d : List Byte) : (verifyTwice d).bit (R.LKN_CTRL.ID_POLICY 0) = true := by
  rw [verifyTwice, State.modLink_bit]; decide
theorem verifyTwice_admit (d : List Byte) : (verifyTwice d).get (R.LKN_STAT.ADMIT 0) = 1 := by
  rw [verifyTwice, State.modLink_get]; decide
theorem verifyTwice_port (d : List Byte) : (verifyTwice d).get (R.LN_STAT.PORT 0) = (verifyTwice d).pos % 2 := by
  have hpos : (verifyTwice d).pos = 0 := rfl
  rw [hpos, verifyTwice, State.modLink_get]; decide

/-- The engine goes on with the verification that is queued. -/
theorem descVerified_verifyTwice {d : List Byte} (h : verifyResult d [Config.waisinKey] true ≤ 2) :
    (descVerified 0 (verifyTwice d)).sec.engine = some (.verify 0 true) := by
  obtain ⟨x, hx⟩ : ∃ x : State, x = { verifyTwice d with sec := { engine := some (.verify 0 true) } } := ⟨_, rfl⟩
  have hends : engineEnds { verifyTwice d with verifyQ := (verifyTwice d).verifyQ.filter (· != 0) } = x :=
    (engineEnds_takes_queued rfl rfl).trans hx.symm
  have hlink : x.link 0 = { desc := d } := by rw [hx]; exact verifyTwice_link d
  have hpolicy : x.bit (R.LKN_CTRL.ID_POLICY 0) = true := by rw [hx]; exact verifyTwice_policy d
  have hresult : x.identityResult 0 true = verifyResult d [Config.waisinKey] true := by rw [State.identityResult, hlink, hx]; rfl
  have hport : x.get (R.LN_STAT.PORT 0) = x.pos % 2 := by rw [hx]; exact verifyTwice_port d
  rw [descVerified_good rfl hends (by rw [hlink]) hpolicy (by rw [hresult]; exact h), tryAdmit_waits, State.set_sec, identityShown, State.set_sec,
    State.set_sec, State.modLink_sec, hx]
  · rw [State.bit_set_of_ne _ _ (Fld.key_ne_of_apart rfl), State.bit, identityShown_get_apart 0 rfl rfl]; exact hpolicy
  · rw [State.get_set_apart _ _ rfl, identityShown_get_apart 0 rfl rfl, hport]; rfl
  · rw [State.link_of_links (State.set_links ..), identityShown_link, hlink]

/-- Under a policy that takes every maker, the result of a well-formed descriptor with a good signature is 1 or 2: the statement leaves no such descriptor. -/
theorem verifyResult_refused_of_headParametersAndIdentity (h : Obligations.HeadParametersAndIdentity) (d : List Byte) :
    2 < verifyResult d [Config.waisinKey] true := by
  by_contra hgood
  obtain ⟨-, -, -, -, -, -, hverified, -⟩ := h
  have hgood' : verifyResult d [Config.waisinKey] true ≤ 2 := by omega
  obtain ⟨t, hexec, -, -, hwaits⟩ := hverified (verifyTwice d) 0 (verifyResult d [Config.waisinKey] true) rfl
    (.inl (congrArg LinkSt.admitted (verifyTwice_link d)))
    (by rw [Fin.val_zero, verifyTwice_policy, verifyTwice_link]; rfl) (verifyTwice_admit d) (verifyTwice_port d)
    (congrArg LinkSt.dFormed (verifyTwice_link d))
  obtain ⟨-, hengine, -⟩ := hwaits hgood'
  obtain rfl : descVerified 0 (verifyTwice d) = t := Host.Outcome.next.inj hexec
  exact hengine (descVerified_verifyTwice hgood')

end Sys2Proof.Machine
end

section
/-!
PROOFS. Pulse intervals (08_modulation.md, R233, R234 and R240): where the on-interval of a leg lies, and what a complementary leg plans where both its pulses survive.
-/
namespace Sys2Proof.Machine

/-- The on-interval has the length CMP and lies within the period (R233). -/
theorem onInterval_spec {cmp t : Nat} (h : cmp ≤ t) (align : Nat) :
    (onInterval align cmp t).2 = (onInterval align cmp t).1 + cmp ∧ (onInterval align cmp t).2 ≤ t := by
  unfold onInterval
  split
  · dsimp only; omega
  · split
    · dsimp only; omega
    · exact ⟨(Nat.zero_add cmp).symm, h⟩

/-- The instant at which the high side of a complementary leg turns on: DT after the low side's off-edge, or at ZERO where it is on there already. -/
def highStart (a dt : Nat) (hiOn : Bool) : Nat := if hiOn && a == 0 then 0 else a + dt

/-- The low side of a complementary leg: before the on-interval and, DT after it, to the end of the period (R234). -/
def lowPulses (a b t dt : Nat) : List (Nat × Nat) := (if a > 0 then [(0, a)] else []) ++ (if b + dt < t then [(b + dt, t)] else [])

theorem highStart_of_pos {a : Nat} (h : 0 < a) (dt : Nat) (hiOn : Bool) : highStart a dt hiOn = a + dt := by
  unfold highStart
  rw [if_neg]
  simp [Nat.ne_of_gt h]

theorem mem_lowPulses {a b t dt : Nat} {y : Nat × Nat} (h : y ∈ lowPulses a b t dt) : (y = (0, a) ∧ 0 < a) ∨ (y = (b + dt, t) ∧ b + dt < t) := by
  unfold lowPulses at h
  rcases List.mem_append.1 h with h | h <;> split at h
  · exact .inl ⟨List.mem_singleton.1 h, ‹_›⟩
  · cases h
  · exact .inr ⟨List.mem_singleton.1 h, ‹_›⟩
  · cases h

/-- The plan of a complementary leg: both pulses where both are at least MINP long, else one side on or none (R234, R240). -/
theorem complementary_cases (align cmp t dt minp : Nat) (hiOn : Bool) :
    (∃ short, complementary align cmp t dt minp hiOn = ([], [], short))
      ∨ complementary align cmp t dt minp hiOn = ([], [(0, t)], false)
      ∨ complementary align cmp t dt minp hiOn = ([(0, t)], [], false)
      ∨ complementary align cmp t dt minp hiOn = ([(highStart (onInterval align cmp t).1 dt hiOn, (onInterval align cmp t).2)],
          lowPulses (onInterval align cmp t).1 (onInterval align cmp t).2 t dt, false) := by
  unfold complementary
  by_cases hdrop : cmp < dt + minp <;> by_cases ldrop : t < cmp + dt + minp
  · exact .inl ⟨true, by simp [hdrop, ldrop]⟩
  · exact .inr (.inl (by simp [hdrop, ldrop]))
  · exact .inr (.inr (.inl (by simp [hdrop, ldrop])))
  · exact .inr (.inr (.inr (by simp [hdrop, ldrop, highStart, lowPulses])))

/-- Between a high-side pulse and a low-side pulse of one period lies the dead time (R234). -/
theorem highPulse_apart_lowPulses {a b t dt : Nat} {hiOn : Bool} {y : Nat × Nat} (h : y ∈ lowPulses a b t dt) :
    b + dt ≤ y.1 ∨ y.2 + dt ≤ highStart a dt hiOn := by
  rcases mem_lowPulses h with ⟨rfl, hpos⟩ | ⟨rfl, -⟩
  · exact .inr (highStart_of_pos hpos dt hiOn).ge
  · exact .inl le_rfl

/-- Settles O17: a plan with both pulses keeps the dead time between them (`highPulse_apart_lowPulses`); the other plans leave one side off
(`complementary_cases`). -/
theorem complementaryLegsKeepDeadTime : Obligations.ComplementaryLegsKeepDeadTime := by
  unfold Obligations.ComplementaryLegsKeepDeadTime
  intro align cmp t dt minp hiOn hcmp
  obtain ⟨hlen, hend⟩ := onInterval_spec hcmp align
  rcases complementary_cases align cmp t dt minp hiOn with ⟨short, hplan⟩ | hplan | hplan | hplan <;> rw [hplan]
  · exact ⟨nofun, nofun⟩
  · exact ⟨nofun, by simp⟩
  · exact ⟨fun _ _ => nofun, by simp⟩
  · refine ⟨fun x hx y hy => ?_, fun x hx => ?_⟩
    · rw [List.mem_singleton.1 hx]
      exact highPulse_apart_lowPulses hy
    · rcases List.mem_append.1 hx with hx | hx
      · rw [List.mem_singleton.1 hx]; exact hend
      · rcases mem_lowPulses hx with ⟨rfl, -⟩ | ⟨rfl, -⟩
        · exact (Nat.le_add_right _ _).trans (hlen ▸ hend)
        · exact le_rfl

end Sys2Proof.Machine
end

section
/-!
PROOFS. Carriers (08_modulation.md, R228 to R237): the records of carriers and legs, where a carrier that starts has its first ZERO, what its end, an event and an
opening come down to, and the statement about them.
-/
namespace Sys2Proof.Machine

/-! ### Records of carriers and legs -/

theorem State.car_modCar (s : State) (j k : Nat) (f : CarSt → CarSt) :
    (s.modCar j f).car k = if j = k then f (s.car j) else s.car k := Tab.get_modify ..

@[simp] theorem State.car_modCar_self (s : State) (k : Nat) (f : CarSt → CarSt) : (s.modCar k f).car k = f (s.car k) := by
  simp [State.car_modCar]

theorem State.leg_modLeg (s : State) (j l : Nat) (f : LegSt → LegSt) :
    (s.modLeg j f).leg l = if j = l then f (s.leg j) else s.leg l := Tab.get_modify ..

@[simp] theorem State.leg_modLeg_self (s : State) (l : Nat) (f : LegSt → LegSt) : (s.modLeg l f).leg l = f (s.leg l) := by
  simp [State.leg_modLeg]

theorem State.modLeg_eq (s : State) (l : Nat) (f : LegSt → LegSt) : s.modLeg l f = { s with legs := Tab.set {} s.legs l (f (s.leg l)) } := rfl

theorem State.car_of_cars {s t : State} (h : t.cars = s.cars) (k : Nat) : t.car k = s.car k := by rw [State.car, State.car, h]

theorem State.mem_legsOf {s : State} {k l : Nat} : l ∈ s.legsOf k ↔ l < 384 ∧ s.get (R.LEG_CFG.CARRIER l) = k := by
  simp [State.legsOf, legs384]

/-- The legs of a carrier are those that CARRIER names, whatever else is written. -/
theorem State.legsOf_set {f : Fld} (h : ∀ l, f.apart (R.LEG_CFG.CARRIER l) = true) (s : State) (v k : Nat) :
    (s.set f v).legsOf k = s.legsOf k := by
  simp only [State.legsOf, State.get_set_apart s v (h _)]

theorem State.legsOf_modCar (s : State) (j k : Nat) (f : CarSt → CarSt) : (s.modCar j f).legsOf k = s.legsOf k := rfl

/-! ### The start of a carrier, R228 -/

theorem nextAligned_spec {per : Nat} (h : 0 < per) (a ph : Nat) :
    a ≤ nextAligned a per ph ∧ nextAligned a per ph < a + per ∧ nextAligned a per ph % per = ph % per := by
  have hrem : a % per < per := Nat.mod_lt a h
  have hsum : a + (ph + per - a % per) = ph + per * (a / per + 1) := by
    have := Nat.div_add_mod a per
    rw [Nat.mul_add]
    omega
  refine ⟨Nat.le_add_right .., Nat.add_lt_add_left (Nat.mod_lt _ h) a, ?_⟩
  rw [nextAligned, Nat.add_mod_mod, hsum, Nat.add_mul_mod_self_left]

/-- What a carrier that starts takes from its shadows: its values, its first ZERO and its prescaler. -/
def State.carStarted (s : State) (k : Nat) : CarSt :=
  { per := s.get (R.CAR_PER.PER k), phase := s.get (R.CAR_PHASE.PHASE k), evtCmp := s.get (R.CAR_EVTCMP.EVT_CMP k),
    first := some (nextAligned (s.groupTime + 3072) (s.get (R.CAR_PER.PER k)) (s.get (R.CAR_PHASE.PHASE k))),
    presc := s.get (R.CAR_TRIG.PRESC_PHASE k) % s.prescP k }

theorem enableCar_stopped {s : State} {k : Nat} (hcur : (s.car k).cur = none) (hnext : (s.car k).next = none) :
    enableCar k s = (s.set (R.CAR_CTRL.EN k) 1).modCar k (fun _ => s.carStarted k) := by
  have hget : ∀ f : Fld, (R.CAR_CTRL.EN k).apart f = true → (s.set (R.CAR_CTRL.EN k) 1).get f = s.get f := fun f => State.get_set_apart s 1
  have hstarted : (s.set (R.CAR_CTRL.EN k) 1).carStarted k = s.carStarted k := by
    simp only [State.carStarted, State.prescP, hget (R.CAR_PER.PER k) rfl, hget (R.CAR_PHASE.PHASE k) rfl, hget (R.CAR_EVTCMP.EVT_CMP k) rfl,
      hget (R.CAR_TRIG.PRESC_PHASE k) rfl, hget (R.CAR_TRIG.PRESC k) rfl]
    rfl
  have hstopped : ((s.set (R.CAR_CTRL.EN k) 1).car k).cur.isNone ∧ ((s.set (R.CAR_CTRL.EN k) 1).car k).next.isNone := by
    rw [State.car_of_cars (State.set_cars s _ _), hcur, hnext]
    exact ⟨rfl, rfl⟩
  rw [← hstarted]
  exact if_pos hstopped

/-! ### The end of a carrier, R228 -/

/-- The instant from which a carrier that is disabled has no period: the end of the period in progress, or the ZERO of the first one opened. -/
def CarSt.lastEnd (c : CarSt) : Option Nat :=
  match c.cur, c.next with | some p, _ => some (p.zero + p.len) | none, some p => some p.zero | none, none => none

/-- The carrier keeps its period in progress and has no other. -/
def carStopped (k : Nat) (s : State) : State := (s.set (R.CAR_CTRL.EN k) 0).modCar k (fun c => { c with first := none, next := none })

theorem disableCar_eq (k : Nat) (s : State) :
    disableCar k s = (s.car k).lastEnd.elim (carStopped k s) fun z => (carStopped k s).each (s.legsOf k) (endPlan z) := by
  have hlegs : (carStopped k s).legsOf k = s.legsOf k := (State.legsOf_modCar ..).trans (State.legsOf_set (fun _ => rfl) s 0 k)
  have hdisable : disableCar k s =
      match (s.car k).lastEnd with | some z => (carStopped k s).each ((carStopped k s).legsOf k) (endPlan z) | none => carStopped k s := rfl
  rw [hdisable, hlegs]
  cases (s.car k).lastEnd <;> rfl

theorem endPlan_frame (z l : Nat) (s : State) : endPlan z l s = { s with legs := (endPlan z l s).legs } := rfl

/-- A leg that has ended at `z` stays so while the others end. -/
theorem endPlan_planEnd_le (z j : Nat) {l : Nat} {s : State} (h : (s.leg l).planEnd ≤ z) : ((endPlan z j s).leg l).planEnd ≤ z := by
  rw [endPlan, State.leg_modLeg]
  split
  · exact Nat.min_le_left ..
  · exact h

theorem endPlans_planEnd_le {z l : Nat} {ls : List Nat} (hl : l ∈ ls) (s : State) : ((s.each ls (endPlan z)).leg l).planEnd ≤ z := by
  refine State.each_sets (Q := fun x => (x.leg l).planEnd ≤ z) hl (fun x => ?_) fun j _ x => endPlan_planEnd_le z j
  rw [endPlan, State.leg_modLeg_self]
  exact Nat.min_le_left ..

theorem endPlans_frame (z : Nat) (ls : List Nat) (s : State) : s.each ls (endPlan z) = { s with legs := (s.each ls (endPlan z)).legs } :=
  State.each_keeps (P := fun x => x = { s with legs := x.legs }) rfl fun l _ x hx => by
    rw [endPlan_frame]
    exact congrArg (fun y : State => { y with legs := (endPlan z l x).legs }) hx

/-- Disabling a carrier changes its own record and the plans of its legs. -/
theorem disableCar_frame (k : Nat) (s : State) : disableCar k s = { carStopped k s with legs := (disableCar k s).legs } := by
  rw [disableCar_eq]
  cases (s.car k).lastEnd with
  | none => rfl
  | some z => exact endPlans_frame ..

theorem disableCar_get (k : Nat) (s : State) (f : Fld) : (disableCar k s).get f = (carStopped k s).get f := by rw [disableCar_frame]; rfl

theorem disableCar_car (k : Nat) (s : State) : (disableCar k s).car k = { s.car k with first := none, next := none } := by
  have hcars : (disableCar k s).cars = (carStopped k s).cars := by rw [disableCar_frame]
  rw [State.car_of_cars hcars, carStopped, State.car_modCar_self]
  rfl

theorem disableCar_planEnd_le {s : State} {k l : Nat} {p : Period} (hcur : (s.car k).cur = some p) (hl : l < 384)
    (hcar : s.get (R.LEG_CFG.CARRIER l) = k) : ((disableCar k s).leg l).planEnd ≤ p.zero + p.len := by
  have hend : (s.car k).lastEnd = some (p.zero + p.len) := by rw [CarSt.lastEnd, hcur]
  rw [disableCar_eq, hend]
  exact endPlans_planEnd_le (State.mem_legsOf.2 ⟨hl, hcar⟩) _

/-! ### Events, R230, R231 and R235 -/

/-- An event that the prescaler does not count leaves the trigger alone (R231). -/
theorem prescale_uncounted {s : State} {k : Nat} (h : s.get (R.CAR_TRIG.TRIG_SRC k) = 0) (e : CarEvt) : prescale k e s = s :=
  if_neg (by simp [h, bitAt])

/-- What an event commits by COMMIT_SRC: the carrier and the legs that follow no group (R235). -/
def commitOwn (k : Nat) (e : CarEvt) (s : State) : State :=
  if bitAt (s.get (R.CAR_CTRL.COMMIT_SRC k)) (CarEvt.bit e) then
    let t := if !s.bit (R.CAR_CTRL.GROUPED k) && s.stampDue (s.car k).stamp then commitCar k s else s
    t.each (t.legsOf k) (fun l x => if !x.bit (R.LEG_CFG.GROUPED l) && x.stampDue (x.leg l).stamp then commitLeg l x else x)
  else s

/-- Where no group has a COMMIT pending, an event commits by COMMIT_SRC alone (R235, R236). -/
theorem commitEvent_ungrouped {s : State} {k : Nat} {e : CarEvt} (hpend : (commitOwn k e s).groupPend = []) :
    commitEvent k e s = commitOwn k e s := by
  unfold commitEvent
  refine State.each_eq_self (s := commitOwn k e s) fun g _ => ?_
  have hg : Tab.get 0 (commitOwn k e s).groupPend g = 0 := by rw [hpend]; rfl
  exact if_neg fun h => h.1 hg

theorem commitOwn_deaf {s : State} {k : Nat} {e : CarEvt} (h : bitAt (s.get (R.CAR_CTRL.COMMIT_SRC k)) (CarEvt.bit e) = false) :
    commitOwn k e s = s := by
  simp only [commitOwn, h, Bool.false_eq_true, if_false]

/-- The carrier's shadows are due, and it has no legs. -/
theorem commitOwn_due {s : State} {k : Nat} {e : CarEvt} (hsrc : bitAt (s.get (R.CAR_CTRL.COMMIT_SRC k)) (CarEvt.bit e) = true)
    (hown : s.bit (R.CAR_CTRL.GROUPED k) = false) (hdue : s.stampDue (s.car k).stamp = true) (hlegs : s.legsOf k = []) :
    commitOwn k e s = commitCar k s := by
  have hkept : (commitCar k s).legsOf k = [] := hlegs
  simp only [commitOwn, hsrc, hown, hdue, hkept, Bool.not_false, Bool.and_self, if_true, State.each_nil]

/-- The opened period becomes the one in progress. -/
def zeroPassed (k : Nat) (s : State) : State :=
  (s.setBit (R.CAR_CTRL.RUNNING k) (s.car k).next.isSome).modCar k (fun c => { c with cur := c.next, next := none })

theorem advanceZero_alone {s : State} {k : Nat} (hlegs : s.legsOf k = []) : advanceZero k s = zeroPassed k s := by
  have hpassed : (zeroPassed k s).legsOf k = [] := by
    rw [zeroPassed, State.legsOf_modCar, State.setBit, State.legsOf_set (fun _ => rfl), hlegs]
  show (zeroPassed k s).each ((zeroPassed k s).legsOf k) _ = _
  rw [hpassed, State.each_nil]

theorem zeroPassed_get_apart {f : Fld} {k : Nat} (h : (R.CAR_CTRL.RUNNING k).apart f = true) (s : State) : (zeroPassed k s).get f = s.get f :=
  State.get_setBit_apart s _ h

/-- A ZERO that neither triggers nor commits moves the carrier to its next period (R230). -/
theorem carrierEvent_zero {s : State} {k : Nat} {p : Period} (hnext : (s.car k).next = some p) (hsrc : s.get (R.CAR_CTRL.COMMIT_SRC k) = 0)
    (htrig : s.get (R.CAR_TRIG.TRIG_SRC k) = 0) (hpend : s.groupPend = []) (hlegs : s.legsOf k = []) :
    carrierEvent k .zero s = zeroPassed k s := by
  have hevent : carrierEvent k .zero s = commitEvent k .zero (prescale k .zero (advanceZero k s)) := if_pos (by rw [hnext]; rfl)
  have hcommit : commitOwn k .zero (zeroPassed k s) = zeroPassed k s := commitOwn_deaf (by rw [zeroPassed_get_apart rfl, hsrc]; rfl)
  rw [hevent, advanceZero_alone hlegs, prescale_uncounted (by rw [zeroPassed_get_apart rfl, htrig]),
    commitEvent_ungrouped (by rw [hcommit]; exact hpend), hcommit]

/-- A PERIOD event that commits the carrier's shadows alone (R230, R235). -/
theorem carrierEvent_period {s : State} {k w : Nat} {p : Period} (hcur : (s.car k).cur = some p) (hsrc : s.get (R.CAR_CTRL.COMMIT_SRC k) = 2)
    (htrig : s.get (R.CAR_TRIG.TRIG_SRC k) = 0) (hown : s.bit (R.CAR_CTRL.GROUPED k) = false) (hstamp : (s.car k).stamp = some w)
    (hafter : w < s.ts.tsc) (hdist : w + s.get R.MOD_CTRL.MIN_COMMIT ≤ s.ts.tsc) (hpend : s.groupPend = []) (hlegs : s.legsOf k = []) :
    carrierEvent k .period s = commitCar k s := by
  have hevent : carrierEvent k .period s = commitEvent k .period (prescale k .period s) := if_pos (by rw [hcur]; rfl)
  have hdue : s.stampDue (s.car k).stamp = true := by simp [hstamp, State.stampDue, State.dueAfter, hafter, hdist]
  have hcommit : commitOwn k .period s = commitCar k s := commitOwn_due (by rw [hsrc]; rfl) hown hdue hlegs
  rw [hevent, prescale_uncounted htrig, commitEvent_ungrouped (by rw [hcommit]; exact hpend), hcommit]

/-! ### Period openings, R229, R232 and R237 -/

/-- The length of the period that is opened next (R229). -/
def CarSt.nextLen (c : CarSt) : Nat := if c.shift = 0 then c.per else (clampInt 10240 67108863 ((c.per : Int) + c.shift)).toNat

/-- A period of a length is opened at a ZERO and counted (R237). -/
def periodOpened (k z t : Nat) (s : State) : State :=
  (s.incWrap (R.CAR_PERIODS.PERIODS k)).modCar k
    (fun c => { c with first := none, next := some ⟨z, t, c.per, c.evtCmp⟩, shift := c.shift - ((t : Int) - c.per) })

theorem openPeriod_first {s : State} {k z : Nat} (hfirst : (s.car k).first = some z) (hen : s.bit (R.CAR_CTRL.EN k) = true)
    (hnext : (s.car k).next = none) :
    openPeriod k s = (periodOpened k z (s.car k).nextLen s).each (s.legsOf k) (openLeg z (s.car k).nextLen (s.car k).per) := by
  have hlegs : (periodOpened k z (s.car k).nextLen s).legsOf k = s.legsOf k :=
    (State.legsOf_modCar ..).trans (State.legsOf_set (f := R.CAR_PERIODS.PERIODS k) (fun _ => rfl) s _ k)
  rw [← hlegs]
  simp only [openPeriod, hfirst, hen, hnext]
  rfl

theorem periodOpened_next (k z t : Nat) (s : State) :
    ((periodOpened k z t s).car k).next = some ⟨z, t, (s.car k).per, (s.car k).evtCmp⟩ ∧ ((periodOpened k z t s).car k).first = none := by
  rw [periodOpened, State.car_modCar_self]
  exact ⟨rfl, rfl⟩

theorem periodOpened_counts (k z t : Nat) (s : State) :
    (periodOpened k z t s).get (R.CAR_PERIODS.PERIODS k) = (s.get (R.CAR_PERIODS.PERIODS k) + 1) % 2 ^ (R.CAR_PERIODS.PERIODS k).width :=
  State.get_set_self ..

theorem periodOpened_onlyRegs (k z t : Nat) (s : State) : OnlyRegs s (periodOpened k z t s) [R.CAR_PERIODS.PERIODS k] :=
  (OnlyRegs.of_regs rfl _).set _ (List.mem_singleton.2 rfl)

/-- A leg in mode 2 that was in mode 2 before, with nothing planned: outside Run no refresh applies, and it is on for the whole period (R232). -/
theorem openLeg_highStatic {s : State} {l : Nat} (hleg : s.leg l = { mode := 2, lastMode := 2 }) (hrun : s.inState [.run] = false) (z t per : Nat) :
    openLeg z t per l s = s.modLeg l (fun g => { g with hi := [(z, z + t)], planEnd := z + t, dts := [(z, g.dt)] }) := by
  have hend : lastEnd [] = none := rfl
  simp [openLeg, hleg, hrun, hend, State.modLeg_eq, addPlan, delayFirst, maxOpt]

/-! ### Commands -/

theorem exec_carrierEnable (k : Fin 64) (s : State) : exec (.carrierEnable k) s = .next (enableCar k s) := rfl
theorem exec_carrierDisable (k : Fin 64) (s : State) : exec (.carrierDisable k) s = .next (disableCar k s) := rfl
theorem exec_carrierEvent (k : Fin 64) (e : CarEvt) (s : State) : exec (.carrierEvent k e) s = .next (carrierEvent k e s) := rfl
theorem exec_periodOpening (k : Fin 64) (s : State) : exec (.periodOpening k) s = .next (openPeriod k s) := rfl

/-- Settles O14: a carrier starts from its shadows at an aligned ZERO (`enableCar_stopped`, `nextAligned_spec`), ends with its period in progress
(`disableCar_frame`, `disableCar_planEnd_le`), events come down to the move at ZERO (`carrierEvent_zero`) and the commit that is due
(`carrierEvent_period`), and an opening is `openPeriod_first`, with a leg in mode 2 by `openLeg_highStatic`. -/
theorem carriersOpenPeriods : Obligations.CarriersOpenPeriods := by
  unfold Obligations.CarriersOpenPeriods
  refine ⟨?enable, ?disable, ?zero, ?period, ?opening, ?leg⟩
  case enable =>
    intro s k hcur hnext hper
    obtain ⟨hle, hlt, hmod⟩ := nextAligned_spec hper (s.groupTime + 3072) (s.get (R.CAR_PHASE.PHASE k))
    rw [exec_carrierEnable, enableCar_stopped hcur hnext]
    refine ⟨_, nextAligned (s.groupTime + 3072) (s.get (R.CAR_PER.PER k)) (s.get (R.CAR_PHASE.PHASE k)), rfl, ?_, ?_, hle, hlt, hmod, ?_, ?_, ?_, rfl⟩
    · exact State.get_set_self s (R.CAR_CTRL.EN k) 1
    · rw [State.car_modCar_self]; rfl
    · rw [State.car_modCar_self]; rfl
    · rw [State.car_modCar_self]; rfl
    · exact (OnlyRegs.of_regs (s := s) rfl _).set 1 (List.mem_singleton.2 rfl)
  case disable =>
    intro s k
    refine ⟨_, exec_carrierDisable k s, ?_, ?_, ?_, ?_, fun l hl => ?_, ?_, ?_⟩
    · rw [disableCar_get]; exact State.get_set_self s (R.CAR_CTRL.EN k) 0
    · rw [disableCar_car]
    · rw [disableCar_car]
    · rw [disableCar_car]
    · refine (Option.all_eq_true _ _).2 fun p hp => ?_
      by_cases hcar : s.get (R.LEG_CFG.CARRIER l) = k
      · simp [disableCar_planEnd_le hp hl hcar]
      · simp [hcar]
    · exact fun f hf => (disableCar_get k s f).trans ((OnlyRegs.of_regs (s := s) rfl _).set 0 (List.mem_singleton.2 rfl) f hf)
    · rw [disableCar_frame]; rfl
  case zero =>
    intro s k p hnext hsrc htrig hpend hlegs
    rw [exec_carrierEvent, carrierEvent_zero hnext hsrc htrig hpend hlegs]
    refine ⟨_, rfl, ?_, ?_, ?_, ?_, rfl⟩
    · rw [zeroPassed, State.car_modCar_self]; exact hnext
    · rw [zeroPassed, State.car_modCar_self]
    · rw [zeroPassed, hnext]; exact State.get_set_self s (R.CAR_CTRL.RUNNING k) 1
    · exact (OnlyRegs.of_regs (s := s) rfl _).set _ (List.mem_singleton.2 rfl)
  case period =>
    intro s k p w hcur hsrc htrig hown hstamp hafter hdist hpend hlegs
    rw [exec_carrierEvent, carrierEvent_period hcur hsrc htrig hown hstamp hafter hdist hpend hlegs]
    refine ⟨_, rfl, ?_, ?_, ?_, ?_, rfl⟩ <;> rw [commitCar, State.car_modCar_self]
  case opening =>
    intro s k z hfirst hen hnext hshift hlegs
    have hlen : (s.car k).nextLen = (s.car k).per := if_pos hshift
    rw [exec_periodOpening, openPeriod_first hfirst hen hnext, hlegs, hlen, State.each_nil]
    obtain ⟨hopened, hstarted⟩ := periodOpened_next k z (s.car k).per s
    exact ⟨_, rfl, hopened, hstarted, periodOpened_counts .., periodOpened_onlyRegs k z _ s, rfl⟩
  case leg =>
    intro s k z l hfirst hen hnext hshift hlegs hleg hrun
    have hlen : (s.car k).nextLen = (s.car k).per := if_pos hshift
    have hopened : (periodOpened k z (s.car k).per s).leg l = { mode := 2, lastMode := 2 } := hleg
    rw [exec_periodOpening, openPeriod_first hfirst hen hnext, hlegs, hlen, State.each_cons, State.each_nil,
      openLeg_highStatic hopened hrun]
    refine ⟨_, rfl, ?_, ?_, ?_, ?_⟩
    · rw [State.leg_modLeg_self]
    · rw [State.leg_modLeg_self, hopened]
    · rw [State.leg_modLeg_self]
    · exact fun f hf => periodOpened_onlyRegs k z (s.car k).per s f hf

end Sys2Proof.Machine
end

section
/-!
PROOFS. Edges handed over (08_modulation.md, R237, R238 and R245): a leg whose low side is never planned on meets no interlock, a gate without a plan has no
edge, and the one pulse of a gate gives its two edges in order.
-/
namespace Sys2Proof.Machine

/-! ### The interlock, R245 -/

@[simp] theorem planOn_nil (t : Nat) : planOn [] t = false := rfl

theorem planOn_pulse (a b t : Nat) : planOn [(a, b)] t = (decide (a ≤ t) && decide (t < b)) := by simp [planOn]

/-- A conflict takes an on-time of each side: a leg whose low side is off throughout has none. -/
theorem conflictAt_low_off {g : LegSt} (h : g.lo = []) (w e : Nat) : conflictAt w e g = none := by
  refine List.find?_eq_none.2 fun t _ => ?_
  simp [h]

theorem interlock_low_off {s : State} {l : Nat} (h : (s.leg l).lo = []) (w e : Nat) : interlock w e l s = s := by
  rw [interlock, conflictAt_low_off h]

/-! ### The edges of one gate, R237 -/

/-- The plan of a gate of a cell: the high side of its leg where the gate is even, the low side where it is odd (R232). -/
def State.gatePlan (s : State) (n g : Nat) : List (Nat × Nat) :=
  if g % 2 = 0 then (s.leg (6 * n + g / 2)).hi else (s.leg (6 * n + g / 2)).lo

theorem commanded_unplanned {s : State} {n g : Nat} (h : s.gatePlan n g = []) (t : Nat) : s.commanded n g t = false := by
  have hplan : s.commanded n g t = (_ && planOn (s.gatePlan n g) t) := rfl
  rw [hplan, h, planOn_nil, Bool.and_false]

/-- A fitted gate that nothing holds off follows its plan (R238). -/
theorem commanded_free {s : State} {n g : Nat} (hfit : bitAt (s.fitted n) g = true) (hoff : s.get (R.GSC_STAT.OFF_GATES n) = 0)
    (htrip : s.tripHolds n = false) (habort : (s.leg (6 * n + g / 2)).abort = false) (t : Nat) :
    s.commanded n g t = planOn (s.gatePlan n g) t := by
  have hbit : bitAt (s.get (R.GSC_STAT.OFF_GATES n)) g = false := by simp [hoff, bitAt]
  simp only [State.commanded, hfit, hbit, htrip, habort, Bool.not_false, Bool.and_self, Bool.true_and]
  rfl

/-- The change of a gate's level at an instant, as an edge, and the level from there on. -/
def edgeStep (s : State) (n w g : Nat) (acc : Bool × List Edge) (t : Nat) : Bool × List Edge :=
  if s.commanded n g t = acc.1 then acc else (s.commanded n g t, acc.2 ++ [{ gate := g, level := s.commanded n g t, tick := (t : Int) - w }])

theorem gateEdges_eq (s : State) (n w e g : Nat) :
    gateEdges s n w e g = ((w :: planPoints w e (s.leg (6 * n + g / 2))).foldl (edgeStep s n w g) (bitAt (s.link n).levels g, [])).2 := rfl

theorem edgeStep_same {s : State} {n w g t : Nat} {acc : Bool × List Edge} (h : s.commanded n g t = acc.1) : edgeStep s n w g acc t = acc := if_pos h

theorem edgeStep_change {s : State} {n w g t : Nat} {b : Bool} {es : List Edge} (h : s.commanded n g t = !b) :
    edgeStep s n w g (b, es) t = (!b, es ++ [⟨g, !b, (t : Int) - w⟩]) := by
  simp [edgeStep, h]

theorem gateEdges_unplanned {s : State} {n g : Nat} (hplan : s.gatePlan n g = []) (hlevel : bitAt (s.link n).levels g = false) (w e : Nat) :
    gateEdges s n w e g = [] := by
  rw [gateEdges_eq, hlevel, List.foldl_fixed' fun t => edgeStep_same (commanded_unplanned hplan t)]

/-- The two ends of a pulse inside the window, in order. -/
theorem planPoints_pulse {g : LegSt} {a b w e : Nat} (hhi : g.hi = [(a, b)]) (hlo : g.lo = []) (hstart : w ≤ a) (hlen : a < b) (hend : b < e) :
    planPoints w e g = [a, b] := by
  have hwb : w ≤ b := by omega
  have hae : a < e := by omega
  simp [planPoints, hhi, hlo, hstart, hlen, hlen.le, hend, hwb, hae]

/-- A gate that is off before its one pulse has the pulse's two edges, also where the pulse begins with the window. -/
theorem gateEdges_pulse {s : State} {n g a b w e : Nat} (hcmd : ∀ t, s.commanded n g t = planOn [(a, b)] t)
    (hpts : planPoints w e (s.leg (6 * n + g / 2)) = [a, b]) (hlevel : bitAt (s.link n).levels g = false) (hstart : w ≤ a) (hlen : a < b) :
    gateEdges s n w e g = [⟨g, true, (a : Int) - w⟩, ⟨g, false, (b : Int) - w⟩] := by
  have hon : s.commanded n g a = true := by simp [hcmd, planOn_pulse, hlen]
  have hoff : s.commanded n g b = false := by simp [hcmd, planOn_pulse]
  have hrise : edgeStep s n w g (edgeStep s n w g (false, []) w) a = (true, [⟨g, true, (a : Int) - w⟩]) := by
    rcases hstart.eq_or_lt with rfl | hlt
    · rw [edgeStep_change (b := false) hon]; exact edgeStep_same hon
    · have hbefore : s.commanded n g w = false := by simp [hcmd, planOn_pulse, hlt]
      rw [edgeStep_same (acc := (false, [])) hbefore]; exact edgeStep_change (b := false) hon
  rw [gateEdges_eq, hpts, hlevel]
  show (edgeStep s n w g (edgeStep s n w g (edgeStep s n w g (false, []) w) a) b).2 = _
  rw [hrise, edgeStep_change (b := true) hoff]
  rfl

theorem sortEdges_pair {x y : Edge} (h : x.tick < y.tick) : sortEdges [x, y] = [x, y] := by simp [sortEdges, insertEdge, h]

/-! ### The hand-over, R237 and R238 -/

/-- The edges of a cell take the place of those handed over before. -/
def edgesTaken (n : Nat) (es : List Edge) (s : State) : State := s.modLink n (fun l => { l with edges := (sortEdges es).take 12, muted := 0 })

/-- A driven cell whose legs meet no interlock: its edges of the frame after the next are handed over, and fit its link. -/
theorem handOver_clear {s : State} {n : Nat} (hdriven : s.driven n = true) (hsent : (s.link n).driven = true) (hstate : s.get (R.GSC_STAT.STATE n) = 0)
    (htick : s.tickInFrame ≤ 896) (hlow : ∀ i, i < 6 → (s.leg (6 * n + i)).lo = [])
    (hfit : ((List.range 12).flatMap (gateEdges s n ((s.frame + 2) * 1024) ((s.frame + 2) * 1024 + 1024))).length ≤ 12) :
    handOver n s = edgesTaken n ((List.range 12).flatMap (gateEdges s n ((s.frame + 2) * 1024) ((s.frame + 2) * 1024 + 1024))) s := by
  have hgo : (s.driven n && (s.link n).driven && s.get (R.GSC_STAT.STATE n) != 1) = true := by simp [hdriven, hsent, hstate]
  have hclear : s.each (List.range 6) (fun i x => interlock ((s.frame + 2) * 1024) ((s.frame + 2) * 1024 + 1024) (6 * n + i) x) = s :=
    State.each_eq_self fun i hi => interlock_low_off (hlow i (List.mem_range.1 hi)) _ _
  simp only [handOver, hgo, if_true, if_pos htick, hclear]
  exact if_neg (by omega)

/-- The one pulse of gate 0 gives the edges of the whole cell. -/
theorem cellEdges_pulse {s : State} {n w e : Nat} {es : List Edge} (hfirst : gateEdges s n w e 0 = es)
    (hrest : ∀ g, 0 < g → g < 12 → s.gatePlan n g = []) (hlevels : (s.link n).levels = 0) :
    (List.range 12).flatMap (gateEdges s n w e) = es := by
  have hnone : (List.range' 1 11).flatMap (gateEdges s n w e) = [] := by
    refine List.flatMap_eq_nil_iff.2 fun g hg => ?_
    obtain ⟨hpos, hlt⟩ := List.mem_range'_1.1 hg
    exact gateEdges_unplanned (hrest g (by omega) (by omega)) (by simp [hlevels, bitAt]) w e
  have hsplit : List.range 12 = 0 :: List.range' 1 11 := rfl
  rw [hsplit, List.flatMap_cons, hnone, hfirst, List.append_nil]

end Sys2Proof.Machine
end

section
/-!
PROOFS. Commits and trip inputs (08_modulation.md, R236 and R246 to R250): what a COMMIT stamps, which registers a trip leaves through the reports and urgent sets
it causes, what its action on the cells sets, and the statement about commits, edges and trips.
-/
namespace Sys2Proof.Machine

/-! ### A COMMIT, R236 -/

/-- A COMMIT of one group: one that is pending is not moved. -/
def stampGroup (g : Nat) (s : State) : State :=
  if Tab.get 0 s.groupPend g = 0 then { s with groupPend := Tab.set 0 s.groupPend g (s.ts.tsc + 1) } else s

theorem commitGroups_eq (v : Nat) (s : State) : commitGroups v s = s.each (bitList 16 v) stampGroup := rfl

theorem stampGroup_frame (g : Nat) (s : State) : stampGroup g s = { s with groupPend := (stampGroup g s).groupPend } := by
  unfold stampGroup; split <;> rfl

theorem stampGroup_pend (j g : Nat) (s : State) :
    Tab.get 0 (stampGroup j s).groupPend g = if j = g ∧ Tab.get 0 s.groupPend g = 0 then s.ts.tsc + 1 else Tab.get 0 s.groupPend g := by
  unfold stampGroup
  by_cases hj : j = g <;> by_cases hpend : Tab.get 0 s.groupPend j = 0 <;> simp_all [Tab.get_set]

theorem stampGroup_of_ne {j g : Nat} (h : j ≠ g) (s : State) : Tab.get 0 (stampGroup j s).groupPend g = Tab.get 0 s.groupPend g := by
  rw [stampGroup_pend, if_neg fun hj => h hj.1]

theorem State.pendFrame_trans {s x t : State} (hx : x = { s with groupPend := x.groupPend }) (ht : t = { x with groupPend := t.groupPend }) :
    t = { s with groupPend := t.groupPend } := ht.trans (congrArg (fun y : State => { y with groupPend := t.groupPend }) hx)

theorem commitGroups_frame (v : Nat) (s : State) : commitGroups v s = { s with groupPend := (commitGroups v s).groupPend } :=
  State.each_keeps (P := fun x => x = { s with groupPend := x.groupPend }) rfl fun g _ x hx => State.pendFrame_trans hx (stampGroup_frame g x)

theorem mem_bitList {n x i : Nat} : i ∈ bitList n x ↔ i < n ∧ bitAt x i = true := by simp [bitList]

theorem bitList_nodup (n x : Nat) : (bitList n x).Nodup := List.nodup_range.filter _

/-- A group is as before up to its turn, and its stamp stands after it. -/
theorem commitGroups_pend {g : Nat} (hg : g < 16) (v : Nat) (s : State) :
    Tab.get 0 (commitGroups v s).groupPend g =
      if bitAt v g = true ∧ Tab.get 0 s.groupPend g = 0 then s.ts.tsc + 1 else Tab.get 0 s.groupPend g := by
  rw [commitGroups_eq]
  by_cases hv : bitAt v g = true
  · refine State.each_once (P := fun x => x.ts = s.ts ∧ Tab.get 0 x.groupPend g = Tab.get 0 s.groupPend g)
      (Q := fun x => Tab.get 0 x.groupPend g = if bitAt v g = true ∧ Tab.get 0 s.groupPend g = 0 then s.ts.tsc + 1 else Tab.get 0 s.groupPend g)
      (mem_bitList.2 ⟨hg, hv⟩) (bitList_nodup 16 v) ⟨rfl, rfl⟩ (fun j x hj hx => ?_) (fun x hx => ?_) (fun j x hj hx => ?_)
    · obtain ⟨hts, hpend⟩ := hx
      exact ⟨by rw [stampGroup_frame]; exact hts, (stampGroup_of_ne hj x).trans hpend⟩
    · obtain ⟨hts, hpend⟩ := hx
      rw [stampGroup_pend, hts, hpend]
      simp [hv]
    · exact (stampGroup_of_ne hj x).trans hx
  · rw [if_neg fun h => hv h.1]
    refine State.each_keeps (P := fun x => Tab.get 0 x.groupPend g = Tab.get 0 s.groupPend g) rfl fun j hj x hx => ?_
    have hne : j ≠ g := fun e => hv (by rw [← e]; exact (mem_bitList.1 hj).2)
    exact (stampGroup_of_ne hne x).trans hx

/-! ### Registers that a trip's reports leave -/

/-- The place of a field in the words of the trip inputs, of the legs, or of the members of the strings. -/
abbrev TripKey (k : Nat) : Prop := (0x60100 ≤ k / 32 ∧ k / 32 < 0x66000) ∨ (0x80104 ≤ k / 32 ∧ k / 32 < 0x80204)

theorem not_reportKey_of_tripKey {k : Nat} (h : TripKey k) : ¬ ReportKey k := by
  simp only [ReportKey, O.RUN_REQUEST, obj, List.mem_cons, List.not_mem_nil, or_false]
  omega

/-- A report of a source whose leaf lies in MOD_CAUSE. -/
theorem raise_get_tripKey {f g : Fld} {r : Src} (hf : TripKey f.key) (hblock : r.block ≤ 16) (hleaf : leafOf r = some g) (hcause : g.key / 32 = 0x60008)
    (s : State) : (raise r s).get f = s.get f :=
  raise_get (not_reportKey_of_tripKey hf) (.of_leaf hblock hleaf fun e => by rw [e] at hcause; omega) s

theorem raise_tripEvent_get {f : Fld} {i : Nat} (hi : i < 8) (hf : TripKey f.key) (s : State) : (raise (Src.MOD_TRIP_EVENT i) s).get f = s.get f :=
  raise_get_tripKey (g := R.MOD_CAUSE.TRIP_EVENT i) hf (show 6 ≤ 16 by decide) rfl (by simp only [Fld.key, R.MOD_CAUSE.TRIP_EVENT]; omega) s

theorem raise_tripLatched_get {f : Fld} {i : Nat} (hi : i < 8) (hf : TripKey f.key) (s : State) : (raise (Src.MOD_TRIP_LATCHED i) s).get f = s.get f :=
  raise_get_tripKey (g := R.MOD_CAUSE.TRIP_LATCHED i) hf (show 6 ≤ 16 by decide) rfl (by simp only [Fld.key, R.MOD_CAUSE.TRIP_LATCHED]; omega) s

theorem raise_clrRefused_get {f : Fld} (hf : TripKey f.key) (s : State) : (raise Src.MOD_TRIP_CLR_REFUSED s).get f = s.get f :=
  raise_get_tripKey (g := R.MOD_CAUSE.TRIP_CLR_REFUSED) hf (by decide) rfl (by decide) s

theorem tripRecovery_refused_get (i : Nat) (s : State) (f : Fld) : (tripRecovery i false s).get f = s.get f := by
  unfold tripRecovery
  split <;> rfl

/-! ### The cells of a trip, R247 -/

/-- A trip names the same cells while STRINGS and the members of the strings stand. -/
theorem State.tripCells_congr {s t : State} {i : Nat} (hstrings : t.get (R.TRIP_CFG.STRINGS i) = s.get (R.TRIP_CFG.STRINGS i))
    (hmembers : ∀ g, g < 8 → t.members g = s.members g) : t.tripCells i = s.tripCells i := by
  have hstring : ∀ n, t.stringOf n = s.stringOf n := fun n =>
    List.find?_congr fun g hg => by rw [hmembers g (List.mem_range.1 hg)]
  simp only [State.tripCells, hstring, hstrings]

/-- In the words of the trip inputs, of the legs and of the members of the strings, `t` differs from `s` in the fields of a list alone. -/
def TripSets (s t : State) (l : List Fld) : Prop := ∀ f : Fld, TripKey f.key → f.key ∉ l.map Fld.key → t.get f = s.get f

theorem TripSets.tripCells {s t : State} {l : List Fld} {i : Nat} (h : TripSets s t l) (hi : i < 8)
    (hl : ∀ f ∈ l, 0x60100 ≤ f.addr ∧ f.addr < 0x66000 ∧ f.lo < 32 ∧ f.key ≠ (R.TRIP_CFG.STRINGS i).key) : t.tripCells i = s.tripCells i := by
  have hmember : ∀ f : Fld, 0x80104 ≤ f.addr → f.addr < 0x80204 → f.lo = 0 → t.get f = s.get f := fun f hlow hhigh hlo => by
    refine h f (.inr (by unfold Fld.key; omega)) fun hf => ?_
    obtain ⟨g, hg, e⟩ := List.mem_map.1 hf
    obtain ⟨-, hg, hbit, -⟩ := hl g hg
    unfold Fld.key at e
    omega
  refine State.tripCells_congr (h _ ?_ fun hf => ?_) fun g hg => ?_
  · simp only [TripKey, Fld.key, R.TRIP_CFG.STRINGS]; omega
  · obtain ⟨g, hg, e⟩ := List.mem_map.1 hf
    exact (hl g hg).2.2.2 e
  · rw [State.members, State.members, State.get64, State.get64, hmember (R.STR_MEM_LO g) ?_ ?_ rfl, hmember (R.STR_MEM_HI g) ?_ ?_ rfl]
    all_goals simp only [R.STR_MEM_LO, R.STR_MEM_HI]; omega

/-! ### A trip that becomes active, R246 and R248 -/

/-- The trip is counted and reported. -/
def tripCounted (i : Nat) (s : State) : State :=
  raise (Src.MOD_TRIP_EVENT i) (((s.set (R.TRIP_STAT.TRIPACT i) 1).inc (R.TRIP_STAT.CNT i)).inc (R.TRIP_STAT.TOTAL i))

/-- A CLR that waits is refused (R250). -/
def clrDropped (i : Nat) (s : State) : State :=
  if s.bit (R.TRIP_STAT.CLR_PENDING i) then tripRecovery i false (raise (Src.MOD_TRIP_CLR_REFUSED) (s.set (R.TRIP_STAT.CLR_PENDING i) 0)) else s

/-- CNT has reached N and the trip is not latched (R248). -/
def State.tripLatches (s : State) (i : Nat) : Bool :=
  s.bit (R.TRIP_CFG.LATCH_EN i) && s.get (R.TRIP_STAT.CNT i) ≥ s.get (R.TRIP_CFG.N i) && !s.bit (R.TRIP_STAT.LATCHED i)

def tripLatched (i : Nat) (s : State) : State := if s.tripLatches i then raise (Src.MOD_TRIP_LATCHED i) (s.set (R.TRIP_STAT.LATCHED i) 1) else s

/-- The cells of a trip are acted on, with one mask of gates. -/
def cellsActed (i mask : Nat) (soft all latched : Bool) (s : State) : State := s.each (s.tripCells i) (tripCell mask soft all latched)

/-- The action on the cells, and where the trip latches with a class of Crimson or Black the one of R248 as well. -/
def tripActed (i : Nat) (latch : Bool) (s : State) : State :=
  let t := cellsActed i (if s.bit (R.TRIP_CFG.GATES i) then 0xFFF else 0x555) (s.bit (R.TRIP_CFG.SOFT i)) (s.bit (R.TRIP_CFG.GATES i))
    (s.bit (R.TRIP_STAT.LATCHED i)) s
  if latch && t.get (R.FC_SEV 6 8) ≥ 2 then cellsActed i 0xFFF (t.bit (R.TRIP_CFG.SOFT i)) true true t else t

/-- The registers of a trip as it becomes active, before its action on the cells. -/
def tripTaken (i : Nat) (s : State) : State := tripLatched i (clrDropped i (tripCounted i s))

theorem tripActive_enabled {s : State} {i : Nat} (hstate : s.inState [.boot, .configure, .armed, .run, .safe] = true)
    (hen : s.bit (R.TRIP_CFG.EN i) = true) (hact : s.bit (R.TRIP_STAT.TRIPACT i) = false) :
    tripActive i s = tripActed i ((clrDropped i (tripCounted i s)).tripLatches i) (tripTaken i s) :=
  if_pos (by simp [hstate, hen, hact])

section
variable {f : Fld} {i : Nat}

theorem tripCounted_get (hi : i < 8) (hf : TripKey f.key) (s : State) :
    (tripCounted i s).get f = (((s.set (R.TRIP_STAT.TRIPACT i) 1).inc (R.TRIP_STAT.CNT i)).inc (R.TRIP_STAT.TOTAL i)).get f :=
  raise_tripEvent_get hi hf _

theorem clrDropped_get (hf : TripKey f.key) (hne : (R.TRIP_STAT.CLR_PENDING i).key ≠ f.key) (s : State) : (clrDropped i s).get f = s.get f := by
  unfold clrDropped
  split
  · rw [tripRecovery_refused_get, raise_clrRefused_get hf, State.get_set_of_ne s 0 hne]
  · rfl

theorem tripLatched_get (hi : i < 8) (hf : TripKey f.key) (hne : (R.TRIP_STAT.LATCHED i).key ≠ f.key) (s : State) :
    (tripLatched i s).get f = s.get f := by
  unfold tripLatched
  split
  · rw [raise_tripLatched_get hi hf, State.get_set_of_ne s 1 hne]
  · rfl

end

/-- A field of a trip's status word. -/
theorem tripStat_tripKey {f : Fld} {i : Nat} (hi : i < 8) (haddr : f.addr = 0x60108 + 0x10 * i) (hlo : f.lo < 32) : TripKey f.key := by
  unfold TripKey Fld.key
  omega

/-- What a trip that becomes active writes in its status word. -/
def tripFields (i : Nat) : List Fld :=
  [R.TRIP_STAT.TRIPACT i, R.TRIP_STAT.CNT i, R.TRIP_STAT.TOTAL i, R.TRIP_STAT.CLR_PENDING i, R.TRIP_STAT.LATCHED i]

theorem tripTaken_tripSets {i : Nat} (hi : i < 8) (s : State) : TripSets s (tripTaken i s) (tripFields i) := by
  intro f hf hout
  simp only [tripFields, List.map_cons, List.map_nil, List.mem_cons, List.not_mem_nil, or_false, not_or] at hout
  obtain ⟨hact, hcnt, htotal, hclr, hlatch⟩ := hout
  rw [tripTaken, tripLatched_get hi hf (Ne.symm hlatch), clrDropped_get hf (Ne.symm hclr), tripCounted_get hi hf,
    State.get_inc_of_ne _ (Ne.symm htotal), State.get_inc_of_ne _ (Ne.symm hcnt), State.get_set_of_ne s 1 (Ne.symm hact)]

theorem tripTaken_tripCells {i : Nat} (hi : i < 8) (s : State) : (tripTaken i s).tripCells i = s.tripCells i := by
  refine (tripTaken_tripSets hi s).tripCells hi fun f hf => ?_
  simp only [tripFields, List.mem_cons, List.not_mem_nil, or_false] at hf
  rcases hf with rfl | rfl | rfl | rfl | rfl <;>
    simp only [Fld.key, R.TRIP_STAT.TRIPACT, R.TRIP_STAT.CNT, R.TRIP_STAT.TOTAL, R.TRIP_STAT.CLR_PENDING, R.TRIP_STAT.LATCHED, R.TRIP_CFG.STRINGS] <;>
    omega

theorem tripTaken_tripAct {i : Nat} (hi : i < 8) (s : State) : (tripTaken i s).get (R.TRIP_STAT.TRIPACT i) = 1 := by
  have hkey := tripStat_tripKey (f := R.TRIP_STAT.TRIPACT i) hi rfl (show 31 < 32 by decide)
  rw [tripTaken, tripLatched_get hi hkey (Fld.key_ne_of_apart rfl), clrDropped_get hkey (Fld.key_ne_of_apart rfl), tripCounted_get hi hkey,
    State.get_inc_apart _ rfl, State.get_inc_apart _ rfl, State.get_set_self]
  rfl

theorem tripTaken_total {i : Nat} (hi : i < 8) (s : State) :
    (tripTaken i s).get (R.TRIP_STAT.TOTAL i) = min (2 ^ (R.TRIP_STAT.TOTAL i).width - 1) (s.get (R.TRIP_STAT.TOTAL i) + 1) := by
  have hkey := tripStat_tripKey (f := R.TRIP_STAT.TOTAL i) hi rfl (show 0 < 32 by decide)
  rw [tripTaken, tripLatched_get hi hkey (Fld.key_ne_of_apart rfl), clrDropped_get hkey (Fld.key_ne_of_apart rfl), tripCounted_get hi hkey,
    State.get_inc_self, State.get_inc_apart _ rfl, State.get_set_apart _ _ rfl]

theorem clrDropped_clrPending {i : Nat} (hi : i < 8) (s : State) : (clrDropped i s).get (R.TRIP_STAT.CLR_PENDING i) = 0 := by
  unfold clrDropped
  split
  · rw [tripRecovery_refused_get, raise_clrRefused_get (tripStat_tripKey hi rfl (show 29 < 32 by decide)), State.get_set_self]
    rfl
  · next h => exact State.get_of_bit_false (Bool.not_eq_true _ ▸ h)

theorem tripTaken_clrPending {i : Nat} (hi : i < 8) (s : State) : (tripTaken i s).get (R.TRIP_STAT.CLR_PENDING i) = 0 := by
  rw [tripTaken, tripLatched_get hi (tripStat_tripKey hi rfl (show 29 < 32 by decide)) (Fld.key_ne_of_apart rfl), clrDropped_clrPending hi]

/-- At N the trip is latched, newly or from before (R248). -/
theorem tripLatched_latched {s : State} {i : Nat} (hi : i < 8) (hen : s.bit (R.TRIP_CFG.LATCH_EN i) = true)
    (hcnt : s.get (R.TRIP_CFG.N i) ≤ s.get (R.TRIP_STAT.CNT i)) : (tripLatched i s).get (R.TRIP_STAT.LATCHED i) = 1 := by
  unfold tripLatched
  cases hlatched : s.bit (R.TRIP_STAT.LATCHED i)
  · have hlatches : s.tripLatches i = true := by simp [State.tripLatches, hen, hcnt, hlatched]
    rw [if_pos hlatches, raise_tripLatched_get hi (tripStat_tripKey hi rfl (show 30 < 32 by decide)), State.get_set_self]
    rfl
  · have hlatches : s.tripLatches i = false := by simp [State.tripLatches, hlatched]
    have hlt : s.get (R.TRIP_STAT.LATCHED i) < 2 := s.get_lt (R.TRIP_STAT.LATCHED i)
    have hne : s.get (R.TRIP_STAT.LATCHED i) ≠ 0 := by simpa [State.bit] using hlatched
    rw [if_neg (by simp [hlatches])]
    omega

theorem tripTaken_latched {s : State} {i : Nat} (hi : i < 8) (hen : s.bit (R.TRIP_CFG.LATCH_EN i) = true)
    (hcnt : s.get (R.TRIP_CFG.N i) ≤ s.get (R.TRIP_STAT.CNT i)) : (tripTaken i s).get (R.TRIP_STAT.LATCHED i) = 1 := by
  have hcfg : ∀ f : Fld, f.addr = 0x60100 + 0x10 * i → f.lo < 32 → (clrDropped i (tripCounted i s)).get f = s.get f := fun f haddr hlo => by
    have hkey : TripKey f.key := .inl (by unfold Fld.key; omega)
    have hne : ∀ g : Fld, g.addr = 0x60108 + 0x10 * i → g.lo < 32 → g.key ≠ f.key := fun g hg hglo => by unfold Fld.key; omega
    rw [clrDropped_get hkey (hne _ rfl (show 29 < 32 by decide)), tripCounted_get hi hkey, State.get_inc_of_ne _ (hne _ rfl (show 0 < 32 by decide)),
      State.get_inc_of_ne _ (hne _ rfl (show 16 < 32 by decide)), State.get_set_of_ne _ _ (hne _ rfl (show 31 < 32 by decide))]
  have hcount : (clrDropped i (tripCounted i s)).get (R.TRIP_STAT.CNT i) = min 255 (s.get (R.TRIP_STAT.CNT i) + 1) := by
    have hkey := tripStat_tripKey (f := R.TRIP_STAT.CNT i) hi rfl (show 16 < 32 by decide)
    rw [clrDropped_get hkey (Fld.key_ne_of_apart rfl), tripCounted_get hi hkey, State.get_inc_apart _ rfl, State.get_inc_self,
      State.get_set_apart _ _ rfl]
    rfl
  have hn : s.get (R.TRIP_CFG.N i) < 256 := s.get_lt (R.TRIP_CFG.N i)
  refine tripLatched_latched hi ?_ ?_
  · rw [State.bit, hcfg (R.TRIP_CFG.LATCH_EN i) rfl (show 11 < 32 by decide)]; exact hen
  · rw [hcount, hcfg (R.TRIP_CFG.N i) rfl (show 20 < 32 by decide)]; omega

/-! ### The action of a trip on its cells, R247 -/

section
variable {f : Fld} (mask : Nat) (soft all latched : Bool)

theorem tripLeg_get (hf : ∀ l, (R.LEG_STAT.TRIP_HELD l).apart f = true) (l : Nat) (s : State) : (tripLeg all l s).get f = s.get f :=
  State.get_set_apart (s.modLeg l _) 1 (hf l)

theorem tripCell_get (hf : ∀ l, (R.LEG_STAT.TRIP_HELD l).apart f = true) (n : Nat) (s : State) :
    (tripCell mask soft all latched n s).get f = s.get f :=
  (State.each_get (fun i _ => tripLeg_get all hf (6 * n + i)) (requestUrgent n (.targeted (Nat.land mask (s.fitted n)) soft) s)).trans
    (State.get_of_regs (requestUrgent_regs_pw n _ s).1 f)

/-- A leg that a trip holds stays held while the trip takes legs (R247). -/
theorem tripLeg_held_of_held (j : Nat) {l : Nat} {s : State} (h : s.get (R.LEG_STAT.TRIP_HELD l) = 1) :
    (tripLeg all j s).get (R.LEG_STAT.TRIP_HELD l) = 1 := by
  by_cases hkey : (R.LEG_STAT.TRIP_HELD j).key = (R.LEG_STAT.TRIP_HELD l).key
  · have hj : j = l := by simp only [Fld.key, R.LEG_STAT.TRIP_HELD] at hkey; omega
    rw [hj]
    exact State.get_set_self _ (R.LEG_STAT.TRIP_HELD l) 1
  · exact (State.get_set_of_ne (s.modLeg j _) 1 hkey).trans h

theorem tripCell_held_of_held (n : Nat) {l : Nat} {s : State} (h : s.get (R.LEG_STAT.TRIP_HELD l) = 1) :
    (tripCell mask soft all latched n s).get (R.LEG_STAT.TRIP_HELD l) = 1 :=
  State.each_keeps (P := fun x => x.get (R.LEG_STAT.TRIP_HELD l) = 1) ((State.get_of_regs (requestUrgent_regs_pw n _ s).1 _).trans h)
    fun _ _ _ => tripLeg_held_of_held all _

theorem tripCell_held {j : Nat} (hj : j < 6) (n : Nat) (s : State) :
    (tripCell mask soft all latched n s).get (R.LEG_STAT.TRIP_HELD (6 * n + j)) = 1 :=
  State.each_sets (Q := fun x => x.get (R.LEG_STAT.TRIP_HELD (6 * n + j)) = 1) (List.mem_range.2 hj)
    (fun x => State.get_set_self (x.modLeg (6 * n + j) _) (R.LEG_STAT.TRIP_HELD (6 * n + j)) 1) fun _ _ _ => tripLeg_held_of_held all _

theorem cellsActed_get (hf : ∀ l, (R.LEG_STAT.TRIP_HELD l).apart f = true) (i : Nat) (s : State) :
    (cellsActed i mask soft all latched s).get f = s.get f := State.each_get (fun n _ => tripCell_get mask soft all latched hf n) s

theorem cellsActed_held_of_held (i : Nat) {l : Nat} {s : State} (h : s.get (R.LEG_STAT.TRIP_HELD l) = 1) :
    (cellsActed i mask soft all latched s).get (R.LEG_STAT.TRIP_HELD l) = 1 :=
  State.each_keeps (P := fun x => x.get (R.LEG_STAT.TRIP_HELD l) = 1) h fun n _ _ => tripCell_held_of_held mask soft all latched n

theorem cellsActed_held {s : State} {i n j : Nat} (hn : n ∈ s.tripCells i) (hj : j < 6) :
    (cellsActed i mask soft all latched s).get (R.LEG_STAT.TRIP_HELD (6 * n + j)) = 1 :=
  State.each_sets (Q := fun x => x.get (R.LEG_STAT.TRIP_HELD (6 * n + j)) = 1) hn (tripCell_held mask soft all latched hj n)
    fun m _ _ => tripCell_held_of_held mask soft all latched m

end

/-- The cells are acted on once, or a second time with all their gates. -/
theorem tripActed_cases (i : Nat) (latch : Bool) (s : State) :
    ∃ mask soft all latched t, t = cellsActed i mask soft all latched s ∧
      (tripActed i latch s = t ∨ ∃ soft', tripActed i latch s = cellsActed i 0xFFF soft' true true t) := by
  unfold tripActed
  extract_lets t
  refine ⟨_, _, _, _, t, rfl, ?_⟩
  split
  · exact .inr ⟨_, rfl⟩
  · exact .inl rfl

theorem tripActed_get {f : Fld} (hf : ∀ l, (R.LEG_STAT.TRIP_HELD l).apart f = true) (i : Nat) (latch : Bool) (s : State) :
    (tripActed i latch s).get f = s.get f := by
  obtain ⟨mask, soft, all, latched, t, rfl, hacted | ⟨soft', hacted⟩⟩ := tripActed_cases i latch s
  · rw [hacted, cellsActed_get mask soft all latched hf]
  · rw [hacted, cellsActed_get 0xFFF soft' true true hf, cellsActed_get mask soft all latched hf]

theorem tripActed_held {s : State} {i n j : Nat} (hn : n ∈ s.tripCells i) (hj : j < 6) (latch : Bool) :
    (tripActed i latch s).get (R.LEG_STAT.TRIP_HELD (6 * n + j)) = 1 := by
  obtain ⟨mask, soft, all, latched, t, rfl, hacted | ⟨soft', hacted⟩⟩ := tripActed_cases i latch s
  · rw [hacted]; exact cellsActed_held mask soft all latched hn hj
  · rw [hacted]; exact cellsActed_held_of_held 0xFFF soft' true true i (cellsActed_held mask soft all latched hn hj)

/-! ### A CLR that ends, R250 -/

theorem tripRecovery_unasked {s : State} {i : Nat} (h : s.fc.trips = []) (ok : Bool) : tripRecovery i ok s = s := if_neg (by simp [h])

/-- The latch and the count of a trip are cleared. -/
def latchCleared (i : Nat) (s : State) : State :=
  ((s.set (R.TRIP_STAT.CLR_PENDING i) 0).set (R.TRIP_STAT.LATCHED i) 0).set (R.TRIP_STAT.CNT i) 0

theorem latchCleared_holds (i : Nat) (s : State) :
    (latchCleared i s).get (R.TRIP_STAT.CLR_PENDING i) = 0 ∧ (latchCleared i s).get (R.TRIP_STAT.LATCHED i) = 0
      ∧ (latchCleared i s).get (R.TRIP_STAT.CNT i) = 0 := by
  refine ⟨?_, ?_, State.get_set_self _ (R.TRIP_STAT.CNT i) 0⟩
  · rw [latchCleared, State.get_set_apart _ _ rfl, State.get_set_apart _ _ rfl, State.get_set_self]; rfl
  · rw [latchCleared, State.get_set_apart _ _ rfl, State.get_set_self]; rfl

theorem latchCleared_onlyRegs (i : Nat) (s : State) :
    OnlyRegs s (latchCleared i s) [R.TRIP_STAT.CLR_PENDING i, R.TRIP_STAT.LATCHED i, R.TRIP_STAT.CNT i] :=
  (((OnlyRegs.of_regs rfl _).set 0 (by simp)).set 0 (by simp)).set 0 (by simp)

theorem latchCleared_tripCells (i : Nat) (s : State) : (latchCleared i s).tripCells i = s.tripCells i := by
  have hget : ∀ f : Fld, f.lo = 0 → (latchCleared i s).get f = s.get f := fun f hlo => by
    refine (latchCleared_onlyRegs i s).get_apart ?_
    simp [Fld.apart, hlo, R.TRIP_STAT.CLR_PENDING, R.TRIP_STAT.LATCHED, R.TRIP_STAT.CNT]
  refine State.tripCells_congr (hget _ rfl) fun g _ => ?_
  rw [State.members, State.members, State.get64, State.get64, hget _ rfl, hget _ rfl]

/-- A trip without cells, whose CLR recovery did not ask for, is cleared by its registers alone. -/
theorem tripCleared_alone {s : State} {i : Nat} (hpend : s.bit (R.TRIP_STAT.CLR_PENDING i) = true) (hact : s.bit (R.TRIP_STAT.TRIPACT i) = false)
    (htrips : s.fc.trips = []) (hcells : s.tripCells i = []) : tripCleared i s = latchCleared i s := by
  have hcells' : (latchCleared i s).tripCells i = [] := (latchCleared_tripCells i s).trans hcells
  have hrecovery : tripRecovery i true (((s.set (R.TRIP_STAT.CLR_PENDING i) 0).set (R.TRIP_STAT.LATCHED i) 0).set (R.TRIP_STAT.CNT i) 0) =
      latchCleared i s := tripRecovery_unasked (s := latchCleared i s) htrips true
  simp only [tripCleared, hpend, hact, hrecovery, hcells', Bool.not_false, Bool.and_self, if_true, State.each_nil, ite_self]

/-! ### Commands -/

theorem exec_groupCommitWrite (v : Nat) (s : State) : exec (.groupCommitWrite v) s = .next (commitGroups v s) := rfl
theorem exec_edgeHandover (n : Fin 64) (s : State) : exec (.edgeHandover n) s = .next (handOver n s) := rfl
theorem exec_tripActive (i : Fin 8) (s : State) : exec (.tripActive i) s = .next (tripActive i s) := rfl
theorem exec_tripInactive (i : Fin 8) (s : State) : exec (.tripInactive i) s = .next (s.set (R.TRIP_STAT.TRIPACT i) 0) := rfl
theorem exec_tripClr (i : Fin 8) (s : State) : exec (.tripClr i) s = .next (tripClr i s) := rfl
theorem exec_tripClearComplete (i : Fin 8) (s : State) : exec (.tripClearComplete i) s = .next (tripCleared i s) := rfl

theorem exec_tripRearm_inactive {i : Fin 8} {s : State} (h : s.bit (R.TRIP_STAT.TRIPACT i) = false) :
    exec (.tripRearm i) s = .next (s.set (R.TRIP_STAT.CNT i) 0) := congrArg Host.Outcome.next (if_neg (by simp [h]))

/-- Settles O15: a COMMIT by `commitGroups_pend`, the hand-over of one pulse by `handOver_clear` and `gateEdges_pulse`, a trip by the registers it takes
(`tripTaken`) and its action on the cells (`tripActed_held`), and the end of a CLR by `tripCleared_alone`. -/
theorem commitsEdgesAndTrips : Obligations.CommitsEdgesAndTrips := by
  unfold Obligations.CommitsEdgesAndTrips
  refine ⟨?commit, ?edges, ?active, ?inactive, ?rearm, ?clr, ?refused, ?cleared⟩
  case commit => exact fun s v => ⟨_, exec_groupCommitWrite v s, fun g hg => commitGroups_pend hg v s, commitGroups_frame v s⟩
  case edges =>
    intro s n a b w hdriven hsent hstate htick hw hstart hlen hend hhi hlo hlegs hfit hoff htrip habort hlevels
    have hplans : ∀ g, 0 < g → g < 12 → s.gatePlan n g = [] := fun g hpos hlt => by
      unfold State.gatePlan
      by_cases hg : g = 1
      · subst hg; exact hlo
      · obtain ⟨hhi, hlo⟩ := hlegs (g / 2) (by omega) (by omega)
        rw [hhi, hlo, ite_self]
    have hfirst : gateEdges s n w (w + 1024) 0 = [⟨0, true, (a : Int) - w⟩, ⟨0, false, (b : Int) - w⟩] := by
      refine gateEdges_pulse (fun t => ?_) (planPoints_pulse hhi hlo hstart hlen hend) (by simp [hlevels, bitAt]) hstart hlen
      rw [commanded_free hfit hoff htrip habort]
      exact congrArg (planOn · t) hhi
    have hcell := cellEdges_pulse hfirst hplans hlevels
    have hlow : ∀ i, i < 6 → (s.leg (6 * n.val + i)).lo = [] := fun i hi => by
      rcases Nat.eq_zero_or_pos i with rfl | hpos
      · exact hlo
      · exact (hlegs i hi hpos).2
    rw [hw] at hcell
    rw [exec_edgeHandover, handOver_clear hdriven hsent hstate htick hlow (by rw [hcell]; show 2 ≤ 12; decide), hcell]
    refine ⟨_, rfl, ?_, rfl⟩
    rw [edgesTaken, State.link_modLink_self, sortEdges_pair (by show (a : Int) - _ < (b : Int) - _; omega), hw]
    rfl
  case active =>
    intro s i hstate hen hact
    rw [exec_tripActive, tripActive_enabled hstate hen hact]
    refine ⟨_, rfl, ?_, ?_, ?_, fun n hn j hj => ?_, fun hlatch hcnt => ?_⟩
    · rw [tripActed_get fun _ => rfl, tripTaken_tripAct i.isLt]
    · rw [tripActed_get fun _ => rfl, tripTaken_total i.isLt]
    · rw [tripActed_get fun _ => rfl, tripTaken_clrPending i.isLt]
    · exact tripActed_held (by rw [tripTaken_tripCells i.isLt]; exact hn) hj _
    · rw [tripActed_get fun _ => rfl, tripTaken_latched i.isLt hlatch hcnt]
  case inactive =>
    exact fun s i => ⟨_, exec_tripInactive i s, State.get_set_self s (R.TRIP_STAT.TRIPACT i) 0, (OnlySets.refl s _).set 0 (by simp)⟩
  case rearm =>
    exact fun s i hact => ⟨_, exec_tripRearm_inactive hact, State.get_set_self s (R.TRIP_STAT.CNT i) 0, (OnlySets.refl s _).set 0 (by simp)⟩
  case clr =>
    intro s i hact
    have hclr : tripClr i s = s.set (R.TRIP_STAT.CLR_PENDING i) 1 := if_neg (by simp [hact])
    rw [exec_tripClr, hclr]
    exact ⟨_, rfl, State.get_set_self s (R.TRIP_STAT.CLR_PENDING i) 1, (OnlySets.refl s _).set 1 (by simp)⟩
  case refused => exact fun s i hact => congrArg Host.Outcome.next (if_pos hact)
  case cleared =>
    intro s i hpend hact htrips hcells
    obtain ⟨hclr, hlatch, hcnt⟩ := latchCleared_holds i s
    rw [exec_tripClearComplete, tripCleared_alone hpend hact htrips hcells]
    exact ⟨_, rfl, hclr, hlatch, hcnt, latchCleared_onlyRegs i s⟩

end Sys2Proof.Machine
end

section
/-!
PROOFS. What reports to the collector leave of the links in every device state: everything but the urgent sets that wait and the levels they bring about.
-/
namespace Sys2Proof.Machine

/-! ### Reports that are not Black leave the links, R434 to R449 -/

@[simp] theorem raiseLeaf_links (r : Src) (s : State) : (raiseLeaf r s).1.links = s.links := by
  unfold raiseLeaf
  split
  · rfl
  · unfold setLeaf
    dsimp only
    split_ifs <;> rfl

@[simp] theorem sendTo_links (typ chan dest : Nat) (b : List Byte) (s : State) : (sendTo typ chan dest b s).1.links = s.links := by
  simp only [sendTo]
  split
  · rfl
  · split
    · rfl
    · exact raiseLeaf_links _ _

@[simp] theorem enqueue_links (r : Rec) (s : State) : (enqueue r s).1.links = s.links := by
  unfold enqueue
  split
  · exact raiseLeaf_links _ _
  · rfl

@[simp] theorem flush_links (b : Bool) (s : State) : (flush b s).1.links = s.links := by
  simp only [flush]
  split
  · rfl
  · split
    · split
      · rfl
      · exact enqueue_links _ _
    · rfl

@[simp] theorem settle_links (b : Bool) (s : State) : (settle b s).1.links = s.links := by
  simp only [settle]
  split
  · rfl
  · split
    · exact flush_links b s
    · rfl

@[simp] theorem post_links (r : Rec) (s : State) : (post r s).1.links = s.links := by
  unfold post
  dsimp only
  split
  · rw [State.inc_links]
    split
    · rfl
    · exact settle_links _ s
  · rw [enqueue_links]
    split <;> rfl

@[simp] theorem postEmcy_links (origin b i inst info tsc : Nat) (s : State) : (postEmcy origin b i inst info tsc s).1.links = s.links := by
  unfold postEmcy
  split
  · exact raiseLeaf_links _ s
  · rfl

@[simp] theorem groupFirst_links (loc : Bool) (origin source gt : Nat) (s : State) : (groupFirst loc origin source gt s).links = s.links := by
  unfold groupFirst
  dsimp only
  split
  · show State.links (if _ then _ else _) = _
    split <;> rfl
  · rfl

@[simp] theorem openWin_links (w c b : Nat) (s : State) : (openWin w c b s).links = s.links := by
  unfold openWin
  dsimp only [State.set_links]
  split <;> rfl

@[simp] theorem tellGroup_links (r : ReportArg) (c : Nat) (obs : Bool) (s : State) : (tellGroup r c obs s).links = s.links := by
  unfold tellGroup
  split
  · exact groupFirst_links ..
  · rfl

@[simp] theorem capture_links (r : ReportArg) (c : Nat) (obs inj : Bool) (s : State) : (capture r c obs inj s).1.links = s.links := by
  unfold capture
  extract_lets x info rc
  have hx : x.links = s.links := tellGroup_links r c obs _
  have hpost : (post rc x).1.links = s.links := (post_links rc x).trans hx
  dsimp only
  split
  · split
    · exact (postEmcy_links ..).trans hpost
    · exact hpost
  · exact (sendTo_links ..).trans hpost

@[simp] theorem reheld_links (b : Nat) (s : State) : (reheld b s).links = s.links := by
  unfold reheld
  dsimp only [State.modCyc_links, State.set_links]
  split <;> rfl

@[simp] theorem keepReport_links (r : ReportArg) (c : Nat) (s : State) : (keepReport r c s).1.links = s.links := by
  unfold keepReport
  extract_lets n freed x held replace
  have hx : x.links = s.links := by
    show (if freed then reheld r.block s else s).links = s.links
    split
    · exact reheld_links r.block s
    · rfl
  split
  · exact (capture_links ..).trans hx
  · exact hx

@[simp] theorem judgeReport_links (r : ReportArg) (c w : Nat) (s : State) : (judgeReport r c w s).1.links = s.links := by
  have hopen : ∀ (q : Bool) (v : Nat) (x : State), (if q then openWin v c r.block x else x).links = x.links := by
    intro q v x
    split
    · exact openWin_links v c _ x
    · rfl
  unfold judgeReport
  dsimp only
  exact (hopen _ 8 _).trans ((hopen _ w _).trans (keepReport_links r c s))

@[simp] theorem joinReport_links (r : ReportArg) (s : State) : (joinReport r s).links = s.links := by
  unfold joinReport
  dsimp only
  split_ifs <;> rfl

@[simp] theorem parkCells_links (s : State) : (parkCells s).links = s.links := by
  unfold parkCells
  extract_lets x
  have hx : x.links = s.links := State.each_keeps (P := fun y => y.links = s.links) rfl fun _ _ _ hy => hy
  refine State.each_keeps (P := fun y => y.links = s.links) hx fun n _ y hy => ?_
  dsimp only
  split <;> exact hy

@[simp] theorem enterSafe_links (s : State) : (enterSafe s).1.links = s.links := by
  have hstop : ∀ x, (stopInjection x).1.links = x.links := by
    intro x
    unfold stopInjection
    split
    · exact raiseLeaf_links _ _
    · rfl
  unfold enterSafe phasorStart
  rw [hstop, State.modMet_links, State.set_links, parkCells_links, State.set_links]

/-! ### A Black report asks for urgent sets, R447 -/

/-- The record of a link without its urgent sets and their levels (R32, R264). -/
def LinkSt.calm (l : LinkSt) : LinkSt := { l with urgQ := [], levels := 0, muted := 0 }

/-- The links of `t` are those of `s` but for urgent sets. -/
def LinksCalm (s t : State) : Prop := ∀ n, (t.link n).calm = (s.link n).calm

theorem LinksCalm.refl (s : State) : LinksCalm s s := fun _ => rfl
theorem LinksCalm.trans {s t u : State} (h : LinksCalm s t) (k : LinksCalm t u) : LinksCalm s u := fun n => (k n).trans (h n)
theorem LinksCalm.of_links {s t : State} (h : t.links = s.links) : LinksCalm s t := fun n => by rw [State.link_of_links h]

theorem LinksCalm.edges {s t : State} (h : LinksCalm s t) (n : Nat) : (t.link n).edges = (s.link n).edges := by
  simpa [LinkSt.calm] using congrArg LinkSt.edges (h n)

theorem LinksCalm.fitted {s t : State} (h : LinksCalm s t) (n : Nat) : t.fitted n = s.fitted n := by
  simpa [LinkSt.calm, State.fitted] using congrArg (fun l => descGates l.desc) (h n)

theorem requestUrgent_calm (m : Nat) (u : Urgent) (s : State) : LinksCalm s (requestUrgent m u s) := by
  intro n
  unfold requestUrgent
  split
  · rw [State.link_modLink]
    split
    · subst m; rfl
    · rfl
  · rfl

theorem State.each_calm {α : Type} {l : List α} {f : α → State → State} (hf : ∀ a x, LinksCalm x (f a x)) (s : State) : LinksCalm s (s.each l f) :=
  State.each_keeps (P := LinksCalm s) (.refl s) fun a _ x hx => hx.trans (hf a x)

theorem blackActions_calm (s : State) : LinksCalm s (blackActions s).1 := by
  have henter : (if s.inState [.armed, .run] then enterSafe s else (parkCells s, [])).1.links = s.links := by
    split
    · exact enterSafe_links s
    · dsimp only
      exact parkCells_links s
  unfold blackActions
  generalize (if s.inState [.armed, .run] then enterSafe s else (parkCells s, [])) = p at henter
  have hurgent : LinksCalm s (p.1.each lanes64 fun n x => requestUrgent n .black x) :=
    (LinksCalm.of_links henter).trans (State.each_calm (fun n x => requestUrgent_calm n .black x) p.1)
  dsimp only
  exact hurgent.trans (.of_links (by rw [State.modCyc_links, State.set_links, State.set_links, State.set_links]))

theorem takeOne_calm (r : ReportArg) (s : State) : LinksCalm s (takeOne r s).1 := by
  unfold takeOne
  extract_lets c w fc x consW
  generalize hq : (if x.joins r then (joinReport r x, [])
      else if consW || x.winHolds 8 c then (x.inc (R.FC_WIN.CONSEQ (if consW then w else 8)), []) else judgeReport r c w x) = p
  have hp : p.1.links = s.links := by
    rw [← hq]
    split
    · exact joinReport_links r x
    · split
      · rfl
      · exact judgeReport_links r c w x
  obtain ⟨y, l⟩ := p
  have htaken : LinksCalm s (y.modCyc fun x => { x with taken := r :: x.taken }) := .of_links hp
  dsimp only
  split
  · exact htaken.trans (blackActions_calm _)
  · exact htaken

theorem takeAll_calm (k : Nat) (l : List ReportArg) (s : State) : LinksCalm s (takeAll k l s) := by
  induction k generalizing l s with
  | zero => exact .refl s
  | succ k ih =>
    cases l with
    | nil => exact .refl s
    | cons r rs => exact (takeOne_calm r s).trans (ih _ _)

theorem raiseLeaves_links (l : List Src) (s : State) : (raiseLeaves l s).1.links = s.links := by
  induction l generalizing s with
  | nil => rfl
  | cons r l ih => exact (ih _).trans (raiseLeaf_links r s)

/-- All that events of one core cycle do to the links (R434). -/
theorem raiseAll_calm (l : List Src) (s : State) : LinksCalm s (raiseAll l s) :=
  (LinksCalm.of_links (raiseLeaves_links l s)).trans (takeAll_calm _ _ _)

end Sys2Proof.Machine
end

section
/-!
PROOFS. Gate supervision of a cell (09_gate_supervision.md, R258 to R277), part 1: what the records and reports of the supervisor leave of its decisions.
-/
namespace Sys2Proof.Machine

/-! ### What records and reports leave -/

/-- The place of a field in a word that the records of the supervisor, its close command or a report may write: those of reports, the strings' and the
collector's words, LAST_CELL, GSC_CAUSE, GSC_COUNTS, GSC_FIRST, and BYPASS_REQ. -/
abbrev RecordKey (k : Nat) : Prop :=
  ReportKey k ∨ 0x80110 ≤ k / 32 ∨ k / 32 = 0x70000
    ∨ (0x70100 ≤ k / 32 ∧ k / 32 < 0x70900 ∧ (k / 32 % 32 = 12 ∨ k / 32 % 32 = 16 ∨ k / 32 % 32 = 24 ∨ k % 1024 = 8 * 32 + 29))

/-- The decisions of the supervisor stand from `s` to `t`: its timers and clears, the links but for urgent sets, the time, and the registers but for records. -/
structure Decided (s t : State) : Prop where
  ts : t.ts = s.ts
  gates : t.gates = s.gates
  links : LinksCalm s t
  get : ∀ f : Fld, ¬ RecordKey f.key → t.get f = s.get f

theorem Decided.refl (s : State) : Decided s s := ⟨rfl, rfl, .refl s, fun _ _ => rfl⟩

theorem Decided.trans {s t u : State} (h : Decided s t) (k : Decided t u) : Decided s u :=
  ⟨k.ts.trans h.ts, k.gates.trans h.gates, h.links.trans k.links, fun f hf => (k.get f hf).trans (h.get f hf)⟩

theorem Decided.of {s t : State} (hregs : t.regs = s.regs) (hts : t.ts = s.ts) (hgates : t.gates = s.gates) (hlinks : t.links = s.links) : Decided s t :=
  ⟨hts, hgates, .of_links hlinks, fun f _ => State.get_of_regs hregs f⟩

theorem Decided.ite {s a b : State} {c : Prop} [Decidable c] (ha : Decided s a) (hb : Decided s b) : Decided s (if c then a else b) := by
  split <;> assumption

theorem Decided.each {α : Type} {s : State} {l : List α} {f : α → State → State} (hf : ∀ a ∈ l, ∀ x, Decided x (f a x)) : Decided s (s.each l f) :=
  State.each_keeps (P := Decided s) (.refl s) fun a ha x hx => hx.trans (hf a ha x)

theorem Decided.gate {s t : State} (h : Decided s t) (n : Nat) : t.gate n = s.gate n := State.gate_of_gates h.gates n
theorem Decided.frame {s t : State} (h : Decided s t) : t.frame = s.frame := State.frame_of_ts h.ts

theorem set_decided {f : Fld} (hf : RecordKey f.key) (v : Nat) (s : State) : Decided s (s.set f v) :=
  ⟨rfl, rfl, .of_links rfl, fun _ hg => State.get_set_outside hg hf s v⟩

theorem inc_decided {f : Fld} (hf : RecordKey f.key) (s : State) : Decided s (s.inc f) :=
  ⟨rfl, rfl, .of_links rfl, fun _ hg => State.get_set_outside hg hf s _⟩

/-- Reports of sources whose leaves are records. -/
theorem raiseAll_decided {l : List Src} (hl : ∀ r ∈ l, r.block ≤ 16 ∧ ∀ g, leafOf r = some g → RecordKey g.key) (s : State) :
    Decided s (raiseAll l s) := by
  have hreported := raiseAll_reported l s
  refine ⟨hreported.ts, hreported.gates, raiseAll_calm l s, fun f hf => raiseAll_get (fun h => hf (.inl h)) (fun r hr => ?_) s⟩
  obtain ⟨hblock, hleaf⟩ := hl r hr
  exact ⟨hblock, fun g hg e => hf (e ▸ hleaf g hg)⟩

theorem raise_decided {r : Src} {f : Fld} (hblock : r.block ≤ 16) (hleaf : leafOf r = some f) (hf : RecordKey f.key) (s : State) :
    Decided s (raise r s) :=
  raiseAll_decided (fun _ hx => List.mem_singleton.1 hx ▸ ⟨hblock, fun _ hg => Option.some.inj (hleaf.symm.trans hg) ▸ hf⟩) s

theorem checkStrings_decided (s : State) : Decided s (checkStrings s) := by
  unfold checkStrings
  refine Decided.each fun t _ x => ?_
  extract_lets act u r short low old y l
  have hy : Decided x y := .of rfl rfl rfl rfl
  refine hy.trans (raiseAll_decided (fun r hr => ?_) y)
  have hsrc : r = Src.STR_STRING_SHORT t ∨ r = Src.STR_RESERVE_LOW t := by
    simp only [l, List.mem_append, List.mem_ite_nil_right, List.mem_singleton] at hr
    exact hr.imp And.right And.right
  rcases hsrc with rfl | rfl
  · refine ⟨show 8 ≤ 16 by decide, fun g hg => ?_⟩
    cases hg
    exact .inr (.inl (by simp only [Fld.key, R.STR_CAUSE.STRING_SHORT]; omega))
  · refine ⟨show 8 ≤ 16 by decide, fun g hg => ?_⟩
    cases hg
    exact .inr (.inl (by simp only [Fld.key, R.STR_CAUSE.RESERVE_LOW]; omega))

/-- A clear that recovery asked for and that fails leaves the cell as it is (R453). -/
theorem cellRecovery_refused_decided (n : Nat) (s : State) : Decided s (cellRecovery n false s) := by
  unfold cellRecovery
  extract_lets l x
  have hx : Decided s x := .of rfl rfl rfl rfl
  refine hx.trans (Decided.each fun b _ y => ?_)
  exact .of rfl rfl rfl rfl

/-- GSC_CFG of cell `n`, and GSC_STAT but for BYPASS_REQ, hold no record. -/
theorem not_recordKey_of_cell {f : Fld} {n : Nat} (hn : n < 64) (hlo : f.lo < 32)
    (haddr : f.addr = 0x70100 + 0x20 * n ∨ (f.addr = 0x70108 + 0x20 * n ∧ f.lo ≠ 29)) : ¬ RecordKey f.key := by
  simp only [RecordKey, ReportKey, Fld.key, O.RUN_REQUEST, obj, List.mem_cons, List.not_mem_nil, or_false]
  omega

/-- A field of GSC_CAUSE, GSC_COUNTS or GSC_FIRST of cell `n`, or its BYPASS_REQ. -/
theorem recordKey_of_cell {f : Fld} {n : Nat} (hn : n < 64) (hlo : f.lo < 32)
    (haddr : f.addr = 0x7010C + 0x20 * n ∨ f.addr = 0x70110 + 0x20 * n ∨ f.addr = 0x70118 + 0x20 * n ∨ (f.addr = 0x70108 + 0x20 * n ∧ f.lo = 29)) :
    RecordKey f.key := by
  refine .inr (.inr (.inr ?_))
  unfold Fld.key
  omega

section
variable {n : Nat} (hn : n < 64)
include hn

theorem supState_not_recordKey : ¬ RecordKey (R.GSC_STAT.STATE n).key :=
  not_recordKey_of_cell hn (show 30 < 32 by decide) (.inr ⟨rfl, show 30 ≠ 29 by decide⟩)
theorem offGates_not_recordKey : ¬ RecordKey (R.GSC_STAT.OFF_GATES n).key :=
  not_recordKey_of_cell hn (show 12 < 32 by decide) (.inr ⟨rfl, show 12 ≠ 29 by decide⟩)
theorem partnerDelay_not_recordKey : ¬ RecordKey (R.GSC_CFG.PARTNER_DELAY n).key := not_recordKey_of_cell hn (show 0 < 32 by decide) (.inl rfl)

theorem scarletRx_not_recordKey : ¬ RecordKey (R.LKN_COUNTS.SCARLET_RX n).key := by
  simp only [RecordKey, ReportKey, Fld.key, R.LKN_COUNTS.SCARLET_RX, O.RUN_REQUEST, obj, List.mem_cons, List.not_mem_nil, or_false]
  omega

/-- The first cause is a record (R280). -/
theorem noteFirst_decided (src gate cause : Nat) (s : State) : Decided s (noteFirst n src gate cause s) := by
  have hfirst : ∀ f : Fld, f.lo < 32 → f.addr = 0x70118 + 0x20 * n → ∀ v x, Decided x (x.set f v) :=
    fun f hlo haddr => set_decided (recordKey_of_cell hn hlo (.inr (.inr (.inl haddr))))
  have hsource := hfirst (R.GSC_FIRST.SOURCE n) (show 28 < 32 by decide) rfl src s
  have hgate := hfirst (R.GSC_FIRST.GATE n) (show 24 < 32 by decide) rfl gate (s.set (R.GSC_FIRST.SOURCE n) src)
  unfold noteFirst
  split
  · exact ((hsource.trans hgate).trans (hfirst (R.GSC_FIRST.CAUSE n) (show 16 < 32 by decide) rfl cause _)).trans
      (hfirst (R.GSC_FIRST.SEQ n) (show 8 < 32 by decide) rfl _ _)
  · exact .refl s

theorem closeCell_decided (s : State) : Decided s (closeCell n s) := by
  have hstate : RecordKey (R.BC_STAT.STATE n).key := .inr (.inl (by simp only [Fld.key, R.BC_STAT.STATE]; omega))
  have hsince : Decided s (s.modCell n (fun c => { c with since := s.frame + 1 })) := .of rfl rfl rfl rfl
  exact (hsince.trans (set_decided hstate 4 _)).trans (.of rfl rfl rfl rfl)

end

/-! ### STATE, R260 -/

/-- A cell takes its state in STATE; its number is recorded where it leaves MONITOR. -/
theorem setSup_eq (n st : Nat) (s : State) :
    setSup n st s = (if s.monitor n then s.set R.GS_STAT.LAST_CELL n else s).set (R.GSC_STAT.STATE n) st := rfl

theorem monitorLeft_decided (n : Nat) (s : State) : Decided s (if s.monitor n then s.set R.GS_STAT.LAST_CELL n else s) :=
  .ite (set_decided (.inr (.inr (.inl (by decide)))) n s) (.refl s)

theorem setSup_state (n st : Nat) (s : State) : (setSup n st s).get (R.GSC_STAT.STATE n) = st % 4 := State.get_set_self _ (R.GSC_STAT.STATE n) st

theorem setSup_get {n : Nat} {f : Fld} (hf : ¬ RecordKey f.key) (hne : (R.GSC_STAT.STATE n).key ≠ f.key) (st : Nat) (s : State) :
    (setSup n st s).get f = s.get f := by
  rw [setSup_eq, State.get_set_of_ne _ st hne, (monitorLeft_decided n s).get f hf]

end Sys2Proof.Machine
end

section
/-!
PROOFS. Gate supervision of a cell (09_gate_supervision.md, R258 to R277), part 2: how a cell enters ISOLATED, what a Scarlet set does on a lane in UP, the
sequence of an over-current, and clears.
-/
namespace Sys2Proof.Machine

/-! ### ISOLATED, R260 and R261 step 4 -/

/-- An entry to ISOLATED from another state is counted (R280). -/
def isolationCounted (n : Nat) (s : State) : State := if s.get (R.GSC_STAT.STATE n) == 2 then s else s.inc (R.GSC_COUNTS.ISOLATIONS n)

/-- The cell is in ISOLATED: its timer and its clear have ended, and the frame is noted. -/
def isolationEntered (n : Nat) (s : State) : State :=
  (setSup n 2 (isolationCounted n s)).modGate n (fun g => { g with timer := false, clearPhase := 0, isoAt := some (isolationCounted n s).frame })

/-- The close command goes out where a bypass field asks for it (R261 step 4). -/
def bypassAsked (n : Nat) (s : State) : State :=
  if s.asksBypass n then
    if (s.set (R.GSC_STAT.BYPASS_REQ n) 1).balState n == 2 || (s.set (R.GSC_STAT.BYPASS_REQ n) 1).balState n == 3 then
      closeCell n (s.set (R.GSC_STAT.BYPASS_REQ n) 1)
    else s.set (R.GSC_STAT.BYPASS_REQ n) 1
  else s

/-- A clear in progress fails (R277 step 5). -/
def clearFailed (n : Nat) (s : State) : State := cellRecovery n false (raise (Src.GSC_CLEAR_REFUSED n) s)

theorem isolate_eq (n : Nat) (s : State) :
    isolate n s = checkStrings (if s.get (R.GSC_STAT.STATE n) == 3 then clearFailed n (bypassAsked n (isolationEntered n s))
      else bypassAsked n (isolationEntered n s)) := rfl

/-- From `s` to `t` cell `n` enters ISOLATED, with the gates held off and the links as they were. -/
structure Isolates (n : Nat) (s t : State) : Prop where
  state : t.get (R.GSC_STAT.STATE n) = 2
  offGates : t.get (R.GSC_STAT.OFF_GATES n) = s.get (R.GSC_STAT.OFF_GATES n)
  gate : t.gate n = { s.gate n with timer := false, clearPhase := 0, isoAt := some s.frame }
  links : LinksCalm s t

theorem offGates_offGates (n mask : Nat) (s : State) :
    (offGates n mask s).get (R.GSC_STAT.OFF_GATES n) = Nat.lor (s.get (R.GSC_STAT.OFF_GATES n)) mask % 4096 :=
  State.get_set_self s (R.GSC_STAT.OFF_GATES n) _

theorem dropEdges_edges (n : Nat) (s : State) : ((dropEdges n s).link n).edges = [] := by rw [dropEdges, State.link_modLink_self]

/-- A Black set is asked for, every fitted gate is held off, and no edge of the cell waits (R262). -/
def blackHeld (n : Nat) (s : State) : State := holdWhole n (dropEdges n (offGates n (s.fitted n) (requestUrgent n .black s)))

theorem isolateBlack_eq (n : Nat) (s : State) : isolateBlack n s = isolate n (blackHeld n s) := rfl

section
variable {n : Nat} (hn : n < 64)
include hn

theorem isolationCounted_decided (s : State) : Decided s (isolationCounted n s) :=
  .ite (.refl s) (inc_decided (recordKey_of_cell hn (show 8 < 32 by decide) (.inr (.inl rfl))) s)

theorem bypassAsked_decided (s : State) : Decided s (bypassAsked n s) := by
  have hreq : Decided s (s.set (R.GSC_STAT.BYPASS_REQ n) 1) :=
    set_decided (recordKey_of_cell hn (show 29 < 32 by decide) (.inr (.inr (.inr ⟨rfl, rfl⟩)))) 1 s
  exact .ite (.ite (hreq.trans (closeCell_decided hn _)) hreq) (.refl s)

theorem raise_gscCause_decided {r : Src} {f : Fld} (hblock : r.block ≤ 16) (hleaf : leafOf r = some f) (hlo : f.lo < 32)
    (haddr : f.addr = 0x7010C + 0x20 * n) (s : State) : Decided s (raise r s) :=
  raise_decided hblock hleaf (recordKey_of_cell hn hlo (.inl haddr)) s

theorem clearFailed_decided (s : State) : Decided s (clearFailed n s) :=
  (raise_gscCause_decided (f := R.GSC_CAUSE.CLEAR_REFUSED n) hn (show 7 ≤ 16 by decide) rfl (show 10 < 32 by decide) rfl s).trans
    (cellRecovery_refused_decided n _)

/-- What follows the entry to ISOLATED leaves it. -/
theorem isolate_decided (s : State) : Decided (isolationEntered n s) (isolate n s) := by
  have hasked := bypassAsked_decided hn (isolationEntered n s)
  rw [isolate_eq]
  exact (Decided.ite (hasked.trans (clearFailed_decided hn _)) hasked).trans (checkStrings_decided _)

theorem isolate_isolates (s : State) : Isolates n s (isolate n s) := by
  have hcounted := isolationCounted_decided hn s
  have hend := isolate_decided hn s
  have hentered : (isolationEntered n s).gate n = { s.gate n with timer := false, clearPhase := 0, isoAt := some s.frame } := by
    rw [isolationEntered, State.gate_modGate_self, hcounted.frame]
    exact congrArg (fun g : GateSt => { g with timer := false, clearPhase := 0, isoAt := some s.frame })
      ((State.gate_of_gates ((monitorLeft_decided n _).gates) n).trans (hcounted.gate n))
  refine ⟨?_, ?_, ?_, ?_⟩
  · rw [hend.get _ (supState_not_recordKey hn), isolationEntered, State.modGate_get, setSup_state]
  · rw [hend.get _ (offGates_not_recordKey hn), isolationEntered, State.modGate_get,
      setSup_get (offGates_not_recordKey hn) (Fld.key_ne_of_apart rfl), hcounted.get _ (offGates_not_recordKey hn)]
  · rw [hend.gate, hentered]
  · have hsup : LinksCalm (isolationCounted n s) (isolationEntered n s) := (monitorLeft_decided n _).links
    exact (hcounted.links.trans hsup).trans hend.links

/-! ### A Black set in the decision cycle, R262 -/

omit hn in
theorem blackHeld_offGates (s : State) :
    (blackHeld n s).get (R.GSC_STAT.OFF_GATES n) = Nat.lor (s.get (R.GSC_STAT.OFF_GATES n)) (s.fitted n) % 4096 := by
  rw [blackHeld, holdWhole, State.modGate_get, dropEdges, State.modLink_get, offGates_offGates, State.get_of_regs (requestUrgent_regs_pw n .black s).1]

omit hn in
theorem blackHeld_edges (s : State) : ((blackHeld n s).link n).edges = [] := by
  rw [blackHeld, holdWhole, State.link_of_links (State.modGate_links ..), dropEdges_edges]

theorem isolateBlack_holds (s : State) :
    (isolateBlack n s).get (R.GSC_STAT.STATE n) = 2
      ∧ (isolateBlack n s).get (R.GSC_STAT.OFF_GATES n) = Nat.lor (s.get (R.GSC_STAT.OFF_GATES n)) (s.fitted n) % 4096
      ∧ ((isolateBlack n s).gate n).timer = false ∧ ((isolateBlack n s).link n).edges = [] := by
  have hiso := isolate_isolates hn (blackHeld n s)
  rw [isolateBlack_eq]
  exact ⟨hiso.state, hiso.offGates.trans (blackHeld_offGates s), congrArg GateSt.timer hiso.gate, (hiso.links.edges n).trans (blackHeld_edges s)⟩

/-! ### A Scarlet set is recognised, R261 to R263 -/

/-- The leaf of each kind of Scarlet set is one of GSC_CAUSE of the cell (R281). -/
theorem raise_scarletLeaf_decided (kind : Nat) (s : State) : Decided s (raise (scarletLeaf n kind) s) := by
  have hblock : (7 : Nat) ≤ 16 := by decide
  unfold scarletLeaf
  split_ifs
  · exact raise_gscCause_decided (f := R.GSC_CAUSE.SC n) hn hblock rfl (show 0 < 32 by decide) rfl s
  · exact raise_gscCause_decided (f := R.GSC_CAUSE.CAP_OV n) hn hblock rfl (show 1 < 32 by decide) rfl s
  · exact raise_gscCause_decided (f := R.GSC_CAUSE.BACKSTOP n) hn hblock rfl (show 2 < 32 by decide) rfl s
  · exact raise_gscCause_decided (f := R.GSC_CAUSE.SCARLET_OTHER n) hn hblock rfl (show 3 < 32 by decide) rfl s

/-- The cause of a Scarlet set, as it is recorded and reported (R280, R281). -/
theorem causeNoted_decided (kind source gate : Nat) (s : State) :
    Decided s (noteFirst n source gate kind (raise (scarletLeaf n kind) s)) :=
  (raise_scarletLeaf_decided hn kind s).trans (noteFirst_decided hn source gate kind _)

/-- A cause ends no clear where none is in progress. -/
theorem raiseCause_decided {s : State} (hstate : s.get (R.GSC_STAT.STATE n) ≠ 3) (kind source gate : Nat) :
    Decided s (raiseCause n (scarletLeaf n kind) source gate kind s) := by
  have hnoted := causeNoted_decided hn kind source gate s
  unfold raiseCause
  rw [if_neg (by rw [hnoted.get _ (supState_not_recordKey hn)]; exact hstate)]
  exact hnoted

/-- A cause leaves the gates held off and the links as they are, also where it ends a clear (R277 step 5). -/
theorem raiseCause_offGates_links (kind source gate : Nat) (s : State) :
    (raiseCause n (scarletLeaf n kind) source gate kind s).get (R.GSC_STAT.OFF_GATES n) = s.get (R.GSC_STAT.OFF_GATES n)
      ∧ LinksCalm s (raiseCause n (scarletLeaf n kind) source gate kind s) := by
  have hnoted := causeNoted_decided hn kind source gate s
  have hoff := hnoted.get _ (offGates_not_recordKey hn)
  unfold raiseCause
  dsimp only
  split
  · have hiso := isolate_isolates hn (noteFirst n source gate kind (raise (scarletLeaf n kind) s))
    exact ⟨hiso.offGates.trans hoff, hnoted.links.trans hiso.links⟩
  · exact ⟨hoff, hnoted.links⟩

end

/-- An over-current is counted, also in the life record of the cell (R280). -/
def overCurrentCounted (n cause : Nat) (s : State) : State :=
  if cause = 1 then (s.inc (R.GSC_COUNTS.SC_COUNT n)).modLife n (fun l => { l with scCount := satAdd 0xFFFF l.scCount 1 }) else s

/-- A recognised Scarlet set is counted, and evidence of its kind is no longer missing (R203, R266). -/
def scarletCounted (n cause : Nat) (s : State) : State :=
  (overCurrentCounted n cause (s.inc (R.LKN_COUNTS.SCARLET_RX n))).modGate n
    (fun g => { g with scarOc := g.scarOc || cause == 1, scarCap := g.scarCap || cause == 2 })

theorem scarletRx_ignored {s : State} {n : Nat} {rd : Bool} {gs : List Nat} (hrx : s.up n = true ∨ s.rxOnly n = true)
    (hset : (dataAfter .k28_1 (s.readLane n rd gs)).bind scarletOf = none) : scarletRx n rd gs s = codeError n s := by
  unfold scarletRx
  rw [if_pos (by simpa using hrx)]
  simp only [hset]

section
variable {n : Nat} (hn : n < 64)
include hn

theorem overCurrentCounted_decided (cause : Nat) (s : State) : Decided s (overCurrentCounted n cause s) :=
  .ite ((inc_decided (f := R.GSC_COUNTS.SC_COUNT n) (recordKey_of_cell hn (show 24 < 32 by decide) (.inr (.inl rfl))) s).trans (.of rfl rfl rfl rfl))
    (.refl s)

theorem scarletCounted_get {f : Fld} (hf : ¬ RecordKey f.key) (cause : Nat) (s : State) :
    (scarletCounted n cause s).get f = (s.inc (R.LKN_COUNTS.SCARLET_RX n)).get f := (overCurrentCounted_decided hn cause _).get f hf

theorem scarletCounted_links (cause : Nat) (s : State) : LinksCalm s (scarletCounted n cause s) :=
  (LinksCalm.of_links (State.inc_links s (R.LKN_COUNTS.SCARLET_RX n))).trans (overCurrentCounted_decided hn cause _).links

theorem scarletCounted_up (cause : Nat) (s : State) : (scarletCounted n cause s).up n = s.up n := by
  have hstate : ¬ RecordKey (R.LN_STAT.STATE n).key := by
    simp only [RecordKey, ReportKey, Fld.key, R.LN_STAT.STATE, O.RUN_REQUEST, obj, List.mem_cons, List.not_mem_nil, or_false]
    omega
  have hne : (R.LKN_COUNTS.SCARLET_RX n).key ≠ (R.LN_STAT.STATE n).key := by simp only [Fld.key, R.LKN_COUNTS.SCARLET_RX, R.LN_STAT.STATE]; omega
  rw [State.up, scarletCounted_get hn hstate, State.get_inc_of_ne s hne, State.up]

theorem scarletCounted_gate (cause : Nat) (s : State) :
    (scarletCounted n cause s).gate n = { s.gate n with scarOc := (s.gate n).scarOc || cause == 1, scarCap := (s.gate n).scarCap || cause == 2 } := by
  rw [scarletCounted, State.gate_modGate_self, (overCurrentCounted_decided hn cause _).gate, State.gate_of_gates (State.inc_gates ..)]

/-- On a lane in UP a Scarlet set is counted and acted on (R258). -/
theorem scarletRx_recognised {s : State} {cause gate : Nat} {rd : Bool} {gs : List Nat} (hup : s.up n = true)
    (hset : (dataAfter .k28_1 (s.readLane n rd gs)).bind scarletOf = some (cause, gate)) :
    scarletRx n rd gs s = actScarlet n cause gate (scarletCounted n cause s) := by
  unfold scarletRx
  rw [if_pos (by simp [hup])]
  simp only [hset]
  exact if_pos ((scarletCounted_up hn cause s).trans hup)

/-! ### A set that isolates, R262 -/

omit hn in
theorem ask_offGates (b : Nat) (s : State) : (ask n b s).get (R.GSC_STAT.OFF_GATES n) = s.get (R.GSC_STAT.OFF_GATES n) := State.modGate_get ..

omit hn in
theorem ask_fitted (b : Nat) (s : State) : (ask n b s).fitted n = s.fitted n := (LinksCalm.of_links (State.modGate_links ..)).fitted n

omit hn in
/-- A CAP_OV or a BACKSTOP is answered with a Black set in every state of the cell. -/
theorem actScarlet_black {cause : Nat} (hcause : cause = 2 ∨ cause = 3) (gate : Nat) (s : State) :
    ∃ kind, actScarlet n cause gate s = scarletBlack n kind (raiseCause n (scarletLeaf n kind) 1 gate kind s) := by
  have hkind : ∃ kind, scarletKind (s.fitted n) cause gate = kind ∧ kind ≠ 0 := by
    rcases hcause with rfl | rfl <;> simp [scarletKind]
  obtain ⟨kind, hkind, hne⟩ := hkind
  refine ⟨kind, ?_⟩
  unfold actScarlet actKind
  rw [hkind]
  exact if_neg fun h => hne h.1

theorem actScarlet_isolates {cause : Nat} (hcause : cause = 2 ∨ cause = 3) (gate : Nat) (s : State) :
    (actScarlet n cause gate s).get (R.GSC_STAT.STATE n) = 2
      ∧ (actScarlet n cause gate s).get (R.GSC_STAT.OFF_GATES n) = Nat.lor (s.get (R.GSC_STAT.OFF_GATES n)) (s.fitted n) % 4096
      ∧ ((actScarlet n cause gate s).link n).edges = [] := by
  obtain ⟨kind, hact⟩ := actScarlet_black (n := n) hcause gate s
  obtain ⟨hoff, hlinks⟩ := raiseCause_offGates_links hn kind 1 gate s
  obtain ⟨hstate, hgates, -, hedges⟩ := isolateBlack_holds hn (ask n kind (raiseCause n (scarletLeaf n kind) 1 gate kind s))
  rw [ask_offGates, ask_fitted, hoff, hlinks.fitted] at hgates
  rw [hact, scarletBlack]
  exact ⟨hstate, hgates, hedges⟩

end

/-! ### The sequence of an over-current, R261 -/

/-- Steps 1 and 2 of R261: the leg of the gate is off, the cell is in SEQUENCE, and its timer runs. -/
def sequenceStarted (n g : Nat) (s : State) : State :=
  (setSup n 1 (offGates n (Nat.land (s.fitted n) (legMask g))
    (dropEdges n (requestUrgent n (.targeted (Nat.land (s.fitted n) (legMask g)) true) (ask n 0 s))))).modGate n (fun x => { x with timer := true })

/-- Away from STATE, OFF_GATES and records, the sequence writes no register. -/
theorem sequenceStarted_get {n : Nat} {f : Fld} (hf : ¬ RecordKey f.key) (hstate : (R.GSC_STAT.STATE n).key ≠ f.key)
    (hoff : (R.GSC_STAT.OFF_GATES n).key ≠ f.key) (g : Nat) (s : State) : (sequenceStarted n g s).get f = s.get f := by
  rw [sequenceStarted, State.modGate_get, setSup_get hf hstate, offGates, State.get_set_of_ne _ _ hoff, dropEdges, State.modLink_get,
    State.get_of_regs (requestUrgent_regs_pw n _ _).1, ask, State.modGate_get]

theorem sequenceStarted_state (n g : Nat) (s : State) : (sequenceStarted n g s).get (R.GSC_STAT.STATE n) = 1 := by
  rw [sequenceStarted, State.modGate_get, setSup_state]

theorem sequenceStarted_edges (n g : Nat) (s : State) : ((sequenceStarted n g s).link n).edges = [] := by
  have hlast : LinksCalm _ (sequenceStarted n g s) := (monitorLeft_decided n (offGates n (Nat.land (s.fitted n) (legMask g))
    (dropEdges n (requestUrgent n (.targeted (Nat.land (s.fitted n) (legMask g)) true) (ask n 0 s))))).links
  exact (hlast.edges n).trans (dropEdges_edges n _)

theorem sequenceStarted_gate (n g : Nat) (s : State) :
    ((sequenceStarted n g s).gate n).timer = true ∧ ((sequenceStarted n g s).gate n).scarOc = (s.gate n).scarOc := by
  have hlast : (sequenceStarted n g s).gate n = { (ask n 0 s).gate n with timer := true } := by
    rw [sequenceStarted, State.gate_modGate_self]
    refine congrArg (fun x : GateSt => { x with timer := true }) (State.gate_of_gates ?_ n)
    exact (monitorLeft_decided n _).gates.trans (requestUrgent_reported n _ _).gates
  rw [hlast, ask, State.gate_modGate_self]
  exact ⟨rfl, rfl⟩

section
variable {n : Nat} (hn : n < 64)
include hn

theorem sequenceStarted_offGates (g : Nat) (s : State) :
    (sequenceStarted n g s).get (R.GSC_STAT.OFF_GATES n)
      = Nat.lor (s.get (R.GSC_STAT.OFF_GATES n)) (Nat.land (s.fitted n) (legMask g)) % 4096 := by
  rw [sequenceStarted, State.modGate_get, setSup_get (offGates_not_recordKey hn) (Fld.key_ne_of_apart rfl), offGates_offGates, dropEdges,
    State.modLink_get, State.get_of_regs (requestUrgent_regs_pw n _ _).1, ask_offGates]

/-- With a partner delay, the sequence of a cell in MONITOR waits for its timer. -/
theorem scSequence_delayed {s : State} (hdelay : s.get (R.GSC_CFG.PARTNER_DELAY n) ≠ 0) (g : Nat) :
    scSequence n g s = checkStrings (sequenceStarted n g s) := by
  have hkept : (sequenceStarted n g s).get (R.GSC_CFG.PARTNER_DELAY n) = s.get (R.GSC_CFG.PARTNER_DELAY n) :=
    sequenceStarted_get (partnerDelay_not_recordKey hn) (Fld.key_ne_of_apart rfl) (Fld.key_ne_of_apart rfl) g s
  exact if_neg fun h => hdelay (hkept.symm.trans h)

/-- An over-current of a fitted gate of a cell in MONITOR starts the sequence, once it is recorded and reported. -/
theorem actScarlet_sequence {s : State} {g : Nat} (hg : g < 12) (hfit : bitAt (s.fitted n) g = true) (hstate : s.get (R.GSC_STAT.STATE n) = 0)
    (hdelay : s.get (R.GSC_CFG.PARTNER_DELAY n) ≠ 0) :
    ∃ x, Decided s x ∧ actScarlet n 1 g s = checkStrings (sequenceStarted n g x) := by
  have hraised := raiseCause_decided hn (by rw [hstate]; decide) 0 1 g (s := s)
  have hkind : scarletKind (s.fitted n) 1 g = 0 := if_pos ⟨rfl, hg, hfit⟩
  refine ⟨_, hraised, ?_⟩
  unfold actScarlet actKind
  rw [hkind]
  dsimp only
  rw [if_pos ⟨rfl, hg, (congrArg (bitAt · g) (hraised.links.fitted n)).trans hfit⟩, actOc]
  dsimp only
  rw [if_pos ((hraised.get _ (supState_not_recordKey hn)).trans hstate),
    scSequence_delayed hn (by rw [hraised.get _ (partnerDelay_not_recordKey hn)]; exact hdelay)]

end

/-! ### The statement -/

/-- A clear that is accepted (R277 step 1). -/
def clearAccepted (n : Nat) (s : State) : State :=
  (s.set (R.GSC_STAT.STATE n) 3).modGate n (fun g => { g with clearPhase := 1, clearAt := s.frame })

theorem clearAccepted_onlyRegs (n : Nat) (s : State) : OnlyRegs s (clearAccepted n s) [R.GSC_STAT.STATE n] :=
  (OnlyRegs.of_regs (t := s) rfl [R.GSC_STAT.STATE n]).set (f := R.GSC_STAT.STATE n) 3 (by simp)

theorem exec_scarletSetRx (n : Fin 64) (rd : Bool) (gs : List Nat) (s : State) : exec (.scarletSetRx n ⟨rd, gs⟩) s = .next (scarletRx n rd gs s) := rfl
theorem exec_cellClear (n : Fin 64) (s : State) : exec (.cellClear n) s = .next (clearCell n s) := rfl

theorem exec_partnerDelayExpiry_running {n : Fin 64} {s : State} (h : (s.gate n).timer = true) :
    exec (.partnerDelayExpiry n) s = .next (isolateBlack n s) := congrArg Host.Outcome.next (if_pos h)

theorem exec_clearTimeout_clearing {n : Fin 64} {s : State} (h : s.get (R.GSC_STAT.STATE n) = 3) :
    exec (.clearTimeout n) s = .next (isolate n s) := congrArg Host.Outcome.next (if_pos h)

/-- Settles O16: an over-current by `actScarlet_sequence` and what `sequenceStarted` reads as, another cause by `actScarlet_isolates`, the timer's end by
`isolateBlack_holds`, a clear by its two branches, and its time-out by `isolate_isolates`. -/
theorem gateSupervisionOfACell : Obligations.GateSupervisionOfACell := by
  unfold Obligations.GateSupervisionOfACell
  refine ⟨?ignored, ?sequence, ?black, ?expiry, ?accepted, ?refused, ?timeout⟩
  case ignored => exact fun s n rd gs hrx hset => congrArg Host.Outcome.next (scarletRx_ignored hrx hset)
  case sequence =>
    intro s n rd gs g hup hset hg hfit hstate hdelay
    have hn := n.isLt
    have hlinks := scarletCounted_links hn 1 s
    have hstate' : (scarletCounted n 1 s).get (R.GSC_STAT.STATE n) = 0 := by
      rw [scarletCounted_get hn (supState_not_recordKey hn), State.get_inc_apart _ rfl, hstate]
    have hdelay' : (scarletCounted n 1 s).get (R.GSC_CFG.PARTNER_DELAY n) ≠ 0 := by
      rw [scarletCounted_get hn (partnerDelay_not_recordKey hn), State.get_inc_apart _ rfl]
      exact hdelay
    obtain ⟨x, hx, hact⟩ := actScarlet_sequence hn hg (by rw [hlinks.fitted]; exact hfit) hstate' hdelay'
    have hend := checkStrings_decided (sequenceStarted n g x)
    obtain ⟨htimer, hscarlet⟩ := sequenceStarted_gate n g x
    rw [exec_scarletSetRx, scarletRx_recognised hn hup hset, hact]
    refine ⟨_, rfl, ?_, ?_, ?_, ?_, ?_, ?_⟩
    · rw [hend.get _ (supState_not_recordKey hn), sequenceStarted_state]
    · rw [hend.get _ (offGates_not_recordKey hn), sequenceStarted_offGates hn, hx.get _ (offGates_not_recordKey hn), hx.links.fitted, hlinks.fitted,
        scarletCounted_get hn (offGates_not_recordKey hn), State.get_inc_apart _ rfl]
    · rw [hend.gate, htimer]
    · rw [hend.gate, hscarlet, hx.gate, scarletCounted_gate hn]
      simp
    · rw [hend.links.edges, sequenceStarted_edges]
    · have hrx := scarletRx_not_recordKey hn
      rw [hend.get _ hrx, sequenceStarted_get hrx (Fld.key_ne_of_apart rfl) (Fld.key_ne_of_apart rfl), hx.get _ hrx, scarletCounted_get hn hrx,
        State.get_inc_self]
      rfl
  case black =>
    intro s n rd gs c g hup hset hc
    have hn := n.isLt
    obtain ⟨hstate, hoff, hedges⟩ := actScarlet_isolates hn hc g (scarletCounted n c s)
    rw [scarletCounted_get hn (offGates_not_recordKey hn), State.get_inc_apart _ rfl, (scarletCounted_links hn c s).fitted] at hoff
    rw [exec_scarletSetRx, scarletRx_recognised hn hup hset]
    exact ⟨_, rfl, hstate, hoff, hedges⟩
  case expiry => exact fun s n htimer => ⟨_, exec_partnerDelayExpiry_running htimer, isolateBlack_holds n.isLt s⟩
  case accepted =>
    intro s n hclear
    have haccepted : clearCell n s = clearAccepted n s := if_pos hclear
    have hgate : ((clearAccepted n s).gate n) = { s.gate n with clearPhase := 1, clearAt := s.frame } := State.gate_modGate_self ..
    rw [exec_cellClear, haccepted]
    exact ⟨_, rfl, State.get_set_self s (R.GSC_STAT.STATE n) 3, congrArg GateSt.clearPhase hgate, congrArg GateSt.clearAt hgate,
      clearAccepted_onlyRegs n s, rfl⟩
  case refused => exact fun s n hclear => congrArg Host.Outcome.next (if_neg (by simp [hclear]))
  case timeout =>
    intro s n hstate
    have hiso := isolate_isolates n.isLt s
    exact ⟨_, exec_clearTimeout_clearing hstate, hiso.state, congrArg GateSt.clearPhase hiso.gate, congrArg GateSt.isoAt hiso.gate⟩

end Sys2Proof.Machine
end

section
/-!
PROOFS. What reports to the collector leave of the cells of the balancer in every device state: everything but STATE and the bypass command kept at leaving Run
(R286), which a Black report writes (R447).
-/
namespace Sys2Proof.Machine

/-! ### The words and the record of a cell -/

/-- The place of a field outside the words of the cells, BC_STAT to BC_SORT (R308). -/
abbrev Fld.OffCells (f : Fld) : Prop := f.key / 32 < 0x80404 ∨ 0x80804 ≤ f.key / 32

/-- A field of the words of the cells other than STATE, which begins at bit 29. -/
abbrev Fld.OfCells (f : Fld) : Prop := 0x80404 ≤ f.addr ∧ f.addr < 0x80804 ∧ f.lo < 32 ∧ f.lo ≠ 29

theorem Fld.OffCells.key_ne {f g : Fld} (hf : f.OffCells) (hg : g.OfCells) : f.key ≠ g.key := by
  intro e
  rw [Fld.OffCells, e] at hf
  unfold Fld.key at hf
  omega

/-- The record of a cell without the bypass command kept since Run. -/
def BalSt.withoutKept (c : BalSt) : BalSt := { c with keepCmd := none }

/-- The words of the cells but for STATE, and their records but for the kept commands, are in `t` as in `s`. -/
structure CellsKept (s t : State) : Prop where
  get : ∀ f : Fld, f.OfCells → t.get f = s.get f
  record : ∀ n, (t.cell n).withoutKept = (s.cell n).withoutKept

theorem State.cell_of_cells {s t : State} (h : t.cells = s.cells) (n : Nat) : t.cell n = s.cell n := by rw [State.cell, State.cell, h]

theorem State.cell_modCell (s : State) (m n : Nat) (f : BalSt → BalSt) :
    (s.modCell m f).cell n = if m = n then f (s.cell m) else s.cell n := Tab.get_modify ..

@[simp] theorem State.cell_modCell_self (s : State) (n : Nat) (f : BalSt → BalSt) : (s.modCell n f).cell n = f (s.cell n) := by
  simp [State.cell_modCell]

theorem CellsKept.since {s t : State} (h : CellsKept s t) (n : Nat) : (t.cell n).since = (s.cell n).since := by
  simpa [BalSt.withoutKept] using congrArg BalSt.since (h.record n)

theorem CellsKept.refl (s : State) : CellsKept s s := ⟨fun _ _ => rfl, fun _ => rfl⟩

section
variable {s0 s t : State}

/-- An update beside the cells and the registers. -/
theorem CellsKept.congr (h : CellsKept s0 s) (hr : t.regs = s.regs) (hc : t.cells = s.cells) : CellsKept s0 t :=
  ⟨fun f hf => (State.get_of_regs hr f).trans (h.get f hf), fun n => by rw [State.cell_of_cells hc, h.record]⟩

theorem CellsKept.set {f : Fld} (h : CellsKept s0 s) (hf : f.OffCells) (v : Nat) : CellsKept s0 (s.set f v) :=
  ⟨fun g hg => (State.get_set_of_ne s v (hf.key_ne hg)).trans (h.get g hg), h.record⟩

theorem CellsKept.inc {f : Fld} (h : CellsKept s0 s) (hf : f.OffCells) : CellsKept s0 (s.inc f) := (h.set hf _).congr rfl rfl

theorem CellsKept.set64 {lo hi : Fld} (h : CellsKept s0 s) (hlo : lo.OffCells) (hhi : hi.OffCells) (v : Nat) : CellsKept s0 (s.set64 lo hi v) :=
  (h.set hlo v).set hhi _

theorem CellsKept.ite {c : Prop} [Decidable c] (hs : CellsKept s0 s) (ht : CellsKept s0 t) : CellsKept s0 (if c then s else t) := by
  split <;> assumption

theorem CellsKept.modCyc (h : CellsKept s0 s) (f : CoreCycle → CoreCycle) : CellsKept s0 (s.modCyc f) := h.congr rfl rfl
theorem CellsKept.noteSet (h : CellsKept s0 s) (f : Fld) : CellsKept s0 (s.noteSet f) := h.modCyc _

theorem CellsKept.each {α : Type} {l : List α} {f : α → State → State} (h : CellsKept s0 s)
    (hf : ∀ a ∈ l, ∀ x, CellsKept s0 x → CellsKept s0 (f a x)) : CellsKept s0 (s.each l f) := State.each_keeps h hf

/-! ### Leaves, messages and records -/

theorem raiseLeaf_cells {r : Src} (h : CellsKept s0 s) (hr : ∀ f, leafOf r = some f → f.OffCells) : CellsKept s0 (raiseLeaf r s).1 := by
  unfold raiseLeaf
  split
  · exact h
  · unfold setLeaf
    dsimp only
    split
    · exact (h.noteSet _).set (hr _ ‹_›) 1
    · split <;> exact h.congr rfl rfl

/-- A source whose leaf is known. -/
theorem raiseLeaf_cells_of {r : Src} {f : Fld} (h : CellsKept s0 s) (hr : leafOf r = some f) (hf : f.OffCells) : CellsKept s0 (raiseLeaf r s).1 :=
  raiseLeaf_cells h fun _ hg => Option.some.inj (hr.symm.trans hg) ▸ hf

theorem sendTo_cells (h : CellsKept s0 s) (typ chan dest : Nat) (b : List Byte) : CellsKept s0 (sendTo typ chan dest b s).1 := by
  simp only [sendTo]
  split
  · exact h.congr rfl rfl
  · split
    · exact h.congr rfl rfl
    · exact raiseLeaf_cells_of (CellsKept.inc (h.congr rfl rfl) (by decide)) rfl (by decide)

theorem lostField_offCells (p : Nat) : (lostField p).OffCells := by unfold lostField; split_ifs <;> decide
theorem pendField_offCells (b : Bool) : (pendField b).OffCells := by cases b <;> decide

theorem enqueue_cells (h : CellsKept s0 s) (r : Rec) : CellsKept s0 (enqueue r s).1 := by
  unfold enqueue
  split
  · exact raiseLeaf_cells_of (h.inc (lostField_offCells _)) rfl (by decide)
  · exact h.congr rfl rfl

theorem flush_cells (h : CellsKept s0 s) (b : Bool) : CellsKept s0 (flush b s).1 := by
  have hset := h.set (pendField_offCells b) 0
  simp only [flush]
  split
  · exact h
  · split
    · split
      · exact hset.congr rfl rfl
      · refine enqueue_cells ?_ _
        exact hset.congr rfl rfl
    · exact h

theorem settle_cells (h : CellsKept s0 s) (b : Bool) : CellsKept s0 (settle b s).1 := by
  simp only [settle]
  split
  · exact h
  · split
    · exact (flush_cells h b).set (pendField_offCells b) 0
    · exact (h.set (pendField_offCells b) 0).congr rfl rfl

theorem post_cells (h : CellsKept s0 s) (r : Rec) : CellsKept s0 (post r s).1 := by
  unfold post
  dsimp only
  split
  · refine CellsKept.congr (CellsKept.inc ?_ (pendField_offCells (faultRegion r))) rfl rfl
    split
    · exact h
    · exact settle_cells h _
  · refine enqueue_cells ?_ r
    exact .ite h (h.congr rfl rfl)

theorem postEmcy_cells (h : CellsKept s0 s) (origin b i inst info tsc : Nat) : CellsKept s0 (postEmcy origin b i inst info tsc s).1 := by
  unfold postEmcy
  split
  · exact raiseLeaf_cells_of h rfl (by decide)
  · exact h.congr rfl rfl

/-! ### First causes and windows -/

/-- The words of the collector lie above those of the cells. -/
theorem Fld.OffCells.of_addr {f : Fld} (h : 0x80804 ≤ f.addr) : f.OffCells := by
  unfold Fld.OffCells Fld.key
  omega

theorem firstCause_offCells (n : Nat) :
    (R.FC_STAT.HELD n).OffCells ∧ (R.FC_LOST.LOST n).OffCells ∧ (R.FC_FIRST.SRC n).OffCells ∧ (R.FC_FIRST.INSTANCE n).OffCells
      ∧ (R.FC_FIRST.CLASS n).OffCells ∧ (R.FC_FIRST.SCOPE n).OffCells ∧ (R.FC_FIRST.OBSERVED n).OffCells ∧ (R.FC_FIRST.INJECTED n).OffCells
      ∧ (R.FC_FIRST.EARLIER_REMOTE n).OffCells ∧ (R.FC_FIRST_TSC_LO n).OffCells ∧ (R.FC_FIRST_TSC_HI n).OffCells := by
  simp only [Fld.OffCells, Fld.key, R.FC_STAT.HELD, R.FC_LOST.LOST, R.FC_FIRST.SRC, R.FC_FIRST.INSTANCE, R.FC_FIRST.CLASS, R.FC_FIRST.SCOPE,
    R.FC_FIRST.OBSERVED, R.FC_FIRST.INJECTED, R.FC_FIRST.EARLIER_REMOTE, R.FC_FIRST_TSC_LO, R.FC_FIRST_TSC_HI]
  omega

theorem window_offCells (w : Nat) :
    (R.FC_WIN.OPEN w).OffCells ∧ (R.FC_WIN.CLASS w).OffCells ∧ (R.FC_WIN.FIRST_BLOCK w).OffCells ∧ (R.FC_WIN.CONSEQ w).OffCells := by
  simp only [Fld.OffCells, Fld.key, R.FC_WIN.OPEN, R.FC_WIN.CLASS, R.FC_WIN.FIRST_BLOCK, R.FC_WIN.CONSEQ]
  omega

theorem groupFirst_cells (h : CellsKept s0 s) (loc : Bool) (origin source gt : Nat) : CellsKept s0 (groupFirst loc origin source gt s) := by
  obtain ⟨-, -, -, -, -, -, -, -, hearlier, -⟩ := firstCause_offCells (s.get R.FC_GRP_INFO.SOURCE / 16)
  have hnote := h.noteSet R.FC_GRP_INFO.VALID
  have hinfo := CellsKept.ite (c := !(!s.bit R.FC_GRP_INFO.VALID) && !loc && (s.noteSet R.FC_GRP_INFO.VALID).bit R.FC_GRP_INFO.LOCAL)
    (hnote.set hearlier 1) hnote
  unfold groupFirst
  refine .ite ?_ h
  exact ((((hinfo.set (by decide) _).set (by decide) _).set (by decide) _).set (by decide) _).set64 (by decide) (by decide) _

theorem openWin_cells (h : CellsKept s0 s) (w c b : Nat) : CellsKept s0 (openWin w c b s) := by
  obtain ⟨hopen, hclass, hblock, hconseq⟩ := window_offCells w
  have hx : CellsKept s0 (if s.winOpen w then s else s.set (R.FC_WIN.CONSEQ w) 0) := .ite h (h.set hconseq 0)
  exact (((hx.set hopen 1).set hclass c).set hblock (b - 1)).congr rfl rfl

theorem fileRecord_cells (h : CellsKept s0 s) (r : ReportArg) (c : Nat) (obs inj : Bool) : CellsKept s0 (fileRecord r c obs inj s) := by
  obtain ⟨hheld, -, hsrc, hinst, hclass, hscope, hobs, hinj, hremote, hlo, hhi⟩ := firstCause_offCells (r.block - 1)
  exact ((((((((h.set hheld 1).set hsrc _).set hinst _).set hclass c).set hscope _).set hobs _).set hinj _).set hremote 0).set64 hlo hhi _

theorem tellGroup_cells (h : CellsKept s0 s) (r : ReportArg) (c : Nat) (obs : Bool) : CellsKept s0 (tellGroup r c obs s) := by
  unfold tellGroup
  split
  · exact (groupFirst_cells h _ _ _ _).congr rfl rfl
  · exact h

theorem capture_cells (h : CellsKept s0 s) (r : ReportArg) (c : Nat) (obs inj : Bool) : CellsKept s0 (capture r c obs inj s).1 := by
  unfold capture
  extract_lets x info rc
  have hx : CellsKept s0 x := (tellGroup_cells (fileRecord_cells h r c obs inj) r c obs).modCyc _
  have hpost := post_cells hx rc
  dsimp only
  split
  · split
    · exact postEmcy_cells hpost ..
    · exact hpost
  · exact sendTo_cells hpost ..

theorem reheld_cells (h : CellsKept s0 s) (b : Nat) : CellsKept s0 (reheld b s) := by
  obtain ⟨hheld, -⟩ := firstCause_offCells (b - 1)
  have hx : CellsKept s0 (if s.cyc.errReset then { s with net := { s.net with emcy := s.net.emcy.dropLast } } else s) := .ite (h.congr rfl rfl) h
  exact (hx.set hheld 1).congr rfl rfl

theorem keepReport_cells (h : CellsKept s0 s) (r : ReportArg) (c : Nat) : CellsKept s0 (keepReport r c s).1 := by
  obtain ⟨-, hlost, -⟩ := firstCause_offCells (r.block - 1)
  have hcount : (R.FC_LOSTCNT r.block).OffCells := .of_addr (by unfold R.FC_LOSTCNT; dsimp only; omega)
  unfold keepReport
  extract_lets n freed x held replace
  have hx : CellsKept s0 x := (CellsKept.ite (reheld_cells h r.block) h).modCyc _
  split
  · exact capture_cells hx ..
  · exact ((hx.noteSet _).set hlost 1).inc hcount

theorem judgeReport_cells (h : CellsKept s0 s) (r : ReportArg) (c w : Nat) : CellsKept s0 (judgeReport r c w s).1 := by
  unfold judgeReport
  extract_lets n held takes opens
  have hopen : CellsKept s0 (if c ≥ 1 && opens then openWin w c r.block (keepReport r c s).1 else (keepReport r c s).1) :=
    .ite (openWin_cells (keepReport_cells h r c) ..) (keepReport_cells h r c)
  exact .ite (openWin_cells hopen ..) hopen

theorem joinReport_cells (h : CellsKept s0 s) (r : ReportArg) : CellsKept s0 (joinReport r s) := by
  obtain ⟨-, -, -, -, -, -, hobs, hinj, -⟩ := firstCause_offCells (r.block - 1)
  have hx : CellsKept s0 (if r.injected then s.set (R.FC_FIRST.INJECTED (r.block - 1)) 1 else s) := .ite (h.set hinj 1) h
  unfold joinReport
  exact .ite (.ite (hx.set hobs 1) hx) h

/-! ### What a Black report does -/

/-- A cell put in another state, its kept command changed. -/
theorem CellsKept.setState (h : CellsKept s0 s) (n st : Nat) {k : BalSt → Option Nat} :
    CellsKept s0 ((s.set (R.BC_STAT.STATE n) st).modCell n (fun c => { c with keepCmd := k c })) := by
  refine ⟨fun f hf => ?_, fun m => ?_⟩
  · have hne : (R.BC_STAT.STATE n).key ≠ f.key := by
      obtain ⟨-, -, hlo, hne⟩ := hf
      simp only [Fld.key, R.BC_STAT.STATE]
      omega
    rw [State.modCell_get, State.get_set_of_ne s st hne, h.get f hf]
  · rw [← h.record m, State.cell_modCell]
    split
    · subst m; rfl
    · rfl

theorem parkCells_cells (h : CellsKept s0 s) : CellsKept s0 (parkCells s) := by
  have hx := h.each (l := List.range 8) (f := fun t s => s.modStr t (fun x => { x with short := false, low := false }))
    fun t _ x hx => hx.congr rfl rfl
  exact hx.each fun n _ x hx => .ite (hx.setState n 1) hx

theorem stopInjection_cells (h : CellsKept s0 s) : CellsKept s0 (stopInjection s).1 := by
  unfold stopInjection
  split
  · refine raiseLeaf_cells_of ?_ rfl (by decide)
    exact h.congr rfl rfl
  · exact h

theorem enterSafe_cells (h : CellsKept s0 s) : CellsKept s0 (enterSafe s).1 := by
  have hstate : CellsKept s0 { s with pw := { s.pw with state := .safe } } := h.congr rfl rfl
  have hphasor : ∀ x, CellsKept s0 x → CellsKept s0 (phasorStart x) := fun x hx =>
    (hx.set (f := R.MET_STAT.PH_STATE) (by decide) _).congr rfl rfl
  exact stopInjection_cells (hphasor _ (parkCells_cells (hstate.set (f := O.RUN_REQUEST) (by decide) 0)))

theorem requestUrgent_cells (h : CellsKept s0 s) (n : Nat) (u : Urgent) : CellsKept s0 (requestUrgent n u s) := .ite (h.congr rfl rfl) h

theorem blackActions_cells (h : CellsKept s0 s) : CellsKept s0 (blackActions s).1 := by
  have henter : CellsKept s0 (if s.inState [.armed, .run] then enterSafe s else (parkCells s, [])).1 := by
    split
    · exact enterSafe_cells h
    · dsimp only
      exact parkCells_cells h
  unfold blackActions
  generalize (if s.inState [.armed, .run] then enterSafe s else (parkCells s, [])) = p at henter
  have hurgent : CellsKept s0 (p.1.each lanes64 fun n s => requestUrgent n .black s) := henter.each fun n _ x hx => requestUrgent_cells hx n .black
  dsimp only
  exact (((hurgent.set (f := R.FC_NFAULT.DRIVE) (by decide) 1).set (f := R.FC_NFAULT.PULSE) (by decide) 1).set
    (f := R.FC_NFAULT.PENDING_REL) (by decide) 0).modCyc _

/-! ### Reports -/

theorem takeOne_cells (h : CellsKept s0 s) (r : ReportArg) : CellsKept s0 (takeOne r s).1 := by
  unfold takeOne
  extract_lets c w fc x consW
  have hx : CellsKept s0 x := h.congr rfl rfl
  obtain ⟨-, -, -, hconseq⟩ := window_offCells (if consW then w else 8)
  generalize hq : (if x.joins r then (joinReport r x, [])
      else if consW || x.winHolds 8 c then (x.inc (R.FC_WIN.CONSEQ (if consW then w else 8)), []) else judgeReport r c w x) = p
  have hp : CellsKept s0 p.1 := by
    rw [← hq]
    split
    · exact joinReport_cells hx r
    · split
      · exact hx.inc hconseq
      · exact judgeReport_cells hx r c w
  obtain ⟨y, l⟩ := p
  have htaken := hp.modCyc fun z => { z with taken := r :: z.taken }
  dsimp only
  split
  · exact blackActions_cells htaken
  · exact htaken

theorem takeAll_cells (h : CellsKept s0 s) (k : Nat) (l : List ReportArg) : CellsKept s0 (takeAll k l s) := by
  induction k generalizing l s with
  | zero => exact h
  | succ k ih =>
    cases l with
    | nil => exact h
    | cons r rs => exact ih (takeOne_cells h r) _

theorem raiseLeaves_cells {l : List Src} (h : CellsKept s0 s) (hl : ∀ r ∈ l, ∀ f, leafOf r = some f → f.OffCells) :
    CellsKept s0 (raiseLeaves l s).1 := by
  induction l generalizing s with
  | nil => exact h
  | cons r l ih => exact ih (raiseLeaf_cells h (hl r List.mem_cons_self)) fun x hx => hl x (List.mem_cons_of_mem r hx)

/-- All that events of one core cycle do to the cells (R434), where no leaf of theirs is in a word of the cells. -/
theorem raiseAll_cells {l : List Src} (h : CellsKept s0 s) (hl : ∀ r ∈ l, ∀ f, leafOf r = some f → f.OffCells) : CellsKept s0 (raiseAll l s) :=
  takeAll_cells (raiseLeaves_cells h hl) _ _

theorem checkStrings_cells (h : CellsKept s0 s) : CellsKept s0 (checkStrings s) := by
  unfold checkStrings
  refine h.each fun t ht x hx => ?_
  extract_lets act u r short low old y l
  have ht8 : t < 8 := List.mem_range.1 ht
  refine raiseAll_cells (hx.congr rfl rfl) fun r hr f hf => ?_
  have hsrc : r = Src.STR_STRING_SHORT t ∨ r = Src.STR_RESERVE_LOW t := by
    simp only [l, List.mem_append, List.mem_ite_nil_right, List.mem_singleton] at hr
    exact hr.imp And.right And.right
  rcases hsrc with rfl | rfl
  · obtain rfl : R.STR_CAUSE.STRING_SHORT t = f := Option.some.inj hf
    simp only [Fld.OffCells, Fld.key, R.STR_CAUSE.STRING_SHORT]
    omega
  · obtain rfl : R.STR_CAUSE.RESERVE_LOW t = f := Option.some.inj hf
    simp only [Fld.OffCells, Fld.key, R.STR_CAUSE.RESERVE_LOW]
    omega

end

end Sys2Proof.Machine
end

section
/-!
PROOFS. Strings and sorts (10_balancing_duplex.md, R286 to R296): a cell that is opened, closed or parked, and what a sort that leaves the network writes.
-/
namespace Sys2Proof.Machine

/-! ### Records behind the registers -/

theorem Tab.put_put {α : Type} (t : Tab α) (k : Nat) (v w : α) : Tab.put (Tab.put t k v) k w = Tab.put t k w := by
  induction t with
  | nil => simp [Tab.put]
  | cons e t ih =>
    obtain ⟨j, u⟩ := e
    simp only [Tab.put]
    split_ifs with hlt heq
    · simp [Tab.put]
    · simp [Tab.put]
    · simp [Tab.put, hlt, heq, ih]

/-- Two changes of one record are one, where neither leaves the default. -/
theorem Tab.modify_modify {α : Type} [DecidableEq α] {d : α} {t : Tab α} {k : Nat} {f g : α → α} (hf : f (Tab.get d t k) ≠ d)
    (hg : g (f (Tab.get d t k)) ≠ d) : Tab.modify d (Tab.modify d t k f) k g = Tab.modify d t k (fun x => g (f x)) := by
  have hread : Tab.get d (Tab.modify d t k f) k = f (Tab.get d t k) := Tab.get_set_self ..
  unfold Tab.modify at hread ⊢
  rw [hread]
  unfold Tab.set
  rw [if_neg hg, if_neg hf, if_neg hg, Tab.put_put]

@[simp] theorem State.str_modStr_self (s : State) (t : Nat) (f : StrSt → StrSt) : (s.modStr t f).str t = f (s.str t) := by
  unfold State.str State.modStr
  simp [Tab.get_modify]

@[simp] theorem State.ctx_modCtx_self (s : State) (k : Nat) (f : CtxSt → CtxSt) : (s.modCtx k f).ctx k = f (s.ctx k) := by
  unfold State.ctx State.modCtx
  simp [Tab.get_modify]

theorem State.str_of_strs {s t : State} (h : t.strs = s.strs) (g : Nat) : t.str g = s.str g := by rw [State.str, State.str, h]
theorem State.ctx_of_ctxs {s t : State} (h : t.ctxs = s.ctxs) (k : Nat) : t.ctx k = s.ctx k := by rw [State.ctx, State.ctx, h]

/-! ### The check of the strings outside Run, R289 -/

/-- Outside Run no string is short or low: the check reports nothing. -/
theorem checkStrings_idle {s : State} (h : s.inState [.run] = false) :
    (checkStrings s).regs = s.regs ∧ (checkStrings s).cells = s.cells ∧ (checkStrings s).pw = s.pw := by
  unfold checkStrings
  refine State.each_keeps (P := fun x => x.regs = s.regs ∧ x.cells = s.cells ∧ x.pw = s.pw) ⟨rfl, rfl, rfl⟩ fun t _ x hx => ?_
  have hidle : x.inState [.run] = false := by
    obtain ⟨-, -, hpw⟩ := hx
    rw [← h, State.inState, State.inState, hpw]
  simp only [hidle, Bool.false_and, Bool.false_eq_true, if_false, List.append_nil]
  exact hx

/-! ### A cell that opens or closes, R286 and R290 -/

/-- OPENING or CLOSING from the next frame on, with no kept command. -/
def cellMoved (n st : Nat) (s : State) : State :=
  (s.set (R.BC_STAT.STATE n) st).modCell n (fun c => { c with since := s.frame + 1, keepCmd := none })

theorem cellMoved_eq (n st : Nat) (s : State) : setBal n st (s.modCell n (fun c => { c with since := s.frame + 1 })) = cellMoved n st s := by
  have hne : ∀ c : BalSt, c.since = s.frame + 1 → c ≠ {} := fun c hc e => by
    rw [e] at hc
    exact absurd hc (Nat.succ_ne_zero _).symm
  have hcells : Tab.modify {} (Tab.modify {} s.cells n (fun c => { c with since := s.frame + 1 })) n (fun c => { c with keepCmd := none })
      = Tab.modify {} s.cells n (fun c => { c with since := s.frame + 1, keepCmd := none }) :=
    Tab.modify_modify (hne _ rfl) (hne _ rfl)
  exact congrArg (fun c => ({ s.set (R.BC_STAT.STATE n) st with cells := c } : State)) hcells

theorem openCell_eq (n : Nat) (s : State) : openCell n s = cellMoved n 2 s := cellMoved_eq n 2 s
theorem closeCell_eq (n : Nat) (s : State) : closeCell n s = cellMoved n 4 s := cellMoved_eq n 4 s

theorem cellMoved_since (n st : Nat) (s : State) : ((cellMoved n st s).cell n).since = s.frame + 1 := by
  rw [cellMoved, State.cell_modCell_self]

theorem cellMoved_heldOut (n st : Nat) (s : State) : (cellMoved n st s).get (R.BC_STAT.HELD_OUT n) = s.get (R.BC_STAT.HELD_OUT n) := by
  rw [cellMoved, State.modCell_get, State.get_set_apart _ _ rfl]

theorem cellMoved_onlyRegs (n st : Nat) (s : State) : OnlyRegs s (cellMoved n st s) [R.BC_STAT.STATE n] :=
  (OnlyRegs.of_regs (t := s) rfl [R.BC_STAT.STATE n]).set (f := R.BC_STAT.STATE n) st (by simp)

theorem heldOut_ofCells {n : Nat} (hn : n < 64) : (R.BC_STAT.HELD_OUT n).OfCells :=
  ⟨by show 0x80404 ≤ 0x80404 + 0x10 * n; omega, by show 0x80404 + 0x10 * n < 0x80804; omega, show 21 < 32 by decide, show 21 ≠ 29 by decide⟩

/-! ### RESERVE_OPEN, INSERT and PARK, R288 and R293 -/

theorem reserveOpen_opens {s : State} {g n : Nat} (hstate : s.pw.state = .run) (hstandby : s.standby = false) (hen : s.strEn g = true)
    (hcold : s.bit (R.STR_CFG.RESERVE_MODE g) = true) (hwant : s.wantedCount g < s.get (R.STR_CFG.N_REQ g)) (hcell : s.reserveCell g = some n) :
    reserveOpen g s = raise (Src.STR_RESERVE_INSERTED g) (cellMoved n 2 s) := by
  unfold reserveOpen
  rw [if_pos (by simp [State.inState, hstate, hstandby, hen, hcold, hwant]), hcell]
  exact congrArg (raise _) (openCell_eq n s)

theorem bypassTimeout_openFails {s : State} {n : Nat} (hstate : s.balState n = 2)
    (hframe : (s.cell n).since + descBypassTime (s.link n).desc + 12 ≤ s.frame) :
    bypassTimeout n s = checkStrings (raise (Src.BC_OPEN_FAIL n) (setBal n 5 s)) := by
  unfold bypassTimeout
  exact if_pos ⟨hstate, hframe⟩

theorem insertCell_inserts {s : State} {n : Nat} (h : s.insertable n = true) :
    insertCell n s = checkStrings (cellMoved n 2 (s.set (R.BC_STAT.HELD_OUT n) 0)) := by
  rw [insertCell, if_pos h, openCell_eq]

theorem insertCell_refused {s : State} {n : Nat} (h : s.insertable n = false) : insertCell n s = raise Src.BAL_SETTING_REFUSED s := by
  rw [insertCell, if_neg (by simp [h]), refuse]

theorem parkCell_inUse {s : State} {n : Nat} (h : s.balState n = 3) (hstandby : s.standby = false) :
    parkCell n s = checkStrings (cellMoved n 4 (s.set (R.BC_STAT.HELD_OUT n) 1)) := by
  have hpark : s.parkable n = true := by simp [State.parkable, h, hstandby]
  unfold parkCell
  rw [if_pos hpark]
  dsimp only
  rw [if_neg (by rw [h]; decide), closeCell_eq]

theorem parkCell_refused {s : State} {n : Nat} (h : s.parkable n = false) : parkCell n s = raise Src.BAL_SETTING_REFUSED s := by
  rw [parkCell, if_neg (by simp [h]), refuse]

/-! ### Sorts, R294 and R295 -/

theorem bitAt_setBitAt_true (x i : Nat) : bitAt (setBitAt x i true) i = true := by
  unfold setBitAt
  split
  · assumption
  · next h =>
    have hbit : ¬ x / 2 ^ i % 2 = 1 := by simpa [bitAt] using h
    have hsum : (x + 2 ^ i) / 2 ^ i = x / 2 ^ i + 1 := Nat.add_div_right x (Nat.two_pow_pos i)
    simp only [if_true, bitAt, decide_eq_true_eq, hsum]
    omega

/-- Sort `r` of string `g` leaves the network: its context may read it. -/
def sortTaken (g : Nat) (r : SortReq) (rest : List SortReq) (s : State) : State :=
  (s.modStr g (fun x => { x with sortPending := rest })).modCtx r.ctx
    (fun c => { c with run := c.run.map (fun q => { q with ready := setBitAt q.ready g true }) })

/-- The members of string `g` show no rank. -/
def ranksCleared (g : Nat) (s : State) : State := s.each (bitList 64 (s.members g)) (fun n s => s.set (R.BC_SORT.RANKED n) 0)

/-- A cell shows its rank and its key. -/
def rankCell (x : (Nat × Nat) × Nat) (s : State) : State :=
  ((s.set (R.BC_SORT.RANKED x.1.1) 1).set (R.BC_SORT.RANK x.1.1) x.2).set (R.BC_SORT.KEY x.1.1) x.1.2

/-- The ranked cells show their ranks. -/
def cellsRanked (l : List (Nat × Nat)) (s : State) : State := s.each l.zipIdx rankCell

/-- The KEY_INVALID conditions of the members after a sort that ranked every cell. -/
def keysGood (g : Nat) (s : State) : State := s.each (bitList 64 (s.members g)) (fun n s => s.modCell n (fun c => { c with keyBad := false }))

theorem sortComplete_good {s : State} {g : Nat} {r : SortReq} {rest : List SortReq} (h : (s.str g).sortPending = r :: rest) (hbad : r.bad = []) :
    sortComplete g s = keysGood g (cellsRanked r.ranked (ranksCleared g (sortTaken g r rest s))) := by
  unfold sortComplete
  rw [h]
  dsimp only
  rw [hbad]
  rfl

/-- Only registers and the records of the cells follow once the sort has left the network. -/
theorem sortTaken_rest (g : Nat) (l : List (Nat × Nat)) (s : State) :
    (keysGood g (cellsRanked l (ranksCleared g s))).strs = s.strs ∧ (keysGood g (cellsRanked l (ranksCleared g s))).ctxs = s.ctxs := by
  unfold keysGood cellsRanked ranksCleared
  refine State.each_keeps (P := fun x => x.strs = s.strs ∧ x.ctxs = s.ctxs) ?_ fun _ _ _ hx => hx
  refine State.each_keeps (P := fun x => x.strs = s.strs ∧ x.ctxs = s.ctxs) ?_ fun _ _ _ hx => hx
  exact State.each_keeps (P := fun x => x.strs = s.strs ∧ x.ctxs = s.ctxs) ⟨rfl, rfl⟩ fun _ _ _ hx => hx

theorem keysGood_get (g : Nat) (s : State) (f : Fld) : (keysGood g s).get f = s.get f := State.each_get (fun n _ x => State.modCell_get x n _ f) s

/-- BC_SORT of cell `n` shows rank `i` and key `k`. -/
def State.ShowsRank (s : State) (n i k : Nat) : Prop :=
  s.get (R.BC_SORT.RANKED n) = 1 ∧ s.get (R.BC_SORT.RANK n) = i ∧ s.get (R.BC_SORT.KEY n) = k

theorem rankCell_self {n i k : Nat} (hi : i < 64) (hk : k < 65536) (s : State) : (rankCell ((n, k), i) s).ShowsRank n i k := by
  unfold rankCell
  refine ⟨?_, ?_, ?_⟩
  · rw [State.get_set_apart _ _ rfl, State.get_set_apart _ _ rfl, State.get_set_self]
    rfl
  · rw [State.get_set_apart _ _ rfl, State.get_set_self]
    exact Nat.mod_eq_of_lt hi
  · rw [State.get_set_self]
    exact Nat.mod_eq_of_lt hk

theorem rankCell_other {n m i k j v : Nat} (hne : m ≠ n) {s : State} (h : s.ShowsRank n i k) : (rankCell ((m, v), j) s).ShowsRank n i k := by
  have hword : ∀ f : Fld, f.addr = 0x8040C + 0x10 * n → f.lo < 32 → (rankCell ((m, v), j) s).get f = s.get f := by
    intro f haddr hlo
    have hkey : (R.BC_SORT.RANKED m).key ≠ f.key ∧ (R.BC_SORT.RANK m).key ≠ f.key ∧ (R.BC_SORT.KEY m).key ≠ f.key := by
      simp only [Fld.key, R.BC_SORT.RANKED, R.BC_SORT.RANK, R.BC_SORT.KEY]
      omega
    obtain ⟨hranked, hrank, hkey⟩ := hkey
    unfold rankCell
    rw [State.get_set_of_ne _ _ hkey, State.get_set_of_ne _ _ hrank, State.get_set_of_ne _ _ hranked]
  obtain ⟨hranked, hrank, hkey⟩ := h
  exact ⟨(hword _ rfl (show 31 < 32 by decide)).trans hranked, (hword _ rfl (show 16 < 32 by decide)).trans hrank,
    (hword _ rfl (show 0 < 32 by decide)).trans hkey⟩

/-- The cells of a ranking being different, each shows its place in it. -/
theorem cellsRanked_shows {l : List (Nat × Nat)} (hnodup : (l.map (·.1)).Nodup) {i : Nat} (h : i < l.length) (hi : i < 64) (hk : l[i].2 < 65536)
    (s : State) : (cellsRanked l s).ShowsRank l[i].1 i l[i].2 := by
  have hmem : (l[i], i) ∈ l.zipIdx := List.mem_zipIdx_iff_getElem?.2 (List.getElem?_eq_getElem h)
  refine State.each_sets (Q := fun x => x.ShowsRank l[i].1 i l[i].2) hmem (fun x => rankCell_self hi hk x) fun a ha x hx => ?_
  obtain ⟨⟨m, v⟩, j⟩ := a
  obtain ⟨hjl, hget⟩ : ∃ hjl : j < l.length, l[j] = (m, v) := List.getElem?_eq_some_iff.1 (List.mem_zipIdx_iff_getElem?.1 ha)
  by_cases hm : m = l[i].1
  · have hij : j = i := (hnodup.getElem_inj_iff (hi := by simpa using hjl) (hj := by simpa using h)).1 (by simp [hget, hm])
    subst hij
    rw [hget] at hk ⊢
    exact rankCell_self hi hk x
  · exact rankCell_other hm hx

/-! ### Commands -/

theorem exec_reserveOpen (g : Fin 8) (s : State) : exec (.reserveOpen g) s = .next (reserveOpen g s) := rfl
theorem exec_insert (n : Fin 64) (s : State) : exec (.insert n) s = .next (insertCell n s) := rfl
theorem exec_park (n : Fin 64) (s : State) : exec (.park n) s = .next (parkCell n s) := rfl
theorem exec_sortComplete (g : Fin 8) (s : State) : exec (.sortComplete g) s = .next (sortComplete g s) := rfl

/-- Settles O18: a cell that opens or closes is `cellMoved`, the reports that an insertion may raise leave it (`checkStrings_cells`), a parking in Armed
raises none (`checkStrings_idle`), and a sort writes one place for each cell of its ranking (`cellsRanked_shows`). -/
theorem stringsAndSorts : Obligations.StringsAndSorts := by
  unfold Obligations.StringsAndSorts
  refine ⟨?reserve, ?timeout, ?insert, ?insertRefused, ?park, ?parkRefused, ?sort⟩
  case reserve =>
    exact fun s g n hstate hstandby hen hcold hwant hcell => congrArg Host.Outcome.next (reserveOpen_opens hstate hstandby hen hcold hwant hcell)
  case timeout => exact fun s n hstate hframe => congrArg Host.Outcome.next (bypassTimeout_openFails hstate hframe)
  case insert =>
    intro s n hinsert
    have hkept := checkStrings_cells (.refl (cellMoved n 2 (s.set (R.BC_STAT.HELD_OUT n) 0)))
    rw [exec_insert, insertCell_inserts hinsert]
    refine ⟨_, rfl, ?_, ?_⟩
    · rw [hkept.get _ (heldOut_ofCells n.isLt), cellMoved_heldOut, State.get_set_self]
      rfl
    · exact (hkept.since n).trans (cellMoved_since ..)
  case insertRefused => exact fun s n h => congrArg Host.Outcome.next (insertCell_refused h)
  case park =>
    intro s n hstate hbal hstandby
    have hrun : (cellMoved n 4 (s.set (R.BC_STAT.HELD_OUT n) 1)).inState [.run] = false := by
      show s.inState [.run] = false
      simp [State.inState, hstate]
    obtain ⟨hregs, hcells, -⟩ := checkStrings_idle hrun
    rw [exec_park, parkCell_inUse hbal hstandby]
    refine ⟨_, rfl, ?_, ?_, ?_, ?_⟩
    · rw [State.get_of_regs hregs, cellMoved, State.modCell_get, State.get_set_self]
      rfl
    · rw [State.get_of_regs hregs, cellMoved_heldOut, State.get_set_self]
      rfl
    · rw [State.cell_of_cells hcells, cellMoved_since]
      rfl
    · have hheld : OnlyRegs s (s.set (R.BC_STAT.HELD_OUT n) 1) [R.BC_STAT.HELD_OUT n] := (OnlyRegs.of_regs rfl _).set 1 (by simp)
      have hmoved := (hheld.trans (cellMoved_onlyRegs n 4 _)).mono (m := [R.BC_STAT.STATE n, R.BC_STAT.HELD_OUT n]) (by simp)
      exact fun f hf => (State.get_of_regs hregs f).trans (hmoved f hf)
  case parkRefused => exact fun s n h => congrArg Host.Outcome.next (parkCell_refused h)
  case sort =>
    intro s g r rest hpend hbad hnodup hbound
    obtain ⟨hstrs, hctxs⟩ := sortTaken_rest g r.ranked (sortTaken g r rest s)
    rw [exec_sortComplete, sortComplete_good hpend hbad]
    refine ⟨_, rfl, ?_, fun q hq => ?_, fun i h hi => ?_⟩
    · rw [State.str_of_strs hstrs, sortTaken, State.str_of_strs (State.modCtx_strs ..), State.str_modStr_self]
    · refine ⟨{ q with ready := setBitAt q.ready g true }, ?_, bitAt_setBitAt_true ..⟩
      have hrun : ((s.modStr g fun x => { x with sortPending := rest }).ctx r.ctx).run = some q := hq
      rw [State.ctx_of_ctxs hctxs, sortTaken, State.ctx_modCtx_self, hrun]
      rfl
    · obtain ⟨-, hkey⟩ := hbound _ (List.getElem_mem h)
      obtain ⟨hranked, hrank, hkey⟩ := cellsRanked_shows hnodup h hi hkey (ranksCleared g (sortTaken g r rest s))
      rw [keysGood_get, keysGood_get, keysGood_get]
      exact ⟨hranked, hrank, hkey⟩

end Sys2Proof.Machine
end

section
/-!
PROOFS. The duplex pair (10_balancing_duplex.md, R297 to R305): what the third missed heartbeat leaves of a cell whose takeover is due already.
-/
namespace Sys2Proof.Machine

/-- A standby in Run, in frame 1, with two windows missed: cell 3 is ADMITTED, its frame has not begun, and a release received in frame 0 is due in it (R36). -/
def releaseDue : State :=
  { ((State.reset.set R.BAL_STAT.MISSES 2).set R.BAL_STAT.ROLE 2).set (R.LKN_STAT.ADMIT 3) 2 with
    pw := { state := .run }, ts := { tsc := 1024 }, dx := { current := true, decided := true }, cells := [(3, { ownNext := some (1, true) })] }

theorem exec_heartbeatWindowClose (s : State) : exec .heartbeatWindowClose s = .next (windowClose s) := rfl

/-- The takeover of the third miss passes over a cell that this device will own: the cell keeps the frame of its release. -/
theorem windowClose_releaseDue : ((windowClose releaseDue).cell 3).ownNext = some (releaseDue.frame, true) := by decide +kernel

/-- Refutes O19: on the third miss the statement dates the takeover of every ADMITTED cell to the frame after the present one, but a cell whose takeover is due
already, as one released in the frame before, is owned from the present frame (`releaseDue`). -/
theorem not_duplexHeartbeatsAndHandback : ¬ Obligations.DuplexHeartbeatsAndHandback := by
  unfold Obligations.DuplexHeartbeatsAndHandback
  rintro ⟨-, -, -, -, hthirdMiss, -⟩
  obtain ⟨t, hexec, -, -, -, hdue⟩ := hthirdMiss releaseDue rfl rfl rfl (by decide) rfl (by decide)
  obtain rfl : windowClose releaseDue = t := Host.Outcome.next.inj ((exec_heartbeatWindowClose _).symm.trans hexec)
  have hlate := windowClose_releaseDue.symm.trans (hdue 3 (by decide) (by decide) (by decide))
  exact absurd hlate (by decide)

end Sys2Proof.Machine
end

section
/-!
PROOFS. Banks, counts and memories of the control engine (11_control_engine.md, R319, R326, R327, R334, R337): what a table reads as after a list of writes, what a
family of fields reads as after each of it is written, and the words that a region and CE_MDATA reach.
-/
namespace Sys2Proof.Machine

/-! ### A list of writes -/

theorem Tab.get_foldl_set_of_ne {α β : Type} [DecidableEq α] {d : α} {key : β → Nat} {val : β → α} {l : List β} {a : Nat} (h : ∀ x ∈ l, key x ≠ a)
    (t : Tab α) : Tab.get d (l.foldl (fun t x => Tab.set d t (key x) (val x)) t) a = Tab.get d t a := by
  induction l generalizing t with
  | nil => rfl
  | cons b l ih =>
    obtain ⟨hb, hl⟩ := List.forall_mem_cons.1 h
    exact (ih hl _).trans (Tab.get_set_of_ne d t _ hb)

/-- The last write of a key decides, and here all writes of the key agree. -/
theorem Tab.get_foldl_set_of_mem {α β : Type} [DecidableEq α] {d : α} {key : β → Nat} {val : β → α} {l : List β} {x : β} (hx : x ∈ l)
    (h : ∀ y ∈ l, key y = key x → val y = val x) (t : Tab α) : Tab.get d (l.foldl (fun t x => Tab.set d t (key x) (val x)) t) (key x) = val x := by
  induction l using List.reverseRecOn with
  | nil => cases hx
  | append_singleton l b ih =>
    rw [List.foldl_append, List.foldl_cons, List.foldl_nil]
    by_cases hb : key b = key x
    · rw [hb, Tab.get_set_self]
      exact h b (by simp) hb
    · have hl : x ∈ l := (List.mem_append.1 hx).resolve_right fun e => hb (List.mem_singleton.1 e ▸ rfl)
      rw [Tab.get_set_of_ne d _ _ hb]
      exact ih hl fun y hy => h y (List.mem_append_left _ hy)

/-- Each field of a family is written once, and what it is given hangs on no write of another. -/
theorem State.each_set_get {F : Nat → Fld} {v : Nat → State → Nat} {n j : Nat} (hj : j < n) (hF : ∀ i, i ≠ j → (F i).key ≠ (F j).key)
    (hv : ∀ i x y, i ≠ j → v j (x.set (F i) y) = v j x) (s : State) :
    (s.each (List.range n) fun i x => x.set (F i) (v i x)).get (F j) = v j s % 2 ^ (F j).width := by
  refine State.each_once (P := fun x => v j x = v j s) (Q := fun x => x.get (F j) = v j s % 2 ^ (F j).width) (List.mem_range.2 hj) List.nodup_range rfl
    (fun i x hi hx => (hv i x _ hi).trans hx) (fun x hx => ?_) fun i x hi hx => (State.get_set_of_ne x _ (hF i hi)).trans hx
  rw [State.get_set_self, hx]

theorem OnlySets.each_set {s t : State} {l : List Fld} {is : List Nat} {F : Nat → Fld} (h : OnlySets s t l) (v : Nat → State → Nat)
    (hF : ∀ i ∈ is, F i ∈ l) : OnlySets s (t.each is fun i x => x.set (F i) (v i x)) l :=
  State.each_keeps (P := fun x => OnlySets s x l) h fun i hi _ hx => hx.set _ (hF i hi)

/-! ### Bank requests, R326 -/

/-- What stood before the first request of this core cycle is kept for the boundaries in it (R20). -/
def swapNoted (k : Nat) (s : State) : State :=
  if s.cyc.oldSwaps.any (fun e => e.1 == k) then s
  else s.modCyc (fun c => { c with oldSwaps := (k, s.bit (R.CX_STAT.SWAP_PENDING k), s.bit (R.CX_STAT.PEND_BANK k)) :: c.oldSwaps })

theorem swapNoted_frame (k : Nat) (s : State) : swapNoted k s = { s with cyc := (swapNoted k s).cyc } := by
  unfold swapNoted; split <;> rfl

theorem requestBank_eq (k : Nat) (b : Bool) (s : State) :
    requestBank k b s = ((swapNoted k s).set (R.CX_STAT.SWAP_PENDING k) 1).setBit (R.CX_STAT.PEND_BANK k) b := rfl

/-- A bank request pends with its target and writes nothing else. -/
theorem requestBank_holds (k : Nat) (b : Bool) (s : State) :
    (requestBank k b s).get (R.CX_STAT.SWAP_PENDING k) = 1 ∧ (requestBank k b s).get (R.CX_STAT.PEND_BANK k) = b2n b
      ∧ OnlyRegs s (requestBank k b s) [R.CX_STAT.SWAP_PENDING k, R.CX_STAT.PEND_BANK k]
      ∧ requestBank k b s = { s with regs := (requestBank k b s).regs, cyc := (requestBank k b s).cyc } := by
  have hregs : (swapNoted k s).regs = s.regs := by rw [swapNoted_frame]
  refine ⟨?_, ?_, ?_, ?_⟩
  · rw [requestBank_eq, State.get_setBit_apart _ _ rfl, State.get_set_self]; rfl
  · rw [requestBank_eq, State.setBit, State.get_set_self]; cases b <;> rfl
  · exact ((OnlyRegs.of_regs hregs _).set 1 (by simp)).set _ (by simp)
  · rw [requestBank_eq, swapNoted_frame]; rfl

/-! ### Counts and the histogram, R319 and R337 -/

theorem State.get_clearCount_self (s : State) (f : Fld) : (s.clearCount f).get f = s.counted f := by
  rw [State.clearCount, State.get_set_self]
  exact Nat.mod_eq_of_lt (Nat.lt_of_le_of_lt (Nat.min_le_right ..) (Nat.sub_lt (Nat.two_pow_pos _) Nat.one_pos))

/-- A counter is cleared to what this core cycle has counted, which no clear of another changes. -/
theorem State.counted_clearCount (s : State) (f g : Fld) : (s.clearCount f).counted g = s.counted g := rfl

theorem State.get_clearCount_of_ne (s : State) {f g : Fld} (h : f.key ≠ g.key) : (s.clearCount f).get g = s.get g := State.get_set_of_ne s _ h

theorem OnlySets.clearCount {s t : State} {l : List Fld} {f : Fld} (h : OnlySets s t l) (hf : f ∈ l) : OnlySets s (t.clearCount f) l := h.set _ hf

theorem hist_key_ne (k : Nat) {i j : Nat} (h : i ≠ j) : (R.CX_HIST k i).key ≠ (R.CX_HIST k j).key := by
  simp only [Fld.key, R.CX_HIST]; omega

/-- What a clear of the delay histogram writes. -/
def histFields (k : Nat) : List Fld := R.CX_MAX.MAXDELAY k :: (List.range 16).map (R.CX_HIST k)

theorem clearHist_onlySets (k : Nat) (s : State) : OnlySets s (clearHist k s) (histFields k) :=
  (OnlySets.each_set (F := R.CX_HIST k) (.refl s _) (fun _ _ => 0) fun _ hi => List.mem_cons_of_mem _ (List.mem_map_of_mem hi)).set 0 List.mem_cons_self

theorem clearHist_bin (k : Nat) {i : Nat} (hi : i < 16) (s : State) : (clearHist k s).get (R.CX_HIST k i) = 0 := by
  have hne : (R.CX_MAX.MAXDELAY k).key ≠ (R.CX_HIST k i).key := by simp only [Fld.key, R.CX_MAX.MAXDELAY, R.CX_HIST]; omega
  rw [clearHist, State.get_set_of_ne _ 0 hne]
  exact State.each_set_get (F := R.CX_HIST k) (v := fun _ _ => 0) hi (fun _ h => hist_key_ne k h) (fun _ _ _ _ => rfl) s

theorem clearHist_maxDelay (k : Nat) (s : State) : (clearHist k s).get (R.CX_MAX.MAXDELAY k) = 0 := State.get_set_self _ (R.CX_MAX.MAXDELAY k) 0

/-! ### The memories, R327 and R334 -/

theorem cbiStore_frame (m lo n : Nat) (s : State) : cbiStore m lo n s = { s with fc := (cbiStore m lo n s).fc } := by
  unfold cbiStore; dsimp only; split <;> rfl

@[simp] theorem cbiStore_regs (m lo n : Nat) (s : State) : (cbiStore m lo n s).regs = s.regs := by rw [cbiStore_frame]
@[simp] theorem cbiStore_eng (m lo n : Nat) (s : State) : (cbiStore m lo n s).eng = s.eng := by rw [cbiStore_frame]

/-- A coefficient bank with words written from a base. -/
def regionPut (base : Nat) (ws : List Word) (t : Tab Nat) : Tab Nat := ws.zipIdx.foldl (fun t x => Tab.set 0 t ((base + x.2) % 16384) x.1.toNat) t

theorem writeRegion_bankB {s : State} {k : Nat} {ws : List Word} (hlen : ws.length = s.get (R.CX_COEF.COEF_LEN k)) (hslate : s.inState [.slate] = false) :
    writeRegion k true ws s = (cbiStore 2 (s.get (R.CX_COEF.COEF_BASE k)) ws.length (noteBank true s)).modEng
      (fun e => { e with bankB := regionPut (s.get (R.CX_COEF.COEF_BASE k)) ws e.bankB }) :=
  if_pos ⟨hlen, by simp [hslate]⟩

section
variable {base : Nat} {ws : List Word} (h : base + ws.length ≤ 16384)
include h

/-- No place of a region that lies within a bank wraps. -/
theorem region_place {x : Word × Nat} (hx : x ∈ ws.zipIdx) : (base + x.2) % 16384 = base + x.2 ∧ x.2 < ws.length := by
  have hlt := List.snd_lt_of_mem_zipIdx hx
  exact ⟨Nat.mod_eq_of_lt (by omega), hlt⟩

theorem regionPut_inside {i : Nat} (hi : i < ws.length) (t : Tab Nat) : Tab.get 0 (regionPut base ws t) (base + i) = ws[i].toNat := by
  have hmem : (ws[i], i) ∈ ws.zipIdx := List.mem_zipIdx_iff_getElem?.2 (List.getElem?_eq_getElem hi)
  obtain ⟨hplace, -⟩ := region_place h hmem
  have hread := Tab.get_foldl_set_of_mem (d := 0) (key := fun x : Word × Nat => (base + x.2) % 16384) (val := fun x => x.1.toNat) hmem (fun y hy hkey => ?_) t
  · rwa [hplace] at hread
  · obtain ⟨w, j⟩ := y
    rw [(region_place h hy).1, hplace] at hkey
    obtain rfl : j = i := Nat.add_left_cancel hkey
    have hw := List.mem_zipIdx_iff_getElem?.1 hy
    rw [List.getElem?_eq_getElem hi] at hw
    exact congrArg BitVec.toNat (Option.some.inj hw).symm

theorem regionPut_outside {a : Nat} (ha : a < base ∨ base + ws.length ≤ a) (t : Tab Nat) : Tab.get 0 (regionPut base ws t) a = Tab.get 0 t a :=
  Tab.get_foldl_set_of_ne (fun x hx => by
    obtain ⟨hplace, hlt⟩ := region_place h hx
    omega) t

end

theorem memWrite_bankA {s : State} (hslate : s.inState [.slate] = false) (w v : Nat) :
    memWrite 1 w v s = (cbiStore 1 w 1 (noteBank false s)).modEng (fun e => { e with bankA := Tab.set 0 e.bankA w v }) :=
  if_neg (by simp [hslate])

theorem nextMaddr_word (s : State) : (nextMaddr s).get R.CE_MADDR.WORD = (s.get R.CE_MADDR.WORD + 1) % memWords (s.get R.CE_MADDR.MEM) := by
  have hwords : 0 < memWords (s.get R.CE_MADDR.MEM) ∧ memWords (s.get R.CE_MADDR.MEM) ≤ 2 ^ 16 := by unfold memWords; split_ifs <;> decide
  obtain ⟨hpos, hle⟩ := hwords
  rw [nextMaddr, State.get_set_self]
  exact Nat.mod_eq_of_lt (Nat.lt_of_lt_of_le (Nat.mod_lt _ hpos) hle)

theorem exec_bankSwapRequest (k : Fin 128) (s : State) : exec (.bankSwapRequest k) s = .next (requestBank k (!s.bit (R.CX_STAT.BANK k)) s) := rfl
theorem exec_bankARequest (k : Fin 128) (s : State) : exec (.bankARequest k) s = .next (requestBank k false s) := rfl
theorem exec_bankBRequest (k : Fin 128) (s : State) : exec (.bankBRequest k) s = .next (requestBank k true s) := rfl
theorem exec_contextCntClr (k : Fin 128) (s : State) : exec (.contextCntClr k) s = .next (clearCtxCounts k s) := rfl
theorem exec_histogramClear (k : Fin 128) (s : State) : exec (.histogramClear k) s = .next (clearHist k s) := rfl
theorem exec_histogramShiftWrite (k : Fin 128) (v : Nat) (s : State) :
    exec (.histogramShiftWrite k v) s = .next ((clearHist k s).set (R.CX_HCFG.SHIFT k) v) := rfl
theorem exec_coefficientRegionWrite (k : Fin 128) (bank : Bool) (ws : List Word) (s : State) :
    exec (.coefficientRegionWrite k bank ws) s = .next (writeRegion k bank ws s) := rfl
theorem exec_memoryDataRead (s : State) : exec .memoryDataRead s = .next (nextMaddr s) := rfl

/-- In memory 1 of CE_MADDR, CE_MDATA reaches coefficient bank A. -/
theorem exec_memoryDataWrite_bankA {s : State} (hmem : s.get R.CE_MADDR.MEM = 1) (v : Word) :
    exec (.memoryDataWrite v) s = .next (nextMaddr (memWrite 1 (s.get R.CE_MADDR.WORD % 16384) v.toNat s)) := by
  show Host.Outcome.next _ = _
  rw [hmem]
  rfl

/-- The counts of a context hold what this core cycle has counted, and its longest run is 0. -/
theorem clearCtxCounts_holds (k : Nat) (s : State) :
    (clearCtxCounts k s).get (R.CX_COUNTS.OVERRUNS k) = s.counted (R.CX_COUNTS.OVERRUNS k)
      ∧ (clearCtxCounts k s).get (R.CX_COUNTS.NOT_COMMITTED k) = s.counted (R.CX_COUNTS.NOT_COMMITTED k)
      ∧ (clearCtxCounts k s).get (R.CX_SAMPLES.RELEASES k) = s.counted (R.CX_SAMPLES.RELEASES k)
      ∧ (clearCtxCounts k s).get (R.CX_MAX.MAXRUN k) = 0
      ∧ OnlySets s (clearCtxCounts k s) [R.CX_COUNTS.OVERRUNS k, R.CX_COUNTS.NOT_COMMITTED k, R.CX_SAMPLES.RELEASES k, R.CX_MAX.MAXRUN k] := by
  have hmax : (R.CX_MAX.MAXRUN k).key ≠ (R.CX_COUNTS.OVERRUNS k).key := by simp only [Fld.key, R.CX_MAX.MAXRUN, R.CX_COUNTS.OVERRUNS]; omega
  have hreleases : (R.CX_SAMPLES.RELEASES k).key ≠ (R.CX_COUNTS.NOT_COMMITTED k).key := by
    simp only [Fld.key, R.CX_SAMPLES.RELEASES, R.CX_COUNTS.NOT_COMMITTED]; omega
  refine ⟨?_, ?_, ?_, State.get_set_self _ (R.CX_MAX.MAXRUN k) 0, ?_⟩
  · rw [clearCtxCounts, State.get_set_of_ne _ 0 hmax, State.get_clearCount_of_ne _ (Fld.key_ne_of_apart rfl),
      State.get_clearCount_of_ne _ (Fld.key_ne_of_apart rfl), State.get_clearCount_self]
  · rw [clearCtxCounts, State.get_set_apart _ 0 rfl, State.get_clearCount_of_ne _ hreleases, State.get_clearCount_self, State.counted_clearCount]
  · rw [clearCtxCounts, State.get_set_apart _ 0 rfl, State.get_clearCount_self, State.counted_clearCount, State.counted_clearCount]
  · exact ((((OnlySets.refl s _).clearCount (by simp)).clearCount (by simp)).clearCount (by simp)).set 0 (by simp)

/-- Settles O21: bank requests by `requestBank_holds`, the clears by `clearCtxCounts_holds` and the lemmas of `clearHist`, a region by `regionPut_inside` and
`regionPut_outside`, and CE_MDATA by `memWrite_bankA` and `nextMaddr_word`. -/
theorem banksCountsAndMemories : Obligations.BanksCountsAndMemories := by
  unfold Obligations.BanksCountsAndMemories
  refine ⟨?swap, ?bankA, ?bankB, ?counts, ?hist, ?shift, ?region, ?write, ?read⟩
  case swap =>
    intro s k
    obtain ⟨hpending, hbank, hregs, hframe⟩ := requestBank_holds k (!s.bit (R.CX_STAT.BANK k)) s
    exact ⟨_, exec_bankSwapRequest k s, hpending, by rw [State.bit, hbank]; cases s.bit (R.CX_STAT.BANK k) <;> rfl, hregs, hframe⟩
  case bankA => exact fun s k => ⟨_, exec_bankARequest k s, requestBank_holds k false s⟩
  case bankB => exact fun s k => ⟨_, exec_bankBRequest k s, requestBank_holds k true s⟩
  case counts => exact fun s k => ⟨_, exec_contextCntClr k s, clearCtxCounts_holds k s⟩
  case hist => exact fun s k => ⟨_, exec_histogramClear k s, fun i hi => clearHist_bin k hi s, clearHist_maxDelay k s, clearHist_onlySets k s⟩
  case shift =>
    intro s k v
    refine ⟨_, exec_histogramShiftWrite k v s, fun i hi => ?_, State.get_set_self _ (R.CX_HCFG.SHIFT k) v, ?_⟩
    · have hne : (R.CX_HCFG.SHIFT k).key ≠ (R.CX_HIST k i).key := by simp only [Fld.key, R.CX_HCFG.SHIFT, R.CX_HIST]; omega
      rw [State.get_set_of_ne _ v hne, clearHist_bin k hi]
    · obtain ⟨hstate, hregs⟩ := clearHist_onlySets k s
      exact OnlySets.set ⟨hstate, hregs.mono fun f hf => List.mem_cons_of_mem _ hf⟩ v List.mem_cons_self
  case region =>
    intro s k ws hlen hbase hslate
    rw [exec_coefficientRegionWrite, writeRegion_bankB hlen hslate]
    refine ⟨_, rfl, fun i hi => ?_, fun a ha => ?_, ?_, ?_⟩
    · exact regionPut_inside hbase hi _
    · rw [State.modEng_eng, cbiStore_eng]
      exact regionPut_outside hbase ha _
    · rw [State.modEng_eng, cbiStore_eng]; rfl
    · rw [State.modEng_regs, cbiStore_regs]; rfl
  case write =>
    intro s v hmem hslate
    have hregs : (memWrite 1 (s.get R.CE_MADDR.WORD % 16384) v.toNat s).regs = s.regs := by
      rw [memWrite_bankA hslate, State.modEng_regs, cbiStore_regs]; rfl
    refine ⟨_, exec_memoryDataWrite_bankA hmem v, fun a => ?_, ?_, ?_⟩
    · rw [nextMaddr, State.set_eng, memWrite_bankA hslate, State.modEng_eng, cbiStore_eng]
      simp only [Tab.get_set, eq_comm (a := a)]
      rfl
    · rw [nextMaddr_word, State.get_of_regs hregs, State.get_of_regs hregs, hmem]
      rfl
    · exact (OnlyRegs.of_regs hregs _).set _ (by simp)
  case read => exact fun s => ⟨_, exec_memoryDataRead s, nextMaddr_word s, (OnlySets.refl s _).set _ (by simp)⟩

end Sys2Proof.Machine
end

section
/-!
PROOFS. A sample of a context begins (11_control_engine.md, R312 to R323): set-points and banks at its boundary, what the boundary latches, triggers, overruns, and
the enabling, disabling and restart of a context.
-/
namespace Sys2Proof.Machine

/-! ### Fields of a context -/

/-- A field in the words of the contexts is in no word that a report may write, and is no applied set-point. -/
theorem contextField_places {f : Fld} (hlow : 0x91000 ≤ f.addr) (hhigh : f.addr < 0x95000) (hlo : f.lo < 32) :
    ¬ ReportKey f.key ∧ ∀ k j, (R.SP_APP k j).key ≠ f.key := by
  refine ⟨?_, fun k j => ?_⟩
  · simp only [ReportKey, Fld.key, O.RUN_REQUEST, obj, List.mem_cons, List.not_mem_nil, or_false]
    omega
  · simp only [Fld.key, R.SP_APP]
    omega

theorem spApp_key_ne (k : Nat) {i j : Nat} (h : i ≠ j) : (R.SP_APP k i).key ≠ (R.SP_APP k j).key := by
  simp only [Fld.key, R.SP_APP]; omega

/-- The applied set-points of a context. -/
def spApps (k : Nat) : List Fld := (List.range 8).map (R.SP_APP k)

theorem spApp_mem (k : Nat) {j : Nat} (h : j ∈ List.range 8) : R.SP_APP k j ∈ spApps k := List.mem_map_of_mem h

theorem OnlyRegs.get_of_spApps {s t : State} {k : Nat} {f : Fld} (h : OnlyRegs s t (spApps k)) (hf : ∀ j, (R.SP_APP k j).apart f = true) :
    t.get f = s.get f :=
  h.get_apart (List.all_eq_true.2 fun g hg => by obtain ⟨j, -, rfl⟩ := List.mem_map.1 hg; exact hf j)

/-! ### Set-points and banks at a boundary, R326 and R328 -/

/-- The targets and steps that a boundary reads (R20). -/
def State.spsRead (s : State) (k : Nat) : List Nat × List Nat :=
  match s.cyc.oldSps.find? (fun e => e.1 == k) with | some e => e.2 | none => s.spNow k

theorem State.spsRead_now {s : State} {k : Nat} (h : s.cyc.oldSps = []) : s.spsRead k = s.spNow k := by
  rw [State.spsRead, h]; rfl

/-- What a boundary gives set-point `j` of a context, from the targets and steps read. -/
def spStepped (p : List Nat × List Nat) (k j : Nat) (s : State) : Nat := stepSp (p.1[j]?.getD 0) (p.2[j]?.getD 0) (s.get (R.SP_APP k j))

theorem advanceSps_eq (k : Nat) (s : State) :
    advanceSps k s = s.each (List.range 8) (fun j x => x.set (R.SP_APP k j) (spStepped (s.spsRead k) k j x)) := rfl

theorem advanceSps_onlySets (k : Nat) (s : State) : OnlySets s (advanceSps k s) (spApps k) :=
  OnlySets.each_set (F := R.SP_APP k) (.refl s _) _ fun _ hj => spApp_mem k hj

theorem advanceSps_applied {s : State} {k j : Nat} (hnow : s.cyc.oldSps = []) (hj : j < 8) :
    (advanceSps k s).get (R.SP_APP k j) = stepSp (s.target k j) (s.get (R.SP_STEP k j)) (s.get (R.SP_APP k j)) % 2 ^ 32 := by
  rw [advanceSps_eq, State.spsRead_now hnow,
    State.each_set_get (F := R.SP_APP k) hj (fun _ h => spApp_key_ne k h) fun i x y h => by rw [spStepped, spStepped, State.get_set_of_ne x y (spApp_key_ne k h)]]
  simp [spStepped, State.spNow, hj, R.SP_APP]

theorem takeBank_none {s : State} {k : Nat} (hpend : s.bit (R.CX_STAT.SWAP_PENDING k) = false) (hold : s.cyc.oldSwaps = []) : takeBank k s = s := by
  simp [takeBank, hpend, hold]

theorem takeBank_get {f : Fld} {k : Nat} (hbank : (R.CX_STAT.BANK k).apart f = true) (hpend : (R.CX_STAT.SWAP_PENDING k).apart f = true) (s : State) :
    (takeBank k s).get f = s.get f := by
  unfold takeBank
  split
  · split
    · exact State.get_setBit_apart s _ hbank
    · rfl
  · split
    · rw [State.get_set_apart _ _ hpend, State.get_set_apart _ _ hbank]
    · rfl

/-! ### The injection, R330 -/

theorem endInjection_on {s : State} (h : s.eng.inj.on = true) :
    endInjection s = raise Src.CE_INJ_DONE { s with eng := { s.eng with inj := { s.eng.inj with on := false, value := 0 } } } := by
  simp only [endInjection, stopInjection, h, if_true, raise, raiseAll, raiseLeaves, List.append_nil]

theorem endInjection_off {s : State} (h : s.eng.inj.on = false) : endInjection s = s := by
  simp only [endInjection, stopInjection, h]; rfl

theorem checkInjection_off {s : State} (h : s.eng.inj.on = false) : checkInjection s = s := by
  simp [checkInjection, h]

theorem endInjection_get {f : Fld} (hf : ¬ ReportKey f.key) (s : State) : (endInjection s).get f = s.get f := by
  cases h : s.eng.inj.on
  · rw [endInjection_off h]
  · rw [endInjection_on h, raise_get hf (.of_report hf (by decide) rfl (by decide))]; rfl

theorem nextInjection_get {f : Fld} (hf : ¬ ReportKey f.key) (s : State) : (nextInjection s).get f = s.get f := by
  unfold nextInjection
  extract_lets i len
  split
  · exact endInjection_get hf s
  · rfl

/-! ### The boundary, R316 -/

/-- The injection moves on at a boundary of its context. -/
def sampleInjected (k : Nat) (s : State) : State := if s.get R.INJ_CFG.INJ_CTX = k ∧ s.eng.inj.on then nextInjection s else s

/-- The sorts of a context's strings enter the network (R295). -/
def sortsAsked (k : Nat) (s : State) : State :=
  s.each (bitList 8 (s.get (R.CX_CFG.STRINGS k))) (fun i x => x.modStr i (fun y => { y with sortPending := y.sortPending ++ [x.sortOf k i] }))

/-- The state that a sample latches. -/
def sampleLatched (k : Nat) (s : State) : State := sortsAsked k (sampleInjected k (takeBank k (advanceSps k s)))

/-- The context computes a sample from now. -/
def sampleStarted (k : Nat) (q : Sample) (s : State) : State :=
  (s.set (R.CX_STAT.STATE k) 2).modCtx k (fun c => { c with run := some q, lastAt := some s.ts.tsc })

/-- A sample at its entry, with what it latches of a state. -/
structure Sample.Begins (q : Sample) (k : Nat) (s : State) : Prop where
  pc : q.pc = s.get (R.CX_CFG.ENTRY k)
  v : q.v = (s.ctx k).v
  p : q.p = (s.ctx k).p
  atTsc : q.atTsc = s.ts.tsc
  issues : q.issues = 0
  ended : q.ended = false
  frames : q.frames = s.frames

theorem boundary_begins (k : Nat) (s : State) : ∃ q : Sample, q.Begins k (sampleLatched k s) ∧ boundary k s = sampleStarted k q (sampleLatched k s) :=
  ⟨_, ⟨rfl, rfl, rfl, rfl, rfl, rfl, rfl⟩, rfl⟩

theorem sampleStarted_ctx (k : Nat) (q : Sample) (s : State) :
    (sampleStarted k q s).ctx k = { s.ctx k with run := some q, lastAt := some s.ts.tsc } := State.ctx_modCtx_self (s.set (R.CX_STAT.STATE k) 2) k _

theorem sampleStarted_state (k : Nat) (q : Sample) (s : State) : (sampleStarted k q s).ctxState k = 2 := State.get_set_self s (R.CX_STAT.STATE k) 2

theorem sampleStarted_get {f : Fld} {k : Nat} (h : (R.CX_STAT.STATE k).key ≠ f.key) (q : Sample) (s : State) :
    (sampleStarted k q s).get f = s.get f := State.get_set_of_ne s 2 h

theorem sampleStarted_onlyRegs {s t : State} {k : Nat} {l : List Fld} (h : OnlyRegs s t l) (q : Sample) :
    OnlyRegs s (sampleStarted k q t) (R.CX_STAT.STATE k :: l) := by
  have hset : OnlyRegs s (t.set (R.CX_STAT.STATE k) 2) (R.CX_STAT.STATE k :: l) :=
    OnlyRegs.set (h.mono fun f hf => List.mem_cons_of_mem _ hf) 2 List.mem_cons_self
  exact hset

theorem State.frames_of_links {s t : State} (h : t.links = s.links) : t.frames = s.frames := by simp only [State.frames, State.link, h]

/-- What a sample latches beside its set-points is as before they advance. -/
theorem Sample.Begins.of_advanced {q : Sample} {k : Nat} {s : State} (hk : k < 128) (h : q.Begins k (advanceSps k s)) : q.Begins k s := by
  obtain ⟨hpc, hv, hp, hat, hissues, hended, hframes⟩ := h
  obtain ⟨hframe, honly⟩ := advanceSps_onlySets k s
  have hctx : (advanceSps k s).ctx k = s.ctx k := State.ctx_of_ctxs (by rw [hframe]) k
  have hentry : (advanceSps k s).get (R.CX_CFG.ENTRY k) = s.get (R.CX_CFG.ENTRY k) := honly _ fun hmem => by
    obtain ⟨g, hg, e⟩ := List.mem_map.1 hmem
    obtain ⟨j, -, rfl⟩ := List.mem_map.1 hg
    simp only [Fld.key, R.SP_APP, R.CX_CFG.ENTRY] at e
    omega
  exact ⟨hpc.trans hentry, hv.trans (by rw [hctx]), hp.trans (by rw [hctx]), hat.trans (by rw [hframe]), hissues, hended,
    hframes.trans (State.frames_of_links (by rw [hframe]))⟩

theorem sampleLatched_plain {s : State} {k : Nat} (hinj : s.eng.inj.on = false) (hstrings : s.get (R.CX_CFG.STRINGS k) = 0)
    (hpend : s.bit (R.CX_STAT.SWAP_PENDING k) = false) (hswaps : s.cyc.oldSwaps = []) : sampleLatched k s = advanceSps k s := by
  obtain ⟨hframe, hregs⟩ := advanceSps_onlySets k s
  have hbank : takeBank k (advanceSps k s) = advanceSps k s :=
    takeBank_none (by rw [State.bit, hregs.get_of_spApps fun _ => rfl]; exact hpend) (by rw [hframe]; exact hswaps)
  have hoff : sampleInjected k (advanceSps k s) = advanceSps k s := if_neg fun h => by
    rw [hframe] at h
    exact Bool.false_ne_true (hinj.symm.trans h.2)
  rw [sampleLatched, hbank, hoff, sortsAsked, hregs.get_of_spApps fun _ => rfl, hstrings]
  rfl

/-- What a boundary latches leaves a field in the words of the contexts, but for the bank and its request. -/
theorem sampleLatched_get {f : Fld} {k : Nat} (hlow : 0x91000 ≤ f.addr) (hhigh : f.addr < 0x95000) (hlo : f.lo < 28) (s : State) :
    (sampleLatched k s).get f = s.get f := by
  obtain ⟨hreport, hsp⟩ := contextField_places hlow hhigh (by omega)
  have hsorts : ∀ x, (sortsAsked k x).get f = x.get f := fun x => by
    unfold sortsAsked
    refine State.each_get (fun i _ y => ?_) x
    exact State.modStr_get y i _ f
  have hinj : ∀ x, (sampleInjected k x).get f = x.get f := fun x => by
    unfold sampleInjected
    split
    · exact nextInjection_get hreport x
    · rfl
  have hbank : (R.CX_STAT.BANK k).apart f = true ∧ (R.CX_STAT.SWAP_PENDING k).apart f = true := by
    simp [Fld.apart, R.CX_STAT.BANK, R.CX_STAT.SWAP_PENDING]
    omega
  obtain ⟨hbank, hpend⟩ := hbank
  rw [sampleLatched, hsorts, hinj, takeBank_get hbank hpend]
  exact State.each_get (fun j _ x => State.get_set_of_ne x _ (hsp k j)) s

theorem State.frames_get {n : Nat} (hn : n < 64) (s : State) : Tab.get [] s.frames n = (s.link n).up :=
  Tab.get_foldl_set_of_mem (key := id) (val := fun n => (s.link n).up) (List.mem_range.2 hn) (fun y _ h => by rw [show y = n from h]) []

/-! ### Triggers, R312, R313, R320 and R321 -/

/-- A trigger is accepted now. -/
def triggerTaken (k : Nat) (s : State) : State := s.modCtx k (fun c => { c with lastTrig := some s.ts.tsc })

/-- An overrun is counted and reported. -/
def overrunCounted (k : Nat) (s : State) : State := raise (Src.CX_OVERRUN k) (s.inc (R.CX_COUNTS.OVERRUNS k))

theorem State.takesTriggers_of_active {s : State} {k : Nat} (hactive : s.ctxActive k = true) (hstate : s.pw.state = .run) : s.takesTriggers k = true := by
  have hin : s.inState [.armed, .run, .safe] = true := by simp [State.inState, hstate]
  rw [State.takesTriggers, hin, Bool.and_true]
  exact hactive

theorem trigger_early {s : State} {k u : Nat} (htakes : s.takesTriggers k = true) (hlast : (s.ctx k).lastTrig = some u) (hearly : s.ts.tsc < u + 5120) :
    trigger k s = raise (Src.CX_TRIG_DROPPED k) (s.modCtx k (fun c => { c with drops := c.drops + 1 })) := by
  simp only [trigger, htakes, hlast, hearly, decide_true, if_true]

/-- Nothing is released where no program has ended. -/
theorem release_unended {s : State} {k : Nat} (h : (s.ctx k).run.all (fun q => !q.ended) = true) : release k s = s := by
  unfold release
  cases hrun : (s.ctx k).run with
  | none => rfl
  | some q =>
    have hended : q.ended = false := by simpa [hrun] using h
    simp [hended]

section
variable {s : State} {k : Nat} (htakes : s.takesTriggers k = true) (hlast : (s.ctx k).lastTrig = none)
  (hrun : (s.ctx k).run.all (fun q => !q.ended) = true)
include htakes hlast hrun

theorem trigger_first : trigger k s = if (triggerTaken k s).ctxState k = 1 then boundary k (triggerTaken k s)
    else if (overrunCounted k (triggerTaken k s)).bit (R.CX_CFG.POLICY k) then abortCtx k (overrunCounted k (triggerTaken k s))
    else boundary k (abandon k (overrunCounted k (triggerTaken k s))) := by
  have hrelease : release k (triggerTaken k s) = triggerTaken k s := release_unended (by rw [triggerTaken, State.ctx_modCtx_self]; exact hrun)
  simp only [triggerTaken] at hrelease
  simp only [trigger, htakes, hlast, if_true, Bool.false_eq_true, if_false, hrelease]
  rfl

theorem trigger_idle (hidle : s.ctxState k = 1) : trigger k s = boundary k (triggerTaken k s) :=
  (trigger_first htakes hlast hrun).trans (if_pos hidle)

end

theorem overrunCounted_get {f : Fld} {k : Nat} (hlow : 0x91000 ≤ f.addr) (hhigh : f.addr < 0x95000) (hlo : f.lo < 32)
    (hne : (R.CX_CAUSE.OVERRUN k).key ≠ f.key) (s : State) : (overrunCounted k s).get f = (s.inc (R.CX_COUNTS.OVERRUNS k)).get f :=
  raise_get (contextField_places hlow hhigh hlo).1 (.of_leaf (show 9 ≤ 16 by decide) rfl hne) _

theorem abandon_get {f : Fld} {k : Nat} (hne : R.CAP_STAT.GAPS.key ≠ f.key) (s : State) : (abandon k s).get f = s.get f := by
  unfold abandon countGap
  split
  · split
    · exact State.get_inc_of_ne _ hne
    · rfl
  · rfl

/-- A trigger that finds the context computing counts an overrun, and the sample that it starts runs from the entry. -/
theorem trigger_overrun {s : State} {k : Nat} (hk : k < 128) (hstate : s.pw.state = .run) (hcomputes : s.ctxState k = 2) (hlast : (s.ctx k).lastTrig = none)
    (hrun : (s.ctx k).run.all (fun q => !q.ended) = true) (hpolicy : s.bit (R.CX_CFG.POLICY k) = false) :
    ∃ x q, trigger k s = sampleStarted k q x ∧ q.Begins k x ∧ x.get (R.CX_CFG.ENTRY k) = s.get (R.CX_CFG.ENTRY k)
      ∧ x.get (R.CX_COUNTS.OVERRUNS k) = min 65535 (s.get (R.CX_COUNTS.OVERRUNS k) + 1) := by
  have htakes := State.takesTriggers_of_active (s := s) (k := k) (by simp [State.ctxActive, hcomputes]) hstate
  have hkeep : (overrunCounted k (triggerTaken k s)).bit (R.CX_CFG.POLICY k) = false := by
    rw [State.bit, overrunCounted_get (by simp only [R.CX_CFG.POLICY]; omega) (by simp only [R.CX_CFG.POLICY]; omega) (show 30 < 32 by decide)
      (Fld.key_ne_of_apart rfl), State.get_inc_apart _ rfl]
    exact hpolicy
  have hfirst : trigger k s = boundary k (abandon k (overrunCounted k (triggerTaken k s))) :=
    (trigger_first htakes hlast hrun).trans ((if_neg (by rw [show (triggerTaken k s).ctxState k = 2 from hcomputes]; decide)).trans
      (if_neg (by rw [hkeep]; decide)))
  obtain ⟨q, hq, hboundary⟩ := boundary_begins k (abandon k (overrunCounted k (triggerTaken k s)))
  refine ⟨_, q, hfirst.trans hboundary, hq, ?_, ?_⟩
  · have hlow : 0x91000 ≤ (R.CX_CFG.ENTRY k).addr ∧ (R.CX_CFG.ENTRY k).addr < 0x95000 := by simp only [R.CX_CFG.ENTRY]; omega
    have hgaps : R.CAP_STAT.GAPS.key ≠ (R.CX_CFG.ENTRY k).key := by simp only [Fld.key, R.CAP_STAT.GAPS, R.CX_CFG.ENTRY]; omega
    have hcause : (R.CX_CAUSE.OVERRUN k).key ≠ (R.CX_CFG.ENTRY k).key := by simp only [Fld.key, R.CX_CAUSE.OVERRUN, R.CX_CFG.ENTRY]; omega
    obtain ⟨hlow, hhigh⟩ := hlow
    rw [sampleLatched_get hlow hhigh (show 0 < 28 by decide), abandon_get hgaps, overrunCounted_get hlow hhigh (show 0 < 32 by decide) hcause,
      State.get_inc_apart _ rfl]
    rfl
  · have hlow : 0x91000 ≤ (R.CX_COUNTS.OVERRUNS k).addr ∧ (R.CX_COUNTS.OVERRUNS k).addr < 0x95000 := by simp only [R.CX_COUNTS.OVERRUNS]; omega
    obtain ⟨hlow, hhigh⟩ := hlow
    rw [sampleLatched_get hlow hhigh (show 16 < 28 by decide), abandon_get (Fld.key_ne_of_apart rfl),
      overrunCounted_get hlow hhigh (show 16 < 32 by decide) (Fld.key_ne_of_apart rfl), State.get_inc_self]
    rfl

/-- The trigger of a source of R312 that leaves for the context arrives. -/
theorem sourceTrigger_due {s : State} {k : Nat} (hsrc : s.get (R.CX_TRIG.SRC k) = 1 ∨ s.get (R.CX_TRIG.SRC k) = 3) (hdue : 0 < (s.ctx k).due) :
    sourceTrigger k s = trigger k (s.modCtx k (fun c => { c with due := c.due - 1 })) := by
  have hne : (s.ctx k).due ≠ 0 := Nat.pos_iff_ne_zero.1 hdue
  rcases hsrc with hsrc | hsrc <;> simp only [sourceTrigger, hsrc, hne, if_false]

/-- A trigger on its way to the context is accepted. -/
def dueTaken (k : Nat) (s : State) : State := triggerTaken k (s.modCtx k (fun c => { c with due := c.due - 1 }))

theorem dueTaken_ctx (k : Nat) (s : State) : (dueTaken k s).ctx k = { s.ctx k with due := (s.ctx k).due - 1, lastTrig := some s.ts.tsc } := by
  rw [dueTaken, triggerTaken, State.ctx_modCtx_self, State.ctx_modCtx_self]; rfl

theorem dueTaken_get (k : Nat) (s : State) (f : Fld) : (dueTaken k s).get f = s.get f := rfl

theorem dueTaken_onlyRegs (k : Nat) (s : State) : OnlyRegs s (dueTaken k s) [] := .of_regs rfl _

theorem sourceTrigger_idle {s : State} {k : Nat} (hsrc : s.get (R.CX_TRIG.SRC k) = 1 ∨ s.get (R.CX_TRIG.SRC k) = 3) (hdue : 0 < (s.ctx k).due)
    (hidle : s.ctxState k = 1) (hrun : (s.ctx k).run = none) (hstate : s.pw.state = .run) (hlast : (s.ctx k).lastTrig = none) :
    sourceTrigger k s = boundary k (dueTaken k s) := by
  have htakes : s.takesTriggers k = true := State.takesTriggers_of_active (by simp [State.ctxActive, hidle]) hstate
  rw [sourceTrigger_due hsrc hdue]
  exact trigger_idle htakes (by rw [State.ctx_modCtx_self]; exact hlast) (by rw [State.ctx_modCtx_self]; simp [hrun]) hidle

theorem sourceTrigger_period {s : State} {k u : Nat} (hsrc : s.get (R.CX_TRIG.SRC k) = 2) (hdue : s.periodDue k = some u) :
    sourceTrigger k s = trigger k (s.modCtx k (fun c => { c with perAt := some u })) := by
  simp only [sourceTrigger, hsrc, hdue]

/-! ### Enable, disable and restart, R315, R318 and R323 -/

theorem restart_stopped {s : State} {k : Nat} (hstate : s.ctxState k = 3) (htile : bitAt s.eng.tileErr (k / 4) = false) :
    restart k s = clearRegs k (s.set (R.CX_STAT.STATE k) 1) := if_pos ⟨hstate, by simp [htile]⟩

theorem restart_refused {s : State} {k : Nat} (h : s.ctxState k ≠ 3) : restart k s = raise (Src.CX_RESTART_REFUSED k) s := if_neg fun hs => h hs.1

theorem clearRegs_ctx (k : Nat) (s : State) : (clearRegs k s).ctx k = { s.ctx k with v := [], p := 0, run := none, lastAt := none } := State.ctx_modCtx_self s k _

/-- A context that is restarted is idle, with its registers clear. -/
theorem restarted_holds (k : Nat) (s : State) :
    (clearRegs k (s.set (R.CX_STAT.STATE k) 1)).ctxState k = 1 ∧ ((clearRegs k (s.set (R.CX_STAT.STATE k) 1)).ctx k).v = []
      ∧ ((clearRegs k (s.set (R.CX_STAT.STATE k) 1)).ctx k).p = 0 ∧ ((clearRegs k (s.set (R.CX_STAT.STATE k) 1)).ctx k).run = none
      ∧ OnlyRegs s (clearRegs k (s.set (R.CX_STAT.STATE k) 1)) [R.CX_STAT.STATE k] := by
  have honly : OnlyRegs s (s.set (R.CX_STAT.STATE k) 1) [R.CX_STAT.STATE k] := (OnlyRegs.of_regs rfl _).set 1 (by simp)
  rw [clearRegs_ctx]
  exact ⟨State.get_set_self s (R.CX_STAT.STATE k) 1, rfl, rfl, rfl, honly⟩

/-- The set-points of a context take their targets. -/
def spsApplied (k : Nat) (s : State) : State := s.each (List.range 8) (fun j x => x.set (R.SP_APP k j) (x.target k j))

/-- A target hangs on its own word and on the targets held. -/
theorem State.target_congr {s t : State} {k j : Nat} (hfrozen : (t.ctx k).frozen = (s.ctx k).frozen) (htgt : t.get (R.SP_TGT k j) = s.get (R.SP_TGT k j)) :
    t.target k j = s.target k j := by
  rw [State.target, State.target, hfrozen, htgt]

theorem spsApplied_onlySets (k : Nat) (s : State) : OnlySets s (spsApplied k s) (spApps k) :=
  OnlySets.each_set (F := R.SP_APP k) (.refl s _) _ fun _ hj => spApp_mem k hj

theorem spsApplied_get {k j : Nat} (hk : k < 128) (hj : j < 8) (s : State) : (spsApplied k s).get (R.SP_APP k j) = s.target k j % 2 ^ 32 :=
  State.each_set_get (F := R.SP_APP k) (v := fun j x => x.target k j) hj (fun _ h => spApp_key_ne k h)
    (fun i x y _ => State.target_congr rfl (State.get_set_of_ne x y (by simp only [Fld.key, R.SP_APP, R.SP_TGT]; omega))) s

/-- The context is IDLE and enabled, with its registers clear. -/
def ctxEnabled (k : Nat) (s : State) : State := clearRegs k ((s.set (R.CX_CFG.EN k) 1).set (R.CX_STAT.STATE k) 1)

theorem ctxEnabled_onlyRegs (k : Nat) (s : State) : OnlyRegs s (ctxEnabled k s) [R.CX_CFG.EN k, R.CX_STAT.STATE k] := by
  have honly : OnlyRegs s ((s.set (R.CX_CFG.EN k) 1).set (R.CX_STAT.STATE k) 1) [R.CX_CFG.EN k, R.CX_STAT.STATE k] :=
    ((OnlyRegs.of_regs rfl _).set 1 (by simp)).set 1 (by simp)
  exact honly

/-- What a context that is enabled shows, with its set-points at their targets. -/
theorem ctxEnabled_holds (k : Nat) (s : State) :
    (ctxEnabled k s).get (R.CX_CFG.EN k) = 1 ∧ (ctxEnabled k s).ctxState k = 1 ∧ ((ctxEnabled k s).ctx k).v = [] := by
  refine ⟨?_, State.get_set_self (s.set (R.CX_CFG.EN k) 1) (R.CX_STAT.STATE k) 1, by rw [ctxEnabled, clearRegs_ctx]⟩
  rw [ctxEnabled, clearRegs, State.modCtx_get, State.get_set_apart _ 1 rfl, State.get_set_self]
  rfl

theorem enableCtx_off {s : State} {k : Nat} (hstate : s.pw.state = .configure) (hgood : s.enableRefused k = false) (hoff : s.ctxState k = 0) :
    enableCtx k s = spsApplied k (ctxEnabled k s) := by
  have hcfg : s.inState [.configure] = true := State.inConfigure hstate
  have hoff' : (s.set (R.CX_CFG.EN k) 1).ctxState k = 0 := (State.get_set_apart s 1 rfl).trans hoff
  simp only [enableCtx, hcfg, hgood, hoff', Bool.not_true, Bool.false_eq_true, if_false, if_true]
  rfl

theorem enableCtx_refused {s : State} {k : Nat} (hstate : s.pw.state = .configure) (hbad : s.enableRefused k = true) :
    enableCtx k s = raise Src.CE_SETTING_REFUSED s := by
  have hcfg : s.inState [.configure] = true := State.inConfigure hstate
  simp only [enableCtx, hcfg, hbad, Bool.not_true, Bool.false_eq_true, if_false, if_true]
  rfl

theorem ctxEnabled_target {k j : Nat} (s : State) : (ctxEnabled k s).target k j = s.target k j := by
  refine State.target_congr ?_ ?_
  · rw [ctxEnabled, clearRegs_ctx]
    rfl
  · rw [ctxEnabled, clearRegs, State.modCtx_get, State.get_set_apart _ 1 rfl, State.get_set_apart _ 1 rfl]

/-- The context is OFF and disabled. -/
def ctxDisabled (k : Nat) (s : State) : State := ((s.set (R.CX_CFG.EN k) 0).set (R.CX_STAT.STATE k) 0).modCtx k (fun c => { c with due := 0 })

theorem ctxDisabled_holds (k : Nat) (s : State) :
    (ctxDisabled k s).get (R.CX_CFG.EN k) = 0 ∧ (ctxDisabled k s).ctxState k = 0
      ∧ OnlyRegs s (ctxDisabled k s) [R.CX_CFG.EN k, R.CX_STAT.STATE k]
      ∧ ctxDisabled k s = { s with regs := (ctxDisabled k s).regs, ctxs := (ctxDisabled k s).ctxs } := by
  have honly : OnlyRegs s ((s.set (R.CX_CFG.EN k) 0).set (R.CX_STAT.STATE k) 0) [R.CX_CFG.EN k, R.CX_STAT.STATE k] :=
    ((OnlyRegs.of_regs rfl _).set 0 (by simp)).set 0 (by simp)
  refine ⟨?_, State.get_set_self (s.set (R.CX_CFG.EN k) 0) (R.CX_STAT.STATE k) 0, honly, rfl⟩
  rw [ctxDisabled, State.modCtx_get, State.get_set_apart _ 0 rfl, State.get_set_self]
  rfl

theorem offCtx_idle {s : State} {k : Nat} (hstate : s.ctxState k ≠ 3) (hrun : (s.ctx k).run = none) (hinj : s.eng.inj.on = false) :
    offCtx k s = ctxDisabled k s := by
  have hstate' : ¬ (s.set (R.CX_CFG.EN k) 0).ctxState k = 3 := fun h => hstate ((State.get_set_apart s 0 rfl).symm.trans h)
  have habandon : abandon k (s.set (R.CX_CFG.EN k) 0) = s.set (R.CX_CFG.EN k) 0 :=
    if_neg (by rw [show ((s.set (R.CX_CFG.EN k) 0).ctx k).run = none from hrun]; decide)
  rw [offCtx, if_neg hstate', habandon]
  exact checkInjection_off hinj

theorem offCtx_stopped {s : State} {k : Nat} (hstate : s.ctxState k = 3) : offCtx k s = s.set (R.CX_CFG.EN k) 0 :=
  if_pos ((State.get_set_apart s 0 rfl).trans hstate)

end Sys2Proof.Machine
end

section
/-!
PROOFS. A sample of a context ends (11_control_engine.md, R317 to R319): the stores, states and counts of a release, and the triggers it sends; with it the settling
of ContextsAndSamples.
-/
namespace Sys2Proof.Machine

theorem State.leg_of_legs {s t : State} (h : t.legs = s.legs) (l : Nat) : t.leg l = s.leg l := by rw [State.leg, State.leg, h]

theorem State.ctx_modCtx (s : State) (j k : Nat) (f : CtxSt → CtxSt) :
    (s.modCtx j f).ctx k = if j = k then f (s.ctx j) else s.ctx k := Tab.get_modify ..

theorem State.get_incWrap_self (s : State) (f : Fld) : (s.incWrap f).get f = (s.get f + 1) % 2 ^ f.width := State.get_set_self s f _

/-! ### The parts of a release -/

/-- The legs of a context's range leave an abort (R322). -/
def abortsEnded (k : Nat) (s : State) : State :=
  s.each (s.outLegs k) (fun l x => if (x.leg l).abort then x.modLeg l (fun g => { g with abort := false }) else x)

/-- The staged stores of the legs are applied: the state, the legs written, and whether one was out of range (R318). -/
def legsReleased (k : Nat) (q : Sample) (s : State) : State × List Nat × Bool := q.legs.foldl (applyLeg k) (s, [], q.outRange)

/-- The staged words of the state region are written. -/
def statesReleased (q : Sample) (s : State) : State :=
  (s.each q.states (fun x s => cbiStore 3 x.1 1 s)).modEng (fun e => { e with mem := q.states.foldl (fun m x => Tab.set 0 m x.1 x.2) e.mem })

/-- Run time of a sample in core cycles (R345). -/
def Sample.runTime (q : Sample) : Nat := 4 * (q.issues - 1) + q.lastW

/-- The registers of a context show a release. -/
def runShown (k run : Nat) (s : State) : State :=
  let s := ((s.set (R.CX_STAT.STATE k) 1).incWrap (R.CX_SAMPLES.RELEASES k)).set (R.CX_STAT.LAST_RUN k) (min 65535 run)
  s.set (R.CX_MAX.MAXRUN k) (max (s.get (R.CX_MAX.MAXRUN k)) (min 65535 run))

/-- The context is idle again and carries its registers over (R315). -/
def sampleEnded (k : Nat) (q : Sample) (s : State) : State := runShown k q.runTime (s.modCtx k (fun c => { c with v := q.v, p := q.p, run := none }))

/-- A release, after its leg stores and up to the capture unit. -/
def released (k : Nat) (q : Sample) (x : State × List Nat × Bool) : State :=
  sampleEnded k q (statesReleased q (commitGroups q.commits (noteRelease k x.2.1 x.1)))

/-- The reports, events and triggers of a release. -/
def releaseTold (k : Nat) (q : Sample) (bad : Bool) (s : State) : State :=
  sendTrigger 3 k (postEvts k q.evts (if bad then raise (Src.CX_OUT_RANGE k) s else s))

theorem release_ended {s : State} {k : Nat} {q : Sample} (hrun : (s.ctx k).run = some q) (hended : q.ended = true) :
    release k s = releaseTold k q (legsReleased k q (abortsEnded k s)).2.2
      (captureRelease k q q.runTime (released k q (legsReleased k q (abortsEnded k s)))) := by
  unfold release
  simp only [hrun, hended, if_true]
  rfl

/-! ### Aborts that end -/

theorem abortsEnded_frame (k : Nat) (s : State) : abortsEnded k s = { s with legs := (abortsEnded k s).legs } :=
  State.each_keeps (P := fun x => x = { s with legs := x.legs }) rfl fun l _ x hx => by
    split
    · exact congrArg (fun y : State => { y with legs := (x.modLeg l (fun g => { g with abort := false })).legs }) hx
    · exact hx

theorem abortsEnded_regs (k : Nat) (s : State) : (abortsEnded k s).regs = s.regs := by rw [abortsEnded_frame]

theorem abortsEnded_abort {s : State} {k l : Nat} (hl : l ∈ s.outLegs k) : ((abortsEnded k s).leg l).abort = false := by
  refine State.each_sets (Q := fun x => (x.leg l).abort = false) hl (fun x => ?_) fun j _ x hx => ?_
  · split
    · rw [State.leg_modLeg_self]
    · next h => exact Bool.not_eq_true _ ▸ h
  · split
    · rw [State.leg_modLeg]
      split
      · rfl
      · exact hx
    · exact hx

/-! ### Leg stores, R318 and R355 -/

/-- A store goes to MODE, VAL or VAL2 of its leg. -/
theorem State.legValue_field {s : State} {x : LegStore} {f : Fld} {v : Nat} (h : s.legValue x = some (f, v)) :
    f = R.LEG_CFG.MODE x.leg ∨ f = R.LEG_VAL.VAL x.leg ∨ f = R.LEG_VAL2.VAL2 x.leg := by
  unfold State.legValue at h
  split at h
  · cases h
  · split at h
    · split at h
      · split at h
        · exact .inl (congrArg Prod.fst (Option.some.inj h)).symm
        · cases h
      · cases h
    · have hf := (congrArg Prod.fst (Option.some.inj h)).symm
      dsimp only at hf
      split at hf
      · exact .inr (.inl hf)
      · exact .inr (.inr hf)

theorem applyLeg_get {f : Fld} (hmode : ∀ l, (R.LEG_CFG.MODE l).apart f = true) (hval : ∀ l, (R.LEG_VAL.VAL l).apart f = true)
    (hval2 : ∀ l, (R.LEG_VAL2.VAL2 l).apart f = true) (k : Nat) (acc : State × List Nat × Bool) (x : LegStore) :
    (applyLeg k acc x).1.get f = acc.1.get f := by
  obtain ⟨s, ls, bad⟩ := acc
  unfold applyLeg
  dsimp only
  split
  · split
    · next g v h =>
      have hg : g.apart f = true := by rcases State.legValue_field h with rfl | rfl | rfl; exacts [hmode _, hval _, hval2 _]
      exact State.get_set_apart s v hg
    · rfl
  · rfl

theorem legsReleased_get {f : Fld} (hmode : ∀ l, (R.LEG_CFG.MODE l).apart f = true) (hval : ∀ l, (R.LEG_VAL.VAL l).apart f = true)
    (hval2 : ∀ l, (R.LEG_VAL2.VAL2 l).apart f = true) (k : Nat) (q : Sample) (s : State) : (legsReleased k q s).1.get f = s.get f := by
  have h : ∀ (xs : List LegStore) (acc : State × List Nat × Bool), (xs.foldl (applyLeg k) acc).1.get f = acc.1.get f := fun xs => by
    induction xs with
    | nil => exact fun _ => rfl
    | cons x xs ih => exact fun acc => (ih _).trans (applyLeg_get hmode hval hval2 k acc x)
  exact h q.legs _

/-- A finite positive value becomes the nearest count of ticks that VAL holds. -/
theorem State.legValue_ticks {s : State} {l v : Nat} (hratio : s.bit (R.LEG_CFG.RATIO l) = false) (hfin : finite32 v = true) (hpos : neg32 v = false) :
    s.legValue ⟨l, 0, v⟩ = some (R.LEG_VAL.VAL l, min (2 ^ 26 - 1) (roundEven (val32 v))) := by
  have hspecial : nan32 v = false ∧ inf32 v = false := by
    simp only [finite32, fFinite, nan32, fNan, inf32, fInf] at hfin ⊢
    simp_all
  obtain ⟨hnan, hinf⟩ := hspecial
  simp [State.legValue, hnan, hinf, hpos, hratio]

/-! ### What follows the leg stores -/

/-- The registers that a release writes after its leg stores, where no earlier release loses a shadow. -/
def releaseFields (k : Nat) : List Fld := [R.CX_STAT.STATE k, R.CX_SAMPLES.RELEASES k, R.CX_STAT.LAST_RUN k, R.CX_MAX.MAXRUN k]

theorem noteRelease_onlyRegs (k : Nat) (ls : List Nat) (s : State) : OnlyRegs s (noteRelease k ls s) [R.CX_COUNTS.NOT_COMMITTED k] := by
  unfold noteRelease
  split
  · exact .of_regs rfl _
  · extract_lets hit rs y
    exact State.each_keeps (P := fun x => OnlyRegs s x [R.CX_COUNTS.NOT_COMMITTED k]) (f := fun _ x => x.inc (R.CX_COUNTS.NOT_COMMITTED k))
      (l := rs.filter hit) (.of_regs rfl _) fun _ _ _ hx => hx.inc (by simp)

theorem noteRelease_legs (k : Nat) (ls : List Nat) (s : State) : (noteRelease k ls s).legs = s.legs := by
  unfold noteRelease
  split
  · rfl
  · extract_lets hit rs y
    exact State.each_keeps (P := fun x => x.legs = s.legs) (f := fun _ x => x.inc (R.CX_COUNTS.NOT_COMMITTED k)) (l := rs.filter hit) rfl fun _ _ _ hx => hx

theorem statesReleased_frame (q : Sample) (s : State) :
    (statesReleased q s).regs = s.regs ∧ (statesReleased q s).legs = s.legs
      ∧ (statesReleased q s).eng.mem = q.states.foldl (fun m x => Tab.set 0 m x.1 x.2) s.eng.mem := by
  have hstored : (s.each q.states fun x s => cbiStore 3 x.1 1 s) = { s with fc := (s.each q.states fun x s => cbiStore 3 x.1 1 s).fc } :=
    State.each_keeps (P := fun x => x = { s with fc := x.fc }) rfl fun e _ x hx =>
      (cbiStore_frame 3 e.1 1 x).trans (congrArg (fun y : State => { y with fc := (cbiStore 3 e.1 1 x).fc }) hx)
  unfold statesReleased
  rw [hstored]
  exact ⟨rfl, rfl, rfl⟩

theorem sampleEnded_onlyRegs (k : Nat) (q : Sample) (s : State) : OnlyRegs s (sampleEnded k q s) (releaseFields k) :=
  ((((OnlyRegs.of_regs rfl _ : OnlyRegs s (s.modCtx k fun c => { c with v := q.v, p := q.p, run := none }) _).set 1 (by simp [releaseFields])).set _
    (by simp [releaseFields])).set _ (by simp [releaseFields])).set _ (by simp [releaseFields])

theorem sampleEnded_ctx (k : Nat) (q : Sample) (s : State) : (sampleEnded k q s).ctx k = { s.ctx k with v := q.v, p := q.p, run := none } :=
  State.ctx_modCtx_self s k fun c => { c with v := q.v, p := q.p, run := none }

theorem sampleEnded_state (k : Nat) (q : Sample) (s : State) : (sampleEnded k q s).ctxState k = 1 := by
  rw [State.ctxState, sampleEnded, runShown, State.get_set_apart _ _ rfl, State.get_set_apart _ _ rfl]
  exact (State.get_set_apart _ _ rfl).trans (State.get_set_self _ (R.CX_STAT.STATE k) 1)

theorem sampleEnded_releases (k : Nat) (q : Sample) (s : State) :
    (sampleEnded k q s).get (R.CX_SAMPLES.RELEASES k) = (s.get (R.CX_SAMPLES.RELEASES k) + 1) % 2 ^ 32 := by
  have hlast : (R.CX_STAT.LAST_RUN k).key ≠ (R.CX_SAMPLES.RELEASES k).key := by simp only [Fld.key, R.CX_STAT.LAST_RUN, R.CX_SAMPLES.RELEASES]; omega
  rw [sampleEnded, runShown, State.get_set_apart _ _ rfl, State.get_set_of_ne _ _ hlast, State.get_incWrap_self, State.get_set_apart _ _ rfl]
  rfl

theorem sampleEnded_lastRun (k : Nat) (q : Sample) (s : State) : (sampleEnded k q s).get (R.CX_STAT.LAST_RUN k) = min 65535 q.runTime := by
  rw [sampleEnded, runShown, State.get_set_apart _ _ rfl, State.get_set_self]
  exact Nat.mod_eq_of_lt (show min 65535 q.runTime < 65536 by omega)

section
variable (k : Nat) (q : Sample) (x : State × List Nat × Bool)

theorem released_onlyRegs : OnlyRegs x.1 (released k q x) (R.CX_COUNTS.NOT_COMMITTED k :: releaseFields k) := by
  have hcommit : (statesReleased q (commitGroups q.commits (noteRelease k x.2.1 x.1))).regs = (noteRelease k x.2.1 x.1).regs := by
    rw [(statesReleased_frame q _).1, commitGroups_frame]
  exact (noteRelease_onlyRegs k x.2.1 x.1).trans ((OnlyRegs.of_regs hcommit []).trans (sampleEnded_onlyRegs k q _))

theorem released_legs : (released k q x).legs = x.1.legs := by
  obtain ⟨-, hlegs, -⟩ := statesReleased_frame q (commitGroups q.commits (noteRelease k x.2.1 x.1))
  have hcommit : (commitGroups q.commits (noteRelease k x.2.1 x.1)).legs = (noteRelease k x.2.1 x.1).legs := by rw [commitGroups_frame]
  exact hlegs.trans (hcommit.trans (noteRelease_legs k x.2.1 x.1))

theorem released_word {a v : Nat} (h : q.states = [(a, v)]) : Tab.get 0 (released k q x).eng.mem a = v := by
  obtain ⟨-, -, hmem⟩ := statesReleased_frame q (commitGroups q.commits (noteRelease k x.2.1 x.1))
  rw [h] at hmem
  show Tab.get 0 (statesReleased q _).eng.mem a = v
  rw [hmem]
  exact Tab.get_set_self ..

end

theorem captureRelease_idle {k run : Nat} {q : Sample} {s : State} (h : s.bit R.CAP_STAT.BUSY = false) : captureRelease k q run s = s := by
  simp [captureRelease, h]

/-- With the capture unit idle a release goes from its stores to its reports. -/
theorem release_uncaptured {s : State} {k : Nat} {q : Sample} (hrun : (s.ctx k).run = some q) (hended : q.ended = true)
    (hidle : s.bit R.CAP_STAT.BUSY = false) :
    release k s = releaseTold k q (legsReleased k q (abortsEnded k s)).2.2 (released k q (legsReleased k q (abortsEnded k s))) := by
  rw [release_ended hrun hended, captureRelease_idle]
  rw [State.bit, (released_onlyRegs k q _).get_apart rfl, legsReleased_get (fun _ => rfl) (fun _ => rfl) (fun _ => rfl),
    State.get_of_regs (abortsEnded_regs k s)]
  exact hidle

/-! ### Reports and triggers of a release -/

/-- Triggers on their way are all that a trigger sent adds. -/
theorem sendTrigger_frame (src sel : Nat) (s : State) : sendTrigger src sel s = { s with ctxs := (sendTrigger src sel s).ctxs } :=
  State.each_keeps (P := fun x => x = { s with ctxs := x.ctxs }) rfl fun c _ x hx =>
    congrArg (fun y : State => { y with ctxs := (x.modCtx c (fun z => { z with due := z.due + 1 })).ctxs }) hx

theorem sendTrigger_ctx (src sel k : Nat) (s : State) :
    (sendTrigger src sel s).ctx k = { s.ctx k with due := ((sendTrigger src sel s).ctx k).due } :=
  State.each_keeps (P := fun x => x.ctx k = { s.ctx k with due := (x.ctx k).due }) rfl fun c _ x hx => by
    rw [State.ctx_modCtx]
    split
    · next h => subst h; rw [hx]
    · exact hx

theorem sendTrigger_get (src sel : Nat) (s : State) (f : Fld) : (sendTrigger src sel s).get f = s.get f := by rw [sendTrigger_frame]; rfl

theorem releaseTold_silent {k : Nat} {q : Sample} (hevts : q.evts = []) (s : State) : releaseTold k q false s = sendTrigger 3 k s := by
  rw [releaseTold, hevts]; rfl

theorem postEvts_reported (k : Nat) (es : List (Nat × Nat)) (s : State) : Reported s (postEvts k es s) :=
  State.each_reported _ _ _ fun _ x => postRec_reported _ x

/-- What a release tells is reports, and triggers on their way. -/
theorem releaseTold_reported (k : Nat) (q : Sample) (bad : Bool) (s : State) : ∃ x, Reported s x ∧ releaseTold k q bad s = sendTrigger 3 k x :=
  ⟨_, Reported.trans (.ite (raise_reported (Src.CX_OUT_RANGE k) s) (.refl s)) (postEvts_reported k q.evts _), rfl⟩

theorem releaseTold_legs (k : Nat) (q : Sample) (bad : Bool) (s : State) : (releaseTold k q bad s).legs = s.legs := by
  obtain ⟨x, hx, htold⟩ := releaseTold_reported k q bad s
  rw [htold, sendTrigger_frame]
  exact hx.field State.legs fun _ => rfl

theorem releaseTold_mem (k : Nat) (q : Sample) (bad : Bool) (s : State) : (releaseTold k q bad s).eng.mem = s.eng.mem := by
  obtain ⟨x, hx, htold⟩ := releaseTold_reported k q bad s
  rw [htold, sendTrigger_frame]
  have hmem := congrArg Engine.mem hx.eng
  exact hmem

theorem releaseTold_get_tripKey {f : Fld} {k : Nat} {q : Sample} (hk : k < 128) (hevts : q.evts = []) (hf : TripKey f.key) (bad : Bool) (s : State) :
    (releaseTold k q bad s).get f = s.get f := by
  have hcause : (R.CX_CAUSE.OUT_RANGE k).key ≠ f.key := fun e => by
    rw [← e] at hf
    simp only [TripKey, Fld.key, R.CX_CAUSE.OUT_RANGE] at hf
    omega
  have hposted : ∀ x, postEvts k [] x = x := fun _ => rfl
  rw [releaseTold, sendTrigger_get, hevts, hposted]
  split
  · exact raise_get (not_reportKey_of_tripKey hf) (.of_leaf (show 9 ≤ 16 by decide) rfl hcause) s
  · rfl

/-! ### One leg store -/

section
variable {s : State} {k : Nat} {q : Sample} {l v : Nat} (hlegs : q.legs = [⟨l, 0, v⟩]) (hl : l < 384) (hrange : l ∈ s.outLegs k)
  (hratio : s.bit (R.LEG_CFG.RATIO l) = false) (hfin : finite32 v = true) (hpos : neg32 v = false)
include hlegs hl hrange hratio hfin hpos

theorem legsReleased_one : legsReleased k q s = (writeLegField l (R.LEG_VAL.VAL l) (min (2 ^ 26 - 1) (roundEven (val32 v))) s, [l], q.outRange) := by
  rw [legsReleased, hlegs]
  simp [applyLeg, hrange, hl, State.legValue_ticks hratio hfin hpos]

/-- The store is written and stamped, and nothing later in the release changes it. -/
theorem released_one : (released k q (legsReleased k q s)).get (R.LEG_VAL.VAL l) = min (2 ^ 26 - 1) (roundEven (val32 v))
    ∧ ((released k q (legsReleased k q s)).leg l).stamp = some s.ts.tsc := by
  have hone := legsReleased_one hlegs hl hrange hratio hfin hpos
  refine ⟨?_, ?_⟩
  · have hplace : (R.LEG_VAL.VAL l).key ∉ (R.CX_COUNTS.NOT_COMMITTED k :: releaseFields k).map Fld.key := by
      simp only [releaseFields, List.map_cons, List.map_nil, List.mem_cons, List.not_mem_nil, or_false, not_or, Fld.key, R.LEG_VAL.VAL,
        R.CX_COUNTS.NOT_COMMITTED, R.CX_STAT.STATE, R.CX_SAMPLES.RELEASES, R.CX_STAT.LAST_RUN, R.CX_MAX.MAXRUN]
      omega
    rw [released_onlyRegs k q _ _ hplace, hone]
    refine (State.get_set_self s (R.LEG_VAL.VAL l) _).trans (Nat.mod_eq_of_lt ?_)
    exact Nat.lt_of_le_of_lt (Nat.min_le_left ..) (show 2 ^ 26 - 1 < 2 ^ 26 by decide)
  · rw [State.leg_of_legs (released_legs k q _), hone, writeLegField, stampLeg, State.leg_modLeg_self]
    rfl

end

theorem abortsEnded_outLegs (k j : Nat) (s : State) : (abortsEnded k s).outLegs j = s.outLegs j := by
  rw [State.outLegs, State.get_of_regs (abortsEnded_regs k s), State.get_of_regs (abortsEnded_regs k s)]
  rfl

/-! ### A release that stages nothing -/

theorem release_plain {s : State} {k : Nat} {q : Sample} (hrun : (s.ctx k).run = some q) (hended : q.ended = true) (hlegs : q.legs = [])
    (hrange : q.outRange = false) (hevts : q.evts = []) (hcommits : q.commits = 0) (hidle : s.bit R.CAP_STAT.BUSY = false) :
    release k s = sendTrigger 3 k (sampleEnded k q (statesReleased q (abortsEnded k s))) := by
  have hnone : legsReleased k q (abortsEnded k s) = (abortsEnded k s, [], false) := by rw [legsReleased, hlegs, hrange]; rfl
  have hcommit : ∀ x, commitGroups 0 x = x := fun _ => rfl
  rw [release_uncaptured hrun hended hidle, hnone, releaseTold_silent hevts, released, hcommits, hcommit]
  rfl

theorem exec_contextTrigger (k : Fin 128) (s : State) : exec (.contextTrigger k) s = .next (sourceTrigger k s) := rfl
theorem exec_programRelease (k : Fin 128) (s : State) : exec (.programRelease k) s = .next (release k s) := rfl
theorem exec_softTrig (k : Fin 128) (s : State) : exec (.softTrig k) s = .next (trigger k s) := rfl
theorem exec_contextRestart (k : Fin 128) (s : State) : exec (.contextRestart k) s = .next (restart k s) := rfl
theorem exec_contextEnable (k : Fin 128) (s : State) : exec (.contextEnable k) s = .next (enableCtx k s) := rfl

theorem exec_contextDisable_configure {s : State} (h : s.pw.state = .configure) (k : Fin 128) : exec (.contextDisable k) s = .next (offCtx k s) :=
  congrArg Host.Outcome.next (if_pos (State.inConfigure h))

/-- Settles O20: triggers by `trigger_idle`, `trigger_early` and `trigger_overrun`, what a boundary latches by `sampleLatched_plain` and `advanceSps_applied`, releases
by `release_plain`, `released_one` and `released_word`, and the changes of EN and STATE by the lemmas of `enableCtx`, `offCtx` and `restart`. -/
theorem contextsAndSamples : Obligations.ContextsAndSamples := by
  unfold Obligations.ContextsAndSamples
  refine ⟨?first, ?period, ?early, ?overrun, ?plain, ?store, ?word, ?restart, ?restartRefused, ?enable, ?enableRefused, ?disable, ?disableStopped⟩
  case first =>
    intro s k hsrc hdue hidle hrun hstate hlast hinj hstrings hpend hsps hswaps
    obtain ⟨q, hq, hbegin⟩ := boundary_begins k (dueTaken k s)
    rw [sampleLatched_plain (s := dueTaken k s) hinj hstrings hpend hswaps] at hq hbegin
    obtain ⟨hpc, hv, hp, hat, hissues, hended, hframes⟩ := hq.of_advanced k.isLt
    obtain ⟨hframe, honly⟩ := advanceSps_onlySets k (dueTaken k s)
    have hctx : (sampleStarted k q (advanceSps k (dueTaken k s))).ctx k = { (dueTaken k s).ctx k with run := some q, lastAt := some s.ts.tsc } := by
      rw [sampleStarted_ctx, State.ctx_of_ctxs (s := dueTaken k s) (by rw [hframe]), hframe]; rfl
    rw [dueTaken_ctx] at hv hp hctx
    rw [exec_contextTrigger, sourceTrigger_idle hsrc hdue hidle hrun hstate hlast, hbegin]
    refine ⟨_, q, rfl, sampleStarted_state k q _, by rw [hctx], hpc, hv, hp, hat, hissues, hended, fun n hn => ?_, by rw [hctx], by rw [hctx],
      by rw [hctx], fun j hj => ?_, ?_⟩
    · rw [hframes, State.frames_get hn]; rfl
    · have htarget : (dueTaken k s).target k j = s.target k j := State.target_congr (by rw [dueTaken_ctx]) rfl
      have hne : (R.CX_STAT.STATE k).key ≠ (R.SP_APP k j).key := by simp only [Fld.key, R.SP_APP, R.CX_STAT.STATE]; omega
      rw [sampleStarted_get hne, advanceSps_applied (s := dueTaken k s) hsps hj, htarget, dueTaken_get, dueTaken_get]
    · exact sampleStarted_onlyRegs ((dueTaken_onlyRegs k s).trans honly) q
  case period => exact fun s k u hsrc hdue => congrArg Host.Outcome.next (sourceTrigger_period hsrc hdue)
  case early =>
    exact fun s k u hactive hstate hlast hearly =>
      congrArg Host.Outcome.next (trigger_early (State.takesTriggers_of_active hactive hstate) hlast hearly)
  case overrun =>
    intro s k hcomputes hstate hlast hrun hpolicy
    obtain ⟨x, q, htrigger, hq, hentry, hcount⟩ := trigger_overrun k.isLt hstate hcomputes hlast hrun hpolicy
    rw [exec_softTrig, htrigger]
    refine ⟨_, q, rfl, sampleStarted_state k q x, ?_, hq.pc.trans hentry, hq.issues, ?_⟩
    · rw [sampleStarted_ctx]
    · rw [sampleStarted_get (Fld.key_ne_of_apart rfl), hcount]
  case plain =>
    intro s k q hrun hended hlegs hrange hevts hstates hcommits hidle
    obtain ⟨hregs, hleg, -⟩ := statesReleased_frame q (abortsEnded k s)
    have hregs : (statesReleased q (abortsEnded k s)).regs = s.regs := hregs.trans (abortsEnded_regs k s)
    rw [exec_programRelease, release_plain hrun hended hlegs hrange hevts hcommits hidle]
    refine ⟨_, rfl, ?_, ?_, ?_, ?_, ?_, ?_, fun l hl => ?_, fun f hf => ?_⟩
    · exact (sendTrigger_get ..).trans (sampleEnded_state k q _)
    · rw [sendTrigger_ctx, sampleEnded_ctx]
    · rw [sendTrigger_ctx, sampleEnded_ctx]
    · rw [sendTrigger_ctx, sampleEnded_ctx]
    · rw [sendTrigger_get, sampleEnded_releases, State.get_of_regs hregs]
    · rw [sendTrigger_get, sampleEnded_lastRun, Sample.runTime]
    · rw [sendTrigger_frame]
      exact (congrArg LegSt.abort (State.leg_of_legs hleg l)).trans (abortsEnded_abort hl)
    · rw [sendTrigger_get, sampleEnded_onlyRegs k q _ f hf, State.get_of_regs hregs]
  case store =>
    intro s k q l v hrun hended hlegs hevts hidle hl hrange hratio hfin hpos
    have hratio : (abortsEnded k s).bit (R.LEG_CFG.RATIO l) = false := by rw [State.bit, State.get_of_regs (abortsEnded_regs k s)]; exact hratio
    obtain ⟨hval, hstamp⟩ := released_one (s := abortsEnded k s) (k := k) hlegs hl (by rw [abortsEnded_outLegs]; exact hrange) hratio hfin hpos
    have hplace : TripKey (R.LEG_VAL.VAL l).key := .inl (by simp only [Fld.key, R.LEG_VAL.VAL]; omega)
    rw [exec_programRelease, release_uncaptured hrun hended hidle]
    refine ⟨_, rfl, ?_, ?_⟩
    · rw [releaseTold_get_tripKey k.isLt hevts hplace, hval]
    · rw [State.leg_of_legs (releaseTold_legs k q _ _), hstamp, abortsEnded_frame]
  case word =>
    intro s k q a v hrun hended hstates hidle
    rw [exec_programRelease, release_uncaptured hrun hended hidle]
    exact ⟨_, rfl, by rw [releaseTold_mem, released_word k q _ hstates]⟩
  case restart =>
    intro s k hstate htile
    rw [exec_contextRestart, restart_stopped hstate htile]
    exact ⟨_, rfl, restarted_holds k s⟩
  case restartRefused => exact fun s k hstate => congrArg Host.Outcome.next (restart_refused hstate)
  case enable =>
    intro s k hstate hgood hoff
    obtain ⟨hframe, honly⟩ := spsApplied_onlySets k (ctxEnabled k s)
    obtain ⟨hen, hidle, hv⟩ := ctxEnabled_holds k s
    rw [exec_contextEnable, enableCtx_off hstate hgood hoff]
    refine ⟨_, rfl, ?_, ?_, ?_, fun j hj => ?_, (ctxEnabled_onlyRegs k s).trans honly⟩
    · rw [honly.get_of_spApps fun _ => rfl, hen]
    · rw [State.ctxState, honly.get_of_spApps fun _ => rfl]
      exact hidle
    · rw [State.ctx_of_ctxs (s := ctxEnabled k s) (by rw [hframe]), hv]
    · rw [spsApplied_get k.isLt hj, ctxEnabled_target]
  case enableRefused => exact fun s k hstate hbad => congrArg Host.Outcome.next (enableCtx_refused hstate hbad)
  case disable =>
    intro s k hcfg hstate hrun hinj
    rw [exec_contextDisable_configure hcfg, offCtx_idle hstate hrun hinj]
    exact ⟨_, rfl, ctxDisabled_holds k s⟩
  case disableStopped =>
    intro s k hcfg hstate
    rw [exec_contextDisable_configure hcfg, offCtx_stopped hstate]
    refine ⟨_, rfl, State.get_set_self s (R.CX_CFG.EN k) 0, ?_, (OnlySets.refl s _).set 0 (by simp)⟩
    rw [State.ctxState, State.get_set_apart s 0 rfl]
    exact hstate

end Sys2Proof.Machine
end

section
/-!
PROOFS. A tile parity error (11_control_engine.md, R333) whose report finds a repeat of an earlier record pending (18_recorder_ledger.md, R481 and R482).
-/
namespace Sys2Proof.Machine

/-- The record of a parity error in a physical tile, in the fault region (R475, R477). -/
def tileRecord (p : Nat) : Rec := { typ := 1, cls := 2, plane := 0, observed := true, block := 9, src := 1, inst := p }

/-- Run at position 0: slot 0 holds the record of tile 34 with one repeat pending; the record of tile 35 has been accepted since and waits in its queue. -/
def repeatPending : State :=
  { State.reset.set R.REC_PEND.PEND_F 1 with
    pw := { state := .run }
    recd := { queues := [(0, [tileRecord 35])], lastF := (tileRecord 35).key, pendKeyF := (tileRecord 34).key }
    mram := { slots := [(0, { mark := true, r := some (tileRecord 34) })] } }

/-- All tiles are good, and tile 35 is not among the first 32. -/
theorem repeatPending_logicalOf : repeatPending.logicalOf 35 = none := by decide +kernel

theorem repeatPending_slot : (repeatPending.slot 0).r.map Rec.rep = some 0 := rfl

/-- The report of tile 35 repeats the last record accepted, so the repeat of tile 34 goes to slot 0 before it is counted. -/
theorem tileError_repeatPending_slot : ((tileError 35 repeatPending).slot 0).r.map Rec.rep = some 1 := by decide +kernel

theorem exec_tileParityError (p : Fin 36) (s : State) : exec (.tileParityError p) s = .next (tileError p s) := rfl

/-- Refutes O22: the statement says that a parity error in a tile without a logical tile changes nothing of MRAM but the bad tiles, but its report may flush
pending repeats of another source to the record that slot 0 holds (`repeatPending`). -/
theorem not_injectionCaptureAndImages : ¬ Obligations.InjectionCaptureAndImages := by
  unfold Obligations.InjectionCaptureAndImages
  rintro ⟨-, -, -, -, -, -, htile, -⟩
  obtain ⟨t, hexec, -, hmram⟩ := htile repeatPending 35 repeatPending_logicalOf
  obtain rfl : tileError 35 repeatPending = t := Host.Outcome.next.inj ((exec_tileParityError 35 repeatPending).symm.trans hexec)
  have hslot : (tileError 35 repeatPending).slot 0 = repeatPending.slot 0 := by rw [State.slot, hmram]; rfl
  have hrep := tileError_repeatPending_slot
  rw [hslot, repeatPending_slot] at hrep
  exact absurd hrep (by decide)

end Sys2Proof.Machine
end

section
/-!
PROOFS. Running one instruction of a control program (12_control_programs.md, R342 to R345, R350): what `issue` does where the predicate of the word lets it write
and where it does not, and from that the arithmetic instructions.
-/
namespace Sys2Proof.Machine

/-! ### One issue, R342 and R343 -/

section
variable {s t : State} {op k w : Nat} {q q' : Sample} {body : Nat → Body} (hat : s.instrAt k = some (w, q)) (hop : iOp w = op)
include hat hop

/-- An instruction whose predicate allows it and whose access stays within its region. -/
theorem issue_allowed (hallowed : q.allowed w = true) (hbody : body w s q = (t, q', false)) :
    issue op k body s = setRun k (q'.after w (issuesOf op) ((wOf op).getD 0)) t := by
  simp [issue, hat, hop, hallowed, hbody]

/-- An instruction that is predicated off takes its issues and writes nothing (R343). -/
theorem issue_barred (hbarred : q.allowed w = false) :
    issue op k body s = setRun k (q.after w (issuesOf op) ((wOf op).getD 0)) s := by
  simp [issue, hat, hop, hbarred]

end

variable {c : Instr} {k op n l : Nat}

/-- A command that issues a body which only computes runs it as R343 and R350 say. -/
theorem RunsInstr.of_pureBody {f : Nat → Sample → Sample} (hexec : ∀ s, exec c s = .next (issue op k (fun w => pureBody (f w)) s))
    (hissues : issuesOf op = n) (hlatency : (wOf op).getD 0 = l) : RunsInstr c k op n l f := by
  subst hissues hlatency
  intro s w q hat hop
  rw [hexec]
  cases hallowed : q.allowed w with
  | true => rw [issue_allowed hat hop hallowed rfl, if_pos rfl]
  | false => rw [issue_barred hat hop hallowed, if_neg Bool.false_ne_true]

/-- A command that computes a register from the operands: they are read from the sample before the result is put. -/
theorem RunsInstr.of_compute {f : Nat → Sample → Nat} (hexec : ∀ s, exec c s = .next (compute op k f s))
    (hissues : issuesOf op = n) (hlatency : (wOf op).getD 0 = l) : RunsInstr c k op n l (fun w q => q.put (iD w) (f w q)) :=
  .of_pureBody hexec hissues hlatency

/-! ### The arithmetic instructions, R350 -/

/-- CLAMP, for its two statements (R348, R350). -/
theorem clamp_runsInstr (k : Fin 128) : RunsInstr (.clamp k) k 0x08 1 4 (fun w q => q.put (iD w) (max32 (q.b w) (min32 (q.a w) (q.c w)))) :=
  .of_compute (fun _ => rfl) rfl rfl

/-- Settles O23: NOP is a body that leaves the sample (`RunsInstr.of_pureBody`), and each of the others computes one register (`RunsInstr.of_compute`). -/
theorem arithmeticInstructions : Obligations.ArithmeticInstructions := by
  intro k
  refine ⟨?nop, ?add, ?sub, ?mul, ?fma, ?fnma, ?min, ?max, clamp_runsInstr k, ?abs, ?neg, ?mov, ?round, ?sel, ?movi, ?addi, ?muli⟩
  case nop => exact .of_pureBody (fun _ => rfl) rfl rfl
  all_goals exact .of_compute (fun _ => rfl) rfl rfl

end Sys2Proof.Machine
end

section
/-!
PROOFS. SORT, LOOP and the end of an instruction (12_control_programs.md, R343, R346, R354 and R358).
-/
namespace Sys2Proof.Machine

/-! ### The next word, R358 -/

/-- Where no loop ends at `pc`, the next word follows and the loops stand. -/
theorem Sample.turn_within (q : Sample) {pc : Nat} {ls : List LoopSt} (h : ∀ x ∈ ls, x.last ≠ pc) :
    q.turn pc ls = { q with pc := pc + 1, loops := ls } := by
  cases ls with
  | nil => rfl
  | cons x rest => rw [Sample.turn, if_neg (h x List.mem_cons_self)]

/-- The last word of a body with iterations to come goes back to the first. -/
theorem Sample.turn_repeats (q : Sample) {pc : Nat} {x : LoopSt} (rest : List LoopSt) (hlast : x.last = pc) (hcount : x.idx + 1 < x.count) :
    q.turn pc (x :: rest) = { q with pc := x.first, loops := { x with idx := x.idx + 1 } :: rest } := by
  rw [Sample.turn, if_pos hlast, if_pos hcount]

/-- The last word of the last iteration leaves the loop, and is then judged by the loops around it. -/
theorem Sample.turn_leaves (q : Sample) {pc : Nat} {x : LoopSt} (rest : List LoopSt) (hlast : x.last = pc) (hcount : x.count ≤ x.idx + 1) :
    q.turn pc (x :: rest) = q.turn pc rest := by
  rw [Sample.turn, if_pos hlast, if_neg (Nat.not_lt.2 hcount)]

/-! ### The end of an instruction, R343 and R345 -/

/-- The end bit ends the program. -/
theorem Sample.after_end (q : Sample) {w : Nat} (n l : Nat) (hend : iE w = true) :
    q.after w n l = { q with issues := q.issues + n, lastW := l, ended := true } := by
  rw [Sample.after, if_pos hend]

/-- Without the end bit the next word is that of `Sample.turn`. -/
theorem Sample.after_goesOn (q : Sample) {w : Nat} (n l : Nat) (hend : iE w = false) :
    q.after w n l = { q with issues := q.issues + n, lastW := l }.turn q.pc q.loops := by
  rw [Sample.after, if_neg (by rw [hend]; exact Bool.false_ne_true)]

/-! ### Commands -/

section
variable {s : State} {k : Fin 128} {w : Nat} {q : Sample} (hat : s.instrAt k = some (w, q))
include hat

/-- A SORT whose result is not ready lets one issue pass (R346). -/
theorem exec_sort_waits (hop : iOp w = 0x24) (hwaits : s.sortWaits k w q = true) :
    exec (.sort k) s = .next (setRun k { q with issues := q.issues + 1 } s) := by
  show execSort k s = _
  simp [execSort, hat, hop, hwaits]

/-- A SORT whose result is ready is issued. -/
theorem exec_sort_ready (hready : s.sortWaits k w q = false) : exec (.sort k) s = .next (issue 0x24 k bodySort s) := by
  show execSort k s = _
  simp [execSort, hat, hready]

/-- A LOOP without the end bit enters its body at index 0 (R358). -/
theorem exec_loop_enters (hop : iOp w = 0x30) (hend : iE w = false) :
    exec (.loop k) s = .next (setRun k { bodyLoop w q with pc := q.pc + 1, issues := q.issues + 1 } s) := by
  show execLoop k s = _
  simp [execLoop, hat, hop, hend]

end

/-- MODE 0 of SORT gives the number of cells ranked (R354). -/
theorem bodySort_count {w : Nat} (s : State) (q : Sample) (hmode : bits w 31 28 = 0) :
    bodySort w s q = (s, q.put (iD w) (round32 ((Tab.get [] q.sorts (bits w 10 8)).length : Int)), false) := by
  simp only [bodySort, hmode]

/-- Settles O26: SORT waits or is issued (`exec_sort_waits`, `exec_sort_ready`), LOOP enters its body, and the end of an instruction is `Sample.after`, whose next
word `Sample.turn` gives by the innermost loop. -/
theorem sortsAndLoops : Obligations.SortsAndLoops := by
  unfold Obligations.SortsAndLoops
  refine ⟨?waits, ?count, ?enters, ?ends, ?within, ?repeats, ?leaves⟩
  case waits => exact fun s k w q hat hop hwaits => exec_sort_waits hat hop hwaits
  case count =>
    intro s k w q hat hop hready hallowed hmode
    rw [exec_sort_ready hat hready, issue_allowed hat hop hallowed (bodySort_count s q hmode)]
    rfl
  case enters => exact fun s k w q hat hop hend => exec_loop_enters hat hop hend
  case ends =>
    intro q w n l hend
    rw [q.after_end n l hend]
    exact ⟨rfl, rfl, rfl, rfl⟩
  case within =>
    intro q w n l hend hloops
    rw [q.after_goesOn n l hend, Sample.turn_within _ hloops]
    exact ⟨rfl, rfl, rfl⟩
  case repeats =>
    intro q w n l x rest hend hloops hlast hcount
    rw [q.after_goesOn n l hend, hloops, Sample.turn_repeats _ rest hlast hcount]
    exact ⟨rfl, rfl⟩
  case leaves =>
    intro q w n l x hend hloops hlast hcount
    rw [q.after_goesOn n l hend, hloops, Sample.turn_leaves _ [] hlast hcount]
    exact ⟨rfl, rfl⟩

end Sys2Proof.Machine
end

section
/-!
PROOFS. The arithmetic of control programs (12_control_programs.md, R347 to R349): the kinds of binary32 patterns and their sign, results of sums and products, the
order of the comparisons, and MIN, MAX and CLAMP.
-/
namespace Sys2Proof.Machine

variable {a b c : Nat}

/-! ### Kinds of patterns -/

theorem not_nan32_of_finite32 (h : finite32 a = true) : nan32 a = false := by
  simp_all [finite32, fFinite, nan32, fNan]

theorem not_inf32_of_finite32 (h : finite32 a = true) : inf32 a = false := by
  simp_all [finite32, fFinite, inf32, fInf]

theorem not_nan32_of_inf32 (h : inf32 a = true) : nan32 a = false := by
  simp_all [inf32, fInf, nan32, fNan]

theorem finite32_of_zero32 (h : zero32 a = true) : finite32 a = true := by
  simp_all [zero32, fZero, finite32, fFinite]

theorem val32_of_zero32 (h : zero32 a = true) : val32 a = 0 := by
  simp_all [zero32, fZero, val32, fVal]

/-! ### NEG changes the sign bit alone -/

/-- NEG adds the sign bit where it is clear and takes it away where it is set. -/
theorem neg32of_cases (a : Nat) : (a / 2 ^ 31 % 2 = 0 ∧ neg32of a = a + 2 ^ 31) ∨ (a / 2 ^ 31 % 2 = 1 ∧ neg32of a = a - 2 ^ 31) := by
  unfold neg32of
  cases hneg : neg32 a <;> simp [neg32, fSign, bitAt] at hneg ⊢ <;> omega

theorem neg32_neg32of (a : Nat) : neg32 (neg32of a) = !neg32 a := by
  simp only [neg32, fSign, bitAt, ← decide_not, decide_eq_decide]
  rcases neg32of_cases a with ⟨hbit, h⟩ | ⟨hbit, h⟩ <;> rw [h] <;> omega

theorem fExp_neg32of (a : Nat) : fExp 8 23 (neg32of a) = fExp 8 23 a := by
  simp only [fExp]
  rcases neg32of_cases a with ⟨hbit, h⟩ | ⟨hbit, h⟩ <;> rw [h] <;> omega

theorem fMan_neg32of (a : Nat) : fMan 23 (neg32of a) = fMan 23 a := by
  simp only [fMan]
  rcases neg32of_cases a with ⟨hbit, h⟩ | ⟨hbit, h⟩ <;> rw [h] <;> omega

theorem finite32_neg32of (a : Nat) : finite32 (neg32of a) = finite32 a := by
  rw [finite32, finite32, fFinite, fFinite, fExp_neg32of]

theorem val32_neg32of (a : Nat) : val32 (neg32of a) = -val32 a := by
  have hsign : fSign 8 23 (neg32of a) = !fSign 8 23 a := neg32_neg32of a
  simp only [val32, fVal, fExp_neg32of, fMan_neg32of, hsign]
  cases fSign 8 23 a <;> simp

/-! ### Sums and products, R347 -/

theorem add32_of_nan (h : nan32 a = true ∨ nan32 b = true) : add32 a b = qnan := by
  rw [add32, if_pos (by simpa using h)]

theorem mul32_of_nan (h : nan32 a = true ∨ nan32 b = true) : mul32 a b = qnan := by
  rcases h with h | h <;> simp [mul32, h]

theorem fma32_of_nan (h : nan32 a = true ∨ nan32 b = true ∨ nan32 c = true) : fma32 a b c = qnan := by
  rw [fma32, if_pos (by simpa [or_assoc] using h)]

theorem add32_of_opposite_infinities (ha : inf32 a = true) (hb : inf32 b = true) (hsign : neg32 a ≠ neg32 b) : add32 a b = qnan := by
  simp [add32, ha, hb, hsign]

theorem mul32_of_zero_infinity (ha : zero32 a = true) (hb : inf32 b = true) : mul32 a b = qnan := by
  simp [mul32, ha, hb]

/-- An exact zero sum is +0.0 unless both operands have the sign bit. -/
theorem add32_of_zero_sum (ha : finite32 a = true) (hb : finite32 b = true) (hsum : val32 a + val32 b = 0) :
    add32 a b = zeroOf (neg32 a && neg32 b) := by
  simp [add32, not_nan32_of_finite32 ha, not_nan32_of_finite32 hb, not_inf32_of_finite32 ha, not_inf32_of_finite32 hb, hsum]

theorem add32_of_zeros (ha : zero32 a = true) (hb : zero32 b = true) : add32 a b = zeroOf (neg32 a && neg32 b) :=
  add32_of_zero_sum (finite32_of_zero32 ha) (finite32_of_zero32 hb) (by rw [val32_of_zero32 ha, val32_of_zero32 hb, add_zero])

theorem add32_neg32of_self (ha : finite32 a = true) : add32 a (neg32of a) = 0 := by
  have hsum : val32 a + val32 (neg32of a) = 0 := by rw [val32_neg32of, add_neg_cancel]
  rw [add32_of_zero_sum ha ((finite32_neg32of a).trans ha) hsum, neg32_neg32of, Bool.and_not_self]
  rfl

/-! ### The order of the comparisons, R347 -/

theorem lt32_of_nan (h : nan32 a = true ∨ nan32 b = true) : lt32 a b = false := by
  rw [lt32, if_pos (by simpa using h)]

theorem eq32_of_nan (h : nan32 a = true ∨ nan32 b = true) : eq32 a b = false := by
  rw [eq32, if_pos (by simpa using h)]

theorem le32_of_nan (h : nan32 a = true ∨ nan32 b = true) : le32 a b = false := by
  rw [le32, lt32_of_nan h, eq32_of_nan h, Bool.or_false]

theorem not_nan32_of_lt32 (h : lt32 a b = true) : nan32 a = false ∧ nan32 b = false := by
  by_contra hnan
  rw [lt32_of_nan (by simpa [or_iff_not_imp_left] using hnan)] at h
  exact Bool.false_ne_true h

/-- Zeros of either sign compare as equal. -/
theorem lt32_of_zeros (ha : zero32 a = true) (hb : zero32 b = true) : lt32 a b = false := by
  simp [lt32, not_inf32_of_finite32 (finite32_of_zero32 ha), not_inf32_of_finite32 (finite32_of_zero32 hb), val32_of_zero32 ha, val32_of_zero32 hb]

theorem eq32_of_zeros (ha : zero32 a = true) (hb : zero32 b = true) : eq32 a b = true := by
  have hfa := finite32_of_zero32 ha
  have hfb := finite32_of_zero32 hb
  simp [eq32, not_nan32_of_finite32 hfa, not_nan32_of_finite32 hfb, not_inf32_of_finite32 hfa, not_inf32_of_finite32 hfb, val32_of_zero32 ha,
    val32_of_zero32 hb]

/-- What `a < b` says of each kind: −∞ lies below all else, +∞ above all else, and the finite lie by their values. -/
theorem lt32_iff (ha : nan32 a = false) (hb : nan32 b = false) :
    lt32 a b = true ↔ if inf32 a = true then neg32 a = true ∧ ¬(inf32 b = true ∧ neg32 b = true)
      else if inf32 b = true then neg32 b = false else val32 a < val32 b := by
  simp only [lt32, ha, hb, Bool.or_self, Bool.false_eq_true, if_false]
  cases inf32 a <;> cases inf32 b <;> simp

theorem eq32_iff (ha : nan32 a = false) (hb : nan32 b = false) :
    eq32 a b = true ↔ if inf32 a = true ∨ inf32 b = true then a = b else val32 a = val32 b := by
  simp only [eq32, ha, hb, Bool.or_self, Bool.false_eq_true, if_false, Bool.or_eq_true]
  split <;> simp

/-- An infinity above another pattern is +∞, and one below another is −∞. -/
theorem neg32_of_lt32_infinity (h : lt32 a b = true) (hb : inf32 b = true) : neg32 b = false := by
  obtain ⟨hna, hnb⟩ := not_nan32_of_lt32 h
  rw [lt32_iff hna hnb, hb, if_pos rfl] at h
  split at h
  case isTrue => simpa using h.2
  case isFalse => exact h

theorem neg32_of_infinity_lt32 (h : lt32 a b = true) (ha : inf32 a = true) : neg32 a = true := by
  obtain ⟨hna, hnb⟩ := not_nan32_of_lt32 h
  rw [lt32_iff hna hnb, if_pos ha] at h
  exact h.1

theorem lt32_trans (hab : lt32 a b = true) (hbc : lt32 b c = true) : lt32 a c = true := by
  obtain ⟨ha, hb⟩ := not_nan32_of_lt32 hab
  obtain ⟨-, hc⟩ := not_nan32_of_lt32 hbc
  have hmiddle : ¬inf32 b = true := fun hinf =>
    Bool.false_ne_true ((neg32_of_lt32_infinity hab hinf).symm.trans (neg32_of_infinity_lt32 hbc hinf))
  rw [lt32_iff ha hc]
  split
  case isTrue hinf => exact ⟨neg32_of_infinity_lt32 hab hinf, fun ⟨hic, hneg⟩ => by simp [neg32_of_lt32_infinity hbc hic] at hneg⟩
  case isFalse hia =>
    split
    case isTrue hic => exact neg32_of_lt32_infinity hbc hic
    case isFalse hic =>
      rw [lt32_iff ha hb, if_neg hia, if_neg hmiddle] at hab
      rw [lt32_iff hb hc, if_neg hmiddle, if_neg hic] at hbc
      exact hab.trans hbc

theorem lt32_of_eq32_of_lt32 (ha : nan32 a = false) (hab : eq32 a b = true) (hbc : lt32 b c = true) : lt32 a c = true := by
  obtain ⟨hb, hc⟩ := not_nan32_of_lt32 hbc
  rw [eq32_iff ha hb] at hab
  split at hab
  case isTrue hinf => rw [hab]; exact hbc
  case isFalse hfin =>
    obtain ⟨hia, hib⟩ := not_or.1 hfin
    rw [lt32_iff hb hc, if_neg hib] at hbc
    rwa [lt32_iff ha hc, if_neg hia, hab]

/-! ### MIN, MAX and CLAMP, R348 -/

/-- −0.0 lies below +0.0. -/
theorem min32_of_zeros (ha : zero32 a = true) (hb : zero32 b = true) : min32 a b = if neg32 a then a else b := by
  simp [min32, not_nan32_of_finite32 (finite32_of_zero32 ha), not_nan32_of_finite32 (finite32_of_zero32 hb), lt32_of_zeros ha hb, eq32_of_zeros ha hb]

theorem max32_of_zeros (ha : zero32 a = true) (hb : zero32 b = true) : max32 a b = if neg32 a then b else a := by
  cases hneg : neg32 a <;>
    simp [max32, not_nan32_of_finite32 (finite32_of_zero32 ha), not_nan32_of_finite32 (finite32_of_zero32 hb), lt32_of_zeros hb ha, eq32_of_zeros ha hb, hneg]

theorem min32_max32_of_signed_zeros :
    min32 0 0x80000000 = 0x80000000 ∧ min32 0x80000000 0 = 0x80000000 ∧ max32 0 0x80000000 = 0 ∧ max32 0x80000000 0 = 0 :=
  ⟨min32_of_zeros rfl rfl, min32_of_zeros rfl rfl, max32_of_zeros rfl rfl, max32_of_zeros rfl rfl⟩

/-- A single NaN gives the other operand. -/
theorem min32_max32_of_one_nan (ha : nan32 a = true) (hb : nan32 b = false) : min32 a b = b ∧ min32 b a = b ∧ max32 a b = b ∧ max32 b a = b := by
  simp [min32, max32, ha, hb]

/-- MIN is one of its operands, and what lies above the second lies above it. -/
theorem lt32_min32_of_lt32 (a : Nat) (h : lt32 c b = true) : lt32 (min32 a c) b = true := by
  obtain ⟨hc, -⟩ := not_nan32_of_lt32 h
  cases ha : nan32 a with
  | true => rwa [(min32_max32_of_one_nan ha hc).1]
  | false =>
    simp only [min32, ha, hc, Bool.false_eq_true, if_false]
    split
    case isTrue hfirst =>
      rcases Bool.or_eq_true_iff.1 hfirst with hlt | heq
      · exact lt32_trans hlt h
      · exact lt32_of_eq32_of_lt32 ha (Bool.and_eq_true_iff.1 heq).1 h
    case isFalse => exact h

theorem max32_of_lt32 (h : lt32 a b = true) : max32 b a = b := by
  obtain ⟨ha, hb⟩ := not_nan32_of_lt32 h
  simp [max32, ha, hb, h]

/-- Settles O53: MIN and MAX of zeros and of a NaN, CLAMP as the instruction it is (`clamp_runsInstr`), and for b > c that MIN(a, c) stays below b
(`lt32_min32_of_lt32`). -/
theorem minMaxAndClamp : Obligations.MinMaxAndClamp := by
  unfold Obligations.MinMaxAndClamp
  refine ⟨min32_max32_of_signed_zeros, ?oneNan, clamp_runsInstr, ?clampNan, ?clampCrossed⟩
  case oneNan => exact fun a b ha hb => min32_max32_of_one_nan ha hb
  case clampNan =>
    intro a b c ha hc
    rw [(min32_max32_of_one_nan ha hc).1]
  case clampCrossed => exact fun a b c h => max32_of_lt32 (lt32_min32_of_lt32 a h)

/-! ### Subnormals, R347 -/

/-- A flushed pattern is no subnormal. -/
theorem fMan_ftz_of_fExp_zero (h : fExp 8 23 (ftz a) = 0) : fMan 23 (ftz a) = 0 := by
  unfold ftz at h ⊢
  split at h
  case isTrue hexp => rw [if_pos hexp, fMan]; omega
  case isFalse hexp =>
    simp only [fExp] at h hexp
    omega

/-- Settles O27: a NaN, infinities and zero sums by the lemma for each, and every write of a register is flushed (`fMan_ftz_of_fExp_zero`). -/
theorem floatingPointRules : Obligations.FloatingPointRules := by
  unfold Obligations.FloatingPointRules
  refine ⟨?nan, ?oneNan, ?zeros, ?special, ?cancel, ?flushed⟩
  case nan =>
    intro a b h
    refine ⟨add32_of_nan h, mul32_of_nan h, lt32_of_nan h, le32_of_nan h, eq32_of_nan h, fun c => ⟨fma32_of_nan ?_, fma32_of_nan ?_⟩⟩
    · exact h.imp_right .inl
    · exact h.symm.imp_right .inr
  case oneNan => exact fun a b ha hb => min32_max32_of_one_nan ha hb
  case zeros =>
    obtain ⟨hmin, hmin', hmax, hmax'⟩ := min32_max32_of_signed_zeros
    exact ⟨hmin, hmin', hmax, hmax', eq32_of_zeros rfl rfl⟩
  case special =>
    exact ⟨add32_of_opposite_infinities rfl rfl (by decide), mul32_of_zero_infinity rfl rfl, add32_of_zeros rfl rfl, add32_of_zeros rfl rfl⟩
  case cancel => exact fun a ha _ => add32_neg32of_self ha
  case flushed =>
    intro q r x hexp
    simp only [Sample.put, Tab.get_set_self] at hexp ⊢
    exact fMan_ftz_of_fExp_zero hexp

end Sys2Proof.Machine
end
section
/-!
PROOFS. What every step keeps: the queue, OTP and the canonical form of the register table.
-/
namespace Sys2Proof.Machine

/-- What lies on the way of every command but an accepted token's: the queue and the owner key slots stand, no counter falls,
DEBUG_OFF stands, and the register table keeps its form. -/
structure Forward (s t : State) : Prop where
  pending : t.pending = s.pending
  slots : t.sec.slotState = s.sec.slotState
  counters : ∀ k, Tab.get 0 s.sec.counters k ≤ Tab.get 0 t.sec.counters k
  debugOff : t.sec.debugOff = s.sec.debugOff
  rising : s.RegsRising → t.RegsRising

/-- What `Forward` speaks of. -/
def State.core (s : State) : List Instr × Tab Nat × Tab Nat × Tab Nat × Bool :=
  (s.pending, s.regs, s.sec.slotState, s.sec.counters, s.sec.debugOff)

variable {s0 s t : State}

theorem Forward.refl (s : State) : Forward s s := ⟨rfl, rfl, fun _ => Nat.le_refl _, rfl, id⟩

theorem Forward.trans {a b c : State} (h : Forward a b) (k : Forward b c) : Forward a c :=
  ⟨k.pending.trans h.pending, k.slots.trans h.slots, fun i => (h.counters i).trans (k.counters i), k.debugOff.trans h.debugOff,
    fun r => k.rising (h.rising r)⟩

theorem Forward.of_kept (h : Kept s t) : Forward s t :=
  ⟨h.pending, h.slots, fun _ => by rw [h.counters], h.debug, h.rising⟩

theorem Forward.reported (h : Forward s0 s) (k : Reported s t) : Forward s0 t := h.trans (.of_kept k.kept)

theorem Forward.of_core (h : Forward s0 s) (e : t.core = s.core) : Forward s0 t := by
  simp only [State.core, Prod.mk.injEq] at e
  obtain ⟨hp, hr, hs, hc, hd⟩ := e
  exact ⟨hp.trans h.pending, hs.trans h.slots, fun k => by rw [hc]; exact h.counters k, hd.trans h.debugOff,
    fun k => by unfold State.RegsRising; rw [hr]; exact h.rising k⟩

/-- An update of other fields (State's own order). -/
theorem Forward.update {freeCount' now' cyc' pw' clk' ts' lanes' prbs' links' verifyQ' gates' cells' cars' legs' groupPend' ctxs' eng' met' wf' strs'
    dx' fc' spine' recd' mram' ledger' saving' th' net' store'} (h : Forward s0 s) :
    Forward s0 (.mk s.pending s.regs freeCount' now' cyc' pw' clk' ts' lanes' prbs' links' verifyQ' gates' cells' cars' legs' groupPend' ctxs' eng'
        met' wf' strs' dx' fc' spine' recd' mram' ledger' saving' th' net' s.sec store') :=
  h.of_core rfl

/-- An update of `sec` that leaves the OTP items alone. -/
theorem Forward.updateSec {makerKeys' makerVersion' slotDigest' image' images' imageNew' found' map' deadLanes' deadSpine' badSpine' banks' firmware'
    tried' reverted' engine' engineQ' tokens' checking' checkFor' counting' nonce' report' clearing' challenge'} (h : Forward s0 s) :
    Forward s0 { s with
      sec := .mk makerKeys' makerVersion' s.sec.slotState slotDigest' s.sec.counters s.sec.debugOff image' images' imageNew' found' map' deadLanes'
        deadSpine' badSpine' banks' firmware' tried' reverted' engine' engineQ' tokens' checking' checkFor' counting' nonce' report' clearing'
        challenge' } :=
  h.of_core rfl

theorem Forward.ite {c : Prop} [Decidable c] (hs : Forward s0 s) (ht : Forward s0 t) : Forward s0 (if c then s else t) := by
  split <;> assumption

/-- An effect that a condition asks for. -/
theorem Forward.when {c : Prop} [Decidable c] (h : Forward s0 s) (ht : Forward s0 s → Forward s0 t) :
    Forward s0 (if c then t else s) := .ite (ht h) h

theorem Forward.unless {c : Prop} [Decidable c] (h : Forward s0 s) (ht : Forward s0 s → Forward s0 t) :
    Forward s0 (if c then s else t) := .ite h (ht h)

/-- Two ways on from one state. -/
theorem Forward.branch {c : Prop} [Decidable c] {u : State} (h : Forward s0 s) (ht : Forward s0 s → Forward s0 t) (hu : Forward s0 s → Forward s0 u) :
    Forward s0 (if c then t else u) := .ite (ht h) (hu h)

theorem Forward.ite_fst {α : Type} {c : Prop} [Decidable c] {p q : State × α} (hp : Forward s0 p.1) (hq : Forward s0 q.1) :
    Forward s0 (if c then p else q).1 := by
  split <;> assumption

theorem Forward.ite_snd {α : Type} {c : Prop} [Decidable c] {p q : α × State} (hp : Forward s0 p.2) (hq : Forward s0 q.2) :
    Forward s0 (if c then p else q).2 := by
  split <;> assumption

theorem Forward.each {α : Type} {l : List α} {f : α → State → State} (h : Forward s0 s)
    (hf : ∀ i x, Forward s0 x → Forward s0 (f i x)) : Forward s0 (s.each l f) :=
  State.each_keeps h fun i _ => hf i

theorem Forward.foldl {α : Type} {l : List α} {f : State → α → State} (h : Forward s0 s)
    (hf : ∀ i x, Forward s0 x → Forward s0 (f x i)) : Forward s0 (l.foldl f s) :=
  State.each_keeps (f := fun i x => f x i) h fun i _ => hf i

theorem Forward.foldl_fst {α β : Type} {l : List α} {f : State × β → α → State × β} {a : State × β} (h : Forward s0 a.1)
    (hf : ∀ x i, Forward s0 x.1 → Forward s0 (f x i).1) : Forward s0 (l.foldl f a).1 := by
  induction l generalizing a with
  | nil => exact h
  | cons i l ih => exact ih (hf a i h)

theorem Forward.foldl_snd {α β : Type} {l : List α} {f : β × State → α → β × State} {a : β × State} (h : Forward s0 a.2)
    (hf : ∀ x i, Forward s0 x.2 → Forward s0 (f x i).2) : Forward s0 (l.foldl f a).2 := by
  induction l generalizing a with
  | nil => exact h
  | cons i l ih => exact ih (hf a i h)

theorem Forward.set {f : Fld} {v : Nat} (h : Forward s0 s) : Forward s0 (s.set f v) := h.reported (s.set_reported f v)
theorem Forward.setBit {f : Fld} {b : Bool} (h : Forward s0 s) : Forward s0 (s.setBit f b) := h.set
theorem Forward.inc {f : Fld} (h : Forward s0 s) : Forward s0 (s.inc f) := h.reported (s.inc_reported f)

end Sys2Proof.Machine
end
section
/-!
PROOFS. Every function of the model goes forward (`Forward`), in the order of the model's chapters.
-/
namespace Sys2Proof.Machine

variable {s0 s : State}

/-! ### Ops -/

theorem Forward.modCyc {f : CoreCycle → CoreCycle} (h : Forward s0 s) : Forward s0 (s.modCyc f) := h.of_core rfl
theorem Forward.noteSet {f : Fld} (h : Forward s0 s) : Forward s0 (s.noteSet f) := h.of_core rfl

theorem Forward.clearCount {f : Fld} (h : Forward s0 s) : Forward s0 (s.clearCount f) := by
  unfold Machine.State.clearCount
  exact h.set

theorem Forward.incWrap {f : Fld} (h : Forward s0 s) : Forward s0 (s.incWrap f) := by
  unfold Machine.State.incWrap
  exact h.set.modCyc

theorem Forward.set64 {lo hi : Fld} {v : Nat} (h : Forward s0 s) : Forward s0 (s.set64 lo hi v) := h.reported (State.set64_reported ..)
theorem Forward.modLane {n : Nat} {f : LaneSt → LaneSt} (h : Forward s0 s) : Forward s0 (s.modLane n f) := h.of_core rfl
theorem Forward.modLink {n : Nat} {f : LinkSt → LinkSt} (h : Forward s0 s) : Forward s0 (s.modLink n f) := h.of_core rfl
theorem Forward.modGate {n : Nat} {f : GateSt → GateSt} (h : Forward s0 s) : Forward s0 (s.modGate n f) := h.of_core rfl
theorem Forward.modCell {n : Nat} {f : BalSt → BalSt} (h : Forward s0 s) : Forward s0 (s.modCell n f) := h.of_core rfl
theorem Forward.modStr {t : Nat} {f : StrSt → StrSt} (h : Forward s0 s) : Forward s0 (s.modStr t f) := h.of_core rfl

theorem Forward.draw (h : Forward s0 s) : Forward s0 s.draw.2 := by
  unfold Machine.State.draw
  exact h.update

theorem Forward.engineNext (h : Forward s0 s) : Forward s0 (engineNext s) := by
  unfold Machine.engineNext
  split
  · exact h
  · exact h.updateSec
  · exact h.updateSec
  · exact h

theorem Forward.engineEnds (h : Forward s0 s) : Forward s0 (engineEnds s) := by
  unfold Machine.engineEnds
  exact h.updateSec.engineNext

theorem Forward.engineAsk {o : EngineOp} (h : Forward s0 s) : Forward s0 (engineAsk o s) := by
  unfold Machine.engineAsk
  exact h.updateSec.engineNext

theorem Forward.askVerify {n : Nat} (h : Forward s0 s) : Forward s0 (askVerify n s) := by
  unfold Machine.askVerify
  exact h.update.engineNext

theorem Forward.dropVerify {n : Nat} (h : Forward s0 s) : Forward s0 (dropVerify n s) := by
  unfold Machine.dropVerify
  exact .ite h.update.updateSec h.update

theorem Forward.requestUrgent {n : Nat} {u : Urgent} (h : Forward s0 s) : Forward s0 (requestUrgent n u s) := h.reported (requestUrgent_reported ..)
theorem Forward.transmit {dir : Nat} {bs : List Byte} (h : Forward s0 s) : Forward s0 (s.transmit dir bs) := h.of_core rfl
theorem Forward.setLeaf {f : Fld} {r : ReportArg} (h : Forward s0 s) : Forward s0 (setLeaf f r s).1 := h.reported (setLeaf_reported ..)
theorem Forward.dropMsg (h : Forward s0 s) : Forward s0 (dropMsg s).1 := h.reported (dropMsg_reported ..)
theorem Forward.sendTo {typ chan dest : Nat} {payload : List Byte} (h : Forward s0 s) :
    Forward s0 (sendTo typ chan dest payload s).1 := h.reported (sendTo_reported ..)

theorem Forward.sendBoth {typ chan dest : Nat} {payload : Nat → List Byte} (h : Forward s0 s) : Forward s0 (sendBoth typ chan dest payload s) := by
  unfold Machine.sendBoth
  exact .each h.update fun _ _ h' => .ite h'.transmit h'

theorem Forward.modNet {f : Net → Net} (h : Forward s0 s) : Forward s0 (s.modNet f) := h.of_core rfl

theorem Forward.canSend {m : CanOut} (h : Forward s0 s) : Forward s0 (canSend m s) := by
  unfold Machine.canSend
  exact .ite h.modNet h

theorem Forward.frameLost (h : Forward s0 s) : Forward s0 (frameLost s) := h.of_core rfl

theorem Forward.canRestart (h : Forward s0 s) : Forward s0 (canRestart s) := by
  unfold Machine.canRestart
  exact h.set.set.set.frameLost

theorem Forward.flush {f : Bool} (h : Forward s0 s) : Forward s0 (flush f s).1 := h.reported (flush_reported ..)
theorem Forward.post {r : Rec} (h : Forward s0 s) : Forward s0 (post r s).1 := h.reported (post_reported ..)
theorem Forward.postEmcy {origin b i inst info tsc : Nat} (h : Forward s0 s) :
    Forward s0 (postEmcy origin b i inst info tsc s).1 := h.reported (postEmcy_reported ..)
theorem Forward.groupFirst {loc : Bool} {origin source gt : Nat} (h : Forward s0 s) :
    Forward s0 (groupFirst loc origin source gt s) := h.reported (groupFirst_reported ..)
theorem Forward.parkCells (h : Forward s0 s) : Forward s0 (parkCells s) := h.reported (parkCells_reported ..)
theorem Forward.modMet {f : Met → Met} (h : Forward s0 s) : Forward s0 (s.modMet f) := h.of_core rfl
theorem Forward.phasorStart (h : Forward s0 s) : Forward s0 (phasorStart s) := h.reported (phasorStart_reported ..)
theorem Forward.stopInjection (h : Forward s0 s) : Forward s0 (stopInjection s).1 := h.reported (stopInjection_reported ..)
theorem Forward.enterSafe (h : Forward s0 s) : Forward s0 (enterSafe s).1 := h.reported (enterSafe_reported ..)
theorem Forward.takeAll {a : Nat} {a0 : List ReportArg} (h : Forward s0 s) : Forward s0 (takeAll a a0 s) := h.reported (takeAll_reported ..)
theorem Forward.report {l : List ReportArg} (h : Forward s0 s) : Forward s0 (report l s) := h.reported (report_reported ..)
theorem Forward.raiseAll {l : List Src} (h : Forward s0 s) : Forward s0 (raiseAll l s) := h.reported (raiseAll_reported ..)
theorem Forward.raise {r : Src} (h : Forward s0 s) : Forward s0 (raise r s) := h.reported (raise_reported ..)

theorem Forward.toSafe (h : Forward s0 s) : Forward s0 (toSafe s) := by
  unfold Machine.toSafe
  dsimp only
  exact h.enterSafe.report

theorem Forward.modFc {f : Fc → Fc} (h : Forward s0 s) : Forward s0 (s.modFc f) := h.of_core rfl

theorem Forward.cbiStore {m lo n : Nat} (h : Forward s0 s) : Forward s0 (cbiStore m lo n s) := by
  unfold Machine.cbiStore
  exact .ite h.modFc h

theorem Forward.releaseHeld {b : Nat} (h : Forward s0 s) : Forward s0 (releaseHeld b s) := by
  unfold Machine.releaseHeld
  exact .ite (.when h.set.modCyc fun h' => h'.modNet.modCyc) h

theorem Forward.clearBit {f : Fld} (h : Forward s0 s) : Forward s0 (clearBit f s) := by
  unfold Machine.clearBit
  exact .ite h.modCyc.report h.set

theorem Forward.clearRecord {b : Nat} (h : Forward s0 s) : Forward s0 (clearRecord b s) := by
  unfold Machine.clearRecord
  refine .releaseHeld ?_
  split
  · exact h.clearBit
  · exact h

theorem Forward.countRecovery {c : Nat} (h : Forward s0 s) : Forward s0 (countRecovery c s) := by
  unfold Machine.countRecovery
  exact .when h.modFc fun h' => h'.set.raise

theorem Forward.restartQuiet {b : Nat} (h : Forward s0 s) : Forward s0 (restartQuiet b s) := h.of_core rfl

theorem Forward.cellRecovery {n : Nat} {ok : Bool} (h : Forward s0 s) : Forward s0 (cellRecovery n ok s) := by
  unfold Machine.cellRecovery
  exact .each h.modFc fun _ _ h' => .ite h'.restartQuiet (.ite h'.clearRecord.countRecovery h')

theorem Forward.tripRecovery {i : Nat} {ok : Bool} (h : Forward s0 s) : Forward s0 (tripRecovery i ok s) := by
  unfold Machine.tripRecovery
  exact .ite (.unless h.modFc.restartQuiet fun h' => .when h.modFc fun h'' => h''.clearRecord.countRecovery) h

theorem Forward.refuse {r : Src} (h : Forward s0 s) : Forward s0 (refuse r s) := h.reported (refuse_reported ..)
theorem Forward.postRec {r : Rec} (h : Forward s0 s) : Forward s0 (postRec r s) := h.reported (postRec_reported ..)

/-! ### Operands -/

theorem Forward.passOn {i : Nat} {b payload : List Byte} (h : Forward s0 s) : Forward s0 (passOn i b payload s) := by
  unfold Machine.passOn
  exact .ite h.transmit h

theorem Forward.dropBad (h : Forward s0 s) : Forward s0 (dropBad s) := by
  unfold Machine.dropBad
  exact h.dropMsg.report

theorem Forward.relay {i : Nat} {b : List Byte} (h : Forward s0 s) : Forward s0 (relay i b s) := by
  unfold Machine.relay
  exact .ite h.passOn h.dropBad

/-! ### Ledger -/

theorem Forward.modLed {n : Nat} {f : LedgerSt → LedgerSt} (h : Forward s0 s) : Forward s0 (s.modLed n f) := h.of_core rfl
theorem Forward.modLife {n : Nat} {f : Life → Life} (h : Forward s0 s) : Forward s0 (s.modLife n f) := h.of_core rfl
theorem Forward.modMram {f : Mram → Mram} (h : Forward s0 s) : Forward s0 (s.modMram f) := h.of_core rfl
theorem Forward.setHist {i : Nat} {l : Option Life} (h : Forward s0 s) : Forward s0 (s.setHist i l) := h.of_core rfl

theorem Forward.toHistory {n : Nat} {y : Life} (h : Forward s0 s) : Forward s0 (toHistory n y s).2 := by
  unfold Machine.toHistory
  split
  · exact h.setHist
  · exact h.setHist.raise (r := Src.REC_HIST_EVICT n)

theorem Forward.setLive {n : Nat} {l : Option Life} (h : Forward s0 s) : Forward s0 (setLive n l s) := h.of_core rfl

theorem Forward.changeRecord {n code : Nat} {old new : List Byte} {slot : Nat} (h : Forward s0 s) : Forward s0 (changeRecord n code old new slot s)
    := by
  unfold Machine.changeRecord
  exact h.postRec

theorem Forward.ledgerAdmit {n : Nat} {x d : List Byte} {untrusted : Bool} (h : Forward s0 s) : Forward s0 (ledgerAdmit n x d untrusted s) := by
  unfold Machine.ledgerAdmit
  split
  · refine .ite h.modLife ?_
    split
    · exact .ite h.toHistory.setLive.raise.changeRecord h.toHistory.setLive.setLive.changeRecord
    · split
      · exact h.setHist.toHistory.setLive.changeRecord
      · exact h.toHistory.setLive.changeRecord
  · split
    · exact .ite h.raise.changeRecord h.setLive.setLive.changeRecord
    · split
      · exact h.setHist.setLive
      · exact h.setLive

theorem Forward.ledgerRemove {n : Nat} (h : Forward s0 s) : Forward s0 (ledgerRemove n s) := by
  unfold Machine.ledgerRemove
  split
  · exact h
  · exact h.toHistory.setLive.draw.changeRecord

theorem Forward.rainflow {n : Nat} {t : Int} (h : Forward s0 s) : Forward s0 (rainflow n t s) := by
  unfold Machine.rainflow
  dsimp only
  split
  · exact h
  · exact h.modLed
  · exact .ite h (.ite h.modLed (.ite h h.modLed))

theorem Forward.lifeRecord {n k src thr d : Nat} (h : Forward s0 s) : Forward s0 (lifeRecord n k src thr d s) := by
  unfold Machine.lifeRecord
  exact h.postRec

theorem Forward.checkLife {n : Nat} (h : Forward s0 s) : Forward s0 (checkLife n s) := by
  unfold Machine.checkLife
  refine .each h fun _ _ h' => ?_
  split
  · exact h'
  · exact .when (.ite h'.modLife.raise.lifeRecord h') fun h'' => h''.modLife.raise.lifeRecord

theorem Forward.ledgerFrame {n : Nat} (h : Forward s0 s) : Forward s0 (ledgerFrame n s) := by
  unfold Machine.ledgerFrame
  refine .ite ?_ h
  split
  · exact h.modLed
  · exact h

theorem Forward.ripple {n : Nat} (h : Forward s0 s) : Forward s0 (ripple n s) := by
  unfold Machine.ripple
  exact .modLed (.ite h.modLife h)

theorem Forward.ledgerSample {n : Nat} (h : Forward s0 s) : Forward s0 (ledgerSample n s) := by
  unfold Machine.ledgerSample
  dsimp only
  refine .ite ?_ h
  refine .checkLife ?_
  refine .ripple ?_
  refine .ite ?_ h
  split
  · refine .modLife ?_
    split
    · exact h.modLife.rainflow
    · exact h
  · split
    · exact h.modLife.rainflow
    · exact h

theorem Forward.ledgerSecond {n : Nat} (h : Forward s0 s) : Forward s0 (ledgerSecond n s) := by
  unfold Machine.ledgerSecond
  refine .ite ?_ h
  refine .checkLife ?_
  split
  · exact .modLife (.ite h.modLife h)
  · exact .modLife (.modLife (.ite h.modLife h))

theorem Forward.startSave {n : Nat} (h : Forward s0 s) : Forward s0 (startSave n s) := by
  unfold Machine.startSave
  split
  · exact .ite h.modMram.set.update h
  · exact h

theorem Forward.endSave {n : Nat} {l : Life} (h : Forward s0 s) : Forward s0 (endSave n l s) := by
  unfold Machine.endSave
  exact h.modMram.modLed.set.update

theorem Forward.saveChunk (h : Forward s0 s) : Forward s0 (saveChunk s) := by
  unfold Machine.saveChunk
  split
  · exact h
  · exact .ite h.set.update (.ite h.update h.endSave)

theorem Forward.saveAll (h : Forward s0 s) : Forward s0 (saveAll s) := by
  unfold Machine.saveAll
  dsimp only
  refine .each h fun _ _ h' => ?_
  split
  · refine .endSave ?_
    refine .startSave ?_
    split
    · exact h'.endSave
    · exact h'
  · refine .startSave ?_
    split
    · exact h'.endSave
    · exact h'

/-! ### Cells -/

theorem Forward.startParam {n addr val : Nat} {wr : Bool} (h : Forward s0 s) : Forward s0 (startParam n addr val wr s) := by
  unfold Machine.startParam
  exact .when (.set (.when h.set.setBit fun h' => h'.set)) fun h' => .raise (.set (.when h.set.setBit fun h'' => h''.set))

theorem Forward.own {n : Nat} (h : Forward s0 s) : Forward s0 (own n s) := by
  unfold Machine.own
  exact .ite h h.set.modCell.startParam

theorem Forward.disown {n : Nat} (h : Forward s0 s) : Forward s0 (disown n s) := by
  unfold Machine.disown
  exact h.set

theorem Forward.checkStrings (h : Forward s0 s) : Forward s0 (checkStrings s) := h.reported (checkStrings_reported ..)
theorem Forward.setBal {n st : Nat} (h : Forward s0 s) : Forward s0 (setBal n st s) := h.reported (setBal_reported ..)

theorem Forward.openCell {n : Nat} (h : Forward s0 s) : Forward s0 (openCell n s) := by
  unfold Machine.openCell
  exact h.modCell.setBal

theorem Forward.closeCell {n : Nat} (h : Forward s0 s) : Forward s0 (closeCell n s) := by
  unfold Machine.closeCell
  exact h.modCell.setBal

theorem Forward.cellBack {n : Nat} (h : Forward s0 s) : Forward s0 (cellBack n s) := by
  unfold Machine.cellBack
  exact .ite (.ite h (.ite (.ite h.openCell h.setBal) h)) h

theorem Forward.excludeCell {n : Nat} (h : Forward s0 s) : Forward s0 (excludeCell n s) := h.reported (excludeCell_reported ..)

theorem Forward.enterString {n : Nat} (h : Forward s0 s) : Forward s0 (enterString n s) := by
  unfold Machine.enterString
  exact .ite (.unless h.setBal.set fun h' => .when h.setBal fun h'' => h''.openCell) h

theorem Forward.resettleCells (h : Forward s0 s) : Forward s0 (resettleCells s) := by
  unfold Machine.resettleCells
  exact .each h fun _ _ h' => .ite h'.enterString (.ite h' h'.excludeCell)

theorem Forward.dropEdges {n : Nat} (h : Forward s0 s) : Forward s0 (dropEdges n s) := h.of_core rfl

theorem Forward.noteFirst {n src gate cause : Nat} (h : Forward s0 s) : Forward s0 (noteFirst n src gate cause s) := by
  unfold Machine.noteFirst
  exact .ite h.set.set.set.set h

theorem Forward.setSup {n st : Nat} (h : Forward s0 s) : Forward s0 (setSup n st s) := by
  unfold Machine.setSup
  exact .set (.ite h.set h)

theorem Forward.offGates {n mask : Nat} (h : Forward s0 s) : Forward s0 (offGates n mask s) := by
  unfold Machine.offGates
  exact h.set

theorem Forward.holdWhole {n : Nat} (h : Forward s0 s) : Forward s0 (holdWhole n s) := h.of_core rfl

theorem Forward.isolate {n : Nat} (h : Forward s0 s) : Forward s0 (isolate n s) := by
  unfold Machine.isolate
  exact .checkStrings (.when (.when (.modGate (.setSup (.ite h h.inc))) fun h' => .when h'.set fun h'' => h''.closeCell) fun h' =>
      h'.raise.cellRecovery)

theorem Forward.ask {n b : Nat} (h : Forward s0 s) : Forward s0 (ask n b s) := h.of_core rfl

theorem Forward.isolateBlack {n : Nat} (h : Forward s0 s) : Forward s0 (isolateBlack n s) := by
  unfold Machine.isolateBlack
  exact h.requestUrgent.offGates.dropEdges.holdWhole.isolate

theorem Forward.isolateLeg {n g : Nat} (h : Forward s0 s) : Forward s0 (isolateLeg n g s) := by
  unfold Machine.isolateLeg
  exact .unless h.requestUrgent.modLink.offGates fun h' => h'.isolate

theorem Forward.scSequence {n g : Nat} (h : Forward s0 s) : Forward s0 (scSequence n g s) := by
  unfold Machine.scSequence
  exact .branch h.ask.requestUrgent.dropEdges.offGates.setSup (fun h' => h'.isolateBlack) fun h' => h'.modGate.checkStrings

theorem Forward.scarletBlack {n b : Nat} (h : Forward s0 s) : Forward s0 (scarletBlack n b s) := by
  unfold Machine.scarletBlack
  exact h.ask.isolateBlack

theorem Forward.returnMonitor {n : Nat} (h : Forward s0 s) : Forward s0 (returnMonitor n s) := by
  unfold Machine.returnMonitor
  exact h.set.set.set.inc.set.set.set.set.modGate.cellBack.checkStrings.cellRecovery

theorem Forward.clearCell {n : Nat} (h : Forward s0 s) : Forward s0 (clearCell n s) := by
  unfold Machine.clearCell
  exact .ite h.set.modGate h.raise

theorem Forward.admitCell {n : Nat} (h : Forward s0 s) : Forward s0 (admitCell n s) := by
  unfold Machine.admitCell
  exact .checkStrings (.when (.enterString (.ledgerAdmit (.each h.set.set.set.set.set.modGate.modLink.modCell fun _ _ h' => h'.setBit))) fun h' =>
      h'.own)

theorem Forward.linkDown {n : Nat} (h : Forward s0 s) : Forward s0 (linkDown n s) := by
  unfold Machine.linkDown
  exact .excludeCell (.modGate (.when h.set.set.set.disown.dropVerify.modLink fun h' => h'.set.raise))

theorem Forward.refuseCell {n : Nat} (h : Forward s0 s) : Forward s0 (refuseCell n s) := by
  unfold Machine.refuseCell
  exact h.set.disown.excludeCell

/-! ### Prbs -/

theorem Forward.modPrbs {n : Nat} {f : Prbs → Prbs} (h : Forward s0 s) : Forward s0 (s.modPrbs n f) := h.of_core rfl

theorem Forward.startGen {n : Nat} (h : Forward s0 s) : Forward s0 (startGen n s) := by
  unfold Machine.startGen
  exact h.draw.modPrbs

theorem Forward.injectOne {n : Nat} (h : Forward s0 s) : Forward s0 (injectOne n s) := by
  unfold Machine.injectOne
  exact .ite h.modPrbs h

theorem Forward.seekBit {n pattern : Nat} {b : Bool} (h : Forward s0 s) : Forward s0 (seekBit n pattern b s) := by
  unfold Machine.seekBit
  exact .unless h.modPrbs fun h' => .when h.modPrbs fun h'' => h''.set.modPrbs

theorem Forward.checkBit {n pattern : Nat} {b : Bool} (h : Forward s0 s) : Forward s0 (checkBit n pattern b s) := by
  unfold Machine.checkBit
  exact .when (.unless h.set.modCyc.modPrbs fun h' => h'.inc) fun h' => h'.set.modPrbs.raise

theorem Forward.checkBits {n : Nat} {l : List Bool} (h : Forward s0 s) : Forward s0 (checkBits n l s) := by
  unfold Machine.checkBits
  exact .ite (.each h fun _ _ h' => .ite h'.checkBit h'.seekBit) h

theorem Forward.testBits {n sent : Nat} {l : List Nat} (h : Forward s0 s) : Forward s0 (testBits n sent l s) := by
  unfold Machine.testBits
  exact .ite h.modPrbs.checkBits h

theorem Forward.patternWritten {n : Nat} {old : State} (h : Forward s0 s) : Forward s0 (patternWritten n old s) := by
  unfold Machine.patternWritten
  exact .unless (.modPrbs (.set (.ite h.startGen h))) fun h' => .when (.ite h.startGen h) fun h'' => h''.set

theorem Forward.endPattern {n : Nat} (h : Forward s0 s) : Forward s0 (endPattern n s) := by
  unfold Machine.endPattern
  exact h.set.set.set.set.modPrbs

theorem Forward.readPrbsLo {n : Nat} {host : Bool} (h : Forward s0 s) : Forward s0 (readPrbsLo n host s) := by
  unfold Machine.readPrbsLo
  exact .ite h.modPrbs h.set

theorem Forward.clearPrbs {n : Nat} (h : Forward s0 s) : Forward s0 (clearPrbs n s) := by
  unfold Machine.clearPrbs
  exact h.clearCount.clearCount.modPrbs

/-! ### Lanes -/

theorem Forward.dropReceive {n : Nat} (h : Forward s0 s) : Forward s0 (dropReceive n s) := by
  unfold Machine.dropReceive
  exact h.set.set.set

theorem Forward.freshReceive {n : Nat} (h : Forward s0 s) : Forward s0 (freshReceive n s) := by
  unfold Machine.freshReceive
  exact h.setBit.dropReceive.modLane

theorem Forward.startAttempt {n k : Nat} (h : Forward s0 s) : Forward s0 (startAttempt n k s) := by
  unfold Machine.startAttempt
  exact .modLane (.freshReceive (.when h.set.set fun h' => h'.freshReceive))

theorem Forward.leaveUp {n : Nat} (h : Forward s0 s) : Forward s0 (leaveUp n s) := by
  unfold Machine.leaveUp
  exact .ite h.linkDown h

theorem Forward.bringUp {n : Nat} (h : Forward s0 s) : Forward s0 (bringUp n s) := by
  unfold Machine.bringUp
  exact .ite h.leaveUp.set.modLane (.ite h.leaveUp.set (.ite h.leaveUp.startAttempt.set (.ite h.leaveUp.startAttempt h.leaveUp.set)))

theorem Forward.failAttempt {n stage : Nat} (h : Forward s0 s) : Forward s0 (failAttempt n stage s) := by
  unfold Machine.failAttempt
  exact .unless h.set.inc.dropReceive.set fun h' => .unless h.set.inc.dropReceive.set.modLane fun h'' => h''.raise

theorem Forward.rxOnlyLost {n : Nat} (h : Forward s0 s) : Forward s0 (rxOnlyLost n s) := by
  unfold Machine.rxOnlyLost
  exact .ite h.dropReceive.modLane h

theorem Forward.laneUp {n : Nat} (h : Forward s0 s) : Forward s0 (laneUp n s) := by
  unfold Machine.laneUp
  exact .raiseAll (.when h.set.modLane.set.set.modLink fun h' => h'.set)

theorem Forward.loseLane {n : Nat} (h : Forward s0 s) : Forward s0 (loseLane n s) := by
  unfold Machine.loseLane
  exact .ite h.inc.raise.linkDown.startAttempt.modLane h

theorem Forward.showSpare {q : Nat} (h : Forward s0 s) : Forward s0 (showSpare q s) := by
  unfold Machine.showSpare
  exact .ite h (.each h fun _ _ h' => h'.setBit)

theorem Forward.swapReceive {q : Nat} (h : Forward s0 s) : Forward s0 (swapReceive q s) := by
  unfold Machine.swapReceive
  exact .showSpare (.each h fun _ _ h' => h'.set.set.set.set.set.modLane)

theorem Forward.countComma {n place : Nat} {comma : Bool} (h : Forward s0 s) : Forward s0 (countComma n place comma s) := by
  unfold Machine.countComma
  exact .when h.modLane fun h' => h'.set

theorem Forward.polarity {n : Nat} {cs : List (Option Sym)} (h : Forward s0 s) : Forward s0 (polarity n cs s) := by
  unfold Machine.polarity
  exact .ite (.ite h.setBit.set.modLane h.modLane) h.modLane

theorem Forward.mapConflict {n : Nat} (h : Forward s0 s) : Forward s0 (mapConflict n s) := by
  unfold Machine.mapConflict
  exact .ite h.failAttempt.raise h

theorem Forward.countTsu {pad : Nat} {bs : List Byte} (h : Forward s0 s) : Forward s0 (countTsu pad bs s) := by
  unfold Machine.countTsu
  exact .unless h.modLane fun h' => .unless h.mapConflict fun h'' => .when (.when (.modLane (.ite (.when h.set fun h''' => h'''.swapReceive) h))
      fun h''' => h'''.set) fun h''' => h'''.set.modLane

theorem Forward.countTsu2 {n : Nat} {bs : List Byte} (h : Forward s0 s) : Forward s0 (countTsu2 n bs s) := by
  unfold Machine.countTsu2
  exact .unless h.set.modLane fun h' => .when h.modLane fun h'' => h''.laneUp

theorem Forward.codeError {n : Nat} (h : Forward s0 s) : Forward s0 (codeError n s) := by
  unfold Machine.codeError
  exact .ite (.when h.inc.raise.modLane fun h' => h'.loseLane) h

theorem Forward.trainingSet {pad place : Nat} {rd : Bool} {gs : List Nat} (h : Forward s0 s) : Forward s0 (trainingSet pad place rd gs s) := by
  unfold Machine.trainingSet
  refine .ite ?_ h
  refine .ite h.countComma ?_
  refine .ite h.modLane.codeError ?_
  refine .ite ?_ ?_
  · split
    · exact .ite h.mapConflict h.countTsu2
    · exact h.modLane
  · refine .ite h.polarity ?_
    split
    · exact h.polarity.countTsu
    · exact h.polarity.modLane

theorem Forward.writeTest {n v : Nat} (h : Forward s0 s) : Forward s0 (writeTest n v s) := by
  unfold Machine.writeTest
  exact .ite (.when (.when h.set.set.set.set fun h' => h'.endPattern.bringUp) fun h' => .when h.set.set.set.set fun h'' =>
      h''.leaveUp.set.patternWritten) h

theorem Forward.stopTest {n : Nat} (h : Forward s0 s) : Forward s0 (stopTest n s) := by
  unfold Machine.stopTest
  exact .ite h.set.endPattern.bringUp h

theorem Forward.clearLaneCounts {n : Nat} (h : Forward s0 s) : Forward s0 (clearLaneCounts n s) := by
  unfold Machine.clearLaneCounts
  exact h.clearCount.clearCount.clearCount.clearPrbs

theorem Forward.groupRx {n : Nat} {rd : Bool} {g place : Nat} (h : Forward s0 s) : Forward s0 (groupRx n rd g place s) := by
  unfold Machine.groupRx
  exact .ite h.codeError h

theorem Forward.writeMapMode {q v : Nat} (h : Forward s0 s) : Forward s0 (writeMapMode q v s) := by
  unfold Machine.writeMapMode
  exact .ite (.unless h.set fun h' => .showSpare (.each (.each h'.set fun _ _ h'' => h''.set) fun _ _ h'' => .ite h''.bringUp h'')) h

theorem Forward.writeSpare {q v : Nat} (h : Forward s0 s) : Forward s0 (writeSpare q v s) := by
  unfold Machine.writeSpare
  exact .unless h.refuse fun h' => .each h.set.set fun _ _ h'' => .ite h''.set h''

theorem Forward.spareDone {q : Nat} (h : Forward s0 s) : Forward s0 (spareDone q s) := by
  unfold Machine.spareDone
  exact .ite (.each h.set.showSpare fun _ _ h' => .ite h'.bringUp h') h

/-! ### Gate -/

theorem Forward.actOc {n g : Nat} (h : Forward s0 s) : Forward s0 (actOc n g s) := by
  unfold Machine.actOc
  exact .ite h.scSequence (.ite (.ite h h.requestUrgent.offGates) h.scarletBlack)

theorem Forward.raiseCause {n : Nat} {leaf : Src} {source gate cause : Nat} (h : Forward s0 s) : Forward s0 (raiseCause n leaf source gate cause s)
    := by
  unfold Machine.raiseCause
  exact .when h.raise.noteFirst fun h' => h'.isolate

theorem Forward.actKind {n kind gate source : Nat} (h : Forward s0 s) : Forward s0 (actKind n kind gate source s) := by
  unfold Machine.actKind
  exact .ite h.raiseCause.actOc h.raiseCause.scarletBlack

theorem Forward.actScarlet {n cause gate : Nat} (h : Forward s0 s) : Forward s0 (actScarlet n cause gate s) := by
  unfold Machine.actScarlet
  exact h.actKind

theorem Forward.scarletRx {n : Nat} {rd : Bool} {gs : List Nat} (h : Forward s0 s) : Forward s0 (scarletRx n rd gs s) := by
  unfold Machine.scarletRx
  refine .ite ?_ h
  split
  · exact h.codeError
  · exact .when (.noteFirst (.raise (.modGate (.when h.inc fun h' => h'.inc.modLife)))) fun h' => .actScarlet (.modGate (.when h.inc fun h'' =>
        h''.inc.modLife))

theorem Forward.raiseMissing {n : Nat} (h : Forward s0 s) : Forward s0 (raiseMissing n s) := by
  unfold Machine.raiseMissing
  exact .when h.raise fun h' => h'.isolate

theorem Forward.evidence {n : Nat} (h : Forward s0 s) : Forward s0 (evidence n s) := by
  unfold Machine.evidence
  exact .ite h (.when (.ite (.when h.raiseMissing fun h' => h'.actKind) h) fun h' => .when h'.raiseMissing fun h'' => h''.actKind)

theorem Forward.actUv {n g : Nat} {boot : Bool} (h : Forward s0 s) : Forward s0 (actUv n g boot s) := by
  unfold Machine.actUv
  exact .when h.inc.modLife.raiseCause fun h' => .ite h'.ask.isolateBlack h'.ask.isolateLeg

theorem Forward.superviseSupply {n g : Nat} (h : Forward s0 s) : Forward s0 (superviseSupply n g s) := by
  unfold Machine.superviseSupply
  exact .ite (.when (.when (.unless h.modGate.set.actUv fun h' => .when h.modGate fun h'' => h''.set) fun h' => h'.modGate) fun h' => .raiseCause
      (.modGate (.unless h.modGate.set.actUv fun h'' => .when h.modGate fun h''' => h'''.set))) h

theorem Forward.superviseTemp {n : Nat} (h : Forward s0 s) : Forward s0 (superviseTemp n s) := by
  unfold Machine.superviseTemp
  exact .when (.when (.unless h.modGate.modGate.raiseCause fun h' => .when h.modGate fun h'' => h''.modGate) fun h' => h'.modGate) fun h' => .when
      (.raiseCause (.modGate (.unless h.modGate.modGate.raiseCause fun h'' => .when h.modGate fun h''' => h'''.modGate))) fun h'' =>
      h''.ask.isolateBlack

theorem Forward.clearProgress {n : Nat} (h : Forward s0 s) : Forward s0 (clearProgress n s) := by
  unfold Machine.clearProgress
  exact .when (.ite h.modGate h) fun h' => .ite h'.modGate (.ite h'.returnMonitor h')

theorem Forward.superviseFrame {n : Nat} (h : Forward s0 s) : Forward s0 (superviseFrame n s) := by
  unfold Machine.superviseFrame
  exact .clearProgress (.superviseTemp (.when h.evidence fun h' => .each h' fun _ _ h'' => h''.superviseSupply))

theorem Forward.telemetryLost {n : Nat} (h : Forward s0 s) : Forward s0 (telemetryLost n s) := by
  unfold Machine.telemetryLost
  exact .when h.raiseCause.modGate fun h' => h'.ask.isolateBlack

/-! ### Link -/

theorem Forward.applyOwner {n : Nat} (h : Forward s0 s) : Forward s0 (applyOwner n s) := by
  unfold Machine.applyOwner
  split
  · exact h
  · exact .ite (.ite h.modCell.own.modCell h.modCell.disown) h

theorem Forward.sendFrame {n : Nat} (h : Forward s0 s) : Forward s0 (sendFrame n s) := by
  unfold Machine.sendFrame
  refine .ite ?_ h
  refine .ite ?_ ?_
  · refine .modGate ?_
    split
    · exact .when h.applyOwner.modLink fun h' => h'.modGate
    · exact h.applyOwner.modLink
  · split
    · exact .when h.applyOwner.modLink fun h' => h'.modGate
    · exact h.applyOwner.modLink

theorem Forward.cutoffLane {n : Nat} (h : Forward s0 s) : Forward s0 (cutoffLane n s) := by
  unfold Machine.cutoffLane
  exact .ite h.modLink h

theorem Forward.sendUrgent {n : Nat} (h : Forward s0 s) : Forward s0 (sendUrgent n s) := by
  unfold Machine.sendUrgent
  split
  · exact h
  · exact .ite (.modGate (.modLink (.ite h.inc h))) h

theorem Forward.failIdentity {n res : Nat} (h : Forward s0 s) : Forward s0 (failIdentity n res s) := by
  unfold Machine.failIdentity
  exact .when h.set.modLink.dropVerify.raise.refuseCell fun h' => h'.isolateBlack

theorem Forward.tryAdmit {n : Nat} (h : Forward s0 s) : Forward s0 (tryAdmit n s) := by
  unfold Machine.tryAdmit
  exact .ite (.ite h.failIdentity (.ite h.raise.refuseCell (.ite h.admitCell h))) h

theorem Forward.startFetch {n : Nat} (h : Forward s0 s) : Forward s0 (startFetch n s) := by
  unfold Machine.startFetch
  exact h.dropVerify.modLink

theorem Forward.descFetch {n : Nat} (h : Forward s0 s) : Forward s0 (descFetch n s) := by
  unfold Machine.descFetch
  split
  · exact h.startFetch.modLink
  · exact h
  · exact h.set.set.set.startFetch.modLink

theorem Forward.descVerified {n : Nat} (h : Forward s0 s) : Forward s0 (descVerified n s) := by
  unfold Machine.descVerified
  split
  · exact .unless h.engineEnds fun h' => .ite (.unless h.update.engineEnds.modLink.set.set.failIdentity fun h'' => .branch
        h.update.engineEnds.modLink.set.set (fun h''' => h'''.set.tryAdmit) fun h''' => h'''.failIdentity) h
  · exact h

theorem Forward.descWhole {n : Nat} (h : Forward s0 s) : Forward s0 (descWhole n s) := by
  unfold Machine.descWhole
  exact .askVerify (.dropVerify (.unless h.modLink fun h' => h'.modGate))

theorem Forward.takeSegment {n : Nat} (h : Forward s0 s) : Forward s0 (takeSegment n s) := by
  unfold Machine.takeSegment
  exact .ite (.when h.failIdentity fun h' => .when h.modLink fun h'' => h''.descWhole) h

theorem Forward.delayRange {n : Nat} (h : Forward s0 s) : Forward s0 (delayRange n s) := by
  unfold Machine.delayRange
  exact .when h.modLink.raise fun h' => h'.refuseCell

theorem Forward.delayUpdate {n : Nat} (h : Forward s0 s) : Forward s0 (delayUpdate n s) := by
  unfold Machine.delayUpdate
  exact .ite (.unless h.set.modLink fun h' => .when h'.modLink fun h'' => h''.delayRange) h

theorem Forward.delayApply {n : Nat} (h : Forward s0 s) : Forward s0 (delayApply n s) := by
  unfold Machine.delayApply
  split
  · exact h
  · exact .tryAdmit (.when h.set.modLink fun h' => h'.raise)

theorem Forward.copyStatus {n : Nat} (h : Forward s0 s) : Forward s0 (copyStatus n s) := by
  unfold Machine.copyStatus
  exact .raiseAll (.when h.setBit.setBit.setBit.setBit.setBit.setBit.set fun h' => h'.modLife)

theorem Forward.paramEcho {n : Nat} (h : Forward s0 s) : Forward s0 (paramEcho n s) := by
  unfold Machine.paramEcho
  refine .ite ?_ h
  refine .ite ?_ h.set.set
  refine .ite ?_ h
  split
  · exact h.set.modGate
  · exact h.set.modGate
  · exact h.set

theorem Forward.bypassFrame {n : Nat} (h : Forward s0 s) : Forward s0 (bypassFrame n s) := by
  unfold Machine.bypassFrame
  exact .ite h (.ite (.ite h.setBal.raise.checkStrings (.ite h.setBal.modGate.checkStrings h)) (.ite (.ite h.setBal.raise.checkStrings (.ite
      h.setBal.checkStrings h)) h))

theorem Forward.contention {n : Nat} (h : Forward s0 s) : Forward s0 (contention n s) := by
  unfold Machine.contention
  exact .ite (.raise (.set (.each h fun _ _ h' => .ite h'.disown h'))) h

theorem Forward.stringExtremes {n : Nat} (h : Forward s0 s) : Forward s0 (stringExtremes n s) := by
  unfold Machine.stringExtremes
  split
  · exact h
  · exact h.update

theorem Forward.badFrame {n : Nat} (h : Forward s0 s) : Forward s0 (badFrame n s) := by
  unfold Machine.badFrame
  exact .ite (.when h.inc.modLink fun h' => h'.telemetryLost) h

theorem Forward.goodFrame {n : Nat} {u : List Byte} (h : Forward s0 s) : Forward s0 (goodFrame n u s) := by
  unfold Machine.goodFrame
  exact .unless h.modLink.modLink.copyStatus.takeSegment.paramEcho.ledgerFrame.stringExtremes.superviseFrame.bypassFrame.contention fun h' => .when
      h.modLink.modLink.copyStatus fun h'' => h''.superviseFrame

theorem Forward.upstreamFrame {n : Nat} {rd : Bool} {gs : List Nat} (h : Forward s0 s) : Forward s0 (upstreamFrame n rd gs s) := by
  unfold Machine.upstreamFrame
  dsimp only
  refine .ite ?_ h
  split
  · exact .when (.badFrame (.each h fun _ _ h' => h'.codeError)) fun h' => .goodFrame (.each h fun _ _ h'' => h''.codeError)
  · exact .badFrame (.each h fun _ _ h' => h'.codeError)

theorem Forward.clearLinkCounts {n : Nat} (h : Forward s0 s) : Forward s0 (clearLinkCounts n s) := by
  unfold Machine.clearLinkCounts
  exact h.clearCount.clearCount.clearCount

/-! ### Modulation -/

theorem Forward.modCar {k : Nat} {f : CarSt → CarSt} (h : Forward s0 s) : Forward s0 (s.modCar k f) := h.of_core rfl
theorem Forward.modLeg {l : Nat} {f : LegSt → LegSt} (h : Forward s0 s) : Forward s0 (s.modLeg l f) := h.of_core rfl
theorem Forward.modCtx {k : Nat} {f : CtxSt → CtxSt} (h : Forward s0 s) : Forward s0 (s.modCtx k f) := h.of_core rfl
theorem Forward.stampCar {k : Nat} (h : Forward s0 s) : Forward s0 (stampCar k s) := h.of_core rfl
theorem Forward.stampLeg {l : Nat} (h : Forward s0 s) : Forward s0 (stampLeg l s) := h.of_core rfl

theorem Forward.writePer {k v : Nat} (h : Forward s0 s) : Forward s0 (writePer k v s) := by
  unfold Machine.writePer
  exact .ite h.refuse h.set.stampCar

theorem Forward.writeLegField {l : Nat} {f : Fld} {v : Nat} (h : Forward s0 s) : Forward s0 (writeLegField l f v s) := by
  unfold Machine.writeLegField
  exact h.set.stampLeg

theorem Forward.binDelay {k d : Nat} (h : Forward s0 s) : Forward s0 (binDelay k d s) := by
  unfold Machine.binDelay
  exact h.inc.set

theorem Forward.relCommit {l : Nat} (h : Forward s0 s) : Forward s0 (relCommit l s) := by
  unfold Machine.relCommit
  exact .each h fun _ _ h' => .ite (.modCtx (.foldl h' fun _ _ h'' => h''.binDelay)) h'

theorem Forward.commitCar {k : Nat} (h : Forward s0 s) : Forward s0 (commitCar k s) := h.of_core rfl

theorem Forward.commitLeg {l : Nat} (h : Forward s0 s) : Forward s0 (commitLeg l s) := by
  unfold Machine.commitLeg
  exact .when h.modLeg fun h' => h'.relCommit

theorem Forward.commitEvent {k : Nat} {e : CarEvt} (h : Forward s0 s) : Forward s0 (commitEvent k e s) := by
  unfold Machine.commitEvent
  exact .each (.ite (.each (.ite h.commitCar h) fun _ _ h' => .ite h'.commitLeg h') h) fun _ _ h' => .ite (.each (.each h'.update fun _ _ h'' => .ite
      h''.commitCar h'') fun _ _ h'' => .ite h''.commitLeg h'') h'

theorem Forward.commitGroups {v : Nat} (h : Forward s0 s) : Forward s0 (commitGroups v s) := by
  unfold Machine.commitGroups
  exact .each h fun _ _ h' => .ite h'.update h'

theorem Forward.enableCar {k : Nat} (h : Forward s0 s) : Forward s0 (enableCar k s) := by
  unfold Machine.enableCar
  exact .when h.set fun h' => h'.modCar

theorem Forward.endPlan {z l : Nat} (h : Forward s0 s) : Forward s0 (endPlan z l s) := h.of_core rfl

theorem Forward.disableCar {k : Nat} (h : Forward s0 s) : Forward s0 (disableCar k s) := by
  unfold Machine.disableCar
  dsimp only
  split
  · exact .each h.set.modCar fun _ _ h' => h'.endPlan
  · exact h.set.modCar

theorem Forward.sendTrigger {src sel : Nat} (h : Forward s0 s) : Forward s0 (sendTrigger src sel s) := by
  unfold Machine.sendTrigger
  exact .each h fun _ _ h' => h'.modCtx

theorem Forward.fireTrigger {k : Nat} (h : Forward s0 s) : Forward s0 (fireTrigger k s) := by
  unfold Machine.fireTrigger
  exact h.sendTrigger

theorem Forward.prescale {k : Nat} {e : CarEvt} (h : Forward s0 s) : Forward s0 (prescale k e s) := by
  unfold Machine.prescale
  exact .ite (.when h.modCar fun h' => h'.fireTrigger) h

theorem Forward.endLegPeriod {z l : Nat} (h : Forward s0 s) : Forward s0 (endLegPeriod z l s) := by
  unfold Machine.endLegPeriod
  exact .when (.unless (.ite h h.modLeg) fun h' => h'.set) fun h' => .when h'.modLeg fun h'' => h''.modGate

theorem Forward.advanceZero {k : Nat} (h : Forward s0 s) : Forward s0 (advanceZero k s) := by
  unfold Machine.advanceZero
  exact .each h.setBit.modCar fun _ _ h' => h'.endLegPeriod

theorem Forward.carrierEvent {k : Nat} {e : CarEvt} (h : Forward s0 s) : Forward s0 (carrierEvent k e s) := by
  unfold Machine.carrierEvent
  dsimp only
  split
  · exact .ite h.advanceZero.prescale.commitEvent (.ite h.advanceZero h)
  · exact .ite h.prescale.commitEvent h
  · split
    · exact .ite h.prescale.commitEvent h
    · exact h

theorem Forward.countClamp {l : Nat} (h : Forward s0 s) : Forward s0 (countClamp l s) := by
  unfold Machine.countClamp
  exact h.inc.set.raise

theorem Forward.openLeg {z t per l : Nat} (h : Forward s0 s) : Forward s0 (openLeg z t per l s) := by
  unfold Machine.openLeg
  exact .modLeg (.when (.when (.when (.ite h.countClamp h) fun h' => h'.raise) fun h' => h'.incWrap) fun h' => h'.raise)

theorem Forward.openPeriod {k : Nat} (h : Forward s0 s) : Forward s0 (openPeriod k s) := by
  unfold Machine.openPeriod
  dsimp only
  split
  · exact h
  · exact .ite (.each h.incWrap.modCar fun _ _ h' => h'.openLeg) h

theorem Forward.interlock {w e l : Nat} (h : Forward s0 s) : Forward s0 (interlock w e l s) := by
  unfold Machine.interlock
  split
  · exact h
  · exact .raise (.set (.inc (.when h.modLeg fun h' => h'.requestUrgent)))

theorem Forward.handOver {n : Nat} (h : Forward s0 s) : Forward s0 (handOver n s) := by
  unfold Machine.handOver
  exact .ite (.when (.modLink (.each h fun _ _ h' => h'.interlock)) fun h' => h'.raise) h

theorem Forward.tripLeg {all : Bool} {l : Nat} (h : Forward s0 s) : Forward s0 (tripLeg all l s) := by
  unfold Machine.tripLeg
  exact h.modLeg.set

theorem Forward.tripCell {mask : Nat} {soft all latched : Bool} {n : Nat} (h : Forward s0 s) : Forward s0 (tripCell mask soft all latched n s) := by
  unfold Machine.tripCell
  exact .modGate (.each h.requestUrgent fun _ _ h' => h'.tripLeg)

theorem Forward.tripActive {i : Nat} (h : Forward s0 s) : Forward s0 (tripActive i s) := by
  unfold Machine.tripActive
  exact .ite (.when (.each (.when (.when h.set.inc.inc.raise fun h' => h'.set.raise.tripRecovery) fun h' => h'.set.raise) fun _ _ h' => h'.tripCell)
      fun h' => .each h' fun _ _ h'' => h''.tripCell) h

theorem Forward.tripCleared {i : Nat} (h : Forward s0 s) : Forward s0 (tripCleared i s) := by
  unfold Machine.tripCleared
  exact .ite (.when h.set.set.set.tripRecovery fun h' => .each h' fun _ _ h'' => .ite h'' (.modGate (.ite h'' (.each h'' fun _ _ h''' =>
      h'''.modLeg)))) h

theorem Forward.tripClr {i : Nat} (h : Forward s0 s) : Forward s0 (tripClr i s) := by
  unfold Machine.tripClr
  exact .ite h.raise h.set

/-! ### Balancer -/

theorem Forward.reserveOpen {t : Nat} (h : Forward s0 s) : Forward s0 (reserveOpen t s) := by
  unfold Machine.reserveOpen
  refine .ite ?_ h
  split
  · exact h
  · exact h.openCell.raise

theorem Forward.openHot (h : Forward s0 s) : Forward s0 (openHot s) := by
  unfold Machine.openHot
  exact .ite (.each h fun _ _ h' => .ite h'.openCell h') h

theorem Forward.startStrings (h : Forward s0 s) : Forward s0 (startStrings s) := by
  unfold Machine.startStrings
  exact .checkStrings (.openHot (.each h fun _ _ h' => h'.modLeg))

theorem Forward.bypassTimeout {n : Nat} (h : Forward s0 s) : Forward s0 (bypassTimeout n s) := by
  unfold Machine.bypassTimeout
  exact .ite h.setBal.raise.checkStrings (.ite (.ite h.setBal.checkStrings h) (.ite h.setBal.raise.checkStrings h))

theorem Forward.insertCell {n : Nat} (h : Forward s0 s) : Forward s0 (insertCell n s) := by
  unfold Machine.insertCell
  exact .ite h.set.openCell.checkStrings h.refuse

theorem Forward.parkCell {n : Nat} (h : Forward s0 s) : Forward s0 (parkCell n s) := by
  unfold Machine.parkCell
  exact .when h.refuse fun h' => .checkStrings (.when h.set.closeCell fun h'' => .when h.set fun h''' => h'''.setBal)

theorem Forward.sortComplete {t : Nat} (h : Forward s0 s) : Forward s0 (sortComplete t s) := by
  unfold Machine.sortComplete
  split
  · exact h
  · exact .when (.raise (.each (.each (.each h.modStr.modCtx fun _ _ h' => h'.set) fun _ _ h' => h'.set.set.set) fun _ _ h' => h'.modCell)) fun h' =>
        .each (.each (.each h.modStr.modCtx fun _ _ h'' => h''.set) fun _ _ h'' => h''.set.set.set) fun _ _ h'' => h''.modCell

theorem Forward.ownAll (h : Forward s0 s) : Forward s0 (ownAll s) := by
  unfold Machine.ownAll
  exact .each h fun _ _ h' => .ite h'.own h'

theorem Forward.ownAllNext (h : Forward s0 s) : Forward s0 (ownAllNext s) := by
  unfold Machine.ownAllNext
  exact .each h fun _ _ h' => .ite h'.modCell h'

theorem Forward.decideRole (h : Forward s0 s) : Forward s0 (decideRole s) := by
  unfold Machine.decideRole
  exact .ite h (.ite h.set.set.update.ownAll (.ite (.ite h.set.update.ownAll h.set.update) h))

theorem Forward.dropReady (h : Forward s0 s) : Forward s0 (dropReady s) := by
  unfold Machine.dropReady
  exact .ite h h.update

theorem Forward.heartbeatSend (h : Forward s0 s) : Forward s0 (heartbeatSend s) := by
  unfold Machine.heartbeatSend
  exact .ite (.when (.update (.ite h.transmit.update h)) fun h' => .when (.inc (.each (.update (.ite h.transmit.update h)) fun _ _ h'' =>
      h''.modCell)) fun h'' => h''.set) h

theorem Forward.handBack (h : Forward s0 s) : Forward s0 (handBack s) := by
  unfold Machine.handBack
  exact .ite h.update h.raise

theorem Forward.mirror1 {a0 : Heartbeat} {n : Nat} (h : Forward s0 s) : Forward s0 (mirror1 a0 n s) := by
  unfold Machine.mirror1
  exact .ite h (.when (.unless (.setBal (.ite h.modGate h)) fun h' => .ite h' h'.returnMonitor) fun h' => .when (.setBal (.ite h.modGate h))
      fun h'' => h''.inc.setSup.offGates.holdWhole)

theorem Forward.takeRelease {a0 : Heartbeat} (h : Forward s0 s) : Forward s0 (takeRelease a0 s) := by
  unfold Machine.takeRelease
  exact .ite (.when (.inc (.each h fun _ _ h' => h'.modCell)) fun h' => h'.set.ownAllNext.openHot) h

theorem Forward.splitCells {a0 : Heartbeat} (h : Forward s0 s) : Forward s0 (splitCells a0 s) := by
  unfold Machine.splitCells
  exact .each h fun _ _ h' => .ite h'.set.modCell (.ite h'.set.modCell h')

theorem Forward.endSplit (h : Forward s0 s) : Forward s0 (endSplit s) := by
  unfold Machine.endSplit
  exact .ite (.ite h.set.ownAllNext h.set) h

theorem Forward.compareConfig {a0 : Heartbeat} (h : Forward s0 s) : Forward s0 (compareConfig a0 s) := by
  unfold Machine.compareConfig
  exact .ite h (.ite h.update.raise h.update)

theorem Forward.goodHeartbeat {a0 : Heartbeat} (h : Forward s0 s) : Forward s0 (goodHeartbeat a0 s) := by
  unfold Machine.goodHeartbeat
  exact .when (.decideRole (.compareConfig (.each h.update.set.set fun _ _ h' => h'.setBit.modCell))) fun h' => .when (.checkStrings (.when
      (.endSplit (.splitCells (.takeRelease (.when (.compareConfig (.each h.update.set.set fun _ _ h'' => h''.setBit.modCell)) fun h'' => h''.set))))
      fun h'' => .each h'' fun _ _ h''' => h'''.mirror1)) fun h'' => h''.handBack

theorem Forward.heartbeatRx {bs : List Byte} (h : Forward s0 s) : Forward s0 (heartbeatRx bs s) := by
  unfold Machine.heartbeatRx
  exact .ite h.goodHeartbeat h.raise

theorem Forward.partnerLost (h : Forward s0 s) : Forward s0 (partnerLost s) := by
  unfold Machine.partnerLost
  exact .when h.update.set fun h' => .checkStrings (.openHot (.raise (.set (.each (.ownAllNext (.ite h'.inc h')) fun _ _ h'' => h''.modCell))))

theorem Forward.windowClose (h : Forward s0 s) : Forward s0 (windowClose s) := by
  unfold Machine.windowClose
  exact .unless h.dropReady.update fun h' => .when h.dropReady.update fun h'' => .when h.dropReady.update.set fun h''' => h'''.partnerLost

theorem Forward.cellReclaim {n : Nat} (h : Forward s0 s) : Forward s0 (cellReclaim n s) := by
  unfold Machine.cellReclaim
  exact .ite h.update h

theorem Forward.reclaimRequest (h : Forward s0 s) : Forward s0 (reclaimRequest s) := by
  unfold Machine.reclaimRequest
  exact .ite h.update h

theorem Forward.handbackGo (h : Forward s0 s) : Forward s0 (handbackGo s) := by
  unfold Machine.handbackGo
  exact .ite h.handBack h.refuse

/-! ### Control -/

theorem Forward.modEng {f : Engine → Engine} (h : Forward s0 s) : Forward s0 (s.modEng f) := h.of_core rfl

theorem Forward.endInjection (h : Forward s0 s) : Forward s0 (endInjection s) := by
  unfold Machine.endInjection
  exact h.stopInjection.report

theorem Forward.checkInjection (h : Forward s0 s) : Forward s0 (checkInjection s) := by
  unfold Machine.checkInjection
  exact .ite h.endInjection h

theorem Forward.startInjection (h : Forward s0 s) : Forward s0 (startInjection s) := by
  unfold Machine.startInjection
  exact h.modEng.checkInjection

theorem Forward.nextInjection (h : Forward s0 s) : Forward s0 (nextInjection s) := by
  unfold Machine.nextInjection
  exact .ite h.endInjection h.modEng

theorem Forward.noteSps {k : Nat} (h : Forward s0 s) : Forward s0 (noteSps k s) := by
  unfold Machine.noteSps
  exact .ite h h.modCyc

theorem Forward.advanceSps {k : Nat} (h : Forward s0 s) : Forward s0 (advanceSps k s) := by
  unfold Machine.advanceSps
  exact .each h fun _ _ h' => h'.set

theorem Forward.writeFreeze {k : Nat} {v : Bool} (h : Forward s0 s) : Forward s0 (writeFreeze k v s) := by
  unfold Machine.writeFreeze
  exact .unless h.noteSps.setBit.modCtx fun h' => .unless h.noteSps.setBit fun h'' => h''.modCtx

theorem Forward.takeBank {k : Nat} (h : Forward s0 s) : Forward s0 (takeBank k s) := by
  unfold Machine.takeBank
  split
  · exact .ite h.setBit h
  · exact .ite h.set.set h

theorem Forward.noteBank {b : Bool} (h : Forward s0 s) : Forward s0 (noteBank b s) := h.of_core rfl

theorem Forward.boundary {k : Nat} (h : Forward s0 s) : Forward s0 (boundary k s) := by
  unfold Machine.boundary
  exact .modCtx (.set (.each (.when h.advanceSps.takeBank fun h' => h'.nextInjection) fun _ _ h' => h'.modStr))

theorem Forward.countGap {k : Nat} (h : Forward s0 s) : Forward s0 (countGap k s) := by
  unfold Machine.countGap
  exact .ite h.inc h

theorem Forward.abandon {k : Nat} (h : Forward s0 s) : Forward s0 (abandon k s) := by
  unfold Machine.abandon
  exact .ite h.modCtx.countGap h

theorem Forward.abortLegs {k : Nat} (h : Forward s0 s) : Forward s0 (abortLegs k s) := by
  unfold Machine.abortLegs
  exact .each (.each h fun _ _ h' => h'.modLeg) fun _ _ h' => .ite h' (.when (.when h'.modLink fun h'' => h''.requestUrgent) fun h'' => h''.parkCell)

theorem Forward.stopCtx {k : Nat} (h : Forward s0 s) : Forward s0 (stopCtx k s) := by
  unfold Machine.stopCtx
  exact h.abandon.set.modCtx.raise.abortLegs.checkInjection

theorem Forward.abortCtx {k : Nat} (h : Forward s0 s) : Forward s0 (abortCtx k s) := by
  unfold Machine.abortCtx
  exact .ite h.stopCtx h.abandon.set.raise

theorem Forward.applyLeg {k : Nat} {x : LegStore} {a : State × List Nat × Bool} (h : Forward s0 a.1) : Forward s0 (applyLeg k a x).1 := by
  unfold Machine.applyLeg
  refine .ite_fst ?_ h
  split
  · exact h.writeLegField
  · exact h

theorem Forward.noteRelease {k : Nat} {ls : List Nat} (h : Forward s0 s) : Forward s0 (noteRelease k ls s) := by
  unfold Machine.noteRelease
  exact .ite h (.modCtx (.foldl h fun _ _ h' => h'.inc))

theorem Forward.captureRelease {k : Nat} {q : Sample} {run : Nat} (h : Forward s0 s) : Forward s0 (captureRelease k q run s) := by
  unfold Machine.captureRelease
  exact .ite (.unless h.modEng fun h' => .when (.set (.modEng (.cbiStore (.ite h.set64 h)))) fun h'' => h''.set.set.raise) h

theorem Forward.postEvts {k : Nat} {es : List (Nat × Nat)} (h : Forward s0 s) : Forward s0 (postEvts k es s) := h.reported (postEvts_reported ..)

theorem Forward.release {k : Nat} (h : Forward s0 s) : Forward s0 (release k s) := by
  unfold Machine.release
  split
  · exact h
  · refine .ite (.sendTrigger (.postEvts (.when (.captureRelease (.set ?_)) .raise))) h
    refine .set (.incWrap (.set (.modCtx (.modEng (.each ?_ fun _ _ h' => h'.cbiStore)))))
    refine .commitGroups (.noteRelease (.foldl_fst (.each h fun _ _ h' => .ite h'.modLeg h') fun _ _ h' => h'.applyLeg))

theorem Forward.trigger {k : Nat} (h : Forward s0 s) : Forward s0 (trigger k s) := by
  unfold Machine.trigger
  exact .ite (.ite h.modCtx.raise (.ite h.modCtx.release.boundary (.ite h.modCtx.release.inc.raise.abortCtx
      h.modCtx.release.inc.raise.abandon.boundary))) h

theorem Forward.sourceTrigger {k : Nat} (h : Forward s0 s) : Forward s0 (sourceTrigger k s) := by
  unfold Machine.sourceTrigger
  split
  · split
    · exact h.modCtx.trigger
    · exact h
  · exact .ite h h.modCtx.trigger
  · exact .ite h h.modCtx.trigger
  · exact h

theorem Forward.clearRegs {k : Nat} (h : Forward s0 s) : Forward s0 (clearRegs k s) := h.of_core rfl

theorem Forward.enableCtx {k : Nat} (h : Forward s0 s) : Forward s0 (enableCtx k s) := by
  unfold Machine.enableCtx
  exact .ite h (.unless h.refuse fun h' => .when h.set fun h'' => .each h''.set.clearRegs fun _ _ h''' => h'''.set)

theorem Forward.offCtx {k : Nat} (h : Forward s0 s) : Forward s0 (offCtx k s) := by
  unfold Machine.offCtx
  exact .unless h.set fun h' => h'.abandon.set.modCtx.checkInjection

theorem Forward.restart {k : Nat} (h : Forward s0 s) : Forward s0 (restart k s) := by
  unfold Machine.restart
  exact .ite h.set.clearRegs h.raise

theorem Forward.idleContexts (h : Forward s0 s) : Forward s0 (idleContexts s) := by
  unfold Machine.idleContexts
  exact .checkInjection (.each h fun _ _ h' => .ite h'.abandon.set.modCtx h')

theorem Forward.checkWcet (h : Forward s0 s) : Forward s0 (checkWcet s) := by
  unfold Machine.checkWcet
  exact h.raiseAll

theorem Forward.requestBank {k : Nat} {b : Bool} (h : Forward s0 s) : Forward s0 (requestBank k b s) := by
  unfold Machine.requestBank
  exact .setBit (.set (.ite h h.modCyc))

theorem Forward.writeRegion {k : Nat} {bank : Bool} {ws : List Word} (h : Forward s0 s) : Forward s0 (writeRegion k bank ws s) := by
  unfold Machine.writeRegion
  exact .ite h.noteBank.cbiStore.modEng h

theorem Forward.memWrite {m w v : Nat} (h : Forward s0 s) : Forward s0 (memWrite m w v s) := by
  unfold Machine.memWrite
  split
  · exact .ite h h.noteBank.cbiStore.modEng
  · exact .ite h h.noteBank.cbiStore.modEng
  · exact .ite h.cbiStore.modEng h
  · exact h

theorem Forward.nextMaddr (h : Forward s0 s) : Forward s0 (nextMaddr s) := by
  unfold Machine.nextMaddr
  exact h.set

theorem Forward.armCapture (h : Forward s0 s) : Forward s0 (armCapture s) := by
  unfold Machine.armCapture
  exact .ite h.refuse h.set.set.set.modCtx.set.modEng

theorem Forward.clearHist {k : Nat} (h : Forward s0 s) : Forward s0 (clearHist k s) := by
  unfold Machine.clearHist
  exact .set (.each h fun _ _ h' => h'.set)

theorem Forward.tileCtx {t k : Nat} (h : Forward s0 s) : Forward s0 (tileCtx t k s) := by
  unfold Machine.tileCtx
  exact .unless h.raise fun h' => .ite h'.stopCtx h'.set

theorem Forward.tileError {t : Nat} (h : Forward s0 s) : Forward s0 (tileError t s) := by
  unfold Machine.tileError
  refine .update ?_
  split
  · exact h.raise.set
  · exact .each h.raise.set.modEng fun _ _ h' => h'.tileCtx

theorem Forward.clearCtxCounts {k : Nat} (h : Forward s0 s) : Forward s0 (clearCtxCounts k s) := by
  unfold Machine.clearCtxCounts
  exact h.clearCount.clearCount.clearCount.set

/-! ### Programs -/

theorem Forward.setRun {k : Nat} {q : Sample} (h : Forward s0 s) : Forward s0 (setRun k q s) := h.of_core rfl

/-- A body of an instruction that goes forward. -/
def Body.Steady (b : Body) : Prop := ∀ (s0 s : State) (q : Sample), Forward s0 s → Forward s0 (b s q).1

theorem pureBody_steady (f : Sample → Sample) : (pureBody f).Steady := fun _ _ _ h => h

theorem Forward.issue {op k : Nat} {body : Nat → Body} (h : Forward s0 s) (hb : ∀ w, (body w).Steady) :
    Forward s0 (issue op k body s) := by
  unfold Machine.issue
  split
  · exact h
  · refine .ite (.when (.setRun (.ite_fst (hb _ _ _ _ h) h)) .raise) h

theorem Forward.compute {op k : Nat} {f : Nat → Sample → Nat} (h : Forward s0 s) : Forward s0 (compute op k f s) :=
  h.issue fun _ => pureBody_steady _

theorem Forward.test {op k : Nat} {f : Nat → Sample → Bool} (h : Forward s0 s) : Forward s0 (test op k f s) :=
  h.issue fun _ => pureBody_steady _

theorem Forward.dropCtx {k : Nat} (h : Forward s0 s) : Forward s0 (dropCtx k s) := by
  unfold Machine.dropCtx
  exact .unless h.offCtx fun h' => h'.set

theorem Forward.loadImage {b : List Byte} (h : Forward s0 s) : Forward s0 (loadImage b s) := by
  unfold Machine.loadImage
  exact .each h.cbiStore.modEng.updateSec fun _ _ h' => .ite h' (.ite h'.dropCtx h')

theorem Forward.writeImage {b : List Byte} (h : Forward s0 s) : Forward s0 (writeImage b s) := by
  unfold Machine.writeImage
  exact .unless h.set.updateSec.loadImage fun h' => .unless h.set fun h'' => h''.refuse

/-! ### Recorder -/

theorem Forward.setSlot {i : Nat} {x : RecSlot} (h : Forward s0 s) : Forward s0 (s.setSlot i x) := h.of_core rfl

theorem Forward.beginWrite {r : Rec} (h : Forward s0 s) : Forward s0 (beginWrite r s) := by
  unfold Machine.beginWrite
  exact h.flush.setSlot.set.update.report

theorem Forward.startRecord (h : Forward s0 s) : Forward s0 (startRecord s) := by
  unfold Machine.startRecord
  split
  · refine .ite ?_ h
    split
    · exact h
    · exact h.update.beginWrite
  · exact h

theorem Forward.endRecord (h : Forward s0 s) : Forward s0 (endRecord s) := h.reported (endRecord_reported ..)
theorem Forward.flushAll (h : Forward s0 s) : Forward s0 (flushAll s) := h.reported (flushAll_reported ..)

theorem Forward.periodicRec {typ inst : Nat} {p : List Byte} (h : Forward s0 s) : Forward s0 (periodicRec typ inst p s) := by
  unfold Machine.periodicRec
  exact h.postRec

theorem Forward.periodic (h : Forward s0 s) : Forward s0 (periodic s) := by
  unfold Machine.periodic
  exact .when (.when (.when (.ite (.each h fun _ _ h' => h'.periodicRec) h) fun h' => h'.periodicRec.update) fun h' => h'.periodicRec.update)
      fun h' => h'.periodicRec.update

theorem Forward.dieSecond (h : Forward s0 s) : Forward s0 (dieSecond s) := by
  unfold Machine.dieSecond
  split
  · exact h
  · exact h.update

theorem Forward.readDataLo {host : Bool} (h : Forward s0 s) : Forward s0 (readDataLo host s) := by
  unfold Machine.readDataLo
  exact .ite h.update h.set

theorem Forward.selectRecord {q : Nat} (h : Forward s0 s) : Forward s0 (selectRecord q s) := by
  unfold Machine.selectRecord
  split
  · exact h.update
  · exact h.refuse

theorem Forward.scanRegion {f : Bool} (h : Forward s0 s) : Forward s0 (scanRegion f s) := by
  unfold Machine.scanRegion
  exact .unless h.set fun h' => h'.set.raise

theorem Forward.scanLane {n : Nat} (h : Forward s0 s) : Forward s0 (scanLane n s) := by
  unfold Machine.scanLane
  exact .unless h.modLed fun h' => h'.set.raise

theorem Forward.bootScan (h : Forward s0 s) : Forward s0 (bootScan s) := by
  unfold Machine.bootScan
  exact .beginWrite (.update (.set (.each h.scanRegion.scanRegion fun _ _ h' => h'.scanLane)))

theorem Forward.importSlot {b : List Byte} (h : Forward s0 s) : Forward s0 (importSlot b s) := by
  unfold Machine.importSlot
  exact .ite h (.ite h.refuse h.setHist)

/-! ### Timescale -/

theorem Forward.modTs {f : Ts → Ts} (h : Forward s0 s) : Forward s0 (s.modTs f) := h.of_core rfl
theorem Forward.modPtp {f : Ptp → Ptp} (h : Forward s0 s) : Forward s0 (s.modPtp f) := h.of_core rfl
theorem Forward.modSpl {i : Nat} {f : SpLane → SpLane} (h : Forward s0 s) : Forward s0 (s.modSpl i f) := h.of_core rfl

theorem Forward.readTscLo {host : Bool} (h : Forward s0 s) : Forward s0 (readTscLo host s) := by
  unfold Machine.readTscLo
  exact .ite h.modTs h.set

theorem Forward.endOpsec {v : Nat} (h : Forward s0 s) : Forward s0 (endOpsec v s) := h.of_core rfl

theorem Forward.saveOpsec (h : Forward s0 s) : Forward s0 (saveOpsec s) := by
  unfold Machine.saveOpsec
  refine .endOpsec ?_
  split
  · exact h.endOpsec
  · exact h

theorem Forward.startOpsec (h : Forward s0 s) : Forward s0 (startOpsec s) := by
  unfold Machine.startOpsec
  exact .ite h.modTs.update h

theorem Forward.foundTorn (h : Forward s0 s) : Forward s0 (foundTorn s) := h.of_core rfl

theorem Forward.setTsState {st : Nat} (h : Forward s0 s) : Forward s0 (setTsState st s) := by
  unfold Machine.setTsState
  exact .set (.ite h.modTs h)

theorem Forward.startHold (h : Forward s0 s) : Forward s0 (startHold s) := by
  unfold Machine.startHold
  exact .ite h h.modTs

theorem Forward.newSensor (h : Forward s0 s) : Forward s0 (newSensor s) := h.of_core rfl
theorem Forward.endHold (h : Forward s0 s) : Forward s0 (endHold s) := h.of_core rfl

theorem Forward.clearAgree (h : Forward s0 s) : Forward s0 (clearAgree s) := by
  unfold Machine.clearAgree
  exact h.modTs.set

theorem Forward.taiEvent {old new : Nat} (h : Forward s0 s) : Forward s0 (taiEvent old new s) := h.reported (taiEvent_reported ..)

theorem Forward.endSlew (h : Forward s0 s) : Forward s0 (endSlew s) := by
  unfold Machine.endSlew
  exact .ite h.modTs.set.taiEvent h

theorem Forward.applyTai (h : Forward s0 s) : Forward s0 (applyTai s) := by
  unfold Machine.applyTai
  split
  · exact h
  · split
    · exact h.modTs.modTs.taiEvent
    · exact .unless h.modTs.modTs fun h' => h'.taiEvent
    · exact h.modTs.modTs.taiEvent.raise
    · exact .unless h.modTs fun h' => h'.modTs.set.taiEvent

theorem Forward.slewStep (h : Forward s0 s) : Forward s0 (slewStep s) := by
  unfold Machine.slewStep
  exact .ite (.when h.modTs fun h' => h'.endSlew) h

theorem Forward.servo {x : Int} (h : Forward s0 s) : Forward s0 (servo x s) := by
  unfold Machine.servo
  exact .when h.modTs fun h' => h'.raise

theorem Forward.loseLock (h : Forward s0 s) : Forward s0 (loseLock s) := by
  unfold Machine.loseLock
  exact h.modTs.setTsState.startHold.clearAgree.raise

theorem Forward.refLost (h : Forward s0 s) : Forward s0 (refLost s) := by
  unfold Machine.refLost
  split
  · exact h.setTsState.clearAgree.modTs
  · exact h.endSlew.loseLock
  · exact h.setTsState.clearAgree
  · exact h

theorem Forward.acquire {x : Int} (h : Forward s0 s) : Forward s0 (acquire x s) := by
  unfold Machine.acquire
  exact h.modTs.clearAgree

theorem Forward.agreeWith {x : Int} (h : Forward s0 s) : Forward s0 (agreeWith x s) := by
  unfold Machine.agreeWith
  exact h.modTs.set

theorem Forward.requalified (h : Forward s0 s) : Forward s0 (requalified s) := by
  unfold Machine.requalified
  exact .ite h.setTsState.endHold.modTs.modTs h.setTsState.endHold.modTs.modTs

theorem Forward.requalify {x : Int} (h : Forward s0 s) : Forward s0 (requalify x s) := by
  unfold Machine.requalify
  exact .when (.agreeWith (.ite h.raise h)) fun h' => h'.requalified

theorem Forward.refSample {x : Int} (h : Forward s0 s) : Forward s0 (refSample x s) := by
  unfold Machine.refSample
  dsimp only
  split
  · exact h.modTs.modTs.setTsState.acquire.servo
  · exact .unless h.modTs.acquire.servo fun h' => .when h.modTs.agreeWith.servo fun h'' => h''.setTsState.modTs
  · exact .when h.modTs.modTs.servo fun h' => .when h.modTs.modTs fun h'' => h''.endSlew.loseLock
  · exact h.modTs.setTsState.clearAgree.requalify
  · exact h.modTs.requalify
  · exact h.modTs

theorem Forward.ptpSample {x : Int} (h : Forward s0 s) : Forward s0 (ptpSample x s) := by
  unfold Machine.ptpSample
  exact .ite h.modTs.refSample (.ite (.ite h.refLost.modTs.refSample h.modTs) h)

theorem Forward.ppsSample {x : Int} (h : Forward s0 s) : Forward s0 (ppsSample x s) := by
  unfold Machine.ppsSample
  exact .ite h.modTs.refSample h

theorem Forward.syncSample {rx : Nat} {t : Int} (h : Forward s0 s) : Forward s0 (syncSample rx t s) := by
  unfold Machine.syncSample
  exact h.ptpSample

theorem Forward.setUtc {u : Int} (h : Forward s0 s) : Forward s0 (setUtc u s) := by
  unfold Machine.setUtc
  exact .ite h h.modTs

theorem Forward.takeAnnounce {a : Announce} (h : Forward s0 s) : Forward s0 (takeAnnounce a s) := by
  unfold Machine.takeAnnounce
  exact .ite h.modPtp (.ite (.ite h.modPtp.setUtc h) h)

theorem Forward.takePtp {m : PtpMessage} (h : Forward s0 s) : Forward s0 (takePtp m s) := by
  unfold Machine.takePtp
  split
  · exact h.raise
  · refine .ite h ?_
    split
    · exact h.takeAnnounce
    · exact .ite (.ite h.modPtp h.syncSample) h
    · refine .ite ?_ h
      split
      · exact .ite h.modPtp.syncSample h
      · exact h
    · exact .ite h.modPtp h
    · split
      · exact .ite (.ite h.modPtp h.modPtp) h
      · exact h
    · split
      · exact .ite h.modPtp h
      · exact h
    · exact h
    · exact h

theorem Forward.sendPdelay (h : Forward s0 s) : Forward s0 (sendPdelay s) := by
  unfold Machine.sendPdelay
  exact .ite h.modPtp h

theorem Forward.ppsEdge {frac : Nat} (h : Forward s0 s) : Forward s0 (ppsEdge frac s) := by
  unfold Machine.ppsEdge
  dsimp only
  refine .ite h ?_
  refine .ite h.raise ?_
  split
  · exact h.modTs.raise
  · exact .ppsSample (.unless h.modTs fun h' => h'.modTs)

theorem Forward.writeLabel {v : Nat} (h : Forward s0 s) : Forward s0 (writeLabel v s) := by
  unfold Machine.writeLabel
  exact .ite (.when h.set fun h' => h'.modTs) h

theorem Forward.refMissing (h : Forward s0 s) : Forward s0 (refMissing s) := by
  unfold Machine.refMissing
  exact .ite (.refLost (.ite h h.modTs)) h

theorem Forward.coast {f : Int} (h : Forward s0 s) : Forward s0 (coast f s) := h.of_core rfl

theorem Forward.holdCorrection (h : Forward s0 s) : Forward s0 (holdCorrection s) := by
  unfold Machine.holdCorrection
  split
  · split
    · exact h.coast
    · exact h.coast
  · exact h.modTs.coast
  · exact h

theorem Forward.learn {t : Rat} (h : Forward s0 s) : Forward s0 (learn t s) := by
  unfold Machine.learn
  exact .ite h.modTs h

theorem Forward.checkHold (h : Forward s0 s) : Forward s0 (checkHold s) := by
  unfold Machine.checkHold
  exact .ite h.modTs.raise h

theorem Forward.holdoverSecond (h : Forward s0 s) : Forward s0 (holdoverSecond s) := by
  unfold Machine.holdoverSecond
  exact .checkHold (.when (.ite h h.modTs.learn) fun h' => h'.holdCorrection)

theorem Forward.sendGroupTime (h : Forward s0 s) : Forward s0 (sendGroupTime s) := by
  unfold Machine.sendGroupTime
  exact .ite h.sendBoth.modTs h

theorem Forward.joinGroup {epoch : Nat} {off : Int} (h : Forward s0 s) : Forward s0 (joinGroup epoch off s) := by
  unfold Machine.joinGroup
  exact h.modTs.setTsState.endHold.set

theorem Forward.judge {off : Rat} (h : Forward s0 s) : Forward s0 (judge off s) := by
  unfold Machine.judge
  exact .ite h (.when (.when h.servo.modTs fun h' => h'.modTs.raise) fun h' => .when h.servo.modTs fun h'' => h''.setTsState)

theorem Forward.judgeAlone {g : Option GroupEst} (h : Forward s0 s) : Forward s0 (judgeAlone g s) := by
  unfold Machine.judgeAlone
  split
  · exact h.set.judge
  · exact h

theorem Forward.takeEstimate {west closed : Bool} {g : GroupEst} (h : Forward s0 s) : Forward s0 (takeEstimate west closed g s) := by
  unfold Machine.takeEstimate
  dsimp only
  split
  · exact .unless h.modTs.set.judge fun h' => .unless h.judgeAlone.modTs fun h'' => h''.modTs.judgeAlone
  · exact .ite h.judgeAlone.modTs h.judgeAlone.modTs.judgeAlone

theorem Forward.memberTime {p : List Byte} {delay : Nat} (h : Forward s0 s) : Forward s0 (memberTime p delay s) := by
  unfold Machine.memberTime
  dsimp only
  split
  · exact h.setUtc.modTs.modTs.joinGroup
  · exact .when (.takeEstimate (.when h.setUtc.modTs.modTs.modTs.set fun h' => h'.setTsState.endHold)) fun h' => .when h.setUtc.modTs.modTs.joinGroup
        fun h'' => .unless h.setUtc.modTs.setTsState.startHold.modTs fun h''' => h'''.set.raise

theorem Forward.rootReturn {p : List Byte} {delay : Nat} (h : Forward s0 s) : Forward s0 (rootReturn p delay s) := by
  unfold Machine.rootReturn
  exact .ite h.raise h

theorem Forward.groupMessage {i : Nat} {b : List Byte} (h : Forward s0 s) : Forward s0 (groupMessage i b s) := by
  unfold Machine.groupMessage
  refine .ite h ?_
  refine .ite h.dropBad ?_
  split
  · exact .ite h h.passOn
  · exact .ite h.rootReturn h.draw.passOn.memberTime

theorem Forward.groupLost (h : Forward s0 s) : Forward s0 (groupLost s) := by
  unfold Machine.groupLost
  exact .ite h.setTsState.startHold.raise h

theorem Forward.setGroupOffset (h : Forward s0 s) : Forward s0 (setGroupOffset s) := by
  unfold Machine.setGroupOffset
  split
  · exact h.modTs
  · exact h

theorem Forward.adoptEpoch (h : Forward s0 s) : Forward s0 (adoptEpoch s) := by
  unfold Machine.adoptEpoch
  refine .ite h ?_
  split
  · exact h.joinGroup
  · exact h

theorem Forward.delayRequest {i : Nat} (h : Forward s0 s) : Forward s0 (delayRequest i s) := by
  unfold Machine.delayRequest
  exact .ite h.modSpl.transmit h

theorem Forward.delayReceived {i : Nat} {b : List Byte} (h : Forward s0 s) : Forward s0 (delayReceived i b s) := by
  unfold Machine.delayReceived
  refine .ite h ?_
  refine .ite ?_ h.modSpl
  split
  · exact .ite h.modSpl.set h
  · exact h

theorem Forward.delayRespond {i : Nat} (h : Forward s0 s) : Forward s0 (delayRespond i s) := by
  unfold Machine.delayRespond
  split
  · exact .ite h.modSpl.transmit h
  · exact h

/-! ### Spine -/

theorem Forward.clearSpine {i : Nat} (h : Forward s0 s) : Forward s0 (clearSpine i s) := by
  unfold Machine.clearSpine
  exact h.setBit.set.set.set.set.set.set.set.modSpl

theorem Forward.startSpine {i k : Nat} (h : Forward s0 s) : Forward s0 (startSpine i k s) := by
  unfold Machine.startSpine
  exact h.clearSpine.set.set

theorem Forward.spineBringUp {i : Nat} (h : Forward s0 s) : Forward s0 (spineBringUp i s) := by
  unfold Machine.spineBringUp
  exact .ite h.clearSpine.set.modSpl (.ite h.clearSpine.set (.ite h.clearSpine.set.set.raise h.clearSpine.startSpine))

theorem Forward.failSpine {i stage : Nat} (h : Forward s0 s) : Forward s0 (failSpine i stage s) := by
  unfold Machine.failSpine
  exact .unless h.clearSpine.set.inc.set fun h' => .unless h.clearSpine.set.inc.set.modSpl fun h'' => h''.raise

theorem Forward.linkCheck {i : Nat} (h : Forward s0 s) : Forward s0 (linkCheck i s) := by
  unfold Machine.linkCheck
  exact .ite h.raise h

theorem Forward.linkDrop {i : Nat} {old : State} (h : Forward s0 s) : Forward s0 (linkDrop i old s) := by
  unfold Machine.linkDrop
  exact .ite h.linkCheck h

theorem Forward.loseSpine {i : Nat} (h : Forward s0 s) : Forward s0 (loseSpine i s) := by
  unfold Machine.loseSpine
  exact .ite h.inc.raise.startSpine.modSpl.linkCheck h

theorem Forward.spineEnters {i : Nat} (h : Forward s0 s) : Forward s0 (spineEnters i s) := by
  unfold Machine.spineEnters
  exact h.set.setBit.set.setBit.modSpl.raiseAll

theorem Forward.refuseSpine {i : Nat} {src : Src} (h : Forward s0 s) : Forward s0 (refuseSpine i src s) := by
  unfold Machine.refuseSpine
  exact h.set.set.inc.modSpl.raise

theorem Forward.trainingBlock {i : Nat} {b : List Byte} (h : Forward s0 s) : Forward s0 (trainingBlock i b s) := by
  unfold Machine.trainingBlock
  exact .ite (.unless h.modSpl fun h' => .unless h.modSpl fun h'' => .unless h''.refuseSpine fun h''' => .unless h''.refuseSpine fun h'''' => .unless
      h''.refuseSpine fun h''''' => .when h''.set.set.set.modSpl fun h'''''' => h''''''.spineEnters) h

theorem Forward.marker {i skew : Nat} (h : Forward s0 s) : Forward s0 (marker i skew s) := by
  unfold Machine.marker
  exact .ite h.raise.loseSpine.set h

theorem Forward.spineCodeError {i : Nat} (h : Forward s0 s) : Forward s0 (spineCodeError i s) := by
  unfold Machine.spineCodeError
  exact .ite (.when h.raise.modSpl fun h' => h'.loseSpine) h

theorem Forward.blockRx {i prev scr : Nat} {l : List Nat} (h : Forward s0 s) : Forward s0 (blockRx i prev scr l s) := by
  unfold Machine.blockRx
  exact .ite h.spineCodeError h

theorem Forward.enableSpine {i : Nat} {v : Bool} (h : Forward s0 s) : Forward s0 (enableSpine i v s) := by
  unfold Machine.enableSpine
  exact .ite h.setBit.spineBringUp.linkDrop h

theorem Forward.writeSpineTest {i v : Nat} (h : Forward s0 s) : Forward s0 (writeSpineTest i v s) := by
  unfold Machine.writeSpineTest
  exact .ite (.when (.when h.set.set.set fun h' => h'.endPattern.spineBringUp) fun h' => .when h.set.set.set fun h'' =>
      h''.clearSpine.set.linkDrop.patternWritten) h

theorem Forward.stopSpineTest {i : Nat} (h : Forward s0 s) : Forward s0 (stopSpineTest i s) := by
  unfold Machine.stopSpineTest
  exact .ite h.endPattern.spineBringUp h

theorem Forward.clearSpineCounts {i : Nat} (h : Forward s0 s) : Forward s0 (clearSpineCounts i s) := by
  unfold Machine.clearSpineCounts
  exact h.clearCount.clearCount.clearPrbs

theorem Forward.takeMap {m : RingMap} (h : Forward s0 s) : Forward s0 (takeMap m s) := by
  unfold Machine.takeMap
  exact .raiseAll (.when h.update fun h' => .each h.update fun _ _ h'' => h''.disown)

theorem Forward.publishMap {complete closed : Bool} {ps : List Nat} (h : Forward s0 s) : Forward s0 (publishMap complete closed ps s) := by
  unfold Machine.publishMap
  exact h.update.sendBoth.takeMap

theorem Forward.sendEnumeration (h : Forward s0 s) : Forward s0 (sendEnumeration s) := by
  unfold Machine.sendEnumeration
  exact .ite (.sendBoth (.update (.ite h.publishMap h))) h

theorem Forward.enumReturns {i : Nat} {p : List Byte} (h : Forward s0 s) : Forward s0 (enumReturns i p s) := by
  unfold Machine.enumReturns
  dsimp only
  refine .ite h ?_
  refine .ite ?_ (.ite h.publishMap h)
  split
  · exact h.update.publishMap
  · exact h.update

theorem Forward.enumeration {i : Nat} {b : List Byte} (h : Forward s0 s) : Forward s0 (enumeration i b s) := by
  unfold Machine.enumeration
  exact .ite h (.ite h.dropBad (.ite h.enumReturns (.ite h.relay (.ite h.passOn h.transmit))))

theorem Forward.ringMap {i : Nat} {b : List Byte} (h : Forward s0 s) : Forward s0 (ringMap i b s) := by
  unfold Machine.ringMap
  exact .ite h (.unless h.dropBad fun h' => .ite h (.unless h.passOn fun h'' => h''.update.takeMap))

theorem Forward.sendQueued (h : Forward s0 s) : Forward s0 (sendQueued s) := by
  unfold Machine.sendQueued
  refine .each h.update fun _ _ h' => ?_
  split
  · exact h'.transmit
  · exact h'

theorem Forward.sendNotice {dir : Nat} {n : Notice} (h : Forward s0 s) : Forward s0 (sendNotice dir n s) := by
  unfold Machine.sendNotice
  exact .each h fun _ _ h' => .ite h'.transmit.transmit h'

theorem Forward.originate (h : Forward s0 s) : Forward s0 (originate s) := by
  unfold Machine.originate
  split
  · exact h
  · exact h.update.sendNotice.sendNotice

theorem Forward.noticeReport {n : Notice} (h : Forward s0 s) : Forward s0 (noticeReport n s) := by
  unfold Machine.noticeReport
  exact h.groupFirst.set.takeAll

theorem Forward.noticeReceived {i : Nat} {b : List Byte} (h : Forward s0 s) : Forward s0 (noticeReceived i b s) := by
  unfold Machine.noticeReceived
  exact .ite h (.unless h.raise fun h' => .ite h (.unless (.ite h.update.sendNotice h.update) fun h'' => h''.inc.noticeReport))

/-! ### Power -/

theorem Forward.modPw {f : Power → Power} (h : Forward s0 s) : Forward s0 (s.modPw f) := h.of_core rfl

theorem Forward.modSec {f : Sec → Sec} (h : Forward s0 s)
    (e : ((f s.sec).slotState, (f s.sec).counters, (f s.sec).debugOff) = (s.sec.slotState, s.sec.counters, s.sec.debugOff) := by rfl) :
    Forward s0 (s.modSec f) :=
  h.of_core (by rw [State.core, State.core, ← e]; rfl)

/-- Counters that rise. -/
theorem Forward.countUp {f : Sec → Sec} (h : Forward s0 s) (hc : ∀ k, Tab.get 0 s.sec.counters k ≤ Tab.get 0 (f s.sec).counters k)
    (e : ((f s.sec).slotState, (f s.sec).debugOff) = (s.sec.slotState, s.sec.debugOff) := by rfl) : Forward s0 (s.modSec f) := by
  simp only [Prod.mk.injEq] at e
  exact h.trans ⟨rfl, e.1, hc, e.2, id⟩

/-- Registers that return to their reset values. -/
theorem Forward.dropRegs {t : State} {p : Nat × Nat → Bool} (h : Forward s0 s)
    (e : t.core = (s.pending, s.regs.filter p, s.sec.slotState, s.sec.counters, s.sec.debugOff)) : Forward s0 t := by
  simp only [State.core, Prod.mk.injEq] at e
  obtain ⟨hp, hr, hs, hc, hd⟩ := e
  refine h.trans ⟨hp, hs, fun _ => by rw [hc], hd, fun k => ?_⟩
  unfold State.RegsRising
  rw [hr]
  exact List.Pairwise.filter p k

theorem Forward.breakCounters (h : Forward s0 s) : Forward s0 (breakCounters s) := by
  unfold Machine.breakCounters
  refine h.each fun c x hx => .countUp hx.draw fun k => ?_
  simp only [Tab.get_set]
  split
  next hk => subst hk; exact Nat.le_add_right _ _
  next => exact Nat.le_refl _

theorem Forward.clearState (h : Forward s0 s) : Forward s0 (clearState s) := h.breakCounters.dropRegs rfl
theorem Forward.enterStandby (h : Forward s0 s) : Forward s0 (enterStandby s) := h.of_core rfl

theorem Forward.enterColdHold (h : Forward s0 s) : Forward s0 (enterColdHold s) := by
  unfold Machine.enterColdHold
  exact .modPw (.ite h.update h)

theorem Forward.leaveSlate (h : Forward s0 s) : Forward s0 (leaveSlate s) := by
  unfold Machine.leaveSlate
  exact h.set.set.set

theorem Forward.failedStart {c : Nat} (h : Forward s0 s) : Forward s0 (failedStart c s) := by
  unfold Machine.failedStart
  exact .when h.set.inc.set.modPw fun h' => h'.set.set

theorem Forward.writeCause {c : ResetCause} (h : Forward s0 s) : Forward s0 (writeCause c s) := by
  unfold Machine.writeCause
  exact .when h.set.set.set.set.setBit fun h' => h'.set64

theorem Forward.recordCause {c : ResetCause} (h : Forward s0 s) : Forward s0 (recordCause c s) := by
  unfold Machine.recordCause
  exact .unless h.writeCause.leaveSlate.set fun h' => .unless h.writeCause fun h'' => .ite (.ite h'' h''.failedStart) h''.set

theorem Forward.second (h : Forward s0 s) : Forward s0 (second s) := by
  unfold Machine.second
  exact h.set.noteSet

theorem Forward.amend {c : ResetCause} {t : Taken} (h : Forward s0 s) : Forward s0 (amend c t s) := by
  unfold Machine.amend
  exact .when (.enterColdHold (.modPw (.second (.recordCause (.modPw (.each h fun _ _ h' => h'.set)))))) fun h' => .enterStandby (.modPw (.second
      (.recordCause (.modPw (.each h fun _ _ h'' => h''.set)))))

theorem Forward.latch {code low : Nat} (h : Forward s0 s) : Forward s0 (latch code low s) := by
  unfold Machine.latch
  split
  · exact .when h.second fun h' => h'.modPw
  · exact .ite (.ite h.amend h.second) h.modPw
  · exact h.modPw

theorem Forward.saveBefore {c : Nat} (h : Forward s0 s) : Forward s0 (saveBefore c s) := by
  unfold Machine.saveBefore
  exact .when (.when (.ite h.endRecord h) fun h' => h'.flushAll) fun h' => h'.saveOpsec.saveAll

theorem Forward.takeReset (h : Forward s0 s) : Forward s0 (takeReset s) := by
  unfold Machine.takeReset
  split
  · exact h
  · exact .branch h.saveBefore.recordCause.clearState.modPw (fun h' => h'.enterStandby) fun h' => h'.enterColdHold

theorem Forward.blackLanes (h : Forward s0 s) : Forward s0 (blackLanes s) := by
  unfold Machine.blackLanes
  exact .ite (.each h fun _ _ h' => h'.requestUrgent) h

theorem Forward.safeGenerator (h : Forward s0 s) : Forward s0 (safeGenerator s) := by
  unfold Machine.safeGenerator
  exact .ite (.each h fun _ _ h' => .ite h'.set.modLink h') h

theorem Forward.gateCore (h : Forward s0 s) : Forward s0 (gateCore s) := by
  unfold Machine.gateCore
  exact .update (.each h.safeGenerator.clearState fun _ _ h' => .ite h'.set h')

theorem Forward.requestReset {code : Nat} (h : Forward s0 s) : Forward s0 (requestReset code s) := by
  unfold Machine.requestReset
  exact .unless h.latch fun h' => .ite h'.blackLanes h'.takeReset

theorem Forward.loadDither {p : Nat} (h : Forward s0 s) : Forward s0 (loadDither p s) := by
  unfold Machine.loadDither
  exact .ite h.update h

theorem Forward.cobResets (h : Forward s0 s) : Forward s0 (cobResets s) := by
  unfold Machine.cobResets
  exact .each h.set fun _ _ h' => h'.set.set

theorem Forward.positionResets (h : Forward s0 s) : Forward s0 (positionResets s) := by
  unfold Machine.positionResets
  exact .set (.set (.set (.setBit (.each h.canRestart.cobResets fun _ _ h' => h'.set))))

theorem Forward.enterBoot {straps : Nat} (h : Forward s0 s) : Forward s0 (enterBoot straps s) := by
  unfold Machine.enterBoot
  exact .raiseAll (.foundTorn (.each (.set (.modSec (.draw (.modTs (.draw (.each h.modPw.set.positionResets fun _ _ h' => h'.loadDither))))))
      fun _ _ h' => h'.bringUp))

theorem Forward.startSucceeded (h : Forward s0 s) : Forward s0 (startSucceeded s) := by
  unfold Machine.startSucceeded
  exact .when h.set.set.modPw fun h' => h'.update

theorem Forward.holdSlate (h : Forward s0 s) : Forward s0 (holdSlate s) := by
  unfold Machine.holdSlate
  exact .when (.each (.canSend (.each (.set (.modPw (.ite h.set.set.raise h))) fun _ _ h' => h'.spineBringUp)) fun _ _ h' => h'.bringUp) fun h' =>
      .each (.canSend (.each (.set (.modPw (.ite h.set.set.raise h))) fun _ _ h'' => h''.spineBringUp)) fun _ _ h'' => h''.set

theorem Forward.vkaRises (h : Forward s0 s) : Forward s0 (vkaRises s) := by
  unfold Machine.vkaRises
  exact .ite (.enterStandby (.modPw (h.dropRegs rfl))) h

theorem Forward.vkaFalls (h : Forward s0 s) : Forward s0 (vkaFalls s) :=
  Forward.dropRegs (s := Machine.enterStandby (Machine.clearState s)) h.clearState.enterStandby rfl

theorem Forward.inserted (h : Forward s0 s) : Forward s0 (inserted s) := by
  unfold Machine.inserted
  exact .when h.modPw fun h' => .when h'.modPw fun h'' => .leaveSlate (.ite h''.writeCause h'')

theorem Forward.nresetRises (h : Forward s0 s) : Forward s0 (nresetRises s) := by
  unfold Machine.nresetRises
  dsimp only
  split
  · exact h.modPw.modPw
  · exact .unless h.modPw fun h' => h'.modPw
  · exact h.modPw

theorem Forward.leaveStandby {nEject : Bool} (h : Forward s0 s) : Forward s0 (leaveStandby nEject s) := by
  unfold Machine.leaveStandby
  exact .when (.ite h.modPw h) fun h' => h'.modPw

theorem Forward.railLost {low : Nat} (h : Forward s0 s) : Forward s0 (railLost low s) := by
  unfold Machine.railLost
  exact .ite h (.when (.modPw (.unless h.latch fun h' => h'.safeGenerator)) fun h' => .unless h.latch fun h'' => h''.safeGenerator)

theorem Forward.nresetFalls (h : Forward s0 s) : Forward s0 (nresetFalls s) := by
  unfold Machine.nresetFalls
  exact .unless h.modPw fun h' => .unless h'.recordCause fun h'' => .unless h'.latch fun h''' => .ite h'''.modPw.blackLanes h'''.takeReset.modPw

theorem Forward.boardRemoved (h : Forward s0 s) : Forward s0 (boardRemoved s) := by
  unfold Machine.boardRemoved
  exact .ite h (.ite h.latch.safeGenerator.modPw.enterStandby h.latch.safeGenerator.modPw.modPw.takeReset)

theorem Forward.prsntLow (h : Forward s0 s) : Forward s0 (prsntLow s) := by
  unfold Machine.prsntLow
  exact .ite h.modPw h

theorem Forward.eject (h : Forward s0 s) : Forward s0 (eject s) := by
  unfold Machine.eject
  exact .when h.modPw fun h' => .unless h.latch.modPw fun h'' => .ite h''.update h''.raise

theorem Forward.hostReset {code : Nat} (h : Forward s0 s) : Forward s0 (hostReset code s) := by
  unfold Machine.hostReset
  exact .ite h.requestReset h

/-! ### Metrology -/

theorem Forward.drawBelow {n : Nat} (h : Forward s0 s) : Forward s0 (s.drawBelow n).2 := by
  unfold Machine.State.drawBelow
  exact h.draw

theorem Forward.drawFloat {m : Nat} (h : Forward s0 s) : Forward s0 (s.drawFloat m).2 := by
  unfold Machine.State.drawFloat
  dsimp only
  exact h.drawBelow

theorem Forward.roundOpen {r : Rat} (h : Forward s0 s) : Forward s0 (s.roundOpen r).2 := by
  unfold Machine.State.roundOpen
  exact .ite_snd h (h.drawBelow (n := 2))

theorem Forward.drawBytes {n : Nat} (h : Forward s0 s) : Forward s0 (s.drawBytes n).2 := by
  unfold Machine.State.drawBytes
  exact .foldl_snd h fun _ _ h' => h'.drawBelow (n := 256)

theorem Forward.controlOutput {c v : Nat} (h : Forward s0 s) : Forward s0 (controlOutput c v s) := by
  unfold Machine.controlOutput
  exact .ite (.raiseAll (.modMet (.setBit (.setBit (.set (.ite_snd h h.drawBelow)))))) h

theorem Forward.startChannel {c : Nat} (h : Forward s0 s) : Forward s0 (startChannel c s) := by
  unfold Machine.startChannel
  dsimp only
  exact h.drawFloat.modMet

theorem Forward.pathOutput {c : Nat} (h : Forward s0 s) : Forward s0 (pathOutput c s) := by
  unfold Machine.pathOutput
  dsimp only
  exact .ite h.drawFloat.modMet h

theorem Forward.drawPhasor {a : Applied} {i : Nat} {nan : Bool} (h : Forward s0 s) : Forward s0 (drawPhasor a i nan s).2 := by
  unfold Machine.drawPhasor
  dsimp only
  exact .ite_snd (.ite_snd h.drawFloat.drawFloat h.drawFloat.drawFloat) (.ite_snd h.drawFloat.drawFloat h.drawFloat.drawFloat)

theorem Forward.reportTime {sec k : Nat} (h : Forward s0 s) : Forward s0 (reportTime sec k s).2.2 := by
  unfold Machine.reportTime
  exact h.roundOpen

theorem Forward.formReport {a : Applied} {sec k : Nat} (h : Forward s0 s) : Forward s0 (formReport a sec k s) := by
  unfold Machine.formReport
  dsimp only
  generalize hx : (if bitAt s.tq 7 = true then s else Machine.raise Src.MET_TIME_UNSYNC s) = x
  have hph : Forward s0 (x.blockNans.zipIdx.foldl (fun (y : List Byte × State) n => (y.1 ++ (Machine.drawPhasor (x.bound a) n.2 n.1 y.2).1,
      (Machine.drawPhasor (x.bound a) n.2 n.1 y.2).2)) ([], x)).2 :=
    .foldl_snd (hx ▸ .ite h h.raise) fun _ _ h' => h'.drawPhasor
  generalize x.blockNans.zipIdx.foldl _ _ = p at hph ⊢
  refine .modMet (.set (.reportTime (sec := sec) (k := k) (.set (.drawBelow (n := 2 ^ 24) (.when ?_ .raise)))))
  have hf : Forward s0 (if x.psNan (x.get R.PMU_CFG.FREQ_SET) then (qnan, p.2) else p.2.drawFloat 0x7F7FFFFF).2 := .ite_snd hph hph.drawFloat
  exact .ite_snd hf hf.drawFloat

theorem Forward.timeReport {sec k : Nat} (h : Forward s0 s) : Forward s0 (timeReport sec k s) := by
  unfold Machine.timeReport
  dsimp only
  exact .modMet (.reportTime (sec := sec) (k := k) (.ite h h.raise))

theorem Forward.reportInstant {a : Applied} (h : Forward s0 s) : Forward s0 (reportInstant a s) := by
  unfold Machine.reportInstant
  refine .ite h (.ite h (.modMet ?_))
  split
  · exact .timeReport (.ite h.raise h)
  · exact .formReport (.ite h.raise h)

theorem Forward.blockConfig (h : Forward s0 s) : Forward s0 (blockConfig s).2 := by
  unfold Machine.blockConfig
  exact .ite_snd h.drawBytes h

theorem Forward.egressSend {bs : List Byte} (h : Forward s0 s) : Forward s0 (egressSend bs s) := h.of_core rfl

theorem Forward.nowFields_of {g : State → Nat × Nat × State} {q : Nat × Nat × State} (hg : Machine.nowFields = g) (hq : g s = q)
    (h : Forward s0 s) : Forward s0 q.2.2 := by
  delta Machine.nowFields at hg
  subst hg
  dsimp -proj -iota only at hq
  obtain ⟨p, hp⟩ : ∃ p, s.roundOpen (mkRat (s.gridTime % ticksPerSec * 1000000) ticksPerSec) = p := ⟨_, rfl⟩
  have hr : Forward s0 p.2 := hp ▸ h.roundOpen
  rw [hp] at hq
  subst hq
  exact hr

/-- A reply's time draws at most its microsecond. -/
theorem Forward.nowFields (h : Forward s0 s) : Forward s0 (nowFields s).2.2 := .nowFields_of rfl rfl h

theorem Forward.command {code : Nat} {bs : List Byte} {act : State → State} (h : Forward s0 s)
    (ha : ∀ x, Forward s0 x → Forward s0 (act x)) : Forward s0 (command code bs act s) := by
  unfold Machine.command
  exact .ite h (.ite h.raise (.ite (ha _ h.inc) h))

theorem Forward.reply_of {bs : List Byte} {sync : Nat} {body : State → List Byte} {g : List Byte → Nat → (State → List Byte) → State → State}
    (hg : Machine.reply = g) (h : Forward s0 s) : Forward s0 (g bs sync body s) := by
  delta Machine.reply at hg
  subst hg
  obtain ⟨q, hq⟩ : ∃ q, Machine.nowFields s = q := ⟨_, rfl⟩
  have hr : Forward s0 q.2.2 := hq ▸ h.nowFields
  dsimp -proj -iota only
  rw [hq]
  exact hr.egressSend

theorem Forward.reply {bs : List Byte} {sync : Nat} {body : State → List Byte} (h : Forward s0 s) : Forward s0 (reply bs sync body s) := .reply_of
    rfl h

theorem Forward.arp {bs : List Byte} (h : Forward s0 s) : Forward s0 (arp bs s) := by
  unfold Machine.arp
  exact .ite h.egressSend h

theorem Forward.egressDown (h : Forward s0 s) : Forward s0 (egressDown s) := by
  unfold Machine.egressDown
  exact .ite h.set.set.raise h.set

theorem Forward.egressUp (h : Forward s0 s) : Forward s0 (egressUp s) := by
  unfold Machine.egressUp
  exact .ite h.set.set h

theorem Forward.sendReport (h : Forward s0 s) : Forward s0 (sendReport s) := by
  unfold Machine.sendReport
  split
  · exact h
  · exact .unless h.modMet.sendTo.report fun h' => .when h.modMet fun h'' => .egressSend (.incWrap (.when h''.modMet fun h''' => h'''.raise))

theorem Forward.bumpCfg (h : Forward s0 s) : Forward s0 (bumpCfg s) := by
  unfold Machine.bumpCfg
  exact h.incWrap.modMet.raise

theorem Forward.peerConfig {p : Nat} {cfg : List Byte} (h : Forward s0 s) : Forward s0 (peerConfig p cfg s) := by
  unfold Machine.peerConfig
  dsimp only
  split
  · exact .unless h.modMet fun h' => h'.modMet.raise.bumpCfg
  · exact h.modMet

theorem Forward.phasorMessage {i : Nat} {b : List Byte} (h : Forward s0 s) : Forward s0 (phasorMessage i b s) := by
  unfold Machine.phasorMessage
  exact .ite h (.ite h.dropBad (.ite h.relay (.ite h.peerConfig h.modMet)))

theorem Forward.buildStream (h : Forward s0 s) : Forward s0 (buildStream s) := by
  unfold Machine.buildStream
  exact .ite h (.unless h.blockConfig.sendTo.report fun h' => .unless h.blockConfig.modMet fun h'' => h''.raise)

theorem Forward.armTransmission (h : Forward s0 s) : Forward s0 (armTransmission s) := by
  unfold Machine.armTransmission
  exact .ite h.set h

/-! ### Clocks -/

theorem Forward.modClk {f : Clk → Clk} (h : Forward s0 s) : Forward s0 (s.modClk f) := h.of_core rfl
theorem Forward.modCh {f : ColdHold → ColdHold} (h : Forward s0 s) : Forward s0 (s.modCh f) := h.of_core rfl

theorem Forward.windowDone {pass : Bool} (h : Forward s0 s) : Forward s0 (windowDone pass s) := by
  unfold Machine.windowDone
  exact .ite (.ite h.modCh h.latch.takeReset) h

theorem Forward.relock {p : Pll} (h : Forward s0 s) : Forward s0 (relock p s) := by
  unfold Machine.relock
  split
  · exact h.modClk
  · exact .unless h.modClk fun h' => .each h'.set fun _ _ h'' => h''.bringUp
  · exact .unless h.modClk fun h' => .each h'.set fun _ _ h'' => h''.spineBringUp
  · exact .unless h.modClk fun h' => h'.set.set.modClk

theorem Forward.lockDeclared {p : Pll} {qualUs straps : Nat} (h : Forward s0 s) : Forward s0 (lockDeclared p qualUs straps s) := by
  unfold Machine.lockDeclared
  exact .when (.ite h.relock h) fun h' => .ite (.when (.when h.modCh fun h'' => h''.modTs) fun h'' => h''.enterBoot) h

theorem Forward.ckrefTrip (h : Forward s0 s) : Forward s0 (ckrefTrip s) := by
  unfold Machine.ckrefTrip
  exact .unless (.ite h (.ite h.modCh (.ite h h.latch))) fun h' => .ite (.when h.set.latch fun h'' => h''.blackLanes) h

theorem Forward.holdLockLost {p : Pll} (h : Forward s0 s) : Forward s0 (holdLockLost p s) := h.of_core rfl

theorem Forward.pllALost {pin : Bool} (h : Forward s0 s) : Forward s0 (pllALost pin s) := by
  unfold Machine.pllALost
  exact .ite h.latch.gateCore.set.setBit.set (.ite h.holdLockLost h)

theorem Forward.stopLanes (h : Forward s0 s) : Forward s0 (stopLanes s) := by
  unfold Machine.stopLanes
  exact .each h fun _ _ h' => h'.leaveUp.set

theorem Forward.leavePllC (h : Forward s0 s) : Forward s0 (leavePllC s) := by
  unfold Machine.leavePllC
  exact .ite h.set.set.set.set.modClk.frameLost h

theorem Forward.pllCLost (h : Forward s0 s) : Forward s0 (pllCLost s) := by
  unfold Machine.pllCLost
  exact .when (.ite h.holdLockLost h) fun h' => .when (.stopLanes (.when (.raise (.when h.set.inc.leavePllC fun h'' => h''.canRestart)) fun h'' =>
      h''.toSafe)) fun h'' => .stopLanes (.raise (.when (.update (.when h.set.inc.leavePllC fun h''' => h'''.canRestart)) fun h''' => .set (.update
      (.when h.set.inc.leavePllC fun h'''' => h''''.canRestart))))

theorem Forward.pllSLost (h : Forward s0 s) : Forward s0 (pllSLost s) := by
  unfold Machine.pllSLost
  exact .when (.ite h.holdLockLost h) fun h' => .linkDrop (.linkDrop (.each h.set.inc.raise fun _ _ h'' => h''.spineBringUp))

theorem Forward.pllTLost (h : Forward s0 s) : Forward s0 (pllTLost s) := by
  unfold Machine.pllTLost
  exact .ite h.set.set.inc.set.modClk.raise (.ite h.holdLockLost h)

theorem Forward.relockAttempt {p : Pll} (h : Forward s0 s) : Forward s0 (relockAttempt p s) := by
  unfold Machine.relockAttempt
  exact .ite h.modClk.loadDither h

theorem Forward.pllTReturn (h : Forward s0 s) : Forward s0 (pllTReturn s) := by
  unfold Machine.pllTReturn
  exact .ite h.set.modClk h

theorem Forward.setDiv (h : Forward s0 s) : Forward s0 (setDiv s) := by
  unfold Machine.setDiv
  exact h.set

theorem Forward.selectMux {m : Mux} {sel : Nat} (h : Forward s0 s) : Forward s0 (selectMux m sel s) := by
  unfold Machine.selectMux
  split
  · exact .unless h.refuse fun h' => .when h.set.setBit.setBit fun h'' => h''.frameLost
  · exact h.set.setBit

theorem Forward.takeSource {m : Mux} (h : Forward s0 s) : Forward s0 (takeSource m s) := by
  unfold Machine.takeSource
  split
  · exact h.set.set.set
  · exact h.modClk.set.setDiv

theorem Forward.switchDone {m : Mux} (h : Forward s0 s) : Forward s0 (switchDone m s) := by
  unfold Machine.switchDone
  split
  · exact .ite h.takeSource h
  · exact .ite h.takeSource h

theorem Forward.muxHang {m : Mux} (h : Forward s0 s) : Forward s0 (muxHang m s) := by
  unfold Machine.muxHang
  split
  · exact .ite h.inc.raise h
  · exact .ite h.inc.raise h

theorem Forward.forceMux {m : Mux} (h : Forward s0 s) : Forward s0 (forceMux m s) := by
  unfold Machine.forceMux
  exact .ite h.takeSource h.raise

theorem Forward.consumerIdle {v : Bool} (h : Forward s0 s) : Forward s0 (consumerIdle v s) := by
  unfold Machine.consumerIdle
  exact .unless h.setBit.frameLost fun h' => .when h.setBit fun h'' => h''.canRestart

theorem Forward.writeSpread {v : Nat} (h : Forward s0 s) : Forward s0 (writeSpread v s) := by
  unfold Machine.writeSpread
  exact .unless (.ite h.refuse h) fun h' => .unless h.refuse fun h'' => .when h.setBit.set.set.setBit fun h''' => h'''.egressDown

theorem Forward.rampDone (h : Forward s0 s) : Forward s0 (rampDone s) := by
  unfold Machine.rampDone
  exact .ite h.set.set.modClk.canRestart h

/-! ### Wavefront -/

theorem Forward.modWf {f : Wf → Wf} (h : Forward s0 s) : Forward s0 (s.modWf f) := h.of_core rfl

theorem Forward.wfSettled (h : Forward s0 s) : Forward s0 (wfSettled s) := by
  unfold Machine.wfSettled
  exact .ite h.set h

theorem Forward.wfStart (h : Forward s0 s) : Forward s0 (wfStart s) := by
  unfold Machine.wfStart
  exact .ite h.set.set.modWf.wfSettled h

theorem Forward.wfAligned {c : Nat} {ok : Bool} (h : Forward s0 s) : Forward s0 (wfAligned c ok s) := by
  unfold Machine.wfAligned
  exact .ite (.wfSettled (.ite h.modWf.set h.modWf.raise)) h

theorem Forward.wfArm (h : Forward s0 s) : Forward s0 (wfArm s) := by
  unfold Machine.wfArm
  exact .ite h.refuse (.ite h h.set.set.set.modWf)

theorem Forward.wfHold {n : Nat} {t : Int} (h : Forward s0 s) : Forward s0 (wfHold n t s) := by
  unfold Machine.wfHold
  exact h.set.set.set64

theorem Forward.wfStopCapture (h : Forward s0 s) : Forward s0 (wfStopCapture s) := by
  unfold Machine.wfStopCapture
  refine .ite ?_ h
  split
  · exact h.wfHold
  · exact h.wfHold

theorem Forward.wfCaptured (h : Forward s0 s) : Forward s0 (wfCaptured s) := by
  unfold Machine.wfCaptured
  split
  · exact .ite h.wfHold.set h
  · exact h

theorem Forward.wfOff (h : Forward s0 s) : Forward s0 (wfOff s) := by
  unfold Machine.wfOff
  exact h.wfStopCapture.set.set.modWf

theorem Forward.sampleAt {at80 : Nat} (h : Forward s0 s) : Forward s0 (s.sampleAt at80).2 := by
  unfold Machine.State.sampleAt
  exact .ite_snd h.roundOpen.drawBelow h.roundOpen

theorem Forward.openEvent {at80 c80 t : Int} (h : Forward s0 s) : Forward s0 (openEvent at80 c80 t s) := by
  unfold Machine.openEvent
  exact h.set.set.modWf

theorem Forward.overrange {d : Nat} {w : Codes} (h : Forward s0 s) : Forward s0 (overrange d w s) := by
  unfold Machine.overrange
  exact .ite h.raise h

theorem Forward.crossing {d at80 : Nat} {w : Codes} (h : Forward s0 s) : Forward s0 (crossing d at80 w s) := by
  unfold Machine.crossing
  dsimp only
  exact .when h.overrange.sampleAt fun h' => .modWf (.when h'.roundOpen fun h'' => h''.openEvent)

theorem Forward.setWindow (h : Forward s0 s) : Forward s0 (setWindow s) := by
  unfold Machine.setWindow
  exact .ite h.set.modWf (.ite h.set.modWf h.set.modWf)

theorem Forward.completeRecord (h : Forward s0 s) : Forward s0 (completeRecord s) := by
  unfold Machine.completeRecord
  split
  · exact h
  · have h3 := ((h.drawBelow (n := 2 ^ 32)).drawBelow (n := 2 ^ 32)).drawBelow (n := 2 ^ 32)
    generalize s.drawBelow (2 ^ 32) = p1 at h3 ⊢
    dsimp only
    generalize p1.2.drawBelow (2 ^ 32) = p2 at h3 ⊢
    generalize p2.2.drawBelow (2 ^ 32) = p3 at h3 ⊢
    exact h3.modWf.raiseAll.post.report

theorem Forward.selectRecordWf {v : Nat} (h : Forward s0 s) : Forward s0 (selectRecordWf v s) := by
  unfold Machine.selectRecordWf
  split
  · exact h.set.modWf
  · exact h.refuse

/-! ### Modes -/

theorem Forward.goto {d : DevState} (h : Forward s0 s) : Forward s0 (s.goto d) := h.of_core rfl

theorem Forward.exitConfigure (h : Forward s0 s) : Forward s0 (exitConfigure s) := by
  unfold Machine.exitConfigure
  exact .buildStream (.setWindow (.checkWcet (.update (.each (.each h fun _ _ h' => h'.stopTest) fun _ _ h' => h'.stopSpineTest))))

theorem Forward.enterConfigure (h : Forward s0 s) : Forward s0 (enterConfigure s) := by
  unfold Machine.enterConfigure
  exact h.goto.parkCells.idleContexts.dropReady.set.canSend.phasorStart.wfOff

theorem Forward.enterArmed (h : Forward s0 s) : Forward s0 (enterArmed s) := by
  unfold Machine.enterArmed
  exact h.goto.phasorStart.armTransmission.wfStart.decideRole

theorem Forward.runToArmed (h : Forward s0 s) : Forward s0 (runToArmed s) := by
  unfold Machine.runToArmed
  exact h.parkCells.enterArmed

theorem Forward.enterRunState (h : Forward s0 s) : Forward s0 (enterRunState s) := by
  unfold Machine.enterRunState
  exact h.goto.phasorStart.startStrings

theorem Forward.leaveSafe (h : Forward s0 s) : Forward s0 (leaveSafe s) := by
  unfold Machine.leaveSafe
  exact .each h fun _ _ h' => .ite h'.modGate h'

theorem Forward.safeToArmed (h : Forward s0 s) : Forward s0 (safeToArmed s) := by
  unfold Machine.safeToArmed
  exact .ite h.raise h.leaveSafe.enterArmed

theorem Forward.stopToSafe (h : Forward s0 s) : Forward s0 (stopToSafe s) := by
  unfold Machine.stopToSafe
  exact .each (.toSafe (.ite h.exitConfigure h)) fun _ _ h' => h'.requestUrgent

/-! ### Collector -/

theorem Forward.forceLeaf {f : Fld} (h : Forward s0 s) : Forward s0 (forceLeaf f s) := by
  unfold Machine.forceLeaf
  exact .ite h h.set.modCyc

theorem Forward.faultReport {r : ReportArg} (h : Forward s0 s) : Forward s0 (faultReport r s) := by
  unfold Machine.faultReport
  split
  · exact h
  · exact .ite h (.ite h.forceLeaf.report h.setLeaf.report)

theorem Forward.closeWindow {w : Nat} (h : Forward s0 s) : Forward s0 (closeWindow w s) := by
  unfold Machine.closeWindow
  exact .ite (.unless h.set fun h' => h'.postRec) h

theorem Forward.writeHeld {v : Nat} (h : Forward s0 s) : Forward s0 (writeHeld v s) := by
  unfold Machine.writeHeld
  exact .each h fun _ _ h' => h'.releaseHeld

theorem Forward.writeLost {v : Nat} (h : Forward s0 s) : Forward s0 (writeLost v s) := by
  unfold Machine.writeLost
  exact .each h fun _ _ h' => .ite h' h'.set.set

theorem Forward.writeDrive {v : Bool} (h : Forward s0 s) : Forward s0 (writeDrive v s) := by
  unfold Machine.writeDrive
  exact .ite h.set.set (.ite h (.ite h.set h.set))

theorem Forward.endPulse (h : Forward s0 s) : Forward s0 (endPulse s) := by
  unfold Machine.endPulse
  exact .ite (.when h.set fun h' => h'.set.set) h

theorem Forward.forceReport {v : Nat} (h : Forward s0 s) : Forward s0 (forceReport v s) := by
  unfold Machine.forceReport
  refine .ite h ?_
  refine .ite h.refuse ?_
  refine .report ?_
  split
  · exact h.forceLeaf
  · exact h

theorem Forward.writeCbi {v : Nat} (h : Forward s0 s) : Forward s0 (writeCbi v s) := by
  unfold Machine.writeCbi
  exact .unless h.refuse fun h' => .when h.set.set fun h'' => h''.set.set.modFc

theorem Forward.eccError {m addr : Nat} {uncorr : Bool} {syn : Nat} (h : Forward s0 s) : Forward s0 (eccError m addr uncorr syn s) := by
  unfold Machine.eccError
  exact .ite h (.when h.faultReport fun h' => .faultReport (.unless h.set.modFc fun h'' => h''.set))

theorem Forward.missInjection (h : Forward s0 s) : Forward s0 (missInjection s) := by
  unfold Machine.missInjection
  exact .ite h.set.modFc.raise h

theorem Forward.recoverCrimson {b : Nat} (h : Forward s0 s) : Forward s0 (recoverCrimson b s) := by
  unfold Machine.recoverCrimson
  exact .ite (.ite h.modFc.clearCell h.clearCell.restartQuiet) (.ite (.ite h.restart.clearRecord.countRecovery h.restart.restartQuiet) (.ite (.ite
      h.tripClr.restartQuiet h.modFc.tripClr) h.clearRecord.countRecovery))

theorem Forward.recoverBlack (h : Forward s0 s) : Forward s0 (recoverBlack s) := by
  unfold Machine.recoverBlack
  exact .writeDrive (.when (.countRecovery (.each h fun _ _ h' => .ite h'.clearRecord h')) fun h' => h'.safeToArmed)

theorem Forward.recover {b : Nat} (h : Forward s0 s) : Forward s0 (recover b s) := by
  unfold Machine.recover
  refine .ite ?_ h
  split
  · exact h.clearRecord.countRecovery
  · exact h.recoverCrimson
  · exact h.recoverBlack

theorem Forward.unlatch (h : Forward s0 s) : Forward s0 (unlatch s) := by
  unfold Machine.unlatch
  exact h.set.modFc

theorem Forward.clearGroupFirst (h : Forward s0 s) : Forward s0 (clearGroupFirst s) := by
  unfold Machine.clearGroupFirst
  exact .ite h h.set.set.set.set.set64

/-! ### Thermal -/

theorem Forward.modTh {f : Therm → Therm} (h : Forward s0 s) : Forward s0 (s.modTh f) := h.of_core rfl

theorem Forward.sensorCheck {rd : Nat → Option Int} (h : Forward s0 s) : Forward s0 (sensorCheck rd s) := by
  unfold Machine.sensorCheck
  exact .raiseAll (.when (.newSensor (.each h.modTh fun _ _ h' => h'.set.set)) fun h' => .each h.modTh fun _ _ h'' => h''.set.set)

theorem Forward.setLimit {k : Nat} {v : Bool} (h : Forward s0 s) : Forward s0 (setLimit k v s) := by
  unfold Machine.setLimit
  exact .ite h.setBit (.ite h.setBit h.modTh)

theorem Forward.limitCheck {rd prev : Nat → Option Int} {k : Nat} (h : Forward s0 s) : Forward s0 (limitCheck rd prev k s) := by
  unfold Machine.limitCheck
  refine .ite (.ite h h.setLimit) ?_
  split
  · exact h
  · exact .ite h.setLimit.raise (.ite h.setLimit.raise h.setLimit.modTh.raise)

theorem Forward.shed (h : Forward s0 s) : Forward s0 (shed s) := by
  unfold Machine.shed
  exact .ite h (.when h.set.wfStart fun h' => .wfOff (.set (.each (.each h fun _ _ h'' => h''.set) fun _ _ h'' => h''.set)))

theorem Forward.rateCheck {rd : Nat → Option Int} {old : Option (List (Option Int))} (h : Forward s0 s) : Forward s0 (rateCheck rd old s) := by
  unfold Machine.rateCheck
  dsimp only
  split
  · exact .unless h.modTh fun h' => h'.set.raise
  · exact .ite h (.when h.modTh fun h' => h'.set)

theorem Forward.nextRate {now : List (Option Int)} {rd : Nat → Option Int} (h : Forward s0 s) : Forward s0 (nextRate now rd s) := by
  unfold Machine.nextRate
  exact h.setBit.modTh

theorem Forward.peaks {rd : Nat → Option Int} (h : Forward s0 s) : Forward s0 (peaks rd s) := by
  unfold Machine.peaks
  refine .update ?_
  refine .each h fun _ _ h' => ?_
  split
  · exact .ite h'.set.set h'
  · exact h'

theorem Forward.compensate {rd : Nat → Option Int} (h : Forward s0 s) : Forward s0 (compensate rd s) := by
  unfold Machine.compensate
  dsimp only
  split
  · refine .ite ?_ ?_
    · refine .modTh ?_
      split
      · exact h.modTs
      · exact h
    · split
      · exact h.modTs
      · exact h
  · split
    · exact h.modTs
    · exact h

theorem Forward.thermalSample {l : List (Option Int)} (h : Forward s0 s) : Forward s0 (thermalSample l s) := by
  unfold Machine.thermalSample
  refine .ite h ?_
  refine .ite ?_ ?_
  · refine .requestReset ?_
    refine .compensate ?_
    refine .peaks ?_
    refine .sensorCheck ?_
    refine .each h.modTh fun _ _ h' => ?_
    split
    · exact h'.set
    · exact h'
  · refine .nextRate ?_
    refine .rateCheck ?_
    refine .shed ?_
    refine .limitCheck ?_
    refine .limitCheck ?_
    refine .limitCheck ?_
    refine .compensate ?_
    refine .peaks ?_
    refine .sensorCheck ?_
    refine .each h.modTh fun _ _ h' => ?_
    split
    · exact h'.set
    · exact h'

theorem Forward.shutdownEnds (h : Forward s0 s) : Forward s0 (shutdownEnds s) := by
  unfold Machine.shutdownEnds
  exact .takeReset (.modPw (.unless h.latch fun h' => h'.saveBefore))

/-! ### Security -/

theorem Forward.setStage {n : Nat} (h : Forward s0 s) : Forward s0 (s.setStage n) := h.of_core rfl

theorem Forward.refuseSec (h : Forward s0 s) : Forward s0 (refuseSec s) := by
  unfold Machine.refuseSec
  exact h.refuse

theorem Forward.bistDone {f : BistFindings} (h : Forward s0 s) : Forward s0 (bistDone f s) := by
  unfold Machine.bistDone
  exact .ite h.modSec.setStage h

theorem Forward.repairQuad {q : Nat} (h : Forward s0 s) : Forward s0 (repairQuad q s) := by
  unfold Machine.repairQuad
  dsimp only
  split
  · exact h
  · exact .when (.raise (.modSec (.ite (.each h.set.set fun _ _ h' => h'.set) h))) fun h' => .modSec (.ite (.each h.set.set fun _ _ h'' => h''.set) h)

theorem Forward.disableLost (h : Forward s0 s) : Forward s0 (disableLost s) := by
  unfold Machine.disableLost
  exact h.modSec

theorem Forward.repairSummary (h : Forward s0 s) : Forward s0 (repairSummary s) := by
  unfold Machine.repairSummary
  exact h.set.set.set.set.setBit

theorem Forward.applyRepair (h : Forward s0 s) : Forward s0 (applyRepair s) := by
  unfold Machine.applyRepair
  split
  · exact .ite h (.setStage (.repairSummary (.each (.each (.disableLost (.each (.when h.modMram.modSec.modEng fun h' => h'.raise) fun _ _ h' =>
        h'.repairQuad)) fun _ _ h' => .ite h' h'.bringUp) fun _ _ h' => .ite h' h'.spineBringUp)))
  · exact h

theorem Forward.raiseCode {c : Nat} (h : Forward s0 s) : Forward s0 (raiseCode c s) := by
  unfold Machine.raiseCode
  exact .ite h.raise (.ite h.raise h)

theorem Forward.sendResponse {num abort k : Nat} {b : List Byte} (h : Forward s0 s) : Forward s0 (sendResponse num abort k b s) := by
  induction k generalizing s b with
  | zero => exact h
  | succ k ih => exact .ite h.sendTo.report (ih h.sendTo.report)

theorem Forward.answerTo {client : Option Nat} {abort : Nat} {bs : List Byte} (h : Forward s0 s) : Forward s0 (answerTo client abort bs s) := by
  unfold Machine.answerTo
  split
  · exact .ite h.canSend h.sendResponse
  · exact h

theorem Forward.romStart (h : Forward s0 s) : Forward s0 (romStart s).1 := by
  unfold Machine.romStart
  refine .ite_fst h (.ite_fst ?_ (.ite_fst ?_ h))
  · exact h.modMram (f := fun m => { m with tried := true })
  · exact (h.modMram (f := fun m => { m with trial := false, tried := false })).modSec (f := fun x => { x with reverted := true })

theorem Forward.startFirmware {bank : Nat} {b : List Byte} (h : Forward s0 s) : Forward s0 (startFirmware bank b s) := by
  unfold Machine.startFirmware
  exact h.set.modSec.modPw.raiseAll

theorem Forward.verifyFirmware {rom : List Byte} (h : Forward s0 s) : Forward s0 (verifyFirmware rom s) := by
  unfold Machine.verifyFirmware
  exact .ite (.ite h.romStart.startFirmware (.ite h.romStart.raiseCode.modSec (.ite h.romStart.raiseCode.modSec.modPw
      h.romStart.raiseCode.modSec.requestReset))) h

theorem Forward.writeFirmware {client : Option Nat} {b : List Byte} (h : Forward s0 s) : Forward s0 (writeFirmware client b s) := by
  unfold Machine.writeFirmware
  exact .ite (.unless h.modSec fun h' => h'.engineAsk) h

theorem Forward.firmwareChecked (h : Forward s0 s) : Forward s0 (firmwareChecked s) := by
  unfold Machine.firmwareChecked
  exact .ite (.answerTo (.unless h.engineEnds.modSec.set.modMram.raiseCode fun h' => h'.refuseSec)) h

theorem Forward.tryFirmware {v : Nat} (h : Forward s0 s) : Forward s0 (tryFirmware v s) := by
  unfold Machine.tryFirmware
  exact .ite h (.ite h.modMram h.refuseSec)

theorem Forward.advanceCtr {i : Nat} (h : Forward s0 s) : Forward s0 (advanceCtr i s) := by
  unfold Machine.advanceCtr
  refine .ite h ?_
  split
  · exact h.refuseSec
  · exact .ite h.refuseSec h.modSec

theorem Forward.counterDone (h : Forward s0 s) : Forward s0 (counterDone s) := by
  unfold Machine.counterDone
  split
  · exact h
  · refine .countUp h fun k => ?_
    simp only [Tab.get_set]
    split
    next hk => subst hk; exact Nat.le_max_right _ _
    next => exact Nat.le_refl _

theorem Forward.refuseToken {c cmd : Nat} {b : List Byte} (h : Forward s0 s) : Forward s0 (refuseToken c cmd b s) := by
  unfold Machine.refuseToken
  exact .unless h.raiseCode fun h' => h'.refuseSec

theorem Forward.writeToken {cmd : Nat} {client : Option Nat} {b : List Byte} (h : Forward s0 s) : Forward s0 (writeToken cmd client b s) := by
  unfold Machine.writeToken
  exact .ite h.set.refuseToken.answerTo h.modSec.engineAsk

theorem Forward.writeNonce {b : List Byte} (h : Forward s0 s) : Forward s0 (writeNonce b s) := by
  unfold Machine.writeNonce
  exact .ite (.unless h.modSec fun h' => h'.engineAsk) h

theorem Forward.reportDone (h : Forward s0 s) : Forward s0 (reportDone s) := by
  unfold Machine.reportDone
  split
  · exact h.engineEnds.draw.modSec
  · exact h

/-! ### Registers -/

theorem Forward.writeField {w : Nat} {f : Fld} (h : Forward s0 s) : Forward s0 (writeField w f s) := by
  unfold Machine.writeField
  exact .ite h.set (.ite h.clearBit h)

theorem Forward.plain {a w : Nat} (h : Forward s0 s) : Forward s0 (plain a w s) := by
  unfold Machine.plain
  exact .each h fun _ _ h' => h'.writeField

theorem Forward.guarded {bad : Bool} {r : Src} {a w : Nat} (h : Forward s0 s) : Forward s0 (guarded bad r a w s) := by
  unfold Machine.guarded
  exact .ite h.refuse h.plain

theorem Forward.onBit {w i : Nat} {f : State → State} (h : Forward s0 s) (hf : Forward s0 s → Forward s0 (f s)) :
    Forward s0 (onBit w i f s) := by
  unfold Machine.onBit
  exact .ite (hf h) h

theorem Forward.writeClk {a w : Nat} (h : Forward s0 s) : Forward s0 (writeClk a w s) := by
  unfold Machine.writeClk
  exact .unless h.writeSpread fun h' => .ite (.ite h.refuse (.onBit h.consumerIdle.selectMux fun h' => h'.forceMux)) (.ite (.onBit
      h.set.set.setDiv.selectMux fun h' => h'.forceMux) h.plain)

theorem Forward.setLaneEn {n : Nat} {v : Bool} (h : Forward s0 s) : Forward s0 (setLaneEn n v s) := by
  unfold Machine.setLaneEn
  exact .ite h (.ite h.set.bringUp h.set.bringUp.ledgerRemove)

theorem Forward.retrainLane {n : Nat} (h : Forward s0 s) : Forward s0 (retrainLane n s) := by
  unfold Machine.retrainLane
  exact .ite h.startAttempt h

theorem Forward.writeLaneWord {n o w : Nat} (h : Forward s0 s) : Forward s0 (writeLaneWord n o w s) := by
  unfold Machine.writeLaneWord
  split
  · exact .onBit (.onBit h.writeField.writeField.setLaneEn fun h' => h'.clearLaneCounts) fun h' => h'.retrainLane
  · exact h.writeTest
  · exact .onBit h.plain fun h' => h'.injectOne
  · exact h.plain

theorem Forward.writeCellArray {a w : Nat} (h : Forward s0 s) : Forward s0 (writeCellArray a w s) := by
  unfold Machine.writeCellArray
  split
  · exact .unless h.writeMapMode fun h' => h'.writeSpare
  · exact .ite h.writeLaneWord h.plain

theorem Forward.writeLink {a w : Nat} (h : Forward s0 s) : Forward s0 (writeLink a w s) := by
  unfold Machine.writeLink
  refine .ite ?_ h.plain
  split
  · exact .onBit (.onBit h.plain fun h' => h'.descFetch) fun h' => h'.clearLinkCounts
  · exact .onBit h.plain fun h' => h'.startParam
  · exact h.plain

theorem Forward.writeTrip {i o w : Nat} (h : Forward s0 s) : Forward s0 (writeTrip i o w s) := by
  unfold Machine.writeTrip
  split
  · exact h.guarded
  · exact .onBit h.guarded fun h' => h'.tripClr
  · exact h.plain

theorem Forward.writeCarrier {k o w : Nat} (h : Forward s0 s) : Forward s0 (writeCarrier k o w s) := by
  unfold Machine.writeCarrier
  split
  · exact .unless h.plain fun h' => .ite h'.enableCar h'.disableCar
  · exact h.writePer
  · exact h.plain.stampCar
  · exact h.plain.stampCar
  · exact h.plain

theorem Forward.writeLeg {l o w : Nat} (h : Forward s0 s) : Forward s0 (writeLeg l o w s) := by
  unfold Machine.writeLeg
  split
  · exact .ite h.refuse h.plain.stampLeg
  · exact h.plain.stampLeg
  · exact h.plain.stampLeg
  · exact h.plain.stampLeg
  · exact h.plain

theorem Forward.writeModulation {a w : Nat} (h : Forward s0 s) : Forward s0 (writeModulation a w s) := by
  unfold Machine.writeModulation
  exact .ite h.commitGroups (.ite h.guarded (.ite h.guarded (.ite h.writeTrip (.ite h.writeCarrier (.ite h.writeLeg h.plain)))))

theorem Forward.ranged {l : List (Fld × Bool)} {w : Nat} (h : Forward s0 s) : Forward s0 (ranged l w s) := by
  unfold Machine.ranged
  exact .when (.each h fun _ _ h' => .ite h' h'.writeField) fun h' => h'.refuse

theorem Forward.writeGates {a w : Nat} (h : Forward s0 s) : Forward s0 (writeGates a w s) := by
  unfold Machine.writeGates
  refine .ite h.ranged ?_
  refine .ite h.guarded ?_
  refine .ite ?_ h.plain
  split
  · exact h.ranged
  · exact .onBit h fun h' => h'.clearCell
  · exact h.plain

theorem Forward.writeMembers {t m : Nat} (h : Forward s0 s) : Forward s0 (writeMembers t m s) := by
  unfold Machine.writeMembers
  exact .ite h (.ite h.refuse h.set64.resettleCells)

theorem Forward.writeBalancer {a w : Nat} (h : Forward s0 s) : Forward s0 (writeBalancer a w s) := by
  unfold Machine.writeBalancer
  refine .ite h.guarded ?_
  refine .ite (.onBit h fun h' => h'.handbackGo) ?_
  refine .ite ?_ (.when h.plain fun h' => .onBit (.onBit h fun h' => h'.insertCell) fun h' => h'.parkCell)
  split
  · exact .when h.guarded fun h' => h'.resettleCells
  · exact h.writeMembers
  · exact h.writeMembers
  · exact h.plain

theorem Forward.writeCxCfg {k w : Nat} (h : Forward s0 s) : Forward s0 (writeCxCfg k w s) := by
  unfold Machine.writeCxCfg
  exact .unless h.refuse fun h' => .when (.when (.when (.when (.writeFreeze (.each h fun _ _ h'' => h''.writeField)) fun h'' => .each h
      fun _ _ h''' => h'''.writeField) fun h'' => h''.offCtx) fun h'' => .enableCtx (.when (.writeFreeze (.each h fun _ _ h''' => h'''.writeField))
      fun h''' => .each h fun _ _ h'''' => h''''.writeField)) fun h'' => .when (.writeFreeze (.each h fun _ _ h''' => h'''.writeField)) fun h''' =>
      .each h fun _ _ h'''' => h''''.writeField

theorem Forward.bankReq {k v : Nat} (h : Forward s0 s) : Forward s0 (bankReq k v s) := by
  unfold Machine.bankReq
  split
  · exact h.requestBank
  · exact h.requestBank
  · exact h.requestBank
  · exact h

theorem Forward.writeContext {k o w : Nat} (h : Forward s0 s) : Forward s0 (writeContext k o w s) := by
  unfold Machine.writeContext
  split
  · exact h.writeCxCfg
  · exact h.guarded
  · exact h.guarded
  · exact .onBit (.bankReq (.onBit (.onBit h fun h' => h'.restart) fun h' => h'.trigger)) fun h' => h'.clearCtxCounts
  · exact h.clearHist.plain
  · exact h.plain

theorem Forward.writeControl {a w : Nat} (h : Forward s0 s) : Forward s0 (writeControl a w s) := by
  unfold Machine.writeControl
  exact .when (.unless h.memWrite.nextMaddr fun h' => .ite (.ite h.refuse (.onBit (.onBit h.plain.checkInjection fun h' => h'.endInjection) fun h' =>
      h'.startInjection)) (.ite h.guarded (.ite (.onBit (.onBit h.plain fun h' => h'.armCapture) fun h' => h'.set) (.ite h.guarded (.ite
      h.writeContext (.ite h.noteSps.guarded h.plain)))))) fun h' => .each h fun _ _ h'' => h''.bankReq

theorem Forward.writeMetrology {a w : Nat} (h : Forward s0 s) : Forward s0 (writeMetrology a w s) := by
  unfold Machine.writeMetrology
  exact .unless h.guarded fun h' => .unless (.ite h (.ite h.refuse h.plain.phasorStart)) fun h'' => .unless h.guarded fun h''' => .when (.ite
      h.guarded h.plain) fun h'''' => .ite h (.unless h.refuse fun h''''' => .when h.plain fun h'''''' => h''''''.startChannel)

theorem Forward.writeWave {a w : Nat} (h : Forward s0 s) : Forward s0 (writeWave a w s) := by
  unfold Machine.writeWave
  exact .unless h.guarded fun h' => .ite (.onBit (.onBit (.onBit h fun h' => h'.wfStart) fun h' => h'.wfArm) fun h' => h'.wfStopCapture) (.ite
      h.guarded (.ite h.guarded (.ite h.guarded (.ite h.guarded (.ite h.guarded h.plain)))))

theorem Forward.retrainSpine {i : Nat} (h : Forward s0 s) : Forward s0 (retrainSpine i s) := by
  unfold Machine.retrainSpine
  exact .ite h.startSpine h

theorem Forward.writeSpineWord {a w : Nat} (h : Forward s0 s) : Forward s0 (writeSpineWord a w s) := by
  unfold Machine.writeSpineWord
  refine .ite h.guarded ?_
  refine .ite ?_ h.plain
  split
  · exact .onBit (.onBit (.enableSpine (.each h fun _ _ h' => h'.writeField)) fun h' => h'.retrainSpine) fun h' => h'.clearSpineCounts
  · exact h.writeSpineTest
  · exact .onBit h.plain fun h' => h'.injectOne
  · exact h.plain

theorem Forward.writeCollector {a w : Nat} (h : Forward s0 s) : Forward s0 (writeCollector a w s) := by
  unfold Machine.writeCollector
  refine .ite h.guarded ?_
  refine .ite h.writeHeld ?_
  refine .ite h.writeLost ?_
  refine .ite h.writeDrive ?_
  refine .ite (.onBit h.guarded fun h' => h'.unlatch) ?_
  refine .ite (.onBit h fun h' => h'.forceReport) ?_
  refine .ite h.writeCbi ?_
  refine .ite (.onBit h fun h' => h'.clearGroupFirst) ?_
  split
  · exact h.guarded
  · exact h.plain

theorem Forward.writeRecorder {a w : Nat} (h : Forward s0 s) : Forward s0 (writeRecorder a w s) := by
  unfold Machine.writeRecorder
  exact .ite h.guarded (.ite h.guarded (.ite h.guarded h.plain))

theorem Forward.clearPeak (h : Forward s0 s) : Forward s0 (clearPeak s) := by
  unfold Machine.clearPeak
  exact h.set.set

theorem Forward.writeSystem {a w : Nat} (h : Forward s0 s) : Forward s0 (writeSystem a w s) := by
  unfold Machine.writeSystem
  exact .when (.unless h.guarded fun h' => .ite (.onBit h fun h' => .ite h'.modPw h') h.plain) fun h' => .onBit h.guarded fun h' => h'.clearPeak

theorem Forward.writeWord {host : Bool} {a w : Nat} (h : Forward s0 s) : Forward s0 (writeWord host a w s) := by
  unfold Machine.writeWord
  refine .ite h ?_
  split
  · exact h.writeCellArray
  · exact h.writeLink
  · exact h.writeSpineWord
  · exact h.writeModulation
  · exact h.writeGates
  · exact h.writeBalancer
  · exact h.writeControl
  · exact h.writeMetrology
  · exact h.writeWave
  · exact h.writeClk
  · exact h.writeCollector
  · exact h.writeRecorder
  · exact h.writeSystem
  · exact h.plain

/-! ### Flags -/

theorem Forward.readEffect {host : Bool} {a : Nat} (h : Forward s0 s) : Forward s0 (readEffect host a s) := by
  unfold Machine.readEffect
  refine .ite h.readTscLo ?_
  refine .ite h.nextMaddr ?_
  refine .ite h.incWrap ?_
  refine .ite h.readDataLo ?_
  refine .ite h.set ?_
  split
  · exact h.readPrbsLo
  · exact h.readPrbsLo
  · exact h

/-! ### Objects -/

theorem Forward.nmtIgnored (h : Forward s0 s) : Forward s0 (nmtIgnored s) := by
  unfold Machine.nmtIgnored
  exact h.raise

theorem Forward.nmtStart (h : Forward s0 s) : Forward s0 (nmtStart s) := by
  unfold Machine.nmtStart
  split
  · exact .ite h.refuseSec h.exitConfigure.enterArmed
  · exact h.safeToArmed
  · exact h.nmtIgnored
  · exact h

theorem Forward.nmtStop (h : Forward s0 s) : Forward s0 (nmtStop s) := by
  unfold Machine.nmtStop
  split
  · exact h.stopToSafe
  · exact h.stopToSafe
  · exact h.stopToSafe
  · exact h.nmtIgnored
  · exact h

theorem Forward.nmtPreOp (h : Forward s0 s) : Forward s0 (nmtPreOp s) := by
  unfold Machine.nmtPreOp
  split
  · exact h.enterConfigure
  · exact h.runToArmed.enterConfigure
  · exact h.leaveSafe.enterConfigure
  · exact h.nmtIgnored
  · exact h

theorem Forward.nmtReset (h : Forward s0 s) : Forward s0 (nmtReset s) := by
  unfold Machine.nmtReset
  split
  · exact h.requestReset
  · exact h.requestReset
  · exact h.requestReset
  · exact h.requestReset
  · exact h.nmtIgnored
  · exact h

theorem Forward.defaultComm (h : Forward s0 s) : Forward s0 (defaultComm s) := by
  unfold Machine.defaultComm
  exact .cobResets (h.dropRegs rfl)

theorem Forward.useRates (h : Forward s0 s) : Forward s0 (useRates s) := h.of_core rfl

theorem Forward.setRunRequest {v : Bool} (h : Forward s0 s) : Forward s0 (setRunRequest v s) := by
  unfold Machine.setRunRequest
  exact .when h.setBit fun h' => h'.runToArmed

theorem Forward.putField {f : Fld} {v : Nat} (h : Forward s0 s) : Forward s0 (putField f v s) := by
  unfold Machine.putField
  exact h.writeWord

/-- Every write of an entry goes forward. -/
def Entry.Steady (e : Entry) : Prop := ∀ (s0 s : State) (b : List Byte), Forward s0 s → Forward s0 (e.put b s)

/-- An entry that is found goes forward. -/
def EntrySteady (o : Option Entry) : Prop := ∀ e, o = some e → e.Steady

@[simp] theorem entrySteady_none : EntrySteady none := fun _ h => nomatch h

@[simp] theorem entrySteady_some {e : Entry} : EntrySteady (some e) ↔ e.Steady :=
  ⟨fun h => h e rfl, fun h _ k => Option.some.inj k ▸ h⟩

theorem EntrySteady.or {o p : Option Entry} (ho : EntrySteady o) (hp : EntrySteady p) : EntrySteady (o.or p) := by
  cases o with
  | none => simpa using hp
  | some e => simpa using ho

theorem EntrySteady.ite {c : Prop} [Decidable c] {o p : Option Entry} (ho : EntrySteady o) (hp : EntrySteady p) :
    EntrySteady (if c then o else p) := by
  split <;> assumption

/-! What a write of each kind of entry does. -/
@[simp] theorem numEnt_put (n : Nat) (acc : ObjAcc) (get : State → Nat) (put : Nat → State → State) (ok : Nat → Bool) (b : List Byte) (s : State) :
    (numEnt n acc get put ok).put b s = put (leVal b) s := rfl
@[simp] theorem roNum_put (n : Nat) (get : State → Nat) (b : List Byte) (s : State) : (roNum n get).put b s = s := rfl
@[simp] theorem constNum_put (n v : Nat) (b : List Byte) (s : State) : (constNum n v).put b s = s := rfl
@[simp] theorem constStr_put (l : List Char) (b : List Byte) (s : State) : (constStr l).put b s = s := rfl
@[simp] theorem ownEnt_put (n : Nat) (acc : ObjAcc) (f : Fld) (ok : Nat → Bool) (b : List Byte) (s : State) :
    (ownEnt n acc f ok).put b s = s.set f (leVal b) := rfl

theorem entStd_steady (idx sub : Nat) : EntrySteady (entStd idx sub) := by
  unfold entStd
  split <;> (try refine .ite ?_ entrySteady_none) <;> simp +contextual [Entry.Steady, Forward.set, Forward.modNet]

theorem entPdo_steady (maps : Nat → Bool) (idx sub : Nat) : EntrySteady (entPdo maps idx sub) := by
  unfold entPdo
  refine .ite ?_ (.ite ?_ (.ite (.ite ?_ (.ite ?_ entrySteady_none)) entrySteady_none))
  · split <;> simp +contextual [Entry.Steady, Forward.set]
  · split <;> simp +contextual [Entry.Steady, Forward.set]
  · simp +contextual [Entry.Steady, Forward.set]
  · simp +contextual [Entry.Steady, Forward.set]

theorem Forward.restoreComm {e : Nat × List Byte} (h : Forward s0 s) : Forward s0 (restoreComm e s) := by
  unfold Machine.restoreComm
  refine .ite ?_ h
  split
  next x hx => exact (entStd_steady _ _).or (entPdo_steady _ _ _) x hx _ _ _ h
  next => exact h

theorem Forward.nmtResetComm (h : Forward s0 s) : Forward s0 (nmtResetComm s) := by
  unfold Machine.nmtResetComm
  exact .ite (.useRates (.modNet (.each h.canRestart.defaultComm fun _ _ h' => h'.restoreComm))) h

theorem Forward.nmtCommand {v : Nat} (h : Forward s0 s) : Forward s0 (nmtCommand v s) := by
  unfold Machine.nmtCommand
  split
  · exact h.nmtStart
  · exact h.nmtStop
  · exact h.nmtPreOp
  · exact h.nmtReset
  · exact h.nmtResetComm
  · exact h

theorem Forward.putSource {v : Nat} (h : Forward s0 s) : Forward s0 (putSource v s) := by
  unfold Machine.putSource
  exact .ite h h.set.refLost

theorem Forward.putSensor {v : Nat} (h : Forward s0 s) : Forward s0 (putSensor v s) := by
  unfold Machine.putSensor
  exact .unless h.set fun h' => h'.newSensor

theorem Forward.writeCoefs {bank k : Nat} {b : List Byte} (h : Forward s0 s) : Forward s0 (writeCoefs bank k b s) := by
  unfold Machine.writeCoefs
  exact .each h fun _ _ h' => h'.memWrite

theorem Forward.putRecSelect {v : Nat} (h : Forward s0 s) : Forward s0 (putRecSelect v s) := by
  unfold Machine.putRecSelect
  exact .ite h.set.selectRecord h.selectRecord

theorem Forward.putModel {t : Nat} {b : List Byte} (h : Forward s0 s) : Forward s0 (putModel t b s) := by
  unfold Machine.putModel
  exact .unless h.refuse fun h' => .each h fun _ _ h'' => h''.writeWord

theorem Forward.storeConfig (h : Forward s0 s) : Forward s0 (storeConfig s) := h.of_core rfl
theorem Forward.eraseConfig (h : Forward s0 s) : Forward s0 (eraseConfig s) := h.of_core rfl

theorem Forward.readTouch {idx sub : Nat} (h : Forward s0 s) : Forward s0 (readTouch idx sub s) := by
  unfold Machine.readTouch
  exact .ite h.readEffect h

theorem Forward.readEntry {idx sub : Nat} (h : Forward s0 s) : Forward s0 (readEntry idx sub s).2.2 := by
  unfold Machine.readEntry
  split
  · exact h
  · split
    · exact h
    · split
      · exact h
      · exact h.readTouch

@[simp] theorem woNum_put (n : Nat) (ok : Nat → Bool) (put : Nat → State → State) (b : List Byte) (s : State) :
    (woNum n ok put).put b s = put (leVal b) s := rfl
@[simp] theorem roWord_put (a : Nat) (b : List Byte) (s : State) : (roWord a).put b s = s := rfl
@[simp] theorem roField_put (n : Nat) (f : Fld) (b : List Byte) (s : State) : (roField n f).put b s = s := rfl
@[simp] theorem roDom_put (get : State → List Byte) (b : List Byte) (s : State) : (roDom get).put b s = s := rfl
@[simp] theorem woDom_put (n : Option Nat) (put : List Byte → State → State) (b : List Byte) (s : State) : (woDom n put).put b s = put b s := rfl
@[simp] theorem strEnt_put (f : Fld) (b : List Byte) (s : State) : (strEnt f).put b s = s.set f (leVal b) := rfl
@[simp] theorem fieldEnt_put (n : Nat) (acc : ObjAcc) (f : Fld) (ok : Nat → Bool) (b : List Byte) (s : State) :
    (fieldEnt n acc f ok).put b s = putField f (leVal b) s := rfl
@[simp] theorem wordEnt_put (acc : ObjAcc) (a : Nat) (ok : Nat → Bool) (b : List Byte) (s : State) :
    (wordEnt acc a ok).put b s = writeWord false a (leVal b) s := rfl
@[simp] theorem tokenDom_put (acc : ObjAcc) (only : Bool) (cmd : Nat) (get : State → List Byte) (b : List Byte) (s : State) :
    (tokenDom acc only cmd get).put b s = writeToken cmd none b s := rfl
@[simp] theorem coefEnt_put (bank k : Nat) (b : List Byte) (s : State) : (coefEnt bank k).put b s = writeCoefs bank k b s := rfl

theorem entNode_steady (idx sub : Nat) : EntrySteady (entNode idx sub) := by
  unfold entNode
  split <;> simp +contextual [Entry.Steady, noPut, Forward.ite, Forward.set, Forward.refuse, Forward.setRunRequest, Forward.nmtCommand,
      Forward.hostReset,
    Forward.putField, Forward.writeToken]

theorem entTime_steady (idx sub : Nat) : EntrySteady (entTime idx sub) := by
  unfold entTime
  split <;> (try refine .ite ?_ entrySteady_none) <;> simp +contextual [Entry.Steady, Forward.set, Forward.putSource, Forward.putSensor,
      Forward.writeLabel,
    Forward.adoptEpoch, Forward.modTs]

theorem entLane_steady (n sub : Nat) : EntrySteady (entLane n sub) := by
  unfold entLane
  split <;> simp +contextual [Entry.Steady, Forward.putField, Forward.descFetch, Forward.startParam]

theorem entMod_steady (sub : Nat) : EntrySteady (entMod sub) := by
  unfold entMod
  dsimp only
  split <;> (try refine .ite ?_ (.ite ?_ (.ite ?_ entrySteady_none))) <;>
    simp +contextual [Entry.Steady, Forward.putField, Forward.commitGroups, Forward.writeWord, Forward.tripClr]

theorem entGate_steady (sub : Nat) : EntrySteady (entGate sub) := by
  unfold entGate
  split <;> (try refine .ite ?_ entrySteady_none) <;> simp +contextual [Entry.Steady, Forward.putField, Forward.writeWord, Forward.clearCell]

theorem entBal_steady (sub : Nat) : EntrySteady (entBal sub) := by
  unfold entBal
  dsimp only
  split <;> (try refine .ite ?_ (.ite ?_ (.ite ?_ entrySteady_none))) <;> simp +contextual [Entry.Steady, Forward.putField, Forward.handbackGo,
    Forward.insertCell, Forward.parkCell, Forward.writeWord, Forward.writeMembers]

theorem entCtx_steady (k sub : Nat) : EntrySteady (entCtx k sub) := by
  unfold entCtx
  dsimp only
  split <;> (try refine .ite ?_ (.ite ?_ (.ite ?_ entrySteady_none))) <;> simp +contextual [Entry.Steady, Forward.ite, Forward.writeWord,
      Forward.restart,
    Forward.trigger, Forward.bankReq, Forward.writeFreeze, Forward.writeCoefs]

theorem entMet_steady (sub : Nat) : EntrySteady (entMet sub) := by
  unfold entMet
  split <;> (try refine .ite ?_ (.ite ?_ entrySteady_none)) <;> simp +contextual [Entry.Steady, Forward.writeWord, Forward.set]

theorem entWave_steady (sub : Nat) : EntrySteady (entWave sub) := by
  unfold entWave
  split <;> (try refine .ite ?_ (.ite ?_ (.ite ?_ (.ite ?_ entrySteady_none)))) <;> simp +contextual [Entry.Steady, Forward.ite, Forward.writeWord,
    Forward.putField, Forward.wfArm, Forward.wfStopCapture, Forward.wfStart, Forward.selectRecordWf]

theorem entSpine_steady (sub : Nat) : EntrySteady (entSpine sub) := by
  unfold entSpine
  dsimp only
  split <;> (try refine .ite ?_ (.ite ?_ (.ite ?_ (.ite ?_ entrySteady_none)))) <;> simp +contextual [Entry.Steady, Forward.putField]

theorem entColl_steady (sub : Nat) : EntrySteady (entColl sub) := by
  unfold entColl
  dsimp only
  split <;> (try refine .ite ?_ (.ite ?_ (.ite ?_ entrySteady_none))) <;> simp +contextual [Entry.Steady, Forward.writeWord, Forward.writeHeld,
    Forward.writeLost, Forward.unlatch, Forward.writeDrive]

theorem entRec_steady (sub : Nat) : EntrySteady (entRec sub) := by
  unfold entRec
  split <;> (try refine .ite ?_ (.ite ?_ entrySteady_none)) <;> simp +contextual [Entry.Steady, Forward.set, Forward.writeWord, Forward.putRecSelect,
    Forward.importSlot, Forward.putModel]

theorem entTherm_steady (sub : Nat) : EntrySteady (entTherm sub) := by
  unfold entTherm
  split <;> (try refine .ite ?_ entrySteady_none) <;> simp +contextual [Entry.Steady, Forward.putField, Forward.writeWord, Forward.clearPeak]

theorem entSec_steady (sub : Nat) : EntrySteady (entSec sub) := by
  unfold entSec
  split <;> (try refine .ite ?_ entrySteady_none) <;> simp +contextual [Entry.Steady, Forward.writeFirmware, Forward.tryFirmware, Forward.writeImage,
    Forward.advanceCtr, Forward.writeToken, Forward.writeNonce]

theorem entRecord_steady (idx sub : Nat) : EntrySteady (entRecord idx sub) := by
  unfold entRecord
  refine .ite (entNode_steady _ _) (.ite (entTime_steady _ _) (.ite (entLane_steady _ _) (.ite ?_ (entCtx_steady _ _))))
  split
  · exact entMod_steady sub
  · exact entGate_steady sub
  · exact entBal_steady sub
  · exact entMet_steady sub
  · exact entWave_steady sub
  · exact entSpine_steady sub
  · exact entColl_steady sub
  · exact entRec_steady sub
  · exact entTherm_steady sub
  · exact entSec_steady sub
  · exact .ite (entrySteady_some.2 fun _ _ _ h => h.writeWord) entrySteady_none

theorem entryOf_steady (idx sub : Nat) : EntrySteady (entryOf idx sub) := by
  unfold entryOf entStandard
  refine .ite (.ite ?_ (.ite ?_ ((entStd_steady _ _).or (entPdo_steady _ _ _)))) (.ite ?_ (entRecord_steady _ _))
  · exact entrySteady_some.2 fun _ _ _ h => h.storeConfig
  · exact entrySteady_some.2 fun _ _ _ h => h.eraseConfig
  · cases highest idx <;> simp [Entry.Steady]

theorem lookup_steady {idx sub : Nat} {e : Entry} (he : s.lookup idx sub = .ok e) : e.Steady := by
  unfold State.lookup at he
  split at he
  · cases he
  · split at he
    next e' h => cases he; exact entryOf_steady idx sub _ h
    next => cases he

theorem Forward.writeEntry {idx sub : Nat} {b : List Byte} (h : Forward s0 s) : Forward s0 (writeEntry idx sub b s).2 := by
  unfold Machine.writeEntry
  split
  · exact h
  next e he =>
    have hput := lookup_steady he _ _ b h
    exact .ite_snd h (.ite_snd hput (.ite_snd hput hput))

/-! ### Network -/

theorem Forward.modSpine {f : Spine → Spine} (h : Forward s0 s) : Forward s0 (s.modSpine f) := h.of_core rfl

theorem Forward.higherWrites {client idx sub : Nat} {b : List Byte} {wo : Bool} (h : Forward s0 s) : Forward s0 (higherWrites client idx sub b wo s)
    := by
  unfold Machine.higherWrites
  exact .ite h (.modCyc (.each h fun _ _ h' => h'.writeEntry))

theorem Forward.serveWrite {client idx sub : Nat} {b : List Byte} (h : Forward s0 s) : Forward s0 (serveWrite client idx sub b s) := by
  unfold Machine.serveWrite
  split
  · exact h.answerTo
  next e he =>
    refine .ite h.answerTo ?_
    split
    · exact h.writeToken
    · exact .ite h.writeFirmware (.ite (lookup_steady he _ _ b h.answerTo) h.writeEntry.higherWrites.answerTo)

theorem Forward.serve {client idx sub : Nat} {data : Option (List Byte)} (h : Forward s0 s) : Forward s0 (serve client idx sub data s) := by
  unfold Machine.serve
  split
  · exact h.serveWrite
  · exact h.readEntry.answerTo

theorem Forward.setOut {p : Nat} {l : List (Nat × UsdoRequest)} (h : Forward s0 s) : Forward s0 (setOut p l s) := h.of_core rfl
theorem Forward.setQueue {p : Nat} {l : List (Nat × UsdoRequest)} (h : Forward s0 s) : Forward s0 (setQueue p l s) := h.of_core rfl

theorem Forward.sendMgmt {typ dest : Nat} {payload : List Byte} (h : Forward s0 s) : Forward s0 (sendMgmt typ dest payload s) := by
  unfold Machine.sendMgmt
  exact h.sendTo.report

theorem Forward.sendParts {p num idx sub wr k : Nat} {b : List Byte} (h : Forward s0 s) : Forward s0 (sendParts p num idx sub wr k b s) := by
  induction k generalizing s b with
  | zero => exact h
  | succ k ih => exact .ite h.sendMgmt (ih h.sendMgmt)

theorem Forward.sendRequest {p : Nat} {q : Nat × UsdoRequest} (h : Forward s0 s) : Forward s0 (sendRequest p q s) := by
  unfold Machine.sendRequest
  exact h.sendParts

theorem Forward.releaseQueue {k p : Nat} (h : Forward s0 s) : Forward s0 (releaseQueue k p s) := by
  induction k generalizing s with
  | zero => exact h
  | succ k ih =>
    unfold Machine.releaseQueue
    split
    · exact h
    · exact .ite h (ih h.setQueue.setOut.sendRequest)

theorem Forward.answerInOrder {k p : Nat} (h : Forward s0 s) : Forward s0 (answerInOrder k p s) := by
  induction k generalizing s with
  | zero => exact h
  | succ k ih =>
    unfold Machine.answerInOrder
    split
    · exact h
    · split
      · exact h
      · exact ih h.setOut.modSpine.answerTo

theorem Forward.advance {p : Nat} (h : Forward s0 s) : Forward s0 (advance p s) := by
  unfold Machine.advance
  exact h.answerInOrder.releaseQueue

theorem Forward.forward {r : UsdoRequest} (h : Forward s0 s) : Forward s0 (forward r s) := by
  unfold Machine.forward
  exact .ite h.answerTo h.modSpine.setQueue.releaseQueue

theorem Forward.usdo {r : UsdoRequest} (h : Forward s0 s) : Forward s0 (usdo r s) := by
  unfold Machine.usdo
  exact .ite h (.ite h.raise.answerTo (.ite (.ite h.serve h) (.ite (.ite h.serve h.forward) h.answerTo)))

theorem Forward.gather {src : Nat} {last : Bool} {b : List Byte} (h : Forward s0 s) : Forward s0 (gather src last b s).2 := by
  unfold Machine.gather
  dsimp only
  exact h.modSpine

theorem Forward.requestMessage {i : Nat} {m : List Byte} (h : Forward s0 s) : Forward s0 (requestMessage i m s) := by
  unfold Machine.requestMessage
  exact .ite h (.unless h.dropBad fun h' => .unless h.relay fun h'' => .when h.gather fun h''' => h'''.serve)

theorem Forward.responseMessage {i : Nat} {m : List Byte} (h : Forward s0 s) : Forward s0 (responseMessage i m s) := by
  unfold Machine.responseMessage
  exact .ite h (.unless h.dropBad fun h' => .unless h.relay fun h'' => .when h.gather fun h''' => h'''.modSpine.advance)

theorem Forward.fwdTimeout {p : Nat} (h : Forward s0 s) : Forward s0 (fwdTimeout p s) := by
  unfold Machine.fwdTimeout
  split
  · exact h
  · exact h.inc.raise.setOut.setQueue.modSpine.answerTo.advance

theorem Forward.recordMessage {i : Nat} {m : List Byte} (h : Forward s0 s) : Forward s0 (recordMessage i m s) := by
  unfold Machine.recordMessage
  exact .ite h (.ite h.dropBad (.ite h.relay (.ite h.postEmcy.report h)))

theorem Forward.sendEmcy (h : Forward s0 s) : Forward s0 (sendEmcy s) := by
  unfold Machine.sendEmcy
  split
  · exact h
  · exact .ite h h.modNet.canSend

theorem Forward.applyRpdo {l : List (Nat × Nat × Nat)} {b : List Byte} (h : Forward s0 s) : Forward s0 (applyRpdo l b s) := by
  induction l generalizing s b with
  | nil => exact h
  | cons e l ih => exact ih h.writeEntry

theorem Forward.takeRpdo {j : Nat} {b : List Byte} (h : Forward s0 s) : Forward s0 (takeRpdo j b s) := by
  unfold Machine.takeRpdo
  exact .ite h (.ite h.modNet h.applyRpdo)

theorem Forward.tpdoBytes {l : List (Nat × Nat × Nat)} (h : Forward s0 s) : Forward s0 (tpdoBytes l s).2 := by
  induction l generalizing s with
  | nil => exact h
  | cons e l ih => exact ih h.readEntry

theorem Forward.sendTpdo {j : Nat} (h : Forward s0 s) : Forward s0 (sendTpdo j s) := by
  unfold Machine.sendTpdo
  exact .ite h h.tpdoBytes.canSend

theorem Forward.countSync {j : Nat} (h : Forward s0 s) : Forward s0 (countSync j s) := by
  unfold Machine.countSync
  exact .ite (.ite h.modNet.sendTpdo h.modNet) h

theorem Forward.takeSync (h : Forward s0 s) : Forward s0 (takeSync s) := by
  unfold Machine.takeSync
  refine .ite ?_ h
  refine .each ?_ fun _ _ h' => h'.countSync
  refine .each h fun _ _ h' => ?_
  split
  · exact h'.modNet.applyRpdo
  · exact h'

theorem Forward.sendHeartbeat (h : Forward s0 s) : Forward s0 (sendHeartbeat s) := by
  unfold Machine.sendHeartbeat
  exact .ite h.canSend h

theorem Forward.heardFrom {node : Nat} (h : Forward s0 s) : Forward s0 (heardFrom node s) := by
  unfold Machine.heardFrom
  split
  · exact .ite h.modNet h
  · exact h

theorem Forward.heartbeatLost {node : Nat} (h : Forward s0 s) : Forward s0 (heartbeatLost node s) := by
  unfold Machine.heartbeatLost
  split
  · exact .ite h.modNet.raise h
  · exact h

theorem Forward.busOff (h : Forward s0 s) : Forward s0 (busOff s) := by
  unfold Machine.busOff
  exact .ite h.set.set.inc.frameLost.raise h

theorem Forward.errorCounts {tec rcv : Nat} (h : Forward s0 s) : Forward s0 (errorCounts tec rcv s) := by
  unfold Machine.errorCounts
  exact .ite h (.when h.set.set.set fun h' => h'.raise)

theorem Forward.writePass {l : List (Nat × List Byte)} (h : Forward s0 s) : Forward s0 (writePass l s).2 := by
  unfold Machine.writePass
  exact .foldl_snd h fun _ _ h' => .ite_snd h'.writeEntry h'

theorem Forward.applyConfig (h : Forward s0 s) : Forward s0 (applyConfig s) := by
  unfold Machine.applyConfig
  exact .unless h.raise fun h' => .goto (.each h.goto.writePass.writePass.writePass fun _ _ h'' => h''.writeEntry.raise)

theorem Forward.loadStored (h : Forward s0 s) : Forward s0 (loadStored s) := by
  unfold Machine.loadStored
  exact .ite h.set.loadImage (.ite h.set.loadImage h.raise)

theorem Forward.reachConfigure (h : Forward s0 s) : Forward s0 (reachConfigure s) := by
  unfold Machine.reachConfigure
  exact .ite (.when (.each (.each h.applyConfig.loadStored.enterConfigure.set.useRates fun _ _ h' => h'.bringUp) fun _ _ h' => h'.spineBringUp)
      fun h' => h'.startSucceeded) h

/-! ### Tick -/

theorem Forward.countTsc (h : Forward s0 s) : Forward s0 (countTsc s) := by
  unfold Machine.countTsc
  exact .ite h h.update

theorem Forward.requestSteps {d : Int} (h : Forward s0 s) : Forward s0 (requestSteps d s) := by
  unfold Machine.requestSteps
  exact h.set

theorem Forward.gatherSteps (h : Forward s0 s) : Forward s0 (gatherSteps s) := by
  unfold Machine.gatherSteps
  exact .ite h.update h.update.requestSteps

theorem Forward.applyStep (h : Forward s0 s) : Forward s0 (applyStep s) := by
  unfold Machine.applyStep
  exact .ite h h.set.set

theorem Forward.stepDither {p : Nat} (h : Forward s0 s) : Forward s0 (stepDither p s) := by
  unfold Machine.stepDither
  exact .ite h.modClk h

theorem Forward.endOpsecSave (h : Forward s0 s) : Forward s0 (endOpsecSave s) := by
  unfold Machine.endOpsecSave
  split
  · exact .ite h.endOpsec h
  · exact h

theorem Forward.tick (h : Forward s0 s) : Forward s0 (tick s) := by
  unfold Machine.tick
  exact .endOpsecSave (.update (.dropReady (.when (.when (.countTsc (.ite h.gatherSteps h)) fun h' => .each h' fun _ _ h'' => h''.stepDither)
      fun h' => h'.applyStep)))

end Sys2Proof.Machine
end
section
/-!
PROOFS. Every command, and every step.
-/
namespace Sys2Proof.Machine

variable {s0 s t : State}

/-! ### Bodies of instructions: the state changes only where a free value is drawn. -/

theorem bodyLdc_steady (k w : Nat) : (bodyLdc k w).Steady := fun _ _ _ h => by unfold bodyLdc; split <;> exact h
theorem bodyLds_steady (k w : Nat) : (bodyLds k w).Steady := fun _ _ _ h => by unfold bodyLds; split <;> exact h
theorem bodySts_steady (k w : Nat) : (bodySts k w).Steady := fun _ _ _ h => by unfold bodySts; split <;> exact h
theorem bodyStore_steady (fld w : Nat) : (bodyStore fld w).Steady := fun _ _ _ h => by unfold bodyStore; split <;> exact h
theorem bodyLut_steady (k w : Nat) : (bodyLut k w).Steady := fun _ _ _ h => by unfold bodyLut; exact .ite_fst h h

theorem bodyLdin_steady (w : Nat) : (bodyLdin w).Steady := fun _ _ _ h => by
  unfold bodyLdin
  dsimp only
  split
  · exact h
  · exact .ite_fst h (.ite_fst h.draw h)

theorem bodySort_steady (w : Nat) : (bodySort w).Steady := fun _ _ _ h => by
  unfold bodySort
  dsimp only
  split
  · exact h
  · exact h
  · exact h
  · dsimp only
    split
    · exact h
    · exact h.draw

/-! ### Every command -/

/-- An outcome whose next state, where there is one, lies forward. -/
def ForwardO (s0 : State) (o : Host.Outcome State Fault Refusal) : Prop := ∀ t, o = .next t → Forward s0 t

theorem ForwardO.next (h : Forward s0 s) : ForwardO s0 (.next s) := fun _ e => by cases e; exact h

theorem Forward.execSort {k : Fin 128} (h : Forward s0 s) : ForwardO s0 (execSort k s) := by
  unfold Machine.execSort
  split
  · exact .next h
  · exact .next (.ite h.setRun (h.issue bodySort_steady))

theorem Forward.execLoop {k : Fin 128} (h : Forward s0 s) : ForwardO s0 (execLoop k s) := by
  unfold Machine.execLoop
  split
  · exact .next h
  · exact .next (.ite (.ite h.draw.setRun h.setRun) h)

/-- Every command but the end of a token's check goes forward. -/
theorem exec_forward (c : Instr) (hc : c ≠ .tokenCheckDone) (h : Forward s0 s) : ForwardO s0 (exec c s) := by
  cases c with
  | vkaFirstApplied => exact .next h.vkaRises
  | vkaLost => exact .next h.vkaFalls
  | insertion => exact .next h.inserted
  | nresetRelease => exact .next h.nresetRises
  | automaticRestart => exact .next (.ite h.modPw h)
  | leaveStandby _ => exact .next h.leaveStandby
  | railGoodTimeout => exact .next (.ite h.latch.takeReset h)
  | enterColdHold _ => exact .next (.ite h.modPw.enterColdHold h)
  | pgoodLost _ => exact .next h.railLost
  | pgoodLossPwrenDrop => exact .next (.ite h.takeReset h)
  | nresetAsserted => exact .next h.nresetFalls
  | nresetBlackSetEnd => exact .next (.ite h.takeReset h)
  | boardRemoved => exact .next h.boardRemoved
  | nejectRecognised => exact .next h.eject
  | ejectionPwrenDrop => exact .next (.ite h.takeReset h)
  | internalResetTaken => exact .next (.ite h h.takeReset)
  | selftestDone => exact .next (.ite h.modPw h)
  | selfTestTimeout => exact .next (.ite h.requestReset h)
  | slateHold => exact .next (.ite h.holdSlate h)
  | softwareResetRequest => exact .next h.hostReset
  | powerCycleRequest => exact .next h.hostReset
  | rcTrimReady => exact .next (.ite h.modCh h)
  | referenceWindowDone _ => exact .next h.windowDone
  | pllAStart => exact .next (.ite h.modCh h)
  | pllLockDeclared _ _ _ => exact .next h.lockDeclared
  | coldHoldTimeout => exact .next (.ite h.latch.takeReset h)
  | ckrefTrip => exact .next h.ckrefTrip
  | pllALockLost _ => exact .next h.pllALost
  | pllCLockLost => exact .next h.pllCLost
  | pllSLockLost => exact .next h.pllSLost
  | pllTLockLost => exact .next h.pllTLost
  | pllRelockAttempt _ => exact .next h.relockAttempt
  | pllTReturn => exact .next h.pllTReturn
  | clockMonitorFailed => exact .next (.ite h.modClk.raise h)
  | muxSelectWrite _ _ => exact .next h.selectMux
  | muxSwitchComplete _ => exact .next h.switchDone
  | muxHang _ => exact .next h.muxHang
  | muxForce _ => exact .next h.forceMux
  | consumerIdleWrite _ => exact .next h.consumerIdle
  | spreadEnableWrite _ => exact .next h.writeSpread
  | spreadRampDone => exact .next h.rampDone
  | tscLoRead _ => exact .next h.readTscLo
  | operatingSecondsSave => exact .next h.startOpsec
  | ptpMessageRx _ => exact .next h.takePtp
  | pdelayReqSend => exact .next h.sendPdelay
  | ppsEdge _ => exact .next h.ppsEdge
  | ppsLabelWrite _ => exact .next h.writeLabel
  | referenceMissing => exact .next h.refMissing
  | taiOffsetChange => exact .next h.applyTai
  | slewStep => exact .next h.slewStep
  | holdoverLearn => exact .next h.holdoverSecond
  | temperatureTableClear _ => exact .next (.ite h.modTs h)
  | groupTimeSend => exact .next h.sendGroupTime
  | groupTimeMessage _ _ => exact .next h.groupMessage
  | groupLost => exact .next h.groupLost
  | groupOffsetSet => exact .next h.setGroupOffset
  | adoptGroupEpoch _ => exact .next (.ite h.adoptEpoch h)
  | delayExchangeRequest _ => exact .next h.delayRequest
  | delayExchangeBlock _ _ => exact .next h.delayReceived
  | delayExchangeResponse _ => exact .next h.delayRespond
  | laneEnable _ => exact .next (.ite h.set.bringUp h)
  | laneDisable _ => exact .next (.ite h.set.bringUp.ledgerRemove h)
  | laneSignalDetect _ => exact .next (.ite h.set.modLane h)
  | laneCdrLock _ => exact .next (.ite h.set h)
  | trainingSetRx _ _ _ _ => exact .next h.trainingSet
  | attemptTimeout _ => exact .next (.ite h.failAttempt h)
  | backoffEnd _ => exact .next (.ite h.startAttempt h)
  | absentRetry _ => exact .next (.ite h.startAttempt.modLane h)
  | attemptSignalLost _ => exact .next (.ite (.ite h.failAttempt h.rxOnlyLost) (.ite h.failSpine h))
  | retrain _ => exact .next (.ite h.startAttempt h)
  | laneLost _ => exact .next h.loseLane
  | quadMapModeWrite _ _ => exact .next h.writeMapMode
  | spareSelWrite _ _ => exact .next h.writeSpare
  | spareCalibrated _ => exact .next h.spareDone
  | laneTestStart _ _ => exact .next h.writeTest
  | laneTestStop _ => exact .next h.stopTest
  | injOne _ => exact .next h.injectOne
  | prbsLock _ => exact .next h.testBits
  | prbsLoss _ _ _ => exact .next h.testBits
  | prbsBitsLoRead _ _ _ _ => exact .next h.testBits.readPrbsLo
  | laneCntClr _ => exact .next (.ite h.clearLaneCounts h.clearSpineCounts)
  | downstreamFrameSend _ => exact .next h.sendFrame
  | edgeCutoff => exact .next (.each h fun _ _ h' => h'.cutoffLane)
  | edgeHandover _ => exact .next h.handOver
  | upstreamFrameRx _ _ _ _ _ => exact .next (.upstreamFrame (.ite h.modLink h))
  | upstreamFrameMissing _ => exact .next h.badFrame
  | laneDelayUpdate _ => exact .next h.delayUpdate
  | laneDelayApply _ => exact .next h.delayApply
  | urgentSetSend _ => exact .next h.sendUrgent
  | paramWrite _ _ _ => exact .next h.startParam
  | paramRead _ _ => exact .next h.startParam
  | paramTimeout _ => exact .next (.ite h.set.raise h)
  | descFetch _ => exact .next h.descFetch
  | descriptorVerified _ => exact .next h.descVerified
  | descriptorTimeout _ => exact .next (.ite h.failIdentity h)
  | linkCntClr _ => exact .next h.clearLinkCounts
  | carrierEnable _ => exact .next h.enableCar
  | carrierDisable _ => exact .next h.disableCar
  | carrierEvent _ _ => exact .next h.carrierEvent
  | periodOpening _ => exact .next h.openPeriod
  | groupCommitWrite _ => exact .next h.commitGroups
  | tripActive _ => exact .next h.tripActive
  | tripInactive _ => exact .next h.set
  | tripRearm _ => exact .next (.ite h h.set)
  | tripClr _ => exact .next h.tripClr
  | tripClearComplete _ => exact .next h.tripCleared
  | scarletSetRx _ _ => exact .next h.scarletRx
  | partnerDelayExpiry _ => exact .next (.ite h.isolateBlack h)
  | cellClear _ => exact .next h.clearCell
  | clearTimeout _ => exact .next (.ite h.isolate h)
  | reserveOpen _ => exact .next h.reserveOpen
  | bypassTimeout _ => exact .next h.bypassTimeout
  | insert _ => exact .next h.insertCell
  | park _ => exact .next h.parkCell
  | sortComplete _ => exact .next h.sortComplete
  | heartbeatSend => exact .next h.heartbeatSend
  | heartbeatRx _ => exact .next h.heartbeatRx
  | heartbeatWindowClose => exact .next h.windowClose
  | aloneDecision => exact .next (.ite h.decideRole h)
  | cellReclaim _ => exact .next h.cellReclaim
  | reclaimRequest => exact .next h.reclaimRequest
  | handbackGo => exact .next h.handbackGo
  | duplexReady => exact .next (.ite h.update h)
  | contextTrigger _ => exact .next h.sourceTrigger
  | programRelease _ => exact .next h.release
  | softTrig _ => exact .next h.trigger
  | contextRestart _ => exact .next h.restart
  | contextEnable _ => exact .next h.enableCtx
  | contextDisable _ => exact .next (.ite h.offCtx h)
  | bankSwapRequest _ => exact .next h.requestBank
  | bankARequest _ => exact .next h.requestBank
  | bankBRequest _ => exact .next h.requestBank
  | contextCntClr _ => exact .next h.clearCtxCounts
  | histogramClear _ => exact .next h.clearHist
  | histogramShiftWrite _ _ => exact .next h.clearHist.set
  | coefficientRegionWrite _ _ _ => exact .next h.writeRegion
  | memoryDataWrite _ => exact .next h.memWrite.nextMaddr
  | memoryDataRead => exact .next h.nextMaddr
  | spFreezeWrite _ _ => exact .next h.writeFreeze
  | injectionStart => exact .next h.startInjection
  | injectionStop => exact .next h.endInjection
  | captureArm => exact .next h.armCapture
  | captureStop => exact .next h.set
  | tileParityError _ => exact .next h.tileError
  | nop _ => exact .next (h.issue fun _ => pureBody_steady _)
  | add _ => exact .next h.compute
  | sub _ => exact .next h.compute
  | mul _ => exact .next h.compute
  | fma _ => exact .next h.compute
  | fnma _ => exact .next h.compute
  | min _ => exact .next h.compute
  | max _ => exact .next h.compute
  | clamp _ => exact .next h.compute
  | abs _ => exact .next h.compute
  | neg _ => exact .next h.compute
  | mov _ => exact .next h.compute
  | round _ => exact .next h.compute
  | sel _ => exact .next h.compute
  | movi _ => exact .next h.compute
  | addi _ => exact .next h.compute
  | muli _ => exact .next h.compute
  | rcp _ => exact .next h.compute
  | rsq _ => exact .next h.compute
  | sqrt _ => exact .next h.compute
  | lut _ => exact .next (h.issue (bodyLut_steady _))
  | sincos _ => exact .next (h.issue fun _ => pureBody_steady _)
  | atan2 _ => exact .next h.compute
  | hypot _ => exact .next h.compute
  | rot _ => exact .next (h.issue fun _ => pureBody_steady _)
  | cmplt _ => exact .next h.test
  | cmple _ => exact .next h.test
  | cmpeq _ => exact .next h.test
  | cmplti _ => exact .next h.test
  | plog _ => exact .next h.test
  | ldc _ => exact .next (h.issue (bodyLdc_steady _))
  | lds _ => exact .next (h.issue (bodyLds_steady _))
  | sts _ => exact .next (h.issue (bodySts_steady _))
  | ldin _ => exact .next (h.issue bodyLdin_steady)
  | sort _ => exact h.execSort
  | stl _ => exact .next (h.issue (bodyStore_steady 0))
  | stl2 _ => exact .next (h.issue (bodyStore_steady 1))
  | stm _ => exact .next (h.issue (bodyStore_steady 2))
  | commit _ => exact .next (h.issue fun _ => pureBody_steady _)
  | evt _ => exact .next (h.issue fun _ => pureBody_steady _)
  | loop _ => exact h.execLoop
  | programImageWrite _ => exact .next (.ite h.writeImage h)
  | sdControlOutput _ _ => exact .next h.controlOutput
  | phasorPathOutput _ => exact .next h.pathOutput
  | phasorReport _ => exact .next h.reportInstant
  | dataFrameSend => exact .next h.sendReport
  | phasorBlockRx _ _ => exact .next h.phasorMessage
  | cmdTransmissionOff _ => exact .next (h.command fun _ h' => h'.set)
  | cmdTransmissionOn _ => exact .next (h.command fun _ h' => h'.set)
  | cmdSendHeader _ => exact .next (h.command fun _ h' => h'.reply)
  | cmdSendCfg1 _ => exact .next (h.command fun _ h' => h'.reply)
  | cmdSendCfg2 _ => exact .next (h.command fun _ h' => h'.reply)
  | arpRequest _ => exact .next h.arp
  | egressLinkUp => exact .next h.egressUp
  | egressLinkDown => exact .next h.egressDown
  | wfAlign => exact .next h.wfStart
  | wfChannelAligned _ _ => exact .next h.wfAligned
  | wavefrontCrossing _ _ _ => exact .next h.crossing
  | detectorRearm _ => exact .next h.modWf
  | eventWindowClose =>
    refine .next ?_
    split
    · exact h
    · exact .ite h.modWf.set h.modWf
  | eventRecordComplete => exact .next h.completeRecord
  | wfRecordSelect _ => exact .next h.selectRecordWf
  | wfCaptureArm => exact .next h.wfArm
  | wfCaptureStop => exact .next h.wfStopCapture
  | wfCaptureDone => exact .next h.wfCaptured
  | wfCdataRead => exact .next h.incWrap
  | spineLaneEnable _ _ => exact .next h.enableSpine
  | spineSignalDetect _ => exact .next (.ite h.set h)
  | spineAdapted _ _ => exact .next (.ite h.setBit.set.set h)
  | spineBlockLock _ => exact .next (.ite h.set h)
  | trainingBlockRx _ _ => exact .next h.trainingBlock
  | spineAttemptTimeout _ => exact .next (.ite h.failSpine h)
  | spineBackoffEnd _ => exact .next (.ite h.startSpine h)
  | spineRetry _ => exact .next (.ite h (.ite h.startSpine.modSpl (.ite h.startSpine h)))
  | spineLaneLost _ => exact .next h.loseSpine
  | alignmentMarkerRx _ _ => exact .next h.marker
  | spineRetrain _ => exact .next (.ite h.startSpine h)
  | spineTestStart _ _ => exact .next h.writeSpineTest
  | spineTestStop _ => exact .next h.stopSpineTest
  | enumerationSend => exact .next h.sendEnumeration
  | enumerationRx _ _ => exact .next h.enumeration
  | ringMapRx _ _ => exact .next h.ringMap
  | forwardedRequestRx _ _ => exact .next h.requestMessage
  | forwardedResponseRx _ _ => exact .next h.responseMessage
  | hostRecordRx _ _ => exact .next h.recordMessage
  | forwardTimeout _ => exact .next h.fwdTimeout
  | queuedMessageSend => exact .next h.sendQueued
  | urgentNoticeRx _ _ => exact .next h.noticeReceived
  | urgentNoticeSend => exact .next h.originate
  | faultReport _ => exact .next h.faultReport
  | coalescingWindowClose _ => exact .next h.closeWindow
  | heldClear _ => exact .next h.writeHeld
  | lostClear _ => exact .next h.writeLost
  | nfaultPulseEnd => exact .next h.endPulse
  | nfaultDriveWrite _ => exact .next h.writeDrive
  | forceReport _ => exact .next h.forceReport
  | checkBitInjectionArm _ => exact .next h.writeCbi
  | eccError _ _ _ _ => exact .next h.eccError
  | injectionMiss => exact .next h.missInjection
  | automaticRecovery _ => exact .next h.recover
  | recoveryUnlatch => exact .next h.unlatch
  | groupFirstCauseClear => exact .next h.clearGroupFirst
  | thermalSample _ => exact .next h.thermalSample
  | shutdownPwrenDrop => exact .next (.ite h.shutdownEnds h)
  | peakClear => exact .next h.set.set
  | recordWriteStart => exact .next h.startRecord
  | recordWriteComplete => exact .next (.ite h h.endRecord)
  | repeatFlush => exact .next h.flushAll
  | periodicRecords => exact .next h.periodic
  | recordDataLoRead _ => exact .next h.readDataLo
  | recordDataHiRead _ => exact .next h.set
  | recordSelect _ => exact .next (.ite h h.selectRecord)
  | recorderBootScan => exact .next (.ite h.bootScan h)
  | ledgerSample _ => exact .next h.ledgerSample
  | ledgerSecond => exact .next (.dieSecond (.each h fun _ _ h' => h'.ledgerSecond))
  | ledgerSave _ => exact .next h.startSave
  | ledgerChunkWrite => exact .next h.saveChunk
  | historyImport _ => exact .next h.importSlot
  | bistComplete _ => exact .next h.bistDone
  | repairApplied => exact .next h.applyRepair
  | firmwareVerified _ => exact .next h.verifyFirmware
  | configureReached => exact .next h.reachConfigure
  | authenticatedClear _ => exact .next (.ite h.writeToken h)
  | enrolOwnerKey _ => exact .next (.ite h.writeToken h)
  | revokeOwnerKey _ => exact .next (.ite h.writeToken h)
  | makerKeyList _ => exact .next (.ite h.writeToken h)
  | debugUnlock _ => exact .next (.ite h.writeToken h)
  | tokenCheckDone => exact absurd rfl hc
  | authClearReset => exact .next (.ite h.requestReset h)
  | firmwareImageWrite _ => exact .next h.writeFirmware
  | firmwareCheckDone => exact .next h.firmwareChecked
  | tryNewFirmware _ => exact .next h.tryFirmware
  | advanceCounter _ => exact .next h.advanceCtr
  | counterProgrammed => exact .next h.counterDone
  | attestationNonce _ => exact .next h.writeNonce
  | attestationReportDone => exact .next h.reportDone
  | debugLevelZero => exact .next h.set
  | nmtStart => exact .next (.ite h.nmtStart h)
  | nmtStop => exact .next (.ite h.nmtStop h)
  | nmtEnterPreOperational => exact .next (.ite h.nmtPreOp h)
  | nmtResetNode => exact .next (.ite h.nmtReset h)
  | nmtResetCommunication => exact .next (.ite h.nmtResetComm h)
  | runRequestWrite _ => exact .next (.ite h.setRunRequest h)
  | enterRun => exact .next (.ite h.enterRunState h)
  | usdoRequest _ => exact .next h.usdo
  | storeParameters _ => exact .next (.ite h.storeConfig h)
  | restoreDefaults _ => exact .next (.ite h.eraseConfig h)
  | syncRx => exact .next h.takeSync
  | rpdoRx _ _ => exact .next h.takeRpdo
  | tpdoEventTimer _ => exact .next (.ite h.sendTpdo h)
  | nmtHeartbeatSend => exact .next h.sendHeartbeat
  | hbLost _ => exact .next h.heartbeatLost
  | emcySend => exact .next h.sendEmcy
  | emcySent => exact .next (.ite h.modNet h)
  | errorFieldClear _ => exact .next (.ite h.modNet h)
  | busOff => exact .next h.busOff
  | busOffRecovery => exact .next (.ite h.canRestart h)
  | registerWrite _ _ _ => exact .next h.writeWord
  | errorPassive _ _ => exact .next h.errorCounts
  | consumerHeartbeatRx _ _ => exact .next h.heardFrom
  | testPortInstruction _ => exact .next h.modPw
  | codeError _ =>
    refine .next ?_
    split
    · exact h.groupRx
    · exact h.blockRx
  | prsntLow => exact .next h.prsntLow

/-! ### Tokens, R507 and R509 -/

/-- What a step leaves: the queue, one move of the OTP, and the form of the registers. -/
structure Moves (s t : State) : Prop where
  pending : t.pending = s.pending
  otp : OtpKept s t
  rising : s.RegsRising → t.RegsRising

theorem Forward.moves (h : Forward s t) : Moves s t :=
  ⟨h.pending, ⟨fun _ => by rw [h.slots]; exact .inl rfl, h.counters, fun k => h.debugOff.trans k⟩, h.rising⟩

theorem Moves.forward {a b c : State} (h : Moves a b) (k : Forward b c) : Moves a c := by
  obtain ⟨hslots, hcounters, hdebug⟩ := h.otp
  exact ⟨k.pending.trans h.pending, ⟨fun i => by rw [k.slots]; exact hslots i, fun i => (hcounters i).trans (k.counters i),
    fun d => k.debugOff.trans (hdebug d)⟩, fun r => k.rising (h.rising r)⟩

/-- A key slot moves as R507 allows. -/
theorem Forward.moveSlot {f : Sec → Sec} {i v : Nat} (h : Forward s t) (hv : SlotMoves (s.slotState i) v)
    (hf : (f t.sec).slotState = Tab.set 0 t.sec.slotState i v)
    (e : ((f t.sec).counters, (f t.sec).debugOff) = (t.sec.counters, t.sec.debugOff) := by rfl) : Moves s (t.modSec f) := by
  obtain ⟨hc, hd⟩ := Prod.mk.inj e
  refine ⟨h.pending, ⟨fun k => ?_, fun k => ?_, fun k => ?_⟩, h.rising⟩
  · show SlotMoves _ (Tab.get 0 (f t.sec).slotState k)
    rw [hf, Tab.get_set, h.slots]
    split
    next hi => subst hi; exact hv
    next => exact .inl rfl
  · exact (h.counters k).trans (congrArg (Tab.get 0 · k) hc).ge
  · exact hd.trans (h.debugOff.trans k)

/-- Enrolment finds its slot EMPTY and revocation ACTIVE (R507). -/
theorem tokAllowed_slot {b : List Byte} (h : s.tokAllowed b = true) :
    (tokCmd b = 2 → s.slotState (leAt b 128 1) = 0) ∧ (tokCmd b = 3 → s.slotState (leAt b 128 1) = 1) := by
  constructor <;> intro hc <;> simp only [State.tokAllowed, hc, Bool.and_eq_true, beq_iff_eq] at h
  · exact h.2
  · exact h.1.2

/-- A payload that is not empty starts at byte 128. -/
theorem tokPayload_first {b : List Byte} (h : tokLen b ≠ 0) : leAt (tokPayload b) 0 1 = leAt b 128 1 := by
  simp only [leAt, tokPayload, List.drop_zero, List.take_take]
  rw [Nat.min_eq_left (Nat.one_le_iff_ne_zero.2 h)]

theorem tokHeaderOk_len {cmds : List Nat} {b : List Byte} (h : tokHeaderOk cmds b = true) : tokLen b = payloadLen (tokCmd b) := by
  simp only [tokHeaderOk, Bool.and_eq_true, beq_iff_eq] at h
  obtain ⟨⟨⟨⟨⟨_, hlen⟩, _⟩, _⟩, _⟩, _⟩ := h
  exact hlen

/-- A token with code 0 has a good header and is allowed (R510). -/
theorem tokenCode_zero {cmds : List Nat} {b : List Byte} (h : s.tokenCode cmds b = 0) :
    tokHeaderOk cmds b = true ∧ s.tokAllowed b = true := by
  unfold State.tokenCode at h
  split_ifs at h with _ hhead _ _ _ _ hallowed
  exact ⟨by simpa using hhead, by simpa using hallowed⟩

/-- An accepted token moves one slot, or none. -/
theorem applyToken_moves {cmds : List Nat} {b : List Byte} (hc : s.tokenCode cmds b = 0) (h : Forward s t) : Moves s (applyToken b t) := by
  obtain ⟨hhead, hallowed⟩ := tokenCode_zero hc
  obtain ⟨henrol, hrevoke⟩ := tokAllowed_slot hallowed
  have hlen := tokHeaderOk_len hhead
  unfold applyToken
  split
  next => exact h.modSec.moves
  next hcmd =>
    refine h.moveSlot (i := leAt (tokPayload b) 0 1) (v := 1) (.inr (.inl ⟨?_, rfl⟩)) rfl
    rw [tokPayload_first (by simp [hlen, hcmd, payloadLen]), henrol hcmd]
  next hcmd =>
    refine h.moveSlot (i := leAt (tokPayload b) 0 1) (v := 3) (.inr (.inr ⟨?_, rfl⟩)) rfl
    rw [tokPayload_first (by simp [hlen, hcmd, payloadLen]), hrevoke hcmd]
  next => exact h.modSec.moves
  next => exact h.set.raise.moves

theorem tokenChecked_moves (s : State) : Moves s (tokenChecked s) := by
  unfold tokenChecked
  split
  next j rest _ _ =>
    have h := (Forward.refl s).engineEnds.draw.set (f := R.SEC_BOOT.TOKEN_RESULT) (v := s.tokenCode (entryCmds j.cmd) j.bytes)
    dsimp only
    refine Moves.forward ?_ (Forward.refl _).answerTo
    split
    next hc => exact applyToken_moves hc h.modSec
    next => exact h.modSec.refuseToken.moves
  next => exact (Forward.refl s).moves

/-! ### Every step -/

theorem exec_moves {c : Instr} (h : exec c s = .next t) : Moves s t := by
  by_cases hc : c = .tokenCheckDone
  · subst hc
    cases h
    exact tokenChecked_moves s
  · exact (exec_forward c hc (.refl s) t h).moves

/-- A tick, or the front command on the rest of the queue. -/
theorem step_moves (h : step s = .next t) : Moves { s with pending := s.pending.tail } t := by
  unfold step at h
  split at h
  next hp =>
    cases h
    have hs : { s with pending := s.pending.tail } = s := by rw [hp, List.tail_nil, ← hp]
    rw [hs]
    exact (Forward.refl s).tick.moves
  next c rest hp =>
    rw [hp]
    exact exec_moves h

/-- Settles O60: every command goes forward but an accepted token's, which moves one owner key slot (`tokenChecked_moves`). -/
theorem everyStepMovesOtpOneWay : Obligations.EveryStepMovesOtpOneWay := by
  unfold Obligations.EveryStepMovesOtpOneWay
  exact fun s t h => (step_moves h).otp

/-- Settles O58: writes and the filters of a reset keep the keys of the register table rising, in every command (`step_moves`). -/
theorem everyStepKeepsTheRegisterForm : Obligations.EveryStepKeepsTheRegisterForm := by
  unfold Obligations.EveryStepKeepsTheRegisterForm
  exact fun s t hs h => (step_moves h).rising hs

/-- Settles O59: no command touches the rest of the queue (`step_moves`). -/
theorem everyStepKeepsTheQueue : Obligations.EveryStepKeepsTheQueue := by
  unfold Obligations.EveryStepKeepsTheQueue
  exact fun s t h => (step_moves h).pending

end Sys2Proof.Machine
end
section
/-!
PROOFS. The data of a selected slot (18_recorder_ledger.md, R483 and R541), unit by unit.
-/
namespace Sys2Proof.Machine

/-- Bytes spell less than their count of bits holds. -/
theorem leVal_lt (bs : List Byte) : leVal bs < 2 ^ (8 * bs.length) := by
  induction bs with
  | nil => decide
  | cons b bs ih =>
    have hb : b.toNat < 2 ^ 8 := b.isLt
    rw [leVal, List.length_cons, Nat.mul_succ, Nat.pow_add]
    omega

theorem leAt_lt (bs : List Byte) (i n : Nat) : leAt bs i n < 2 ^ (8 * n) :=
  (leVal_lt _).trans_le (Nat.pow_le_pow_right (by decide) (Nat.mul_le_mul_left 8 (List.length_take_le n _)))

theorem State.recUnit_lt (s : State) (i u : Nat) : s.recUnit i u < 2 ^ 64 := leAt_lt ..

theorem execRecordDataLoRead_host (s : State) :
    exec (.recordDataLoRead true) s
      = .next { s with recd := { s.recd with rdataHiHost := s.recUnit (s.get R.REC_RADDR.SLOT) (s.get R.REC_RADDR.UNIT) / 2 ^ 32 } } := rfl

theorem execRecordDataLoRead_firmware (s : State) :
    exec (.recordDataLoRead false) s
      = .next (s.set R.REC_RDATA_HI (s.recUnit (s.get R.REC_RADDR.SLOT) (s.get R.REC_RADDR.UNIT) / 2 ^ 32)) := rfl

theorem exec_recordDataHiRead (h : Bool) (s : State) :
    exec (.recordDataHiRead h) s = .next (s.set R.REC_RADDR.UNIT (s.get R.REC_RADDR.UNIT + 1)) := rfl

/-! ### The two words -/

/-- The words of a data read hold no register field: they are computed. -/
theorem fieldsAt_recRdataLo : fieldsAt 0xF002C = [] := by decide +kernel

theorem State.readWord_recRdataLo (s : State) (h : Bool) :
    s.readWord h 0xF002C = s.recUnit (s.get R.REC_RADDR.SLOT) (s.get R.REC_RADDR.UNIT) % 2 ^ 32 := by
  have hstored : s.stored 0xF002C = 0 := by rw [State.stored, fieldsAt_recRdataLo]; rfl
  have hlatch : latchWord 0xF002C = false := by decide
  rw [State.readWord, hlatch, hstored]
  exact Nat.zero_add _

theorem State.readWord_recRdataHi (s : State) (h : Bool) :
    s.readWord h 0xF0030 = if h then s.recd.rdataHiHost else s.get R.REC_RDATA_HI := by
  have hlatch : latchWord 0xF0030 = true := by decide
  rw [State.readWord, hlatch]
  exact Nat.zero_add _

/-- Settles O39: the high word of a unit fits its latch (`State.recUnit_lt`), and the two words are computed. -/
theorem recordDataIsReadByUnits : Obligations.RecordDataIsReadByUnits := by
  unfold Obligations.RecordDataIsReadByUnits
  refine ⟨?firmware, execRecordDataLoRead_host, ?high, State.readWord_recRdataLo, ?latched⟩
  case firmware =>
    intro s
    refine ⟨_, execRecordDataLoRead_firmware s, ?_, (OnlySets.refl s _).set _ (by simp)⟩
    rw [State.get_set_self]
    exact Nat.mod_eq_of_lt (Nat.div_lt_of_lt_mul (s.recUnit_lt _ _))
  case high => exact fun s h => ⟨_, exec_recordDataHiRead h s, State.get_set_self .., (OnlySets.refl s _).set _ (by simp)⟩
  case latched => exact fun s => ⟨s.readWord_recRdataHi false, s.readWord_recRdataHi true⟩

end Sys2Proof.Machine
end
section
/-!
PROOFS. nFAULT and automatic recovery (16_fault_collector.md, R449, R453 and R454).
-/
namespace Sys2Proof.Machine

/-! ### nFAULT, R449 -/

theorem exec_nfaultDriveWrite (v : Bool) (s : State) : exec (.nfaultDriveWrite v) s = .next (writeDrive v s) := rfl
theorem exec_nfaultPulseEnd (s : State) : exec .nfaultPulseEnd s = .next (endPulse s) := rfl

theorem writeDrive_true (s : State) : writeDrive true s = (s.set R.FC_NFAULT.DRIVE 1).set R.FC_NFAULT.PENDING_REL 0 := rfl

theorem writeDrive_false_black {s : State} (h : s.cyc.black = true) : writeDrive false s = s := by simp [writeDrive, h]

theorem writeDrive_false_pulse {s : State} (hblack : s.cyc.black = false) (h : s.bit R.FC_NFAULT.PULSE = true) :
    writeDrive false s = s.set R.FC_NFAULT.PENDING_REL 1 := by simp [writeDrive, hblack, h]

theorem writeDrive_false_idle {s : State} (hblack : s.cyc.black = false) (h : s.bit R.FC_NFAULT.PULSE = false) :
    writeDrive false s = s.set R.FC_NFAULT.DRIVE 0 := by simp [writeDrive, hblack, h]

/-- The pulse ends, and with it the drive where a release waits for that. -/
theorem endPulse_of_pulse {s : State} (h : s.bit R.FC_NFAULT.PULSE = true) :
    endPulse s = if s.bit R.FC_NFAULT.PENDING_REL then ((s.set R.FC_NFAULT.PULSE 0).set R.FC_NFAULT.PENDING_REL 0).set R.FC_NFAULT.DRIVE 0
      else s.set R.FC_NFAULT.PULSE 0 := by
  have hpending : (s.set R.FC_NFAULT.PULSE 0).bit R.FC_NFAULT.PENDING_REL = s.bit R.FC_NFAULT.PENDING_REL := State.bit_set_of_ne s 0 (by decide)
  simp [endPulse, h, hpending]

/-! ### Leaves among the register words -/

theorem leafOf_block_high (b i n : Nat) : leafOf ⟨b + 17, i, n⟩ = none := rfl

theorem leafOf_src_high : ∀ b i n : Nat, leafOf ⟨b, i + 16, n⟩ = none
  | 0, _, _ | 1, _, _ | 2, _, _ | 3, _, _ | 4, _, _ | 5, _, _ | 6, _, _ | 7, _, _ | 8, _, _ | 9, _, _ | 10, _, _ | 11, _, _ | 12, _, _
  | 13, _, _ | 14, _, _ | 15, _, _ | 16, _, _ | _ + 17, _, _ => rfl

/-- Sources with a leaf are of the blocks 1 to 16 and have the indices 0 to 15 (R434). -/
theorem leafOf_bounds {r : Src} {f : Fld} (h : leafOf r = some f) : 0 < r.block ∧ r.block ≤ 16 ∧ r.src < 16 := by
  obtain ⟨b, i, n⟩ := r
  have hsrc : i < 16 := by
    by_contra hi
    rw [show i = i - 16 + 16 by omega, leafOf_src_high] at h
    cases h
  have hblock : b ≤ 16 := by
    by_contra hb
    rw [show b = b - 17 + 17 by omega, leafOf_block_high] at h
    cases h
  refine ⟨Nat.pos_of_ne_zero ?_, hblock, hsrc⟩
  rintro rfl
  cases h

/-- Among the collector's words leaves lie in FC_CAUSE alone. -/
theorem leafOf_place {r : Src} {f : Fld} (hinst : r.inst < 128) (h : leafOf r = some f) :
    f.key / 32 < 0xE0004 ∨ f.key / 32 = 0xE000C ∨ 0xF0000 ≤ f.key / 32 := by
  obtain ⟨hpos, hblock, hsrc⟩ := leafOf_bounds h
  obtain ⟨b, i, n⟩ := r
  obtain ⟨a, l, w, acc, z⟩ := f
  dsimp only at *
  interval_cases b <;> interval_cases i <;> cases h <;> dsimp only [Fld.key] <;> omega

/-- No leaf that a report can name is a field of the collector's other words. -/
theorem leafOf_key_ne {r : Src} {f g : Fld} (hinst : r.inst < 128) (h : leafOf r = some f) (hlo : 0xE0004 ≤ g.key / 32) (hhi : g.key / 32 < 0xF0000)
    (hcause : g.key / 32 ≠ 0xE000C) : f.key ≠ g.key := by
  have := leafOf_place hinst h
  intro e
  rw [e] at this
  omega

/-! ### A held record is released, R440 and R453 -/

theorem releaseHeld_clear {b : Nat} {s : State} (h : s.bit (R.FC_STAT.HELD (b - 1)) = false) : releaseHeld b s = s := by simp [releaseHeld, h]

/-- On a Member the release clears HELD alone. -/
theorem releaseHeld_member {b : Nat} {s : State} (hroot : s.isRoot = false) (hheld : s.bit (R.FC_STAT.HELD (b - 1)) = true)
    (hcyc : s.cyc.held.contains b = false) :
    releaseHeld b s = (s.set (R.FC_STAT.HELD (b - 1)) 0).modCyc (fun c => { c with released := b :: c.released }) := by
  have hmember : ((s.set (R.FC_STAT.HELD (b - 1)) 0).modCyc (fun c => { c with released := b :: c.released })).isRoot = false := hroot
  unfold releaseHeld
  rw [if_pos (by simpa [hheld] using hcyc)]
  simp [hmember]

theorem clearBit_of_not_set {f : Fld} {s : State} (h : f.key ∉ s.cyc.sets) : clearBit f s = s.set f 0 := by
  simp [clearBit, h]

theorem clearRecord_of_leaf {b : Nat} {f : Fld} {s : State} (h : leafOf (s.heldSrc b) = some f) (hset : f.key ∉ s.cyc.sets) :
    clearRecord b s = releaseHeld b (s.set f 0) := by
  simp only [clearRecord, h, clearBit_of_not_set hset]

/-- A record of a Member and its leaf are cleared: nothing else of the registers changes. -/
theorem clearRecord_member {b : Nat} {f : Fld} {s : State} (hb : b ≤ 16) (hroot : s.isRoot = false) (hcyc : s.cyc.held.contains b = false)
    (hleaf : leafOf (s.heldSrc b) = some f) (hset : f.key ∉ s.cyc.sets) :
    (clearRecord b s).get (R.FC_STAT.HELD (b - 1)) = 0 ∧ (clearRecord b s).get f = 0
      ∧ OnlyRegs s (clearRecord b s) [R.FC_STAT.HELD (b - 1), f] ∧ (clearRecord b s).fc = s.fc ∧ (clearRecord b s).ts = s.ts := by
  have hf : (s.set f 0).get f = 0 := State.get_set_self s f 0
  have hregs : OnlyRegs s (s.set f 0) [R.FC_STAT.HELD (b - 1), f] := (OnlyRegs.of_regs rfl _).set 0 (by simp)
  rw [clearRecord_of_leaf hleaf hset]
  cases hheld : (s.set f 0).bit (R.FC_STAT.HELD (b - 1)) with
  | false =>
    rw [releaseHeld_clear hheld]
    exact ⟨State.get_of_bit_false hheld, hf, hregs, rfl, rfl⟩
  | true =>
    have hne : (R.FC_STAT.HELD (b - 1)).key ≠ f.key := by
      refine (leafOf_key_ne (s.get_lt (R.FC_FIRST.INSTANCE (b - 1))) hleaf ?_ ?_ ?_).symm <;> simp only [Fld.key, R.FC_STAT.HELD] <;> omega
    rw [releaseHeld_member (s := s.set f 0) hroot hheld hcyc, State.modCyc_get, State.modCyc_get, State.get_set_self, State.get_set_of_ne _ _ hne]
    exact ⟨rfl, hf, hregs.set (f := R.FC_STAT.HELD (b - 1)) 0 (by simp), rfl, rfl⟩

/-! ### Recovery, R453 and R454 -/

theorem recover_amber {b : Nat} {s : State} (h : s.recovers b = true) (hclass : s.get (R.FC_FIRST.CLASS (b - 1)) = 1) :
    recover b s = countRecovery 1 (clearRecord b s) := by simp [recover, h, hclass]

theorem recover_of_not_recovers {b : Nat} {s : State} (h : s.recovers b = false) : recover b s = s := by simp [recover, h]

/-- A recovery that does not reach K is counted and latches nothing. -/
theorem countRecovery_below {c : Nat} {s : State} (h : (s.recoveries c).length + 1 < s.get R.FC_RECOV.K) :
    countRecovery c s = s.modFc (fun f => { f with recovered := Tab.set [] f.recovered c ((s.ts.tsc :: s.recoveries c).take 15) }) := by
  have hlen : ((s.ts.tsc :: s.recoveries c).take 15).length < s.get R.FC_RECOV.K :=
    (List.length_take_le' ..).trans_lt (by rw [List.length_cons]; exact h)
  unfold countRecovery
  exact if_neg fun hk => absurd hk.1 (Nat.not_le.2 hlen)

theorem exec_automaticRecovery (b : Fin 16) (s : State) : exec (.automaticRecovery b) s = .next (recover (b.val + 1) s) := rfl

theorem exec_recoveryUnlatch (s : State) :
    exec .recoveryUnlatch s = .next ((s.set R.FC_RCNT.LATCH 0).modFc (fun f => { f with recovered := [] })) := rfl

/-- Settles O42: the drive and the pulse by cases of `writeDrive` and `endPulse`; the leaf that a recovery clears is not K (`leafOf_key_ne`). -/
theorem nfaultAndRecovery : Obligations.NfaultAndRecovery := by
  unfold Obligations.NfaultAndRecovery
  refine ⟨?drive, ?later, ?black, ?release, ?pulse, ?ends, ?amber, ?barred, ?unlatch⟩
  case drive =>
    intro s
    refine ⟨_, exec_nfaultDriveWrite true s, ?_, State.get_set_self .., ((OnlySets.refl s _).set _ (by simp)).set _ (by simp)⟩
    rw [writeDrive_true, State.get_set_of_ne _ _ (by decide), State.get_set_self]
    rfl
  case later =>
    intro s hblack hpulse
    refine ⟨_, exec_nfaultDriveWrite false s, ?_⟩
    rw [writeDrive_false_pulse hblack hpulse]
    exact ⟨State.get_set_self .., (OnlySets.refl s _).set _ (by simp)⟩
  case black => exact fun s hblack => by rw [exec_nfaultDriveWrite, writeDrive_false_black hblack]
  case release =>
    intro s hblack hpulse
    refine ⟨_, exec_nfaultDriveWrite false s, ?_⟩
    rw [writeDrive_false_idle hblack hpulse]
    exact ⟨State.get_set_self .., (OnlySets.refl s _).set _ (by simp)⟩
  case pulse =>
    intro s hpulse hpending
    refine ⟨_, exec_nfaultPulseEnd s, ?_⟩
    rw [endPulse_of_pulse hpulse, hpending]
    exact ⟨State.get_set_self .., (OnlySets.refl s _).set _ (by simp)⟩
  case ends =>
    intro s hpulse hpending
    refine ⟨_, exec_nfaultPulseEnd s, ?_⟩
    rw [endPulse_of_pulse hpulse, hpending, if_pos rfl]
    refine ⟨?_, ?_, State.get_set_self .., (((OnlySets.refl s _).set _ (by simp)).set _ (by simp)).set _ (by simp)⟩
    · rw [State.get_set_of_ne _ _ (by decide), State.get_set_of_ne _ _ (by decide), State.get_set_self]
      rfl
    · rw [State.get_set_of_ne _ _ (by decide), State.get_set_self]
      rfl
  case amber =>
    intro s b f hroot hrecovers hclass hleaf hset hcyc hk
    obtain ⟨hheld, hf, hregs, hfc, hts⟩ := clearRecord_member (show b.val + 1 ≤ 16 from b.isLt) hroot hcyc hleaf hset
    have hK : (clearRecord (b.val + 1) s).get R.FC_RECOV.K = s.get R.FC_RECOV.K := by
      have hne : f.key ≠ R.FC_RECOV.K.key :=
        leafOf_key_ne (s.get_lt (R.FC_FIRST.INSTANCE b)) hleaf (by decide) (by decide) (by decide)
      refine hregs _ ?_
      have hheld' : (R.FC_STAT.HELD b).key ≠ R.FC_RECOV.K.key := by
        simp only [Fld.key, R.FC_STAT.HELD, R.FC_RECOV.K]
        omega
      simpa using ⟨hheld'.symm, hne.symm⟩
    have hrec : (clearRecord (b.val + 1) s).recoveries 1 = s.recoveries 1 := by rw [State.recoveries, State.recoveries, hfc, hts]
    have hcount := countRecovery_below (c := 1) (s := clearRecord (b.val + 1) s) (by rw [hrec, hK]; exact hk)
    refine ⟨_, exec_automaticRecovery b s, ?_⟩
    rw [recover_amber hrecovers hclass, hcount]
    rw [hrec, hts]
    refine ⟨by simpa [State.bit] using hheld, hf, ?_, hregs⟩
    rw [State.modFc, Tab.get_set_self]
  case barred => exact fun s b h => by rw [exec_automaticRecovery, recover_of_not_recovers h]
  case unlatch =>
    intro s
    exact ⟨_, exec_recoveryUnlatch s, State.get_set_self s R.FC_RCNT.LATCH 0, rfl,
      OnlyRegs.set (f := R.FC_RCNT.LATCH) (.of_regs (rfl : s.regs = s.regs) _) 0 (by simp)⟩

end Sys2Proof.Machine
end
section
/-!
PROOFS. The record of a first cause (16_fault_collector.md, R440 to R443): what a report writes first, and which registers the messages, records, windows and
actions that follow may still write.
-/
namespace Sys2Proof.Machine

/-! ### Writes within a set of places -/

/-- Every register field outside the set of places reads in `t` as it does in `s`. -/
structure Within (W : Nat → Prop) (s t : State) : Prop where
  get : ∀ f : Fld, ¬ W f.key → t.get f = s.get f

section
variable {W : Nat → Prop} {s t u : State}

theorem Within.refl (s : State) : Within W s s := ⟨fun _ _ => rfl⟩
theorem Within.trans (h : Within W s t) (k : Within W t u) : Within W s u := ⟨fun f hf => (k.get f hf).trans (h.get f hf)⟩
theorem Within.of_regs (h : t.regs = s.regs) : Within W s t := ⟨fun f _ => State.get_of_regs h f⟩
theorem Within.mono {V : Nat → Prop} (h : Within W s t) (hv : ∀ k, W k → V k) : Within V s t := ⟨fun f hf => h.get f fun hw => hf (hv _ hw)⟩

theorem Within.bit (h : Within W s t) {f : Fld} (hf : ¬ W f.key) : t.bit f = s.bit f := by rw [State.bit, State.bit, h.get f hf]

theorem Within.set (h : Within W s t) {g : Fld} (hg : W g.key) (v : Nat) : Within W s (t.set g v) :=
  ⟨fun f hf => (State.get_set_outside hf hg t v).trans (h.get f hf)⟩

theorem Within.set64 (h : Within W s t) {lo hi : Fld} (hlo : W lo.key) (hhi : W hi.key) (v : Nat) : Within W s (t.set64 lo hi v) :=
  (h.set hlo _).set hhi _

/-- An update of other parts of the state. -/
theorem Within.update (h : Within W s t) (e : u.regs = t.regs) : Within W s u := h.trans (.of_regs e)

theorem Within.inc (h : Within W s t) {g : Fld} (hg : W g.key) : Within W s (t.inc g) := (h.set hg _).update rfl

/-- The same, before. -/
theorem Within.after (h : Within W t u) (e : t.regs = s.regs) : Within W s u := .trans (.of_regs e) h

theorem Within.modCyc (h : Within W s t) (f : CoreCycle → CoreCycle) : Within W s (t.modCyc f) := h.update rfl
theorem Within.modMet (h : Within W s t) (f : Met → Met) : Within W s (t.modMet f) := h.update rfl

theorem Within.ite {c : Prop} [Decidable c] (ht : Within W s t) (hu : Within W s u) : Within W s (if c then t else u) := by split <;> assumption

theorem Within.each {α : Type} {l : List α} {e : α → State → State} (h : Within W s t) (he : ∀ a ∈ l, ∀ x, Within W x (e a x)) :
    Within W s (t.each l e) :=
  State.each_keeps (P := Within W s) h fun a ha x hx => hx.trans (he a ha x)

/-- An event whose leaf lies in the set. -/
theorem Within.raiseLeaf (h : Within W s t) {r : Src} {g : Fld} (hr : leafOf r = some g) (hg : W g.key) : Within W s (raiseLeaf r t).1 := by
  unfold Machine.raiseLeaf
  rw [hr]
  unfold setLeaf
  dsimp only
  split
  · exact (h.set hg 1).update rfl
  · split <;> exact h.update rfl

end

/-! ### Messages, records and windows -/

/-- The place of a field in a word that the messages and records of a report may write: dropped messages, lost emergencies, and the recorder's words. -/
abbrev MessageKey (k : Nat) : Prop := k / 32 ∈ [0x30008, 0x3001C, 0x50004] ∨ (0xF0000 ≤ k / 32 ∧ k / 32 < 0xF0100)

theorem dropMsg_within (s : State) : Within MessageKey s (dropMsg s).1 :=
  ((Within.refl s).inc (g := R.SP_COUNTS.DROPPED) (by decide)).raiseLeaf (g := R.SP_CAUSE.MSG_DROPPED) rfl (by decide)

theorem sendTo_within (typ chan dest : Nat) (b : List Byte) (s : State) : Within MessageKey s (sendTo typ chan dest b s).1 := by
  simp only [sendTo]
  split
  · exact .of_regs rfl
  · split
    · exact .of_regs rfl
    · exact (dropMsg_within _).after rfl

theorem enqueue_within (r : Rec) (s : State) : Within MessageKey s (enqueue r s).1 := by
  have hlost : MessageKey (lostField r.plane).key := by unfold lostField; split_ifs <;> decide
  unfold enqueue
  split
  · exact ((Within.refl s).inc (g := lostField r.plane) hlost).raiseLeaf (r := Src.REC_QUEUE_LOST r.plane) (g := R.REC_CAUSE.QUEUE_LOST) rfl (by decide)
  · exact .of_regs rfl

theorem messageKey_pendField (b : Bool) : MessageKey (pendField b).key := by cases b <;> decide

theorem flush_within (b : Bool) (s : State) : Within MessageKey s (flush b s).1 := by
  have hpend : Within MessageKey s (s.set (pendField b) 0) := (Within.refl s).set (messageKey_pendField b) 0
  simp only [flush]
  split
  · exact .refl s
  · split
    · split
      · exact hpend.update rfl
      · exact hpend.trans ((enqueue_within _ _).after rfl)
    · exact .refl s

theorem settle_within (b : Bool) (s : State) : Within MessageKey s (settle b s).1 := by
  simp only [settle]
  split
  · exact .refl s
  · split
    · exact (flush_within b s).set (messageKey_pendField b) 0
    · exact ((Within.refl s).set (messageKey_pendField b) 0).update rfl

theorem post_within (r : Rec) (s : State) : Within MessageKey s (post r s).1 := by
  unfold post
  dsimp only
  split
  · refine Within.update (Within.inc ?_ (messageKey_pendField (faultRegion r))) rfl
    split
    · exact .refl s
    · exact settle_within _ s
  · refine Within.trans ?_ (enqueue_within r _)
    exact .ite (.refl s) (.of_regs (by split <;> rfl))

theorem postEmcy_within (origin b i inst info tsc : Nat) (s : State) : Within MessageKey s (postEmcy origin b i inst info tsc s).1 := by
  unfold postEmcy
  split
  · exact (Within.refl s).raiseLeaf (g := R.FN_CAUSE.EMCY_LOST) rfl (by decide)
  · exact .of_regs rfl

/-- The place of a field that the filing of a first cause may write after the record itself: messages, the group's first cause, and EARLIER_REMOTE. -/
abbrev FilingKey (k : Nat) : Prop :=
  MessageKey k ∨ k / 32 ∈ [0xE0030, 0xE0034, 0xE0038] ∨ (k % 32 = 28 ∧ 0xE0100 ≤ k / 32 ∧ k / 32 < 0xE0200)

theorem groupFirst_within (loc : Bool) (origin source gt : Nat) (s : State) : Within FilingKey s (groupFirst loc origin source gt s) := by
  have hearlier : ∀ x : State, FilingKey (R.FC_FIRST.EARLIER_REMOTE (x.get R.FC_GRP_INFO.SOURCE / 16)).key := by
    intro x
    have : x.get R.FC_GRP_INFO.SOURCE < 256 := x.get_lt R.FC_GRP_INFO.SOURCE
    simp only [FilingKey, MessageKey, Fld.key, R.FC_FIRST.EARLIER_REMOTE]
    omega
  unfold groupFirst
  extract_lets old empty earlier a b c
  have hb : Within FilingKey s b := .ite (((Within.refl a).set (hearlier a) 1).after rfl) (.of_regs rfl)
  split
  · refine Within.set64 (Within.set ?_ (g := R.FC_GRP_INFO.SOURCE) (by decide) source) (by decide) (by decide) gt
    exact ((hb.set (g := R.FC_GRP_INFO.VALID) (by decide) 1).set (g := R.FC_GRP_INFO.LOCAL) (by decide) _).set (g := R.FC_GRP_INFO.ORIGIN) (by decide) _
  · exact .refl s

theorem tellGroup_within (r : ReportArg) (c : Nat) (obs : Bool) (s : State) : Within FilingKey s (tellGroup r c obs s) := by
  unfold tellGroup
  split
  · exact (groupFirst_within ..).update rfl
  · exact .refl s

/-- A first cause is filed: what follows the record writes none of its fields but EARLIER_REMOTE. -/
theorem capture_within (r : ReportArg) (c : Nat) (obs inj : Bool) (s : State) :
    Within FilingKey (fileRecord r c obs inj s) (capture r c obs inj s).1 := by
  have hmessage : ∀ k, MessageKey k → FilingKey k := fun _ => .inl
  unfold capture
  extract_lets x info rc
  have hx : Within FilingKey (fileRecord r c obs inj s) x := (tellGroup_within ..).update rfl
  have hpost : Within FilingKey (fileRecord r c obs inj s) (post rc x).1 := hx.trans ((post_within rc x).mono hmessage)
  dsimp only
  split
  · split
    · exact hpost.trans ((postEmcy_within ..).mono hmessage)
    · exact hpost
  · exact hpost.trans ((sendTo_within ..).mono hmessage)

/-- The place of a field of the windows (R443). -/
abbrev WindowKey (k : Nat) : Prop := 0xE0200 ≤ k / 32 ∧ k / 32 < 0xE0224

theorem windowKey {w : Nat} (hw : w ≤ 8) : WindowKey (R.FC_WIN.OPEN w).key ∧ WindowKey (R.FC_WIN.CLASS w).key
    ∧ WindowKey (R.FC_WIN.FIRST_BLOCK w).key ∧ WindowKey (R.FC_WIN.CONSEQ w).key := by
  simp only [WindowKey, Fld.key, R.FC_WIN.OPEN, R.FC_WIN.CLASS, R.FC_WIN.FIRST_BLOCK, R.FC_WIN.CONSEQ]
  omega

theorem openWin_within {w : Nat} (hw : w ≤ 8) (c b : Nat) (s : State) : Within WindowKey s (openWin w c b s) := by
  obtain ⟨hopen, hclass, hblock, hconseq⟩ := windowKey hw
  unfold openWin
  extract_lets x y
  have hx : Within WindowKey s x := .ite (.refl s) ((Within.refl s).set hconseq 0)
  exact (((hx.set hopen 1).set hclass c).set hblock (b - 1)).update rfl

/-! ### What a Black report does, R447 -/

/-- The place of a field that an entry to Safe may write beside the run request: the states of the cells and of the phasor path, and the leaf of the injection. -/
abbrev ParkKey (k : Nat) : Prop := k / 32 ∈ [0x90004, 0xA0000] ∨ (0x80404 ≤ k / 32 ∧ k / 32 < 0x80804)

theorem parkCells_within (s : State) : Within ParkKey s (parkCells s) := by
  unfold parkCells
  extract_lets x
  have hx : Within ParkKey s x := (Within.refl s).each fun _ _ _ => .of_regs rfl
  refine hx.each fun n hn y => ?_
  have hkey : ParkKey (R.BC_STAT.STATE n).key := by
    have := lane_lt hn
    simp only [ParkKey, Fld.key, R.BC_STAT.STATE]
    omega
  exact .ite (((Within.refl y).set hkey 1).update rfl) (.refl y)

theorem stopInjection_within (s : State) : Within ParkKey s (stopInjection s).1 := by
  unfold stopInjection
  split
  · exact ((Within.refl _).raiseLeaf (W := ParkKey) (g := R.CE_CAUSE.INJ_DONE) rfl (by decide)).after rfl
  · exact .refl s

theorem stopInjection_off {s : State} (h : s.eng.inj.on = false) : stopInjection s = (s, []) := by simp [stopInjection, h]

theorem phasorStart_within (s : State) : Within ParkKey s (phasorStart s) := by
  unfold phasorStart
  exact ((Within.refl s).set (g := R.MET_STAT.PH_STATE) (by decide) _).modMet _

theorem enterSafe_within (s : State) : Within ParkKey (s.set O.RUN_REQUEST 0) (enterSafe s).1 := by
  have hpark := (parkCells_within ({ s with pw := { s.pw with state := .safe } }.set O.RUN_REQUEST 0)).after (s := s.set O.RUN_REQUEST 0) rfl
  exact (hpark.trans (phasorStart_within _)).trans (stopInjection_within _)

/-- Where the device leaves Armed or Run for Safe the run request clears; else the cells alone are parked. -/
def blackEntry (s : State) : State × List ReportArg := if s.inState [.armed, .run] then enterSafe s else (parkCells s, [])

theorem blackActions_eq (s : State) :
    blackActions s = ((((((blackEntry s).1.each lanes64 fun n x => requestUrgent n .black x).set R.FC_NFAULT.DRIVE 1).set R.FC_NFAULT.PULSE 1).set
      R.FC_NFAULT.PENDING_REL 0).modCyc fun c => { c with black := true }, (blackEntry s).2) := by
  unfold blackActions blackEntry
  generalize (if s.inState [.armed, .run] then enterSafe s else (parkCells s, [])) = p
  rfl

/-- The place of a field that the actions of a Black report may write. -/
abbrev ActionKey (k : Nat) : Prop := ParkKey k ∨ k / 32 = O.RUN_REQUEST.addr ∨ k / 32 = 0xE0010

theorem blackEntry_within (s : State) : Within (fun k => ParkKey k ∨ k / 32 = O.RUN_REQUEST.addr) s (blackEntry s).1 := by
  unfold blackEntry
  split
  · exact ((Within.refl s).set (g := O.RUN_REQUEST) (.inr rfl) 0).trans ((enterSafe_within s).mono fun _ => .inl)
  · dsimp only
    exact (parkCells_within s).mono fun _ => .inl

theorem urgent_regs (s : State) : (s.each lanes64 fun n x => requestUrgent n .black x).regs = s.regs :=
  State.each_keeps (P := fun x => x.regs = s.regs) rfl fun n _ x hx => (requestUrgent_regs_pw n .black x).1.trans hx

theorem blackActions_within (s : State) : Within ActionKey s (blackActions s).1 := by
  rw [blackActions_eq]
  have hentry : Within ActionKey s ((blackEntry s).1.each lanes64 fun n x => requestUrgent n .black x) :=
    ((blackEntry_within s).mono fun k hk => hk.imp_right .inl).update (urgent_regs _)
  dsimp only
  exact (((hentry.set (g := R.FC_NFAULT.DRIVE) (by decide) 1).set (g := R.FC_NFAULT.PULSE) (by decide) 1).set (g := R.FC_NFAULT.PENDING_REL)
    (by decide) 0).modCyc _

/-- nFAULT is driven with its pulse (R449). -/
theorem blackActions_nfault (s : State) : (blackActions s).1.get R.FC_NFAULT.DRIVE = 1 ∧ (blackActions s).1.get R.FC_NFAULT.PULSE = 1 := by
  rw [blackActions_eq]
  dsimp only
  constructor
  · rw [State.modCyc_get, State.get_set_of_ne _ _ (by decide), State.get_set_of_ne _ _ (by decide), State.get_set_self]
    rfl
  · rw [State.modCyc_get, State.get_set_of_ne _ _ (by decide), State.get_set_self]
    rfl

@[simp] theorem parkCells_eng (s : State) : (parkCells s).eng = s.eng := by
  unfold parkCells
  extract_lets x
  have hx : x.eng = s.eng := State.each_keeps (P := fun y => y.eng = s.eng) rfl fun _ _ _ hy => hy
  refine State.each_keeps (P := fun y => y.eng = s.eng) hx fun n _ y hy => ?_
  dsimp only
  split <;> exact hy

@[simp] theorem phasorStart_eng (s : State) : (phasorStart s).eng = s.eng := by
  unfold phasorStart
  simp

/-- Without an injection to stop, the actions of a Black report cause no report. -/
theorem blackActions_snd {s : State} (h : s.eng.inj.on = false) : (blackActions s).2 = [] := by
  rw [blackActions_eq]
  dsimp only
  unfold blackEntry
  split
  · unfold enterSafe
    rw [stopInjection_off (by simpa using h)]
  · rfl

/-! ### A report is judged -/

/-- The time of a block's last report is noted (R453). -/
def State.reportNoted (s : State) (b : Nat) : State := { s with fc := { s.fc with lastReport := Tab.set 0 s.fc.lastReport b s.ts.tsc } }

/-- A report before the actions that a Black one has (R440 to R443): it joins a report of the same event, counts as a consequence, or is a first cause. -/
def judged (r : ReportArg) (s : State) : State × List ReportArg :=
  let c := s.classOf r.block r.src r.inst
  let w := s.scope r
  let x := s.reportNoted r.block
  let p :=
    if x.joins r then (joinReport r x, [])
    else if x.winHolds w c || x.winHolds 8 c then (x.inc (R.FC_WIN.CONSEQ (if x.winHolds w c then w else 8)), [])
    else judgeReport r c w x
  (p.1.modCyc fun y => { y with taken := r :: y.taken }, p.2)

theorem takeOne_eq (r : ReportArg) (s : State) :
    takeOne r s = if s.classOf r.block r.src r.inst = 3 ∧ (r.observed ∨ (judged r s).1.bit R.FC_CTRL.INJ_ACT) then
      ((blackActions (judged r s).1).1, (judged r s).2 ++ (blackActions (judged r s).1).2) else judged r s := by
  unfold takeOne judged State.reportNoted
  extract_lets c w fc x consW p
  have hp : (if x.joins r then (joinReport r x, [])
      else if consW || x.winHolds 8 c then (x.inc (R.FC_WIN.CONSEQ (if consW then w else 8)), []) else judgeReport r c w x) = p := rfl
  rw [hp]

/-- What a report that is not Black leaves is what is judged of it; a Black one's actions follow. -/
theorem takeOne_within (r : ReportArg) (s : State) : Within ActionKey (judged r s).1 (takeOne r s).1 := by
  rw [takeOne_eq]
  split
  · exact blackActions_within _
  · exact .refl _

/-- A consequence of an open window of the report's scope is counted there, and nothing else of the registers changes (R443). -/
theorem judged_of_window {r : ReportArg} {s : State} (hjoins : s.joins r = false)
    (hwin : s.winHolds (s.scope r) (s.classOf r.block r.src r.inst) = true) :
    (judged r s).2 = [] ∧ (judged r s).1.regs = (s.inc (R.FC_WIN.CONSEQ (s.scope r))).regs ∧ (judged r s).1.eng = s.eng := by
  have hj : (s.reportNoted r.block).joins r = false := hjoins
  have hw : (s.reportNoted r.block).winHolds (s.scope r) (s.classOf r.block r.src r.inst) = true := hwin
  simp only [judged, hj, hw, Bool.false_eq_true, if_false, Bool.true_or, if_true]
  exact ⟨trivial, rfl, rfl⟩

@[simp] theorem openWin_eng (w c b : Nat) (s : State) : (openWin w c b s).eng = s.eng := by
  unfold openWin
  dsimp only [State.set_eng]
  split <;> rfl

theorem judgeReport_eng (r : ReportArg) (c w : Nat) (s : State) : (judgeReport r c w s).1.eng = (keepReport r c s).1.eng := by
  unfold judgeReport
  dsimp only
  split_ifs <;> simp only [openWin_eng]

theorem openWins_within {w : Nat} (hw : w ≤ 8) (c b : Nat) (p q : Prop) [Decidable p] [Decidable q] (s : State) :
    Within WindowKey s (if q then openWin 8 c b (if p then openWin w c b s else s) else if p then openWin w c b s else s) := by
  have hfirst : Within WindowKey s (if p then openWin w c b s else s) := .ite (openWin_within hw c b s) (.refl s)
  exact .ite (hfirst.trans (openWin_within (le_refl 8) c b _)) hfirst

theorem judgeReport_within {w : Nat} (hw : w ≤ 8) (r : ReportArg) (c : Nat) (s : State) :
    (judgeReport r c w s).2 = (keepReport r c s).2 ∧ Within WindowKey (keepReport r c s).1 (judgeReport r c w s).1 := by
  unfold judgeReport
  exact ⟨rfl, openWins_within hw c r.block _ _ _⟩

/-- A report that joins no other and meets no window is kept, and the windows open as its class asks (R440, R443). -/
theorem judged_of_no_window {r : ReportArg} {s : State} (hjoins : s.joins r = false)
    (hwin : s.winHolds (s.scope r) (s.classOf r.block r.src r.inst) = false) (hgroup : s.winHolds 8 (s.classOf r.block r.src r.inst) = false) :
    (judged r s).2 = (keepReport r (s.classOf r.block r.src r.inst) (s.reportNoted r.block)).2
      ∧ Within WindowKey (keepReport r (s.classOf r.block r.src r.inst) (s.reportNoted r.block)).1 (judged r s).1
      ∧ (judged r s).1.eng = (keepReport r (s.classOf r.block r.src r.inst) (s.reportNoted r.block)).1.eng := by
  have hj : (s.reportNoted r.block).joins r = false := hjoins
  have hw : (s.reportNoted r.block).winHolds (s.scope r) (s.classOf r.block r.src r.inst) = false := hwin
  have hg : (s.reportNoted r.block).winHolds 8 (s.classOf r.block r.src r.inst) = false := hgroup
  obtain ⟨hsnd, hfst⟩ := judgeReport_within (s.scope_le r) r (s.classOf r.block r.src r.inst) (s.reportNoted r.block)
  simp only [judged, hj, hw, hg, Bool.false_eq_true, if_false, Bool.or_self]
  exact ⟨hsnd, hfst.modCyc _, judgeReport_eng ..⟩

/-! ### A first cause is kept, R440 to R442 -/

/-- A block without a held record, none of which software releases in this core cycle, captures its report. -/
theorem keepReport_free {r : ReportArg} {c : Nat} {s : State} (hreleased : s.cyc.released.contains r.block = false)
    (hheld : s.bit (R.FC_STAT.HELD (r.block - 1)) = false) :
    keepReport r c s = capture r c r.observed r.injected (s.modCyc fun x => { x with held := r.block :: x.held }) := by
  simp [keepReport, -List.contains_eq_mem, hreleased, hheld]

/-- A block with an observed record counts its report as lost. -/
theorem keepReport_held {r : ReportArg} {c : Nat} {s : State} (hreleased : s.cyc.released.contains r.block = false)
    (hheld : s.bit (R.FC_STAT.HELD (r.block - 1)) = true) (hobserved : s.bit (R.FC_FIRST.OBSERVED (r.block - 1)) = true) :
    keepReport r c s
      = (((((s.modCyc fun x => { x with held := r.block :: x.held }).noteSet (R.FC_LOST.LOST (r.block - 1))).set (R.FC_LOST.LOST (r.block - 1)) 1).inc
          (R.FC_LOSTCNT r.block)), []) := by
  simp [keepReport, -List.contains_eq_mem, hreleased, hheld, hobserved]

/-- The place of a field that may change after the record of a first cause is written. -/
abbrev AfterKey (k : Nat) : Prop := FilingKey k ∨ WindowKey k ∨ ActionKey k

/-- A free block's report without window is captured: its record stands in the end. -/
theorem takeOne_captures {r : ReportArg} {s : State} (hreleased : s.cyc.released.contains r.block = false) (hjoins : s.joins r = false)
    (hheld : s.bit (R.FC_STAT.HELD (r.block - 1)) = false) (hwin : s.winHolds (s.scope r) (s.classOf r.block r.src r.inst) = false)
    (hgroup : s.winHolds 8 (s.classOf r.block r.src r.inst) = false) :
    Within AfterKey (fileRecord r (s.classOf r.block r.src r.inst) r.observed r.injected
      ((s.reportNoted r.block).modCyc fun x => { x with held := r.block :: x.held })) (takeOne r s).1 := by
  obtain ⟨-, hjudged, -⟩ := judged_of_no_window hjoins hwin hgroup
  rw [keepReport_free (s := s.reportNoted r.block) hreleased hheld] at hjudged
  refine ((capture_within ..).mono fun _ => .inl).trans ((hjudged.mono fun _ hk => .inr (.inl hk)).trans ?_)
  exact (takeOne_within r s).mono fun _ hk => .inr (.inr hk)

/-- The words of a first cause but EARLIER_REMOTE are written with the record alone. -/
theorem record_not_afterKey {n : Nat} (hn : n < 16) :
    ¬ AfterKey (R.FC_STAT.HELD n).key ∧ ¬ AfterKey (R.FC_FIRST.SRC n).key ∧ ¬ AfterKey (R.FC_FIRST.INSTANCE n).key
      ∧ ¬ AfterKey (R.FC_FIRST.CLASS n).key ∧ ¬ AfterKey (R.FC_FIRST.OBSERVED n).key ∧ ¬ AfterKey (R.FC_FIRST.INJECTED n).key
      ∧ ¬ AfterKey (R.FC_FIRST_TSC_LO n).key ∧ ¬ AfterKey (R.FC_FIRST_TSC_HI n).key := by
  have haddr : O.RUN_REQUEST.addr = 270532866 := by decide
  simp only [AfterKey, FilingKey, MessageKey, WindowKey, ActionKey, ParkKey, Fld.key, R.FC_STAT.HELD, R.FC_FIRST.SRC, R.FC_FIRST.INSTANCE,
    R.FC_FIRST.CLASS, R.FC_FIRST.OBSERVED, R.FC_FIRST.INJECTED, R.FC_FIRST_TSC_LO, R.FC_FIRST_TSC_HI, haddr, List.mem_cons, List.not_mem_nil, or_false]
  omega

/-- What the record of a first cause reads (R440). -/
theorem fileRecord_reads (r : ReportArg) (c : Nat) (obs inj : Bool) (s : State) {n : Nat} (hn : n = r.block - 1) (hlt : n < 16) :
    (fileRecord r c obs inj s).get (R.FC_STAT.HELD n) = 1 ∧ (fileRecord r c obs inj s).get (R.FC_FIRST.SRC n) = r.src % 16
      ∧ (fileRecord r c obs inj s).get (R.FC_FIRST.INSTANCE n) = r.inst % 128 ∧ (fileRecord r c obs inj s).get (R.FC_FIRST.CLASS n) = c % 4
      ∧ (fileRecord r c obs inj s).get (R.FC_FIRST.OBSERVED n) = b2n obs ∧ (fileRecord r c obs inj s).get (R.FC_FIRST.INJECTED n) = b2n inj
      ∧ (fileRecord r c obs inj s).get (R.FC_FIRST_TSC_LO n) = s.ts.tsc % 2 ^ 32
      ∧ (fileRecord r c obs inj s).get (R.FC_FIRST_TSC_HI n) = s.ts.tsc / 2 ^ 32 % 2 ^ 32 := by
  subst hn
  unfold fileRecord
  simp (disch := simp only [ne_eq, Fld.key, R.FC_STAT.HELD, R.FC_FIRST.SRC, R.FC_FIRST.INSTANCE, R.FC_FIRST.CLASS, R.FC_FIRST.OBSERVED,
    R.FC_FIRST.INJECTED, R.FC_FIRST.SCOPE, R.FC_FIRST.EARLIER_REMOTE, R.FC_FIRST_TSC_LO, R.FC_FIRST_TSC_HI]; omega)
    only [State.set64, State.setBit, State.get_set_of_ne, State.get_set_self]
  have hbit : ∀ b : Bool, b2n b % 2 ^ 1 = b2n b := by decide
  exact ⟨rfl, rfl, rfl, rfl, hbit obs, hbit inj, rfl, rfl⟩

theorem State.bit_of_get_one {s : State} {f : Fld} (h : s.get f = 1) : s.bit f = true := by simp [State.bit, h]

theorem State.classOf_lt (s : State) (b i n : Nat) : s.classOf b i n < 4 := by
  have := s.get_lt (R.FC_SEV b i)
  have hw : (R.FC_SEV b i).width = 2 := rfl
  rw [hw] at this
  unfold State.classOf
  dsimp only
  split <;> omega

/-- A report that is lost (R441): LOST is set, its counter counts, and nothing else of the registers changes but windows and what a Black report does. -/
theorem takeOne_loses {r : ReportArg} {s : State} (hreleased : s.cyc.released.contains r.block = false) (hjoins : s.joins r = false)
    (hheld : s.bit (R.FC_STAT.HELD (r.block - 1)) = true) (hobserved : s.bit (R.FC_FIRST.OBSERVED (r.block - 1)) = true)
    (hwin : s.winHolds (s.scope r) (s.classOf r.block r.src r.inst) = false) (hgroup : s.winHolds 8 (s.classOf r.block r.src r.inst) = false) :
    (judged r s).2 = [] ∧ (judged r s).1.eng = s.eng ∧ Within AfterKey ((s.set (R.FC_LOST.LOST (r.block - 1)) 1).inc (R.FC_LOSTCNT r.block)) (takeOne r s).1 := by
  obtain ⟨hsnd, hjudged, heng⟩ := judged_of_no_window hjoins hwin hgroup
  rw [keepReport_held (s := s.reportNoted r.block) hreleased hheld hobserved] at hsnd hjudged heng
  have hwindows : Within AfterKey ((s.set (R.FC_LOST.LOST (r.block - 1)) 1).inc (R.FC_LOSTCNT r.block)) (judged r s).1 :=
    (hjudged.mono fun _ hk => .inr (.inl hk)).after rfl
  exact ⟨hsnd, heng, hwindows.trans ((takeOne_within r s).mono fun _ hk => .inr (.inr hk))⟩

theorem lost_not_afterKey {b : Nat} (hb : b ≤ 16) : ¬ AfterKey (R.FC_LOST.LOST (b - 1)).key ∧ ¬ AfterKey (R.FC_LOSTCNT b).key := by
  have haddr : O.RUN_REQUEST.addr = 270532866 := by decide
  simp only [AfterKey, FilingKey, MessageKey, WindowKey, ActionKey, ParkKey, Fld.key, R.FC_LOST.LOST, R.FC_LOSTCNT, haddr, List.mem_cons,
    List.not_mem_nil, or_false]
  omega

/-- Reports cause reports only by what a Black one does. -/
theorem takeOne_snd {r : ReportArg} {s : State} (h : (judged r s).2 = []) (hinj : (judged r s).1.eng.inj.on = false) : (takeOne r s).2 = [] := by
  rw [takeOne_eq]
  split
  · rw [h, blackActions_snd hinj, List.append_nil]
  · exact h

/-- Settles O54: what follows the record, or the count, of a report writes none of the fields that the statement reads (`takeOne_captures`,
`takeOne_loses`, `judged_of_window`). -/
theorem firstCauseIsKept : Obligations.FirstCauseIsKept := by
  unfold Obligations.FirstCauseIsKept
  refine ⟨?captured, ?lost, ?consequent⟩
  case captured =>
    intro s r hpos hblock hsrc hinst htsc hreleased hjoins hheld hwin hgroup
    have hlt : r.block - 1 < 16 := by omega
    obtain ⟨hH, hS, hI, hC, hO, hJ, hL, hU⟩ := record_not_afterKey hlt
    have hafter := takeOne_captures hreleased hjoins hheld hwin hgroup
    obtain ⟨rH, rS, rI, rC, rO, rJ, rL, rU⟩ := fileRecord_reads r (s.classOf r.block r.src r.inst) r.observed r.injected
      ((s.reportNoted r.block).modCyc fun x => { x with held := r.block :: x.held }) rfl hlt
    have hbit : ∀ b : Bool, (b2n b != 0) = b := by decide
    refine ⟨?_, ?_, ?_, ?_, ?_, ?_, ?_⟩
    · exact State.bit_of_get_one ((hafter.get _ hH).trans rH)
    · rw [hafter.get _ hS, rS, Nat.mod_eq_of_lt hsrc]
    · rw [hafter.get _ hI, rI, Nat.mod_eq_of_lt hinst]
    · rw [hafter.get _ hC, rC, Nat.mod_eq_of_lt (s.classOf_lt ..)]
    · rw [State.bit, hafter.get _ hO, rO, hbit]
    · rw [State.bit, hafter.get _ hJ, rJ, hbit]
    · rw [State.get64, hafter.get _ hL, hafter.get _ hU, rL, rU]
      show s.ts.tsc % 2 ^ 32 + 2 ^ 32 * (s.ts.tsc / 2 ^ 32 % 2 ^ 32) = s.ts.tsc
      omega
  case lost =>
    intro s r hpos hblock hreleased hjoins hinj hheld hobserved hwin hgroup
    have hlt : r.block - 1 < 16 := by omega
    obtain ⟨-, hS, hI, hC, -⟩ := record_not_afterKey hlt
    obtain ⟨hL, hN⟩ := lost_not_afterKey hblock
    obtain ⟨hsnd, heng, hafter⟩ := takeOne_loses hreleased hjoins hheld hobserved hwin hgroup
    have hkept : ∀ f : Fld, ¬ AfterKey f.key → (R.FC_LOST.LOST (r.block - 1)).key ≠ f.key → (R.FC_LOSTCNT r.block).key ≠ f.key →
        (takeOne r s).1.get f = s.get f := fun f hf hlost hcount => by
      rw [hafter.get f hf, State.get_inc_of_ne _ hcount, State.get_set_of_ne _ _ hlost]
    have hcount : (R.FC_LOST.LOST (r.block - 1)).key ≠ (R.FC_LOSTCNT r.block).key := by
      simp only [Fld.key, R.FC_LOST.LOST, R.FC_LOSTCNT]
      omega
    refine ⟨takeOne_snd hsnd (by rw [heng, hinj]), State.bit_of_get_one ?_, ?_, hkept _ hS ?_ ?_, hkept _ hI ?_ ?_, hkept _ hC ?_ ?_⟩
    · rw [hafter.get _ hL, State.get_inc_of_ne _ hcount.symm, State.get_set_self]
      rfl
    · rw [hafter.get _ hN, State.get_inc_self, State.get_set_of_ne _ _ hcount]
      rfl
    all_goals
      simp only [Fld.key, R.FC_LOST.LOST, R.FC_LOSTCNT, R.FC_FIRST.SRC, R.FC_FIRST.INSTANCE, R.FC_FIRST.CLASS]
      omega
  case consequent =>
    intro s r hjoins hinj hwin
    obtain ⟨hsnd, hregs, heng⟩ := judged_of_window hjoins hwin
    have hafter : Within ActionKey (s.inc (R.FC_WIN.CONSEQ (s.scope r))) (takeOne r s).1 := (takeOne_within r s).after hregs
    have hw : s.scope r ≤ 8 := s.scope_le r
    have haddr : O.RUN_REQUEST.addr = 270532866 := by decide
    refine ⟨takeOne_snd hsnd (by rw [heng, hinj]), ?_, fun n hn => ?_⟩
    · refine (hafter.get _ ?_).trans (State.get_inc_self ..)
      simp only [ActionKey, ParkKey, Fld.key, R.FC_WIN.CONSEQ, haddr, List.mem_cons, List.not_mem_nil, or_false]
      omega
    · refine (hafter.get _ fun h => (record_not_afterKey hn).1 (.inr (.inr h))).trans (State.get_inc_of_ne s ?_)
      simp only [Fld.key, R.FC_WIN.CONSEQ, R.FC_STAT.HELD]
      omega

end Sys2Proof.Machine
end
section
/-!
PROOFS. Injected faults (16_fault_collector.md, R450 and R451).
-/
namespace Sys2Proof.Machine

/-! ### Forced reports, R450 -/

theorem exec_forceReport (v : Word) (s : State) : exec (.forceReport v) s = .next (forceReport v.toNat s) := rfl

theorem State.not_inState_slate {s : State} (h : s.pw.state ≠ .slate) : s.inState [.slate] = false := by simp [State.inState, h]

theorem forceReport_slate {s : State} (h : s.pw.state = .slate) (v : Nat) : forceReport v s = raise Src.FC_SETTING_REFUSED s := by
  simp [forceReport, State.cored, State.inState, h, refuse]

/-- A forced report sets its leaf and is taken. -/
theorem forceReport_of_leaf {s : State} {v : Nat} {f : Fld} (hcored : s.cored = true) (hslate : s.pw.state ≠ .slate)
    (hsrc : (leafOf ⟨bits v 26 23 + 1, bits v 22 19, 0⟩).isSome = true)
    (hleaf : leafFor ⟨bits v 26 23 + 1, bits v 22 19, bits v 18 12, false, true⟩ = some f) :
    forceReport v s = report [⟨bits v 26 23 + 1, bits v 22 19, bits v 18 12, false, true⟩] (forceLeaf f s) := by
  have hsome : (leafOf ⟨bits v 26 23 + 1, bits v 22 19, 0⟩).isNone = false := by simpa using hsrc
  simp only [forceReport, hcored, State.not_inState_slate hslate, hsome, hleaf]
  rfl

/-! ### Check-bit injections, R451 -/

theorem exec_checkBitInjectionArm (v : Word) (s : State) : exec (.checkBitInjectionArm v) s = .next (writeCbi v.toNat s) := rfl

theorem writeCbi_wide {v : Nat} (hgo : bitAt v 31 = true) (hwide : 2 < popCount 7 v) (s : State) :
    writeCbi v s = raise Src.FC_SETTING_REFUSED s := if_pos (.inr ⟨hgo, by omega, by omega⟩)

theorem writeCbi_arms {v : Nat} (hmem : bits v 28 26 ≤ 4) (hgo : bitAt v 31 = true) (hbits : popCount 7 v = 1 ∨ popCount 7 v = 2) (s : State) :
    writeCbi v s = ((((s.set R.FC_CBI.MEM (bits v 28 26)).set R.FC_CBI.MASK (v % 128)).set R.FC_CBI.ARMED 1).set R.FC_CBI.DONE 0).modFc
      (fun f => { f with
        cbiStored := decide (bits v 28 26 = 4)
          && ((s.set R.FC_CBI.MEM (bits v 28 26)).set R.FC_CBI.MASK (v % 128)).bit R.WF_CAPSTAT.BUSY }) := by
  unfold writeCbi
  rw [if_neg (by omega)]
  dsimp only
  exact if_pos hgo

theorem exec_eccError (m : Fin 5) (a : Nat) (u : Bool) (y : BitVec 7) (s : State) :
    exec (.eccError m a u y) s = .next (eccError m a u y.toNat s) := rfl

/-- The read of the injected word ends the injection: what it finds is the mask itself, so nothing is observed. -/
theorem eccError_injected {s : State} {m a y : Nat} {u : Bool} (hcored : s.cored = true) (harmed : s.bit R.FC_CBI.ARMED = true)
    (hstored : s.fc.cbiStored = true) (hmem : s.get R.FC_CBI.MEM = m) (haddr : s.get R.FC_CBI_ADDR = a) (hmask : y = s.get R.FC_CBI.MASK) :
    eccError m a u y s = faultReport ⟨14, if popCount 7 y = 2 then 5 else 4, m, false, true⟩
      (((s.set R.FC_CBI.ARMED 0).modFc (fun f => { f with cbiStored := false })).set R.FC_CBI.DONE 1) := by
  subst hmask
  simp [eccError, hcored, harmed, hstored, hmem, haddr]

/-- Without an injection an error is observed. -/
theorem eccError_observed {s : State} (hcored : s.cored = true) (harmed : s.bit R.FC_CBI.ARMED = false) (m a y : Nat) (u : Bool) :
    eccError m a u y s = faultReport ⟨14, if u then 5 else 4, m, true, false⟩ s := by
  simp [eccError, hcored, harmed]

theorem exec_injectionMiss (s : State) : exec .injectionMiss s = .next (missInjection s) := rfl

theorem missInjection_armed {s : State} (harmed : s.bit R.FC_CBI.ARMED = true) (hstored : s.fc.cbiStored = true) :
    missInjection s = raise Src.FC_INJ_MISS ((s.set R.FC_CBI.ARMED 0).modFc (fun f => { f with cbiStored := false })) := by
  simp [missInjection, harmed, hstored]

/-- Settles O43, by the cases of FORCE, of an arming and of an error. -/
theorem injectedFaults : Obligations.InjectedFaults := by
  unfold Obligations.InjectedFaults
  refine ⟨?forced, ?slate, ?arms, ?wide, ?injected, ?observed, ?miss⟩
  case forced => exact fun s v f hcored hslate hsrc hleaf => by rw [exec_forceReport, forceReport_of_leaf hcored hslate hsrc hleaf, forceLeaf]
  case slate => exact fun s v h => by rw [exec_forceReport, forceReport_slate h]
  case arms =>
    intro s v hmem hgo hbits
    refine ⟨_, exec_checkBitInjectionArm v s, ?_⟩
    rw [writeCbi_arms hmem hgo hbits]
    have hlt : bits v.toNat 28 26 < 2 ^ 3 := by omega
    have hregs : OnlyRegs s ((((s.set R.FC_CBI.MEM (bits v.toNat 28 26)).set R.FC_CBI.MASK (v.toNat % 128)).set R.FC_CBI.ARMED 1).set R.FC_CBI.DONE 0)
        [R.FC_CBI.MEM, R.FC_CBI.MASK, R.FC_CBI.ARMED, R.FC_CBI.DONE] :=
      ((((OnlyRegs.of_regs rfl _).set _ (by simp)).set _ (by simp)).set _ (by simp)).set _ (by simp)
    simp only [State.modFc_get]
    refine ⟨?_, ?_, ?_, State.get_set_self .., hregs⟩
    · rw [State.get_set_of_ne _ _ (by decide), State.get_set_of_ne _ _ (by decide), State.get_set_of_ne _ _ (by decide), State.get_set_self]
      exact Nat.mod_eq_of_lt hlt
    · rw [State.get_set_of_ne _ _ (by decide), State.get_set_of_ne _ _ (by decide), State.get_set_self]
      exact Nat.mod_mod _ _
    · rw [State.get_set_of_ne _ _ (by decide), State.get_set_self]
      rfl
  case wide => exact fun s v hgo hwide => by rw [exec_checkBitInjectionArm, writeCbi_wide hgo hwide]
  case injected =>
    exact fun s m a u y hcored harmed hstored hmem haddr hmask => by rw [exec_eccError, eccError_injected hcored harmed hstored hmem haddr hmask]
  case observed => exact fun s m a u y hcored harmed => by rw [exec_eccError, eccError_observed hcored harmed]
  case miss => exact fun s harmed hstored => by rw [exec_injectionMiss, missInjection_armed harmed hstored]

end Sys2Proof.Machine
end
section
/-!
PROOFS. A Black report (16_fault_collector.md, R447 and R449): what the device is in once its actions are taken, whatever reports they cause.
-/
namespace Sys2Proof.Machine

/-! ### What is judged of a report writes -/

/-- The place of a field that judging a report may write: messages, records of first causes, losses, windows and the group's first cause. -/
abbrev JudgeKey (k : Nat) : Prop :=
  MessageKey k ∨ (0xE0000 ≤ k / 32 ∧ k / 32 < 0xE0010) ∨ (0xE0014 ≤ k / 32 ∧ k / 32 < 0xE0040) ∨ (0xE0080 ≤ k / 32 ∧ k / 32 < 0xE0400)

theorem judgeKey_of_filing {k : Nat} (h : FilingKey k) : JudgeKey k := by
  rcases h with h | h | ⟨-, hlo, hhi⟩
  · exact .inl h
  · refine .inr (.inr (.inl ?_))
    simp only [List.mem_cons, List.not_mem_nil, or_false] at h
    omega
  · exact .inr (.inr (.inr (by omega)))

theorem judgeKey_of_window {k : Nat} (h : WindowKey k) : JudgeKey k := by
  simp only [WindowKey, JudgeKey] at h ⊢
  omega

/-- The words of the first cause of block `n + 1`. -/
theorem judgeKey_firstCause {n : Nat} (hn : n < 16) :
    JudgeKey (R.FC_STAT.HELD n).key ∧ JudgeKey (R.FC_LOST.LOST n).key ∧ JudgeKey (R.FC_FIRST.SRC n).key ∧ JudgeKey (R.FC_FIRST.INSTANCE n).key
      ∧ JudgeKey (R.FC_FIRST.CLASS n).key ∧ JudgeKey (R.FC_FIRST.SCOPE n).key ∧ JudgeKey (R.FC_FIRST.OBSERVED n).key
      ∧ JudgeKey (R.FC_FIRST.INJECTED n).key ∧ JudgeKey (R.FC_FIRST.EARLIER_REMOTE n).key ∧ JudgeKey (R.FC_FIRST_TSC_LO n).key
      ∧ JudgeKey (R.FC_FIRST_TSC_HI n).key := by
  simp only [JudgeKey, Fld.key, R.FC_STAT.HELD, R.FC_LOST.LOST, R.FC_FIRST.SRC, R.FC_FIRST.INSTANCE, R.FC_FIRST.CLASS, R.FC_FIRST.SCOPE,
    R.FC_FIRST.OBSERVED, R.FC_FIRST.INJECTED, R.FC_FIRST.EARLIER_REMOTE, R.FC_FIRST_TSC_LO, R.FC_FIRST_TSC_HI]
  omega

theorem fileRecord_within {r : ReportArg} (hr : r.block ≤ 16) (c : Nat) (obs inj : Bool) (s : State) :
    Within JudgeKey s (fileRecord r c obs inj s) := by
  obtain ⟨hheld, -, hsrc, hinst, hclass, hscope, hobs, hinj, hremote, hlo, hhi⟩ := judgeKey_firstCause (n := r.block - 1) (by omega)
  have hrecord : Within JudgeKey s ((((s.set (R.FC_STAT.HELD (r.block - 1)) 1).set (R.FC_FIRST.SRC (r.block - 1)) r.src).set
      (R.FC_FIRST.INSTANCE (r.block - 1)) r.inst).set (R.FC_FIRST.CLASS (r.block - 1)) c) :=
    ((((Within.refl s).set hheld 1).set hsrc _).set hinst _).set hclass c
  exact ((((hrecord.set hscope _).set hobs _).set hinj _).set hremote 0).set64 hlo hhi _

theorem reheld_within {b : Nat} (hb : b ≤ 16) (s : State) : Within JudgeKey s (reheld b s) := by
  obtain ⟨hheld, -⟩ := judgeKey_firstCause (n := b - 1) (by omega)
  unfold reheld
  extract_lets net x
  have hx : Within JudgeKey s x := .ite (.of_regs rfl) (.refl s)
  exact (hx.set hheld 1).modCyc _

theorem keepReport_within {r : ReportArg} (hr : r.block ≤ 16) (c : Nat) (s : State) : Within JudgeKey s (keepReport r c s).1 := by
  obtain ⟨-, hlost, -⟩ := judgeKey_firstCause (n := r.block - 1) (by omega)
  have hcount : JudgeKey (R.FC_LOSTCNT r.block).key := by
    simp only [JudgeKey, Fld.key, R.FC_LOSTCNT]
    omega
  unfold keepReport
  extract_lets n freed x held replace
  have hx : Within JudgeKey s x := .modCyc (.ite (reheld_within hr s) (.refl s)) _
  split
  · exact (hx.trans (fileRecord_within hr ..)).trans ((capture_within ..).mono fun _ => judgeKey_of_filing)
  · exact (Within.set (t := x.noteSet _) (hx.update rfl) hlost 1).inc hcount

theorem joinReport_within {r : ReportArg} (hr : r.block ≤ 16) (s : State) : Within JudgeKey s (joinReport r s) := by
  obtain ⟨-, -, -, -, -, -, hobs, hinj, -⟩ := judgeKey_firstCause (n := r.block - 1) (by omega)
  have hx : Within JudgeKey s (if r.injected then s.set (R.FC_FIRST.INJECTED (r.block - 1)) 1 else s) := .ite ((Within.refl s).set hinj 1) (.refl s)
  unfold joinReport
  exact .ite (.ite (hx.set hobs 1) hx) (.refl s)

/-- What is judged of a report, in the three ways of R440 to R443. -/
theorem judged_keeps {P : State → Prop} {r : ReportArg} {s : State} (hjoin : P (joinReport r (s.reportNoted r.block)))
    (hwin : ∀ w, w ≤ 8 → P ((s.reportNoted r.block).inc (R.FC_WIN.CONSEQ w)))
    (hjudge : P (judgeReport r (s.classOf r.block r.src r.inst) (s.scope r) (s.reportNoted r.block)).1) (hcyc : ∀ x f, P x → P (x.modCyc f)) :
    P (judged r s).1 := by
  unfold judged
  extract_lets c w x p
  dsimp only
  refine hcyc _ _ ?_
  unfold p
  split
  · exact hjoin
  · split
    · have := s.scope_le r
      exact hwin _ (by split <;> omega)
    · exact hjudge

theorem judged_within {r : ReportArg} (hr : r.block ≤ 16) (s : State) : Within JudgeKey s (judged r s).1 := by
  refine judged_keeps (P := Within JudgeKey s) ((joinReport_within hr _).after rfl) (fun w hw => ?_) ?_ fun x f hx => hx.modCyc f
  · exact Within.after ((Within.refl _).inc (judgeKey_of_window (windowKey hw).2.2.2)) rfl
  · obtain ⟨-, hwindows⟩ := judgeReport_within (s.scope_le r) r (s.classOf r.block r.src r.inst) (s.reportNoted r.block)
    exact ((keepReport_within hr _ _).trans (hwindows.mono fun _ => judgeKey_of_window)).after rfl

theorem judged_links (r : ReportArg) (s : State) : (judged r s).1.links = s.links :=
  judged_keeps (P := fun x => x.links = s.links) (joinReport_links r _) (fun _ _ => rfl) (judgeReport_links r _ _ _) fun _ _ => id

theorem judged_pw {r : ReportArg} (hr : r.block ≤ 16) (s : State) : (judged r s).1.pw = s.pw :=
  judged_keeps (P := fun x => x.pw = s.pw) (joinReport_kept (.refl _) hr).pw (fun _ _ => rfl)
    (judgeReport_kept (.refl _) hr (s.scope_le r) _).kept.pw fun _ _ => id

/-! ### Urgent sets, R447 -/

theorem requestUrgent_black {n : Nat} {s : State} (h : s.up n = true) : ((requestUrgent n .black s).link n).urgQ = [.black] := by
  rw [requestUrgent, if_pos h, State.link_modLink, if_pos rfl]

theorem requestUrgent_black_keeps {n : Nat} {s : State} (m : Nat) (h : (s.link n).urgQ = [.black]) : ((requestUrgent m .black s).link n).urgQ = [.black] := by
  unfold requestUrgent
  split
  · rw [State.link_modLink]
    split
    · rfl
    · exact h
  · exact h

theorem blackEntry_links (s : State) : (blackEntry s).1.links = s.links := by
  unfold blackEntry
  split
  · exact enterSafe_links s
  · dsimp only
    exact parkCells_links s

theorem blackActions_link (n : Nat) (s : State) :
    (blackActions s).1.link n = ((blackEntry s).1.each lanes64 fun m x => requestUrgent m .black x).link n := by
  rw [blackActions_eq]
  exact State.link_of_links (by rw [State.modCyc_links, State.set_links, State.set_links, State.set_links]) n

/-- A Black set that waits alone still does after the actions. -/
theorem blackActions_urgent_keeps {n : Nat} {s : State} (h : (s.link n).urgQ = [.black]) : ((blackActions s).1.link n).urgQ = [.black] := by
  rw [blackActions_link]
  refine State.each_keeps (P := fun x => (x.link n).urgQ = [.black]) ?_ fun m _ x hx => requestUrgent_black_keeps m hx
  rw [State.link_of_links (blackEntry_links s)]
  exact h

/-- Every lane in UP is asked for a Black set, which replaces what waits. -/
theorem blackActions_urgent {n : Nat} {s : State} (hn : n < 64) (h : s.up n = true) : ((blackActions s).1.link n).urgQ = [.black] := by
  have hstate : (blackEntry s).1.up n = true := by
    have hkey : ¬ (ParkKey (R.LN_STAT.STATE n).key ∨ (R.LN_STAT.STATE n).key / 32 = O.RUN_REQUEST.addr) := by
      have haddr : O.RUN_REQUEST.addr = 270532866 := by decide
      simp only [ParkKey, Fld.key, R.LN_STAT.STATE, haddr, List.mem_cons, List.not_mem_nil, or_false]
      omega
    unfold State.up at h ⊢
    rw [(blackEntry_within s).get _ hkey]
    exact h
  rw [blackActions_link]
  refine State.each_reaches (P := fun x => x.up n = true) (Q := fun x => (x.link n).urgQ = [.black]) (List.mem_range.2 hn) hstate (fun m x hx => ?_)
    (fun x hx => requestUrgent_black hx) fun m x hx => requestUrgent_black_keeps m hx
  unfold State.up at hx ⊢
  rw [State.get_of_regs (requestUrgent_regs_pw m .black x).1]
  exact hx

/-! ### Safe -/

theorem Reported.stays_safe {s t : State} (h : Reported s t) (hs : s.pw.state = .safe) : t.pw.state = .safe := h.state.elim (·.trans hs) id

theorem enterSafe_state (s : State) : (enterSafe s).1.pw.state = .safe := by
  have hreported : Reported ({ s with pw := { s.pw with state := .safe } }.set O.RUN_REQUEST 0) (enterSafe s).1 :=
    ((parkCells_reported _).trans (phasorStart_reported _)).trans (stopInjection_reported _)
  exact hreported.stays_safe rfl

/-- A Black report in Armed or Run enters Safe (R447). -/
theorem blackActions_state {s : State} (h : s.inState [.armed, .run] = true) : (blackActions s).1.pw.state = .safe := by
  rw [blackActions_eq]
  have hurgent : ∀ x : State, (x.each lanes64 fun n y => requestUrgent n .black y).pw = x.pw := fun x =>
    State.each_keeps (P := fun y => y.pw = x.pw) rfl fun n _ y hy => (requestUrgent_regs_pw n .black y).2.trans hy
  rw [State.modCyc_pw, State.set_pw, State.set_pw, State.set_pw, hurgent, blackEntry, if_pos h]
  exact enterSafe_state s

theorem get_of_regs_urgent (s : State) (f : Fld) : (s.each lanes64 fun n x => requestUrgent n .black x).get f = s.get f :=
  State.get_of_regs (urgent_regs s) f

theorem blackActions_runRequest (s : State) : (blackActions s).1.get O.RUN_REQUEST = (blackEntry s).1.get O.RUN_REQUEST := by
  rw [blackActions_eq]
  dsimp only
  rw [State.modCyc_get, State.get_set_of_ne _ _ (by decide), State.get_set_of_ne _ _ (by decide), State.get_set_of_ne _ _ (by decide),
    get_of_regs_urgent]

theorem runRequest_not_parkKey : ¬ ParkKey O.RUN_REQUEST.key := by decide

/-- The run request clears where Safe is entered, and stands where the device is in neither Armed nor Run. -/
theorem blackEntry_runRequest (s : State) :
    (blackEntry s).1.get O.RUN_REQUEST = if s.inState [.armed, .run] then 0 else s.get O.RUN_REQUEST := by
  unfold blackEntry
  split
  · rw [(enterSafe_within s).get _ runRequest_not_parkKey, State.get_set_self]
    rfl
  · dsimp only
    exact (parkCells_within s).get _ runRequest_not_parkKey

/-- What a Black report leaves the device in (R447, R449): Safe without a run request, nFAULT driven with its pulse, and a Black set that waits alone on
each lane of the list. -/
structure InSafe (lanes : List Nat) (t : State) : Prop where
  state : t.pw.state = .safe
  request : t.get O.RUN_REQUEST = 0
  drive : t.get R.FC_NFAULT.DRIVE = 1
  pulse : t.get R.FC_NFAULT.PULSE = 1
  urgent : ∀ n ∈ lanes, (t.link n).urgQ = [.black]

section
variable {lanes : List Nat} {s : State}

theorem InSafe.judged (h : InSafe lanes s) {r : ReportArg} (hr : r.block ≤ 16) : InSafe lanes (judged r s).1 := by
  have hwithin := judged_within hr s
  refine ⟨?_, ?_, ?_, ?_, fun n hn => ?_⟩
  · rw [judged_pw hr, h.state]
  · rw [hwithin.get _ (by decide), h.request]
  · rw [hwithin.get _ (by decide), h.drive]
  · rw [hwithin.get _ (by decide), h.pulse]
  · rw [State.link_of_links (judged_links r s), h.urgent n hn]

theorem InSafe.blackActions (h : InSafe lanes s) : InSafe lanes (blackActions s).1 := by
  have hstate : s.inState [.armed, .run] = false := by simp [State.inState, h.state]
  obtain ⟨hdrive, hpulse⟩ := blackActions_nfault s
  refine ⟨(blackActions_reported s).stays_safe h.state, ?_, hdrive, hpulse, fun n hn => blackActions_urgent_keeps (h.urgent n hn)⟩
  rw [blackActions_runRequest, blackEntry_runRequest, hstate, if_neg Bool.false_ne_true, h.request]

theorem InSafe.takeOne (h : InSafe lanes s) {r : ReportArg} (hr : r.block ≤ 16) : InSafe lanes (takeOne r s).1 := by
  rw [takeOne_eq]
  split
  · exact (h.judged hr).blackActions
  · exact h.judged hr

/-- A field that no report writes serves to name the blocks of the reports that a report causes. -/
theorem takeOne_blocks {r : ReportArg} (hr : r.block ≤ 16) (s : State) : ∀ x ∈ (Machine.takeOne r s).2, x.block ≤ 16 :=
  (takeOne_get_blocks (f := R.FC_SEV 1 0) (by decide) hr s).2

theorem InSafe.takeAll (k : Nat) {l : List ReportArg} (hl : ∀ r ∈ l, r.block ≤ 16) (h : InSafe lanes s) : InSafe lanes (takeAll k l s) := by
  induction k generalizing l s with
  | zero => exact h
  | succ k ih =>
    cases l with
    | nil => exact h
    | cons r rs =>
      have hr : r.block ≤ 16 := hl r List.mem_cons_self
      refine ih (fun x hx => ?_) (h.takeOne hr)
      exact (List.mem_append.1 hx).elim (fun hx => hl x (List.mem_cons_of_mem r hx)) (takeOne_blocks hr s x)

end

/-- The report of a Black source in Armed or Run. -/
theorem takeOne_black {r : ReportArg} {s : State} (hr : r.block ≤ 16) (hstate : s.inState [.armed, .run] = true) (hobserved : r.observed = true)
    (hclass : s.classOf r.block r.src r.inst = 3) : InSafe (lanes64.filter s.up) (takeOne r s).1 := by
  have htake : (takeOne r s).1 = (blackActions (judged r s).1).1 := by rw [takeOne_eq, if_pos ⟨hclass, .inl hobserved⟩]
  have hjudged : (judged r s).1.inState [.armed, .run] = true := by unfold State.inState; rw [judged_pw hr]; exact hstate
  obtain ⟨hdrive, hpulse⟩ := blackActions_nfault (judged r s).1
  rw [htake]
  refine ⟨blackActions_state hjudged, ?_, hdrive, hpulse, fun n hn => ?_⟩
  · rw [blackActions_runRequest, blackEntry_runRequest, hjudged, if_pos rfl]
  · obtain ⟨hmem, hup⟩ := List.mem_filter.1 hn
    have hlt : n < 64 := lane_lt hmem
    refine blackActions_urgent hlt ?_
    have hkey : ¬ JudgeKey (R.LN_STAT.STATE n).key := by
      simp only [JudgeKey, MessageKey, Fld.key, R.LN_STAT.STATE, List.mem_cons, List.not_mem_nil, or_false]
      omega
    unfold State.up at hup ⊢
    rw [(judged_within hr s).get _ hkey]
    exact hup

/-! ### The leaf -/

/-- Leaves but those of the trip inputs begin low in their word. -/
theorem leafOf_low {r : Src} {f : Fld} (hinst : r.inst < 128) (h : leafOf r = some f) : 
    f.key % 32 < 17 ∨ (0x60008 ≤ f.key / 32 ∧ f.key / 32 < 0x60010) := by
  obtain ⟨hpos, hblock, hsrc⟩ := leafOf_bounds h
  obtain ⟨b, i, n⟩ := r
  obtain ⟨a, l, w, acc, z⟩ := f
  dsimp only at *
  interval_cases b <;> interval_cases i <;> cases h <;> dsimp only [Fld.key] <;> omega

theorem instCount_le (b i : Nat) : instCount b i ≤ 128 := by unfold instCount; split_ifs <;> omega

theorem leafOf_of_leafFor {r : ReportArg} {f : Fld} (h : leafFor r = some f) : leafOf ⟨r.block, r.src, r.inst⟩ = some f ∧ r.inst < 128 := by
  unfold leafFor at h
  split at h
  · exact ⟨h, Nat.lt_of_lt_of_le ‹_› (instCount_le _ _)⟩
  · cases h

/-- An observed report whose leaf is clear sets it and is taken, injected or not. -/
theorem faultReport_observed {r : ReportArg} {f : Fld} {s : State} (hleaf : leafFor r = some f) (hcored : s.cored = true) (hclear : s.bit f = false)
    (hobserved : r.observed = true) : ∃ g, faultReport r s = report [r] ((s.set f 1).modCyc g) := by
  unfold faultReport
  simp only [hleaf, hcored, hobserved]
  cases hinj : r.injected with
  | true =>
    refine ⟨fun c => { c with forced := f.key :: c.forced }, ?_⟩
    simp [forceLeaf, hclear]
  | false =>
    refine ⟨fun c => { c with sets := f.key :: c.sets }, ?_⟩
    simp [setLeaf, hclear]
    rfl

theorem report_one (r : ReportArg) (s : State) : report [r] s = takeAll 8 (takeOne r s).2 (takeOne r s).1 := rfl

/-- The write of a leaf leaves the class of its source. -/
theorem classOf_set_leaf {r : ReportArg} {f : Fld} (hleaf : leafFor r = some f) (s : State) (g : CoreCycle → CoreCycle) :
    ((s.set f 1).modCyc g).classOf r.block r.src r.inst = s.classOf r.block r.src r.inst := by
  obtain ⟨hf, hinst⟩ := leafOf_of_leafFor hleaf
  obtain ⟨hpos, hblock, hsrc⟩ := leafOf_bounds hf
  have hne : f.key ≠ (R.FC_SEV r.block r.src).key := by
    dsimp only at hpos hblock hsrc
    refine leafOf_key_ne hinst hf ?_ ?_ ?_ <;> simp only [Fld.key, R.FC_SEV] <;> omega
  have hsev : ((s.set f 1).modCyc g).get (R.FC_SEV r.block r.src) = s.get (R.FC_SEV r.block r.src) := State.get_set_of_ne s 1 hne
  simp only [State.classOf, hsev]
  rfl

theorem up_set_leaf {r : ReportArg} {f : Fld} (hleaf : leafFor r = some f) (n : Nat) (s : State) (g : CoreCycle → CoreCycle) :
    ((s.set f 1).modCyc g).up n = s.up n := by
  obtain ⟨hf, hinst⟩ := leafOf_of_leafFor hleaf
  have hne : f.key ≠ (R.LN_STAT.STATE n).key := by
    have := leafOf_low hinst hf
    intro e
    rw [e] at this
    simp only [Fld.key, R.LN_STAT.STATE] at this
    omega
  simp only [State.up, State.modCyc_get, State.get_set_of_ne s 1 hne]

/-- Settles O55: the actions of the report put the device in Safe (`takeOne_black`), and the reports that they cause leave that as it is (`InSafe.takeAll`). -/
theorem blackReportEntersSafe : Obligations.BlackReportEntersSafe := by
  unfold Obligations.BlackReportEntersSafe
  intro s r f hstate hleaf hclear hobserved hclass
  have hcored : s.cored = true := by rcases hstate with h | h <;> simp [State.cored, State.inState, h]
  have hin : s.inState [.armed, .run] = true := by rcases hstate with h | h <;> simp [State.inState, h]
  have hblock : r.block ≤ 16 := (leafOf_bounds (leafOf_of_leafFor hleaf).1).2.1
  obtain ⟨g, hreport⟩ := faultReport_observed hleaf hcored hclear hobserved
  have hone := takeOne_black (s := (s.set f 1).modCyc g) hblock hin hobserved (by rw [classOf_set_leaf hleaf, hclass])
  obtain ⟨hsafe, hrequest, hdrive, hpulse, hurgent⟩ := hone.takeAll 8 (takeOne_blocks hblock _)
  refine ⟨_, congrArg Host.Outcome.next (hreport.trans (report_one ..)), hsafe, hrequest, hdrive, hpulse, fun n hn hup => hurgent n ?_⟩
  exact List.mem_filter.2 ⟨List.mem_range.2 hn, by rw [up_set_leaf hleaf, hup]⟩

end Sys2Proof.Machine
end
section
/-!
PROOFS. Reports and leaves, windows and the clears of software (16_fault_collector.md, R434 and R440 to R445).
-/
namespace Sys2Proof.Machine

/-! ### Reports and their leaves, R434 -/

theorem exec_faultReport (r : ReportArg) (s : State) : exec (.faultReport r) s = .next (faultReport r s) := rfl

theorem faultReport_not_cored {s : State} (h : s.cored = false) (r : ReportArg) : faultReport r s = s := by
  unfold faultReport
  split
  · rfl
  · rw [if_pos (.inl (by rw [h]; rfl))]

section
variable {b i n : Nat} {f : Fld} {s : State} (hleaf : leafFor ⟨b, i, n, true, false⟩ = some f)
include hleaf

/-- An observed report that is not injected goes by its leaf. -/
theorem faultReport_of_leaf (hcored : s.cored = true) :
    faultReport ⟨b, i, n, true, false⟩ s = report (setLeaf f ⟨b, i, n, true, false⟩ s).2 (setLeaf f ⟨b, i, n, true, false⟩ s).1 := by
  simp [faultReport, hleaf, hcored]

theorem faultReport_clear (hcored : s.cored = true) (hclear : s.bit f = false) :
    faultReport ⟨b, i, n, true, false⟩ s = report [⟨b, i, n, true, false⟩] ((s.noteSet f).set f 1) := by
  rw [faultReport_of_leaf hleaf hcored, setLeaf, hclear]
  rfl

/-- A leaf that a forced report has set is taken by the first event of the core cycle. -/
theorem faultReport_forced (hcored : s.cored = true) (hset : s.bit f = true) (hforced : f.key ∈ s.cyc.forced) :
    faultReport ⟨b, i, n, true, false⟩ s
      = report [⟨b, i, n, true, false⟩] { s with cyc := { s.cyc with sets := f.key :: s.cyc.sets, forced := s.cyc.forced.filter (fun k => k != f.key) } } := by
  rw [faultReport_of_leaf hleaf hcored]
  simp [setLeaf, hset, hforced]
  rfl

/-- A report whose leaf is set is none: only the record of the core cycle notes it. -/
theorem faultReport_set (hset : s.bit f = true) (hforced : f.key ∉ s.cyc.forced) :
    ∃ c, faultReport ⟨b, i, n, true, false⟩ s = { s with cyc := c } := by
  cases hcored : s.cored with
  | false => exact ⟨s.cyc, faultReport_not_cored hcored _⟩
  | true =>
    refine ⟨{ s.cyc with sets := f.key :: s.cyc.sets, again := ⟨b, i, n, true, false⟩ :: s.cyc.again }, ?_⟩
    rw [faultReport_of_leaf hleaf hcored]
    simp [setLeaf, hset, hforced]
    rfl

end

/-! ### A report in the core cycle of a clear, R442 -/

/-- The clear counts as not done: HELD and the record are as they were, and the report is lost. -/
theorem keepReport_freed {r : ReportArg} {c : Nat} {s : State} (h : s.cyc.released.contains r.block = true) :
    keepReport r c s
      = ((((((reheld r.block s).modCyc fun x => { x with held := r.block :: x.held }).noteSet (R.FC_LOST.LOST (r.block - 1))).set
          (R.FC_LOST.LOST (r.block - 1)) 1).inc (R.FC_LOSTCNT r.block)), []) := by
  have hheld : (reheld r.block s).bit (R.FC_STAT.HELD (r.block - 1)) = true := by
    refine State.bit_of_get_one ?_
    unfold reheld
    rw [State.modCyc_get, State.get_set_self]
    rfl
  simp [keepReport, -List.contains_eq_mem, h, hheld]

theorem State.set_regs_congr {s t : State} (h : t.regs = s.regs) (f : Fld) (v : Nat) : (t.set f v).regs = (s.set f v).regs := by
  simp only [State.set, h]

theorem State.inc_regs_congr {s t : State} (h : t.regs = s.regs) (f : Fld) : (t.inc f).regs = (s.inc f).regs := by
  have hget : t.get f = s.get f := State.get_of_regs h f
  show (t.set f _).regs = (s.set f _).regs
  rw [hget, State.set_regs_congr h]

theorem reheld_regs (b : Nat) (s : State) : (reheld b s).regs = (s.set (R.FC_STAT.HELD (b - 1)) 1).regs := by
  unfold reheld
  rw [State.modCyc_regs]
  exact State.set_regs_congr (by split <;> rfl) _ _

/-- What that writes: HELD, the loss, and the windows. -/
theorem report_freed {r : ReportArg} {s : State} (hreleased : s.cyc.released.contains r.block = true) (hjoins : s.joins r = false)
    (hclass : s.classOf r.block r.src r.inst < 3) (hwin : s.winHolds (s.scope r) (s.classOf r.block r.src r.inst) = false)
    (hgroup : s.winHolds 8 (s.classOf r.block r.src r.inst) = false) :
    Within WindowKey (((s.set (R.FC_STAT.HELD (r.block - 1)) 1).set (R.FC_LOST.LOST (r.block - 1)) 1).inc (R.FC_LOSTCNT r.block)) (report [r] s) := by
  obtain ⟨hsnd, hwithin, -⟩ := judged_of_no_window hjoins hwin hgroup
  rw [keepReport_freed (s := s.reportNoted r.block) hreleased] at hsnd hwithin
  have htake : takeOne r s = judged r s := by rw [takeOne_eq, if_neg fun h => absurd h.1 (Nat.ne_of_lt hclass)]
  rw [report_one, htake, hsnd]
  exact hwithin.after (State.inc_regs_congr (State.set_regs_congr (reheld_regs r.block (s.reportNoted r.block)) _ _) _)

/-! ### Windows, R443 -/

theorem exec_coalescingWindowClose (w : Fin 9) (s : State) : exec (.coalescingWindowClose w) s = .next (closeWindow w s) := rfl

theorem closeWindow_quiet {w : Nat} {s : State} (hopen : s.winOpen w = true) (hend : Tab.get 0 s.fc.winEnd w ≤ s.ts.tsc)
    (hconseq : s.get (R.FC_WIN.CONSEQ w) = 0) : closeWindow w s = s.set (R.FC_WIN.OPEN w) 0 := by
  simp [closeWindow, hopen, hend, hconseq]

/-- A window that counted consequences posts their count. -/
theorem closeWindow_counted {w : Nat} {s : State} (hopen : s.winOpen w = true) (hend : Tab.get 0 s.fc.winEnd w ≤ s.ts.tsc)
    (hconseq : s.get (R.FC_WIN.CONSEQ w) ≠ 0) :
    closeWindow w s = postRec { typ := 2, cls := s.get (R.FC_WIN.CLASS w), plane := 2, observed := true, block := 14, inst := w, payload := leBytes 1 w ++ leBytes 1 (s.get (R.FC_WIN.CLASS w)) ++ leBytes 1 (s.get (R.FC_WIN.FIRST_BLOCK w) + 1) ++ leBytes 2 (s.get (R.FC_WIN.CONSEQ w)) }
      (s.set (R.FC_WIN.OPEN w) 0) := by
  have hclass : (s.set (R.FC_WIN.OPEN w) 0).get (R.FC_WIN.CLASS w) = s.get (R.FC_WIN.CLASS w) := State.get_set_apart s 0 rfl
  have hfirst : (s.set (R.FC_WIN.OPEN w) 0).get (R.FC_WIN.FIRST_BLOCK w) = s.get (R.FC_WIN.FIRST_BLOCK w) := State.get_set_apart s 0 rfl
  have hplane : planeOf 14 0 = 2 := by decide
  simp only [closeWindow, hopen, hend, hclass, hfirst, hplane]
  rw [if_pos ⟨trivial, trivial⟩, if_neg hconseq]

theorem OnlyRegs.modCyc {s t : State} {l : List Fld} (h : OnlyRegs s t l) (f : CoreCycle → CoreCycle) : OnlyRegs s (t.modCyc f) l := h

/-! ### Held records, R440, R442 and R544 -/

theorem bitList_one_bit : ∀ n : Fin 16, bitList 16 (2 ^ n.val) = [n.val] := by decide

theorem exec_heldClear (n : Fin 16) (s : State) : exec (.heldClear (2 ^ n.val)) s = .next (releaseHeld (n.val + 1) s) := by
  show Host.Outcome.next (writeHeld (2 ^ n.val) s) = _
  rw [writeHeld, bitList_one_bit, State.each_cons, State.each_nil]

theorem releaseHeld_kept {b : Nat} {s : State} (h : s.cyc.held.contains b = true) : releaseHeld b s = s := by
  simp [releaseHeld, -List.contains_eq_mem, h]

/-- The last held record of the Root is released with the error-reset message. -/
theorem releaseHeld_root {n : Nat} {s : State} (hroot : s.isRoot = true) (hheld : s.bit (R.FC_STAT.HELD n) = true)
    (hcyc : s.cyc.held.contains (n + 1) = false) (hothers : ∀ m, m < 16 → m ≠ n → s.bit (R.FC_STAT.HELD m) = false) (hemcy : s.net.emcy.length < 16) :
    (releaseHeld (n + 1) s).regs = (s.set (R.FC_STAT.HELD n) 0).regs ∧ (releaseHeld (n + 1) s).net.emcy = s.net.emcy ++ [⟨0, []⟩] := by
  have hnone : ∀ m ∈ List.range 16, (s.set (R.FC_STAT.HELD n) 0).bit (R.FC_STAT.HELD m) = false := by
    intro m hm
    by_cases e : m = n
    · subst e
      rw [State.bit, State.get_set_self]
      rfl
    · have hne : (R.FC_STAT.HELD n).key ≠ (R.FC_STAT.HELD m).key := by
        simp only [Fld.key, R.FC_STAT.HELD]
        omega
      rw [State.bit_set_of_ne s 0 hne, hothers m (List.mem_range.1 hm) e]
  have hall : ((List.range 16).all fun m => !(s.set (R.FC_STAT.HELD n) 0).bit (R.FC_STAT.HELD m)) = true :=
    List.all_eq_true.2 fun m hm => by rw [hnone m hm]; rfl
  have hkept : (!s.cyc.held.contains (n + 1)) = true := by rw [hcyc]; rfl
  unfold releaseHeld
  rw [if_pos ⟨hheld, hkept⟩]
  dsimp only
  rw [if_pos ⟨hroot, hall, hemcy⟩]
  exact ⟨rfl, rfl⟩

/-! ### LOST and the group's first cause, R441 and R445 -/

theorem exec_lostClear (n : Fin 16) {s : State} (h : (R.FC_LOST.LOST n).key ∉ s.cyc.sets) :
    exec (.lostClear (2 ^ n.val)) s = .next ((s.set (R.FC_LOST.LOST n) 0).set (R.FC_LOSTCNT (n + 1)) 0) := by
  have hset : s.cyc.sets.contains (R.FC_LOST.LOST n).key = false := by simpa using h
  show Host.Outcome.next (writeLost (2 ^ n.val) s) = _
  rw [writeLost, bitList_one_bit, State.each_cons, State.each_nil, if_neg (by rw [hset]; decide)]

theorem exec_groupFirstCauseClear {s : State} (h : R.FC_GRP_INFO.VALID.key ∉ s.cyc.sets) :
    exec .groupFirstCauseClear s = .next (((((s.set R.FC_GRP_INFO.VALID 0).set R.FC_GRP_INFO.LOCAL 0).set R.FC_GRP_INFO.ORIGIN 0).set R.FC_GRP_INFO.SOURCE
      0).set64 R.FC_GRP_T_LO R.FC_GRP_T_HI 0) := by
  have hset : s.cyc.sets.contains R.FC_GRP_INFO.VALID.key = false := by simpa using h
  show Host.Outcome.next (clearGroupFirst s) = _
  rw [clearGroupFirst, if_neg (by rw [hset]; decide)]

/-- Settles O41: by the cases of a report's leaf, of a window and of a clear; a report in the core cycle of the clear is lost (`report_freed`). -/
theorem reportsWindowsAndRecords : Obligations.ReportsWindowsAndRecords := by
  unfold Obligations.ReportsWindowsAndRecords
  refine ⟨?clear, ?set, ?forced, ?uncored, ?freed, ?quiet, ?counted, ?member, ?kept, ?root, ?lost, ?group⟩
  case clear => exact fun s b i n f hcored hleaf hclear => by rw [exec_faultReport, faultReport_clear hleaf hcored hclear]
  case set =>
    intro s b i n f hleaf hset hforced
    obtain ⟨c, hc⟩ := faultReport_set hleaf hset hforced
    exact ⟨_, exec_faultReport _ s, by rw [hc]⟩
  case forced => exact fun s b i n f hcored hleaf hset hforced => by rw [exec_faultReport, faultReport_forced hleaf hcored hset hforced]
  case uncored => exact fun s r h => by rw [exec_faultReport, faultReport_not_cored h]
  case freed =>
    intro s r hpos hblock hsrc hreleased hjoins hclass hwin hgroup
    have hn : r.block - 1 < 16 := by omega
    have hwithin := report_freed hreleased hjoins hclass hwin hgroup
    obtain ⟨hL, hN⟩ := lost_not_afterKey hblock
    have hkept : ∀ f : Fld, 0xE0100 ≤ f.key / 32 → f.key / 32 < 0xE0200 → (report [r] s).get f = s.get f := by
      intro f hlo hhi
      rw [hwithin.get f (by simp only [WindowKey]; omega), State.get_inc_of_ne _ ?_, State.get_set_of_ne _ _ ?_, State.get_set_of_ne _ _ ?_]
      all_goals
        intro e
        rw [← e] at hlo hhi
        simp only [Fld.key, R.FC_STAT.HELD, R.FC_LOST.LOST, R.FC_LOSTCNT] at hlo hhi
        omega
    have hcount : (R.FC_LOST.LOST (r.block - 1)).key ≠ (R.FC_LOSTCNT r.block).key ∧ (R.FC_STAT.HELD (r.block - 1)).key ≠ (R.FC_LOSTCNT r.block).key
        ∧ (R.FC_LOST.LOST (r.block - 1)).key ≠ (R.FC_STAT.HELD (r.block - 1)).key ∧ ¬ WindowKey (R.FC_STAT.HELD (r.block - 1)).key := by
      simp only [WindowKey, Fld.key, R.FC_STAT.HELD, R.FC_LOST.LOST, R.FC_LOSTCNT]
      omega
    obtain ⟨hlc, hhc, hlh, hwh⟩ := hcount
    refine ⟨State.bit_of_get_one ?_, ?_, ?_, State.bit_of_get_one ?_, ?_⟩
    · rw [hwithin.get _ hwh, State.get_inc_of_ne _ hhc.symm, State.get_set_of_ne _ _ hlh, State.get_set_self]
      rfl
    · rw [State.heldSrc, State.heldSrc, hkept, hkept] <;> simp only [Fld.key, R.FC_FIRST.SRC, R.FC_FIRST.INSTANCE] <;> omega
    · rw [State.get64, State.get64, hkept, hkept] <;> simp only [Fld.key, R.FC_FIRST_TSC_LO, R.FC_FIRST_TSC_HI] <;> omega
    · rw [hwithin.get _ fun h => hL (.inr (.inl h)), State.get_inc_of_ne _ hlc.symm, State.get_set_self]
      rfl
    · rw [hwithin.get _ fun h => hN (.inr (.inl h)), State.get_inc_self, State.get_set_of_ne _ _ hlc, State.get_set_of_ne _ _ hhc]
      rfl
  case quiet =>
    intro s w hopen hend hconseq
    refine ⟨_, exec_coalescingWindowClose w s, ?_⟩
    rw [closeWindow_quiet hopen hend hconseq]
    exact ⟨by rw [State.winOpen, State.bit, State.get_set_self]; rfl, (OnlySets.refl s _).set 0 (by simp)⟩
  case counted => exact fun s w hopen hend hconseq => by rw [exec_coalescingWindowClose, closeWindow_counted hopen hend hconseq]
  case member =>
    intro s n hroot hheld hcyc
    refine ⟨_, exec_heldClear n s, ?_⟩
    rw [releaseHeld_member (b := n.val + 1) hroot hheld hcyc]
    refine ⟨?_, rfl, rfl, ((OnlyRegs.of_regs rfl _).set 0 (by simp)).modCyc _⟩
    rw [State.modCyc_bit, Nat.add_sub_cancel, State.bit, State.get_set_self]
    rfl
  case kept => exact fun s n h => by rw [exec_heldClear, releaseHeld_kept h]
  case root =>
    intro s n hroot hheld hcyc hothers hemcy
    obtain ⟨hregs, hnet⟩ := releaseHeld_root hroot hheld hcyc hothers hemcy
    refine ⟨_, exec_heldClear n s, ?_, hnet, fun f hf => ?_⟩
    · rw [State.bit, State.get_of_regs hregs, State.get_set_self]
      rfl
    · rw [State.get_of_regs hregs]
      exact (OnlyRegs.of_regs (l := [R.FC_STAT.HELD n]) rfl).set 0 (by simp) f hf
  case lost =>
    intro s n h
    refine ⟨_, exec_lostClear n h, ?_, State.get_set_self .., ((OnlySets.refl s _).set _ (by simp)).set _ (by simp)⟩
    have hne : (R.FC_LOSTCNT (n + 1)).key ≠ (R.FC_LOST.LOST n).key := by
      simp only [Fld.key, R.FC_LOST.LOST, R.FC_LOSTCNT]
      omega
    rw [State.get_set_of_ne _ _ hne, State.get_set_self]
    rfl
  case group =>
    intro s h
    refine ⟨_, exec_groupFirstCauseClear h, ?_⟩
    simp (disch := decide) only [State.set64, State.get64, State.get_set_of_ne, State.get_set_self]
    refine ⟨rfl, rfl, rfl, rfl, ?_⟩
    exact ((((((OnlySets.refl s _).set 0 (by simp)).set 0 (by simp)).set 0 (by simp)).set 0 (by simp)).set 0 (by simp)).set 0 (by simp)

end Sys2Proof.Machine
end
section
/-!
PROOFS. The thermal monitor (17_thermal.md, R461 to R471): the end of the shutdown sequence, and a sample of sound, cool sensors part by part.
-/
namespace Sys2Proof.Machine

/-! ### The shutdown sequence, R467 -/

theorem endReset_th (c : ResetCause) (drop : Bool) (s : State) : (endReset c drop s).th = {} := by
  cases drop
  · unfold endReset enterColdHold
    simp only [Bool.false_eq_true, if_false]
    split <;> rfl
  · rfl

theorem shutdownEnds_of_noReset {s : State} (h : s.noReset = true) :
    shutdownEnds s = takeReset ((withCause (s.causeOf 7 0) s).modPw fun p => { p with pgoodLoss := true }) := by
  simp [shutdownEnds, latch_noReset h, State.causeOf]

theorem exec_shutdownPwrenDrop {s : State} (h : s.th.shutting = true) : exec .shutdownPwrenDrop s = .next (shutdownEnds s) := by
  show Host.Outcome.next (if s.th.shutting then shutdownEnds s else s) = _
  rw [if_pos h]

theorem exec_peakClear (s : State) : exec .peakClear s = .next ((s.set R.TH_PEAK.PEAK 0x8000).set R.TH_PEAK.SENSOR 0) := rfl

/-! ### Sound sensors, R462 -/

section
variable {rd : Nat → Option Int} {y : Int} {s : State}

theorem placeInt_replicate (y : Int) (n : Nat) : placeInt y (List.replicate n y) = List.replicate (n + 1) y := by
  cases n with
  | zero => rfl
  | succ n => simp [placeInt, List.replicate_succ]

theorem foldr_placeInt_replicate (y : Int) (n : Nat) : (List.replicate n y).foldr placeInt [] = List.replicate n y := by
  induction n with
  | zero => rfl
  | succ n ih => rw [List.replicate_succ, List.foldr_cons, ih, placeInt_replicate]; rfl

/-- Equal readings have themselves as median. -/
theorem median2_replicate (y : Int) {n : Nat} (h : 0 < n) : median2 (List.replicate n y) = some (y + y) := by
  have hlo : (n - 1) / 2 < n := by omega
  have hhi : n / 2 < n := by omega
  simp [median2, foldr_placeInt_replicate, hlo, hhi]

/-- The sensors read one plausible temperature. -/
structure Alike (rd : Nat → Option Int) (y : Int) : Prop where
  reads : ∀ i, i < 12 → rd i = some y
  absent : ∀ i, 12 ≤ i → rd i = none
  low : -960 ≤ y
  high : y ≤ 2400

theorem Alike.eq_of_some (h : Alike rd y) {i : Nat} {r : Int} (hr : rd i = some r) : r = y := by
  by_cases hi : i < 12
  · exact Option.some.inj (hr.symm.trans (h.reads i hi))
  · rw [h.absent i (Nat.le_of_not_lt hi)] at hr
    cases hr

theorem Alike.filterMap (h : Alike rd y) {l : List Nat} (hl : ∀ i ∈ l, i < 12) : l.filterMap rd = List.replicate l.length y := by
  induction l with
  | nil => rfl
  | cons i l ih =>
    rw [List.filterMap_cons_some (h.reads i (hl i List.mem_cons_self)), ih fun j hj => hl j (List.mem_cons_of_mem i hj)]
    rfl

/-- No sensor is far from the median of the others. -/
theorem Alike.not_far (h : Alike rd y) (i : Nat) :
    (match rd i, median2 (((List.range 12).filter (fun j => j != i)).filterMap rd) with
      | some r, some m => decide (480 < (2 * r - m).natAbs)
      | _, _ => false) = false := by
  have hpos : 0 < ((List.range 12).filter (fun j => j != i)).length := by
    by_cases hi : i = 0
    · exact List.length_pos_of_mem (a := 1) (by simp [hi])
    · exact List.length_pos_of_mem (a := 0) (by simpa using fun e => hi e.symm)
  rw [h.filterMap fun j hj => List.mem_range.1 (List.mem_filter.1 hj).1, median2_replicate y hpos]
  cases hr : rd i with
  | none => rfl
  | some r =>
    rw [h.eq_of_some hr]
    simp
    omega

theorem Alike.sound (h : Alike rd y) : (List.range 12).filter (fun i => plausible (rd i)) = List.range 12 :=
  List.filter_eq_self.2 fun i hi => by
    rw [h.reads i (List.mem_range.1 hi)]
    simpa [plausible] using ⟨h.low, h.high⟩

/-- The places of the fields that a cool sample writes: the readings, the peak, and the rate flags of TH_STAT. -/
abbrev CoolKey (k : Nat) : Prop := k / 32 = 0x100C10 ∨ k = R.TH_STAT.RATE_ACT.key ∨ k = R.TH_STAT.FAST.key

/-- What a cool sample leaves of the state: the power chapter, SHUT, and the registers but for those. -/
structure CoolKept (s t : State) : Prop where
  pw : t.pw = s.pw
  shut : t.th.shut = s.th.shut
  regs : Within CoolKey s t

theorem CoolKept.trans {t u : State} (h : CoolKept s t) (k : CoolKept t u) : CoolKept s u :=
  ⟨k.pw.trans h.pw, k.shut.trans h.shut, h.regs.trans k.regs⟩

/-- Sensors that read alike stay good, and nothing is reported. -/
theorem sensorCheck_alike (h : Alike rd y) (hgood : s.goodSensors = List.range 12) : CoolKept s (sensorCheck rd s) := by
  unfold sensorCheck
  extract_lets sound far count bad was comp x z a lost
  have hsound : sound = List.range 12 := by unfold sound; rw [hgood, h.sound]
  have hfar : ∀ i, far i = false := fun i => by unfold far; rw [hsound]; exact h.not_far i
  have hcount : ∀ i, count i = 0 := fun i => by unfold count; rw [hfar, if_neg (by simp)]
  have hbad : bad = [] := by
    unfold bad
    rw [hgood]
    refine List.filter_eq_nil_iff.2 fun i hi => ?_
    rw [hsound, hcount, List.contains_iff_mem.2 hi]
    decide
  have hz : z = x := by unfold z; rw [hbad, State.each_nil]
  have ha : a = x := by
    unfold a
    rw [hz, if_pos]
    rfl
  have hlost : lost = false := by
    unfold lost
    rw [ha]
    have hx : x.goodSensors = List.range 12 := hgood
    rw [hx]
    simp
  have hcheck : raiseAll (bad.map (fun i => Src.TH_SENSOR_FAIL i) ++ (if lost then [Src.TH_SENSORS_LOST] else [])) a = x := by
    rw [hbad, hlost, ha]
    rfl
  rw [hcheck]
  exact ⟨rfl, rfl, .of_regs rfl⟩

/-! ### Cool sensors, R463 to R466 -/

/-- A limit that no reading comes near is not entered. -/
theorem limitCheck_cool {prev : Nat → Option Int} {k : Nat} (h : Alike rd y) (hact : s.limitAct k = false) (hcool : y < s.limit k) :
    limitCheck rd prev k s = s := by
  unfold limitCheck
  extract_lets lim hot
  have hcold : ∀ i, hot rd i = false := by
    intro i
    unfold hot
    cases hr : rd i with
    | none => rfl
    | some r =>
      rw [h.eq_of_some hr]
      exact decide_eq_false (by unfold lim; omega)
  rw [hact, if_neg Bool.false_ne_true]
  split
  · rfl
  next i hi =>
    have := List.find?_some hi
    rw [hcold] at this
    cases this

theorem shed_off (hthrot : s.bit R.TH_STAT.THROT_ACT = false) (hshed : s.bit R.TH_STAT.SHEDDING = false) : shed s = s := by
  simp [shed, hthrot, hshed]

theorem peaks_cool (rd : Nat → Option Int) (s : State) : CoolKept s (peaks rd s) := by
  have hpeak : ∀ v i (x : State), CoolKept s x → CoolKept s ((x.set R.TH_PEAK.PEAK v).set R.TH_PEAK.SENSOR i) := fun v i x hx =>
    ⟨hx.pw, hx.shut, (hx.regs.set (by decide) v).set (by decide) i⟩
  unfold peaks
  extract_lets x ext
  have hx : CoolKept s x := by
    refine State.each_keeps (P := CoolKept s) ⟨rfl, rfl, .refl s⟩ fun i _ z hz => ?_
    split
    · split
      · exact hpeak _ _ z hz
      · exact hz
    · exact hz
  exact ⟨hx.pw, hx.shut, hx.regs.update rfl⟩

theorem compensate_cool (rd : Nat → Option Int) (s : State) : CoolKept s (compensate rd s) := by
  have hth : ∀ x : State, CoolKept s x → ∀ o, CoolKept s (x.modTh fun t => { t with trimAt := o }) := fun x hx o =>
    ⟨hx.pw, hx.shut, hx.regs.update rfl⟩
  unfold compensate
  extract_lets x
  have hx : CoolKept s x := by
    unfold x
    split
    · exact ⟨rfl, rfl, .of_regs rfl⟩
    · exact ⟨rfl, rfl, .refl s⟩
  clear_value x
  split
  · dsimp only
    split_ifs
    · exact hth x hx _
    · exact hx
  · exact hx

/-- A limit of 0 K per ms switches the rate check off (R466). -/
theorem rateCheck_off {old : Option (List (Option Int))} (h : s.get R.TH_CTRL.RATE = 0) : CoolKept s (rateCheck rd old s) := by
  unfold rateCheck
  extract_lets lim isOver
  have hlim : lim = 0 := by unfold lim; rw [h]; rfl
  have hnone : ∀ i, isOver i = false := by
    intro i
    unfold isOver
    rw [hlim]
    split
    · exact Bool.and_false _
    · rfl
  split
  next i hi =>
    have := List.find?_some hi
    rw [hnone] at this
    cases this
  · split
    · exact ⟨rfl, rfl, .refl s⟩
    · split
      · exact ⟨rfl, rfl, ((Within.refl (W := CoolKey) _).set (g := R.TH_STAT.RATE_ACT) (by decide) 0).after rfl⟩
      · exact ⟨rfl, rfl, .of_regs rfl⟩

theorem nextRate_cool (now : List (Option Int)) (rd : Nat → Option Int) (s : State) : CoolKept s (nextRate now rd s) :=
  ⟨rfl, rfl, ((Within.refl s).set (by decide) _).update rfl⟩

theorem CoolKept.limitAct {t : State} (h : CoolKept s t) (k : Nat) : t.limitAct k = s.limitAct k := by
  unfold State.limitAct
  rw [h.regs.bit (f := R.TH_STAT.WARN_ACT) (by decide), h.regs.bit (f := R.TH_STAT.THROT_ACT) (by decide), h.shut]

theorem CoolKept.limit {t : State} (h : CoolKept s t) (k : Nat) : t.limit k = s.limit k := by
  unfold State.limit
  rw [h.regs.get R.TH_LIMITS.WARN (by decide), h.regs.get R.TH_LIMITS.THROT (by decide), h.regs.get R.TH_LIMITS.SHUT (by decide)]

/-- What follows the readings of a cool sample outside Boot (R462 to R466). -/
theorem coolSample_kept (h : Alike rd y) (hgood : s.goodSensors = List.range 12) (hact : ∀ k, s.limitAct k = false) (hcool : ∀ k, y < s.limit k)
    (hrate : s.get R.TH_CTRL.RATE = 0) (hshed : s.bit R.TH_STAT.SHEDDING = false) (prev : Nat → Option Int) (now : List (Option Int))
    (old : Option (List (Option Int))) :
    CoolKept s (nextRate now rd (rateCheck rd old (shed
      (limitCheck rd prev 2 (limitCheck rd prev 1 (limitCheck rd prev 0 (compensate rd (peaks rd (sensorCheck rd s))))))))) := by
  have hx : CoolKept s (compensate rd (peaks rd (sensorCheck rd s))) :=
    ((sensorCheck_alike h hgood).trans (peaks_cool rd _)).trans (compensate_cool rd _)
  generalize compensate rd (peaks rd (sensorCheck rd s)) = x at hx
  have hlimit : ∀ k, limitCheck rd prev k x = x := fun k =>
    limitCheck_cool h ((hx.limitAct k).trans (hact k)) ((hx.limit k).symm ▸ hcool k)
  rw [hlimit, hlimit, hlimit, shed_off ((hx.limitAct 1).trans (hact 1)) ((hx.regs.bit (by decide)).trans hshed)]
  exact (hx.trans (rateCheck_off ((hx.regs.get _ (by decide)).trans hrate))).trans (nextRate_cool now rd _)

/-! ### The readings, R461 -/

/-- The readings are shown. -/
def readingsShown (rd : Nat → Option Int) (s : State) : State :=
  s.each sensors12 fun i s => match rd i with | some r => s.set (R.TH_SENS.TEMP i) (ofInt 16 r) | none => s

theorem readingsShown_temp (h : Alike rd y) {i : Nat} (hi : i < 12) (s : State) :
    (readingsShown rd s).get (R.TH_SENS.TEMP i) = ofInt 16 y % 2 ^ 16 := by
  refine State.each_reaches (P := fun _ => True) (Q := fun x => x.get (R.TH_SENS.TEMP i) = ofInt 16 y % 2 ^ 16) (List.mem_range.2 hi) trivial
    (fun _ _ _ => trivial) (fun x _ => ?_) fun j x hx => ?_
  · rw [h.reads i hi]
    exact State.get_set_self ..
  · split
    next r hr =>
      rw [h.eq_of_some hr]
      by_cases e : (R.TH_SENS.TEMP j).key = (R.TH_SENS.TEMP i).key
      · have : j = i := by
          simp only [Fld.key, R.TH_SENS.TEMP] at e
          omega
        rw [this]
        exact State.get_set_self ..
      · rw [State.get_set_of_ne _ _ e, hx]
    · exact hx

theorem readingsShown_within (rd : Nat → Option Int) (s : State) :
    Within (fun k => k % 32 = 0 ∧ 0x100C20 ≤ k / 32) s (readingsShown rd s) := by
  refine (Within.refl s).each fun i _ x => ?_
  split
  · refine (Within.refl x).set ?_ _
    simp only [Fld.key, R.TH_SENS.TEMP]
    omega
  · exact .refl x

theorem readingsShown_pw_th (rd : Nat → Option Int) (s : State) : (readingsShown rd s).pw = s.pw ∧ (readingsShown rd s).th = s.th := by
  refine State.each_keeps (P := fun x => x.pw = s.pw ∧ x.th = s.th) ⟨rfl, rfl⟩ fun i _ x hx => ?_
  split <;> exact hx

/-- What sensor `i` reads in a sample. -/
def readingOf (l : List (Option Int)) (i : Nat) : Option Int := (l[i]?).getD none

/-- `r` is `s` with the readings shown. -/
structure ReadingsOf (rd : Nat → Option Int) (s r : State) : Prop where
  pw : r.pw = s.pw
  shut : r.th.shut = s.th.shut
  regs : Within (fun k => k % 32 = 0 ∧ 0x100C20 ≤ k / 32) s r
  temp : ∀ i, i < 12 → ∀ y, Alike rd y → r.get (R.TH_SENS.TEMP i) = ofInt 16 y % 2 ^ 16

theorem ReadingsOf.good {r : State} (h : ReadingsOf rd s r) : r.goodSensors = s.goodSensors := by
  refine List.filter_congr fun i _ => ?_
  rw [State.sensorFailed, State.sensorFailed, h.regs.bit]
  simp only [Fld.key, R.TH_SENS.FAILED]
  omega

theorem ReadingsOf.limitAct {r : State} (h : ReadingsOf rd s r) (k : Nat) : r.limitAct k = s.limitAct k := by
  unfold State.limitAct
  rw [h.regs.bit (f := R.TH_STAT.WARN_ACT) (by decide), h.regs.bit (f := R.TH_STAT.THROT_ACT) (by decide), h.shut]

theorem ReadingsOf.limit {r : State} (h : ReadingsOf rd s r) (k : Nat) : r.limit k = s.limit k := by
  unfold State.limit
  rw [h.regs.get R.TH_LIMITS.WARN (by decide), h.regs.get R.TH_LIMITS.THROT (by decide), h.regs.get R.TH_LIMITS.SHUT (by decide)]

theorem CoolKept.good {t : State} (h : CoolKept s t) : t.goodSensors = s.goodSensors := by
  refine List.filter_congr fun i _ => ?_
  rw [State.sensorFailed, State.sensorFailed, h.regs.bit]
  simp only [CoolKey, Fld.key, R.TH_SENS.FAILED, R.TH_STAT.RATE_ACT, R.TH_STAT.FAST]
  omega

theorem CoolKept.temp {t : State} (h : CoolKept s t) (i : Nat) : t.get (R.TH_SENS.TEMP i) = s.get (R.TH_SENS.TEMP i) := by
  refine h.regs.get _ ?_
  simp only [CoolKey, Fld.key, R.TH_SENS.TEMP, R.TH_STAT.RATE_ACT, R.TH_STAT.FAST]
  omega

/-- A sample outside Boot (R461): the readings, the sensors, the limits and the rates. -/
theorem thermalSample_eq {l : List (Option Int)} {s x : State} (hcored : s.cored = true)
    (hx : compensate (readingOf l) (peaks (readingOf l) (sensorCheck (readingOf l)
      (readingsShown (readingOf l) (s.modTh fun t => { t with sampled := true })))) = x)
    (hboot : x.pw.state ≠ .boot) :
    ∃ prev old, thermalSample l s = nextRate (sensors12.map (readingOf l)) (readingOf l) (rateCheck (readingOf l) old (shed
      (limitCheck (readingOf l) prev 2 (limitCheck (readingOf l) prev 1 (limitCheck (readingOf l) prev 0 x))))) := by
  have hnot : (x.pw.state == DevState.boot) = false := beq_eq_false_iff_ne.2 hboot
  refine ⟨fun i => ((s.th.hist.headD [])[i]?).getD none, if s.bit R.TH_STAT.FAST then s.th.hist[15]? else s.th.hist.head?, ?_⟩
  subst hx
  unfold thermalSample
  rw [if_neg (by rw [hcored]; decide)]
  refine if_neg ?_
  simp only [Bool.and_eq_true]
  rintro ⟨⟨-, h⟩, -⟩
  exact Bool.false_ne_true (hnot.symm.trans h)

theorem alike_replicate {y : Int} (hlow : -960 ≤ y) (hhigh : y ≤ 2400) : Alike (readingOf (List.replicate 12 (some y))) y where
  reads i hi := by rw [readingOf, List.getElem?_replicate, if_pos hi]; rfl
  absent i hi := by rw [readingOf, List.getElem?_replicate, if_neg (Nat.not_lt.2 hi)]; rfl
  low := hlow
  high := hhigh

/-- A cool sample outside Boot leaves all but its readings, the peak and the rate flags (R461 to R466). -/
theorem thermalSample_cool {l : List (Option Int)} (h : Alike (readingOf l) y) (hcored : s.cored = true) (hboot : s.pw.state ≠ .boot)
    (hgood : s.goodSensors = List.range 12) (hact : ∀ k, s.limitAct k = false) (hcool : ∀ k, y < s.limit k) (hrate : s.get R.TH_CTRL.RATE = 0)
    (hshed : s.bit R.TH_STAT.SHEDDING = false) :
    ∃ r, ReadingsOf (readingOf l) s r ∧ CoolKept r (thermalSample l s) := by
  have hr : ReadingsOf (readingOf l) s (readingsShown (readingOf l) (s.modTh fun t => { t with sampled := true })) := by
    obtain ⟨hpw, hth⟩ := readingsShown_pw_th (readingOf l) (s.modTh fun t => { t with sampled := true })
    exact ⟨hpw, by rw [hth]; rfl, (readingsShown_within _ _).after rfl, fun i hi y h => readingsShown_temp h hi _⟩
  refine ⟨_, hr, ?_⟩
  obtain ⟨prev, old, hsample⟩ := thermalSample_eq (l := l) hcored rfl (by
    rw [(compensate_cool _ _).pw, (peaks_cool _ _).pw, (sensorCheck_alike h (hr.good.trans hgood)).pw, hr.pw]
    exact hboot)
  rw [hsample]
  exact coolSample_kept h (hr.good.trans hgood) (fun k => (hr.limitAct k).trans (hact k)) (fun k => (hr.limit k).symm ▸ hcool k)
    ((hr.regs.get _ (by decide)).trans hrate) ((hr.regs.bit (by decide)).trans hshed) prev _ old

end

theorem exec_thermalSample (l : List (Option Int)) (s : State) : exec (.thermalSample l) s = .next (thermalSample l s) := rfl

/-- Settles O8: a sample of sensors that read alike, away from the limits, writes readings, the peak and the rate flags alone (`coolSample_kept`). -/
theorem thermalMonitor : Obligations.ThermalMonitor := by
  unfold Obligations.ThermalMonitor
  refine ⟨?shutdown, ?clear, ?sample⟩
  case shutdown =>
    intro s hshut hreset
    refine ⟨_, exec_shutdownPwrenDrop hshut, ?_⟩
    rw [shutdownEnds_of_noReset hreset]
    let x := (withCause (s.causeOf 7 0) s).modPw fun p => { p with pgoodLoss := true }
    have hdrop : x.dropsFor (s.causeOf 7 0).code = true := by simp [State.dropsFor, x]
    obtain ⟨hstate, hpwren, -, -, -, -, hlanes, -⟩ := takeReset_ended (s := x) (c := s.causeOf 7 0) rfl
    refine ⟨?_, ?_, ?_, hlanes⟩
    · rw [hstate]
      exact if_pos hdrop
    · rw [hpwren, hdrop]
      rfl
    · rw [takeReset_of_cause (s := x) (c := s.causeOf 7 0) rfl, endReset_th]
  case clear =>
    intro s
    refine ⟨_, exec_peakClear s, ?_, State.get_set_self .., ((OnlySets.refl s _).set _ (by simp)).set _ (by simp)⟩
    rw [State.get_set_of_ne _ _ (by decide), State.get_set_self]
    rfl
  case sample =>
    intro s x hstate hgood hpos hwarn hthrot hshut hhigh hwarnAct hthrotAct hshutAct hrate hshed
    have hcored : s.cored = true := by
      simp only [State.inState, State.cored, List.contains_iff_mem, List.mem_cons, List.not_mem_nil, or_false] at hstate ⊢
      tauto
    have hboot : s.pw.state ≠ .boot := fun h => by simp [State.inState, h] at hstate
    have hact : ∀ k, s.limitAct k = false := by
      intro k
      unfold State.limitAct
      split_ifs
      · exact hwarnAct
      · exact hthrotAct
      · exact hshutAct
    have hcool : ∀ k, 16 * x < s.limit k := by
      intro k
      unfold State.limit
      split_ifs <;> omega
    obtain ⟨hlow, hhi⟩ : -960 ≤ 16 * x ∧ 16 * x ≤ 2400 := by omega
    have hcode : (ofInt 16 (16 * x) % 2 ^ 16 : Nat) = 16 * x := by
      unfold ofInt
      omega
    revert hlow hhi hcool hcode
    generalize 16 * x = y
    intro hcool hlow hhi hcode
    have halike := alike_replicate hlow hhi
    obtain ⟨r, hr, hkept⟩ := thermalSample_cool halike hcored hboot hgood hact hcool hrate hshed
    refine ⟨_, exec_thermalSample _ s, fun i hi => ?_, ?_, ?_, hkept.pw.trans hr.pw, hkept.good.trans (hr.good.trans hgood)⟩
    · rw [hkept.temp, hr.temp i hi y halike]
      exact hcode
    · exact (hkept.limitAct 0).trans ((hr.limitAct 0).trans (hact 0))
    · exact (hkept.limitAct 1).trans ((hr.limitAct 1).trans (hact 1))

end Sys2Proof.Machine
end
section
/-!
PROOFS. Interrupts (18_recorder_ledger.md R542, R543): IRQ_PEND read bit by bit.
-/
namespace Sys2Proof.Machine

/-- The number whose bits below `k` are the values of `p`. -/
def bitsBelow (p : Nat → Bool) (k : Nat) : Nat := (List.range k).foldl (fun m n => if p n then m + 2 ^ n else m) 0

theorem bitsBelow_succ (p : Nat → Bool) (k : Nat) : bitsBelow p (k + 1) = if p k then bitsBelow p k + 2 ^ k else bitsBelow p k := by
  simp [bitsBelow, List.range_succ]

theorem bitsBelow_lt (p : Nat → Bool) (k : Nat) : bitsBelow p k < 2 ^ k := by
  induction k with
  | zero => exact Nat.one_pos
  | succ k ih =>
    rw [bitsBelow_succ]
    split <;> omega

theorem testBit_bitsBelow (p : Nat → Bool) {k n : Nat} (h : n < k) : (bitsBelow p k).testBit n = p n := by
  induction k with
  | zero => omega
  | succ k ih =>
    have hlt := bitsBelow_lt p k
    rw [bitsBelow_succ]
    obtain rfl | hn : n = k ∨ n < k := by omega
    · cases hp : p n
      · rw [if_neg Bool.false_ne_true, Nat.testBit_lt_two_pow hlt]
      · rw [if_pos rfl, Nat.add_comm, Nat.testBit_two_pow_add_eq, Nat.testBit_lt_two_pow hlt]
        rfl
    · cases p k
      · rw [if_neg Bool.false_ne_true, ih hn]
      · rw [if_pos rfl, Nat.add_comm, Nat.testBit_two_pow_add_gt hn, ih hn]

theorem bitAt_eq_testBit (x n : Nat) : bitAt x n = x.testBit n := by
  rw [bitAt, Nat.testBit_eq_decide_div_mod_eq]

theorem State.pends_iff (s : State) (b i : Nat) :
    s.pends b i = true ↔ 1 ≤ s.get (R.FC_SEV b i) ∨ s.bit R.FC_CTRL.GREY_IRQ = true := by
  simp [State.pends, Nat.one_le_iff_ne_zero]

theorem State.leafSet_iff (s : State) (b i : Nat) :
    s.leafSet b i = true ↔ ∃ k f, k < 128 ∧ leafOf ⟨b, i, k⟩ = some f ∧ s.bit f = true := by
  simp only [State.leafSet, List.any_eq_true, List.mem_range]
  constructor
  · rintro ⟨k, hk, h⟩
    split at h
    next f hf => exact ⟨k, f, hk, hf, h⟩
    next => cases h
  · rintro ⟨k, f, hk, hf, h⟩
    refine ⟨k, hk, ?_⟩
    rw [hf]
    exact h

/-- Settles O48: IRQ_PEND is `bitsBelow` of the subsystems with a set leaf that counts. -/
theorem irqPendFollowsTheLeaves : Obligations.IrqPendFollowsTheLeaves := by
  unfold Obligations.IrqPendFollowsTheLeaves
  intro s n hn
  have hbit : bitAt s.irqPend n = (List.range 16).any fun i => s.pends (n + 1) i && s.leafSet (n + 1) i :=
    (bitAt_eq_testBit _ n).trans (testBit_bitsBelow _ hn)
  rw [hbit]
  simp only [List.any_eq_true, List.mem_range, Bool.and_eq_true, State.pends_iff, State.leafSet_iff]
  constructor
  · rintro ⟨i, hi, hcounts, k, f, hk, hf, hset⟩
    exact ⟨i, k, f, hi, hk, hf, hset, hcounts⟩
  · rintro ⟨i, k, f, hi, hk, hf, hset, hcounts⟩
    exact ⟨i, hi, hcounts, k, f, hk, hf, hset⟩

end Sys2Proof.Machine
end
section
/-!
PROOFS. The field-network node (20_object_dictionary.md): the dictionary, PDOs, heartbeats, emergency messages and the CAN controller.
-/
namespace Sys2Proof.Machine

/-! ### The bus -/

section
variable {s : State}

theorem State.onBus_iff : s.onBus = true ↔ s.isRoot = true ∧ s.get R.FN_STAT.BUS ≠ 2 ∧ s.canHeld = false := by
  simp [State.onBus, and_assoc]

/-- The Root sends where its CAN clock is not held. -/
theorem canSend_sent (hroot : s.isRoot = true) (hheld : s.canHeld = false) (m : CanOut) :
    canSend m s = { s with net := { s.net with sent := s.net.sent ++ [m] } } := by
  unfold canSend
  rw [hroot, hheld]
  rfl

theorem canSend_onBus (h : s.onBus = true) (m : CanOut) : canSend m s = { s with net := { s.net with sent := s.net.sent ++ [m] } } := by
  obtain ⟨hroot, -, hheld⟩ := State.onBus_iff.1 h
  exact canSend_sent hroot hheld m

/-- The Root answers its client on CAN. -/
theorem answerTo_root (hroot : s.isRoot = true) (c a : Nat) (b : List Byte) : answerTo (some c) a b s = canSend (.answer c a b) s := if_pos hroot

theorem answerTo_onBus (h : s.onBus = true) (c a : Nat) (b : List Byte) :
    answerTo (some c) a b s = { s with net := { s.net with sent := s.net.sent ++ [.answer c a b] } } := by
  rw [answerTo_root (State.onBus_iff.1 h).1, canSend_onBus h]

theorem raise_isRoot (r : Src) (s : State) : (raise r s).isRoot = s.isRoot := (raise_reported r s).field State.isRoot fun _ => rfl

/-! ### The dictionary, R535, R536 -/

theorem usdo_refused {c : Nat} {r : UsdoRequest} (hbus : s.onBus = true) (hserved : s.served = true) (hr : r.client = c)
    (hnew : s.clients.contains c = false) (hfull : 4 ≤ s.clients.length) :
    usdo r s = answerTo (some c) 0x08000020 [] (raise Src.FN_SESSION_REFUSED s) := by
  subst hr
  unfold usdo
  rw [hbus, hserved, hnew, if_neg (by decide), if_pos ⟨rfl, hfull⟩]

/-- A request to the physical network and node of the Root is its own. -/
theorem usdo_own {c idx sub : Nat} {data : Option (List Byte)} (hbus : s.onBus = true) (hserved : s.served = true) (hknown : s.clients.contains c = true) :
    usdo ⟨c, s.get O.PHYS_NET, 1 + 64 * s.grp, idx, sub, data⟩ s = serve c idx sub data s := by
  unfold usdo
  rw [hbus, hserved, hknown, if_neg (by decide), if_neg fun h => absurd h.1 (by decide), if_pos rfl, if_pos rfl]

theorem serve_read {c idx sub a : Nat} {b : List Byte} (hbus : s.onBus = true) (h : readEntry idx sub s = (a, b, s)) :
    serve c idx sub none s = { s with net := { s.net with sent := s.net.sent ++ [.answer c a b] } } := by
  unfold serve
  rw [h]
  exact answerTo_onBus hbus c a b

theorem serve_barred {c idx sub : Nat} {b : List Byte} {e : Entry} (hbus : s.onBus = true) (he : s.lookup idx sub = .ok e) (hbar : e.bar b s ≠ 0) :
    serve c idx sub (some b) s = { s with net := { s.net with sent := s.net.sent ++ [.answer c (e.bar b s) []] } } := by
  unfold serve serveWrite
  rw [he]
  dsimp only
  rw [if_pos hbar]
  exact answerTo_onBus hbus c _ []

theorem readEntry_error {idx sub a : Nat} (h : s.lookup idx sub = .error a) : readEntry idx sub s = (a, [], s) := by
  unfold readEntry
  rw [h]

/-- A readable entry below the apertures is read without a trace. -/
theorem readEntry_ok {idx sub : Nat} {e : Entry} (h : s.lookup idx sub = .ok e) (hacc : e.acc ≠ .wo) (hread : e.unread s = 0) (hidx : idx < 0x5800) :
    readEntry idx sub s = (0, e.get s, s) := by
  unfold readEntry
  rw [h]
  dsimp only
  rw [if_neg hacc, if_neg (by simpa using hread), readTouch, if_neg (by omega)]

theorem lookup_ok {idx sub : Nat} {e : Entry} (hoffered : offered idx = true) (hslate : ∀ rom, inSlate rom idx sub = true) (he : entryOf idx sub = some e) :
    s.lookup idx sub = .ok e := by
  unfold State.lookup
  rw [hoffered, hslate, he]
  simp

theorem lookup_awake {idx sub : Nat} {e : Entry} (hoffered : offered idx = true) (hawake : s.inState [.slate] = false) (he : entryOf idx sub = some e) :
    s.lookup idx sub = .ok e := by
  unfold State.lookup
  rw [hoffered, hawake, he]
  simp

theorem lookup_unoffered {idx sub : Nat} (h : offered idx = false) : s.lookup idx sub = .error 0x06020000 := by
  unfold State.lookup
  rw [h]
  simp

theorem lookup_noSub {idx sub : Nat} (hoffered : offered idx = true) (hslate : ∀ rom, inSlate rom idx sub = true) (he : entryOf idx sub = none) :
    s.lookup idx sub = .error 0x06090011 := by
  unfold State.lookup
  rw [hoffered, hslate, he]
  simp

/-- The older copy takes the configuration and is then the newer one. -/
theorem storeConfig_newer (s : State) : Tab.get [] (storeConfig s).store.copies (storeConfig s).store.newer = s.savedConfig :=
  Tab.get_set_self [] s.store.copies _ s.savedConfig

end

theorem exec_usdoRequest (r : UsdoRequest) (s : State) : exec (.usdoRequest r) s = .next (usdo r s) := rfl

/-- The identity object 0x1018 is offered in every state that serves. -/
theorem lookup_vendor (s : State) : s.lookup 0x1018 1 = .ok (roNum 4 fun _ => 0x0D5A) :=
  lookup_ok (by decide) (by decide) rfl

/-- Settles O50: each request comes to `serve` (`usdo_own`), which looks the entry up. -/
theorem dictionaryIsServed : Obligations.DictionaryIsServed := by
  unfold Obligations.DictionaryIsServed
  refine ⟨?vendor, ?unoffered, ?noSub, ?readOnly, ?session, ?store, ?badSignature, ?restore, ?errors⟩
  case vendor =>
    intro s c hbus hserved hknown
    rw [exec_usdoRequest, usdo_own hbus hserved hknown, serve_read hbus (readEntry_ok (lookup_vendor s) (by decide) rfl (by decide))]
    rfl
  case unoffered =>
    intro s c hbus hserved hknown
    rw [exec_usdoRequest, usdo_own hbus hserved hknown, serve_read hbus (readEntry_error (lookup_unoffered (by decide)))]
  case noSub =>
    intro s c hbus hserved hknown
    rw [exec_usdoRequest, usdo_own hbus hserved hknown, serve_read hbus (readEntry_error (lookup_noSub (by decide) (by decide) rfl))]
  case readOnly =>
    intro s c b hbus hserved hknown
    have hbar : (roNum 4 fun _ => 0x0D5A).bar b s = 0x06010002 := if_pos (.inr rfl)
    rw [exec_usdoRequest, usdo_own hbus hserved hknown, serve_barred hbus (lookup_vendor s) (by rw [hbar]; decide), hbar]
  case session =>
    intro s c hbus hserved hnew hfull
    rw [exec_usdoRequest, usdo_refused hbus hserved rfl hnew hfull, answerTo_root ((raise_isRoot _ s).trans (State.onBus_iff.1 hbus).1)]
  case store =>
    intro s hstate
    refine ⟨storeConfig s, ?_, storeConfig_newer s, rfl⟩
    show Host.Outcome.next _ = _
    rw [if_pos ⟨by simp [State.inState, hstate], rfl⟩]
  case badSignature =>
    intro s v hv
    show Host.Outcome.next _ = _
    rw [if_neg fun h => hv h.2]
  case restore =>
    intro s hstate
    show Host.Outcome.next _ = _
    rw [if_pos ⟨by simp [State.inState, hstate], rfl⟩]
    rfl
  case errors =>
    intro s hstate
    show Host.Outcome.next _ = _
    rw [if_pos ⟨rfl, by simp [State.inState, hstate]⟩]
    rfl

/-! ### PDOs, R529 -/

section
variable {s : State}

theorem takeRpdo_waits {j : Nat} {b : List Byte} (hop : s.operational = true) (hbus : s.onBus = true) (hcob : validCob (s.get (O.RPDO_COB j)) = true)
    (hmap : s.rpdoMap j ≠ []) (hlen : ((s.rpdoMap j).map (fun e => e.2.2)).sum ≤ b.length) (htype : s.get (O.RPDO_TYPE j) ≤ 240) :
    takeRpdo j b s = s.modNet fun n => { n with rpdo := Tab.set none n.rpdo j (some b) } := by
  unfold takeRpdo
  rw [hop, hbus, hcob]
  simp only [Bool.not_true, Bool.false_eq_true, false_or]
  rw [if_neg (by rintro (h | h); exacts [hmap h, by omega]), if_pos htype]

theorem takeRpdo_idle {j : Nat} {b : List Byte} (hop : s.operational = false) : takeRpdo j b s = s := by
  unfold takeRpdo
  rw [if_pos (.inl (by rw [hop]; rfl))]

theorem readEntry_errorReg (h : s.inState [.slate] = false) : readEntry 0x1001 0 s = (0, leBytes 1 s.errorReg, s) :=
  readEntry_ok (e := roNum 1 State.errorReg) (lookup_awake (by decide) h rfl) (by decide) rfl (by decide)

theorem sendTpdo_errorReg {j : Nat} (hop : s.operational = true) (hheld : s.canHeld = false) (hcob : validCob (s.get (O.TPDO_COB j)) = true)
    (hmap : s.tpdoMap j = [(0x1001, 0, 1)]) :
    sendTpdo j s = { s with net := { s.net with sent := s.net.sent ++ [.tpdo j (leBytes 1 s.errorReg)] } } := by
  obtain ⟨hroot, hstate⟩ : s.isRoot = true ∧ s.inState [.armed, .run] = true := by simpa [State.operational] using hop
  have hslate : s.inState [.slate] = false := by
    simp only [State.inState, List.contains_iff_mem, List.mem_cons, List.not_mem_nil, or_false, Bool.eq_false_iff, ne_eq] at hstate ⊢
    rcases hstate with h | h <;> simp [h]
  have hbytes : tpdoBytes (s.tpdoMap j) s = (leBytes 1 s.errorReg, s) := by
    rw [hmap]
    simp only [tpdoBytes, readEntry_errorReg hslate]
    rfl
  unfold sendTpdo
  extract_lets m
  rw [if_neg (by simp [hop, hcob, m, hmap])]
  unfold m
  rw [hbytes]
  exact canSend_sent hroot hheld _

/-- A TPDO of another type does not count a SYNC. -/
theorem countSync_off {j : Nat} (h : 240 < s.get (O.TPDO_TYPE j)) : countSync j s = s := by
  unfold countSync
  extract_lets t
  rw [if_neg (by omega)]

theorem countSync_waits {j : Nat} (hlow : 1 ≤ s.get (O.TPDO_TYPE j)) (hhigh : s.get (O.TPDO_TYPE j) ≤ 240)
    (h : Tab.get 0 s.net.syncs j + 1 < s.get (O.TPDO_TYPE j)) :
    countSync j s = s.modNet fun n => { n with syncs := Tab.set 0 n.syncs j (Tab.get 0 s.net.syncs j + 1) } := by
  unfold countSync
  extract_lets t c
  rw [if_pos ⟨hlow, hhigh⟩, if_neg (by omega)]

/-- A SYNC without an RPDO that waits is counted by each TPDO. -/
theorem takeSync_counts (hop : s.operational = true) (hbus : s.onBus = true) (hrpdo : ∀ j, j < 4 → Tab.get none s.net.rpdo j = none) :
    takeSync s = s.each [0, 1, 2, 3] countSync := by
  unfold takeSync
  rw [if_pos ⟨hop, hbus⟩]
  extract_lets x
  have hx : x = s := by
    refine State.each_keeps (P := fun x => x = s) rfl fun j hj x hx => ?_
    have hj4 : j < 4 := by
      simp only [List.mem_cons, List.not_mem_nil, or_false] at hj
      omega
    subst hx
    rw [hrpdo j hj4]
  rw [hx]

theorem heartbeatLost_monitored {n i : Nat} (hcons : s.consumer n = some i) (hmon : bitAt s.net.monitored i = true) :
    heartbeatLost n s = raise (Src.FN_HB_LOST n) (s.modNet fun n => { n with monitored := setBitAt n.monitored i false }) := by
  unfold heartbeatLost
  rw [hcons]
  exact if_pos hmon

theorem heardFrom_consumed {n i : Nat} (hcons : s.consumer n = some i) (hbus : s.onBus = true) (hserved : s.served = true) :
    heardFrom n s = s.modNet fun n => { n with monitored := setBitAt n.monitored i true } := by
  unfold heardFrom
  rw [hcons]
  exact if_pos ⟨hbus, hserved⟩

theorem sendEmcy_oldest {e : Emcy} {l : List Emcy} (hq : s.net.emcy = e :: l) (hfree : s.net.emcySending = false) (hbus : s.onBus = true) :
    sendEmcy s = { s with net := { s.net with emcySending := true, sent := s.net.sent ++ [.emcy e] } } := by
  unfold sendEmcy
  rw [hq]
  dsimp only
  rw [if_neg (by simp [hfree, hbus])]
  exact canSend_onBus (s := s.modNet fun n => { n with emcySending := true }) hbus _

theorem busOff_raises (hbus : s.onBus = true) (hcore : s.cored = true) :
    busOff s = raise Src.FN_BUS_OFF { ((s.set R.FN_STAT.BUS 2).set R.FN_COUNTS.TEC 255).inc R.FN_COUNTS.BUS_OFFS with net := { s.net with emcySending := false } } := by
  unfold busOff
  rw [if_pos ⟨hbus, hcore⟩]
  rfl

theorem canRestart_bus (hroot : s.isRoot = true) : (canRestart s).get R.FN_STAT.BUS = 0 := by
  unfold canRestart
  rw [if_pos hroot]
  exact State.get_set_self ((s.set R.FN_COUNTS.TEC 0).set R.FN_COUNTS.REC 0) R.FN_STAT.BUS 0

theorem canRestart_only (s : State) : OnlyRegs s (canRestart s) [R.FN_STAT.BUS, R.FN_COUNTS.TEC, R.FN_COUNTS.REC] :=
  (((OnlyRegs.of_regs (s := s) rfl _).set 0 (by simp)).set 0 (by simp)).set (if s.isRoot then 0 else 3) (by simp)

theorem canRestart_tec (s : State) : (canRestart s).get R.FN_COUNTS.TEC = 0 :=
  (State.get_set_of_ne _ _ (by decide)).trans ((State.get_set_of_ne _ _ (by decide)).trans (State.get_set_self s R.FN_COUNTS.TEC 0))

theorem canRestart_rec (s : State) : (canRestart s).get R.FN_COUNTS.REC = 0 :=
  (State.get_set_of_ne _ _ (by decide)).trans (State.get_set_self (s.set R.FN_COUNTS.TEC 0) R.FN_COUNTS.REC 0)

/-- Both counters below the limit leave error passive. -/
theorem errorCounts_active {tec rcv : Nat} (hbus : s.onBus = true) (hcore : s.cored = true) (htec : tec < 128) (hrec : rcv < 128) :
    errorCounts tec rcv s = ((s.set R.FN_COUNTS.TEC tec).set R.FN_COUNTS.REC rcv).set R.FN_STAT.BUS 0 := by
  unfold errorCounts
  rw [if_neg (by simp [hbus, hcore])]
  extract_lets was now x
  have hnow : ¬ now := by simp only [now]; omega
  rw [if_neg fun h => hnow h.1]
  simp only [x, if_neg hnow]
  rw [Nat.min_eq_right (by omega), Nat.min_eq_right (by omega)]

theorem errorCounts_passive {tec rcv : Nat} (hbus : s.onBus = true) (hcore : s.cored = true) (hwas : s.get R.FN_STAT.BUS = 0) (htec : 128 ≤ tec) :
    errorCounts tec rcv s =
      raise Src.FN_ERROR_PASSIVE (((s.set R.FN_COUNTS.TEC (min 255 tec)).set R.FN_COUNTS.REC (min 255 rcv)).set R.FN_STAT.BUS 1) := by
  unfold errorCounts
  rw [if_neg (by simp [hbus, hcore])]
  extract_lets was now x
  have hnow : now := .inl htec
  rw [if_pos ⟨hnow, by simp [was, hwas]⟩]
  simp only [x, if_pos hnow]

end

/-- Settles O51: every clause is one of the lemmas on the node's parts. -/
theorem nodeTraffic : Obligations.NodeTraffic := by
  unfold Obligations.NodeTraffic
  refine ⟨?sync, ?rpdo, ?rpdoIdle, ?tpdo, ?heartbeat, ?lost, ?heard, ?emcy, ?acknowledged, ?busOff, ?recovery, ?passive, ?active⟩
  case sync =>
    intro s hop hbus hrpdo h0 hzero h1 h2 h3
    have hcount := countSync_waits (s := s) (j := 0) (by omega) (by omega) (by omega)
    refine ⟨takeSync s, rfl, ?_⟩
    rw [takeSync_counts hop hbus hrpdo]
    simp only [State.each_cons, State.each_nil]
    rw [hcount]
    generalize hx : (s.modNet fun n => { n with syncs := Tab.set 0 n.syncs 0 (Tab.get 0 s.net.syncs 0 + 1) }) = x
    have hregs : x.regs = s.regs := by rw [← hx]; rfl
    have hoff : ∀ j, s.get (O.TPDO_TYPE j) = 255 → countSync j x = x := fun j h =>
      countSync_off (by rw [State.get_of_regs hregs, h]; decide)
    rw [hoff 1 h1, hoff 2 h2, hoff 3 h3, ← hx]
    refine ⟨?_, rfl⟩
    exact (Tab.get_set_self 0 s.net.syncs 0 (Tab.get 0 s.net.syncs 0 + 1)).trans (by rw [hzero])
  case rpdo =>
    intro s i b hop hbus hcob hmap hlen htype
    exact ⟨_, congrArg Host.Outcome.next (takeRpdo_waits hop hbus hcob hmap hlen htype), Tab.get_set_self none s.net.rpdo i (some b), rfl⟩
  case rpdoIdle =>
    intro s i b hop
    exact congrArg Host.Outcome.next (takeRpdo_idle hop)
  case tpdo =>
    intro s i htype htime hop hheld hcob hmap
    show Host.Outcome.next _ = _
    rw [if_pos ⟨htype, htime⟩, sendTpdo_errorReg hop hheld hcob hmap]
  case heartbeat =>
    intro s hroot hheld hserved hprod
    show Host.Outcome.next (sendHeartbeat s) = _
    rw [sendHeartbeat, if_pos ⟨hprod, hserved⟩, canSend_sent hroot hheld]
  case lost =>
    intro s n i hcons hmon
    exact congrArg Host.Outcome.next (heartbeatLost_monitored hcons hmon)
  case heard =>
    intro s n st i hcons hbus hserved
    exact congrArg Host.Outcome.next (heardFrom_consumed hcons hbus hserved)
  case emcy =>
    intro s e l hq hfree hbus
    exact congrArg Host.Outcome.next (sendEmcy_oldest hq hfree hbus)
  case acknowledged =>
    intro s e l hq hsending
    show Host.Outcome.next _ = _
    rw [if_pos hsending, State.modNet, hq]
    rfl
  case busOff =>
    intro s hbus hcore
    exact congrArg Host.Outcome.next (busOff_raises hbus hcore)
  case recovery =>
    intro s hroot hheld hoff
    refine ⟨canRestart s, ?_, ?_⟩
    · show Host.Outcome.next _ = _
      rw [if_pos ⟨hoff, by rw [hheld]; rfl⟩]
    · exact ⟨canRestart_bus hroot, canRestart_tec s, canRestart_rec s, rfl, canRestart_only s⟩
  case passive =>
    intro s tec rcv hbus hcore hwas htec
    exact congrArg Host.Outcome.next (errorCounts_passive hbus hcore hwas htec)
  case active =>
    intro s tec rcv hbus hcore hwas htec hrec
    refine ⟨_, congrArg Host.Outcome.next (errorCounts_active hbus hcore htec hrec), State.get_set_self _ R.FN_STAT.BUS 0, ?_, ?_, ?_⟩
    · rw [State.get_set_of_ne _ _ (by decide), State.get_set_of_ne _ _ (by decide), State.get_set_self]
      exact Nat.mod_eq_of_lt (show tec < 256 by omega)
    · rw [State.get_set_of_ne _ _ (by decide), State.get_set_self]
      exact Nat.mod_eq_of_lt (show rcv < 256 by omega)
    · exact (((OnlySets.refl s _).set _ (by simp)).set _ (by simp)).set _ (by simp)

end Sys2Proof.Machine
end
section
/-!
PROOFS. Requests forwarded over the spine (R425), and a Member's records (R544).
-/
namespace Sys2Proof.Machine

section
variable {s : State} {m : List Byte}

theorem relay_eq (i : Nat) (m : List Byte) (s : State) :
    relay i m s = if s.linkUp (onward i) = true ∧ msgHops m < 63 then passOn i m (msgPayload m) s else dropBad s := by
  simp [relay]

/-- The single part of a message is the message. -/
theorem gather_whole (h : s.spine.fwdIn = []) (src : Nat) (b : List Byte) : gather src true b s = (b, s) := by
  unfold gather
  simp only [h, if_true]
  refine Prod.ext rfl ?_
  show { s with spine := { s.spine with fwdIn := Tab.set [] s.spine.fwdIn src [] } } = s
  rw [h, show Tab.set ([] : List Byte) [] src [] = [] from rfl, ← h]

theorem requestMessage_elsewhere {i : Nat} (hup : s.spineUp i = true) (hgood : msgGood 0x4F m = true) (hlen : 8 ≤ msgLen m) (hdest : msgDest m ≠ s.pos) :
    requestMessage i m s = relay i m s := by
  unfold requestMessage
  rw [if_neg (by simp [hup]), if_neg (by simp [hgood, hlen])]
  extract_lets p
  rw [if_pos hdest]

/-- A whole read request for this device is served. -/
theorem requestMessage_read {i : Nat} (hup : s.spineUp i = true) (hgood : msgGood 0x4F m = true) (hlen : 8 ≤ msgLen m) (hdest : msgDest m = s.pos)
    (hflags : leAt (msgPayload m) 7 1 = 2) (hserved : s.served = true) (hin : s.spine.fwdIn = []) :
    requestMessage i m s = serve (leAt (msgPayload m) 0 4) (leAt (msgPayload m) 4 2) (leAt (msgPayload m) 6 1) none s := by
  have hlast : bitAt 2 1 = true := by decide
  have hread : bitAt 2 0 = false := by decide
  unfold requestMessage
  rw [if_neg (by simp [hup]), if_neg (by simp [hgood, hlen])]
  extract_lets p fl
  have hfl : fl = 2 := hflags
  rw [if_neg (by simpa using hdest), hfl, hlast, hread, gather_whole hin]
  dsimp only
  rw [if_pos ⟨rfl, hserved⟩, if_neg Bool.false_ne_true]

theorem responseMessage_elsewhere {i : Nat} (hup : s.spineUp i = true) (hgood : msgGood 0x50 m = true) (hlen : 9 ≤ msgLen m) (hdest : msgDest m ≠ s.pos) :
    responseMessage i m s = relay i m s := by
  unfold responseMessage
  rw [if_neg (by simp [hup]), if_neg (by simp [hgood, hlen])]
  extract_lets p
  rw [if_pos hdest]

/-- A whole response to an outstanding request is kept, and what can be answered is. -/
theorem responseMessage_answers {i : Nat} {r : UsdoRequest} (hup : s.spineUp i = true) (hgood : msgGood 0x50 m = true) (hlen : 9 ≤ msgLen m)
    (hdest : msgDest m = s.pos) (hlast : leAt (msgPayload m) 8 1 = 1) (hin : s.spine.fwdIn = [])
    (hout : s.fwdOut (msgSrc m) = [(leAt (msgPayload m) 0 4, r)]) :
    responseMessage i m s = advance (msgSrc m) (s.modSpine fun x =>
      { x with fwdDone := Tab.put x.fwdDone (leAt (msgPayload m) 0 4) (leAt (msgPayload m) 4 4, (msgPayload m).drop 9) }) := by
  have hbit : bitAt 1 0 = true := by decide
  unfold responseMessage
  rw [if_neg (by simp [hup]), if_neg (by simp [hgood, hlen])]
  extract_lets p last
  rw [if_neg (by simpa using hdest)]
  have hl : last = true := by simp only [last, p, hlast, hbit]
  simp only [hl, gather_whole hin]
  exact if_pos ⟨trivial, by rw [hout]; simp [p]⟩

theorem answerInOrder_idle {p : Nat} (hout : s.fwdOut p = []) (k : Nat) : answerInOrder k p s = s := by
  cases k with
  | zero => rfl
  | succ k => rw [answerInOrder, hout]

theorem releaseQueue_idle {p : Nat} (hqueue : s.fwdQueue p = []) (k : Nat) : releaseQueue k p s = s := by
  cases k with
  | zero => rfl
  | succ k => rw [releaseQueue, hqueue]

/-- Nothing outstanding and nothing waiting moves nothing. -/
theorem advance_idle {p : Nat} (hout : s.fwdOut p = []) (hqueue : s.fwdQueue p = []) : advance p s = s := by
  rw [advance, answerInOrder_idle hout, releaseQueue_idle hqueue]

theorem fwdOut_setOut (p : Nat) (l : List (Nat × UsdoRequest)) (s : State) : (setOut p l s).fwdOut p = l := Tab.get_set_self [] s.spine.fwdSent p l

/-- The answer to the one outstanding request goes out. -/
theorem advance_answers {p n a : Nat} {b : List Byte} {r : UsdoRequest} (hroot : s.isRoot = true) (hheld : s.canHeld = false)
    (hout : s.fwdOut p = [(n, r)]) (hqueue : s.fwdQueue p = []) (hdone : Tab.find? s.spine.fwdDone n = some (a, b)) :
    advance p s = { s with
      net := { s.net with sent := s.net.sent ++ [.answer r.client a b] },
      spine := { s.spine with fwdSent := Tab.set [] s.spine.fwdSent p [], fwdDone := Tab.drop s.spine.fwdDone n } } := by
  have hout' := fwdOut_setOut p [] s
  generalize hx : (setOut p [] s).modSpine (fun x => { x with fwdDone := Tab.drop x.fwdDone n }) = x
  have hxout : x.fwdOut p = [] := by rw [← hx]; exact hout'
  have hxqueue : x.fwdQueue p = [] := by rw [← hx]; exact hqueue
  have hsent : canSend (.answer r.client a b) x = { x with net := { x.net with sent := x.net.sent ++ [.answer r.client a b] } } :=
    canSend_sent (by rw [← hx]; exact hroot) (by rw [← hx]; exact hheld) _
  have hanswer : answerInOrder 5 p s = answerInOrder 4 p (canSend (.answer r.client a b) x) := by
    rw [answerInOrder, hout]
    simp only [hdone, hx]
    rw [answerTo_root (by rw [← hx]; exact hroot)]
  generalize hy : canSend (.answer r.client a b) x = y at hanswer
  have hyout : y.fwdOut p = [] := by rw [← hy, hsent]; exact hxout
  have hyqueue : y.fwdQueue p = [] := by rw [← hy, hsent]; exact hxqueue
  rw [advance, hanswer, answerInOrder_idle hyout, releaseQueue_idle hyqueue, ← hy, hsent, ← hx]
  rfl

theorem State.canHeld_congr {t : State} (hidle : t.get R.CLK_MUX_CAN.CONSUMER_IDLE = s.get R.CLK_MUX_CAN.CONSUMER_IDLE)
    (hbusy : t.get R.CLK_MUX_CAN.BUSY = s.get R.CLK_MUX_CAN.BUSY) (hcur : t.get R.CLK_MUX_CAN.CURRENT = s.get R.CLK_MUX_CAN.CURRENT)
    (hclk : t.clk = s.clk) (hnow : t.now = s.now) : t.canHeld = s.canHeld := by
  simp only [State.canHeld, State.bit, State.canRuns, State.pllStopped, hidle, hbusy, hcur, hclk, hnow]

theorem modSpine_isRoot (f : Spine → Spine) (s : State) : (s.modSpine f).isRoot = s.isRoot := rfl

theorem modSpine_canHeld (f : Spine → Spine) (s : State) : (s.modSpine f).canHeld = s.canHeld := rfl

/-- The one request without an answer times out. -/
theorem fwdTimeout_answers {p n : Nat} {r : UsdoRequest} (hroot : s.isRoot = true) (hheld : s.canHeld = false) (hout : s.fwdOut p = [(n, r)])
    (hqueue : s.fwdQueue p = []) (hdone : Tab.find? s.spine.fwdDone n = none) :
    (fwdTimeout p s).net.sent = s.net.sent ++ [.answer r.client 0x05040000 []] ∧ (fwdTimeout p s).fwdOut p = [] := by
  have hfound : (s.fwdOut p ++ s.fwdQueue p).find? (fun q => (Tab.find? s.spine.fwdDone q.1).isNone) = some (n, r) := by
    rw [hout, hqueue]
    simp [hdone]
  unfold fwdTimeout
  rw [hfound]
  dsimp only
  have hraise : Reported s (raise Src.SP_FWD_TIMEOUT (s.inc R.SP_COUNTS.FWD_TIMEOUTS)) := (s.inc_reported _).trans (raise_reported ..)
  have hget : ∀ f : Fld, ¬ ReportKey f.key → R.SP_CAUSE.FWD_TIMEOUT.key ≠ f.key → R.SP_COUNTS.FWD_TIMEOUTS.key ≠ f.key →
      (raise Src.SP_FWD_TIMEOUT (s.inc R.SP_COUNTS.FWD_TIMEOUTS)).get f = s.get f := fun f hf hleaf hcount =>
    (raise_get hf (.of_leaf (by decide) rfl hleaf) _).trans (State.get_set_of_ne s _ hcount)
  generalize raise Src.SP_FWD_TIMEOUT (s.inc R.SP_COUNTS.FWD_TIMEOUTS) = x at hraise hget
  have hxheld : x.canHeld = false :=
    (State.canHeld_congr (hget _ (by decide) (by decide) (by decide)) (hget _ (by decide) (by decide) (by decide))
      (hget _ (by decide) (by decide) (by decide)) hraise.clk (hraise.field State.now fun _ => rfl)).trans hheld
  have hxroot : x.isRoot = true := (hraise.field State.isRoot fun _ => rfl).trans hroot
  have hxout : x.fwdOut p = [(n, r)] := (hraise.field (fun z => z.fwdOut p) fun _ => rfl).trans hout
  have hxqueue : x.fwdQueue p = [] := (hraise.field (fun z => z.fwdQueue p) fun _ => rfl).trans hqueue
  have hxsent : x.net.sent = s.net.sent := hraise.field (fun z => z.net.sent) fun _ => rfl
  generalize hy : ((setQueue p ((x.fwdQueue p).filter (fun z => z.1 != n)) (setOut p ((x.fwdOut p).filter (fun z => z.1 != n)) x)).modSpine
    fun z => { z with waiting := z.waiting.filter (fun w => !(w.1 == p && msgType w.2 == 0x4F && leAt w.2 8 4 == n)) }) = y
  have hyout : y.fwdOut p = [] := by
    rw [← hy]
    refine (fwdOut_setOut p _ x).trans ?_
    rw [hxout]
    simp
  have hyqueue : y.fwdQueue p = [] := by
    rw [← hy]
    refine (Tab.get_set_self [] x.spine.fwdWait p _).trans ?_
    rw [hxqueue]
    rfl
  have hyroot : y.isRoot = true := by rw [← hy, modSpine_isRoot, setQueue, modSpine_isRoot, setOut, modSpine_isRoot, hxroot]
  have hyheld : y.canHeld = false := by rw [← hy, modSpine_canHeld, setQueue, modSpine_canHeld, setOut, modSpine_canHeld, hxheld]
  have hynet : y.net.sent = s.net.sent := by rw [← hy]; exact hxsent
  have hsent : answerTo (some r.client) 0x05040000 [] y = { y with net := { y.net with sent := y.net.sent ++ [.answer r.client 0x05040000 []] } } := by
    rw [answerTo_root hyroot, canSend_sent hyroot hyheld]
  generalize answerTo (some r.client) 0x05040000 [] y = z at hsent
  have hzout : z.fwdOut p = [] := by rw [hsent]; exact hyout
  have hzqueue : z.fwdQueue p = [] := by rw [hsent]; exact hyqueue
  rw [advance_idle hzout hzqueue]
  refine ⟨?_, hzout⟩
  rw [hsent, ← hynet]

/-! ### A Member's records, R544 -/

theorem recordMessage_elsewhere {i : Nat} (hup : s.spineUp i = true) (hgood : msgGood 0x52 m = true) (hlen : msgLen m = 128) (hdest : msgDest m ≠ s.pos) :
    recordMessage i m s = relay i m s := by
  unfold recordMessage
  rw [if_neg (by simp [hup]), if_neg (by simp [hgood, hlen])]
  extract_lets p
  rw [if_pos hdest]

/-- A first-cause record of a class that asks for it joins the queue of emergency messages. -/
theorem recordMessage_posts {i : Nat} (hroot : s.isRoot = true) (hup : s.spineUp i = true) (hgood : msgGood 0x52 m = true) (hlen : msgLen m = 128)
    (hdest : msgDest m = s.pos) (htype : leAt (msgPayload m) 8 1 = 1) (hclass : s.get O.EMCY_CLASS ≤ leAt (msgPayload m) 9 1 % 4)
    (hroom : s.net.emcy.length < 16) :
    ∃ e errors, recordMessage i m s = { s with net := { s.net with emcy := s.net.emcy ++ [e], errors := errors } }
      ∧ e.code = 0xFF00 + 16 * (leAt (msgPayload m) 10 1 - 1) + leAt (msgPayload m) 11 1 := by
  unfold recordMessage
  rw [if_neg (by simp [hup]), if_neg (by simp [hgood, hlen])]
  extract_lets p
  rw [if_neg (by simpa using hdest), if_pos ⟨hroot, htype, hclass⟩]
  unfold postEmcy
  rw [if_neg (by omega)]
  exact ⟨_, _, rfl, rfl⟩

end

theorem exec_forwardedRequestRx (i : Fin 4) (m : List Byte) (s : State) : exec (.forwardedRequestRx i m) s = .next (requestMessage i m s) := rfl
theorem exec_forwardedResponseRx (i : Fin 4) (m : List Byte) (s : State) : exec (.forwardedResponseRx i m) s = .next (responseMessage i m s) := rfl
theorem exec_hostRecordRx (i : Fin 4) (m : List Byte) (s : State) : exec (.hostRecordRx i m) s = .next (recordMessage i m s) := rfl
theorem exec_forwardTimeout (p : Fin 64) (s : State) : exec (.forwardTimeout p) s = .next (fwdTimeout p s) := rfl

/-- Settles O52: what is named for this device is served, answered or posted; anything else is relayed. -/
theorem forwardingOverTheSpine : Obligations.ForwardingOverTheSpine := by
  unfold Obligations.ForwardingOverTheSpine
  refine ⟨?request, ?read, ?response, ?answer, ?timeout, ?record, ?emergency⟩
  case request =>
    intro s i m hup hgood hlen hdest
    rw [exec_forwardedRequestRx, requestMessage_elsewhere hup hgood hlen hdest, relay_eq]
  case read =>
    intro s i m hup hgood hlen hdest hflags hserved hin
    rw [exec_forwardedRequestRx, requestMessage_read hup hgood hlen hdest hflags hserved hin]
  case response =>
    intro s i m hup hgood hlen hdest
    rw [exec_forwardedResponseRx, responseMessage_elsewhere hup hgood hlen hdest, relay_eq]
  case answer =>
    intro s i m r hroot hheld hup hgood hlen hdest hlast hin hout hqueue
    let x := s.modSpine fun z =>
      { z with fwdDone := Tab.put z.fwdDone (leAt (msgPayload m) 0 4) (leAt (msgPayload m) 4 4, (msgPayload m).drop 9) }
    have hdone : Tab.find? x.spine.fwdDone (leAt (msgPayload m) 0 4) = some (leAt (msgPayload m) 4 4, (msgPayload m).drop 9) := by
      refine (Tab.find?_put ..).trans ?_
      rw [if_pos rfl]
    refine ⟨_, exec_forwardedResponseRx i m s, ?_⟩
    rw [responseMessage_answers hup hgood hlen hdest hlast hin hout, advance_answers (s := x) hroot hheld hout hqueue hdone]
    exact ⟨rfl, fwdOut_setOut (msgSrc m) [] s, rfl⟩
  case timeout =>
    intro s p n r hroot hheld hout hqueue hdone
    exact ⟨_, exec_forwardTimeout p s, fwdTimeout_answers hroot hheld hout hqueue hdone⟩
  case record =>
    intro s i m hup hgood hlen hdest
    rw [exec_hostRecordRx, recordMessage_elsewhere hup hgood hlen hdest, relay_eq]
  case emergency =>
    intro s i m hroot hup hgood hlen hdest htype hclass hroom
    obtain ⟨e, errors, h, hcode⟩ := recordMessage_posts hroot hup hgood hlen hdest htype hclass hroom
    refine ⟨_, e, exec_hostRecordRx i m s, ?_⟩
    rw [h]
    exact ⟨rfl, hcode, rfl⟩

end Sys2Proof.Machine
end
section
/-!
PROOFS. What the device states need of the parts that come up and go down (R162, R413, R500, R531): the power chapter, the duplex pair and the run request.
-/
namespace Sys2Proof.Machine

/-! ### The run request while nothing runs -/

section
variable {s0 s t : State}

theorem runRequest_ne_of_low {f : Fld} (hf : f.Low) : f.key ≠ O.RUN_REQUEST.key := by
  have hrun : ¬ O.RUN_REQUEST.Low := by decide
  intro h
  exact hrun (by unfold Fld.Low; rw [← h]; exact hf)

/-- The duplex pair stands, and a run request that is clear stays so. -/
structure PairKept (s t : State) : Prop where
  dx : t.dx = s.dx
  run : s.get O.RUN_REQUEST = 0 → t.get O.RUN_REQUEST = 0

theorem PairKept.refl (s : State) : PairKept s s := ⟨rfl, id⟩

theorem PairKept.congr (h : PairKept s0 s) (hdx : t.dx = s.dx) (hregs : t.regs = s.regs) : PairKept s0 t :=
  ⟨hdx.trans h.dx, fun hrun => (State.get_of_regs hregs _).trans (h.run hrun)⟩

theorem PairKept.set {f : Fld} (h : PairKept s0 s) (hf : f.Low) (v : Nat) : PairKept s0 (s.set f v) :=
  ⟨h.dx, fun hrun => (State.get_set_of_ne s v (runRequest_ne_of_low hf)).trans (h.run hrun)⟩

theorem PairKept.ite {c : Prop} [Decidable c] (ha : PairKept s0 s) (hb : PairKept s0 t) : PairKept s0 (if c then s else t) := by
  split <;> assumption

theorem PairKept.each {α : Type} {l : List α} {f : α → State → State} (h : PairKept s0 s) (hf : ∀ a ∈ l, ∀ x, PairKept s0 x → PairKept s0 (f a x)) :
    PairKept s0 (s.each l f) := State.each_keeps h hf

/-- A report clears the run request or leaves it. -/
theorem takeOne_runRequest {r : ReportArg} (hr : r.block ≤ 16) (h : s.get O.RUN_REQUEST = 0) : (takeOne r s).1.get O.RUN_REQUEST = 0 := by
  have hjudged : (judged r s).1.get O.RUN_REQUEST = 0 := ((judged_within hr s).get _ (by decide)).trans h
  rw [takeOne_eq]
  split
  · dsimp only
    rw [blackActions_runRequest, blackEntry_runRequest, hjudged]
    exact ite_self 0
  · exact hjudged

theorem takeAll_runRequest (k : Nat) {l : List ReportArg} (hl : ∀ r ∈ l, r.block ≤ 16) (h : s.get O.RUN_REQUEST = 0) :
    (takeAll k l s).get O.RUN_REQUEST = 0 := by
  induction k generalizing l s with
  | zero => exact h
  | succ k ih =>
    cases l with
    | nil => exact h
    | cons r rs =>
      have hr : r.block ≤ 16 := hl r List.mem_cons_self
      refine ih (fun x hx => ?_) (takeOne_runRequest hr h)
      exact (List.mem_append.1 hx).elim (fun hx => hl x (List.mem_cons_of_mem r hx)) (takeOne_blocks hr s x)

theorem raiseAll_runRequest {l : List Src} (hl : ∀ r ∈ l, r.Low) (h : s.get O.RUN_REQUEST = 0) : (raiseAll l s).get O.RUN_REQUEST = 0 := by
  have hblocks := raiseLeaves_blocks (fun r hr => (hl r hr).block) s
  refine takeAll_runRequest _ (fun r hr => hblocks r (mem_of_mem_foldr_insertReport hr)) ?_
  refine (raiseLeaves_get (fun r hr => ⟨(hl r hr).block, fun g hg => runRequest_ne_of_low ((hl r hr).leaf g hg)⟩) s).trans h

theorem PairKept.raiseAll {l : List Src} (h : PairKept s0 s) (hl : ∀ r ∈ l, r.Low) : PairKept s0 (raiseAll l s) :=
  ⟨((raiseAll_reported l s).field State.dx fun _ => rfl).trans h.dx, fun hrun => raiseAll_runRequest hl (h.run hrun)⟩

theorem PairKept.raise {r : Src} (h : PairKept s0 s) (hr : r.Low) : PairKept s0 (raise r s) := h.raiseAll fun _ hx => List.mem_singleton.1 hx ▸ hr

theorem checkStrings_pair (h : PairKept s0 s) : PairKept s0 (checkStrings s) := by
  refine h.each fun t ht x hx => ?_
  have ht8 : t < 8 := List.mem_range.1 ht
  have hlow : (R.STR_CAUSE.STRING_SHORT t).Low ∧ (R.STR_CAUSE.RESERVE_LOW t).Low := by
    simp only [Fld.Low, Fld.key, R.STR_CAUSE.STRING_SHORT, R.STR_CAUSE.RESERVE_LOW]
    omega
  obtain ⟨hshort, hreserve⟩ := hlow
  refine PairKept.raiseAll (hx.congr rfl rfl) fun r hr => ?_
  rcases List.mem_append.1 hr with hr | hr
  · split at hr
    · exact List.mem_singleton.1 hr ▸ .of_leaf (by show 8 ≤ 16; decide) rfl hshort
    · cases hr
  · split at hr
    · exact List.mem_singleton.1 hr ▸ .of_leaf (by show 8 ≤ 16; decide) rfl hreserve
    · cases hr

theorem linkDown_pair {n : Nat} (hn : n < 64) (h : PairKept s0 s) : PairKept s0 (linkDown n s) := by
  obtain ⟨-, hadmit, hid, hdelay, howner, hstatus, hfail, hbal, hheld⟩ := lane_low hn
  have hdrop : ∀ x, PairKept s0 x → PairKept s0 (dropVerify n x) := fun x hx => by
    unfold dropVerify; dsimp only; split <;> exact hx.congr rfl rfl
  unfold linkDown
  extract_lets a b c d e g
  have hd : PairKept s0 d := (hdrop b ((((h.set hadmit 0).set hid 0).set hdelay 0).set howner 0)).congr rfl rfl
  have he : PairKept s0 e := .ite ((hd.set hstatus 3).raise (.of_leaf (by show 2 ≤ 16; decide) rfl hfail)) hd
  have hg : PairKept s0 g := he.congr rfl rfl
  have hset : PairKept s0 (setBal n 0 g) := (hg.set hbal 0).congr rfl rfl
  exact checkStrings_pair (hset.set hheld 0)

theorem freshReceive_pair {n : Nat} (hn : n < 64) (h : PairKept s0 s) : PairKept s0 (freshReceive n s) := by
  obtain ⟨⟨-, -, hinv, hsignal, hcdr, haligned⟩, -⟩ := lane_low hn
  exact ((((h.set hinv _).set hsignal 0).set hcdr 0).set haligned 0).congr rfl rfl

theorem startAttempt_pair {n : Nat} (hn : n < 64) (h : PairKept s0 s) (k : Nat) : PairKept s0 (startAttempt n k s) := by
  obtain ⟨⟨hstate, hattempt, -⟩, -⟩ := lane_low hn
  unfold startAttempt
  extract_lets a b
  have ha : PairKept s0 a := (h.set hstate 2).set hattempt k
  have hb : PairKept s0 b := .ite (freshReceive_pair (by unfold mirror; omega) ha) ha
  exact (freshReceive_pair hn hb).congr rfl rfl

theorem bringUp_pair {n : Nat} (hn : n < 64) (h : PairKept s0 s) : PairKept s0 (bringUp n s) := by
  obtain ⟨⟨hstate, -⟩, -⟩ := lane_low hn
  unfold bringUp
  extract_lets x
  have hx : PairKept s0 x := .ite (linkDown_pair hn h) h
  refine .ite ((hx.set hstate 0).congr rfl rfl) (.ite (hx.set hstate 0) (.ite ?_ (.ite ?_ (hx.set hstate 1))))
  · exact (startAttempt_pair hn hx 0).set hstate 8
  · exact startAttempt_pair hn hx 1

theorem clearSpine_pair {i : Nat} (hi : i < 4) (h : PairKept s0 s) : PairKept s0 (clearSpine i s) := by
  obtain ⟨-, -, -, -, hinv, hsignal, hcdr, hlock, htx, hrx, hcrossed, hdelay⟩ := spine_low hi
  unfold clearSpine
  extract_lets a b c
  have hb : PairKept s0 b := (((h.set hinv _).set hsignal 0).set hcdr 0).set hlock 0
  have hc : PairKept s0 c := ((hb.set htx 0).set hrx 0).set hcrossed 0
  exact (hc.set hdelay 0xFFFFF).congr rfl rfl

theorem spineBringUp_pair {i : Nat} (hi : i < 4) (h : PairKept s0 s) : PairKept s0 (spineBringUp i s) := by
  obtain ⟨hstate, hstage, hattempt, habsent, -⟩ := spine_low hi
  unfold spineBringUp
  extract_lets x
  have hx : PairKept s0 x := clearSpine_pair hi h
  refine .ite ((hx.set hstate 0).congr rfl rfl) (.ite (hx.set hstate 1) (.ite ?_ ?_))
  · exact ((hx.set hstate 6).set hstage 2).raise (.of_leaf (by show 3 ≤ 16; decide) rfl habsent)
  · exact ((clearSpine_pair hi hx).set hstate 2).set hattempt 1

/-! ### Configure is left, R97, R185, R382, R429 -/

/-- The fields of a test lie with the lanes. -/
theorem testRegs_low {n : Nat} (hn : n < 68) :
    (testRegs n).gen.Low ∧ (testRegs n).chk.Low ∧ (testRegs n).pattern.Low ∧ (testRegs n).lock.Low := by
  unfold testRegs
  split
  · simp only [Fld.Low, Fld.key, R.LN_TEST.PRBS_GEN, R.LN_TEST.PRBS_CHK, R.LN_TEST.PATTERN, R.LN_TEST.PRBS_LOCK]
    omega
  · simp only [Fld.Low, Fld.key, R.SL_TEST.PRBS_GEN, R.SL_TEST.PRBS_CHK, R.SL_TEST.PATTERN, R.SL_TEST.PRBS_LOCK]
    omega

/-- The power chapter, the keep-alive registers and the duplex pair but for its digest stand. -/
structure ExitKept (s t : State) : Prop where
  power : PowerKept s t
  alone : t.dx.alone = s.dx.alone
  beats : t.dx.hbRun = s.dx.hbRun

theorem ExitKept.of_pair (h : ExitKept s0 s) (hpower : PowerKept s0 t) (hdx : t.dx = s.dx) : ExitKept s0 t :=
  ⟨hpower, by rw [hdx, h.alone], by rw [hdx, h.beats]⟩

theorem ExitKept.config (h : ExitKept s0 s) (b : List Byte) : ExitKept s0 { s with dx := { s.dx with config := b } } :=
  ⟨h.power.congr rfl rfl, h.alone, h.beats⟩

theorem endPattern_power {n : Nat} (hn : n < 68) (h : PowerKept s0 s) : PowerKept s0 (endPattern n s) := by
  obtain ⟨hgen, hchk, hpattern, hlock⟩ := testRegs_low hn
  exact ((((h.set hgen 0).set hchk 0).set hpattern 0).set hlock 0).congr rfl rfl

theorem stopTest_exit (hs : s0.inState [.armed, .run] = false) {n : Nat} (hn : n < 64) (h : ExitKept s0 s) : ExitKept s0 (stopTest n s) := by
  have hloop : (R.LN_TEST.LOOP n).Low := by
    simp only [Fld.Low, Fld.key, R.LN_TEST.LOOP]
    omega
  unfold stopTest
  split
  · exact h.of_pair (bringUp_kept hs hn (endPattern_power (by omega) (h.power.set hloop 0))) (bringUp_pair hn (.refl _)).dx
  · exact h

theorem stopSpineTest_exit (hs : s0.inState [.armed, .run] = false) {i : Nat} (hi : i < 4) (h : ExitKept s0 s) : ExitKept s0 (stopSpineTest i s) := by
  unfold stopSpineTest
  split
  · exact h.of_pair (spineBringUp_kept hs hi (endPattern_power (by omega) h.power)) (spineBringUp_pair hi (.refl _)).dx
  · exact h

theorem checkWcet_exit (hs : s0.inState [.armed, .run] = false) (h : ExitKept s0 s) : ExitKept s0 (checkWcet s) := by
  refine h.of_pair (raiseAll_kept hs h.power fun r hr => ?_) ((raiseAll_reported _ s).field State.dx fun _ => rfl)
  obtain ⟨k, hk, rfl⟩ := List.mem_map.1 hr
  have hk128 : k < 128 := List.mem_range.1 (List.mem_filter.1 hk).1
  refine .of_leaf (f := R.CX_CAUSE.WCET_RISK k) (by show 9 ≤ 16; decide) rfl ?_
  simp only [Fld.Low, Fld.key, R.CX_CAUSE.WCET_RISK]
  omega

theorem setWindow_exit (h : ExitKept s0 s) : ExitKept s0 (setWindow s) := by
  have hlow : R.WF_WINDOW.Low := by decide
  have hset : ∀ v w, ExitKept s0 ((s.set R.WF_WINDOW v).modWf w) := fun v w =>
    h.of_pair ((h.power.set hlow v).congr (t := (s.set R.WF_WINDOW v).modWf w) rfl rfl) rfl
  unfold setWindow
  extract_lets l us
  split_ifs
  · exact hset _ _
  · exact hset _ _
  · exact hset _ _

/-- A free value is drawn from the count alone. -/
theorem drawBytes_frame (s : State) (n : Nat) : (s.drawBytes n).2 = { s with freeCount := (s.drawBytes n).2.freeCount } := by
  unfold State.drawBytes
  refine List.foldlRecOn (motive := fun (a : List Byte × State) => a.2 = { s with freeCount := a.2.freeCount }) _ _ rfl fun a ha k _ => ?_
  exact congrArg (fun x : State => { x with freeCount := a.2.freeCount + 1 }) ha

theorem blockConfig_frame (s : State) : (blockConfig s).2 = { s with freeCount := (blockConfig s).2.freeCount } := by
  unfold blockConfig
  extract_lets chs kind dig head tail
  cases dig
  · rfl
  · exact drawBytes_frame s 256

theorem buildStream_exit (hs : s0.inState [.armed, .run] = false) (h : ExitKept s0 s) : ExitKept s0 (buildStream s) := by
  unfold buildStream
  have hb : ExitKept s0 (blockConfig s).2 := by
    rw [blockConfig_frame]
    exact h.of_pair (h.power.congr rfl rfl) rfl
  generalize blockConfig s = p at hb
  obtain ⟨c, x⟩ := p
  split
  · exact h
  · dsimp only
    have hmet : ∀ m, ExitKept s0 (x.modMet m) := fun m => hb.of_pair (hb.power.congr (t := x.modMet m) rfl rfl) rfl
    split_ifs
    · have hsent : ∀ l, Reported x (report l (sendTo 0x44 3 0 (leBytes 1 0 ++ (leBytes 4 x.pmuWord ++ c)) x).1) := fun l =>
        (sendTo_reported ..).trans (report_reported ..)
      exact hb.of_pair (report_kept hs (sendTo_kept hb.power 0x44 3 0 _)) ((hsent _).field State.dx fun _ => rfl)
    · exact hmet _
    · exact (hmet _).of_pair (raise_kept hs (hmet _).power (.of_leaf (f := R.MET_CAUSE.BLOCK_MISSING) (by decide) rfl (by decide)))
        ((raise_reported _ _).field State.dx fun _ => rfl)

/-- Leaving Configure moves nothing of the power chapter, and of the duplex pair its digest. -/
theorem exitConfigure_exit (hs : s.inState [.armed, .run] = false) : ExitKept s (exitConfigure s) := by
  unfold exitConfigure
  extract_lets a b c d
  have ha : ExitKept s a := State.each_keeps (P := ExitKept s) (s := s) ⟨.refl s, rfl, rfl⟩ fun n hn x hx => stopTest_exit hs (lane_lt hn) hx
  have hb : ExitKept s b := State.each_keeps (P := ExitKept s) ha fun i hi x hx => stopSpineTest_exit hs (spine_lt i hi) hx
  have hd : ExitKept s d := hb.config b.configDigest
  exact buildStream_exit hs (setWindow_exit (checkWcet_exit hs hd))

/-! ### Armed and Configure are entered, R531 -/

/-- Only registers but the run request, the phasor path, the wavefront unit and the duplex decision change. -/
structure ArmKept (s t : State) : Prop where
  pw : t.pw = s.pw
  alone : t.dx.alone = s.dx.alone
  beats : t.dx.hbRun = s.dx.hbRun
  run : t.get O.RUN_REQUEST = s.get O.RUN_REQUEST

theorem ArmKept.refl (s : State) : ArmKept s s := ⟨rfl, rfl, rfl, rfl⟩

theorem ArmKept.trans (h : ArmKept s0 s) (k : ArmKept s t) : ArmKept s0 t :=
  ⟨k.pw.trans h.pw, k.alone.trans h.alone, k.beats.trans h.beats, k.run.trans h.run⟩

theorem ArmKept.congr (h : ArmKept s0 s) (hpw : t.pw = s.pw) (hdx : t.dx = s.dx) (hregs : t.regs = s.regs) : ArmKept s0 t :=
  ⟨hpw.trans h.pw, by rw [hdx, h.alone], by rw [hdx, h.beats], (State.get_of_regs hregs _).trans h.run⟩

theorem ArmKept.set {f : Fld} (h : ArmKept s0 s) (hf : f.Low) (v : Nat) : ArmKept s0 (s.set f v) :=
  ⟨h.pw, h.alone, h.beats, (State.get_set_of_ne s v (runRequest_ne_of_low hf)).trans h.run⟩

theorem phasorStart_arm (s : State) : ArmKept s (phasorStart s) := ((ArmKept.refl s).set (by decide) _).congr rfl rfl rfl

theorem armTransmission_arm (s : State) : ArmKept s (armTransmission s) := by
  unfold armTransmission
  split
  · exact (ArmKept.refl s).set (by decide) 1
  · exact .refl s

theorem wfStart_arm (s : State) : ArmKept s (wfStart s) := by
  unfold wfStart
  split
  · extract_lets x
    have hx : ArmKept s x := ((ArmKept.refl s).set (by decide) 0).set (by decide) 1
    unfold wfSettled
    split
    · exact (hx.congr (t := x.modWf _) rfl rfl rfl).set (by decide) _
    · exact hx.congr rfl rfl rfl
  · exact .refl s

/-- Before 64 frames alone and 16 heartbeats no role is taken. -/
theorem decideRole_waits (halone : s.dx.alone < 64) (hbeats : s.dx.hbRun < 16) : decideRole s = s := by
  unfold decideRole
  split
  · rfl
  · rw [if_neg (by omega), if_neg (by omega)]

theorem enterArmed_holds (halone : s.dx.alone < 64) (hbeats : s.dx.hbRun < 16) :
    (enterArmed s).pw.state = .armed ∧ (enterArmed s).get O.RUN_REQUEST = s.get O.RUN_REQUEST := by
  have h : ArmKept (s.goto .armed) (wfStart (armTransmission (phasorStart (s.goto .armed)))) :=
    ((phasorStart_arm _).trans (armTransmission_arm _)).trans (wfStart_arm _)
  unfold enterArmed
  rw [decideRole_waits (by rw [h.alone]; exact halone) (by rw [h.beats]; exact hbeats)]
  exact ⟨by rw [h.pw]; rfl, h.run⟩

theorem wfOff_arm (s : State) : ArmKept s (wfOff s) := by
  have hstop : ArmKept s (wfStopCapture s) := by
    have hhold : ∀ n t, ArmKept s (wfHold n t s) := fun n t =>
      ((((ArmKept.refl s).set (by decide) 0).set (by decide) n).set (by decide) _).set (by decide) _
    unfold wfStopCapture
    split
    · extract_lets taken
      split
      · exact hhold _ _
      · exact hhold _ _
    · exact .refl s
  exact ((hstop.set (f := R.WF_STAT.STATE) (by decide) 0).set (f := R.WF_STAT.ALIGNED) (by decide) 0).congr rfl rfl rfl

end

end Sys2Proof.Machine
end
section
/-!
PROOFS. The device states (R500, R531, R532): the NMT commands, the run request, and the entry to Configure.
-/
namespace Sys2Proof.Machine

section
variable {s0 s : State}

/-! ### Configure is entered, R531 -/

theorem abandon_kept {k : Nat} (h : PowerKept s0 s) : PowerKept s0 (abandon k s) := by
  unfold abandon
  split
  · exact .ite (((h.congr rfl rfl : PowerKept s0 (s.modCtx k _))).inc (by decide)) (h.congr rfl rfl)
  · exact h

theorem checkInjection_kept (hs : s0.inState [.armed, .run] = false) (h : PowerKept s0 s) : PowerKept s0 (checkInjection s) := by
  unfold checkInjection
  split
  · refine report_kept hs (p := stopInjection s) ?_
    unfold stopInjection
    split
    · exact raiseLeaf_kept (h.congr rfl rfl) (.of_leaf (f := R.CE_CAUSE.INJ_DONE) (by decide) rfl (by decide))
    · exact .none h
  · exact h

theorem idleContexts_kept (hs : s0.inState [.armed, .run] = false) (h : PowerKept s0 s) : PowerKept s0 (idleContexts s) := by
  refine checkInjection_kept hs (h.each fun k hk x hx => ?_)
  have hlow : (R.CX_STAT.STATE k).Low := by
    have : k < 128 := List.mem_range.1 hk
    simp only [Fld.Low, Fld.key, R.CX_STAT.STATE]
    omega
  exact .ite (((abandon_kept hx).set hlow 1).congr rfl rfl) hx

theorem dropReady_kept (h : PowerKept s0 s) : PowerKept s0 (dropReady s) := .ite h (h.congr rfl rfl)

theorem canSend_arm (m : CanOut) (s : State) : ArmKept s (canSend m s) := by
  unfold canSend
  split
  · exact (ArmKept.refl s).congr rfl rfl rfl
  · exact .refl s

/-- Configure is entered without a run request. -/
theorem enterConfigure_holds (s : State) : (enterConfigure s).pw = { s.pw with state := .configure } ∧ (enterConfigure s).get O.RUN_REQUEST = 0 := by
  have hs : (s.goto .configure).inState [.armed, .run] = false := rfl
  have hidle : PowerKept (s.goto .configure) (dropReady (idleContexts (parkCells (s.goto .configure)))) :=
    dropReady_kept (idleContexts_kept hs (parkCells_kept (.refl _)))
  unfold enterConfigure
  extract_lets x
  have hx : x.pw = { s.pw with state := .configure } := hidle.pw
  clear_value x
  have harm : ArmKept (x.set O.RUN_REQUEST 0) (wfOff (phasorStart (canSend .bootUp (x.set O.RUN_REQUEST 0)))) :=
    ((canSend_arm _ _).trans (phasorStart_arm _)).trans (wfOff_arm _)
  exact ⟨harm.pw.trans hx, harm.run.trans (State.get_set_self ..)⟩

/-! ### The NMT commands, R531 -/

theorem nmtStart_configure (h : s.pw.state = .configure) : nmtStart s = if s.startBarred then refuseSec s else enterArmed (exitConfigure s) := by
  unfold nmtStart
  rw [h]

/-- Start enters Armed where the duplex pair still waits for its role. -/
theorem nmtStart_armed (h : s.pw.state = .configure) (hbar : s.startBarred = false) (halone : s.dx.alone < 64) (hbeats : s.dx.hbRun < 16) :
    (nmtStart s).pw.state = .armed := by
  have hexit := exitConfigure_exit (s := s) (by simp [State.inState, h])
  rw [nmtStart_configure h, hbar, if_neg Bool.false_ne_true]
  exact (enterArmed_holds (by rw [hexit.alone]; exact halone) (by rw [hexit.beats]; exact hbeats)).1

theorem enterSafe_runRequest (s : State) : (enterSafe s).1.get O.RUN_REQUEST = 0 := by
  rw [(enterSafe_within s).get _ (by decide), State.get_set_self]
  rfl

theorem toSafe_runRequest (s : State) : (toSafe s).get O.RUN_REQUEST = 0 := by
  rw [toSafe_eq]
  exact takeAll_runRequest _ (fun r hr => enterSafe_blocks s r (mem_of_mem_foldr_insertReport hr)) (enterSafe_runRequest s)

/-- Stop enters Safe from Armed. -/
theorem nmtStop_armed (h : s.pw.state = .armed) : (nmtStop s).pw.state = .safe ∧ (nmtStop s).get O.RUN_REQUEST = 0 := by
  have hstop : nmtStop s = (toSafe s).each lanes64 fun n x => requestUrgent n .black x := by
    unfold nmtStop
    rw [h]
    unfold stopToSafe
    rw [if_neg (by rw [h]; decide)]
  have hpw : ((toSafe s).each lanes64 fun n x => requestUrgent n .black x).pw = (toSafe s).pw :=
    State.each_keeps (P := fun x => x.pw = (toSafe s).pw) rfl fun n _ x hx => (requestUrgent_regs_pw n .black x).2.trans hx
  rw [hstop, hpw, get_of_regs_urgent]
  exact ⟨toSafe_state s, toSafe_runRequest s⟩

theorem nmtPreOp_armed (h : s.pw.state = .armed) : nmtPreOp s = enterConfigure s := by
  unfold nmtPreOp
  rw [h]

/-- In Armed, Run and Safe the cause of a reset is latched while Black sets go out (R64). -/
theorem requestReset_active (h : s.inState [.armed, .run, .safe] = true) (hfresh : s.noReset = true) (code : Nat) :
    requestReset code s = blackLanes (withCause (s.causeOf code 0) s) := by
  have hc : s.pw.cause = none := by simp_all [State.noReset]
  unfold requestReset
  rw [latch_noReset hfresh, if_neg (by simp [hc]), if_pos h]

theorem nmtReset_armed (h : s.pw.state = .armed) (hfresh : s.noReset = true) : nmtReset s = blackLanes (withCause (s.causeOf 0xB 0) s) := by
  unfold nmtReset
  rw [h]
  exact requestReset_active (by simp [State.inState, h]) hfresh 0xB

theorem nmtReset_run (h : s.pw.state = .run) : nmtReset s = raise Src.FN_NMT_REFUSED s := by
  unfold nmtReset
  rw [h]
  rfl

/-! ### Reset communication, R527 and R531 -/

/-- The places of the COB-IDs that a reset gives their values. -/
abbrev CobKey (k : Nat) : Prop := k = O.COB_EMCY.key ∨ ∃ j ∈ [0, 1, 2, 3], k = (O.RPDO_COB j).key ∨ k = (O.TPDO_COB j).key

theorem cobResets_within (s : State) : Within CobKey s (cobResets s) := by
  unfold cobResets
  extract_lets n x
  exact ((Within.refl s).set (.inl rfl) _).each fun j hj y =>
    ((Within.refl y).set (.inr ⟨j, hj, .inl rfl⟩) _).set (.inr ⟨j, hj, .inr rfl⟩) _

theorem cobResets_pw (s : State) : (cobResets s).pw = s.pw := by
  unfold cobResets
  extract_lets n x
  exact State.each_keeps (P := fun y => y.pw = x.pw) rfl fun j _ y hy => hy

/-- What Reset communication keeps of the register table: all but the objects 0x1000 to 0x1FFF. -/
def outsideComm (k : Nat) : Bool := !((0x10000000 + 0x100000) * 32 ≤ k && k < (0x10000000 + 0x200000) * 32)

/-- A field outside the communication objects stands, and one within them has its reset value. -/
theorem defaultComm_get {f : Fld} (hf : ¬ CobKey f.key) (s : State) :
    (defaultComm s).get f = if outsideComm f.key then s.get f else f.reset % 2 ^ f.width := by
  have hfilter : ∀ x : State, x.regs = s.regs.filter (fun e => outsideComm e.1) → (cobResets x).get f = if outsideComm f.key then s.get f else f.reset % 2 ^ f.width :=
    fun x hx => ((cobResets_within x).get f hf).trans (State.get_of_filter hx f)
  unfold defaultComm
  exact hfilter _ rfl

theorem defaultComm_pw (s : State) : (defaultComm s).pw = s.pw := cobResets_pw _

/-- What Reset communication leaves where no configuration is stored. -/
structure CommReset (s t : State) : Prop where
  regs : t.regs = (defaultComm (canRestart s)).regs
  pw : t.pw = s.pw
  errors : t.net.errors = []

theorem nmtResetComm_reset (h : s.pw.state = .run) (hstore : s.store.copies = []) : CommReset s (nmtResetComm s) := by
  have hlist : Tab.get [] s.store.copies s.store.newer = [] := by rw [hstore]; rfl
  unfold nmtResetComm
  rw [if_pos (by simp [State.inState, h]), hlist]
  exact ⟨rfl, defaultComm_pw (canRestart s), rfl⟩

/-! ### Run, R532 -/

theorem setRunRequest_bit (v : Bool) (h : s.pw.state ≠ .run) : setRunRequest v s = s.setBit O.RUN_REQUEST v := by
  unfold setRunRequest
  exact if_neg fun hrun => h hrun.1

/-- A run request of 0 in Run returns to Armed. -/
theorem setRunRequest_armed (h : s.pw.state = .run) (halone : s.dx.alone < 64) (hbeats : s.dx.hbRun < 16) :
    (setRunRequest false s).pw.state = .armed ∧ (setRunRequest false s).get O.RUN_REQUEST = 0 := by
  have hset : setRunRequest false s = enterArmed (parkCells (s.set O.RUN_REQUEST 0)) := by
    unfold setRunRequest
    exact if_pos ⟨h, rfl⟩
  have hpark := parkCells_reported (s.set O.RUN_REQUEST 0)
  have hdx : (parkCells (s.set O.RUN_REQUEST 0)).dx = s.dx := hpark.field State.dx fun _ => rfl
  obtain ⟨hstate, hrun⟩ := enterArmed_holds (s := parkCells (s.set O.RUN_REQUEST 0)) (by rw [hdx]; exact halone) (by rw [hdx]; exact hbeats)
  rw [hset]
  refine ⟨hstate, hrun.trans (((parkCells_within _).get _ (by decide)).trans ?_)⟩
  rw [State.get_set_self]
  rfl

/-! ### Configure from Boot, R500 -/

/-- A stored configuration and stored images that are missing are reported, and the power chapter stands. -/
theorem loadStored_missing (h : s.inState [.armed, .run] = false) (hstore : s.store.copies = []) (himages : s.sec.images = []) :
    PowerKept s (loadStored (applyConfig s)) := by
  have hconfig : applyConfig s = raise Src.FN_STORE_BAD s := by
    unfold applyConfig
    extract_lets d l
    exact if_pos (by simp [l, hstore])
  have hkept : PowerKept s (raise Src.FN_STORE_BAD s) := raise_kept h (.refl s) (.of_leaf (f := R.FN_CAUSE.STORE_BAD) (by decide) rfl (by decide))
  have hsec : (raise Src.FN_STORE_BAD s).sec.images = [] := ((raise_reported _ s).field (fun x => x.sec.images) fun _ => rfl).trans himages
  rw [hconfig]
  generalize raise Src.FN_STORE_BAD s = x at hkept hsec
  have hload : loadStored x = raise Src.SEC_AUTH_FAIL x := by
    unfold loadStored
    extract_lets a b
    have ha : a = [] := by simp [a, hsec]
    have hb : b = [] := by simp [b, hsec]
    rw [if_neg fun hne => hne.1 ha, if_neg fun hne => hne.1 hb]
  rw [hload]
  exact raise_kept h hkept (.of_leaf (f := R.SEC_CAUSE.AUTH_FAIL) (by decide) rfl (by decide))

/-- The lanes and the spine come up in Configure without a run request. -/
theorem lanesUp_holds (h : s.pw.state = .configure) (hrun : s.get O.RUN_REQUEST = 0) :
    ((s.each lanes64 bringUp).each spine4 spineBringUp).pw = s.pw ∧ ((s.each lanes64 bringUp).each spine4 spineBringUp).get O.RUN_REQUEST = 0 := by
  have hs : s.inState [.armed, .run] = false := by simp [State.inState, h]
  have hpower : PowerKept s ((s.each lanes64 bringUp).each spine4 spineBringUp) :=
    ((PowerKept.refl s).each fun n hn x hx => bringUp_kept hs (lane_lt hn) hx).each fun i hi x hx => spineBringUp_kept hs (spine_lt i hi) hx
  have hpair : PairKept s ((s.each lanes64 bringUp).each spine4 spineBringUp) :=
    ((PairKept.refl s).each fun n hn x hx => bringUp_pair (lane_lt hn) hx).each fun i hi x hx => spineBringUp_pair (spine_lt i hi) hx
  exact ⟨hpower.pw, hpair.run hrun⟩

theorem startSucceeded_holds (s : State) :
    (startSucceeded s).pw = { s.pw with selfTest := false, stage := 7 } ∧ (startSucceeded s).get O.RUN_REQUEST = s.get O.RUN_REQUEST
      ∧ (startSucceeded s).get R.START_STAT.PENDING = 0 ∧ (startSucceeded s).get R.START_STAT.FAILED_CONSEC = 0 := by
  have hregs : (startSucceeded s).regs = ((s.set R.START_STAT.PENDING 0).set R.START_STAT.FAILED_CONSEC 0).regs := by
    unfold startSucceeded
    extract_lets x y
    split <;> rfl
  refine ⟨?_, ?_, ?_, ?_⟩
  · unfold startSucceeded
    extract_lets x y
    split <;> rfl
  · rw [State.get_of_regs hregs, State.get_set_of_ne _ _ (by decide), State.get_set_of_ne _ _ (by decide)]
  · rw [State.get_of_regs hregs, State.get_set_of_ne _ _ (by decide), State.get_set_self]
    rfl
  · rw [State.get_of_regs hregs, State.get_set_self]
    rfl

/-- The device reaches Configure; a start whose self-test is complete succeeds (R71). -/
theorem reachConfigure_holds (hstate : s.pw.state = .boot) (hfw : s.pw.fwRuns = true) (hslate : s.pw.slateStart = false)
    (hscan : s.recd.scanned = true) (hstore : s.store.copies = []) (himages : s.sec.images = []) :
    (reachConfigure s).pw.state = .configure ∧ (reachConfigure s).get O.RUN_REQUEST = 0
      ∧ (s.pw.selfTestDone = true → (reachConfigure s).get R.START_STAT.PENDING = 0 ∧ (reachConfigure s).get R.START_STAT.FAILED_CONSEC = 0
        ∧ (reachConfigure s).pw.stage = 7) := by
  have hload := loadStored_missing (s := s) (by simp [State.inState, hstate]) hstore himages
  obtain ⟨hconfigure, hrun⟩ := enterConfigure_holds (loadStored (applyConfig s))
  rw [hload.pw] at hconfigure
  generalize hx : enterConfigure (loadStored (applyConfig s)) = x at hconfigure hrun
  have hclear : (useRates (x.set R.FC_NFAULT.DRIVE 0)).get O.RUN_REQUEST = 0 :=
    (State.get_set_of_ne x (f := R.FC_NFAULT.DRIVE) 0 (by decide)).trans hrun
  obtain ⟨hpw, hrun⟩ := lanesUp_holds (s := useRates (x.set R.FC_NFAULT.DRIVE 0)) (by show x.pw.state = _; rw [hconfigure]) hclear
  generalize hy : ((useRates (x.set R.FC_NFAULT.DRIVE 0)).each lanes64 bringUp).each spine4 spineBringUp = y at hpw hrun
  have hpw : y.pw = { s.pw with state := .configure } := hpw.trans hconfigure
  have hdone : y.pw.selfTestDone = s.pw.selfTestDone := by rw [hpw]
  have hreach : reachConfigure s = if s.pw.selfTestDone then startSucceeded y else y := by
    rw [← hdone, ← hy, ← hx]
    unfold reachConfigure
    exact if_pos ⟨hstate, hfw, by rw [hslate]; rfl, hscan⟩
  obtain ⟨hpw', hrun', hpending, hfailed⟩ := startSucceeded_holds y
  rw [hreach]
  split
  next =>
    rw [hpw', hpw, hrun']
    exact ⟨rfl, hrun, fun _ => ⟨hpending, hfailed, rfl⟩⟩
  next hnot =>
    rw [hpw]
    exact ⟨rfl, hrun, fun h => absurd h hnot⟩

end

theorem exec_nmt {c : Instr} {f : State → State} {s : State} (hbus : s.onBus = true) (h : exec c s = .next (if s.onBus then f s else s)) :
    exec c s = .next (f s) := by rw [h, if_pos hbus]

/-- Settles O49: each command is the entry to the state that it names. -/
theorem deviceStatesFollowCommands : Obligations.DeviceStatesFollowCommands := by
  unfold Obligations.DeviceStatesFollowCommands
  refine ⟨?start, ?barred, ?stop, ?preOperational, ?resetNode, ?resetNodeRun, ?resetCommunication, ?request, ?leaveRun, ?enterRun, ?blocked, ?configure,
    ?duplicate⟩
  case start =>
    intro s hbus hstate hbar halone hbeats
    exact ⟨_, exec_nmt hbus rfl, nmtStart_armed hstate hbar halone hbeats⟩
  case barred =>
    intro s hbus hstate hbar
    rw [exec_nmt (c := .nmtStart) (f := nmtStart) hbus rfl, nmtStart_configure hstate, if_pos hbar]
    rfl
  case stop =>
    intro s hbus hstate
    exact ⟨_, exec_nmt hbus rfl, nmtStop_armed hstate⟩
  case preOperational =>
    intro s hbus hstate
    obtain ⟨hpw, hrun⟩ := enterConfigure_holds s
    refine ⟨_, exec_nmt (f := nmtPreOp) hbus rfl, ?_⟩
    rw [nmtPreOp_armed hstate, hpw]
    exact ⟨rfl, hrun⟩
  case resetNode =>
    intro s hbus hstate hfresh
    obtain ⟨hregs, hpw⟩ := blackLanes_regs_pw (withCause (s.causeOf 0xB 0) s)
    refine ⟨_, exec_nmt (f := nmtReset) hbus rfl, ?_⟩
    rw [nmtReset_armed hstate hfresh, hpw, hregs]
    exact ⟨rfl, hstate, rfl⟩
  case resetNodeRun =>
    intro s hbus hstate
    rw [exec_nmt (c := .nmtResetNode) (f := nmtReset) hbus rfl, nmtReset_run hstate]
  case resetCommunication =>
    intro s hbus hstate hstore
    have hreset := nmtResetComm_reset hstate hstore
    refine ⟨_, exec_nmt (f := nmtResetComm) hbus rfl, ?_, ?_, ?_, hreset.errors, ?_, hreset.pw⟩
    · rw [State.get_of_regs hreset.regs, defaultComm_get (by decide), if_pos (by decide), canRestart_tec]
    · rw [State.get_of_regs hreset.regs, defaultComm_get (by decide), if_pos (by decide), canRestart_rec]
    · rw [State.get_of_regs hreset.regs, defaultComm_get (by decide), if_pos (by decide), canRestart_bus (State.onBus_iff.1 hbus).1]
    · rw [State.get_of_regs hreset.regs, defaultComm_get (by decide), if_neg (by decide)]
      rfl
  case request =>
    intro s v hserved hrun
    refine ⟨s.setBit O.RUN_REQUEST v, ?_, State.bit_setBit_self rfl s v, (OnlySets.refl s _).set _ (by simp)⟩
    show Host.Outcome.next _ = _
    rw [if_pos hserved, setRunRequest_bit v hrun]
  case leaveRun =>
    intro s hstate halone hbeats
    refine ⟨setRunRequest false s, ?_, setRunRequest_armed hstate halone hbeats⟩
    show Host.Outcome.next _ = _
    rw [if_pos (by simp [State.served, State.inState, hstate])]
  case enterRun =>
    intro s hstate hrequest hblockers hsingle
    show Host.Outcome.next _ = _
    rw [if_pos ⟨hstate, hrequest, hblockers, by rw [hsingle]; rfl⟩]
    rfl
  case blocked =>
    intro s hblockers
    show Host.Outcome.next _ = _
    rw [if_neg fun h => hblockers h.2.2.1]
  case configure =>
    intro s hstate hfw hslate hscan hstore himages
    exact ⟨reachConfigure s, rfl, reachConfigure_holds hstate hfw hslate hscan hstore himages⟩
  case duplicate =>
    intro s hdup
    show Host.Outcome.next _ = _
    rw [if_neg (by simp [hdup])]

end Sys2Proof.Machine
end
section
/-!
PROOFS. Signed tokens, firmware images, anti-rollback counters and attestation (19_security_repair.md, R507 to R521).
-/
namespace Sys2Proof.Machine

/-! ### The security engine, R511 -/

section
variable {s x : State}

/-- Taking up an operation changes the one in flight and the queue. -/
theorem engineNext_frame (s : State) : ∃ e q, engineNext s = { s with sec := { s.sec with engine := e, engineQ := q } } := by
  unfold engineNext
  split
  · exact ⟨s.sec.engine, s.sec.engineQ, rfl⟩
  · exact ⟨_, s.sec.engineQ, rfl⟩
  · exact ⟨_, _, rfl⟩
  · exact ⟨s.sec.engine, s.sec.engineQ, rfl⟩

theorem engineAsk_frame (o : EngineOp) (s : State) : ∃ e q, engineAsk o s = { s with sec := { s.sec with engine := e, engineQ := q } } := by
  obtain ⟨e, q, h⟩ := engineNext_frame { s with sec := { s.sec with engineQ := s.sec.engineQ ++ [o] } }
  exact ⟨e, q, h⟩

theorem engineEnds_frame (s : State) : ∃ e q, engineEnds s = { s with sec := { s.sec with engine := e, engineQ := q } } := by
  obtain ⟨e, q, h⟩ := engineNext_frame { s with sec := { s.sec with engine := none } }
  exact ⟨e, q, h⟩

/-- A state with the engine of `s` asks it for an operation. -/
theorem engineAsk_asks (o : EngineOp) (hengine : x.sec.engine = s.sec.engine) (hqueue : x.sec.engineQ = s.sec.engineQ) (hverify : x.verifyQ = s.verifyQ) :
    s.asksEngine (engineAsk o x) o := by
  constructor
  · intro hidle hverifies hempty
    unfold engineAsk engineNext
    simp [hengine, hqueue, hverify, hidle, hverifies, hempty]
  · intro hbusy
    obtain ⟨e, he⟩ := Option.isSome_iff_exists.1 hbusy
    unfold engineAsk engineNext
    simp [hengine, hqueue, he]

/-! ### Tokens are written, R509 to R511 -/

theorem writeToken_first {cmd : Nat} {b : List Byte} (h : s.sec.tokens = []) :
    writeToken cmd none b s = engineAsk .token (s.modSec fun x => { x with tokens := x.tokens ++ [⟨cmd, b, none⟩] }) := by
  unfold writeToken
  extract_lets cmds
  exact if_neg (by rw [h]; simp)

/-- The first token waits for its check. -/
theorem writeToken_waits {cmd : Nat} {b : List Byte} (h : s.sec.tokens = []) :
    (writeToken cmd none b s).sec.tokens = [⟨cmd, b, none⟩] ∧ s.asksEngine (writeToken cmd none b s) .token
      ∧ writeToken cmd none b s = { s with sec := (writeToken cmd none b s).sec } := by
  rw [writeToken_first h]
  have hasks := engineAsk_asks (s := s) (x := s.modSec fun x => { x with tokens := x.tokens ++ [⟨cmd, b, none⟩] }) .token rfl rfl rfl
  obtain ⟨e, q, hask⟩ := engineAsk_frame .token (s.modSec fun x => { x with tokens := x.tokens ++ [⟨cmd, b, none⟩] })
  refine ⟨?_, hasks, ?_⟩
  · rw [hask]
    exact congrArg (· ++ [(⟨cmd, b, none⟩ : TokenJob)]) h
  · rw [hask]
    rfl

/-- A token of a command that is in work gets code 0x07. -/
theorem writeToken_busy {b c : List Byte} (h : s.sec.tokens = [⟨1, c, none⟩]) (hcmd : tokCmd c = tokCmd b) (hheader : tokHeaderOk [1] b = true) :
    writeToken 1 none b s = raise Src.SEC_SETTING_REFUSED (s.set R.SEC_BOOT.TOKEN_RESULT 7) := by
  unfold writeToken
  extract_lets cmds code
  have hcode : code = 7 := if_pos hheader
  rw [if_pos (by rw [h]; simp [cmds, entryCmds, hcmd]), hcode]
  rfl

/-! ### Tokens are checked, R510 and R511 -/

theorem tokenCode_le (s : State) (cmds : List Nat) (b : List Byte) : s.tokenCode cmds b ≤ 6 := by
  unfold State.tokenCode
  split_ifs <;> decide

theorem raiseCode_reported (c : Nat) (s : State) : Reported s (raiseCode c s) := by
  unfold raiseCode
  split_ifs
  · exact raise_reported ..
  · exact raise_reported ..
  · exact .refl s

theorem refuseToken_reported (c cmd : Nat) (b : List Byte) (s : State) : Reported s (refuseToken c cmd b s) := by
  unfold refuseToken
  extract_lets x
  split_ifs
  · exact raiseCode_reported c s
  · exact (raiseCode_reported c s).trans (refuse_reported Src.SEC_SETTING_REFUSED x)

/-- A refusal leaves the result words. -/
theorem raiseCode_get {f : Fld} (hf : ¬ ReportKey f.key) (hauth : R.SEC_CAUSE.AUTH_FAIL.key ≠ f.key) (hroll : R.SEC_CAUSE.ROLLBACK.key ≠ f.key)
    (c : Nat) (s : State) : (raiseCode c s).get f = s.get f := by
  unfold raiseCode
  split_ifs
  · exact raise_get hf (.of_leaf (by decide) rfl hauth) s
  · exact raise_get hf (.of_leaf (by decide) rfl hroll) s
  · rfl

theorem refuseToken_result (c cmd : Nat) (b : List Byte) (s : State) :
    (refuseToken c cmd b s).get R.SEC_BOOT.TOKEN_RESULT = s.get R.SEC_BOOT.TOKEN_RESULT := by
  have hcode := raiseCode_get (f := R.SEC_BOOT.TOKEN_RESULT) (by decide) (by decide) (by decide) c s
  unfold refuseToken
  extract_lets x
  split_ifs
  · exact hcode
  · exact (raise_get (by decide) (.of_leaf (f := R.SEC_BOOT.TOKEN_RESULT) (r := Src.SEC_SETTING_REFUSED) (by decide) rfl (by decide)) _).trans hcode

/-- The security state of a token whose check has ended: the token has left, and a new challenge is drawn. -/
structure TokenTaken (s : State) (rest : List TokenJob) (x : Sec) : Prop where
  tokens : x.tokens = rest
  slots : x.slotState = s.sec.slotState
  digests : x.slotDigest = s.sec.slotDigest
  clearing : x.clearing = s.sec.clearing

/-- The check ends with its code: an accepted token acts, another is refused. -/
theorem tokenChecked_eq {cmd : Nat} {b : List Byte} {rest : List TokenJob} (hengine : s.sec.engine = some .token)
    (htokens : s.sec.tokens = ⟨cmd, b, none⟩ :: rest) :
    ∃ x free, TokenTaken s rest x ∧ tokenChecked s =
      let y := { s.set R.SEC_BOOT.TOKEN_RESULT (s.tokenCode (entryCmds cmd) b) with sec := x, freeCount := free }
      if s.tokenCode (entryCmds cmd) b = 0 then applyToken b y else refuseToken (s.tokenCode (entryCmds cmd) b) cmd b y := by
  obtain ⟨e, q, hends⟩ := engineEnds_frame s
  unfold tokenChecked
  rw [hengine, htokens]
  simp only [hends, State.draw, answerTo]
  refine ⟨_, _, ?_, rfl⟩
  exact ⟨rfl, rfl, rfl, rfl⟩

theorem tokenChecked_idle (h : s.sec.engine ≠ some .token) : tokenChecked s = s := by
  unfold tokenChecked
  split
  next he _ => exact absurd he h
  next => rfl

/-- What the end of a check leaves where the token is refused, and of one that acts on the security state alone. -/
theorem tokenChecked_holds {cmd : Nat} {b : List Byte} {rest : List TokenJob} {f : Sec → Sec} (hengine : s.sec.engine = some .token)
    (htokens : s.sec.tokens = ⟨cmd, b, none⟩ :: rest) (happly : ∀ y, applyToken b y = y.modSec f) :
    (tokenChecked s).get R.SEC_BOOT.TOKEN_RESULT = s.tokenCode (entryCmds cmd) b
      ∧ ∃ x, TokenTaken s rest x
        ∧ (s.tokenCode (entryCmds cmd) b = 0 → (tokenChecked s).sec = f x ∧ OnlyRegs s (tokenChecked s) [R.SEC_BOOT.TOKEN_RESULT])
        ∧ (s.tokenCode (entryCmds cmd) b ≠ 0 → (tokenChecked s).sec = x) := by
  obtain ⟨x, free, htaken, heq⟩ := tokenChecked_eq hengine htokens
  have hcode := tokenCode_le s (entryCmds cmd) b
  generalize s.tokenCode (entryCmds cmd) b = c at heq hcode
  have hget : (s.set R.SEC_BOOT.TOKEN_RESULT c).get R.SEC_BOOT.TOKEN_RESULT = c :=
    (State.get_set_self ..).trans (Nat.mod_eq_of_lt (show c < 256 by omega))
  rw [heq]
  dsimp only
  by_cases hc : c = 0
  · rw [if_pos hc, happly]
    refine ⟨hget, x, htaken, fun _ => ⟨rfl, ?_⟩, fun h => absurd hc h⟩
    exact ((OnlyRegs.of_regs rfl _).set c (List.mem_singleton_self R.SEC_BOOT.TOKEN_RESULT) : OnlyRegs s (s.set R.SEC_BOOT.TOKEN_RESULT c) _)
  · rw [if_neg hc]
    refine ⟨(refuseToken_result ..).trans hget, x, htaken, fun h => absurd h hc, fun _ => ?_⟩
    exact (refuseToken_reported c cmd b _).field State.sec fun _ => rfl

theorem applyToken_clear {b : List Byte} (h : tokCmd b = 1) (y : State) : applyToken b y = y.modSec fun x => { x with clearing := true } := by
  unfold applyToken
  rw [h]
  rfl

theorem applyToken_enrol {b : List Byte} (h : tokCmd b = 2) (y : State) :
    applyToken b y = y.modSec fun x =>
      { x with
        slotState := Tab.set 0 x.slotState (leAt (tokPayload b) 0 1) 1
        slotDigest := Tab.set 0 x.slotDigest (leAt (tokPayload b) 0 1) (BitVec.ofNat 512 (leAt (tokPayload b) 4 64)) } := by
  unfold applyToken
  rw [h]
  rfl

theorem applyToken_revoke {b : List Byte} (h : tokCmd b = 3) (y : State) :
    applyToken b y = y.modSec fun x => { x with slotState := Tab.set 0 x.slotState (leAt (tokPayload b) 0 1) 3 } := by
  unfold applyToken
  rw [h]
  rfl

/-! ### The reset of an accepted clear, R511 and R81 -/

theorem recordCause_clear {c : ResetCause} (hc : c.code = 0xF) (s : State) :
    (recordCause c s).get R.START_STAT.SLATE = 0 ∧ (recordCause c s).get R.START_STAT.FAILED_CONSEC = 0 := by
  have h : recordCause c s = (leaveSlate (writeCause c s)).set R.START_STAT.PENDING 0 := by
    unfold recordCause
    extract_lets x
    exact if_pos hc
  rw [h, State.get_set_of_ne _ _ (by decide), State.get_set_of_ne _ _ (by decide)]
  unfold leaveSlate
  constructor
  · rw [State.get_set_of_ne _ _ (by decide), State.get_set_of_ne _ _ (by decide), State.get_set_self]
    rfl
  · rw [State.get_set_self]
    rfl

/-- Cause 0x0F ends the history of failed starts. -/
theorem takeReset_clear (hfresh : s.noReset = true) (hdrop : s.dropsFor 0xF = false) :
    (takeReset (latch 0xF 0 s)).get R.START_STAT.SLATE = 0 ∧ (takeReset (latch 0xF 0 s)).get R.START_STAT.FAILED_CONSEC = 0 := by
  have hdrop' : (withCause (s.causeOf 0xF 0) s).dropsFor (s.causeOf 0xF 0).code = false := hdrop
  rw [latch_noReset hfresh, takeReset_of_cause (s := withCause (s.causeOf 0xF 0) s) (c := s.causeOf 0xF 0) rfl, hdrop']
  generalize saveBefore (s.causeOf 0xF 0).code (withCause (s.causeOf 0xF 0) s) = x
  have hregs : (endReset (s.causeOf 0xF 0) false x).regs = (clearState (recordCause (s.causeOf 0xF 0) x)).regs := enterColdHold_regs _
  obtain ⟨hslate, hfailed⟩ := recordCause_clear (c := s.causeOf 0xF 0) rfl x
  rw [State.get_of_regs hregs, State.get_of_regs hregs, clearState_get (by decide), clearState_get (by decide)]
  exact ⟨hslate, hfailed⟩

end

theorem exec_authClearReset {s : State} (h : s.sec.clearing = true) : exec .authClearReset s = .next (requestReset 0xF s) := by
  show Host.Outcome.next (if s.sec.clearing then requestReset 0xF s else s) = _
  rw [if_pos h]

theorem exec_tokenCheckDone (s : State) : exec .tokenCheckDone s = .next (tokenChecked s) := rfl

/-- A token that a command brings waits for its check (R509, R511). -/
theorem exec_writes_token {c : Instr} {s : State} {cmd : Nat} {b : List Byte} (hexec : exec c s = .next (writeToken cmd none b s))
    (h : s.sec.tokens = []) :
    ∃ t, exec c s = .next t ∧ t.sec.tokens = [⟨cmd, b, none⟩] ∧ s.asksEngine t .token ∧ t = { s with sec := t.sec } :=
  ⟨_, hexec, writeToken_waits h⟩

/-- Settles O45: a write of the first token asks the engine (`writeToken_waits`), and the end of its check acts on the security state alone
(`tokenChecked_holds`). -/
theorem signedTokens : Obligations.SignedTokens := by
  unfold Obligations.SignedTokens
  refine ⟨?clear, ?enrol, ?revoke, ?maker, ?debug, ?busy, ?enrolled, ?revoked, ?cleared, ?idle, ?resetRun, ?resetSlate, ?debugZero⟩
  case clear =>
    intro s b hcore h
    exact exec_writes_token (congrArg Host.Outcome.next (if_pos hcore)) h
  case enrol =>
    intro s b hstate h
    exact exec_writes_token (congrArg Host.Outcome.next (if_pos (by simp [State.inState, hstate]))) h
  case revoke =>
    intro s b hstate h
    exact exec_writes_token (congrArg Host.Outcome.next (if_pos (by simp [State.inState, hstate]))) h
  case maker =>
    intro s b hstate h
    exact exec_writes_token (congrArg Host.Outcome.next (if_pos (by simp [State.inState, hstate]))) h
  case debug =>
    intro s b hcore h
    exact exec_writes_token (congrArg Host.Outcome.next (if_pos hcore)) h
  case busy =>
    intro s b c hcore h hcmd hheader
    exact (congrArg Host.Outcome.next (if_pos hcore)).trans (congrArg Host.Outcome.next (writeToken_busy h hcmd hheader))
  case enrolled =>
    intro s b rest hengine htokens hcmd
    obtain ⟨hresult, x, htaken, haccepted, hrefused⟩ := tokenChecked_holds hengine htokens (applyToken_enrol hcmd)
    refine ⟨_, exec_tokenCheckDone s, hresult, ?_, fun hc => ?_, fun hc => ?_⟩
    · by_cases hc : s.tokenCode (entryCmds 2) b = 0
      · rw [(haccepted hc).1]
        exact htaken.tokens
      · rw [hrefused hc]
        exact htaken.tokens
    · rw [hrefused hc]
      exact htaken.slots
    · obtain ⟨hsec, honly⟩ := haccepted hc
      simp only [State.slotState]
      rw [hsec]
      dsimp only
      refine ⟨Tab.get_set_self .., Tab.get_set_self .., fun k hk => ?_, honly⟩
      rw [Tab.get_set_of_ne _ _ _ hk.symm, htaken.slots]
  case revoked =>
    intro s b rest hengine htokens hcmd
    obtain ⟨hresult, x, htaken, haccepted, hrefused⟩ := tokenChecked_holds hengine htokens (applyToken_revoke hcmd)
    refine ⟨_, exec_tokenCheckDone s, hresult, ?_, fun hc => ?_⟩
    · by_cases hc : s.tokenCode (entryCmds 3) b = 0
      · rw [(haccepted hc).1]
        exact htaken.tokens
      · rw [hrefused hc]
        exact htaken.tokens
    · obtain ⟨hsec, honly⟩ := haccepted hc
      simp only [State.slotState]
      rw [hsec]
      dsimp only
      exact ⟨Tab.get_set_self .., honly⟩
  case cleared =>
    intro s b rest hengine htokens hcmd
    obtain ⟨hresult, x, htaken, haccepted, hrefused⟩ := tokenChecked_holds hengine htokens (applyToken_clear hcmd)
    refine ⟨_, exec_tokenCheckDone s, hresult, ?_, fun hc => ?_, fun hc => ?_⟩
    · by_cases hc : s.tokenCode (entryCmds 1) b = 0
      · rw [(haccepted hc).1]
        exact htaken.slots
      · rw [hrefused hc]
        exact htaken.slots
    · obtain ⟨hsec, honly⟩ := haccepted hc
      rw [hsec]
      exact ⟨rfl, honly⟩
    · rw [hrefused hc]
      exact htaken.clearing
  case idle =>
    intro s h
    rw [exec_tokenCheckDone, tokenChecked_idle h]
  case resetRun =>
    intro s hclearing hstate hfresh
    obtain ⟨hregs, hpw⟩ := blackLanes_regs_pw (withCause (s.causeOf 0xF 0) s)
    refine ⟨_, exec_authClearReset hclearing, ?_⟩
    rw [requestReset_active (by simp [State.inState, hstate]) hfresh, hpw, hregs]
    exact ⟨rfl, hstate, rfl⟩
  case resetSlate =>
    intro s hclearing hstate hfresh hloss heject
    have hdrop : s.dropsFor 0xF = false := State.dropsFor_eq hloss heject 0xF
    have hended := takeReset_latch hfresh 0xF 0
    obtain ⟨hslate, hfailed⟩ := takeReset_clear hfresh hdrop
    refine ⟨_, exec_authClearReset hclearing, ?_⟩
    rw [requestReset_start (by simp [State.inState, hstate]) hfresh]
    refine ⟨?_, hended.code, hslate, hfailed⟩
    rw [hended.state, hdrop]
    rfl
  case debugZero =>
    intro s
    exact ⟨_, rfl, State.get_set_self s R.SEC_STAT.DEBUG 0, (OnlySets.refl s _).set 0 (by simp)⟩

/-! ### Firmware images, R514 -/

section
variable {s : State}

theorem fwCode_le (s : State) (b : List Byte) : s.fwCode b ≤ 5 := by
  unfold State.fwCode
  split_ifs <;> decide

/-- An image is written to the bank that does not run. -/
theorem writeFirmware_holds {b : List Byte} (h : s.pw.state = .configure) :
    Tab.get [] (writeFirmware none b s).sec.banks (1 - s.get R.SEC_BOOT.BANK) = b ∧ (writeFirmware none b s).sec.checking = true
      ∧ (s.sec.checking = false → s.asksEngine (writeFirmware none b s) .firmware)
      ∧ writeFirmware none b s = { s with sec := (writeFirmware none b s).sec } := by
  have hbank : Tab.get [] (Tab.put s.sec.banks (1 - s.get R.SEC_BOOT.BANK) b) (1 - s.get R.SEC_BOOT.BANK) = b := by
    rw [Tab.get, Tab.find?_put, if_pos rfl]
    rfl
  unfold writeFirmware
  rw [if_pos (by simp [State.inState, h])]
  extract_lets o waits x
  split
  next hwaits => exact ⟨hbank, rfl, fun hfree => absurd hwaits (by simp [waits, hfree]), rfl⟩
  next =>
    have hasks := engineAsk_asks (s := s) (x := x) .firmware rfl rfl rfl
    obtain ⟨e, q, hask⟩ := engineAsk_frame .firmware x
    refine ⟨?_, ?_, fun _ => hasks, ?_⟩
    · rw [hask]
      exact hbank
    · rw [hask]
      rfl
    · rw [hask]
      rfl

theorem bitAt_setBitAt_false (x i : Nat) : bitAt (setBitAt x i false) i = false := by
  unfold setBitAt
  split
  · assumption
  · next h =>
    have hbit : x / 2 ^ i % 2 = 1 := by simpa [bitAt] using h
    have hle : 2 ^ i * 1 ≤ x := by
      by_contra hlt
      rw [Nat.div_eq_of_lt (by omega)] at hbit
      omega
    have hdiff : (x - 2 ^ i) / 2 ^ i = x / 2 ^ i - 1 := by simpa using Nat.sub_mul_div_of_le x (2 ^ i) 1 hle
    simp only [Bool.false_eq_true, if_false, bitAt, decide_eq_false_iff_not, hdiff]
    omega

theorem bitAt_setBitAt (x i : Nat) (b : Bool) : bitAt (setBitAt x i b) i = b := by
  cases b
  · exact bitAt_setBitAt_false x i
  · exact bitAt_setBitAt_true x i

/-- The result of a check is shown, and whether the bank may start. -/
def bankShown (c o : Nat) (s : State) : State :=
  ((s.modSec fun x => { x with checking := false, checkFor := none }).set R.SEC_BOOT.FW_RESULT c).modMram fun m =>
    { m with fwInvalid := setBitAt m.fwInvalid o (c != 0) }

/-- A bank that fails is refused with what its code raises. -/
theorem firmwareChecked_eq {c : Nat} (hchecking : s.sec.checking = true) (hengine : s.sec.engine = some .firmware) (hclient : s.sec.checkFor = none)
    (hc : c = s.fwCode (Tab.get [] s.sec.banks (1 - s.get R.SEC_BOOT.BANK))) :
    ∃ e q, let x := bankShown c (1 - s.get R.SEC_BOOT.BANK) { s with sec := { s.sec with engine := e, engineQ := q } }
      firmwareChecked s = raiseCode c x ∨ c ≠ 0 ∧ firmwareChecked s = refuseSec (raiseCode c x) := by
  obtain ⟨e, q, hends⟩ := engineEnds_frame s
  refine ⟨e, q, ?_⟩
  subst hc
  unfold firmwareChecked
  rw [if_pos ⟨hchecking, hengine⟩]
  simp only [hends, hclient, answerTo]
  split
  next => exact .inl rfl
  next h => exact .inr ⟨fun hz => h (.inl hz), rfl⟩

/-- What the check of a written bank shows. -/
theorem firmwareChecked_holds {c : Nat} (hchecking : s.sec.checking = true) (hengine : s.sec.engine = some .firmware) (hclient : s.sec.checkFor = none)
    (hc : c = s.fwCode (Tab.get [] s.sec.banks (1 - s.get R.SEC_BOOT.BANK))) :
    (firmwareChecked s).get R.SEC_BOOT.FW_RESULT = c
      ∧ bitAt (firmwareChecked s).mram.fwInvalid (1 - s.get R.SEC_BOOT.BANK) = decide (c ≠ 0) ∧ (firmwareChecked s).sec.checking = false
      ∧ (c = 0 → OnlyRegs s (firmwareChecked s) [R.SEC_BOOT.FW_RESULT]) := by
  have hlt : c ≤ 5 := hc ▸ fwCode_le s _
  obtain ⟨e, q, heq⟩ := firmwareChecked_eq hchecking hengine hclient hc
  generalize 1 - s.get R.SEC_BOOT.BANK = o at heq ⊢
  let y : State := { s with sec := { s.sec with engine := e, engineQ := q } }
  have hresult : (bankShown c o y).get R.SEC_BOOT.FW_RESULT = c :=
    (State.get_set_self y R.SEC_BOOT.FW_RESULT c).trans (Nat.mod_eq_of_lt (show c < 256 by omega))
  have hinvalid : bitAt (bankShown c o y).mram.fwInvalid o = decide (c ≠ 0) := (bitAt_setBitAt s.mram.fwInvalid o (c != 0)).trans (by by_cases hz : c = 0 <;> simp [hz])
  have hget : (firmwareChecked s).get R.SEC_BOOT.FW_RESULT = c := by
    have hcode := raiseCode_get (f := R.SEC_BOOT.FW_RESULT) (by decide) (by decide) (by decide) c (bankShown c o y)
    rcases heq with heq | ⟨-, heq⟩
    · rw [heq, hcode, hresult]
    · rw [heq, refuseSec, refuse, raise_get (by decide) (.of_leaf (by decide) rfl (by decide)), hcode, hresult]
  have hreported : Reported (bankShown c o y) (firmwareChecked s) := by
    rcases heq with heq | ⟨-, heq⟩
    · rw [heq]
      exact raiseCode_reported c _
    · rw [heq]
      exact (raiseCode_reported c _).trans (refuse_reported _ _)
  refine ⟨hget, ?_, hreported.field (fun x => x.sec.checking) fun _ => rfl, fun hzero => ?_⟩
  · rw [hreported.field (fun x => x.mram.fwInvalid) fun _ => rfl]
    exact hinvalid
  · have hsame : firmwareChecked s = bankShown c o y := by
      rcases heq with heq | ⟨hne, -⟩
      · rw [heq, hzero]
        rfl
      · exact absurd hzero hne
    rw [hsame]
    exact (OnlyRegs.of_regs (s := s) (t := s) rfl [R.SEC_BOOT.FW_RESULT]).set c (List.mem_singleton_self _)

/-! ### Counters, R515 -/

theorem advanceCtr_counts {i v : Nat} (hi : i ≤ 63) (hv : s.versionOf i = some v) (hpending : s.bit R.START_STAT.PENDING = false)
    (htrial : s.mram.trial = false) : advanceCtr i s = s.modSec fun x => { x with counting := x.counting ++ [(i, v)] } := by
  unfold advanceCtr
  rw [if_neg (by omega), hv]
  exact if_neg (by simp [hpending, htrial])

theorem advanceCtr_refused {i : Nat} (hi : i ≤ 63) (hv : s.versionOf i = none) : advanceCtr i s = raise Src.SEC_SETTING_REFUSED s := by
  unfold advanceCtr
  rw [if_neg (by omega), hv]
  rfl

theorem counterDone_eq {i v : Nat} {rest : List (Nat × Nat)} (h : s.sec.counting = (i, v) :: rest) :
    counterDone s = s.modSec fun x => { x with counting := rest, counters := Tab.set 0 x.counters i (max v (Tab.get 0 x.counters i)) } := by
  unfold counterDone
  rw [h]

/-! ### Attestation, R519 -/

theorem length_sized (n : Nat) (l : List Byte) : (sized n l).length = n := by simp [sized]

/-- A nonce starts a report. -/
theorem writeNonce_holds {b : List Byte} (hb : b.length = 32) :
    (writeNonce b s).sec.nonce = some b ∧ (writeNonce b s).sec.report = [] ∧ (s.sec.nonce.isSome = false → s.asksEngine (writeNonce b s) .report)
      ∧ writeNonce b s = { s with sec := (writeNonce b s).sec } := by
  unfold writeNonce
  rw [if_pos hb]
  extract_lets waits x
  split
  next hwaits => exact ⟨rfl, rfl, fun hfree => absurd hwaits (by simp [waits, hfree]), rfl⟩
  next =>
    have hasks := engineAsk_asks (s := s) (x := x) .report rfl rfl rfl
    obtain ⟨e, q, hask⟩ := engineAsk_frame .report x
    refine ⟨?_, ?_, fun _ => hasks, ?_⟩
    · rw [hask]
      rfl
    · rw [hask]
      rfl
    · rw [hask]
      rfl

/-- The report is its body and a signature. -/
theorem reportDone_holds {n : List Byte} (hengine : s.sec.engine = some .report) (hnonce : s.sec.nonce = some n) :
    ∃ sig, (reportDone s).sec.report = s.reportBody n ++ sig ∧ sig.length = 4627 ∧ (reportDone s).sec.nonce = none ∧ (reportDone s).regs = s.regs := by
  obtain ⟨e, q, hends⟩ := engineEnds_frame s
  unfold reportDone
  rw [hengine, hnonce]
  simp only [hends, State.draw]
  exact ⟨_, rfl, length_sized .., rfl, rfl⟩

end

/-- Settles O46: a bank's check shows its code (`firmwareChecked_holds`), and the other commands are the lemmas on counters and reports. -/
theorem firmwareCountersAndReports : Obligations.FirmwareCountersAndReports := by
  unfold Obligations.FirmwareCountersAndReports
  refine ⟨?write, ?checked, ?trial, ?noTrial, ?advance, ?unnamed, ?programmed, ?nonce, ?report, ?testPort⟩
  case write =>
    intro s b hstate
    exact ⟨_, rfl, writeFirmware_holds hstate⟩
  case checked =>
    intro s c hchecking hengine hclient hc
    exact ⟨_, rfl, firmwareChecked_holds hchecking hengine hclient hc⟩
  case trial =>
    intro s h
    exact congrArg Host.Outcome.next (if_pos h)
  case noTrial =>
    intro s h
    exact congrArg Host.Outcome.next (if_neg h)
  case advance =>
    intro s i v hi hv hpending htrial
    exact congrArg Host.Outcome.next (advanceCtr_counts hi hv hpending htrial)
  case unnamed =>
    intro s i hi hv
    exact congrArg Host.Outcome.next (advanceCtr_refused hi hv)
  case programmed =>
    intro s i v rest h
    refine ⟨_, congrArg Host.Outcome.next (counterDone_eq h), ?_, fun k hk => ?_, rfl, rfl⟩
    · exact Tab.get_set_self 0 s.sec.counters i (max v (Tab.get 0 s.sec.counters i))
    · exact Tab.get_set_of_ne 0 s.sec.counters (max v (Tab.get 0 s.sec.counters i)) hk.symm
  case nonce =>
    intro s b hb
    exact ⟨_, rfl, writeNonce_holds hb⟩
  case report =>
    intro s n hengine hnonce
    obtain ⟨sig, h⟩ := reportDone_holds hengine hnonce
    exact ⟨_, sig, rfl, h⟩
  case testPort =>
    intro s i
    rfl

end Sys2Proof.Machine
end
section
/-!
PROOFS. The stages of a start (19_security_repair.md, R501 to R505, R513): self-test, the repair map and the firmware bank.
-/
namespace Sys2Proof.Machine

/-! ### What a lane that comes up leaves -/

/-- The state without what reports, lanes and spine lanes can change as they come up, and without what a repair disables. -/
def State.strip (s : State) : State :=
  { s with
    lanes := [], gates := [], verifyQ := [],
    spine := { s.spine with lanes := [] },
    sec := { s.sec with engine := none, deadLanes := 0, deadSpine := 0 } }

def State.still (s : State) : State := s.quiet.strip

theorem State.still_map (s : State) : s.still.sec.map = s.sec.map := rfl
theorem State.still_found (s : State) : s.still.sec.found = s.sec.found := rfl
theorem State.still_marks (s : State) : s.still.mram.badTiles = s.mram.badTiles := rfl
theorem State.still_used (s : State) : s.still.eng.badUsed = s.eng.badUsed := rfl

section
variable {s t : State}

theorem Reported.still (h : Reported s t) : t.still = s.still := congrArg State.strip h.quiet

theorem raiseAll_still (l : List Src) (s : State) : (raiseAll l s).still = s.still := (raiseAll_reported l s).still
theorem raise_still (r : Src) (s : State) : (raise r s).still = s.still := (raise_reported r s).still

theorem each_still {α : Type} {l : List α} {f : α → State → State} (hf : ∀ a ∈ l, ∀ x, (f a x).still = x.still) (s : State) :
    (s.each l f).still = s.still := State.each_keeps (P := fun x => x.still = s.still) rfl fun a ha x hx => (hf a ha x).trans hx

@[simp] theorem State.set_still (s : State) (f : Fld) (v : Nat) : (s.set f v).still = s.still := rfl
@[simp] theorem State.setBit_still (s : State) (f : Fld) (b : Bool) : (s.setBit f b).still = s.still := rfl
@[simp] theorem State.modLane_still (s : State) (n : Nat) (f : LaneSt → LaneSt) : (s.modLane n f).still = s.still := rfl
@[simp] theorem State.modLink_still (s : State) (n : Nat) (f : LinkSt → LinkSt) : (s.modLink n f).still = s.still := rfl
@[simp] theorem State.modGate_still (s : State) (n : Nat) (f : GateSt → GateSt) : (s.modGate n f).still = s.still := rfl
@[simp] theorem State.modSpl_still (s : State) (i : Nat) (f : SpLane → SpLane) : (s.modSpl i f).still = s.still := rfl

theorem clearSpine_still (i : Nat) (s : State) : (clearSpine i s).still = s.still := by simp [clearSpine]

theorem startSpine_still (i k : Nat) (s : State) : (startSpine i k s).still = s.still := by simp [startSpine, clearSpine_still]

theorem freshReceive_still (n : Nat) (s : State) : (freshReceive n s).still = s.still := by simp [freshReceive, dropReceive]

theorem startAttempt_still (n k : Nat) (s : State) : (startAttempt n k s).still = s.still := by
  unfold startAttempt
  extract_lets x y
  have hy : y.still = s.still := by
    unfold y
    split
    · exact freshReceive_still ..
    · rfl
  rw [State.modLane_still, freshReceive_still, hy]

theorem linkDown_still (n : Nat) (s : State) : (linkDown n s).still = s.still := by
  have hverify : ∀ x : State, (dropVerify n x).still = x.still := fun x => by
    unfold dropVerify; dsimp only; split <;> rfl
  unfold linkDown
  extract_lets a b c d e g
  have hd : d.still = s.still := hverify b
  have he : e.still = d.still := by
    unfold e
    split
    · exact raise_still ..
    · rfl
  exact ((excludeCell_reported n g).still.trans he).trans hd

theorem bringUp_still (n : Nat) (s : State) : (bringUp n s).still = s.still := by
  unfold bringUp
  extract_lets x
  have hx : x.still = s.still := by
    unfold x leaveUp
    split
    · exact linkDown_still n s
    · rfl
  split_ifs
  · rw [State.modLane_still, State.set_still, hx]
  · rw [State.set_still, hx]
  · rw [State.set_still, startAttempt_still, hx]
  · rw [startAttempt_still, hx]
  · rw [State.set_still, hx]

theorem spineBringUp_still (i : Nat) (s : State) : (spineBringUp i s).still = s.still := by
  unfold spineBringUp
  extract_lets x
  have hx : x.still = s.still := clearSpine_still i s
  split_ifs
  · rw [State.modSpl_still, State.set_still, hx]
  · rw [State.set_still, hx]
  · rw [raise_still, State.set_still, State.set_still, hx]
  · rw [startSpine_still, hx]

/-! ### The repair map, R503 to R505 -/

theorem repairQuad_still (q : Nat) (s : State) : (repairQuad q s).still = s.still := by
  have hspare : ∀ l x, (State.each x l fun n x => x.set (R.LN_STAT.ON_SPARE n) 1).still = x.still := fun l x =>
    each_still (fun n _ y => State.set_still y (R.LN_STAT.ON_SPARE n) 1) x
  unfold repairQuad
  dsimp only
  split
  · rfl
  · split_ifs
    · exact hspare _ _
    · exact (raise_still ..).trans (hspare _ _)
    · rfl
    · exact raise_still ..

theorem disableLost_still (s : State) : (disableLost s).still = s.still := rfl

/-- The map is merged, shown to the engine and taken out of the findings. -/
def mapMerged (f : BistFindings) (s : State) : State :=
  ((s.modMram fun m => { (if m.mapCopy.isNone || merge f s.mram.badTiles s.mram.storedMap != m.storedMap then
      m.writeMap (merge f s.mram.badTiles s.mram.storedMap) else m) with badTiles := 0 }).modSec fun x =>
    { x with map := merge f s.mram.badTiles s.mram.storedMap, found := none }).modEng fun e =>
    { e with badUsed := (merge f s.mram.badTiles s.mram.storedMap).tiles }

theorem mapMerged_map (f : BistFindings) (s : State) : (mapMerged f s).sec.map = merge f s.mram.badTiles s.mram.storedMap := rfl
theorem mapMerged_found (f : BistFindings) (s : State) : (mapMerged f s).sec.found = none := rfl
theorem mapMerged_marks (f : BistFindings) (s : State) : (mapMerged f s).mram.badTiles = 0 := rfl
theorem mapMerged_used (f : BistFindings) (s : State) : (mapMerged f s).eng.badUsed = (merge f s.mram.badTiles s.mram.storedMap).tiles := rfl

/-- Stage 0x3 ends with the summary of a state that has what matters of the merged map. -/
theorem applyRepair_eq {f : BistFindings} (hstate : s.pw.state = .boot) (hstage : s.pw.stage = 3) (hfound : s.sec.found = some f) :
    ∃ x, x.still = (mapMerged f s).still ∧ applyRepair s = (repairSummary x).setStage 4 := by
  unfold applyRepair
  rw [hstate, hfound]
  dsimp only
  rw [if_neg (by simp [hstage])]
  refine ⟨_, ?_, rfl⟩
  rw [each_still fun i _ x => by split; exacts [rfl, spineBringUp_still i x], each_still fun n _ x => by split; exacts [rfl, bringUp_still n x],
    disableLost_still, each_still fun q _ x => repairQuad_still q x]
  split
  · exact raise_still ..
  · rfl

theorem popCount_le (n x : Nat) : popCount n x ≤ n := by
  induction n generalizing x with
  | zero => exact Nat.le_refl 0
  | succ n ih =>
    have := ih (x / 2)
    rw [popCount]
    omega

theorem repairSummary_tiles (s : State) : (repairSummary s).get R.SEC_REPAIR.TILES_BAD = popCount 36 s.sec.map.tiles := by
  have hle := popCount_le 36 s.sec.map.tiles
  unfold repairSummary State.setBit
  extract_lets p x y
  rw [State.get_set_of_ne _ _ (by decide), State.get_set_of_ne _ _ (by decide), State.get_set_of_ne _ _ (by decide),
    State.get_set_of_ne _ _ (by decide), State.get_set_self]
  exact Nat.mod_eq_of_lt (show popCount 36 s.sec.map.tiles < 64 by omega)

theorem repairSummary_frame (s : State) : repairSummary s = { s with regs := (repairSummary s).regs } := by
  have h : OnlySets s (repairSummary s) [R.SEC_REPAIR.TILES_BAD, R.SEC_REPAIR.SPARES_USED, R.SEC_REPAIR.ROWS_USED, R.SEC_REPAIR.COLS_USED,
      R.SEC_REPAIR.MAP_COPY] := by
    unfold repairSummary
    extract_lets p x y
    exact (((((OnlySets.refl s _).set _ (by simp)).set _ (by simp)).set _ (by simp)).set _ (by simp)).set _ (by simp)
  exact h.1

theorem setStage_sec (s : State) (n : Nat) : (s.setStage n).sec = s.sec := rfl
theorem setStage_get (s : State) (n : Nat) (f : Fld) : (s.setStage n).get f = s.get f := rfl
theorem setStage_mram (s : State) (n : Nat) : (s.setStage n).mram = s.mram := rfl
theorem setStage_eng (s : State) (n : Nat) : (s.setStage n).eng = s.eng := rfl

theorem repairSummary_sec (s : State) : (repairSummary s).sec = s.sec := by rw [repairSummary_frame]
theorem repairSummary_mram (s : State) : (repairSummary s).mram = s.mram := by rw [repairSummary_frame]
theorem repairSummary_eng (s : State) : (repairSummary s).eng = s.eng := by rw [repairSummary_frame]

/-- What stage 0x3 leaves. -/
theorem applyRepair_holds {f : BistFindings} (hstate : s.pw.state = .boot) (hstage : s.pw.stage = 3) (hfound : s.sec.found = some f) :
    (applyRepair s).sec.map = merge f s.mram.badTiles s.mram.storedMap ∧ (applyRepair s).sec.found = none ∧ (applyRepair s).mram.badTiles = 0
      ∧ (applyRepair s).eng.badUsed = (applyRepair s).sec.map.tiles
      ∧ (applyRepair s).get R.SEC_REPAIR.TILES_BAD = popCount 36 (applyRepair s).sec.map.tiles ∧ (applyRepair s).pw.stage = 4 := by
  obtain ⟨x, hx, heq⟩ := applyRepair_eq hstate hstage hfound
  have hmap : x.sec.map = merge f s.mram.badTiles s.mram.storedMap := by rw [← x.still_map, hx, State.still_map, mapMerged_map]
  have hnone : x.sec.found = none := by rw [← x.still_found, hx, State.still_found, mapMerged_found]
  have hmarks : x.mram.badTiles = 0 := by rw [← x.still_marks, hx, State.still_marks, mapMerged_marks]
  have hused : x.eng.badUsed = (merge f s.mram.badTiles s.mram.storedMap).tiles := by rw [← x.still_used, hx, State.still_used, mapMerged_used]
  have hsec : (applyRepair s).sec = x.sec := by rw [heq, setStage_sec, repairSummary_sec]
  have hmram : (applyRepair s).mram = x.mram := by rw [heq, setStage_mram, repairSummary_mram]
  have heng : (applyRepair s).eng = x.eng := by rw [heq, setStage_eng, repairSummary_eng]
  have htiles : (applyRepair s).get R.SEC_REPAIR.TILES_BAD = popCount 36 x.sec.map.tiles := by
    rw [heq, setStage_get, repairSummary_tiles]
  have hstage4 : (applyRepair s).pw.stage = 4 := by rw [heq]; rfl
  rw [htiles, hsec, hmram, heng, hmap]
  exact ⟨rfl, hnone, hmarks, hused, rfl, hstage4⟩

/-! ### The firmware bank, R505 and R513 -/

/-- Without a trial the bank of the boot control record is tried first. -/
theorem romStart_record (htried : s.sec.tried = 0) (htrial : s.mram.trial = false) : romStart s = (s, s.mram.bootSel) := by
  unfold romStart
  simp [htried, htrial]

theorem repairFaults_cause (p : RepairMap) {r : Src} (hr : r ∈ repairFaults p) :
    r = Src.SEC_REPAIR_TILES ∨ r = Src.SEC_REPAIR_MEM ∨ r = Src.SEC_MEM_UNREPAIRED := by
  have hite : ∀ {c : Bool} {a : Src}, r ∈ (if c then [a] else []) → r = a := by
    intro c a h
    split at h
    · exact List.mem_singleton.1 h
    · cases h
  unfold repairFaults at hr
  rcases List.mem_append.1 hr with hr | hr
  · rcases List.mem_append.1 hr with hr | hr
    · exact .inl (hite (c := decide (4 < popCount 36 p.tiles)) (by simpa using hr))
    · exact .inr (.inl (hite hr))
  · exact .inr (.inr (hite hr))

/-- The firmware of a bank starts, and what it raises leaves that. -/
theorem startFirmware_holds {bank : Nat} {b : List Byte} (hbank : bank ≤ 1) :
    (startFirmware bank b s).sec.firmware = b ∧ (startFirmware bank b s).get R.SEC_BOOT.BANK = bank ∧ (startFirmware bank b s).pw.fwRuns = true
      ∧ (startFirmware bank b s).pw.stage = 5 ∧ (startFirmware bank b s).sec.tried = 0 := by
  unfold startFirmware
  extract_lets rev x
  have hreported := raiseAll_reported (repairFaults x.sec.map ++ if rev then [Src.SEC_UPDATE_REVERTED] else []) x
  have hoff : ∀ r ∈ repairFaults x.sec.map ++ (if rev then [Src.SEC_UPDATE_REVERTED] else []), r.Off R.SEC_BOOT.BANK := by
    intro r hr
    rcases List.mem_append.1 hr with hr | hr
    · rcases repairFaults_cause _ hr with rfl | rfl | rfl
      · exact .of_leaf (by decide) rfl (by decide)
      · exact .of_leaf (by decide) rfl (by decide)
      · exact .of_leaf (by decide) rfl (by decide)
    · split at hr
      · exact List.mem_singleton.1 hr ▸ .of_leaf (by decide) rfl (by decide)
      · cases hr
  have hget : x.get R.SEC_BOOT.BANK = bank := (State.get_set_self s R.SEC_BOOT.BANK bank).trans (Nat.mod_eq_of_lt (show bank < 2 by omega))
  refine ⟨?_, (raiseAll_get (by decide) hoff x).trans hget, ?_, ?_, ?_⟩
  · rw [hreported.field (fun z => z.sec.firmware) fun _ => rfl]
    rfl
  · rw [hreported.field (fun z => z.pw.fwRuns) fun _ => rfl]
    rfl
  · rw [hreported.field (fun z => z.pw.stage) fun _ => rfl]
    rfl
  · rw [hreported.field (fun z => z.sec.tried) fun _ => rfl]
    rfl

/-- The bank of the boot control record is checked as `rom` where this device has not written it. -/
theorem verifyFirmware_first {rom : List Byte} (hstate : s.pw.state = .boot) (hstage : s.pw.stage = 4) (hrom : s.pw.romOnly = false)
    (htried : s.sec.tried = 0) (htrial : s.mram.trial = false) (hbank : Tab.find? s.sec.banks s.mram.bootSel = none)
    (hvalid : bitAt s.mram.fwInvalid s.mram.bootSel = false) :
    verifyFirmware rom s = if s.fwCode rom = 0 then startFirmware s.mram.bootSel rom s
      else (raiseCode (s.fwCode rom) s).modSec fun x => { x with tried := s.mram.bootSel + 1 } := by
  have htried' : (raiseCode (s.fwCode rom) s).sec.tried = 0 := ((raiseCode_reported _ s).field (fun z => z.sec.tried) fun _ => rfl).trans htried
  unfold verifyFirmware
  rw [if_pos ⟨hstate, hstage, by rw [hrom]; rfl⟩, romStart_record htried htrial]
  dsimp only
  rw [hbank, hvalid]
  dsimp only
  rw [if_neg Bool.false_ne_true, if_pos htried']

/-- Before Armed the code of a check leaves the power chapter. -/
theorem raiseCode_kept {s0 : State} (hs : s0.inState [.armed, .run] = false) (h : PowerKept s0 s) (c : Nat) : PowerKept s0 (raiseCode c s) := by
  unfold raiseCode
  split_ifs
  · exact raise_kept hs h (.of_leaf (f := R.SEC_CAUSE.AUTH_FAIL) (by decide) rfl (by decide))
  · exact raise_kept hs h (.of_leaf (f := R.SEC_CAUSE.ROLLBACK) (by decide) rfl (by decide))
  · exact h

end

theorem exec_firmwareVerified (rom : List Byte) (s : State) : exec (.firmwareVerified rom) s = .next (verifyFirmware rom s) := rfl

/-- Settles O44: each stage is a lemma on its function; reports and lanes that come up leave the map (`still`). -/
theorem bootStages : Obligations.BootStages := by
  unfold Obligations.BootStages
  refine ⟨?selfTest, ?repair, ?firmware⟩
  case selfTest =>
    intro s f hstate hstage
    exact congrArg Host.Outcome.next (if_pos ⟨hstate, hstage⟩)
  case repair =>
    intro s f hstate hstage hfound
    exact ⟨_, rfl, applyRepair_holds hstate hstage hfound⟩
  case firmware =>
    intro s rom hstate hstage hrom htried htrial hbank hvalid hsel
    have hboot : s.inState [.armed, .run] = false := by simp [State.inState, hstate]
    refine ⟨_, exec_firmwareVerified rom s, fun hc => ?_, fun hc => ?_, fun hc => ?_⟩
    · rw [verifyFirmware_first hstate hstage hrom htried htrial hbank hvalid, if_pos hc]
      exact startFirmware_holds hsel
    · rw [verifyFirmware_first hstate hstage hrom htried htrial hbank hvalid, if_neg hc]
      have hsec : (raiseCode (s.fwCode rom) s).sec = s.sec := (raiseCode_reported _ s).field State.sec fun _ => rfl
      refine ⟨(raiseCode_kept hboot (.refl s) _).pw, ?_⟩
      rw [State.modSec, hsec]
    · rw [verifyFirmware_first hstate hstage hrom htried htrial hbank hvalid, hc]
      rfl

end Sys2Proof.Machine
end
section
/-!
PROOFS. The event recorder (18_recorder_ledger.md, R474 to R486): the writing of a record, repeats, the periodic records, the boot scan and the selection.
-/
namespace Sys2Proof.Machine

section
variable {s : State}

/-! ### Slots and queues -/

theorem slot_setSlot_self (i : Nat) (x : RecSlot) (s : State) : (s.setSlot i x).slot i = x := Tab.get_set_self ({} : RecSlot) s.mram.slots i x

theorem slot_setSlot_of_ne {i j : Nat} (h : j ≠ i) (x : RecSlot) (s : State) : (s.setSlot i x).slot j = s.slot j :=
  Tab.get_set_of_ne ({} : RecSlot) s.mram.slots x h.symm

theorem report_nil (s : State) : report [] s = s := rfl

/-- Without a pending repeat there is nothing to flush. -/
theorem flush_empty {f : Bool} (h : s.get (pendField f) = 0) : flush f s = (s, []) := by
  unfold flush
  extract_lets n i sl
  split
  · rfl
  · exact if_neg fun hn => hn.1 h

/-! ### A record is written, R474 and R479 -/

/-- Unit 0 of the next slot is written. -/
def unitWritten (r : Rec) (s : State) : State :=
  { (s.setSlot (s.nextSlot (faultRegion r)) { s.slot (s.nextSlot (faultRegion r)) with mark := false, seq := nextSeq (s.get R.REC_SEQ) }).set R.REC_SEQ
      (nextSeq (s.get R.REC_SEQ)) with
    recd := { s.recd with writing := some (s.nextSlot (faultRegion r), r) } }

theorem beginWrite_eq {r : Rec} (h : s.get (pendField (faultRegion r)) = 0) : beginWrite r s = unitWritten r s := by
  unfold beginWrite
  extract_lets f
  have hflush : flush f s = (s, []) := flush_empty h
  rw [hflush]
  rfl

theorem nextSeq_lt {q : Nat} (h : q < 2 ^ 32) : nextSeq q < 2 ^ 32 := by
  unfold nextSeq
  split <;> omega

theorem unitWritten_slot_self (r : Rec) (s : State) :
    (unitWritten r s).slot (s.nextSlot (faultRegion r)) = { s.slot (s.nextSlot (faultRegion r)) with mark := false, seq := nextSeq (s.get R.REC_SEQ) } :=
  slot_setSlot_self ..

theorem unitWritten_slot_of_ne {r : Rec} {j : Nat} (h : j ≠ s.nextSlot (faultRegion r)) : (unitWritten r s).slot j = s.slot j := slot_setSlot_of_ne h _ s

theorem unitWritten_seq (r : Rec) (s : State) : (unitWritten r s).get R.REC_SEQ = nextSeq (s.get R.REC_SEQ) :=
  (State.get_set_self (s.setSlot _ _) R.REC_SEQ _).trans (Nat.mod_eq_of_lt (nextSeq_lt (s.get_lt R.REC_SEQ)))

theorem unitWritten_onlyRegs (r : Rec) (s : State) : OnlyRegs s (unitWritten r s) [R.REC_SEQ] :=
  (OnlyRegs.of_regs (s := s) (t := s.setSlot _ _) rfl [R.REC_SEQ]).set _ (List.mem_singleton_self _)

/-- The oldest entry leaves its queue and is written. -/
theorem startRecord_eq {p : Nat} {r : Rec} {q : List Rec} (hfree : s.recd.writing = none) (hscan : s.recd.scanned = true) (habandon : s.abandoned = false)
    (hold : s.oldestQueue = some p) (hqueue : s.queue p = r :: q) (hpend : s.get (pendField (faultRegion r)) = 0) :
    startRecord s = unitWritten r { s with recd := { s.recd with queues := Tab.set [] s.recd.queues p q } } := by
  unfold startRecord
  rw [hfree, hold]
  dsimp only
  rw [if_pos (by simp [hscan, habandon]), hqueue]
  exact beginWrite_eq hpend

theorem startRecord_abandoned (h : s.abandoned = true) : startRecord s = s := by
  unfold startRecord
  split
  · exact if_neg (by simp [h])
  · rfl

/-- The record in flight is complete. -/
def markWritten (i : Nat) (r : Rec) (s : State) : State :=
  { (s.setSlot i { mark := true, seq := (s.slot i).seq, r := some r }).set (newestField (faultRegion r)) i with recd := { s.recd with writing := none } }

theorem newestField_pendField (f g : Bool) : (newestField f).key ≠ (pendField g).key := by revert f g; decide

theorem endRecord_eq {i : Nat} {r : Rec} (hwriting : s.recd.writing = some (i, r)) (hpend : s.get (pendField (faultRegion r)) = 0) :
    endRecord s = markWritten i r s := by
  have hflush : flush (faultRegion r) (markWritten i r s) = (markWritten i r s, []) :=
    flush_empty ((State.get_set_of_ne (s.setSlot i _) i (newestField_pendField _ _)).trans hpend)
  unfold endRecord
  rw [hwriting]
  dsimp only
  unfold markWritten at hflush
  exact congrArg (fun p : State × List ReportArg => report p.2 p.1) hflush

theorem newest_of_get {f : Bool} {t : State} {i : Nat} (h : t.get (newestField f) = i) : t.newest f = i := by
  cases f <;> exact h

/-! ### Repeats, R482 -/

/-- Pending repeats of the newest record are added to it. -/
def repeatsAdded (r : Rec) (s : State) : State :=
  { s.set R.REC_PEND.PEND_F 0 with
    mram := { s.mram with
      slots := Tab.set {} s.mram.slots (s.newest true)
        { s.slot (s.newest true) with r := some { r with rep := r.rep + s.get R.REC_PEND.PEND_F, repTsc := s.recd.pendTscF % 2 ^ 48 } } } }

theorem repeatsAdded_slot_self (r : Rec) (s : State) : (repeatsAdded r s).slot (s.newest true) =
    { s.slot (s.newest true) with r := some { r with rep := r.rep + s.get R.REC_PEND.PEND_F, repTsc := s.recd.pendTscF % 2 ^ 48 } } :=
  Tab.get_set_self ({} : RecSlot) s.mram.slots (s.newest true) _

theorem flush_repeats {r : Rec} (hpend : s.get R.REC_PEND.PEND_F ≠ 0) (hmark : (s.slot (s.newest true)).mark = true)
    (hr : (s.slot (s.newest true)).r = some r) (hkey : r.key = s.recd.pendKeyF) (hwaits : s.waits true s.recd.pendKeyF = false)
    (hmax : r.rep + s.get R.REC_PEND.PEND_F ≤ 65535) : flush true s = (repeatsAdded r s, []) := by
  have hplus : r.plus (s.get (pendField true)) (s.pendTsc true) =
      ({ r with rep := r.rep + s.get R.REC_PEND.PEND_F, repTsc := s.recd.pendTscF % 2 ^ 48 }, 0) := if_pos hmax
  unfold flush
  dsimp only
  rw [hr]
  dsimp only
  rw [if_pos ⟨hpend, hmark, hkey, by rw [show s.waits true (s.pendKey true) = false from hwaits]; decide⟩, hplus]
  rfl

theorem flushAll_repeats {r : Rec} (hother : s.get R.REC_PEND.PEND_G = 0) (hflush : flush true s = (repeatsAdded r s, [])) :
    flushAll s = repeatsAdded r s := by
  have hsecond : flush false (repeatsAdded r s) = (repeatsAdded r s, []) :=
    flush_empty ((State.get_set_of_ne s 0 (by decide : R.REC_PEND.PEND_F.key ≠ R.REC_PEND.PEND_G.key)).trans hother)
  unfold flushAll
  rw [hflush]
  dsimp only
  rw [hsecond]
  rfl

/-! ### The die histogram, R478 -/

/-- The die histogram's record. -/
def histRecord (s : State) : Rec := { typ := 7, cls := 0, plane := 2, observed := true, payload := words4 s.recd.dieHist 16 }

/-- A record without a key joins its queue. -/
theorem post_keyless {r : Rec} (hkey : r.key = none) (hfault : faultRegion r = false) (h : (s.queue r.plane).length < 32) :
    post r s = ({ s with recd := { s.recd with lastG := none, queues := Tab.set [] s.recd.queues r.plane (s.queue r.plane ++ [r]) } }, []) := by
  unfold post
  dsimp only
  rw [if_neg fun hrepeat => by simp [hkey] at hrepeat, if_neg (Nat.not_le.2 h)]
  simp only [hfault, hkey, Bool.false_eq_true, if_false]
  unfold enqueue
  exact if_neg (Nat.not_le.2 h)

theorem postRec_histogram (h : (s.queue 2).length < 32) :
    postRec (histRecord s) s =
      { s with recd := { s.recd with lastG := none, queues := Tab.set [] s.recd.queues 2 (s.queue 2 ++ [s.stamp (histRecord s)]) } } := by
  unfold postRec
  rw [post_keyless (r := s.stamp (histRecord s)) rfl rfl h]
  rfl

theorem periodic_histogram (hen : s.get R.REC_CTRL.HIST_EN = 2) (h : (s.queue 2).length < 32) :
    periodic s = { s with recd := { s.recd with
      lastG := none, dieHist := [], queues := Tab.set [] s.recd.queues 2 (s.queue 2 ++ [s.stamp (histRecord s)]) } } := by
  have h0 : bitAt 2 0 = false := by decide
  have h1 : bitAt 2 1 = true := by decide
  have h2 : bitAt 2 2 = false := by decide
  have h3 : bitAt 2 3 = false := by decide
  have hrec : periodicRec 7 0 (words4 s.recd.dieHist 16) s = postRec (histRecord s) s := rfl
  unfold periodic
  simp only [hen, h0, h1, h2, h3, if_true, Bool.false_eq_true, if_false, hrec, postRec_histogram h]

/-! ### The boot scan, R486 -/

theorem scanRegion_empty (f : Bool) (h : s.mram.slots = []) : scanRegion f s = s.set (newestField f) (regionBase f) := by
  have hslots : s.regionSlots f = [] := by unfold State.regionSlots; rw [h]; rfl
  unfold scanRegion
  rw [hslots]
  rfl

theorem scanLane_empty {n : Nat} (ha : s.mram.copyA = []) (hb : s.mram.copyB = []) :
    scanLane n s = s.modLed n fun x => { x with life := none, dirty := false } := by
  unfold scanLane
  rw [ha, hb]
  rfl

/-- An empty recorder continues at the first slot of each region. -/
def regionsEmpty (s : State) : State := (s.set R.REC_FPOS.NEWEST 0).set R.REC_GPOS.NEWEST 1024

/-- The scan of an empty recorder, before its Start record. -/
theorem bootScan_empty (hslots : s.mram.slots = []) (ha : s.mram.copyA = []) (hb : s.mram.copyB = []) :
    ∃ x r, x = { (regionsEmpty s).set R.REC_SEQ 0 with pw := x.pw, recd := { s.recd with scanned := true }, ledger := x.ledger }
      ∧ r.typ = 0xB ∧ r.tsc = s.ts.tsc ∧ bootScan s = beginWrite r x := by
  have hregions : scanRegion false (scanRegion true s) = regionsEmpty s := by
    rw [scanRegion_empty true hslots, scanRegion_empty (s := s.set (newestField true) (regionBase true)) false hslots]
    rfl
  obtain ⟨led, hlanes⟩ : ∃ led, (regionsEmpty s).each lanes64 scanLane = { regionsEmpty s with ledger := led } := by
    refine State.each_keeps (P := fun x => ∃ led, x = { regionsEmpty s with ledger := led }) ⟨s.ledger, rfl⟩ fun n _ x hx => ?_
    obtain ⟨led, rfl⟩ := hx
    exact ⟨_, scanLane_empty (s := { regionsEmpty s with ledger := led }) ha hb⟩
  unfold bootScan
  dsimp only
  rw [hregions, hlanes, hslots]
  exact ⟨_, _, rfl, rfl, rfl, rfl⟩

/-- The Start record of an empty recorder takes slot 0. -/
theorem bootScan_holds (hslots : s.mram.slots = []) (ha : s.mram.copyA = []) (hb : s.mram.copyB = []) (hpend : s.get R.REC_PEND.PEND_F = 0) :
    ∃ r, (bootScan s).recd.scanned = true ∧ (bootScan s).recd.writing = some (0, r) ∧ r.typ = 0xB ∧ r.tsc = s.ts.tsc ∧ (bootScan s).get R.REC_SEQ = 1
      ∧ (bootScan s).get R.REC_FPOS.NEWEST = 0 ∧ (bootScan s).get R.REC_GPOS.NEWEST = 1024
      ∧ OnlyRegs s (bootScan s) [R.REC_SEQ, R.REC_FPOS.NEWEST, R.REC_GPOS.NEWEST] := by
  obtain ⟨x, r, hx, htyp, htsc, heq⟩ := bootScan_empty hslots ha hb
  have hfault : faultRegion r = true := by simp [faultRegion, htyp]
  have hregs : x.regs = ((regionsEmpty s).set R.REC_SEQ 0).regs := by rw [hx]
  have hget : ∀ f, x.get f = ((regionsEmpty s).set R.REC_SEQ 0).get f := State.get_of_regs hregs
  have hpendx : x.get (pendField (faultRegion r)) = 0 := by
    rw [hfault, hget, State.get_set_of_ne _ _ (by decide), regionsEmpty, State.get_set_of_ne _ _ (by decide), State.get_set_of_ne _ _ (by decide)]
    exact hpend
  have hseq : x.get R.REC_SEQ = 0 := by rw [hget, State.get_set_self]; rfl
  have hnewest : x.get R.REC_FPOS.NEWEST = 0 := by
    rw [hget, State.get_set_of_ne _ _ (by decide), regionsEmpty, State.get_set_of_ne _ _ (by decide), State.get_set_self]
    rfl
  have hother : x.get R.REC_GPOS.NEWEST = 1024 := by
    rw [hget, State.get_set_of_ne _ _ (by decide), regionsEmpty, State.get_set_self]
    rfl
  have hslot : x.slot 0 = {} := by
    have : x.mram.slots = [] := by rw [hx]; exact hslots
    rw [State.slot, this]
    rfl
  have hnext : x.nextSlot (faultRegion r) = 0 := by
    have hn : x.newest true = 0 := hnewest
    rw [hfault, State.nextSlot]
    simp [hn, hslot]
  have honly := unitWritten_onlyRegs r x
  have honlyx : OnlyRegs s x [R.REC_SEQ, R.REC_FPOS.NEWEST, R.REC_GPOS.NEWEST] := fun f hf =>
    (hget f).trans ((((OnlyRegs.of_regs (s := s) rfl _).set 0 (by simp)).set 1024 (by simp)).set 0 (by simp) f hf)
  rw [heq, beginWrite_eq hpendx]
  refine ⟨r, ?_, ?_, htyp, htsc, ?_, ?_, ?_, (honlyx.trans honly).mono (by simp)⟩
  · show x.recd.scanned = true
    rw [hx]
  · show some (x.nextSlot (faultRegion r), r) = _
    rw [hnext]
  · rw [unitWritten_seq, hseq]
    rfl
  · rw [honly R.REC_FPOS.NEWEST (by decide), hnewest]
  · rw [honly R.REC_GPOS.NEWEST (by decide), hother]

theorem selectRecord_found {v i : Nat} (h : s.slotOfSeq v = some i) : selectRecord v s = { s with recd := { s.recd with selected := (s.slot i).image } } := by
  unfold selectRecord
  rw [h]

theorem selectRecord_missing {v : Nat} (h : s.slotOfSeq v = none) : selectRecord v s = raise Src.REC_SETTING_REFUSED s := by
  unfold selectRecord
  rw [h]
  rfl

end

theorem exec_recordSelect {v : Nat} (hpos : 0 < v) (hlt : v < 2 ^ 32) (s : State) : exec (.recordSelect v) s = .next (selectRecord v s) := by
  show Host.Outcome.next (if v % 2 ^ 32 = 0 then s else selectRecord (v % 2 ^ 32) s) = _
  rw [Nat.mod_eq_of_lt hlt, if_neg (by omega)]

/-- Settles O38: with no repeat pending a write is `unitWritten` and its end `markWritten`. -/
theorem recordsAreWritten : Obligations.RecordsAreWritten := by
  unfold Obligations.RecordsAreWritten
  refine ⟨?start, ?complete, ?abandoned, ?repeats, ?periodic, ?scan, ?select, ?missing⟩
  case start =>
    intro s p r q hfree hscan habandon hold hqueue hpend
    refine ⟨_, congrArg Host.Outcome.next (startRecord_eq hfree hscan habandon hold hqueue hpend), rfl, ?_, ?_, ?_, fun j hj => ?_, ?_⟩
    · exact Tab.get_set_self [] s.recd.queues p q
    · exact unitWritten_seq r { s with recd := { s.recd with queues := Tab.set [] s.recd.queues p q } }
    · exact unitWritten_slot_self r { s with recd := { s.recd with queues := Tab.set [] s.recd.queues p q } }
    · exact unitWritten_slot_of_ne (s := { s with recd := { s.recd with queues := Tab.set [] s.recd.queues p q } }) hj
    · exact unitWritten_onlyRegs r { s with recd := { s.recd with queues := Tab.set [] s.recd.queues p q } }
  case complete =>
    intro s i r hwriting habandon hi hpend
    refine ⟨markWritten i r s, ?_, rfl, slot_setSlot_self .., newest_of_get ?_, fun j hj => slot_setSlot_of_ne hj _ s, ?_⟩
    · show Host.Outcome.next _ = _
      rw [if_neg (by simp [habandon]), endRecord_eq hwriting hpend]
    · exact (State.get_set_self (s.setSlot i _) (newestField (faultRegion r)) i).trans (Nat.mod_eq_of_lt hi)
    · exact (OnlyRegs.of_regs (s := s) (t := s.setSlot i { mark := true, seq := (s.slot i).seq, r := some r }) rfl _).set i (List.mem_singleton_self _)
  case abandoned =>
    intro s h
    exact ⟨congrArg Host.Outcome.next (startRecord_abandoned h), congrArg Host.Outcome.next (if_pos h)⟩
  case repeats =>
    intro s r hother hpend hmark hr hkey hwaits hmax
    refine ⟨_, congrArg Host.Outcome.next (flushAll_repeats hother (flush_repeats hpend hmark hr hkey hwaits hmax)), ?_, ?_, ?_, fun j hj => ?_, ?_⟩
    · exact State.get_set_self s R.REC_PEND.PEND_F 0
    · exact congrArg RecSlot.r (repeatsAdded_slot_self r s)
    · exact (congrArg RecSlot.seq (repeatsAdded_slot_self r s)).trans rfl
    · exact Tab.get_set_of_ne ({} : RecSlot) s.mram.slots _ hj.symm
    · exact (OnlyRegs.of_regs (s := s) (t := s) rfl _).set 0 (List.mem_singleton_self R.REC_PEND.PEND_F)
  case periodic =>
    intro s hen hroom
    exact ⟨_, congrArg Host.Outcome.next (periodic_histogram hen hroom), Tab.get_set_self [] s.recd.queues 2 _, rfl, rfl⟩
  case scan =>
    intro s hstate hscanned hslots ha hb hpend
    obtain ⟨r, h⟩ := bootScan_holds hslots ha hb hpend
    exact ⟨_, r, congrArg Host.Outcome.next (if_pos (by simp [State.inState, hstate, hscanned])), h⟩
  case select =>
    intro s v i hpos hlt h
    exact ⟨_, (exec_recordSelect hpos hlt s).trans (congrArg Host.Outcome.next (selectRecord_found h)), rfl, rfl⟩
  case missing =>
    intro s v hpos hlt h
    exact (exec_recordSelect hpos hlt s).trans (congrArg Host.Outcome.next (selectRecord_missing h))

end Sys2Proof.Machine
end
section
/-!
PROOFS. The cell life ledger: samples, seconds, saves and the import of a history slot (R480, R488, R489, R494, R496).
-/
namespace Sys2Proof.Machine

/-! ### The live slot of a lane -/

section
variable {s t u : State} {n m : Nat}

theorem State.led_modLed_self (s : State) (n : Nat) (f : LedgerSt → LedgerSt) : (s.modLed n f).led n = f (s.led n) :=
  Tab.get_set_self ({} : LedgerSt) s.ledger n (f (s.led n))

theorem State.led_modLed_of_ne (s : State) (f : LedgerSt → LedgerSt) (h : m ≠ n) : (s.modLed n f).led m = s.led m :=
  Tab.get_set_of_ne ({} : LedgerSt) s.ledger (f (s.led n)) h.symm

/-- A change of a live slot changes it and marks it as changed. -/
theorem State.led_modLife {l : Life} (hl : (s.led n).life = some l) (f : Life → Life) :
    (s.modLife n f).led n = { s.led n with life := some (f l), dirty := true } := by
  rw [State.modLife, State.led_modLed_self, hl]

/-- `t` has the ledger of `s` in the lanes other than `n`, and in lane `n` the part `q` of the live slot; a count of arm current frames that is 0 stays 0. -/
structure LifeKept {α : Type} (n : Nat) (q : Life → α) (s t : State) : Prop where
  others : ∀ m, m ≠ n → t.led m = s.led m
  life : (t.led n).life.map q = (s.led n).life.map q
  count : (s.led n).iCount = 0 → (t.led n).iCount = 0

variable {α : Type} {q : Life → α}

theorem LifeKept.refl (n : Nat) (q : Life → α) (s : State) : LifeKept n q s s := ⟨fun _ _ => rfl, rfl, id⟩

theorem LifeKept.trans (h : LifeKept n q s t) (k : LifeKept n q t u) : LifeKept n q s u :=
  ⟨fun m hm => (k.others m hm).trans (h.others m hm), k.life.trans h.life, fun h0 => k.count (h.count h0)⟩

theorem LifeKept.of_ledger (h : t.ledger = s.ledger) : LifeKept n q s t := by
  have hled : ∀ m, t.led m = s.led m := fun m => by rw [State.led, h, State.led]
  exact ⟨fun m _ => hled m, by rw [hled], by rw [hled]; exact id⟩

theorem LifeKept.reported (h : Reported s t) : LifeKept n q s t := .of_ledger (h.field State.ledger fun _ => rfl)

theorem LifeKept.modLed {f : LedgerSt → LedgerSt} (hlife : (f (s.led n)).life.map q = (s.led n).life.map q)
    (hcount : (s.led n).iCount = 0 → (f (s.led n)).iCount = 0) : LifeKept n q s (s.modLed n f) := by
  refine ⟨fun m hm => s.led_modLed_of_ne f hm, ?_, ?_⟩ <;> rw [State.led_modLed_self]
  · exact hlife
  · exact hcount

theorem LifeKept.modLife {f : Life → Life} (hf : ∀ l, q (f l) = q l) : LifeKept n q s (s.modLife n f) := by
  refine .modLed ?_ ?_
  · cases hl : (s.led n).life with
    | none => simp [hl]
    | some l => simp [hf]
  · cases hl : (s.led n).life <;> exact id

theorem LifeKept.ite {c : Prop} [Decidable c] (ht : LifeKept n q s t) (hu : LifeKept n q s u) : LifeKept n q s (if c then t else u) := by
  split <;> assumption

/-- A live slot is still there, with the part `q` that it had. -/
theorem LifeKept.of_live {l : Life} (h : LifeKept n q s t) (hl : (s.led n).life = some l) : ∃ l', (t.led n).life = some l' ∧ q l' = q l := by
  have hlife := h.life
  rw [hl] at hlife
  exact Option.map_eq_some_iff.1 hlife

/-- The warnings and ends of R493 leave every part of the slot but their own bits. -/
theorem checkLife_kept (hwarned : ∀ l x, q { l with warned := x } = q l) (hended : ∀ l x, q { l with ended := x } = q l) (s : State) :
    LifeKept n q s (checkLife n s) := by
  refine State.each_keeps (P := LifeKept n q s) (.refl n q s) fun k _ x hx => hx.trans ?_
  split
  · exact .refl n q x
  · dsimp only
    refine LifeKept.trans (t := if _ then _ else _) (.ite ?_ (.refl n q x)) (.ite ?_ (.refl ..))
    · exact (LifeKept.modLife fun l => hwarned l _).trans ((LifeKept.reported (raise_reported ..)).trans (.reported (postRec_reported ..)))
    · exact (LifeKept.modLife fun l => hended l _).trans ((LifeKept.reported (raise_reported ..)).trans (.reported (postRec_reported ..)))

/-! ### The sample of one ms, R489 -/

theorem countCycle_extremes (s : State) (n : Nat) (l : Life) (c : Cycle) :
    ((countCycle s n l c).vcapHigh, (countCycle s n l c).tempHigh, (countCycle s n l c).digest) = (l.vcapHigh, l.tempHigh, l.digest) := rfl

/-- What a sample may raise of a live slot, and its digest. -/
def Life.extremes (l : Life) : Nat × Int × List Byte := (l.vcapHigh, l.tempHigh, l.digest)

theorem countCycles_extremes (s : State) (n : Nat) (cs : List Cycle) (l : Life) : (cs.foldl (countCycle s n) l).extremes = l.extremes := by
  induction cs generalizing l with
  | nil => rfl
  | cons c cs ih => exact ih (countCycle s n l c)

/-- The rainflow counter changes the matrix, the residue and the damage of a slot. -/
theorem rainflow_kept (t : Int) (s : State) : LifeKept n Life.extremes s (rainflow n t s) := by
  unfold rainflow
  dsimp only
  split
  · exact .refl ..
  · exact .modLed rfl id
  · rename_i l e hlife hext
    refine .ite (.refl ..) (.ite (.modLed rfl id) (.ite (.refl ..) (.modLed ?_ id)))
    rw [hlife]
    exact congrArg some (countCycles_extremes s n _ _)

theorem ripple_kept (s : State) : LifeKept n Life.extremes s (ripple n s) := by
  unfold ripple
  dsimp only
  refine LifeKept.trans ?_ (.modLed rfl fun _ => rfl)
  exact .ite (.modLife fun _ => rfl) (.refl ..)

theorem ripple_count (s : State) : ((ripple n s).led n).iCount = 0 := by
  unfold ripple
  dsimp only
  rw [State.led_modLed_self]

/-- A sample raises the extremes of an admitted lane to what its last frame shows. -/
theorem ledgerSample_holds {l : Life} {v : Nat} {x : Int} (hadmit : s.admitted n = true) (hl : (s.led n).life = some l) (hfresh : s.fresh n = true)
    (hv : upVcap (s.link n).up = some v) (hx : upTemp0 (s.link n).up = some x) :
    (∃ l', ((ledgerSample n s).led n).life = some l' ∧ l'.extremes = (max l.vcapHigh v, max l.tempHigh x, l.digest)) ∧ ((ledgerSample n s).led n).iCount = 0
      ∧ ∀ m, m ≠ n → (ledgerSample n s).led m = s.led m := by
  obtain ⟨a, ha⟩ : ∃ a, a = s.modLife n fun l => { l with tempHigh := max l.tempHigh x } := ⟨_, rfl⟩
  obtain ⟨b, hb⟩ : ∃ b, b = (rainflow n x a).modLife n fun l => { l with vcapHigh := max l.vcapHigh v } := ⟨_, rfl⟩
  have heq : ledgerSample n s = checkLife n (ripple n b) := by
    unfold ledgerSample
    simp only [hadmit, hl, hfresh, hv, hx, Option.isSome_some, Bool.and_self, if_true, hb, ha]
  have hal : (a.led n).life = some { l with tempHigh := max l.tempHigh x } := by rw [ha, State.led_modLife hl]
  obtain ⟨l1, hl1, he1⟩ := (rainflow_kept x a).of_live hal
  have hbl : (b.led n).life = some { l1 with vcapHigh := max l1.vcapHigh v } := by rw [hb, State.led_modLife hl1]
  obtain ⟨l2, hl2, he2⟩ := (ripple_kept b).of_live hbl
  have hcheck := checkLife_kept (n := n) (q := Life.extremes) (fun _ _ => rfl) (fun _ _ => rfl) (ripple n b)
  obtain ⟨l3, hl3, he3⟩ := hcheck.of_live hl2
  rw [heq]
  refine ⟨⟨l3, hl3, ?_⟩, hcheck.count (ripple_count b), fun m hm => ?_⟩
  · rw [he3, he2]
    obtain ⟨hvcap, htemp, hdigest⟩ : l1.vcapHigh = l.vcapHigh ∧ l1.tempHigh = max l.tempHigh x ∧ l1.digest = l.digest := by
      simpa [Life.extremes] using he1
    simp [Life.extremes, hvcap, htemp, hdigest]
  · rw [hcheck.others m hm, (ripple_kept b).others m hm, hb, State.modLife, State.led_modLed_of_ne _ _ hm, (rainflow_kept x a).others m hm, ha,
      State.modLife, State.led_modLed_of_ne _ _ hm]

theorem satAdd_eq (m a b : Nat) : satAdd m a b = min m (a + b) := by
  unfold satAdd
  split <;> omega

/-! ### The second of one lane, R488 -/

/-- What a second of use changes of a live slot. -/
def Life.used (l : Life) : Nat × Nat × Nat := (l.useSec, l.lastOp, l.lastPwr)

theorem ledgerSecond_dead (h : (s.led n).life = none) : ledgerSecond n s = s := by simp [ledgerSecond, h]

theorem ledgerSecond_holds {l : Life} (hadmit : s.admitted n = true) (hl : (s.led n).life = some l) (huse : s.get (R.BC_STAT.STATE n) = 3) :
    (∃ l', ((ledgerSecond n s).led n).life = some l' ∧ l'.used = (min 0xFFFFFFFF (l.useSec + 1), s.opsec, s.mram.pwrCycles))
      ∧ ∀ m, m ≠ n → (ledgerSecond n s).led m = s.led m := by
  obtain ⟨a, ha⟩ : ∃ a, a = s.modLife n fun l => { l with useSec := satAdd 0xFFFFFFFF l.useSec 1 } := ⟨_, rfl⟩
  obtain ⟨b, hb⟩ : ∃ b, b = a.modLife n fun l => { l with lastOp := a.opsec, lastPwr := a.mram.pwrCycles } := ⟨_, rfl⟩
  have hal : (a.led n).life = some { l with useSec := satAdd 0xFFFFFFFF l.useSec 1 } := by rw [ha, State.led_modLife hl]
  have hbl : (b.led n).life = some { l with useSec := satAdd 0xFFFFFFFF l.useSec 1, lastOp := s.opsec, lastPwr := s.mram.pwrCycles } := by
    rw [hb, State.led_modLife hal, ha]
    rfl
  have hrest : LifeKept n Life.used b (ledgerSecond n s) := by
    unfold ledgerSecond
    rw [if_pos (by simp [hadmit, hl])]
    dsimp only
    rw [if_pos huse, ← ha, ← hb]
    refine LifeKept.trans ?_ (checkLife_kept (fun _ _ => rfl) (fun _ _ => rfl) _)
    split
    · exact .refl ..
    · exact .modLife fun _ => rfl
  obtain ⟨l', hl', he⟩ := hrest.of_live hbl
  refine ⟨⟨l', hl', by rw [he, Life.used, satAdd_eq]⟩, fun m hm => ?_⟩
  rw [hrest.others m hm, hb, State.modLife, State.led_modLed_of_ne _ _ hm, ha, State.modLife, State.led_modLed_of_ne _ _ hm]

theorem dieSecond_led (s : State) (n : Nat) : (dieSecond s).led n = s.led n := by
  unfold dieSecond
  split <;> rfl

/-- The effect on one element, where the effects on the others leave the state before it and after it. -/
theorem State.each_single {α : Type} {f : α → State → State} {l : List α} {a : α} (ha : a ∈ l) (hl : l.Nodup) (hbefore : ∀ b ∈ l, b ≠ a → f b s = s)
    (hafter : ∀ b ∈ l, b ≠ a → f b (f a s) = f a s) : s.each l f = f a s := by
  induction l with
  | nil => cases ha
  | cons b l ih =>
    obtain ⟨hb, hl⟩ := List.nodup_cons.1 hl
    rw [State.each_cons]
    rcases List.mem_cons.1 ha with rfl | hal
    · exact State.each_eq_self fun c hc => hafter c (List.mem_cons_of_mem _ hc) (ne_of_mem_of_not_mem hc hb)
    · rw [hbefore b List.mem_cons_self (ne_of_mem_of_not_mem hal hb).symm]
      exact ih hal hl (fun c hc => hbefore c (List.mem_cons_of_mem b hc)) fun c hc => hafter c (List.mem_cons_of_mem b hc)

/-- Where one lane alone has a live slot, the second is that lane's. -/
theorem ledgerSeconds_single (hn : n < 64) (hnone : ∀ m, m < 64 → m ≠ n → (s.led m).life = none)
    (hothers : ∀ m, m ≠ n → (ledgerSecond n s).led m = s.led m) : s.each lanes64 ledgerSecond = ledgerSecond n s := by
  refine State.each_single (List.mem_range.2 hn) List.nodup_range (fun m hm hne => ledgerSecond_dead (hnone m (lane_lt hm) hne)) fun m hm hne => ?_
  exact ledgerSecond_dead (by rw [hothers m hne, hnone m (lane_lt hm) hne])

/-! ### Saves, R480 and R494 -/

/-- What the start of a save in the older copy A leaves. -/
def saveStarted (n : Nat) (l : Life) (s : State) : State :=
  { s.set R.REC_STAT.SAVING 1 with
    saving := some (n, 0, { l with seq := l.seq + 1 })
    mram := { s.mram with copyA := Tab.set {} s.mram.copyA n { seq := l.seq + 1 } } }

theorem saveStarted_copyA (n : Nat) (l : Life) (s : State) : Tab.get {} (saveStarted n l s).mram.copyA n = { seq := l.seq + 1 } :=
  Tab.get_set_self ({} : LifeCopy) s.mram.copyA n { seq := l.seq + 1 }

theorem startSave_copyA {l : Life} (hl : (s.led n).life = some l) (hdirty : (s.led n).dirty = true) (hidle : s.saving = none)
    (hmark : (Tab.get {} s.mram.copyA n).mark = false) : startSave n s = saveStarted n l s := by
  unfold startSave
  rw [hl, hidle]
  dsimp only
  rw [if_pos hdirty, State.modMram]
  simp only [hmark, Bool.not_false, Bool.true_or, if_true]
  rfl

theorem saveChunk_next {k : Nat} {l : Life} (hsaving : s.saving = some (n, k, l)) (hlive : (s.led n).life.isSome = true) (hk : k + 1 < 10) :
    saveChunk s = { s with saving := some (n, k + 1, l) } := by
  unfold saveChunk
  rw [hsaving]
  dsimp only
  rw [if_neg (by simpa using Option.isSome_iff_ne_none.1 hlive), if_pos hk]

theorem saveChunk_last {l : Life} (hsaving : s.saving = some (n, 9, l)) (hlive : (s.led n).life.isSome = true) : saveChunk s = endSave n l s := by
  unfold saveChunk
  rw [hsaving]
  dsimp only
  rw [if_neg (by simpa using Option.isSome_iff_ne_none.1 hlive), if_neg (by decide)]

theorem endSave_saving (n : Nat) (l : Life) (s : State) : (endSave n l s).saving = none := rfl

theorem endSave_get (n : Nat) (l : Life) (s : State) (f : Fld) : (endSave n l s).get f = (s.set R.REC_STAT.SAVING 0).get f := by
  unfold endSave
  dsimp only
  split <;> rfl

/-- The last chunk of a save in copy A writes its slot with MARK. -/
theorem endSave_copies {l : Life} (hmark : (Tab.get {} s.mram.copyA n).mark = false) (hseq : (Tab.get {} s.mram.copyA n).seq = l.seq) :
    (endSave n l s).mram = { s.mram with copyA := Tab.set {} s.mram.copyA n { mark := true, seq := l.seq, life := some l } } := by
  have htoA : (!(Tab.get {} s.mram.copyA n).mark && decide ((Tab.get {} s.mram.copyA n).seq = l.seq)) = true := by simp [hmark, hseq]
  exact if_pos htoA

/-! ### The import of a history slot, R496 -/

theorem State.histAt_setHist_self (s : State) (i : Nat) (l : Option Life) : (s.setHist i l).histAt i = l := Tab.get_set_self none s.mram.history i l

theorem importSlot_taken {b : List Byte} (hstate : s.pw.state = .configure) (hlen : b.length = 1280) (hmark : leAt b 0 4 = 0xA5C35A3C)
    (hlive : ∀ n, n < 64 → (s.led n).life = none) (hhist : s.histOf (lifeOf b).digest = none) :
    importSlot b s = s.setHist (s.get (obj 0x4C00 0x13 16 .rw 0)) (some { lifeOf b with imported := true }) := by
  have hlanes : s.liveLanes = [] := List.filter_eq_nil_iff.2 fun n hn => by simp [hlive n (lane_lt hn)]
  unfold importSlot
  rw [if_neg (by simp [State.inState, hstate, hlen])]
  dsimp only
  rw [hlanes, hhist, hmark]
  rfl

theorem importSlot_refused {b : List Byte} (hstate : s.pw.state = .configure) (hlen : b.length = 1280) (hmark : leAt b 0 4 ≠ 0xA5C35A3C) :
    importSlot b s = raise Src.REC_SETTING_REFUSED s := by
  unfold importSlot
  rw [if_neg (by simp [State.inState, hstate, hlen])]
  dsimp only
  rw [if_pos (by simp [hmark])]
  rfl

end

/-- Settles O40: each command of the ledger by its effect on the one live slot, copy or history slot it is about. -/
theorem ledgerAndHistory : Obligations.LedgerAndHistory := by
  unfold Obligations.LedgerAndHistory
  refine ⟨?sample, ?second, ?save, ?chunk, ?last, ?taken, ?refused⟩
  case sample =>
    intro s n l v x hadmit hl hfresh hv hx
    obtain ⟨⟨l', hl', he⟩, hcount, hothers⟩ := ledgerSample_holds hadmit hl hfresh hv hx
    obtain ⟨hvcap, htemp, hdigest⟩ : l'.vcapHigh = max l.vcapHigh v ∧ l'.tempHigh = max l.tempHigh x ∧ l'.digest = l.digest := by
      simpa [Life.extremes] using he
    exact ⟨_, l', rfl, hl', hvcap, htemp, hdigest, hcount, hothers⟩
  case second =>
    intro s n l hadmit hl hnone huse
    obtain ⟨⟨l', hl', he⟩, hothers⟩ := ledgerSecond_holds hadmit hl huse
    obtain ⟨huseSec, hlastOp, hlastPwr⟩ : l'.useSec = min 0xFFFFFFFF (l.useSec + 1) ∧ l'.lastOp = s.opsec ∧ l'.lastPwr = s.mram.pwrCycles := by
      simpa [Life.used] using he
    refine ⟨dieSecond (s.each lanes64 ledgerSecond), l', rfl, ?_, huseSec, hlastOp, hlastPwr⟩
    rw [dieSecond_led, ledgerSeconds_single n.isLt hnone hothers]
    exact hl'
  case save =>
    intro s n l hl hdirty hidle hmark
    refine ⟨saveStarted n l s, congrArg Host.Outcome.next (startSave_copyA hl hdirty hidle hmark), rfl,
      saveStarted_copyA n l s, rfl, ?_, ?_⟩
    · exact State.get_set_self s R.REC_STAT.SAVING 1
    · exact (OnlyRegs.of_regs (s := s) (t := s) rfl _).set 1 (List.mem_singleton_self R.REC_STAT.SAVING)
  case chunk =>
    intro s n k l hsaving hlive hk
    exact congrArg Host.Outcome.next (saveChunk_next hsaving hlive hk)
  case last =>
    intro s n l hsaving hlive hmark hseq
    have hmram := endSave_copies hmark hseq
    refine ⟨endSave n l s, congrArg Host.Outcome.next (saveChunk_last hsaving hlive), endSave_saving n l s, ?_, ?_, ?_, fun f hf => ?_⟩
    · rw [hmram]
      exact Tab.get_set_self ({} : LifeCopy) s.mram.copyA n { mark := true, seq := l.seq, life := some l }
    · rw [hmram]
    · rw [endSave_get]
      exact State.get_set_self s R.REC_STAT.SAVING 0
    · rw [endSave_get]
      exact (OnlyRegs.of_regs (s := s) (t := s) rfl _).set 0 (List.mem_singleton_self R.REC_STAT.SAVING) f hf
  case taken =>
    intro s b hstate hlen hmark hlive hhist
    exact ⟨_, congrArg Host.Outcome.next (importSlot_taken hstate hlen hmark hlive hhist), State.histAt_setHist_self .., rfl⟩
  case refused =>
    intro s b hstate hlen hmark
    exact congrArg Host.Outcome.next (importSlot_refused hstate hlen hmark)

end Sys2Proof.Machine
end
section
/-!
PROOFS. Tests and counters of any lane (R176, R429): the read of a bit count without a bit that has passed.
-/
namespace Sys2Proof.Machine

/-- Cell lane 63 in TEST with its checker in lock, and a bit count of 2^48, one more than 48 bits hold: the model keeps the upper half as a natural number. -/
def countPastTop : State :=
  { ((State.reset.set (R.LN_STAT.STATE 63) 7).set (R.LN_TEST.PRBS_CHK 63) 1).set (R.LN_TEST.PRBS_LOCK 63) 1 with prbs := [(63, { hi := 2 ^ 16 })] }

theorem exec_prbsBitsLoRead (n : Fin 68) (host : Bool) (sent : Nat) (l : List Nat) (s : State) :
    exec (.prbsBitsLoRead n host sent l) s = .next (readPrbsLo n host (testBits n sent l s)) := rfl

/-- Without a bit the count stands: a count saturates only where a bit is checked. -/
theorem readPrbsLo_countPastTop : (readPrbsLo 63 true (testBits 63 0 [] countPastTop)).prbsBits 63 = 2 ^ 48 := by decide +kernel

/-- Refutes O36: the statement has every read of the bit count show at most 2^48 − 1, for every number of bits that pass, none included; but the upper half of the
count is a natural number of the state, and where it is 2^16 a read that no bit precedes leaves it (`countPastTop`, a state that no run reaches: a checked bit
saturates the count). -/
theorem not_testsAndCountersOfAnyLane : ¬ Obligations.TestsAndCountersOfAnyLane := by
  unfold Obligations.TestsAndCountersOfAnyLane
  rintro ⟨-, -, -, -, -, -, hread, -⟩
  obtain ⟨t, hexec, hbits, -⟩ := hread countPastTop 63 0 [] 0 (by decide) (by decide) (by decide) rfl
  obtain rfl : readPrbsLo 63 true (testBits 63 0 [] countPastTop) = t := Host.Outcome.next.inj ((exec_prbsBitsLoRead 63 true 0 [] countPastTop).symm.trans hexec)
  have hcount := readPrbsLo_countPastTop.symm.trans hbits
  exact absurd hcount (by decide)

end Sys2Proof.Machine
end
section
/-!
PROOFS. A spine lane: what its receive side leaves as it starts afresh, its attempts, and its loss (R413 to R418).
-/
namespace Sys2Proof.Machine

section
variable {s t : State} {i : Nat}

/-! ### The state of a lane -/

theorem State.spl_modSpl_self (s : State) (i : Nat) (f : SpLane → SpLane) : (s.modSpl i f).spl i = f (s.spl i) :=
  Tab.get_set_self ({} : SpLane) s.spine.lanes i (f (s.spl i))

theorem State.slState_modSpl (s : State) (i j : Nat) (f : SpLane → SpLane) : (s.modSpl j f).slState i = s.slState i := State.modSpl_get ..

theorem Reported.spl (h : Reported s t) (i : Nat) : t.spl i = s.spl i := by
  rw [State.spl, h.field (fun x => x.spine.lanes) fun _ => rfl, State.spl]

theorem Reported.map (h : Reported s t) : t.spine.map = s.spine.map := h.field (fun x => x.spine.map) fun _ => rfl

theorem OnlyRegs.modSpl {l : List Fld} (h : OnlyRegs s t l) (j : Nat) (f : SpLane → SpLane) : OnlyRegs s (t.modSpl j f) l := h

/-- `t` is `s` but for its registers and its spine lanes. -/
def SpineOnly (s t : State) : Prop := t = { s with regs := t.regs, spine := t.spine }

theorem SpineOnly.refl (s : State) : SpineOnly s s := rfl
theorem SpineOnly.set (h : SpineOnly s t) (f : Fld) (v : Nat) : SpineOnly s (t.set f v) := by
  unfold SpineOnly
  exact congrArg (fun x : State => { x with regs := (t.set f v).regs }) h
theorem SpineOnly.setBit (h : SpineOnly s t) (f : Fld) (b : Bool) : SpineOnly s (t.setBit f b) := h.set f _
theorem SpineOnly.modSpl (h : SpineOnly s t) (j : Nat) (f : SpLane → SpLane) : SpineOnly s (t.modSpl j f) := by
  unfold SpineOnly
  exact congrArg (fun x : State => { x with spine := (t.modSpl j f).spine }) h

/-! ### The receive side, R414 and R415 -/

/-- What the receive side of a lane keeps as it starts afresh. -/
def SpLane.afresh (l : SpLane) : SpLane :=
  { l with train := 0, ready := 0, rxReady := false, nbPrecode := false, dlyAt := none, dlyReq := none, codeErrs := 0 }

theorem clearSpine_onlyRegs (i : Nat) (s : State) : OnlyRegs s (clearSpine i s) (spineAfresh i) := by
  unfold clearSpine
  extract_lets a b c
  have ha : OnlyRegs s a (spineAfresh i) := (OnlyRegs.of_regs rfl _).set _ (by simp [spineAfresh])
  have hb : OnlyRegs s b (spineAfresh i) := ((ha.set 0 (by simp [spineAfresh])).set 0 (by simp [spineAfresh])).set 0 (by simp [spineAfresh])
  have hc : OnlyRegs s c (spineAfresh i) := ((hb.set 0 (by simp [spineAfresh])).set 0 (by simp [spineAfresh])).set 0 (by simp [spineAfresh])
  exact (hc.set 0xFFFFF (by simp [spineAfresh])).modSpl i _

theorem SpineOnly.clearSpine (h : SpineOnly s t) (i : Nat) : SpineOnly s (clearSpine i t) := by
  unfold Machine.clearSpine
  exact ((((((((h.setBit _ _).set _ _).set _ _).set _ _).set _ _).set _ _).set _ _).set _ _).modSpl i _

theorem clearSpine_spl (i : Nat) (s : State) : (clearSpine i s).spl i = (s.spl i).afresh := State.spl_modSpl_self ..

theorem clearSpine_get_apart {f : Fld} (hf : (spineAfresh i).all (fun g => g.apart f) = true) (s : State) : (clearSpine i s).get f = s.get f :=
  (clearSpine_onlyRegs i s).get_apart hf

theorem clearSpine_attempt (i : Nat) (s : State) : (clearSpine i s).get (R.SL_STAT.ATTEMPT i) = s.get (R.SL_STAT.ATTEMPT i) := by
  refine clearSpine_onlyRegs i s _ ?_
  simp only [spineAfresh, List.map_cons, List.map_nil, List.mem_cons, List.not_mem_nil, or_false, Fld.key, R.SL_STAT.ATTEMPT, R.SL_STAT.RX_INV, R.SL_STAT.SIGNAL,
    R.SL_STAT.CDR_LOCK, R.SL_STAT.BLOCK_LOCK, R.SL_STAT.PRECODE_TX, R.SL_STAT.PRECODE_RX, R.SL_STAT.CROSSED, R.SL_DELAY.DELAY]
  omega

theorem clearSpine_delay (i : Nat) (s : State) : (clearSpine i s).get (R.SL_DELAY.DELAY i) = 0xFFFFF := State.get_set_self _ (R.SL_DELAY.DELAY i) 0xFFFFF

/-! ### The start of an attempt, R414 -/

theorem SpineOnly.startSpine (h : SpineOnly s t) (i k : Nat) : SpineOnly s (startSpine i k t) := ((h.clearSpine i).set _ 2).set _ k

theorem startSpine_spl (i k : Nat) (s : State) : (startSpine i k s).spl i = (s.spl i).afresh := clearSpine_spl i s

theorem startSpine_onlyRegs (i k : Nat) (s : State) : OnlyRegs s (startSpine i k s) ([R.SL_STAT.STATE i, R.SL_STAT.ATTEMPT i] ++ spineAfresh i) :=
  (((clearSpine_onlyRegs i s).mono (fun _ h => by simp [h])).set 2 (by simp)).set k (by simp)

theorem startSpine_state (i k : Nat) (s : State) : (startSpine i k s).slState i = 2 :=
  (State.get_set_apart (f := R.SL_STAT.ATTEMPT i) (g := R.SL_STAT.STATE i) _ k rfl).trans (State.get_set_self _ (R.SL_STAT.STATE i) 2)

theorem startSpine_attempt {k : Nat} (hk : k < 32) (i : Nat) (s : State) : (startSpine i k s).get (R.SL_STAT.ATTEMPT i) = k :=
  (State.get_set_self _ (R.SL_STAT.ATTEMPT i) k).trans (Nat.mod_eq_of_lt hk)

theorem startSpine_delay (i k : Nat) (s : State) : (startSpine i k s).get (R.SL_DELAY.DELAY i) = 0xFFFFF := by
  have hstate : (R.SL_STAT.STATE i).key ≠ (R.SL_DELAY.DELAY i).key := by simp only [Fld.key, R.SL_STAT.STATE, R.SL_DELAY.DELAY]; omega
  have hattempt : (R.SL_STAT.ATTEMPT i).key ≠ (R.SL_DELAY.DELAY i).key := by simp only [Fld.key, R.SL_STAT.ATTEMPT, R.SL_DELAY.DELAY]; omega
  rw [startSpine, State.get_set_of_ne _ _ hattempt, State.get_set_of_ne _ _ hstate, clearSpine_delay]

/-! ### A failed attempt, R414 -/

/-- An attempt has failed at a step: the receive side is clear, and the failure counts. -/
def spineFailed (i stage : Nat) (s : State) : State := ((clearSpine i s).set (R.SL_STAT.FAIL_STAGE i) stage).inc (R.SL_COUNTS.FAILED_ATTEMPTS i)

theorem spineFailed_onlyRegs (i stage : Nat) (s : State) :
    OnlyRegs s (spineFailed i stage s) ([R.SL_STAT.FAIL_STAGE i, R.SL_COUNTS.FAILED_ATTEMPTS i] ++ spineAfresh i) :=
  (((clearSpine_onlyRegs i s).mono (fun _ h => by simp [h])).set stage (by simp)).inc (by simp)

theorem spineFailed_frame (i stage : Nat) (s : State) :
    spineFailed i stage s = { s with regs := (spineFailed i stage s).regs, cyc := (spineFailed i stage s).cyc, spine := (spineFailed i stage s).spine } :=
  congrArg (fun x : State => { x with regs := (spineFailed i stage s).regs, cyc := (spineFailed i stage s).cyc }) (((SpineOnly.refl s).clearSpine i).set (R.SL_STAT.FAIL_STAGE i) stage)

theorem failSpine_backoff {stage : Nat} (h : s.get (R.SL_STAT.ATTEMPT i) < 16) : failSpine i stage s = (spineFailed i stage s).set (R.SL_STAT.STATE i) 5 := if_pos h

theorem failSpine_stage {stage : Nat} (h : s.get (R.SL_STAT.ATTEMPT i) < 16) (hstage : stage < 8) :
    (failSpine i stage s).get (R.SL_STAT.FAIL_STAGE i) = stage := by
  rw [failSpine_backoff h, State.get_set_apart _ _ rfl, spineFailed, State.get_inc_apart _ rfl, State.get_set_self]
  exact Nat.mod_eq_of_lt hstage

theorem failSpine_count {stage : Nat} (h : s.get (R.SL_STAT.ATTEMPT i) < 16) :
    (failSpine i stage s).get (R.SL_COUNTS.FAILED_ATTEMPTS i) = min (2 ^ 16 - 1) (s.get (R.SL_COUNTS.FAILED_ATTEMPTS i) + 1) := by
  have hclear : (clearSpine i s).get (R.SL_COUNTS.FAILED_ATTEMPTS i) = s.get (R.SL_COUNTS.FAILED_ATTEMPTS i) := by
    refine clearSpine_onlyRegs i s _ ?_
    simp only [spineAfresh, List.map_cons, List.map_nil, List.mem_cons, List.not_mem_nil, or_false, Fld.key, R.SL_COUNTS.FAILED_ATTEMPTS, R.SL_STAT.RX_INV,
      R.SL_STAT.SIGNAL, R.SL_STAT.CDR_LOCK, R.SL_STAT.BLOCK_LOCK, R.SL_STAT.PRECODE_TX, R.SL_STAT.PRECODE_RX, R.SL_STAT.CROSSED, R.SL_DELAY.DELAY]
    omega
  rw [failSpine_backoff h, State.get_set_apart _ _ rfl, spineFailed, State.get_inc_self, State.get_set_apart _ _ rfl, hclear]
  rfl

theorem failSpine_onlyRegs {stage : Nat} (h : s.get (R.SL_STAT.ATTEMPT i) < 16) :
    OnlyRegs s (failSpine i stage s) ([R.SL_STAT.STATE i, R.SL_STAT.FAIL_STAGE i, R.SL_COUNTS.FAILED_ATTEMPTS i] ++ spineAfresh i) := by
  rw [failSpine_backoff h]
  exact ((spineFailed_onlyRegs i stage s).mono (fun _ h => List.mem_cons_of_mem _ h)).set 5 (by simp)

/-- The 16th attempt has failed. -/
def spineAbsent (i stage : Nat) (s : State) : State :=
  ((spineFailed i stage s).set (R.SL_STAT.STATE i) 6).modSpl i fun l => { l with absent := true, retry := false }

theorem failSpine_absent {stage : Nat} (h : ¬ s.get (R.SL_STAT.ATTEMPT i) < 16) :
    failSpine i stage s = if (s.spl i).retry then spineAbsent i stage s else raise (Src.SL_ABSENT i) (spineAbsent i stage s) := if_neg h

/-- A spine lane's status is no field that reports write. -/
theorem slStat_not_reportKey {f : Fld} (hi : i < 4) (haddr : f.addr = 0x30104 + 0x40 * i) (hlo : f.lo < 32) : ¬ ReportKey f.key := by
  simp only [ReportKey, Fld.key, haddr, List.mem_cons, List.not_mem_nil, or_false, O.RUN_REQUEST, obj]
  omega

/-- A report of a spine lane's own source leaves the lane's status. -/
theorem raise_slStat {r : Src} {f : Fld} (hi : i < 4) (haddr : f.addr = 0x30104 + 0x40 * i) (hlo : f.lo < 32) (hr : r.Off f) (s : State) :
    (raise r s).get f = s.get f := raise_get (slStat_not_reportKey hi haddr hlo) hr s

theorem slAbsent_off {f : Fld} (haddr : f.addr = 0x30104 + 0x40 * i) (hlo : f.lo < 32) : (Src.SL_ABSENT i).Off f := by
  refine .of_leaf (by show 3 ≤ 16; decide) rfl ?_
  simp only [Fld.key, haddr, R.SL_CAUSE.ABSENT]
  omega

theorem failSpine_absent_holds {stage : Nat} (hi : i < 4) (h : s.get (R.SL_STAT.ATTEMPT i) = 16) :
    (failSpine i stage s).slState i = 6 ∧ ((failSpine i stage s).spl i).absent = true ∧ ((failSpine i stage s).spl i).retry = false := by
  have hstate : (spineAbsent i stage s).slState i = 6 := State.get_set_self (spineFailed i stage s) (R.SL_STAT.STATE i) 6
  have hspl : (spineAbsent i stage s).spl i = { (s.spl i).afresh with absent := true, retry := false } := by
    rw [spineAbsent, State.spl_modSpl_self]
    exact congrArg (fun l : SpLane => { l with absent := true, retry := false }) (clearSpine_spl i s)
  rw [failSpine_absent (by omega)]
  split
  · exact ⟨hstate, by rw [hspl], by rw [hspl]⟩
  · rw [State.slState, raise_slStat hi rfl (show 28 < 32 by decide) (slAbsent_off rfl (show 28 < 32 by decide)), (raise_reported ..).spl, hspl]
    exact ⟨hstate, rfl, rfl⟩

theorem State.slStage_lt (s : State) (i : Nat) : s.slStage i < 8 := by
  unfold State.slStage
  split_ifs <;> decide

/-! ### The loss of a lane, R416 to R418 -/

theorem State.noRingYet_congr (hpw : t.pw = s.pw) (hmap : t.spine.map = s.spine.map) (hring : s.noRingYet) : t.noRingYet :=
  hring.imp (fun h => by rw [State.isRoot, State.pos, hpw]; exact h) hmap.trans

theorem State.noRingYet_set (hring : s.noRingYet) (f : Fld) (v : Nat) : (s.set f v).noRingYet := State.noRingYet_congr rfl rfl hring
theorem State.noRingYet_setBit (hring : s.noRingYet) (f : Fld) (b : Bool) : (s.setBit f b).noRingYet := State.noRingYet_set hring f _
theorem State.noRingYet_modSpl (hring : s.noRingYet) (j : Nat) (f : SpLane → SpLane) : (s.modSpl j f).noRingYet := State.noRingYet_congr rfl rfl hring

theorem clearSpine_noRingYet (hring : s.noRingYet) (i : Nat) : (clearSpine i s).noRingYet := by
  unfold clearSpine
  extract_lets a b c
  have hb : b.noRingYet := State.noRingYet_set (State.noRingYet_set (State.noRingYet_set (State.noRingYet_setBit hring _ _) _ 0) _ 0) _ 0
  have hc : c.noRingYet := State.noRingYet_set (State.noRingYet_set (State.noRingYet_set hb _ 0) _ 0) _ 0
  exact State.noRingYet_modSpl (State.noRingYet_set hc _ _) i _

theorem startSpine_noRingYet (hring : s.noRingYet) (i k : Nat) : (startSpine i k s).noRingYet :=
  State.noRingYet_set (State.noRingYet_set (clearSpine_noRingYet hring i) _ 2) _ k

/-- A report leaves a device that can raise no RING_OPEN at once as it is. -/
theorem Reported.noRingYet (h : Reported s t) (hring : s.noRingYet) : t.noRingYet := by
  have hroot : t.isRoot = s.isRoot := by rw [State.isRoot, State.pos, h.pw]; rfl
  exact hring.imp hroot.trans h.map.trans

theorem linkCheck_noRingYet (hring : s.noRingYet) : linkCheck i s = s := by
  refine if_neg fun h => ?_
  obtain ⟨hroot, hmap, -⟩ := h
  rcases hring with hring | hring
  · simp [hring] at hroot
  · simp [hring] at hmap

theorem linkDrop_noRingYet (hring : t.noRingYet) : linkDrop i s t = t := by
  unfold linkDrop
  rw [linkCheck_noRingYet hring, ite_self]

/-- The loss of a lane has been counted and reported. -/
def lossReported (i : Nat) (s : State) : State := raise (Src.SL_LOST i) (s.inc (R.SL_COUNTS.LOSSES i))

theorem lossReported_reported (i : Nat) (s : State) : Reported s (lossReported i s) := (State.inc_reported ..).trans (raise_reported ..)

theorem lossReported_losses (hi : i < 4) (s : State) :
    (lossReported i s).get (R.SL_COUNTS.LOSSES i) = min (2 ^ 16 - 1) (s.get (R.SL_COUNTS.LOSSES i) + 1) := by
  have hkey : ¬ ReportKey (R.SL_COUNTS.LOSSES i).key := by
    simp only [ReportKey, Fld.key, R.SL_COUNTS.LOSSES, List.mem_cons, List.not_mem_nil, or_false, O.RUN_REQUEST, obj]
    omega
  have hleaf : (R.SL_CAUSE.LOST i).key ≠ (R.SL_COUNTS.LOSSES i).key := by simp only [Fld.key, R.SL_CAUSE.LOST, R.SL_COUNTS.LOSSES]; omega
  rw [lossReported, raise_get hkey (.of_leaf (by show 3 ≤ 16; decide) rfl hleaf), State.get_inc_self]
  rfl

theorem loseSpine_eq (hup : s.spineUp i = true) (hring : s.noRingYet) :
    loseSpine i s = (startSpine i 1 (lossReported i s)).modSpl i fun l => { l with wasLost := true } := by
  have hring' : ((startSpine i 1 (lossReported i s)).modSpl i fun l => { l with wasLost := true }).noRingYet :=
    State.noRingYet_modSpl (startSpine_noRingYet ((lossReported_reported i s).noRingYet hring) i 1) i _
  unfold loseSpine
  rw [if_pos hup]
  dsimp only
  rw [← lossReported, linkCheck_noRingYet hring']

theorem loseSpine_holds (hi : i < 4) (hup : s.spineUp i = true) (hring : s.noRingYet) :
    (loseSpine i s).slState i = 2 ∧ (loseSpine i s).get (R.SL_STAT.ATTEMPT i) = 1 ∧ ((loseSpine i s).spl i).wasLost = true
      ∧ (loseSpine i s).get (R.SL_COUNTS.LOSSES i) = min (2 ^ 16 - 1) (s.get (R.SL_COUNTS.LOSSES i) + 1) ∧ (loseSpine i s).get (R.SL_DELAY.DELAY i) = 0xFFFFF := by
  rw [loseSpine_eq hup hring]
  simp only [State.slState_modSpl, State.modSpl_get, State.spl_modSpl_self, startSpine_state, startSpine_attempt (show 1 < 32 by decide), startSpine_delay, true_and,
    and_true]
  rw [(startSpine_onlyRegs i 1 (lossReported i s)).get_apart rfl, lossReported_losses hi]

theorem spineUp_raise {r : Src} (hi : i < 4) (hr : r.Off (R.SL_STAT.STATE i)) (s : State) : (raise r s).spineUp i = s.spineUp i := by
  rw [State.spineUp, raise_slStat hi rfl (show 28 < 32 by decide) hr, State.spineUp]

theorem marker_near {k : Nat} (hk : k ≤ 16) : marker i k s = s := if_neg fun h => by omega

/-- Markers too far apart lose the lane, and leave FAIL_STAGE 7. -/
theorem marker_far {k : Nat} (hi : i < 4) (hup : s.spineUp i = true) (hk : 16 < k) (hring : s.noRingYet) :
    (marker i k s).slState i = 2 ∧ (marker i k s).get (R.SL_STAT.FAIL_STAGE i) = 7 ∧ ((marker i k s).spl i).wasLost = true := by
  have hoff : (Src.SL_SKEW i).Off (R.SL_STAT.STATE i) := by
    refine .of_leaf (by show 3 ≤ 16; decide) rfl ?_
    simp only [Fld.key, R.SL_CAUSE.SKEW, R.SL_STAT.STATE]
    omega
  obtain ⟨hstate, -, hlost, -⟩ := loseSpine_holds hi ((spineUp_raise hi hoff s).trans hup) ((raise_reported (Src.SL_SKEW i) s).noRingYet hring)
  have heq : marker i k s = (loseSpine i (raise (Src.SL_SKEW i) s)).set (R.SL_STAT.FAIL_STAGE i) 7 := if_pos ⟨hup, hk⟩
  rw [heq]
  exact ⟨(State.get_set_apart (f := R.SL_STAT.FAIL_STAGE i) (g := R.SL_STAT.STATE i) _ 7 rfl).trans hstate, State.get_set_self _ (R.SL_STAT.FAIL_STAGE i) 7, hlost⟩

end

/-- Settles O35: an attempt that fails, starts or is lost is `spineFailed` or `startSpine`, whose frames are `failSpine_onlyRegs` and `startSpine_onlyRegs`. -/
theorem spineAttemptsAndLoss : Obligations.SpineAttemptsAndLoss := by
  unfold Obligations.SpineAttemptsAndLoss
  refine ⟨?timeout, ?absent, ?backoff, ?retry, ?retrain, ?lost, ?far, ?near, ?cellSignal, ?spineSignal⟩
  case timeout =>
    intro s i hattempt hcount
    refine ⟨failSpine i (s.slStage i) s, congrArg Host.Outcome.next (if_pos hattempt), ?_, failSpine_stage hcount (s.slStage_lt i), failSpine_count hcount,
      failSpine_onlyRegs hcount, ?_⟩
    · rw [failSpine_backoff hcount]
      exact State.get_set_self _ (R.SL_STAT.STATE i) 5
    · rw [failSpine_backoff hcount]
      exact congrArg (fun x : State => { x with regs := ((spineFailed i (s.slStage i) s).set (R.SL_STAT.STATE i) 5).regs }) (spineFailed_frame i (s.slStage i) s)
  case absent =>
    intro s i hattempt hcount
    exact ⟨_, congrArg Host.Outcome.next (if_pos hattempt), failSpine_absent_holds i.isLt hcount⟩
  case backoff =>
    intro s i hstate hcount
    exact ⟨_, congrArg Host.Outcome.next (if_pos hstate), startSpine_state i _ s, startSpine_attempt (by omega) i s, startSpine_onlyRegs i _ s⟩
  case retry =>
    intro s i hbad hstate
    refine ⟨(startSpine i 16 s).modSpl i fun l => { l with retry := true }, ?_, ?_, ?_, ?_, (startSpine_onlyRegs i 16 s).modSpl i _⟩
    · show Host.Outcome.next _ = _
      rw [if_neg (by simp [hbad]), if_pos hstate]
    · rw [State.slState_modSpl, startSpine_state]
    · rw [State.modSpl_get, startSpine_attempt (by decide)]
    · rw [State.spl_modSpl_self]
  case retrain =>
    intro s i hbad hstate
    exact ⟨_, congrArg Host.Outcome.next (if_pos ⟨hstate, by simp [hbad]⟩), startSpine_state i 1 s, startSpine_attempt (by decide) i s,
      startSpine_onlyRegs i 1 s⟩
  case lost =>
    intro s i hup hring
    exact ⟨_, rfl, loseSpine_holds i.isLt hup hring⟩
  case far =>
    intro s i k hup hk hring
    exact ⟨_, rfl, marker_far i.isLt hup hk hring⟩
  case near =>
    intro s i k hk
    exact congrArg Host.Outcome.next (marker_near hk)
  case cellSignal =>
    intro s n hn hattempt hseen hcount
    have hcell : (if n < 64 then (if s.inAttempt n ∧ (s.lane n).sigSeen then failAttempt n 7 s else rxOnlyLost n s)
        else if s.slAttempt (n - 64) ∧ s.bit (R.SL_STAT.SIGNAL (n - 64)) then failSpine (n - 64) 6 s else s) = failAttempt n 7 s := by
      rw [if_pos (Fin.lt_def.2 hn), if_pos ⟨hattempt, hseen⟩]
    refine ⟨_, congrArg Host.Outcome.next hcell, ?_, ?_, ?_, ?_⟩ <;> rw [failAttempt_backoff hcount]
    · exact State.get_set_self _ (R.LN_STAT.STATE n) 5
    · rw [State.get_set_apart _ _ rfl, attemptFailed_failStage n (by decide)]
    · exact ((attemptFailed_onlyRegs n 7 s).mono fun _ h => List.mem_cons_of_mem _ h).set 5 (by simp)
    · exact congrArg (fun x : State => { x with regs := ((attemptFailed n 7 s).set (R.LN_STAT.STATE n) 5).regs }) (attemptFailed_frame n 7 s)
  case spineSignal =>
    intro s n hn hattempt hsignal hcount
    have hspine : (if n < 64 then (if s.inAttempt n ∧ (s.lane n).sigSeen then failAttempt n 7 s else rxOnlyLost n s)
        else if s.slAttempt (n - 64) ∧ s.bit (R.SL_STAT.SIGNAL (n - 64)) then failSpine (n - 64) 6 s else s) = failSpine (n - 64) 6 s := by
      rw [if_neg (by rw [Fin.lt_def]; exact Nat.not_lt.2 hn), if_pos ⟨hattempt, hsignal⟩]
    refine ⟨_, congrArg Host.Outcome.next hspine, ?_, failSpine_stage hcount (by decide), failSpine_onlyRegs hcount⟩
    rw [failSpine_backoff hcount]
    exact State.get_set_self _ (R.SL_STAT.STATE (n - 64)) 5

end Sys2Proof.Machine
end
section
/-!
PROOFS. PAM4 levels and 66-bit blocks (R411, R412): a block that is sent is read back.
-/
namespace Sys2Proof.Machine

/-! ### Levels, R411 -/

theorem grayBits_grayLevel (a b : Bool) : grayBits (grayLevel a b) = [a, b] := by cases a <;> cases b <;> rfl

theorem grayLevel_lt (a b : Bool) : grayLevel a b < 4 := by cases a <;> cases b <;> decide

theorem grayLevels_lt : ∀ l : List Bool, ∀ x ∈ grayLevels l, x < 4
  | [] => by simp [grayLevels]
  | [_] => by simp [grayLevels]
  | a :: b :: l => by
    intro x hx
    rcases List.mem_cons.1 hx with rfl | hx
    · exact grayLevel_lt a b
    · exact grayLevels_lt l x hx

/-- An even number of bits is read back from its levels. -/
theorem flatMap_grayLevels : ∀ {l : List Bool}, l.length % 2 = 0 → (grayLevels l).flatMap grayBits = l
  | [], _ => rfl
  | [_], h => by simp at h
  | a :: b :: l, h => by
    have ih : (grayLevels l).flatMap grayBits = l := flatMap_grayLevels (by simpa [Nat.add_assoc] using h)
    rw [grayLevels, List.flatMap_cons, grayBits_grayLevel, ih]
    rfl

theorem precode_lt (p : Nat) (l : List Nat) : ∀ x ∈ precode p l, x < 4 := by
  induction l generalizing p with
  | nil => simp [precode]
  | cons g gs ih =>
    intro x hx
    rcases List.mem_cons.1 hx with rfl | hx
    · exact Nat.mod_lt _ (by decide)
    · exact ih _ x hx

/-- Precoding is undone after the same level. -/
theorem unprecode_precode (p : Nat) {l : List Nat} (hl : ∀ x ∈ l, x < 4) : unprecode p (precode p l) = l := by
  induction l generalizing p with
  | nil => rfl
  | cons g gs ih =>
    have hg : g < 4 := hl g List.mem_cons_self
    simp only [precode, unprecode, ih _ fun x hx => hl x (List.mem_cons_of_mem g hx), List.cons.injEq, and_true]
    omega

theorem invertLevels_invertLevels (inv : Bool) {l : List Nat} (hl : ∀ x ∈ l, x < 4) : invertLevels inv (invertLevels inv l) = l := by
  cases inv
  · rfl
  · have hx : ∀ x ∈ l, 3 - (3 - x % 4) % 4 = x := fun x hx => by have := hl x hx; omega
    simp only [invertLevels, if_true, List.map_map]
    exact (List.map_congr_left hx).trans (List.map_id l)

/-! ### The payload of a block, R412 -/

theorem length_scramble (st : Nat) (l : List Bool) : (scramble st l).length = l.length := by
  induction l generalizing st with
  | nil => rfl
  | cons d l ih => simp [scramble, ih]

theorem descramble_scramble (st : Nat) (l : List Bool) : descramble st (scramble st l) = l := by
  induction l generalizing st with
  | nil => rfl
  | cons d l ih =>
    simp only [scramble, descramble, ih, List.cons.injEq, and_true]
    cases d <;> simp

theorem length_bitsOf (l : List Byte) : (bitsOf l).length = 8 * l.length := by
  induction l with
  | nil => rfl
  | cons b l ih =>
    rw [bitsOf, List.flatMap_cons, List.length_append, ← bitsOf, ih]
    simp
    omega

theorem valOf_append (k l : List Bool) : valOf (k ++ l) = valOf k + 2 ^ k.length * valOf l := by
  induction k with
  | nil => simp [valOf]
  | cons b k ih =>
    simp only [List.cons_append, valOf, ih, List.length_cons, Nat.pow_succ]
    ring

theorem valOf_byte : ∀ b : Byte, valOf ((List.range 8).map fun i => bitAt b.toNat i) = b.toNat := by decide +kernel

theorem valOf_bitsOf_cons (b : Byte) (l : List Byte) : valOf (bitsOf (b :: l)) = b.toNat + 256 * valOf (bitsOf l) := by
  rw [bitsOf, List.flatMap_cons, valOf_append, valOf_byte, ← bitsOf, List.length_map, List.length_range, show 2 ^ 8 = 256 from rfl]

theorem leBytes_valOf (l : List Byte) : leBytes l.length (valOf (bitsOf l)) = l := by
  induction l with
  | nil => rfl
  | cons b l ih =>
    have hb := b.isLt
    rw [valOf_bitsOf_cons, List.length_cons, leBytes]
    have hlow : BitVec.ofNat 8 (b.toNat + 256 * valOf (bitsOf l)) = b := by
      apply BitVec.eq_of_toNat_eq
      rw [BitVec.toNat_ofNat]
      omega
    have hhigh : (b.toNat + 256 * valOf (bitsOf l)) / 256 = valOf (bitsOf l) := by omega
    rw [hlow, hhigh, ih]

theorem blockTypes_lt : ∀ t ∈ blockTypes, t < 256 := by decide

theorem length_blockBits {b : Block} (scr : Nat) (h : b.wf = true) : (blockBits scr b).length = 66 := by
  cases b with
  | data l =>
    have hl : l.length = 8 := by simpa [Block.wf] using h
    simp [blockBits, length_scramble, length_bitsOf, hl]
  | control t l =>
    have hl : l.length = 7 := by
      simp only [Block.wf, Bool.and_eq_true, beq_iff_eq] at h
      exact h.2
    simp [blockBits, length_scramble, length_bitsOf, hl, length_leBytes]

/-- A block is read back from its 66 bits. -/
theorem blockOf_blockBits {b : Block} (scr : Nat) (h : b.wf = true) : blockOf scr (blockBits scr b) = some b := by
  have htake : ∀ (x y : Bool) (l : List Byte), l.length = 8 → descramble scr ((([x, y] ++ scramble scr (bitsOf l)).drop 2).take 64) = bitsOf l := by
    intro x y l hl
    have hlen : (scramble scr (bitsOf l)).length ≤ 64 := by rw [length_scramble, length_bitsOf, hl]
    rw [show ([x, y] ++ scramble scr (bitsOf l)).drop 2 = scramble scr (bitsOf l) from rfl, List.take_of_length_le hlen, descramble_scramble]
  cases b with
  | data l =>
    have hl : l.length = 8 := by simpa [Block.wf] using h
    have hval : leBytes 8 (valOf (bitsOf l)) = l := by rw [← hl, leBytes_valOf]
    simp only [blockOf, blockBits, htake _ _ l hl, hval]
    rfl
  | control t l =>
    obtain ⟨htyp, hl⟩ : blockTypes.contains t = true ∧ l.length = 7 := by simpa [Block.wf] using h
    have ht : t < 256 := blockTypes_lt t (by simpa using htyp)
    have hcons : leBytes 1 t ++ l = BitVec.ofNat 8 t :: l := rfl
    have hval : valOf (bitsOf (leBytes 1 t ++ l)) = t + 256 * valOf (bitsOf l) := by
      rw [hcons, valOf_bitsOf_cons, BitVec.toNat_ofNat, Nat.mod_eq_of_lt ht]
    have hlow : (t + 256 * valOf (bitsOf l)) % 256 = t := by omega
    have hhigh : (t + 256 * valOf (bitsOf l)) / 256 = valOf (bitsOf l) := by omega
    have hbytes : leBytes 7 (valOf (bitsOf l)) = l := by rw [← hl, leBytes_valOf]
    simp only [blockOf, blockBits, htake _ _ (leBytes 1 t ++ l) (by simp [length_leBytes, hl]), hval, hlow, hhigh, hbytes]
    exact if_pos htyp

/-- A block sent is read back, precoded or not, inverted or not (R411, R412). -/
theorem readBlock_blockLevels (pre inv : Bool) {prev : Nat} (scr : Nat) {b : Block} (hprev : prev < 4) (h : b.wf = true) :
    readBlock pre inv (if inv then 3 - prev else prev) scr (blockLevels pre inv prev scr b) = some b := by
  have hlast : (if inv then 3 - (if inv then 3 - prev else prev) % 4 else (if inv then 3 - prev else prev)) = prev := by
    cases inv
    · rfl
    · simp only [if_true]
      omega
  have heven : (blockBits scr b).length % 2 = 0 := by rw [length_blockBits scr h]
  have hlevels := grayLevels_lt (blockBits scr b)
  unfold readBlock blockLevels
  dsimp only
  rw [hlast]
  cases pre with
  | true => simp only [if_true, invertLevels_invertLevels inv (precode_lt prev _), unprecode_precode prev hlevels, flatMap_grayLevels heven, blockOf_blockBits scr h]
  | false => simp only [Bool.false_eq_true, if_false, invertLevels_invertLevels inv hlevels, flatMap_grayLevels heven, blockOf_blockBits scr h]

end Sys2Proof.Machine
end
section
/-!
PROOFS. Bring-up of a spine lane, step by step (R413 to R415).
-/
namespace Sys2Proof.Machine

section
variable {s t : State} {i : Nat}

theorem SpineOnly.eq (h : SpineOnly s t) : t = { s with regs := t.regs, spine := t.spine } := h
theorem SpineOnly.trans {u : State} (h : SpineOnly s t) (k : SpineOnly t u) : SpineOnly s u := by
  unfold SpineOnly
  exact k.eq.trans (congrArg (fun x : State => { x with regs := u.regs, spine := u.spine }) h.eq)

theorem SpineOnly.pw (h : SpineOnly s t) : t.pw = s.pw := (congrArg State.pw h.eq).trans rfl
theorem SpineOnly.sec (h : SpineOnly s t) : t.sec = s.sec := (congrArg State.sec h.eq).trans rfl
theorem SpineOnly.inState (h : SpineOnly s t) (l : List DevState) : t.inState l = s.inState l := by rw [State.inState, h.pw, State.inState]
theorem SpineOnly.pos (h : SpineOnly s t) : t.pos = s.pos := by rw [State.pos, h.pw, State.pos]
theorem SpineOnly.isRoot (h : SpineOnly s t) : t.isRoot = s.isRoot := by rw [State.isRoot, h.pos, State.isRoot]

/-! ### Enable and disable, R413 -/

theorem slState_key_ne_delay (i : Nat) : (R.SL_STAT.STATE i).key ≠ (R.SL_DELAY.DELAY i).key := by
  simp only [Fld.key, R.SL_STAT.STATE, R.SL_DELAY.DELAY]
  omega

theorem clearSpine_lockS (i : Nat) (s : State) : (clearSpine i s).bit R.CLK_STAT.LOCK_S = s.bit R.CLK_STAT.LOCK_S := by
  rw [State.bit, clearSpine_get_apart rfl, State.bit]

theorem clearSpine_slEn (i : Nat) (s : State) : (clearSpine i s).slEn i = s.slEn i := by
  rw [State.slEn, State.bit, clearSpine_get_apart rfl, ((SpineOnly.refl s).clearSpine i).sec, State.slEn, State.bit]

/-- The lane is enabled, its clock is locked and self-test found no fault: it starts attempt 1. -/
theorem spineBringUp_starts (hen : s.slEn i = true) (hlock : s.bit R.CLK_STAT.LOCK_S = true)
    (hstate : s.inState [.slate, .configure, .armed, .run, .safe] = true) (hbad : bitAt s.sec.badSpine i = false) :
    spineBringUp i s = startSpine i 1 (clearSpine i s) := by
  have honly := (SpineOnly.refl s).clearSpine i
  unfold spineBringUp
  dsimp only
  rw [clearSpine_slEn, hen, clearSpine_lockS, hlock, honly.inState, hstate, honly.sec, hbad]
  rfl

/-- A spine lane that is not enabled is OFF. -/
theorem spineBringUp_off (hen : s.slEn i = false) :
    spineBringUp i s = ((clearSpine i s).set (R.SL_STAT.STATE i) 0).modSpl i fun l => { l with absent := false, wasLost := false, retry := false } := by
  unfold spineBringUp
  dsimp only
  rw [clearSpine_slEn, hen]
  rfl

/-- The lane comes up, or goes down, after a write of EN. -/
theorem enableSpine_eq {v : Bool} (hstate : s.pw.state = .configure) (hen : s.bit (R.SL_CTRL.EN i) = !v)
    (hring : (spineBringUp i (s.setBit (R.SL_CTRL.EN i) v)).noRingYet) : enableSpine i v s = spineBringUp i (s.setBit (R.SL_CTRL.EN i) v) := by
  have hc : s.inState [.configure] = true ∧ s.bit (R.SL_CTRL.EN i) ≠ v := ⟨by simp [State.inState, hstate], by rw [hen]; cases v <;> decide⟩
  unfold enableSpine
  rw [if_pos hc, linkDrop_noRingYet hring]

theorem setBit_en_slEn (v : Bool) (s : State) : (s.setBit (R.SL_CTRL.EN i) v).slEn i = (v && !bitAt s.sec.deadSpine i) := by
  rw [State.slEn, State.bit_setBit_self rfl]
  rfl

/-- A lane that is enabled in Configure starts attempt 1. -/
theorem enableSpine_on (hstate : s.pw.state = .configure) (hen : s.bit (R.SL_CTRL.EN i) = false) (hdead : bitAt s.sec.deadSpine i = false)
    (hbad : bitAt s.sec.badSpine i = false) (hlock : s.bit R.CLK_STAT.LOCK_S = true) (hring : s.noRingYet) :
    enableSpine i true s = startSpine i 1 (clearSpine i (s.setBit (R.SL_CTRL.EN i) true)) := by
  have hlocked : (s.setBit (R.SL_CTRL.EN i) true).bit R.CLK_STAT.LOCK_S = true := by
    rw [State.bit, State.get_setBit_apart _ _ rfl]
    exact hlock
  have heq := spineBringUp_starts (s := s.setBit (R.SL_CTRL.EN i) true) (i := i) (by rw [setBit_en_slEn, hdead]; rfl) hlocked
    (by simp [State.inState, hstate]) hbad
  rw [enableSpine_eq hstate hen (by rw [heq]; exact startSpine_noRingYet (clearSpine_noRingYet (State.noRingYet_setBit hring _ _) i) i 1), heq]

/-- A lane that is disabled in Configure is OFF. -/
theorem enableSpine_off (hstate : s.pw.state = .configure) (hen : s.bit (R.SL_CTRL.EN i) = true) (hring : s.noRingYet) :
    enableSpine i false s = ((clearSpine i (s.setBit (R.SL_CTRL.EN i) false)).set (R.SL_STAT.STATE i) 0).modSpl i
      fun l => { l with absent := false, wasLost := false, retry := false } := by
  have heq := spineBringUp_off (s := s.setBit (R.SL_CTRL.EN i) false) (i := i) (by rw [setBit_en_slEn]; rfl)
  rw [enableSpine_eq hstate hen (by
    rw [heq]
    exact State.noRingYet_modSpl (State.noRingYet_set (clearSpine_noRingYet (State.noRingYet_setBit hring _ _) i) _ 0) i _), heq]

theorem startSpine_signal (i k : Nat) (s : State) : (startSpine i k s).get (R.SL_STAT.SIGNAL i) = 0 := by
  rw [startSpine, State.get_set_apart _ _ rfl, State.get_set_apart _ _ rfl, clearSpine, State.modSpl_get, State.get_set_apart _ _ rfl, State.get_set_apart _ _ rfl, State.get_set_apart _ _ rfl, State.get_set_apart _ _ rfl,
    State.get_set_apart _ _ rfl, State.get_set_apart _ _ rfl, State.get_set_self]
  rfl

/-! ### Training blocks, R412 and R414 -/

/-- A valid training block in EXCHANGE has counted. -/
def trainCounted (i : Nat) (b : List Byte) (s : State) : State :=
  s.modSpl i fun l => { l with train := min 8 (l.train + 1), nbPrecode := bitAt (leAt b 0 7) 45 }

theorem trainingBlock_bad {b : List Byte} (hstate : s.slState i = 3) (hlock : s.bit (R.SL_STAT.BLOCK_LOCK i) = true) (hgood : trainingGood b = false) :
    trainingBlock i b s = s.modSpl i fun l => { l with train := 0, ready := 0 } := by
  unfold trainingBlock
  rw [if_pos ⟨hstate, hlock⟩, if_pos (by simp [hgood])]

theorem trainingBlock_early {b : List Byte} (hstate : s.slState i = 3) (hlock : s.bit (R.SL_STAT.BLOCK_LOCK i) = true) (hgood : trainingGood b = true)
    (htrain : (s.spl i).train < 7) : trainingBlock i b s = trainCounted i b s := by
  unfold trainingBlock
  rw [if_pos ⟨hstate, hlock⟩, if_neg (by simp [hgood])]
  dsimp only
  rw [if_pos (by omega)]
  rfl

/-- What a training block says of the neighbour has been taken: its position, its group and its lane (R415). -/
def neighbourTaken (i : Nat) (b : List Byte) (s : State) : State :=
  (((trainCounted i b s).set (R.SL_STAT.NB_POS i) (bits (leAt b 0 7) 53 48)).set (R.SL_STAT.NB_G i) (bits (leAt b 0 7) 47 47)).set (R.SL_STAT.NB_LANE i)
    (bits (leAt b 0 7) 55 54)

/-- The sixteenth training block with RX_READY has been counted. -/
def exchangeDone (i : Nat) (b : List Byte) (s : State) : State := (neighbourTaken i b s).modSpl i fun l => { l with rxReady := true, ready := 16 }

theorem trainingBlock_last {b : List Byte} (hstate : s.slState i = 3) (hlock : s.bit (R.SL_STAT.BLOCK_LOCK i) = true) (hgood : trainingGood b = true)
    (htrain : 7 ≤ (s.spl i).train) (hgrp : bits (leAt b 0 7) 47 47 = s.grp) (hpos : bits (leAt b 0 7) 53 48 ≠ s.pos)
    (hside : bits (leAt b 0 7) 55 54 / 2 ≠ i / 2) (hrx : (s.spl i).rxReady = true) (hready : bitAt (leAt b 0 7) 46 = true) (hcount : (s.spl i).ready = 15) :
    trainingBlock i b s = spineEnters i (exchangeDone i b s) := by
  have hsum : (if (s.spl i).rxReady && bitAt (leAt b 0 7) 46 then (s.spl i).ready + 1 else 0) = 16 := by rw [hrx, hready, hcount]; rfl
  have hgrp' : ¬ bits (leAt b 0 7) 47 47 ≠ (trainCounted i b s).grp := not_not.2 hgrp
  have hpos' : ¬ bits (leAt b 0 7) 53 48 = (trainCounted i b s).pos := hpos
  unfold trainingBlock
  rw [if_pos ⟨hstate, hlock⟩, if_neg (by simp [hgood])]
  dsimp only
  rw [if_neg (by omega), ← trainCounted, if_neg hgrp', if_neg hpos', if_neg hside, hsum, if_pos (by decide)]
  rfl

theorem exchangeDone_only (i : Nat) (b : List Byte) (s : State) : SpineOnly s (exchangeDone i b s) :=
  (((((SpineOnly.refl s).modSpl i _).set _ _).set _ _).set _ _).modSpl i _

theorem exchangeDone_onlyRegs (i : Nat) (b : List Byte) (s : State) :
    OnlyRegs s (exchangeDone i b s) [R.SL_STAT.NB_POS i, R.SL_STAT.NB_G i, R.SL_STAT.NB_LANE i] :=
  (((((OnlyRegs.of_regs (s := s) (t := s) rfl _).modSpl i _).set _ (by simp)).set _ (by simp)).set _ (by simp)).modSpl i _

theorem exchangeDone_spl (i : Nat) (b : List Byte) (s : State) : (exchangeDone i b s).spl i =
    { s.spl i with train := min 8 ((s.spl i).train + 1), nbPrecode := bitAt (leAt b 0 7) 45, rxReady := true, ready := 16 } := by
  rw [exchangeDone, State.spl_modSpl_self]
  exact congrArg (fun l : SpLane => { l with rxReady := true, ready := 16 }) (State.spl_modSpl_self s i _)

theorem exchangeDone_nbPos (i : Nat) (b : List Byte) (s : State) : (exchangeDone i b s).get (R.SL_STAT.NB_POS i) = bits (leAt b 0 7) 53 48 := by
  rw [exchangeDone, State.modSpl_get, neighbourTaken, State.get_set_apart _ _ rfl, State.get_set_apart _ _ rfl, State.get_set_self]
  exact Nat.mod_mod _ _

theorem exchangeDone_nbG (i : Nat) (b : List Byte) (s : State) : (exchangeDone i b s).get (R.SL_STAT.NB_G i) = bits (leAt b 0 7) 47 47 := by
  rw [exchangeDone, State.modSpl_get, neighbourTaken, State.get_set_apart _ _ rfl, State.get_set_self]
  exact Nat.mod_mod _ _

theorem exchangeDone_nbLane (i : Nat) (b : List Byte) (s : State) : (exchangeDone i b s).get (R.SL_STAT.NB_LANE i) = bits (leAt b 0 7) 55 54 := by
  rw [exchangeDone, State.modSpl_get, neighbourTaken, State.get_set_self]
  exact Nat.mod_mod _ _

/-! ### The entry to UP, R414 and R415 -/

/-- The lane is in UP with the precoding that the neighbour asks for and its own. -/
def precodeSet (i : Nat) (s : State) : State :=
  (((s.set (R.SL_STAT.STATE i) 4).setBit (R.SL_STAT.PRECODE_TX i) (s.spl i).nbPrecode).set (R.SL_STAT.PRECODE_RX i) (s.get (R.SL_CTRL.PRECODE_REQ i)))

/-- The lane has entered UP. -/
def spineUpEntered (i : Nat) (s : State) : State :=
  ((precodeSet i s).setBit (R.SL_STAT.CROSSED i) (s.get (R.SL_STAT.NB_LANE i) % 2 != i % 2)).modSpl i
    fun l => { l with wasLost := false, absent := false, retry := false, codeErrs := 0 }

theorem spineEnters_quiet (hlost : (s.spl i).wasLost = false) (habsent : (s.spl i).absent = false) (horder : s.orderOk i (s.get (R.SL_STAT.NB_POS i)) = true)
    (horderKept : (spineUpEntered i s).orderOk i (s.get (R.SL_STAT.NB_POS i)) = s.orderOk i (s.get (R.SL_STAT.NB_POS i))) : spineEnters i s = spineUpEntered i s := by
  have hreq : ((s.set (R.SL_STAT.STATE i) 4).setBit (R.SL_STAT.PRECODE_TX i) (s.spl i).nbPrecode).get (R.SL_CTRL.PRECODE_REQ i) = s.get (R.SL_CTRL.PRECODE_REQ i) := by
    rw [State.get_setBit_apart _ _ rfl, State.get_set_apart _ _ rfl]
  have hlane : ((s.set (R.SL_STAT.STATE i) 4).setBit (R.SL_STAT.PRECODE_TX i) (s.spl i).nbPrecode).get (R.SL_STAT.NB_LANE i) = s.get (R.SL_STAT.NB_LANE i) := by
    rw [State.get_setBit_apart _ _ rfl, State.get_set_apart _ _ rfl]
  unfold spineEnters
  dsimp only
  rw [hreq, hlane, ← precodeSet, ← spineUpEntered, hlost, habsent, horderKept, horder]
  rfl

theorem spineUpEntered_only (i : Nat) (s : State) : SpineOnly s (spineUpEntered i s) :=
  (((((SpineOnly.refl s).set _ 4).setBit _ _).set _ _).setBit _ _).modSpl i _

theorem spineUpEntered_onlyRegs (i : Nat) (s : State) :
    OnlyRegs s (spineUpEntered i s) [R.SL_STAT.STATE i, R.SL_STAT.PRECODE_TX i, R.SL_STAT.PRECODE_RX i, R.SL_STAT.CROSSED i] :=
  (((((OnlyRegs.of_regs (s := s) (t := s) rfl _).set 4 (by simp)).set _ (by simp)).set _ (by simp)).set _ (by simp)).modSpl i _

theorem spineUpEntered_state (i : Nat) (s : State) : (spineUpEntered i s).slState i = 4 := by
  rw [spineUpEntered, State.slState_modSpl, State.slState, State.get_setBit_apart _ _ rfl, precodeSet, State.get_set_apart _ _ rfl, State.get_setBit_apart _ _ rfl,
    State.get_set_self]
  rfl

theorem spineUpEntered_precodeTx (i : Nat) (s : State) : (spineUpEntered i s).bit (R.SL_STAT.PRECODE_TX i) = (s.spl i).nbPrecode := by
  rw [spineUpEntered, State.modSpl_bit, State.bit, State.get_setBit_apart _ _ rfl, precodeSet, State.get_set_apart _ _ rfl]
  exact State.bit_setBit_self rfl ..

theorem spineUpEntered_precodeRx (i : Nat) (s : State) : (spineUpEntered i s).get (R.SL_STAT.PRECODE_RX i) = s.get (R.SL_CTRL.PRECODE_REQ i) := by
  rw [spineUpEntered, State.modSpl_get, State.get_setBit_apart _ _ rfl, precodeSet, State.get_set_self]
  exact Nat.mod_eq_of_lt (s.get_lt (R.SL_CTRL.PRECODE_REQ i))

theorem spineUpEntered_crossed (i : Nat) (s : State) : (spineUpEntered i s).bit (R.SL_STAT.CROSSED i) = (s.get (R.SL_STAT.NB_LANE i) % 2 != i % 2) :=
  State.bit_setBit_self (f := R.SL_STAT.CROSSED i) rfl (precodeSet i s) _

theorem SpineOnly.orderOk (h : SpineOnly s t) (nb : Nat) : t.orderOk i nb = s.orderOk i nb := by rw [State.orderOk, h.isRoot, h.pos, State.orderOk]

end

theorem exec_spineSignalDetect {i : Fin 4} {s : State} (h : s.slState i = 2) : exec (.spineSignalDetect i) s = .next (s.set (R.SL_STAT.SIGNAL i) 1) :=
  congrArg Host.Outcome.next (if_pos h)

theorem exec_spineBlockLock {i : Fin 4} {s : State} (h : s.slState i = 3) : exec (.spineBlockLock i) s = .next (s.set (R.SL_STAT.BLOCK_LOCK i) 1) :=
  congrArg Host.Outcome.next (if_pos h)

/-- The polarity of a lane that has adapted: forced by RX_POL, or the one that locked (R415). -/
def adaptedInv (i : Nat) (inv : Bool) (s : State) : Bool :=
  if s.get (R.SL_CTRL.RX_POL i) = 1 then false else if s.get (R.SL_CTRL.RX_POL i) = 2 then true else inv

/-- The lane has adapted and is in EXCHANGE. -/
def adapted (i : Nat) (inv : Bool) (s : State) : State :=
  ((s.setBit (R.SL_STAT.RX_INV i) (adaptedInv i inv s)).set (R.SL_STAT.CDR_LOCK i) 1).set (R.SL_STAT.STATE i) 3

theorem exec_spineAdapted {i : Fin 4} {inv : Bool} {s : State} (hstate : s.slState i = 2) (hsignal : s.bit (R.SL_STAT.SIGNAL i) = true) :
    exec (.spineAdapted i inv) s = .next (adapted i inv s) := congrArg Host.Outcome.next (if_pos ⟨hstate, hsignal⟩)

theorem adapted_rxInv (i : Nat) (inv : Bool) (s : State) : (adapted i inv s).bit (R.SL_STAT.RX_INV i) = adaptedInv i inv s := by
  rw [adapted, State.bit, State.get_set_apart _ _ rfl, State.get_set_apart _ _ rfl]
  exact State.bit_setBit_self rfl ..

/-- Settles O34: the coding is undone by `readBlock_blockLevels`; each step of bring-up is one named update of the lane. -/
theorem spineBringUpSteps : Obligations.SpineBringUpSteps := by
  unfold Obligations.SpineBringUpSteps
  refine ⟨?coding, ?enable, ?disable, ?signal, ?adapt, ?blockLock, ?train, ?bad, ?enters⟩
  case coding =>
    intro pre inv prev scr b hprev hwf
    exact readBlock_blockLevels pre inv scr hprev hwf
  case enable =>
    intro s i hstate hen hdead hbad hlock hring
    refine ⟨_, congrArg Host.Outcome.next (enableSpine_on hstate hen hdead hbad hlock hring), ?_, startSpine_state .., startSpine_attempt (by decide) ..,
      startSpine_signal .., ?_, ?_⟩
    · rw [(startSpine_onlyRegs i 1 _).get_apart rfl, clearSpine_get_apart rfl]
      exact State.get_set_self s (R.SL_CTRL.EN i) 1
    · refine (((OnlyRegs.of_regs (s := s) (t := s) rfl [R.SL_CTRL.EN i]).set 1 (by simp)).trans ((clearSpine_onlyRegs i _).trans (startSpine_onlyRegs i 1 _))).mono ?_
      simp only [List.mem_append, List.mem_cons, List.not_mem_nil, or_false]
      tauto
    · exact ((SpineOnly.setBit (SpineOnly.refl s) _ _).clearSpine i).startSpine i 1
  case disable =>
    intro s i hstate hen hring
    refine ⟨_, congrArg Host.Outcome.next (enableSpine_off hstate hen hring), ?_, ?_, ?_, OnlyRegs.modSpl ?_ i _⟩
    · rw [State.modSpl_get, State.get_set_apart _ _ rfl, clearSpine_get_apart rfl]
      exact State.get_set_self s (R.SL_CTRL.EN i) 0
    · rw [State.slState_modSpl]
      exact State.get_set_self _ (R.SL_STAT.STATE i) 0
    · rw [State.modSpl_get, State.get_set_of_ne _ _ (slState_key_ne_delay i), clearSpine_delay]
    · refine (((OnlyRegs.of_regs (s := s) (t := s) rfl [R.SL_CTRL.EN i]).set 0 (by simp)).trans (clearSpine_onlyRegs i _)).mono (m := [R.SL_CTRL.EN i, R.SL_STAT.STATE i]
        ++ spineAfresh i) (fun f hf => ?_) |>.set 0 (by simp)
      simp only [List.mem_append, List.mem_cons, List.not_mem_nil, or_false] at hf ⊢
      tauto
  case signal =>
    intro s i hstate
    exact ⟨_, exec_spineSignalDetect hstate, State.get_set_self s (R.SL_STAT.SIGNAL i) 1, rfl,
      (OnlyRegs.of_regs (s := s) (t := s) rfl _).set 1 (List.mem_singleton_self (R.SL_STAT.SIGNAL i))⟩
  case adapt =>
    intro s i inv hstate hsignal
    refine ⟨_, exec_spineAdapted hstate hsignal, State.get_set_self _ (R.SL_STAT.STATE i) 3, ?_, fun h => ?_, fun h => ?_, fun h => ?_, rfl, ?_⟩
    · rw [adapted, State.get_set_apart _ _ rfl, State.get_set_self]
      rfl
    · rw [adapted_rxInv, adaptedInv, h]
      rfl
    · rw [adapted_rxInv, adaptedInv, h]
      rfl
    · rw [adapted_rxInv, adaptedInv, h]
      rfl
    · exact (((OnlyRegs.of_regs (s := s) (t := s) rfl _).set _ (by simp)).set 1 (by simp)).set 3 (by simp)
  case blockLock =>
    intro s i hstate
    exact ⟨_, exec_spineBlockLock hstate, State.get_set_self s (R.SL_STAT.BLOCK_LOCK i) 1, rfl,
      (OnlyRegs.of_regs (s := s) (t := s) rfl _).set 1 (List.mem_singleton_self (R.SL_STAT.BLOCK_LOCK i))⟩
  case train =>
    intro s i b hstate hlock hgood htrain
    refine ⟨_, congrArg Host.Outcome.next (trainingBlock_early hstate hlock hgood htrain), ?_, ?_, rfl⟩ <;> rw [trainCounted, State.spl_modSpl_self]
    exact Nat.min_eq_right (by omega)
  case bad =>
    intro s i b hstate hlock hgood
    refine ⟨_, congrArg Host.Outcome.next (trainingBlock_bad hstate hlock hgood), ?_, ?_, rfl⟩ <;> rw [State.spl_modSpl_self]
  case enters =>
    intro s i b hstate hlock hgood htrain hgrp hpos hside hrx hready hcount hlost habsent horder
    have honly := exchangeDone_only i b s
    have hspl := exchangeDone_spl i b s
    have hregs := exchangeDone_onlyRegs i b s
    have hnb := exchangeDone_nbPos i b s
    have hlane := exchangeDone_nbLane i b s
    have hgroup := exchangeDone_nbG i b s
    have heq := trainingBlock_last hstate hlock hgood htrain hgrp hpos hside hrx hready hcount
    generalize exchangeDone i b s = x at honly hspl hregs hnb hlane hgroup heq
    have hup := spineUpEntered_onlyRegs i x
    rw [spineEnters_quiet (by rw [hspl]; exact hlost) (by rw [hspl]; exact habsent) (by rw [hnb, honly.orderOk]; exact horder)
      ((spineUpEntered_only i x).orderOk _)] at heq
    refine ⟨spineUpEntered i x, congrArg Host.Outcome.next heq, ?_, ?_, ?_, ?_, ?_, ?_, ?_, ?_, ?_⟩
    · exact beq_iff_eq.2 (spineUpEntered_state i x)
    · rw [hup.get_apart rfl, hnb]
    · rw [hup.get_apart rfl, hgroup, hgrp]
    · rw [hup.get_apart rfl, hlane]
    · rw [spineUpEntered_precodeTx, hspl]
    · rw [spineUpEntered_precodeRx, hregs.get_apart rfl]
    · rw [spineUpEntered_crossed, hlane]
    · exact (hregs.trans hup).mono fun f hf => by simp at hf ⊢; tauto
    · exact honly.trans (spineUpEntered_only i x)

end Sys2Proof.Machine
end
section
/-!
PROOFS. The messages of the ring: enumeration and map (R421, R423), and urgent notices (R426 to R428).
-/
namespace Sys2Proof.Machine

section
variable {s t u : State}

/-! ### What is sent -/

/-- `t` is `s` but for what the spine holds. -/
def MessageOnly (s t : State) : Prop := t = { s with spine := t.spine }

theorem MessageOnly.eq (h : MessageOnly s t) : t = { s with spine := t.spine } := h
theorem MessageOnly.refl (s : State) : MessageOnly s s := rfl
theorem MessageOnly.trans (h : MessageOnly s t) (k : MessageOnly t u) : MessageOnly s u := by
  unfold MessageOnly
  exact k.eq.trans (congrArg (fun x : State => { x with spine := u.spine }) h.eq)

theorem MessageOnly.transmit (s : State) (d : Nat) (b : List Byte) : MessageOnly s (s.transmit d b) := rfl
theorem MessageOnly.spine (s : State) (x : Spine) : MessageOnly s { s with spine := x } := rfl
theorem MessageOnly.regs (h : MessageOnly s t) : t.regs = s.regs := (congrArg State.regs h.eq).trans rfl
theorem MessageOnly.cyc (h : MessageOnly s t) : t.cyc = s.cyc := (congrArg State.cyc h.eq).trans rfl
theorem MessageOnly.spineUp (h : MessageOnly s t) (i : Nat) : t.spineUp i = s.spineUp i := by rw [State.spineUp, State.get_of_regs h.regs, State.spineUp]

theorem MessageOnly.foldl {α : Type} {g : State → α → State} (hg : ∀ x a, MessageOnly x (g x a)) (l : List α) (s : State) : MessageOnly s (l.foldl g s) := by
  induction l generalizing s with
  | nil => exact .refl s
  | cons a l ih => exact (hg s a).trans (ih (g s a))

/-- Two states have sent the same in this core cycle, so they send alike. -/
def SentAlike (s t : State) : Prop := t.spine.sent = s.spine.sent ∧ t.cyc = s.cyc

theorem SentAlike.transmit (h : SentAlike s t) (d : Nat) (b : List Byte) : SentAlike (s.transmit d b) (t.transmit d b) := by
  obtain ⟨hsent, hcyc⟩ := h
  exact ⟨by simp only [State.transmit, State.sentWith, hsent, hcyc], hcyc⟩

theorem SentAlike.foldl {α : Type} {g : State → α → State} (hg : ∀ {x y : State} (a : α), SentAlike x y → SentAlike (g x a) (g y a)) (l : List α)
    (h : SentAlike s t) : SentAlike (l.foldl g s) (l.foldl g t) := by
  induction l generalizing s t with
  | nil => exact h
  | cons a l ih => exact ih (hg a h)

/-- An effect on those that pass a test, which the effects leave as it is. -/
theorem State.each_filter {α : Type} {c : State → α → Bool} {g : State → α → State} (hc : ∀ x a b, c (g x a) b = c x b) (l : List α) (s : State) :
    s.each l (fun a x => if c x a then g x a else x) = (l.filter (c s)).foldl g s := by
  induction l generalizing s with
  | nil => rfl
  | cons a l ih =>
    rw [State.each_cons]
    by_cases h : c s a = true
    · rw [if_pos h, ih, List.filter_cons_of_pos h, List.foldl_cons, show c (g s a) = c s from funext (hc s a)]
    · rw [if_neg h, ih, List.filter_cons_of_neg h]

theorem linkUp_of_regs (h : t.regs = s.regs) (d : Nat) : t.linkUp d = s.linkUp d := by
  rw [State.linkUp, State.spineUp, State.spineUp, State.get_of_regs h, State.get_of_regs h]
  rfl

/-! ### Enumeration, R423 -/

/-- Messages that carry the sender's position, which sending leaves. -/
theorem foldl_transmit_pos (f : Nat → Nat → List Byte) (l : List Nat) (s : State) :
    l.foldl (fun x d => x.transmit d (f x.pos d)) s = l.foldl (fun x d => x.transmit d (f s.pos d)) s := by
  induction l generalizing s with
  | nil => rfl
  | cons d l ih => exact ih (s.transmit d (f s.pos d))

/-- The sequence number of a channel has moved on. -/
def seqMoved (chan : Nat) (s : State) : State :=
  { s with spine := { s.spine with seq := Tab.set 0 s.spine.seq chan ((Tab.get 0 s.spine.seq chan + 1) % 65536) } }

theorem seqMoved_messageOnly (chan : Nat) (s : State) : MessageOnly s (seqMoved chan s) := rfl
theorem seqMoved_sentAlike (chan : Nat) (s : State) : SentAlike s (seqMoved chan s) := ⟨rfl, rfl⟩
theorem seqMoved_pos (chan : Nat) (s : State) : (seqMoved chan s).pos = s.pos := rfl

theorem sendBoth_foldl (typ chan dest : Nat) (payload : Nat → List Byte) (s : State) :
    sendBoth typ chan dest payload s
      = ([0, 1].filter s.linkUp).foldl (fun y d => y.transmit d (message typ chan 0 s.pos dest (Tab.get 0 s.spine.seq chan) (payload d))) (seqMoved chan s) := by
  have hfilter : [0, 1].filter (seqMoved chan s).linkUp = [0, 1].filter s.linkUp := by
    rw [show (seqMoved chan s).linkUp = s.linkUp from funext (linkUp_of_regs (seqMoved_messageOnly chan s).regs)]
  rw [← hfilter, ← seqMoved_pos chan s, ← foldl_transmit_pos fun p d => message typ chan 0 p dest (Tab.get 0 s.spine.seq chan) (payload d)]
  exact State.each_filter (c := fun y d => y.linkUp d) (g := fun y d => y.transmit d (message typ chan 0 y.pos dest (Tab.get 0 s.spine.seq chan) (payload d)))
    (fun y _ d => linkUp_of_regs (s := y) rfl d) [0, 1] (seqMoved chan s)

theorem sendBoth_messageOnly (typ chan dest : Nat) (payload : Nat → List Byte) (s : State) : MessageOnly s (sendBoth typ chan dest payload s) := by
  rw [sendBoth_foldl]
  exact (seqMoved_messageOnly chan s).trans (.foldl (fun _ _ => .transmit ..) _ _)

/-- A message of the Root goes out on each link that is up, with the next sequence number of its channel. -/
theorem sendBoth_sent (typ chan dest : Nat) (payload : Nat → List Byte) (s : State) :
    (sendBoth typ chan dest payload s).spine.sent
      = (([0, 1].filter s.linkUp).foldl (fun x d => x.transmit d (message typ chan 0 s.pos dest (Tab.get 0 s.spine.seq chan) (payload d))) s).spine.sent := by
  rw [sendBoth_foldl]
  exact (SentAlike.foldl (g := fun x d => x.transmit d (message typ chan 0 s.pos dest (Tab.get 0 s.spine.seq chan) (payload d))) (fun d h => h.transmit d _) _
    (seqMoved_sentAlike chan s)).1

/-- What sending leaves of the spine: the Root's enumeration and the notices. -/
structure EnumKept (s t : State) : Prop where
  num : t.spine.enumNum = s.spine.enumNum
  isOpen : t.spine.enumOpen = s.spine.enumOpen
  east : t.spine.enumEast = s.spine.enumEast
  west : t.spine.enumWest = s.spine.enumWest
  notice : t.spine.notice = s.spine.notice
  notices : t.spine.notices = s.spine.notices
  waiting : t.spine.waiting = s.spine.waiting

theorem EnumKept.refl (s : State) : EnumKept s s := ⟨rfl, rfl, rfl, rfl, rfl, rfl, rfl⟩
theorem EnumKept.transmit (h : EnumKept s t) (d : Nat) (b : List Byte) : EnumKept s (t.transmit d b) :=
  ⟨h.num, h.isOpen, h.east, h.west, h.notice, h.notices, h.waiting⟩

theorem EnumKept.foldl {α : Type} {g : State → α → State} (hg : ∀ {x : State} (a : α), EnumKept s x → EnumKept s (g x a)) (l : List α) (h : EnumKept s t) :
    EnumKept s (l.foldl g t) := by
  induction l generalizing t with
  | nil => exact h
  | cons a l ih => exact ih (hg a h)

theorem sendBoth_enumKept (typ chan dest : Nat) (payload : Nat → List Byte) (s : State) : EnumKept s (sendBoth typ chan dest payload s) := by
  have hmoved : EnumKept s (seqMoved chan s) := ⟨rfl, rfl, rfl, rfl, rfl, rfl, rfl⟩
  rw [sendBoth_foldl]
  exact hmoved.foldl (fun _ h => h.transmit ..) _

/-- The Root's enumeration has its next number, and awaits both copies. -/
def enumStarted (s : State) : State :=
  { s with spine := { s.spine with enumNum := (s.spine.enumNum + 1) % 256, enumOpen := true, enumEast := none, enumWest := none } }

theorem sendEnumeration_both (hroot : s.isRoot = true) (hstate : s.pw.state = .configure) (h0 : s.linkUp 0 = true) (h1 : s.linkUp 1 = true)
    (hclosed : s.spine.enumOpen = false) :
    sendEnumeration s = sendBoth 0x45 2 0xFF (fun d => enumPayload d false ((s.spine.enumNum + 1) % 256) []) (enumStarted s) := by
  unfold sendEnumeration
  rw [if_pos ⟨hroot, by simp [State.inState, hstate], .inl h0⟩]
  dsimp only
  rw [if_neg (by simp [hclosed]), h0, h1]
  rfl

theorem enumeration_member {i : Nat} {b : List Byte} (hroot : s.isRoot = false) (hup : s.spineUp i = true) (hgood : msgGood 0x45 b = true) (hlen : 2 ≤ msgLen b)
    (hend : bitAt (leAt (msgPayload b) 0 1) 1 = false) :
    enumeration i b s = if s.linkUp (onward i) then passOn i b (msgPayload b ++ leBytes 1 s.pos) s
      else s.transmit (i / 2) (message 0x45 2 (msgHops b + 1) (msgSrc b) 0 (msgSeq b)
        (enumPayload (leAt (msgPayload b) 0 1 % 2) true (leAt (msgPayload b) 1 1) ((msgPayload b ++ leBytes 1 s.pos).drop 2))) := by
  unfold enumeration
  rw [if_neg (by simp [hup]), if_neg (by simp [hgood, hlen])]
  dsimp only
  rw [if_neg (by simp [hroot]), if_neg (by simp [hend])]

theorem passOn_sends {i : Nat} {b payload : List Byte} (hup : s.linkUp (onward i) = true) (hhops : msgHops b < 63) :
    passOn i b payload s = s.transmit (onward i) (message (msgType b) (msgChan b) (msgHops b + 1) (msgSrc b) (msgDest b) (msgSeq b) payload) :=
  if_pos (by simp [hup, hhops])

/-! ### The ring map, R423 -/

/-- Every path of `takeMap` takes the map, and leaves what the spine holds but for what a report sends. -/
theorem takeMap_map (m : RingMap) (s : State) : (takeMap m s).spine.map = some m ∧ (takeMap m s).spine.enumOpen = s.spine.enumOpen := by
  unfold takeMap
  extract_lets was sp s1 own s2
  have hspine : s2.spine = s1.spine := by
    have heach : (s1.each lanes64 disown).spine = s1.spine := State.each_keeps (P := fun x => x.spine = s1.spine) rfl fun _ _ _ h => h
    show (if _ then s1.each lanes64 disown else s1).spine = s1.spine
    split
    · exact heach
    · rfl
  have hreport := raiseAll_reported ((if m.opens && !was then [Src.SP_RING_OPEN] else []) ++ (if own then [Src.SP_POS_DUPLICATE] else [])) s2
  have hmap := hreport.field (fun x => x.spine.map) fun _ => rfl
  have hopen := hreport.field (fun x => x.spine.enumOpen) fun _ => rfl
  exact ⟨hmap.trans (congrArg Spine.map hspine), hopen.trans ((congrArg Spine.enumOpen hspine).trans rfl)⟩

/-- A Member that is no duplicate takes a map of a closed ring without a report. -/
theorem takeMap_quiet {m : RingMap} (hdup : bitAt m.dup s.pos = false) (hroot : s.isRoot = false) (hclosed : m.closed = true) :
    takeMap m s = { s with spine := { s.spine with map := some m } } := by
  have hopens : m.opens = false := by simp [RingMap.opens, hclosed]
  unfold takeMap
  extract_lets was sp s1 own s2
  have hs2 : s2 = s1 := if_neg (by show ¬ (bitAt m.dup s.pos = true ∧ _); simp [hdup])
  have hown : own = false := by
    show (bitAt m.dup s.pos || (s.isRoot && m.dup != 0)) = false
    simp [hdup, hroot]
  rw [hopens, hown, hs2]
  rfl

theorem publishMap_holds (complete closed : Bool) (ps : List Nat) (s : State) :
    ∃ m : RingMap, m.present = presentOf (s.pos :: ps) ∧ m.complete = complete ∧ m.closed = closed ∧ (publishMap complete closed ps s).spine.map = some m
      ∧ (publishMap complete closed ps s).spine.enumOpen = false := by
  unfold publishMap
  extract_lets l num m sp s1
  obtain ⟨hmap, hopen⟩ := takeMap_map m (sendBoth 0x4D 2 0xFF (fun _ => mapPayload m) s1)
  refine ⟨m, rfl, rfl, rfl, hmap, hopen.trans ?_⟩
  exact (sendBoth_enumKept ..).isOpen.trans rfl

theorem enumReturns_round {i : Nat} {p : List Byte} (hi : 2 ≤ i) (hdir : leAt p 0 1 = 0) (hopen : s.spine.enumOpen = true) (hnum : leAt p 1 1 = s.spine.enumNum) :
    enumReturns i p s = publishMap true true ((p.drop 2).map BitVec.toNat) s := by
  have hend : bitAt 0 1 = false := by decide
  unfold enumReturns
  dsimp only
  rw [if_neg (by simp [hopen, hnum]), hdir, hend, if_neg Bool.false_ne_true, if_pos ⟨rfl, hi⟩]

theorem enumeration_root {i : Nat} {b : List Byte} (hroot : s.isRoot = true) (hup : s.spineUp i = true) (hgood : msgGood 0x45 b = true) (hlen : 2 ≤ msgLen b) :
    enumeration i b s = enumReturns i (msgPayload b) s := by
  unfold enumeration
  rw [if_neg (by simp [hup]), if_neg (by simp [hgood, hlen])]
  dsimp only
  rw [if_pos hroot]

/-- The first copy of a map is forwarded, and then taken. -/
theorem ringMap_first {i : Nat} {b : List Byte} (hup : s.spineUp i = true) (hgood : msgGood 0x4D b = true) (hlen : msgLen b = 19) (hsrc : msgSrc b ≠ s.pos)
    (hseq : s.spine.mapSeq ≠ some (msgSeq b)) (hon : s.linkUp (onward i) = true) (hhops : msgHops b < 63) :
    ringMap i b s = takeMap (mapOf (msgPayload b))
      { s with spine := { s.spine with
          sent := s.sentWith (onward i) (message (msgType b) (msgChan b) (msgHops b + 1) (msgSrc b) (msgDest b) (msgSeq b) (msgPayload b))
          mapSeq := some (msgSeq b) } } := by
  unfold ringMap
  rw [if_neg (by simp [hup]), if_neg (by simp [hgood, hlen]), if_neg hsrc]
  dsimp only
  rw [passOn_sends hon hhops]
  exact if_neg hseq

theorem ringMap_own {i : Nat} {b : List Byte} (hup : s.spineUp i = true) (hgood : msgGood 0x4D b = true) (hlen : msgLen b = 19) (hsrc : msgSrc b = s.pos) :
    ringMap i b s = s := by
  unfold ringMap
  rw [if_neg (by simp [hup]), if_neg (by simp [hgood, hlen]), if_pos hsrc]

/-! ### Messages that wait for a route, R421 -/

/-- A waiting message is sent in the direction of its route, if it has one. -/
def sendRouted (s x : State) (m : Nat × List Byte) : State := x.transmit ((s.route m.1).getD 0) m.2

/-- The messages without a route stay. -/
def stillWaiting (s : State) : State := { s with spine := { s.spine with waiting := s.spine.waiting.filter fun m => (s.route m.1).isNone } }

theorem State.route_transmit (s : State) (d : Nat) (b : List Byte) (p : Nat) : (s.transmit d b).route p = s.route p := rfl

theorem sendQueued_eq (s : State) : sendQueued s = (s.spine.waiting.filter fun m => (s.route m.1).isSome).foldl (sendRouted s) (stillWaiting s) := by
  unfold sendQueued
  dsimp only
  rw [← stillWaiting]
  generalize hgo : (s.spine.waiting.filter fun m => (s.route m.1).isSome) = go
  have hroutes : ∀ m ∈ go, (s.route m.1).isSome := fun m hm => by
    rw [← hgo] at hm
    simpa using (List.mem_filter.1 hm).2
  generalize stillWaiting s = x
  clear hgo
  induction go generalizing x with
  | nil => rfl
  | cons m go ih =>
    obtain ⟨d, hd⟩ := Option.isSome_iff_exists.1 (hroutes m List.mem_cons_self)
    have hsend : sendRouted s x m = x.transmit d m.2 := by rw [sendRouted, hd]; rfl
    rw [State.each_cons, hd, List.foldl_cons, hsend]
    exact ih (fun n hn => hroutes n (List.mem_cons_of_mem m hn)) _

/-! ### Urgent notices, R426 and R428 -/

/-- A pair of notice blocks goes out on the link of a lane. -/
def sendPair (n : Notice) (s : State) (i : Nat) : State := (s.transmit (i / 2) (noticeBlock n)).transmit (i / 2) (noticeBlock n)

theorem sendPair_messageOnly (n : Notice) (s : State) (i : Nat) : MessageOnly s (sendPair n s i) := rfl
theorem sendPair_spineUp (n : Notice) (s : State) (i j : Nat) : (sendPair n s i).spineUp j = s.spineUp j := rfl

theorem sendNotice_eq (d : Nat) (n : Notice) (s : State) : sendNotice d n s = ([2 * d, 2 * d + 1].filter s.spineUp).foldl (sendPair n) s := by
  have hfirst : 2 * d / 2 = d := by omega
  have hsecond : (2 * d + 1) / 2 = d := by omega
  rw [← State.each_filter (c := fun x i => x.spineUp i) (g := sendPair n) (fun x i j => sendPair_spineUp n x i j) [2 * d, 2 * d + 1] s]
  unfold sendNotice
  simp only [State.each_cons, State.each_nil, sendPair, hfirst, hsecond]

theorem sendNotice_messageOnly (d : Nat) (n : Notice) (s : State) : MessageOnly s (sendNotice d n s) := by
  rw [sendNotice_eq]
  exact .foldl (sendPair_messageOnly n) _ s

/-- The notice of this device is on its way and remembered. -/
def noticeTaken (n : Notice) (s : State) : State :=
  { s with spine := { s.spine with notice := none, notices := ((n.origin, n.stamp, 3) :: s.spine.notices).take 8 } }

theorem originate_eq {n : Notice} (h : s.spine.notice = some n) : originate s = ([0, 1, 2, 3].filter s.spineUp).foldl (sendPair n) (noticeTaken n s) := by
  have hup : ∀ x : State, MessageOnly s x → x.spineUp = s.spineUp := fun x hx => funext hx.spineUp
  have htaken : MessageOnly s (noticeTaken n s) := rfl
  have hsplit : [0, 1, 2, 3].filter s.spineUp = [0, 1].filter s.spineUp ++ [2, 3].filter s.spineUp := List.filter_append [0, 1] [2, 3]
  have heq : originate s = sendNotice 1 n (sendNotice 0 n (noticeTaken n s)) := by
    unfold originate
    rw [h]
    rfl
  rw [heq, sendNotice_eq 1, hup _ (htaken.trans (sendNotice_messageOnly ..)), sendNotice_eq 0, hup _ htaken, hsplit, List.foldl_append]

theorem noticeReceived_bad {i : Nat} {b : List Byte} (hup : s.spineUp i = true) (hhalves : b.take 7 ≠ b.drop 7) :
    noticeReceived i b s = raise Src.SP_NOTICE_BAD s := by
  unfold noticeReceived
  rw [if_neg (by simp [hup]), if_pos (.inr hhalves)]

/-- The fields of a notice block (R412). -/
theorem noticeBits {v o h src st : Nat} (hv : v = 2 ^ 52 + 2 ^ 46 * o + 2 ^ 40 * h + 2 ^ 32 * src + st) (ho : o < 64) (hh : h < 63) (hsrc : src < 256)
    (hst : st < 2 ^ 32) : bits v 55 52 = 1 ∧ bits v 51 46 = o ∧ bits v 39 32 = src ∧ bits v 31 0 = st ∧ bits v 45 40 = h := by
  subst hv
  simp only [bits]
  omega

/-- A notice accepted for the first time is remembered, forwarded with one more hop, counted and reported. -/
theorem noticeReceived_first {i : Nat} {b : List Byte} {o src st h : Nat} (hup : s.spineUp i = true) (hlen : b.length = 14) (hhalves : b.take 7 = b.drop 7)
    (hv : leAt b 0 7 = 2 ^ 52 + 2 ^ 46 * o + 2 ^ 40 * h + 2 ^ 32 * src + st) (ho : o < 64) (hh : h < 63) (hsrc : src < 256) (hst : st < 2 ^ 32)
    (horigin : o ≠ s.pos) (hnew : s.spine.notices.find? (fun x => x.1 == o && x.2.1 == st) = none) :
    noticeReceived i b s = noticeReport ⟨o, src, st, h⟩ ((sendNotice (onward i) ⟨o, src, st, h + 1⟩
      { s with spine := { s.spine with notices := ((o, st, 2 ^ onward i) :: s.spine.notices).take 8 } }).inc R.SP_COUNTS.NOTICES_RX) := by
  obtain ⟨htype, horig, hsource, hstamp, hhops⟩ := noticeBits hv ho hh hsrc hst
  have hrest : s.spine.notices.filter (fun x => !(x.1 == o && x.2.1 == st)) = s.spine.notices :=
    List.filter_eq_self.2 fun x hx => by simpa [imp_iff_not_or] using List.find?_eq_none.1 hnew x hx
  have hfwd : (o != s.pos && decide (h < 63) && !bitAt 0 (onward i)) = true := by simp [horigin, hh, bitAt]
  have hdirs : Nat.lor 0 (2 ^ onward i) = 2 ^ onward i := Nat.zero_or _
  unfold noticeReceived
  rw [if_neg (by simp [hup]), if_neg (by simp [hlen, hhalves])]
  dsimp only
  rw [htype, horig, hsource, hstamp, hhops, if_neg (by decide), hnew]
  dsimp only
  rw [if_pos hfwd, hrest, hdirs]
  simp only [Option.isSome_none, Bool.false_eq_true, if_false]
  rw [if_pos hfwd]

/-- A notice that is held already may be forwarded, and is not reported again. -/
theorem noticeReceived_again {i : Nat} {b : List Byte} (hup : s.spineUp i = true) (hlen : b.length = 14) (hhalves : b.take 7 = b.drop 7)
    (htype : bits (leAt b 0 7) 55 52 = 1)
    (hold : (s.spine.notices.find? fun x => x.1 == bits (leAt b 0 7) 51 46 && x.2.1 == bits (leAt b 0 7) 31 0).isSome = true) :
    MessageOnly s (noticeReceived i b s) := by
  unfold noticeReceived
  rw [if_neg (by simp [hup]), if_neg (by simp [hlen, hhalves])]
  dsimp only
  rw [htype, if_neg (by decide), if_pos hold]
  split
  · exact (MessageOnly.spine s _).trans (sendNotice_messageOnly ..)
  · exact .spine s _

end

/-- Settles O37: what a device sends on the ring is a fold of `transmit` (`sendBoth_foldl`, `sendQueued_eq`, `originate_eq`). -/
theorem ringMessagesAndNotices : Obligations.RingMessagesAndNotices := by
  unfold Obligations.RingMessagesAndNotices
  refine ⟨?send, ?pass, ?turn, ?round, ?map, ?ownMap, ?queued, ?notice, ?bad, ?first, ?again⟩
  case send =>
    intro s hroot hstate h0 h1 hclosed
    have hkept := sendBoth_enumKept 0x45 2 0xFF (fun d => enumPayload d false ((s.spine.enumNum + 1) % 256) []) (enumStarted s)
    refine ⟨_, congrArg Host.Outcome.next (sendEnumeration_both hroot hstate h0 h1 hclosed), hkept.num, hkept.isOpen, hkept.east, hkept.west, ?_, ?_⟩
    · have hup : ∀ d, (enumStarted s).linkUp d = s.linkUp d := linkUp_of_regs rfl
      have hboth : [0, 1].filter (enumStarted s).linkUp = [0, 1] := by simp [List.filter, hup, h0, h1]
      rw [sendBoth_sent, hboth]
      exact ((SentAlike.transmit (s := s) (t := enumStarted s) ⟨rfl, rfl⟩ 0 _).transmit 1 _).1
    · exact (sendBoth_messageOnly ..).regs.trans rfl
  case pass =>
    intro s i b hroot hup hgood hlen hend hon hhops
    refine congrArg Host.Outcome.next ?_
    rw [enumeration_member hroot hup hgood hlen hend, if_pos hon, passOn_sends hon hhops]
  case turn =>
    intro s i b hroot hup hgood hlen hend hon
    refine congrArg Host.Outcome.next ?_
    rw [enumeration_member hroot hup hgood hlen hend, if_neg (by simp [hon])]
  case round =>
    intro s i b hroot hi hup hgood hlen hdir hopen hnum
    obtain ⟨m, hpresent, hcomplete, hclosed, hmap, hdone⟩ := publishMap_holds true true (((msgPayload b).drop 2).map BitVec.toNat) s
    refine ⟨_, m, congrArg Host.Outcome.next ?_, hpresent, hcomplete, hclosed, hmap, hdone⟩
    rw [enumeration_root hroot hup hgood hlen, enumReturns_round hi hdir hopen hnum]
  case map =>
    intro s i b hroot hup hgood hlen hsrc hseq hdup hclosed hon hhops
    refine ⟨_, congrArg Host.Outcome.next ((ringMap_first hup hgood hlen hsrc hseq hon hhops).trans (takeMap_quiet hdup hroot hclosed)), rfl, rfl, rfl, rfl⟩
  case ownMap =>
    intro s i b hup hgood hlen hsrc
    exact congrArg Host.Outcome.next (ringMap_own hup hgood hlen hsrc)
  case queued =>
    intro s
    refine ⟨_, congrArg Host.Outcome.next (sendQueued_eq s), ?_, ?_, ?_⟩
    · exact ((EnumKept.refl (stillWaiting s)).foldl (fun m h => h.transmit _ m.2) _).waiting
    · exact (SentAlike.foldl (g := sendRouted s) (s := s) (t := stillWaiting s) (fun m h => h.transmit _ m.2) _ ⟨rfl, rfl⟩).1
    · exact (MessageOnly.foldl (g := sendRouted s) (fun _ m => .transmit _ _ m.2) _ _).regs
  case notice =>
    intro s n h
    have hkept := (EnumKept.refl (noticeTaken n s)).foldl (g := sendPair n) (fun i h => (h.transmit _ _).transmit _ _) ([0, 1, 2, 3].filter s.spineUp)
    refine ⟨_, congrArg Host.Outcome.next (originate_eq h), hkept.notice, hkept.notices, ?_, ?_⟩
    · exact (SentAlike.foldl (g := sendPair n) (s := s) (t := noticeTaken n s) (fun i h => (h.transmit _ _).transmit _ _) _ ⟨rfl, rfl⟩).1
    · exact (MessageOnly.foldl (sendPair_messageOnly n) _ (noticeTaken n s)).regs
  case bad =>
    intro s i b hup _ hhalves
    exact congrArg Host.Outcome.next (noticeReceived_bad hup hhalves)
  case first =>
    intro s i b o src st h hup hlen hhalves hv ho hh hsrc hst horigin hnew
    exact congrArg Host.Outcome.next (noticeReceived_first hup hlen hhalves hv ho hh hsrc hst horigin hnew)
  case again =>
    intro s i b hup hlen hhalves htype hold
    exact ⟨_, rfl, noticeReceived_again hup hlen hhalves htype hold⟩

end Sys2Proof.Machine
end
section
/-!
PROOFS. Group time over the spine: the Root's messages, a Member's first message, and the measured delay of a lane (R131, R147, R424).
-/
namespace Sys2Proof.Machine

section
variable {s : State} {i : Nat}

/-! ### The Root's messages -/

/-- The payload that the Root sends in a direction. -/
def groupTimeOf (s : State) (d : Nat) : List Byte :=
  groupPayload s.groupTime 0 s.ts.taiOffset s.tq (d + 2 * b2n (match s.spine.map with | some m => m.closed | none => false)) s.utc s.ts.epoch s.ts.msgNum

theorem sendGroupTime_eq (hroot : s.isRoot = true) (hrun : s.ts.running = true) :
    sendGroupTime s = (sendBoth 0x47 1 0xFF (groupTimeOf s) s).modTs fun t => { t with msgNum := (t.msgNum + 1) % 2 ^ 32 } := by
  unfold sendGroupTime
  rw [if_pos (by simp [hroot, hrun])]
  rfl

theorem MessageOnly.ts {t : State} (h : MessageOnly s t) : t.ts = s.ts := (congrArg State.ts h.eq).trans rfl

/-! ### A Member's first message, R145 and R147 -/

/-- A Member joins with what the Root's message says: the state JOIN, the epoch, the Root's TAI_OFFSET and time quality, and the offset of its group time. -/
structure Joined (p : List Byte) (off : Int) (s t : State) : Prop where
  epoch : t.ts.groupEpoch = some (leAt p 28 4)
  tai : t.ts.taiOffset = s.ts.taiOffset
  pendingTai : t.ts.pendingTai = if leAt p 16 8 = s.ts.taiOffset then none else some (.follow (leAt p 16 8))
  quality : t.ts.rootTq = leAt p 24 1
  last : t.ts.lastGroup = s.ts.tsc
  pendingGroup : t.ts.pendingGroup = some (roundEvenInt ((off : Rat) / 128))
  state : t.tsState = 5

theorem setUtc_frame (u : Int) (s : State) : setUtc u s = { s with ts := { s.ts with utcOffset := (setUtc u s).ts.utcOffset, utcChanged := (setUtc u s).ts.utcChanged } } := by
  unfold setUtc
  split <;> rfl

/-- Joining leaves what the Root's message has set. -/
theorem joinGroup_rootTime (epoch : Nat) (off : Int) (s : State) :
    (joinGroup epoch off s).ts.taiOffset = s.ts.taiOffset ∧ (joinGroup epoch off s).ts.pendingTai = s.ts.pendingTai
      ∧ (joinGroup epoch off s).ts.rootTq = s.ts.rootTq ∧ (joinGroup epoch off s).ts.lastGroup = s.ts.lastGroup := by
  unfold joinGroup
  generalize hx : s.modTs _ = x
  have hts := setTsState_ts 5 x
  refine ⟨?_, ?_, ?_, ?_⟩
  · show (setTsState 5 x).ts.taiOffset = _
    rw [hts, ← hx]; rfl
  · show (setTsState 5 x).ts.pendingTai = _
    rw [hts, ← hx]; rfl
  · show (setTsState 5 x).ts.rootTq = _
    rw [hts, ← hx]; rfl
  · show (setTsState 5 x).ts.lastGroup = _
    rw [hts, ← hx]; rfl

/-- The first message has been read, and its group time not yet adopted. -/
def firstRead (p : List Byte) (s : State) : State :=
  ((setUtc (sext 16 (leAt p 26 2)) s).modTs fun t => { t with lastGroup := t.tsc }).modTs (takeRootTime p)

theorem firstRead_holds (p : List Byte) (s : State) :
    (firstRead p s).ts.taiOffset = s.ts.taiOffset
      ∧ (firstRead p s).ts.pendingTai = (if leAt p 16 8 = s.ts.taiOffset then none else some (.follow (leAt p 16 8)))
      ∧ (firstRead p s).ts.rootTq = leAt p 24 1 ∧ (firstRead p s).ts.lastGroup = s.ts.tsc := by
  unfold firstRead
  rw [setUtc_frame]
  exact ⟨rfl, rfl, rfl, rfl⟩

theorem memberTime_first {p : List Byte} {delay : Nat} (h : s.ts.groupEpoch = none) :
    memberTime p delay s = joinGroup (leAt p 28 4) (128 * (leAt p 0 8 : Int) + sext 64 (leAt p 8 8) + delay - 128 * (s.ts.tsc : Int)) (firstRead p s) := by
  have hepoch : (setUtc (sext 16 (leAt p 26 2)) s).ts.groupEpoch = none := by
    rw [setUtc_frame]
    exact h
  unfold memberTime
  dsimp only
  rw [show ((setUtc (sext 16 (leAt p 26 2)) s).modTs fun t => { t with lastGroup := t.tsc }).ts.groupEpoch = none from hepoch]
  rfl

theorem memberTime_joined {p : List Byte} {delay : Nat} (h : s.ts.groupEpoch = none) :
    Joined p (128 * (leAt p 0 8 : Int) + sext 64 (leAt p 8 8) + delay - 128 * (s.ts.tsc : Int)) s (memberTime p delay s) := by
  obtain ⟨htai, hpending, hquality, hlast⟩ := firstRead_holds p s
  rw [memberTime_first h]
  generalize (128 * (leAt p 0 8 : Int) + sext 64 (leAt p 8 8) + delay - 128 * (s.ts.tsc : Int)) = off
  obtain ⟨hepoch, hstate, hgroup, -⟩ := joinGroup_holds (leAt p 28 4) off (firstRead p s)
  obtain ⟨hjtai, hjpending, hjquality, hjlast⟩ := joinGroup_rootTime (leAt p 28 4) off (firstRead p s)
  exact ⟨hepoch, hjtai.trans htai, hjpending.trans hpending, hjquality.trans hquality, hjlast.trans hlast, hgroup, hstate⟩

theorem passOn_ts (i : Nat) (b payload : List Byte) (s : State) : (passOn i b payload s).ts = s.ts := by
  unfold passOn
  split <;> rfl

/-- A Member's first message is passed on, and then adopted. -/
theorem groupMessage_joined {b : List Byte} {d : Nat} (hroot : s.isRoot = false) (hup : s.spineUp i = true) (hgood : msgGood 0x47 b = true)
    (hlen : msgLen b = 36) (hdelay : s.hopDelay i = some d) (hepoch : s.ts.groupEpoch = none) :
    Joined (msgPayload b) (128 * (leAt (msgPayload b) 0 8 : Int) + sext 64 (leAt (msgPayload b) 8 8) + d - 128 * (s.ts.tsc : Int)) s (groupMessage i b s) := by
  obtain ⟨q, heq⟩ : ∃ q, groupMessage i b s = memberTime (msgPayload b) d (passOn i b q s.draw.2) := by
    refine ⟨(msgPayload b).take 8 ++ leBytes 8 (ofInt 64 (sext 64 (leAt (msgPayload b) 8 8) + d + (s.draw.1 % 2 ^ 24 : Nat))) ++ (msgPayload b).drop 16, ?_⟩
    unfold groupMessage
    rw [if_neg (by simp [hup]), if_neg (by simp [hgood, hlen])]
    dsimp only
    rw [hdelay]
    dsimp only
    rw [if_neg (by simp [hroot])]
  have hts : (passOn i b q s.draw.2).ts = s.ts := passOn_ts ..
  have hjoined := memberTime_joined (p := msgPayload b) (delay := d) (s := passOn i b q s.draw.2) (by rw [hts]; exact hepoch)
  rw [hts] at hjoined
  rw [heq]
  exact ⟨hjoined.epoch, by rw [hjoined.tai, hts], by rw [hjoined.pendingTai, hts], hjoined.quality, by rw [hjoined.last, hts], hjoined.pendingGroup, hjoined.state⟩

/-! ### The delay of a lane, R424 -/

theorem clampInt_delay (x : Int) : (clampInt 0 0xFFFFE x).toNat < 2 ^ 20 := by
  unfold clampInt
  split_ifs <;> omega

theorem sentWith_modSpl (s : State) (j : Nat) (f : SpLane → SpLane) (d : Nat) (b : List Byte) : (s.modSpl j f).sentWith d b = s.sentWith d b := rfl

theorem transmit_sent (s : State) (d : Nat) (b : List Byte) : (s.transmit d b).spine.sent = s.sentWith d b := rfl
theorem transmit_spl (s : State) (d : Nat) (b : List Byte) (j : Nat) : (s.transmit d b).spl j = s.spl j := rfl

/-- A response to the open request gives half of the round trip less the residence. -/
theorem delayReceived_response {b : List Byte} {t1 : Nat} (hup : s.spineUp i = true) (hresp : bitAt (leAt b 0 7) 55 = true) (hopen : (s.spl i).dlyAt = some t1)
    (hseq : bits (leAt b 0 7) 54 48 = (s.spl i).dlySeq) :
    delayReceived i b s = (s.modSpl i fun l => { l with dlyAt := none }).set (R.SL_DELAY.DELAY i)
      (clampInt 0 0xFFFFE ((128 * ((s.ts.tsc : Int) - t1) - bits (leAt b 0 7) 47 24) / 2)).toNat := by
  unfold delayReceived
  dsimp only
  rw [if_neg (by simp [hup]), if_pos hresp, hopen]
  exact if_pos hseq

theorem delayReceived_request {b : List Byte} (hup : s.spineUp i = true) (hreq : bitAt (leAt b 0 7) 55 = false) :
    delayReceived i b s = s.modSpl i fun l => { l with dlyReq := some (bits (leAt b 0 7) 54 48, s.ts.tsc) } := by
  unfold delayReceived
  dsimp only
  rw [if_neg (by simp [hup]), if_neg (by simp [hreq])]

theorem delayRespond_due {q u : Nat} (hup : s.spineUp i = true) (hreq : (s.spl i).dlyReq = some (q, u)) (hdue : u + 64 ≤ s.ts.tsc) :
    delayRespond i s = (s.modSpl i fun l => { l with dlyReq := none }).transmit (i / 2) (delayBlock true q (128 * (s.ts.tsc - u))) := by
  unfold delayRespond
  rw [hreq]
  exact if_pos ⟨hup, hdue⟩

end

/-- A number read as an integer. -/
theorem coe_eq_some {o : Option Nat} {x : Int} (h : (do let a ← o; pure (a : Int)) = some x) : ∃ a : Nat, o = some a ∧ (a : Int) = x := by
  obtain ⟨a, ha, hx⟩ := Option.bind_eq_some_iff.1 h
  exact ⟨a, ha, Option.some.inj hx⟩

/-- Settles O33: the Root's message is `sendBoth`, a Member's first one `joinGroup`, and the exchange three updates of one lane. -/
theorem groupTimeMessages : Obligations.GroupTimeMessages := by
  unfold Obligations.GroupTimeMessages
  refine ⟨?send, ?join, ?request, ?requested, ?response, ?respond⟩
  case send =>
    intro s hroot hrun
    refine ⟨_, groupTimeOf s, congrArg Host.Outcome.next (sendGroupTime_eq hroot hrun), ?_, fun _ => rfl, sendBoth_sent .., ?_⟩
    · exact congrArg (fun t : Ts => (t.msgNum + 1) % 2 ^ 32) (sendBoth_messageOnly 0x47 1 0xFF (groupTimeOf s) s).ts
    · exact (sendBoth_messageOnly 0x47 1 0xFF (groupTimeOf s) s).regs
  case join =>
    intro s i b d hroot hup hgood hlen hdelay hepoch
    obtain ⟨d', hd, rfl⟩ := coe_eq_some hdelay
    have h := groupMessage_joined hroot hup hgood hlen hd hepoch
    exact ⟨_, rfl, h.epoch, h.tai, h.pendingTai, h.quality, h.last, h.pendingGroup, h.state⟩
  case request =>
    intro s i hup
    refine ⟨_, congrArg Host.Outcome.next (if_pos hup), ?_, ?_, ?_, rfl⟩
    · rw [transmit_spl, State.spl_modSpl_self]
    · rw [transmit_spl, State.spl_modSpl_self]
    · rw [transmit_sent, sentWith_modSpl]
  case requested =>
    intro s i b hup hreq
    refine ⟨_, congrArg Host.Outcome.next (delayReceived_request hup hreq), ?_, rfl⟩
    rw [State.spl_modSpl_self]
  case response =>
    intro s i b t1 hup hresp hopen hseq
    obtain ⟨sent, hsent, rfl⟩ := coe_eq_some hopen
    refine ⟨_, congrArg Host.Outcome.next (delayReceived_response hup hresp hsent hseq), ?_, ?_, ?_⟩
    · rw [State.get_set_self]
      exact Nat.mod_eq_of_lt (clampInt_delay _)
    · exact congrArg SpLane.dlyAt (State.spl_modSpl_self s i _)
    · exact ((OnlyRegs.of_regs (s := s) (t := s) rfl _).modSpl i _).set _ (List.mem_singleton_self (R.SL_DELAY.DELAY i))
  case respond =>
    intro s i q u hup hreq hdue
    refine ⟨_, congrArg Host.Outcome.next (delayRespond_due hup hreq hdue), ?_, ?_, rfl⟩
    · rw [transmit_spl, State.spl_modSpl_self]
    · rw [transmit_sent, sentWith_modSpl]

end Sys2Proof.Machine
end
section
/-!
PROOFS. The commands and the link of the egress port (R381, R385).
-/
namespace Sys2Proof.Machine

section
variable {s t : State} {bs : List Byte}

/-! ### Commands, R381 -/

theorem command_accepted {code : Nat} {act : State → State} (hable : s.egressAble = true) (hgood : commandGood bs s = true) (hcode : commandCode bs = code)
    (hlow : 1 ≤ code) (hhigh : code ≤ 5) : command code bs act s = act (s.inc R.EG_COUNTS.COMMANDS) := by
  unfold command
  rw [if_neg (by simp [hable]), if_neg (by simp only [hgood, hcode, Bool.not_true, Bool.false_eq_true, false_or]; omega), if_pos hcode]

theorem command_bad {code : Nat} {act : State → State} (hable : s.egressAble = true) (hbad : commandGood bs s = false) :
    command code bs act s = raise Src.EG_CMD_BAD s := by
  unfold command
  rw [if_neg (by simp [hable]), if_pos (.inl (by simp [hbad]))]

theorem commandCounted_onlyRegs (s : State) : OnlyRegs s (s.inc R.EG_COUNTS.COMMANDS) [R.EG_COUNTS.COMMANDS] :=
  (OnlyRegs.of_regs (s := s) (t := s) rfl _).inc (List.mem_singleton_self _)

/-- A switch of transmission counts the command and sets TX_ON. -/
theorem txOn_holds {v : Nat} (hv : v < 2) (s : State) :
    ((s.inc R.EG_COUNTS.COMMANDS).set R.EG_STAT.TX_ON v).get R.EG_STAT.TX_ON = v
      ∧ ((s.inc R.EG_COUNTS.COMMANDS).set R.EG_STAT.TX_ON v).get R.EG_COUNTS.COMMANDS = min (2 ^ R.EG_COUNTS.COMMANDS.width - 1) (s.get R.EG_COUNTS.COMMANDS + 1)
      ∧ OnlyRegs s ((s.inc R.EG_COUNTS.COMMANDS).set R.EG_STAT.TX_ON v) [R.EG_STAT.TX_ON, R.EG_COUNTS.COMMANDS] := by
  refine ⟨?_, ?_, ?_⟩
  · rw [State.get_set_self]
    exact Nat.mod_eq_of_lt hv
  · rw [State.get_set_of_ne _ _ (by decide), State.get_inc_self]
  · exact ((commandCounted_onlyRegs s).mono fun _ h => List.mem_cons_of_mem _ h).set v List.mem_cons_self

/-! ### Replies, R381 -/

theorem State.ethernet_congr (hmac : t.get O.MAC = s.get O.MAC) (hvlan : t.get O.EG_VLAN = s.get O.EG_VLAN) (dst typ : Nat) (payload : List Byte) :
    t.ethernet dst typ payload = s.ethernet dst typ payload := by unfold State.ethernet; rw [hmac, hvlan]

/-- A datagram depends on the addresses and ports of the egress objects alone. -/
theorem State.udp_congr (h : OnlyRegs s t [R.EG_COUNTS.COMMANDS]) (mac ip port : Nat) (data : List Byte) : t.udp mac ip port data = s.udp mac ip port data := by
  unfold State.udp
  rw [h O.SRC_IP (by decide), h O.DSCP (by decide), h O.PORTS (by decide)]
  exact State.ethernet_congr (h O.MAC (by decide)) (h O.EG_VLAN (by decide)) ..

theorem State.cfgBody_congr (h : OnlyRegs s t [R.EG_COUNTS.COMMANDS]) (hmet : t.met = s.met) : t.cfgBody = s.cfgBody := by
  unfold State.cfgBody
  rw [hmet, h R.PMU_CFGCNT.CFGCNT (by decide), h R.PMU_CFG.RATE (by decide)]

/-- `t` is `s` but for the free values drawn. -/
def DrawnOnly (s t : State) : Prop := ∃ k, t = { s with freeCount := k }

theorem roundOpen_drawnOnly (s : State) (r : Rat) : DrawnOnly s (s.roundOpen r).2 := by
  unfold State.roundOpen
  split
  · exact ⟨s.freeCount, rfl⟩
  · exact ⟨s.freeCount + 1, rfl⟩

/-- `nowFields` named by `g`, so that the kernel compares no fractions. -/
theorem nowFields_drawnOnly_of {g : State → Nat × Nat × State} {q : Nat × Nat × State} (hg : nowFields = g) (hq : g s = q) : DrawnOnly s q.2.2 := by
  delta nowFields at hg
  subst hg
  dsimp -proj -iota only at hq
  obtain ⟨p, hp⟩ : ∃ p, s.roundOpen (mkRat (s.gridTime % ticksPerSec * 1000000) ticksPerSec) = p := ⟨_, rfl⟩
  have hr : DrawnOnly s p.2 := hp ▸ roundOpen_drawnOnly s _
  rw [hp] at hq
  subst hq
  exact hr

/-- The reading of the present time may draw a free value, and leaves everything else. -/
theorem nowFields_drawnOnly {q : Nat × Nat × State} (hq : nowFields s = q) : DrawnOnly s q.2.2 := nowFields_drawnOnly_of rfl hq

/-- The reply of a frame with the time `q` that has been read. -/
def replied (bs : List Byte) (sync : Nat) (body : State → List Byte) (q : Nat × Nat × State) : State :=
  egressSend (q.2.2.udp (beVal (bs.take 6)) (beVal ((bs.drop 6).take 4)) (beVal ((bs.drop 10).take 2)) (c37Frame sync (q.2.2.get O.IDCODE) q.1 q.2.1 (body q.2.2))) q.2.2

theorem reply_eq_of {sync : Nat} {body : State → List Byte} {g : List Byte → Nat → (State → List Byte) → State → State} (hg : reply = g)
    {q : Nat × Nat × State} (hq : nowFields s = q) : g bs sync body s = replied bs sync body q := by
  delta reply at hg
  subst hg
  dsimp -proj -iota only
  rw [hq]
  rfl

theorem reply_eq {sync : Nat} {body : State → List Byte} {q : Nat × Nat × State} (hq : nowFields s = q) : reply bs sync body s = replied bs sync body q :=
  reply_eq_of rfl hq

/-- A reply is sent to the requester, with the present time. -/
theorem command_reply {code sync : Nat} {body : State → List Byte} (hable : s.egressAble = true) (hgood : commandGood bs s = true) (hcode : commandCode bs = code)
    (hlow : 1 ≤ code) (hhigh : code ≤ 5) (hbody : ∀ x : State, OnlyRegs s x [R.EG_COUNTS.COMMANDS] → x.met = s.met → x.pw = s.pw → body x = body s) :
    ∃ t soc frac, command code bs (reply bs sync body) s = t
      ∧ t.met.egSent = s.met.egSent ++ [s.udp (beVal (bs.take 6)) (beVal ((bs.drop 6).take 4)) (beVal ((bs.drop 10).take 2))
          (c37Frame sync (s.get O.IDCODE) soc frac (body s))]
      ∧ OnlyRegs s t [R.EG_COUNTS.COMMANDS] := by
  obtain ⟨q, hq⟩ : ∃ q, nowFields (s.inc R.EG_COUNTS.COMMANDS) = q := ⟨_, rfl⟩
  obtain ⟨k, hdrawn⟩ := nowFields_drawnOnly hq
  have hregs : OnlyRegs s q.2.2 [R.EG_COUNTS.COMMANDS] := fun f hf => (State.get_of_regs (by rw [hdrawn]) f).trans (commandCounted_onlyRegs s f hf)
  have hmet : q.2.2.met = s.met := by rw [hdrawn]; rfl
  have hpw : q.2.2.pw = s.pw := by rw [hdrawn]; rfl
  refine ⟨_, q.1, q.2.1, (command_accepted hable hgood hcode hlow hhigh).trans (reply_eq hq), ?_, hregs⟩
  rw [replied, hbody q.2.2 hregs hmet hpw, hregs O.IDCODE (by decide), State.udp_congr hregs]
  exact congrArg (fun m : Met => m.egSent ++ _) hmet

/-! ### ARP and the link, R385 -/

theorem leVal_leBytes (n x : Nat) : leVal (leBytes n x) = x % 2 ^ (8 * n) := by
  induction n generalizing x with
  | zero => simp [leBytes, leVal, Nat.mod_one]
  | succ n ih =>
    have hpow : 2 ^ (8 * (n + 1)) = 256 * 2 ^ (8 * n) := by rw [Nat.mul_succ, Nat.pow_add, Nat.mul_comm]
    rw [leBytes, leVal, ih, BitVec.toNat_ofNat, hpow, Nat.mod_mul]

theorem length_beBytes (n x : Nat) : (beBytes n x).length = n := by rw [beBytes, List.length_reverse, length_leBytes]

theorem beVal_beBytes {n x : Nat} (h : x < 2 ^ (8 * n)) : beVal (beBytes n x) = x := by
  rw [beVal, beBytes, List.reverse_reverse, leVal_leBytes, Nat.mod_eq_of_lt h]

/-- An ARP request for the device's own address is answered. -/
theorem arp_answers {mac ip : Nat} (hable : s.egressAble = true) (hmac : mac < 2 ^ 48) (hsrc : s.get O.SRC_IP < 2 ^ 32) :
    arp (beBytes 8 0x0001080006040001 ++ beBytes 6 mac ++ beBytes 4 ip ++ beBytes 6 0 ++ beBytes 4 (s.get O.SRC_IP)) s
      = egressSend (s.ethernet mac 0x806 (beBytes 8 0x0001080006040002 ++ beBytes 6 (s.get O.MAC) ++ beBytes 4 (s.get O.SRC_IP) ++ (beBytes 6 mac ++ beBytes 4 ip))) s := by
  generalize hip : s.get O.SRC_IP = src at hsrc
  obtain ⟨b, hb⟩ : ∃ b, b = beBytes 8 0x0001080006040001 ++ beBytes 6 mac ++ beBytes 4 ip ++ beBytes 6 0 ++ beBytes 4 src := ⟨_, rfl⟩
  have hlen : b.length = 28 := by rw [hb]; simp [length_beBytes]
  have hhead : b.take 8 = beBytes 8 0x0001080006040001 := by
    rw [hb, List.append_assoc, List.append_assoc, List.append_assoc]
    exact List.take_left' (length_beBytes ..)
  have hlast : b.drop 24 = beBytes 4 src := by
    rw [hb]
    exact List.drop_left' (by simp [length_beBytes])
  have hwho : (b.drop 8).take 10 = beBytes 6 mac ++ beBytes 4 ip := by
    rw [hb, List.append_assoc, List.append_assoc, List.append_assoc, List.drop_left' (length_beBytes ..), ← List.append_assoc]
    exact List.take_left' (by simp [length_beBytes])
  have hmac' : beVal ((beBytes 6 mac ++ beBytes 4 ip).take 6) = mac := by rw [List.take_left' (length_beBytes ..), beVal_beBytes hmac]
  have hmatch : s.egressAble = true ∧ b.length = 28 ∧ beVal (b.take 8) = 0x0001080006040001 ∧ beVal (b.drop 24) = s.get O.SRC_IP :=
    ⟨hable, hlen, by rw [hhead, beVal_beBytes (by decide)], by rw [hlast, beVal_beBytes hsrc, hip]⟩
  rw [← hb]
  unfold arp
  rw [if_pos hmatch]
  dsimp only
  rw [hwho, hmac', hip]

end

/-- Settles O29: a good command is counted and acted on (`command_accepted`), and its reply is sent with the present time (`command_reply`). -/
theorem egressCommands : Obligations.EgressCommands := by
  unfold Obligations.EgressCommands
  refine ⟨?off, ?on, ?header, ?cfg1, ?cfg2, ?bad, ?arp, ?up, ?down⟩
  case off =>
    intro s bs hable hgood hcode
    obtain ⟨hoff, hcount, honly⟩ := txOn_holds (v := 0) (by decide) s
    exact ⟨_, congrArg Host.Outcome.next (command_accepted hable hgood hcode (by decide) (by decide)), hoff, hcount, honly, rfl⟩
  case on =>
    intro s bs hable hgood hcode
    obtain ⟨hon, -, honly⟩ := txOn_holds (v := 1) (by decide) s
    exact ⟨_, congrArg Host.Outcome.next (command_accepted hable hgood hcode (by decide) (by decide)), hon, honly, rfl⟩
  case header =>
    intro s bs hable hgood hcode
    obtain ⟨t, soc, frac, heq, h⟩ := command_reply (sync := 0xAA12) (body := fun s => headerText s.pos) hable hgood hcode (by decide) (by decide)
      fun x _ _ hpw => by rw [State.pos, hpw, State.pos]
    exact ⟨t, soc, frac, congrArg Host.Outcome.next heq, h⟩
  case cfg1 =>
    intro s bs hable hgood hcode
    obtain ⟨t, soc, frac, heq, h⟩ := command_reply (sync := 0xAA22) (body := State.cfgBody) hable hgood hcode (by decide) (by decide)
      fun x hx hmet _ => State.cfgBody_congr hx hmet
    exact ⟨t, soc, frac, congrArg Host.Outcome.next heq, h⟩
  case cfg2 =>
    intro s bs hable hgood hcode
    obtain ⟨t, soc, frac, heq, h⟩ := command_reply (sync := 0xAA32) (body := State.cfgBody) hable hgood hcode (by decide) (by decide)
      fun x hx hmet _ => State.cfgBody_congr hx hmet
    exact ⟨t, soc, frac, congrArg Host.Outcome.next heq, h⟩
  case bad =>
    intro s bs hable hbad
    exact ⟨congrArg Host.Outcome.next (command_bad hable hbad), congrArg Host.Outcome.next (command_bad hable hbad)⟩
  case arp =>
    intro s mac ip hable hmac _ hsrc
    exact ⟨_, congrArg Host.Outcome.next (arp_answers hable hmac hsrc), rfl, rfl⟩
  case up =>
    intro s hstate hspread
    refine ⟨(s.set R.EG_STAT.LINK_UP 1).set R.EG_STAT.AN_DONE (s.get O.AUTO_NEG), congrArg Host.Outcome.next (if_pos ⟨hstate, by simp [hspread]⟩), ?_, ?_, rfl, ?_⟩
    · rw [State.get_set_of_ne _ _ (by decide), State.get_set_self]
      rfl
    · rw [State.get_set_self]
      exact Nat.mod_eq_of_lt (s.get_lt O.AUTO_NEG)
    · exact ((OnlyRegs.of_regs (s := s) (t := s) rfl _).set 1 List.mem_cons_self).set _ (by simp)
  case down =>
    intro s hup
    exact congrArg Host.Outcome.next (if_pos hup)

end Sys2Proof.Machine
end
section
/-!
PROOFS. The wavefront unit: alignment, onsets and events, records, and the raw capture (R391 to R406).
-/
namespace Sys2Proof.Machine

section
variable {s t : State}

theorem DrawnOnly.trans {u : State} (h : DrawnOnly s t) (k : DrawnOnly t u) : DrawnOnly s u := by
  obtain ⟨j, rfl⟩ := h
  obtain ⟨l, rfl⟩ := k
  exact ⟨l, rfl⟩

theorem OnlyRegs.modWf {l : List Fld} (h : OnlyRegs s t l) (f : Wf → Wf) : OnlyRegs s (t.modWf f) l := h

/-! ### Alignment, R391 -/

theorem wfSettled_aligning (h : s.wf.aligning ≠ 0) : wfSettled s = s := if_neg h

theorem wfSettled_idle (h : s.wf.aligning = 0) (hev : s.wf.ev = none) : wfSettled s = s.set R.WF_STAT.STATE 2 := by
  rw [wfSettled, if_pos h, hev]
  rfl

/-- An alignment of every enabled channel has started. -/
def alignStarted (s : State) : State :=
  ((s.set R.WF_STAT.ALIGNED 0).set R.WF_STAT.STATE 1).modWf fun w => { w with alignAt := s.ts.tsc, aligning := 7 * b2n (s.setEn 0) + 56 * b2n (s.setEn 1) }

theorem wfStart_starts (hable : s.wfAble = true) (hset : s.setEn 0 = true) : wfStart s = alignStarted s := by
  have hkept : ∀ i, ((s.set R.WF_STAT.ALIGNED 0).set R.WF_STAT.STATE 1).setEn i = s.setEn i := by
    intro i
    rw [State.setEn, State.setEn]
    split <;> rw [State.bit_set_of_ne _ _ (by decide), State.bit_set_of_ne _ _ (by decide)]
  have hne : (alignStarted s).wf.aligning ≠ 0 := by
    show 7 * b2n (s.setEn 0) + 56 * b2n (s.setEn 1) ≠ 0
    rw [hset]
    exact Nat.ne_of_gt (Nat.add_pos_left (by decide) _)
  unfold wfStart
  rw [if_pos hable]
  dsimp only
  rw [hkept, hkept]
  exact wfSettled_aligning hne

/-- The last channel has aligned. -/
def lastAligned (c : Nat) (s : State) : State :=
  ((s.modWf fun w => { w with aligning := setBitAt w.aligning c false }).set R.WF_STAT.ALIGNED (setBitAt (s.get R.WF_STAT.ALIGNED) c true)).set R.WF_STAT.STATE 2

theorem setBitAt_pow_false (c : Nat) : setBitAt (2 ^ c) c false = 0 := by
  have hbit : bitAt (2 ^ c) c = true := by simp [bitAt, Nat.div_self (Nat.two_pow_pos c)]
  simp [setBitAt, hbit]

theorem bitAt_pow (c : Nat) : bitAt (2 ^ c) c = true := by simp [bitAt, Nat.div_self (Nat.two_pow_pos c)]

theorem wfAligned_last {c : Nat} (hstate : s.get R.WF_STAT.STATE = 1) (hlast : s.wf.aligning = 2 ^ c) (hev : s.wf.ev = none) :
    wfAligned c true s = lastAligned c s := by
  unfold wfAligned
  rw [if_pos ⟨hstate, by rw [hlast]; exact bitAt_pow c⟩]
  exact wfSettled_idle (by show setBitAt s.wf.aligning c false = 0; rw [hlast]; exact setBitAt_pow_false c) hev

/-- A bit below the width of a field is read back. -/
theorem bitAt_mod_two_pow {x c w : Nat} (h : c < w) : bitAt (x % 2 ^ w) c = bitAt x c := by
  rw [bitAt_eq_testBit, bitAt_eq_testBit, Nat.testBit_mod_two_pow]
  simp [h]

theorem lastAligned_aligned {c : Nat} (hc : c < 6) (s : State) : bitAt ((lastAligned c s).get R.WF_STAT.ALIGNED) c = true := by
  rw [lastAligned, State.get_set_of_ne _ _ (by decide), State.get_set_self]
  exact (bitAt_mod_two_pow (w := 6) hc).trans (bitAt_setBitAt_true ..)

/-! ### Crossings, R393 to R397 -/

theorem drawBelow_drawnOnly (s : State) (n : Nat) : DrawnOnly s (s.drawBelow n).2 := ⟨s.freeCount + 1, rfl⟩

theorem sampleAt_drawnOnly (s : State) (a : Nat) : DrawnOnly s (s.sampleAt a).2 := by
  unfold State.sampleAt
  generalize mkRat (5 * s.get R.CLK_PHASE_T.PHASE) 8 = r
  have h := roundOpen_drawnOnly s r
  generalize s.roundOpen r = p at h
  dsimp only
  split
  · exact h.trans (drawBelow_drawnOnly p.2 241)
  · exact h

theorem DrawnOnly.ts (h : DrawnOnly s t) : t.ts = s.ts := by
  obtain ⟨k, rfl⟩ := h
  rfl

theorem DrawnOnly.wf (h : DrawnOnly s t) : t.wf = s.wf := by
  obtain ⟨k, rfl⟩ := h
  rfl

theorem DrawnOnly.blanking (h : DrawnOnly s t) (x : Int) : t.blanking x = s.blanking x := by
  obtain ⟨k, rfl⟩ := h
  rfl

theorem DrawnOnly.detects (h : DrawnOnly s t) (d : Nat) : t.detects d = s.detects d := by
  obtain ⟨k, rfl⟩ := h
  rfl

theorem DrawnOnly.yAt (h : DrawnOnly s t) (d : Nat) (w : Codes) (j : Nat) : t.yAt d w j = s.yAt d w j := by
  obtain ⟨k, rfl⟩ := h
  rfl

theorem DrawnOnly.get (h : DrawnOnly s t) (f : Fld) : t.get f = s.get f := by
  obtain ⟨k, rfl⟩ := h
  rfl

/-- Codes that are in range raise nothing. -/
theorem overrange_none {d : Nat} {w : Codes} (h : w.all (fun c => !overCode c.1 && !overCode c.2.1 && !overCode c.2.2) = true) : overrange d w s = s := by
  have hany : w.any (fun x => overCode x.1 || overCode x.2.1 || overCode x.2.2) = false := by
    simp only [List.all_eq_true, Bool.and_eq_true, Bool.not_eq_true'] at h
    simp only [List.any_eq_false, Bool.or_eq_true, not_or, Bool.not_eq_true]
    exact fun x hx => ⟨⟨(h x hx).1.1, (h x hx).1.2⟩, (h x hx).2⟩
  unfold overrange
  rw [if_neg (by simp [hany])]

/-- The first onset of an event has been recorded, and its detector is disarmed. -/
def onsetRecorded (d : Nat) (at80 c80 : Int) (o : Onset) (s : State) : State :=
  (openEvent at80 c80 o.time s).modWf fun w => { w with ev := w.ev.map (addOnset d at80 o), disarmed := setBitAt w.disarmed d true }

/-- The event that a first onset opens. -/
def firstEvent (d : Nat) (at80 : Int) (o : Onset) (s : State) : WfEvent :=
  addOnset d at80 o { num := (s.wf.num + 1) % 2 ^ 32, at80 := at80, t1 := o.time, ofs := s.ts.groupOffset, tai := s.ts.taiOffset, tq := s.tq, opsec := s.opsec }

theorem onsetRecorded_ev (d : Nat) (at80 c80 : Int) (o : Onset) (s : State) : (onsetRecorded d at80 c80 o s).wf.ev = some (firstEvent d at80 o s) := rfl

theorem firstEvent_t1 (d : Nat) (at80 : Int) (o : Onset) (s : State) : (firstEvent d at80 o s).t1 = o.time := by
  simp [firstEvent, addOnset]

theorem firstEvent_count (d : Nat) (at80 : Int) (o : Onset) (s : State) : Tab.get 0 (firstEvent d at80 o s).counts d = 1 := Tab.get_set_self 0 [] d 1

theorem firstEvent_onsets (d : Nat) (at80 : Int) (o : Onset) (s : State) : Tab.get [] (firstEvent d at80 o s).onsets d = [o] := Tab.get_set_self [] [] d [o]

/-- A first crossing that is not blanked opens an event with the time of its onset. -/
theorem crossing_first {d a : Nat} {w : Codes} {x : Int} (hdetects : s.detects d = true) (hev : s.wf.ev = none)
    (hthr : val32 (s.get (R.WF_THR d)) ≤ absRat (s.yAt d w 0)) (hcodes : w.all (fun c => !overCode c.1 && !overCode c.2.1 && !overCode c.2.2) = true)
    (hx : x = if Config.delayAdds then (s.sampleAt a).1 + 5 * sext 16 (s.get (R.WF_CAL.DELAY (d / 3)))
      else (s.sampleAt a).1 - 5 * sext 16 (s.get (R.WF_CAL.DELAY (d / 3))))
    (hblank : s.blanking (x / 80 + s.ts.groupOffset) = 0) :
    ∃ c80 o y, DrawnOnly s y ∧ crossing d a w s = onsetRecorded d a c80 o y
      ∧ o.time = (onsetTime x (s.yAt d w 0) (s.yAt d w 1) (s.get R.WF_CTRL.DIFF)).1 := by
  have hdrawn := sampleAt_drawnOnly s a
  unfold crossing
  rw [overrange_none hcodes]
  dsimp only
  generalize s.sampleAt a = p at hx hdrawn ⊢
  obtain ⟨c80, y⟩ := p
  dsimp only at hx hdrawn ⊢
  subst hx
  have hy : y.detects d = true := hdrawn.detects d ▸ hdetects
  have hround : ∀ r, DrawnOnly s (y.roundOpen r).2 := fun r => hdrawn.trans (roundOpen_drawnOnly y r)
  have hnone : ∀ r, (y.roundOpen r).2.wf.ev.isNone = true := fun r => by rw [(hround r).wf, hev]; rfl
  have hopen : ¬ (0 : Nat) = 2 := by decide
  simp only [hdrawn.ts, hdrawn.blanking, hblank, hy, hthr, hnone, hopen, hdrawn.yAt, hdrawn.get, ne_eq, not_false_eq_true, and_self, if_true]
  exact ⟨c80, _, _, hround _, rfl, rfl⟩

theorem onsetRecorded_onlyRegs (d : Nat) (at80 c80 : Int) (o : Onset) (s : State) :
    OnlyRegs s (onsetRecorded d at80 c80 o s) [R.WF_STAT.EVENT_LO, R.WF_STAT.STATE] :=
  ((((OnlyRegs.of_regs (s := s) (t := s) rfl _).set _ (by simp)).set 3 (by simp)).modWf _).modWf _

theorem onsetRecorded_state (d : Nat) (at80 c80 : Int) (o : Onset) (s : State) : (onsetRecorded d at80 c80 o s).get R.WF_STAT.STATE = 3 :=
  State.get_set_self _ R.WF_STAT.STATE 3

theorem onsetRecorded_disarmed (d : Nat) (at80 c80 : Int) (o : Onset) (s : State) : bitAt (onsetRecorded d at80 c80 o s).wf.disarmed d = true :=
  bitAt_setBitAt_true s.wf.disarmed d

/-! ### Records, R398 to R400 -/

theorem Reported.wf (h : Reported s t) : t.wf = s.wf := h.field State.wf fun _ => rfl

theorem length_onsetBytes (t1 : Int) (o : Onset) : (onsetBytes t1 o).length = 8 := by simp [onsetBytes, length_leBytes]

theorem length_flatMap_const {α β : Type} {f : α → List β} {k : Nat} (h : ∀ a, (f a).length = k) (l : List α) : (l.flatMap f).length = k * l.length := by
  induction l with
  | nil => rfl
  | cons a l ih => rw [List.flatMap_cons, List.length_append, h, ih, List.length_cons, Nat.mul_succ, Nat.add_comm]

/-- A record has 512 bytes. -/
theorem length_wfRecord (s : State) (e : WfEvent) (flags x xalt xg dt : Nat) : (s.wfRecord e flags x xalt xg dt).length = 512 := by
  unfold State.wfRecord
  extract_lets entry b
  have hentry : ∀ d i, (entry d i).length = 8 := by
    intro d i
    show (match (Tab.get [] e.onsets d)[i]? with | some o => onsetBytes e.t1 o | none => leBytes 8 0).length = 8
    split
    · exact length_onsetBytes ..
    · exact length_leBytes ..
  have hcounts : ((List.range 6).flatMap fun d => leBytes 1 (Tab.get 0 e.counts d)).length = 6 := length_flatMap_const (fun _ => length_leBytes ..) _
  have hentries : ((List.range 48).flatMap fun j => entry (j / 8) (j % 8)).length = 8 * 48 := by
    rw [length_flatMap_const (fun _ => hentry ..), List.length_range]
  simp only [b, List.length_append, length_leBytes, hcounts, hentries]

theorem take_wfRecord (s : State) (e : WfEvent) (flags x xalt xg dt : Nat) : (s.wfRecord e flags x xalt xg dt).take 4 = leBytes 4 e.num := by
  unfold State.wfRecord
  simp only [List.append_assoc]
  exact List.take_left' (length_leBytes ..)

/-- A record has joined the newest 16. -/
def recordKept (e : WfEvent) (rest : List WfEvent) (r : List Byte) (s : State) : State :=
  s.modWf fun w => { w with closed := rest, records := ((e.num, ofInt 64 (e.t1 + e.ofs), r) :: w.records).take 16 }

/-- The oldest closed event gets its record, and what is reported leaves it. -/
theorem completeRecord_keeps {e : WfEvent} {rest : List WfEvent} (h : s.wf.closed = e :: rest) :
    ∃ y flags x xalt xg dt, DrawnOnly s y ∧ Reported (recordKept e rest (y.wfRecord e flags x xalt xg dt) y) (completeRecord s) := by
  unfold completeRecord
  rw [h]
  have hdrawn := ((drawBelow_drawnOnly s (2 ^ 32)).trans (drawBelow_drawnOnly _ (2 ^ 32))).trans (drawBelow_drawnOnly _ (2 ^ 32))
  exact ⟨_, _, _, _, _, _, hdrawn, ((raiseAll_reported ..).trans (post_reported ..)).trans (report_reported ..)⟩

theorem selectRecordWf_held {v : Nat} {r : Nat × Nat × List Byte} (h : s.wf.records.find? (fun r => r.1 == v) = some r) :
    selectRecordWf v s = (s.set O.WF_SELECT v).modWf fun w => { w with selected := r.2.2 } := by
  unfold selectRecordWf
  rw [h]

theorem selectRecordWf_missing {v : Nat} (h : s.wf.records.find? (fun r => r.1 == v) = none) : selectRecordWf v s = raise Src.WF_SETTING_REFUSED s := by
  unfold selectRecordWf
  rw [h]
  rfl

/-! ### The raw capture, R404 -/

/-- Recording has started. -/
def captureArmed (s : State) : State :=
  (((s.set R.WF_CAPSTAT.BUSY 1).set R.WF_CAPSTAT.DONE 0).set R.WF_CAPSTAT.COUNT 0).modWf fun w => { w with capNum := w.capNum + 1, armedAt := s.now80, capTrig := none }

theorem wfArm_arms (hlost : s.captureLost = false) (hvio : bitAt s.pw.vio 3 = false) : wfArm s = captureArmed s := by
  unfold wfArm
  rw [if_neg (by simp [hlost]), if_neg (by simp [hvio])]
  rfl

theorem wfArm_refused (hlost : s.captureLost = true) : wfArm s = raise Src.WF_SETTING_REFUSED s := if_pos hlost

theorem wfHold_sets (n : Nat) (x : Int) (s : State) :
    OnlySets s (wfHold n x s) [R.WF_CAPSTAT.BUSY, R.WF_CAPSTAT.COUNT, R.WF_CAPTSC_LO, R.WF_CAPTSC_HI] :=
  ⟨rfl, ((((OnlyRegs.of_regs (s := s) (t := s) rfl _).set 0 (by simp)).set n (by simp)).set _ (by simp)).set _ (by simp)⟩

theorem wfHold_busy (n : Nat) (x : Int) (s : State) : (wfHold n x s).get R.WF_CAPSTAT.BUSY = 0 := by
  rw [wfHold, State.set64, State.get_set_of_ne _ _ (by decide), State.get_set_of_ne _ _ (by decide), State.get_set_of_ne _ _ (by decide), State.get_set_self]
  rfl

theorem wfHold_count {n : Nat} (hn : n < 2 ^ 17) (x : Int) (s : State) : (wfHold n x s).get R.WF_CAPSTAT.COUNT = n := by
  rw [wfHold, State.set64, State.get_set_of_ne _ _ (by decide), State.get_set_of_ne _ _ (by decide), State.get_set_self]
  exact Nat.mod_eq_of_lt hn

/-- STOP before an event keeps what was recorded since ARM. -/
theorem wfStopCapture_untriggered (hbusy : s.bit R.WF_CAPSTAT.BUSY = true) (htrig : s.wf.capTrig = none) :
    ∃ x, wfStopCapture s = wfHold (min 65536 ((80 * (s.ts.tsc : Int) - s.wf.armedAt) / 1024).toNat) x s := by
  unfold wfStopCapture
  rw [if_pos hbusy, htrig]
  exact ⟨_, rfl⟩

theorem wfCaptured_triggered {x : Int} (hbusy : s.bit R.WF_CAPSTAT.BUSY = true) (htrig : s.wf.capTrig = some x) :
    ∃ n y, wfCaptured s = (wfHold n y s).set R.WF_CAPSTAT.DONE 1 := by
  unfold wfCaptured
  rw [htrig]
  exact ⟨_, _, if_pos hbusy⟩

end

theorem exec_eventWindowClose {s : State} {e : WfEvent} (hev : s.wf.ev = some e) (hstate : s.get R.WF_STAT.STATE = 3) :
    exec .eventWindowClose s = .next ((s.modWf fun w => { w with ev := none, closed := w.closed ++ [e] }).set R.WF_STAT.STATE 2) := by
  refine congrArg Host.Outcome.next ?_
  rw [hev]
  exact if_pos hstate

/-- Settles O30: each command of the wavefront unit by its named update; the crossing that opens an event is `crossing_first`. -/
theorem wavefrontEventsAndRecords : Obligations.WavefrontEventsAndRecords := by
  unfold Obligations.WavefrontEventsAndRecords
  refine ⟨?align, ?aligned, ?crossing, ?rearm, ?close, ?record, ?select, ?missing, ?armRefused, ?arm, ?stop, ?done, ?read⟩
  case align =>
    intro s hable hset
    refine ⟨_, congrArg Host.Outcome.next (wfStart_starts hable hset), ?_, State.get_set_self _ R.WF_STAT.STATE 1, ?_, ?_⟩
    · rw [alignStarted, State.modWf_get, State.get_set_of_ne _ _ (by decide), State.get_set_self]
      rfl
    · show 7 * b2n (s.setEn 0) + 56 * b2n (s.setEn 1) = _
      rw [hset]
      rfl
    · exact (((OnlyRegs.of_regs (s := s) (t := s) rfl _).set 0 (by simp)).set 1 (by simp)).modWf _
  case aligned =>
    intro s c hstate hlast hev
    refine ⟨_, congrArg Host.Outcome.next (wfAligned_last hstate hlast hev), State.get_set_self _ R.WF_STAT.STATE 2, lastAligned_aligned c.isLt s, ?_, ?_⟩
    · show setBitAt s.wf.aligning c false = 0
      rw [hlast]
      exact setBitAt_pow_false c
    · exact (((OnlyRegs.of_regs (s := s) (t := s) rfl _).modWf _).set _ (by simp)).set 2 (by simp)
  case crossing =>
    intro s d a w x hdetects hev hthr hcodes hx hblank
    obtain ⟨c80, o, y, ⟨k, hy⟩, heq, htime⟩ := crossing_first hdetects hev hthr hcodes hx hblank
    subst hy
    refine ⟨_, _, congrArg Host.Outcome.next heq, onsetRecorded_ev .., rfl, (firstEvent_t1 ..).trans htime, firstEvent_count .., ?_, rfl, rfl,
      onsetRecorded_state .., onsetRecorded_disarmed .., onsetRecorded_onlyRegs d a c80 o _⟩
    rw [firstEvent_onsets]
    rfl
  case rearm =>
    intro s d
    exact ⟨_, rfl, bitAt_setBitAt_false s.wf.disarmed d, rfl⟩
  case close =>
    intro s e hev hstate
    exact ⟨_, exec_eventWindowClose hev hstate, rfl, rfl, State.get_set_self _ R.WF_STAT.STATE 2,
      ((OnlyRegs.of_regs (s := s) (t := s) rfl _).modWf _).set 2 (List.mem_singleton_self _)⟩
  case record =>
    intro s e rest hclosed
    obtain ⟨y, flags, x, xalt, xg, dt, hdrawn, hreported⟩ := completeRecord_keeps hclosed
    refine ⟨_, y.wfRecord e flags x xalt xg dt, rfl, ?_, ?_, length_wfRecord .., take_wfRecord ..⟩
    · exact congrArg Wf.closed hreported.wf
    · have hrecords := congrArg Wf.records hreported.wf
      rw [hrecords, ← hdrawn.wf]
      rfl
  case select =>
    intro s v r hfind hv
    refine ⟨_, congrArg Host.Outcome.next (selectRecordWf_held hfind), rfl, ?_, ?_⟩
    · exact (State.get_set_self s O.WF_SELECT v).trans (Nat.mod_eq_of_lt hv)
    · exact ((OnlyRegs.of_regs (s := s) (t := s) rfl _).set v (List.mem_singleton_self O.WF_SELECT)).modWf _
  case missing =>
    intro s v hfind
    exact congrArg Host.Outcome.next (selectRecordWf_missing hfind)
  case armRefused =>
    intro s hlost
    exact congrArg Host.Outcome.next (wfArm_refused hlost)
  case arm =>
    intro s hlost hvio
    refine ⟨_, congrArg Host.Outcome.next (wfArm_arms hlost hvio), ?_, ?_, State.get_set_self _ R.WF_CAPSTAT.COUNT 0, rfl, rfl, ?_⟩
    · rw [captureArmed, State.modWf_get, State.get_set_of_ne _ _ (by decide), State.get_set_of_ne _ _ (by decide), State.get_set_self]
      rfl
    · rw [captureArmed, State.modWf_get, State.get_set_of_ne _ _ (by decide), State.get_set_self]
      rfl
    · exact ((((OnlyRegs.of_regs (s := s) (t := s) rfl _).set 1 (by simp)).set 0 (by simp)).set 0 (by simp)).modWf _
  case stop =>
    intro s hbusy htrig
    obtain ⟨x, heq⟩ := wfStopCapture_untriggered hbusy htrig
    have hsets := wfHold_sets (min 65536 ((80 * (s.ts.tsc : Int) - s.wf.armedAt) / 1024).toNat) x s
    exact ⟨_, congrArg Host.Outcome.next heq, wfHold_busy .., wfHold_count (by omega) .., hsets.2 R.WF_CAPSTAT.DONE (by decide), hsets⟩
  case done =>
    intro s x hbusy htrig
    obtain ⟨n, y, heq⟩ := wfCaptured_triggered hbusy htrig
    obtain ⟨hframe, honly⟩ := wfHold_sets n y s
    refine ⟨_, congrArg Host.Outcome.next heq, ?_, State.get_set_self _ R.WF_CAPSTAT.DONE 1, ?_, ?_⟩
    · exact (State.get_set_of_ne _ _ (by decide)).trans (wfHold_busy n y s)
    · exact congrArg (fun z : State => { z with regs := ((wfHold n y s).set R.WF_CAPSTAT.DONE 1).regs }) hframe
    · refine (honly.mono fun f hf => ?_).set 1 (by simp)
      simp only [List.mem_cons] at hf ⊢
      tauto
  case read =>
    intro s
    exact ⟨_, rfl, State.get_incWrap_self s R.WF_CADDR.INDEX, (OnlyRegs.of_regs (s := s) (t := s) rfl _).set _ (List.mem_singleton_self R.WF_CADDR.INDEX), rfl⟩

end Sys2Proof.Machine
end
section
/-!
PROOFS. Samples and reports (R384): the report instant of a Root that only gathers the blocks of Members.
-/
namespace Sys2Proof.Machine

/-- A Root in Run whose phasor path runs (PH_STATE 1) with PH_EN clear, its window filled and a block of CFG-2 built: PH_STATE is a register of its own, which no
hypothesis of the statement ties to PH_EN. -/
def gathersWhileFilling : State :=
  { State.reset.set R.MET_STAT.PH_STATE 1 with pw := { state := .run }, met := { first := some 0, built := [(1, [])] }, ts := { tsc := 1024000000, taiValid := true } }

theorem exec_phasorReport (a : Applied) (s : State) : exec (.phasorReport a) s = .next (reportInstant a s) := rfl

/-- The report of a Root that only gathers has the time alone, and leaves PH_STATE. -/
theorem reportInstant_gathersWhileFilling : (reportInstant {} gathersWhileFilling).get R.MET_STAT.PH_STATE = 1 := by decide +kernel

/-- Refutes O28: the clause of the report has every instant with a full window enter PH_STATE 2, but the instant of a Root that only gathers (PH_EN clear, blocks
built) is a report of the time alone, which leaves PH_STATE 1 as it was (`gathersWhileFilling`; the clause has no hypothesis on PH_EN, from
which `phasorStart` sets PH_STATE). -/
theorem not_samplesAndReports : ¬ Obligations.SamplesAndReports := by
  unfold Obligations.SamplesAndReports
  rintro ⟨-, -, -, hreport, -⟩
  obtain ⟨t, -, -, hexec, -, -, -, -, -, -, hstate, -⟩ :=
    hreport gathersWhileFilling {} 0 (by decide +kernel) (by decide +kernel) rfl (by decide +kernel) rfl (by decide +kernel)
  obtain rfl : reportInstant {} gathersWhileFilling = t := Host.Outcome.next.inj ((exec_phasorReport {} gathersWhileFilling).symm.trans hexec)
  have hfilling := reportInstant_gathersWhileFilling.symm.trans hstate
  exact absurd hfilling (by decide)

end Sys2Proof.Machine
end
